-- ==== Sys2Proof/Word.lean ====
section
/-! DEFINITION. The word types of the LMT-8800 model (R5, R6, R8). -/

namespace Sys2Proof

/-- One byte. -/
abbrev Byte := BitVec 8

/-- One 32-bit register or descriptor word (R8, R208). -/
abbrev Word := BitVec 32

end Sys2Proof
end

