-- ==== Sys2Proof/Syntax.lean ====
section
/-! DEFINITION. The commands: one constructor of `Instr` for each row of the operation table. -/

namespace Sys2Proof

/-! ### Operand types -/

/-- Mirror policy of a cask (R71, MIRROR). -/
inductive Mirror where
  | syncRequired | syncPreferred | locally
  deriving DecidableEq, Repr

/-- Placement class of a cask (R71, PLACE; R89). -/
inductive Place where
  | pinDram | preferDram | cellarOk | streamed
  deriving DecidableEq, Repr

/-- A cask-table entry whose VALID is 1 (R71). -/
structure CaskEntry where
  place     : Place
  mirror    : Mirror
  rpri      : Nat
  grantable : Bool
  atom      : Bool
  wr        : Bool
  rd        : Bool
  owner     : Nat
  pdom      : Nat
  lookahead : Nat
  mkey      : Nat
  size      : Nat          -- SIZE_RACKS
  rtPtr     : Nat          -- RT_PTR, DRAM address bits [44:12]
  tag       : Nat
  deriving DecidableEq, Repr

inductive GrantState where
  | free | live | quarantine
  deriving DecidableEq, Repr

/-- A grant-table entry (R81). `revokeUs` is the word that DW4 holds in QUARANTINE. -/
structure GrantEntry where
  state    : GrantState
  gcmReq   : Bool
  atom     : Bool
  wr       : Bool
  rd       : Bool
  pdtOk    : Bool
  roceOk   : Bool
  bind     : Nat
  owner    : Nat
  gen      : Nat
  cask     : Nat
  gcmSlot  : Nat
  bindId   : Nat
  base     : Nat
  len      : Nat
  revokeUs : Nat
  deriving DecidableEq, Repr

/-- A grant slot as it stands at device initialisation and after a format (R82): FREE with GEN 0. -/
def GrantEntry.blank : GrantEntry :=
  { state := .free, gcmReq := false, atom := false, wr := false, rd := false, pdtOk := false, roceOk := false,
    bind := 0, owner := 0, gen := 0, cask := 0, gcmSlot := 0, bindId := 0, base := 0, len := 0, revokeUs := 0 }

/-- A metadata record of a vintage (KINDs 0x10, 0x11, 0x21 and 0x22 of R177; R58, R69, R217). -/
inductive MetaOp where
  | caskCreate (id : Nat) (e : CaskEntry)
  | caskModify (id : Nat) (e : CaskEntry) (mask : Nat)
  | caskDelete (id : Nat)
  | grantIssue (slot : Nat) (g : GrantEntry)
  | grantRevoke (slot : Nat) (gen : Nat)
  | epochRec (epoch base : Nat)
  | caskImage (id : Nat) (e : Option CaskEntry)
  | grantImage (slot : Nat) (g : GrantEntry)
  deriving DecidableEq, Repr

/-- A record of a vintage image as it crosses a link (R177): what it leaves at the bytes it covers. -/
structure WireRec where
  cask   : Nat
  off    : Nat
  len    : Nat
  bytes  : List Byte       -- the payload; empty for a zero fill or a metadata record
  zero   : Bool            -- KIND 0x02: a zero fill; a whole rack it covers becomes unwritten (R76)
  policy : Mirror
  metaOp : Option MetaOp
  resync : Bool            -- KIND 0x20 to 0x22
  atomic : Bool := false   -- KIND 0x03: the result of an atomic
  deriving DecidableEq, Repr

/-- An Ethernet frame as an interface receives it (R246, R247). `group`: its destination MAC address is broadcast or an
IPv6 multicast address of neighbour discovery. `tag`: VID and PCP. `ip`: 4, 6, or 0 for another EtherType. `plain`: no
fragment, option or extension header, and a good header checksum. `bth`: the opcode of a RoCEv2 or PDT packet, and `dest` the QPN or endpoint that
it names. `icmp`: ICMP or ICMPv6. `bad`: the FCS fails or the frame is truncated. -/
structure EthFrame where
  iface : Nat
  len   : Nat
  dmac  : Nat
  group : Bool
  tag   : Option (Nat × Nat)
  pause : Bool
  arp   : Bool
  ip    : Nat
  plain : Bool
  dscp  : Nat
  udp   : Bool
  srcIp : Nat
  dstIp : Nat
  sport : Nat
  dport : Nat
  bth   : Nat
  icmp  : Bool := false
  bad   : Bool := false
  dest  : Nat := 0
  deriving DecidableEq, Repr

/-- A RoCEv2 packet as it reaches its engine: the interface and priority it came in on, its BTH fields, whether its ICRC
is good, and whether it carries CE (R251, R252). -/
structure RoceIn where
  iface : Nat
  prio  : Nat
  qpn   : Nat
  psn   : Nat
  pkey  : Nat
  icrc  : Bool
  ce    : Bool
  deriving DecidableEq, Repr

/-- A PDT packet as it reaches the engine (R271–R275). `ok`: version, UDP checksum, ECRC and lengths hold. `bytes`: the
payload as it came, encrypted when FLAGS.GCM is 1, or the body; `nonce`: NONCE_BASE, byte 0 lowest; `tag`: the GCM tag; `mac`, `sip`, `dip`:
the source MAC address and the IP addresses, and `v6` whether they are IPv6's. -/
structure PdtIn where
  iface : Nat
  prio  : Nat
  dscp  : Nat
  mac   : Nat
  sip   : Nat
  dip   : Nat
  v6    : Bool := false
  ok    : Bool
  ce    : Bool
  dst   : Nat
  src   : Nat
  psn   : Nat
  lowPsn : Nat
  msn   : Nat
  lowMsn : Nat
  msgLen : Nat
  msgOff : Nat
  flags : Nat
  grant : Nat
  off   : Nat
  imm   : Nat
  nonce : Nat
  tag   : List Byte
  bytes : List Byte
  deriving DecidableEq, Repr

/-- What every Trellis frame carries (R489): the port it arrived on, its route header, and whether its CRC is good. -/
structure TrlIn where
  port : Nat
  dest : Nat
  src  : Nat
  hops : Nat
  pseq : Nat
  crc  : Bool
  deriving DecidableEq, Repr

/-- The request or the data of a READ frame (R489, R495): racks asked for; data by position in what was asked for, with its
status; the fetched value of an atomic (log 19). -/
inductive TrlReadBody where
  | ask (cask off len source : Nat)
  | data (pos status : Nat) (bytes : List Byte)
  deriving DecidableEq, Repr

/-- An atomic that its owner evaluates (R55, log 19): CAS with its width, or FADD8; `tag` is answered. -/
structure TrlAtomic where
  tag   : Nat
  cas   : Bool
  width : Nat
  arg   : Nat            -- compare, or addend
  swap  : Nat
  deriving DecidableEq, Repr

/-- A DIMM as its SPD describes it (R303–R305). `kind`: 1 RDIMM, 2 MRDIMM; `bin`: its speed bin, coded as DRM_POP.RATE;
`ok`: it carries ECC and x4 devices; `trains`: its channel's training succeeds; `spares`: hard repairs it has left; `rfm`: its
mode registers require refresh management, whose initial and maximum thresholds they give (R316). -/
structure Dimm where
  ch     : Nat
  slot   : Nat
  serial : Nat
  kind   : Nat
  ranks  : Nat
  gib    : Nat
  bin    : Nat
  ok     : Bool
  trains : Bool
  spares : Nat
  rfm    : Bool
  raaInit : Nat
  raaMax : Nat
  eye    : Bool := true
  deriving DecidableEq, Repr

/-- A NAND volume as its LUNs' parameter pages describe it (R334–R336). `luns`: the LUNs that answer; `same`: all of them
report identical parameter pages. -/
structure NandVol where
  ch     : Nat
  vol    : Nat
  luns   : Nat
  same   : Bool
  maker  : Nat
  rate   : Nat
  pages  : Nat
  slcPages : Nat
  blocks : Nat
  planes : Nat
  gib    : Nat
  page   : Nat := 16384
  spare  : Nat := 1824
  bads   : List Nat := []
  deriving DecidableEq, Repr

/-- A page of a duplexed reserved unit (R306): its area (1 rack tables, 2 cask table, 3 grant table, 4 absence map and epoch-start table,
5 in-place spine, 6 home directory), the cask whose rack table it is of, the 64 KiB unit within the area, and the page in the unit. -/
structure DupPage where
  area   : Nat
  cask   : Nat
  unit   : Nat
  page   : Nat
  deriving DecidableEq, Repr

/-- What a 4 KiB page of DRAM with an uncorrectable error holds (R320). -/
inductive DramPage where
  | data (frame page : Nat)
  | duplex (p : DupPage) (copy : Nat)   -- copy 0 or copy 1 of a page of a duplexed reserved unit (R308)
  | qpCtx (first : Nat)           -- sixteen QP contexts from this index
  | replay (rx tx : List (Nat × Nat))   -- the flow records in it: receiving (source, local) and sending (local, remote)
  | firmware (core : Nat)
  deriving DecidableEq, Repr

/-- The media microsequences of a profile (R355): 64-bit steps by 4,096 × die + step, directory entries by 64 × die + ID,
the retry and offset tables, and the channel rate that the profile selects. -/
structure Mseq where
  steps  : List (Nat × Nat)
  dir    : List (Nat × Nat)
  retry  : List (Nat × Nat)
  offset : List (Nat × Nat)
  version : Nat
  crcOk  : Bool
  rate   : Nat
  deriving DecidableEq, Repr, Inhabited

/-- What the medium answers to a register command that reaches it: the LUN's status bytes, ready lines, LDPC results and data of
CEL_L_RAW_CMD (R357, R363), and what the check bits of the flash unit of FWS_CMD READ find (R446): 0 nothing, 1 an error that is
corrected, 2 an uncorrectable one. -/
structure MediaAns where
  status : List Nat
  ready  : List Bool
  ldpc   : List Bool
  din    : List Byte
  ecc    : Nat
  deriving DecidableEq, Repr

/-- A transaction on the management port (R541, R542). `i3c`: an I3C broadcast address has come before it; `ibi`: the controller has
enabled in-band interrupts (R544); `ok`: its command code, count and PEC are right. -/
structure MgtIn where
  i3c : Bool
  ibi : Bool
  ok  : Bool
  deriving DecidableEq, Repr

/-! ### The commands: the rows of the operation table, in its order, each with its operands and the rule it rests on. -/

inductive Instr where
  | registerWrite (agent off width : Nat) (value : Word) (ans : MediaAns)   -- R10
  | rcRead (agent off width : Nat)   -- R10
  | loReadLatch (agent off : Nat)   -- R64
  | lockAll (agent : Nat)   -- R546
  | bridgeTimeout (agent off : Nat) (write : Bool) (value : Word)   -- R540
  | i3cAddr (m : MgtIn) (value : Word)   -- R542
  | i3cWrite (m : MgtIn) (value : Word) (ans : MediaAns)   -- R542
  | i3cRead (m : MgtIn)   -- R543
  | sqDoorbell (fn q byte width value : Nat)   -- R202
  | cqDoorbell (fn q byte width value : Nat)   -- R202
  | shadowTailPoll (fn q tail head : Nat)   -- R207
  | shadowPollIdle (fn q tail : Nat)   -- R207
  | descriptorFetch (fn q : Nat) (words : List Word)   -- R203
  | cellReserveRetry (fn q : Nat) (words : List Word)   -- R237
  | nop (fn q : Nat)   -- R210
  | read (fn q : Nat)   -- R52
  | write (fn q : Nat)   -- R58
  | writeZero (fn q : Nat)   -- R76
  | cas8 (fn q : Nat)   -- R55
  | cas16 (fn q : Nat)   -- R55
  | fadd8 (fn q : Nat)   -- R55
  | persistFence (fn q : Nat)   -- R57
  | persistFenceDone (fn q seq : Nat)   -- R57
  | copy (fn q : Nat)   -- R58
  | cipher (fn q : Nat)   -- R214
  | waitCount (fn q : Nat)   -- R213
  | waitCountSatisfied (fn q : Nat)   -- R213
  | waitCountTimeout (fn q : Nat)   -- R213
  | remoteWrite (fn q : Nat)   -- R299
  | remoteRead (fn q : Nat)   -- R299
  | recv (fn q : Nat)   -- R258
  | streamOpen (fn q : Nat)   -- R95
  | streamAdvance (fn q : Nat)   -- R96
  | streamClose (fn q : Nat)   -- R95
  | createCq (fn : Nat)   -- R216
  | deleteCq (fn : Nat)   -- R216
  | createSq (fn : Nat)   -- R216
  | deleteSq (fn : Nat)   -- R216
  | identify (fn : Nat)   -- R547
  | caskCreate (fn : Nat)   -- R73
  | caskModify (fn : Nat)   -- R73
  | caskDelete (fn : Nat)   -- R73
  | caskQuery (fn : Nat)   -- R216
  | grantIssue (fn : Nat)   -- R82
  | grantRevoke (fn : Nat)   -- R83
  | grantQuery (fn : Nat)   -- R216
  | fnReset (fn : Nat)   -- R216
  | deviceReset (fn : Nat)   -- R216
  | profileSelect (fn : Nat)   -- R439
  | qpCreate (fn : Nat)   -- R261
  | qpModify (fn : Nat)   -- R262
  | qpDestroy (fn : Nat)   -- R261
  | qpQuery (fn : Nat)   -- R261
  | pdtConfig (fn : Nat)   -- R301
  | epCreate (fn : Nat)   -- R300
  | epModify (fn : Nat)   -- R300
  | epDestroy (fn : Nat)   -- R300
  | epPeer (fn : Nat)   -- R300
  | pdtQuery (fn : Nat)   -- R302
  | fwBegin (fn : Nat)   -- R454
  | fwWrite (fn : Nat)   -- R454
  | fwCommit (fn : Nat)   -- R454
  | fwActivate (fn : Nat)   -- R454
  | fwRead (fn ecc : Nat)   -- R468
  | profileRead (fn ecc : Nat)   -- R468
  | profileWrite (fn : Nat)   -- R459
  | profileCapture (fn : Nat)   -- R468
  | evtRead (fn : Nat)   -- R468
  | evtArchRead (fn : Nat)   -- R468
  | evtPost (fn : Nat)   -- R468
  | pwrEnter (fn : Nat)   -- R442
  | shutdown (fn : Nat)   -- R415
  | capsuleRead (fn : Nat)   -- R415
  | capsuleClear (fn : Nat)   -- R415
  | writeAdmit   -- R115
  | admitWaitTimeout   -- R116
  | admitRateTick   -- R114
  | writePlace   -- R43
  | vintageSealPeriod   -- R40
  | sealNow (agent : Nat)   -- R40
  | vintageShip   -- R179
  | vintageApplyDone   -- R40
  | rackFetchDone (cask rack : Nat)   -- R79
  | writeBehindStart (cask rack cptr : Nat)   -- R80
  | writeBehindDone (cask rack : Nat)   -- R80
  | backgroundEvict   -- R92
  | accAgeTick   -- R91
  | grantQuarantineExpire (slot : Nat)   -- R84
  | cskLkGo (agent : Nat)   -- R102
  | inputBad (hvin hu : Nat) (pfi : Bool)   -- R118
  | inputGood (hvin hu : Nat) (pfi : Bool)   -- R118
  | guardDwellExpire   -- R118
  | bottleTrigger (hvin hu : Nat) (pfi : Bool)   -- R117
  | bottleStreamDone   -- R122
  | vaultProgramTimeout (ch lun : Nat)   -- R123
  | spineSealed (okA okB : Bool)   -- R127
  | bottleResume   -- R128
  | hvinUvlo (hvin : Nat)   -- R119
  | huMeasPeriod (hu : Nat)   -- R106
  | supHuGo (agent : Nat) (value : Word)   -- R106
  | huTestRetry (hu : Nat)   -- R106
  | bankTestEnd (v0 vm v60 vend sum us : Nat) (inRange : Bool)   -- R107
  | flushProbeDone (us : Nat)   -- R109
  | pstPlanWrite (agent which : Nat) (value : Word)   -- R130
  | planRecompute   -- R130
  | spineLoadDone   -- R137
  | consolidationDone   -- R139
  | twinWaitExpire   -- R141
  | serviceOpen   -- R145
  | homingDone (cask rack cptr : Nat)   -- R150
  | fillEnWrite (agent : Nat) (value : Word)   -- R149
  | rstClear (agent key : Nat)   -- R154
  | quiesceTimeout   -- R155
  | leaseGrant (ok : Bool) (pair echo epoch result holder stale lastHolder remain : Nat)   -- R170
  | promoteGrant (ok : Bool) (pair echo epoch result holder stale lastHolder remain : Nat)   -- R184
  | handbackGrant (ok : Bool) (pair echo epoch result holder stale lastHolder vf : Nat)   -- R191
  | leaseDeadline   -- R163
  | fenceNoticeRepeat   -- R171
  | leaseRenewTimer   -- R163
  | arbRetryTimeout   -- R166
  | fenceIn (asserted : Bool)   -- R164
  | pinDropTimer   -- R186
  | firstRoleWaitExpire   -- R161
  | laneFail (lane : Nat)   -- R172
  | linkRetrainDone (lanes : BitVec 16)   -- R172
  | laneRetest (lane : Nat) (ok : Bool)   -- R172
  | statusSendTimer   -- R173
  | linkDownTimeout   -- R173
  | twinAbsent   -- R174
  | detachedTwinExpire   -- R173
  | vhead (lseq : Nat) (crc : Bool) (num prev epoch len count cause : Nat) (rel : Bool)   -- R179
  | vdata (lseq : Nat) (crc : Bool) (num off n : Nat) (recs : List WireRec)   -- R178
  | vend (lseq : Nat) (crc : Bool) (num len count : Nat) (imageOk : Bool)   -- R179
  | vack (lseq : Nat) (crc : Bool) (num applied dirtyPages limit high freeKib wbRate admState : Nat)   -- R179
  | vnak (lseq : Nat) (crc : Bool) (num off : Nat)   -- R178
  | status (lseq : Nat) (crc samePair : Bool) (h epoch role : Nat) (pref hb : Bool) (unit width dirtyPages limit high freeKib wbRate admState : Nat)   -- R177
  | resolve (lseq : Nat) (crc samePair noImage : Bool) (h role : Nat) (pend : List (Nat × Bool)) (held : List Nat)   -- R141
  | join (lseq : Nat) (crc samePair : Bool) (h : Nat)   -- R188
  | joinAccept (lseq : Nat) (crc : Bool) (p : Nat)   -- R188
  | joinRefuse (lseq : Nat) (crc : Bool)   -- R188
  | synced (lseq : Nat) (crc : Bool)   -- R190
  | hbPropose (lseq : Nat) (crc : Bool)   -- R191
  | pfetchReq (lseq : Nat) (crc : Bool) (cask rack page tag aMin : Nat)   -- R193
  | pfetchData (lseq : Nat) (crc : Bool) (cask rack page tag : Nat) (notAvail : Bool) (a : Nat) (bytes : List Byte)   -- R193
  | pfetchTimeout (cask rack page : Nat)   -- R193
  | frameRetryTimer   -- R178
  | twinBudgetTimeout   -- R180
  | promoteRetry   -- R183
  | handbackDelayExpire   -- R191
  | handbackNow (agent : Nat)   -- R191
  | handbackCommitWaitDone   -- R191
  | handbackRequestRepeat   -- R191
  | resyncWalk   -- R189
  | resyncComplete   -- R190
  | mirDetach (agent : Nat)   -- R162
  | mirJoin (agent : Nat)   -- R188
  | flr (fn : Nat)   -- R218
  | hrgFnResetGo (agent : Nat)   -- R218
  | vfDisable (link : Nat)   -- R218
  | portHotReset (link : Nat)   -- R218
  | pcieLinkDown (link : Nat)   -- R218
  | pcieLinkUp (link : Nat)   -- R199
  | aqEnable (agent : Nat) (value : Word)   -- R201
  | cqCoalesceTimer (fn q : Nat)   -- R205
  | ccwWrite (fn q : Nat)   -- R206
  | linkWordUe (qmq cell bits : Nat) (link : Bool)   -- R230
  | linkSweepDone (qmq : Nat)   -- R230
  | qmgReclaimGo (agent owner : Nat)   -- R233
  | reclaimDone (tag : Nat)   -- R234
  | ethFrameRx (f : EthFrame)   -- R246
  | exceptionFrame (iface kind : Nat) (target : Bool) (bytes : List Byte)   -- R246
  | ethLinkUp (iface : Nat)   -- R244
  | ethLinkDown (iface : Nat)   -- R233
  | netPModeWrite (agent : Nat) (value : Word)   -- R245
  | pfcFrameRx (iface prio quanta : Nat)   -- R249
  | pfcRefreshTimer (port prio : Nat)   -- R248
  | pauseExpire (iface prio : Nat)   -- R249
  | pfcStormExpire (port prio : Nat)   -- R250
  | pfcStormClear (port prio : Nat)   -- R250
  | roceSend (p : RoceIn) (place variant : Nat) (bytes : List Byte)   -- R258
  | roceRdmaWrite (p : RoceIn) (place handle off dmaLen : Nat) (hasImm : Bool) (imm : Nat) (bytes : List Byte)   -- R254
  | roceRdmaReadReq (p : RoceIn) (handle off len : Nat)   -- R254
  | roceAtomic (p : RoceIn) (kind handle off a b : Nat)   -- R254
  | roceAcknowledge (p : RoceIn) (syndrome : Nat)   -- R259
  | roceReadResponse (p : RoceIn) (bytes : List Byte)   -- R259
  | roceCnp (p : RoceIn)   -- R263
  | roceAckSend (qpn : Nat)   -- R254
  | roceAckTimeout (qpn : Nat)   -- R259
  | roceRnrTimer (qpn : Nat)   -- R259
  | dcqcnAlphaTimer (qpn loc rem : Nat)   -- R263
  | dcqcnIncTimer (qpn loc rem : Nat)   -- R263
  | dcqcnByteCounter (qpn loc rem : Nat)   -- R263
  | pdtWrite (p : PdtIn)   -- R288
  | pdtWriteImm (p : PdtIn)   -- R288
  | pdtSend (p : PdtIn)   -- R291
  | pdtReadReq (p : PdtIn)   -- R292
  | pdtCas8 (p : PdtIn)   -- R293
  | pdtCas16 (p : PdtIn)   -- R293
  | pdtFadd8 (p : PdtIn)   -- R293
  | pdtPersist (p : PdtIn)   -- R290
  | pdtQueryPkt (p : PdtIn)   -- R274
  | pdtReadResp (p : PdtIn)   -- R292
  | pdtAtomicResp (p : PdtIn)   -- R299
  | pdtAck (p : PdtIn)   -- R279
  | pdtNak (p : PdtIn)   -- R281
  | pdtBusy (p : PdtIn)   -- R281
  | pdtMessageExecute (loc src : Nat)   -- R290
  | pdtAckTimer (loc src : Nat)   -- R294
  | pdtPacketSend (loc rem : Nat)   -- R277
  | pdtRetransmitTimer (loc rem msn : Nat)   -- R279
  | pdtComplTimeout (loc rem msn : Nat)   -- R280
  | pdtEntryTimeout (loc src msn : Nat)   -- R296
  | pdtFlowExpire (loc src : Nat)   -- R285
  | pdtQuietEnd   -- R295
  | refreshTick (ch rank : Nat) (queued : List Nat) (acts : List (Nat × Nat))   -- R314
  | requestPromote (ch cls age : Nat)   -- R311
  | dimmTempRead (ch temp : Nat)   -- R315
  | srIdleExpire (ch : Nat)   -- R317
  | dramCe (ch slot subch rank dev bank row : Nat)   -- R319
  | dramUe (ch slot subch rank dev bank row : Nat) (what : DramPage)   -- R320
  | patrolScrub (lines : Nat)   -- R321
  | pprRepair (ch : Nat)   -- R322
  | drmTsetGo (agent : Nat) (all : Bool)   -- R328
  | tsetChannelDone (ok : Bool)   -- R329
  | cellarProgramDone (ch lun block page sb : Nat) (slc ok : Bool)   -- R341
  | rowPadTimeout (sb : Nat)   -- R341
  | cellarReadDone (ch lun bin bits : Nat) (hard offset : Bool) (retry : Nat) (soft rebuild isRack : Bool) (cask rack page : Nat)   -- R353
  | blockEraseDone (ch lun block vault : Nat) (ok : Bool)   -- R349
  | opAgeRaise (ch lun level : Nat)   -- R351
  | garbageCollect (cask rack read new : Nat)   -- R359
  | cellarScan (ch lun pages : Nat)   -- R359
  | eraseCountCheckpoint   -- R359
  | waitrdyTimeout (ch lun : Nat) (lunReady volReady allDead : Bool)   -- R360
  | celRawGo (agent seq block : Nat) (ans : MediaAns)   -- R348
  | keyLoad (agent : Nat)   -- R371
  | keyGenerate (agent : Nat)   -- R371
  | keyErase (agent : Nat)   -- R371
  | eAlarm (source : Nat)   -- R380
  | tAlarm (levels : Nat)   -- R383
  | regulatorStart (hvin hu vbat prof cid : Nat) (testEn : Bool) (again : Option (List Nat))   -- R390
  | prestartTimeout (slot : Nat)   -- R397
  | railInRegulation (slot mv : Nat) (pg : Bool)   -- R397
  | railStepDelay   -- R397
  | railUpTimeout (slot : Nat)   -- R399
  | pllLock (pll : Nat)   -- R397
  | pllLockTimeout (pll : Nat)   -- R27
  | railFault (slot mv : Nat) (pg : Bool)   -- R401
  | railBelowOff (slot mv : Nat)   -- R402
  | railDnTimeout (slot : Nat)   -- R403
  | dischargeTimeout (slot : Nat)   -- R403
  | restartHoldoffExpire   -- R393
  | avsStep   -- R398
  | shortPress   -- R406
  | longPress   -- R406
  | otherPress   -- R406
  | resetInput (mrst : Bool)   -- R407
  | pwrCmdOn (agent : Nat)   -- R393
  | pwrCmdOff (agent key : Nat)   -- R405
  | flushDrained   -- R405
  | orderlyShutdownTimeout   -- R405
  | marginWrite (agent steps : Nat)   -- R408
  | marginUnlockWrite (agent key : Nat)   -- R409
  | pmbusStuck (sclLow ok : Bool)   -- R411
  | pmbusRecoveryRetry (ok : Bool)   -- R411
  | pmbusTelemetry (slot : Nat) (nack : Bool)   -- R410
  | capClearWrite (agent key : Nat)   -- R412
  | capDataRead (agent : Nat)   -- R412
  | perchGate (engine : Nat)   -- R419
  | pwrTargetMode (agent mode : Nat)   -- R421
  | diapauseDrained   -- R425
  | lowPowerWake (src : Nat)   -- R433
  | wakeN   -- R432
  | pwrTargetWake (agent : Nat)   -- R432
  | rtcWakeAlarm   -- R434
  | rtcSleepAlarm   -- R434
  | watchdogExpire (core : Nat)   -- R436
  | fwsRead (agent ecc : Nat)   -- R448
  | fwsProgram (agent : Nat)   -- R449
  | fwsErase (agent : Nat)   -- R449
  | fwsCommit (agent : Nat)   -- R455
  | goodTimerExpire   -- R456
  | eventRecord   -- R466
  | eventArchive   -- R467
  | replanTimer   -- R473
  | agePlanNow (agent : Nat) (value : Word)   -- R473
  | eyeProbe (ch width height : Nat)   -- R472
  | slackCheck (hub edge : Nat)   -- R476
  | canaryCheck (mv : Nat)   -- R472
  | trlHello (f : TrlIn) (mode n stripe : Nat) (shared : Bool) (pair cap : Nat)   -- R488
  | trlAck (f : TrlIn) (upTo : Nat)   -- R490
  | trlTime (f : TrlIn) (t err : Nat)   -- R491
  | trlVclk (f : TrlIn) (n : Nat)   -- R494
  | trlMark (f : TrlIn) (n : Nat)   -- R494
  | trlSealed (f : TrlIn) (n acked dist : Nat)   -- R495
  | trlCommit (f : TrlIn) (n m : Nat)   -- R495
  | trlPiece (f : TrlIn) (n source : Nat) (rec : WireRec) (atom : Option TrlAtomic)   -- R493
  | trlRead (f : TrlIn) (snap tag : Nat) (body : TrlReadBody)   -- R495
  | trlLease (f : TrlIn) (start epoch role : Nat)   -- R497
  | trlStatus (f : TrlIn) (dirty cMf esr dirtyPages limit high freeKib wbRate admState : Nat)   -- R496
  | trlMeta (f : TrlIn) (n : Nat) (op : MetaOp) (home : Nat)   -- R493
  | trlCtrl (f : TrlIn) (action arg : Nat) (nums : List (Nat × Bool))   -- R502
  | trlHelloTimer (port : Nat)   -- R488
  | trlAckTimer   -- R490
  | trlTimeTimer   -- R491
  | trlFormTimeout   -- R488
  | trlPortDown (port : Nat)   -- R491
  | trlDeviceLost (dev : Nat)   -- R498
  | trellisWake (port : Nat)   -- R502
  | pfShareLow   -- R499
  | pfShareReleaseTimeout   -- R499
  | refclk156Loss   -- R28
  | vbatLow (mv : Nat)   -- R391
  | resetInputRelease   -- R407
  | quiesceDone   -- R155
  | attemptClear   -- R399
  | pfShareHigh   -- R499
  | trlPortUp (port peer : Nat)   -- R491
  | keyRestoreDone   -- R380
  | capsuleComplete   -- R412
  | flowQuietEnd   -- R320
  | aloneRequestRetry   -- R154
  | crossbarPromote (arrivals : List (Nat × Nat)) (clocks lanes : Nat)   -- R24
  | trainingLost (ch : Nat) (recovered : Bool)   -- R323
  | hostReadCompletion (fn q seq : Nat) (sgl : List (Nat × Nat × Nat)) (data : List Byte) (err : Bool)   -- R209
  | fnResetReady (fn : Nat)   -- R219
  | mcStateRebuilt (core : Nat)   -- R436
  | vfEnable (link numVfs : Nat)   -- R197
  deriving DecidableEq, Repr

end Sys2Proof
end

