-- ==== Sys2Proof/WellFormed.lean ====
section
/-! DEFINITION. Which commands are well formed: their operands lie in the ranges the manual gives them. The meanings are total and do not
rest on it. -/

namespace Sys2Proof

/-- An agent: a function number, or 1,024 for the I3C/SMBus port (R536). -/
def agentOk (a : Nat) : Bool := decide (a ≤ 1024)

/-- A function number (R197). -/
def fnOk (fn : Nat) : Bool := decide (fn < 1024)

/-- An SQ or CQ ID (R201). -/
def queueOk (q : Nat) : Bool := decide (q < 256)

/-- A PCIe link (R196). -/
def linkOk (l : Nat) : Bool := decide (l < 16)

/-- An interface: 8 × port + number (R244). -/
def ifaceOk (i : Nat) : Bool := decide (i < 64)

/-- A priority (R248). -/
def prioOk (p : Nat) : Bool := decide (p < 8)

/-- The arbiter body (R168): RESULT is one of six, HOLDER and LAST_HOLDER name a unit or none, STALE has a bit for each unit. -/
def arbiterOk (result holder stale lastHolder : Nat) : Bool :=
  decide (result < 6 ∧ (holder < 2 ∨ holder = 255) ∧ stale < 4 ∧ (lastHolder < 2 ∨ lastHolder = 255))

/-- A Trellis frame's port and route header (R486, R489). -/
def trlInOk (f : TrlIn) : Bool := decide (f.port < 4 ∧ (f.dest < 8 ∨ f.dest = 255) ∧ f.src < 8 ∧ f.hops < 8)

/-- A lane of the Vaelaune Link (R172). -/
def laneOk (l : Nat) : Bool := decide (l < 16)

/-- A LUN of a channel (R335). -/
def lunOk (l : Nat) : Bool := decide (l < 128)

/-- A management core: MC0–MC7, or 8 for SC (R436). -/
def coreOk (c : Nat) : Bool := decide (c < 9)

/-- A PLL (R25). -/
def pllOk (p : Nat) : Bool := decide (p < 6)

/-- A rank, logical ranks included (DRM_CH_LAST_ERR0). -/
def rankOk (r : Nat) : Bool := decide (r < 16)

/-- A bank (DRM_CH_LAST_ERR0). -/
def bankOk (b : Nat) : Bool := decide (b < 32)

/-- A subchannel (DRM_CH_LAST_ERR0). -/
def subchOk (s : Nat) : Bool := decide (s < 2)

/-- A DIMM slot of a channel (R303). -/
def dimmSlotOk (s : Nat) : Bool := decide (s < 2)

/-- A DRAM channel (R303). -/
def dramChOk (c : Nat) : Bool := decide (c < 24)

/-- An ONFI channel (R334). -/
def cellarChOk (c : Nat) : Bool := decide (c < 64)

/-- A grant slot (R80). -/
def grantSlotOk (s : Nat) : Bool := decide (s < 1048576)

/-- A rail slot (R392). -/
def railOk (s : Nat) : Bool := decide (s < 32)

/-- The second set of eight samples of each of the five straps (R523). -/
def strapsOk (again : Option (List Nat)) : Bool :=
  match again with
  | none => true
  | some l => l.length == 5 && l.all (fun n => decide (n ≤ 8))

/-- An Ethernet port (R244). -/
def npPortOk (p : Nat) : Bool := decide (p < 8)

/-- A Trellis port (R486). -/
def trlPortOk (p : Nat) : Bool := decide (p < 4)

/-- A planning-input register (R130). -/
def planRegOk (w : Nat) : Bool := decide (w < 4)

/-- A QMQ (R235). -/
def qmqOk (q : Nat) : Bool := decide (q < 65536)

/-- A QPN (R260). -/
def qpnOk (q : Nat) : Bool := decide (q < 16777216)

/-- Whether every operand of a command lies in its range. -/
def Instr.wellFormed : Instr → Bool
  | .registerWrite agent _ _ _ _ => agentOk agent
  | .rcRead agent _ _ => agentOk agent
  | .loReadLatch agent _ => agentOk agent
  | .lockAll agent => agentOk agent
  | .bridgeTimeout agent _ _ _ => agentOk agent
  | .i3cAddr _ _ => true
  | .i3cWrite _ _ _ => true
  | .i3cRead _ => true
  | .sqDoorbell fn q byte _ _ => fnOk fn && queueOk q && decide (byte < 8)
  | .cqDoorbell fn q byte _ _ => fnOk fn && queueOk q && decide (byte < 8)
  | .shadowTailPoll fn q _ _ => fnOk fn && queueOk q
  | .shadowPollIdle fn q _ => fnOk fn && queueOk q
  | .descriptorFetch fn q _ => fnOk fn && queueOk q
  | .cellReserveRetry fn q _ => fnOk fn && queueOk q
  | .nop fn q => fnOk fn && queueOk q
  | .read fn q => fnOk fn && queueOk q
  | .write fn q => fnOk fn && queueOk q
  | .writeZero fn q => fnOk fn && queueOk q
  | .cas8 fn q => fnOk fn && queueOk q
  | .cas16 fn q => fnOk fn && queueOk q
  | .fadd8 fn q => fnOk fn && queueOk q
  | .persistFence fn q => fnOk fn && queueOk q
  | .persistFenceDone fn q _ => fnOk fn && queueOk q
  | .copy fn q => fnOk fn && queueOk q
  | .cipher fn q => fnOk fn && queueOk q
  | .waitCount fn q => fnOk fn && queueOk q
  | .waitCountSatisfied fn q => fnOk fn && queueOk q
  | .waitCountTimeout fn q => fnOk fn && queueOk q
  | .remoteWrite fn q => fnOk fn && queueOk q
  | .remoteRead fn q => fnOk fn && queueOk q
  | .recv fn q => fnOk fn && queueOk q
  | .streamOpen fn q => fnOk fn && queueOk q
  | .streamAdvance fn q => fnOk fn && queueOk q
  | .streamClose fn q => fnOk fn && queueOk q
  | .createCq fn => fnOk fn
  | .deleteCq fn => fnOk fn
  | .createSq fn => fnOk fn
  | .deleteSq fn => fnOk fn
  | .identify fn => fnOk fn
  | .caskCreate fn => fnOk fn
  | .caskModify fn => fnOk fn
  | .caskDelete fn => fnOk fn
  | .caskQuery fn => fnOk fn
  | .grantIssue fn => fnOk fn
  | .grantRevoke fn => fnOk fn
  | .grantQuery fn => fnOk fn
  | .fnReset fn => fnOk fn
  | .deviceReset fn => fnOk fn
  | .profileSelect fn => fnOk fn
  | .qpCreate fn => fnOk fn
  | .qpModify fn => fnOk fn
  | .qpDestroy fn => fnOk fn
  | .qpQuery fn => fnOk fn
  | .pdtConfig fn => fnOk fn
  | .epCreate fn => fnOk fn
  | .epModify fn => fnOk fn
  | .epDestroy fn => fnOk fn
  | .epPeer fn => fnOk fn
  | .pdtQuery fn => fnOk fn
  | .fwBegin fn => fnOk fn
  | .fwWrite fn => fnOk fn
  | .fwCommit fn => fnOk fn
  | .fwActivate fn => fnOk fn
  | .fwRead fn _ => fnOk fn
  | .profileRead fn _ => fnOk fn
  | .profileWrite fn => fnOk fn
  | .profileCapture fn => fnOk fn
  | .evtRead fn => fnOk fn
  | .evtArchRead fn => fnOk fn
  | .evtPost fn => fnOk fn
  | .pwrEnter fn => fnOk fn
  | .shutdown fn => fnOk fn
  | .capsuleRead fn => fnOk fn
  | .capsuleClear fn => fnOk fn
  | .writeAdmit => true
  | .admitWaitTimeout => true
  | .admitRateTick => true
  | .writePlace => true
  | .vintageSealPeriod => true
  | .sealNow agent => agentOk agent
  | .vintageShip => true
  | .vintageApplyDone => true
  | .rackFetchDone _ _ => true
  | .writeBehindStart _ _ _ => true
  | .writeBehindDone _ _ => true
  | .backgroundEvict => true
  | .accAgeTick => true
  | .grantQuarantineExpire slot => grantSlotOk slot
  | .cskLkGo agent => agentOk agent
  | .inputBad _ _ _ => true
  | .inputGood _ _ _ => true
  | .guardDwellExpire => true
  | .bottleTrigger _ _ _ => true
  | .bottleStreamDone => true
  | .vaultProgramTimeout ch lun => cellarChOk ch && lunOk lun
  | .spineSealed _ _ => true
  | .bottleResume => true
  | .hvinUvlo _ => true
  | .huMeasPeriod _ => true
  | .supHuGo agent _ => agentOk agent
  | .huTestRetry _ => true
  | .bankTestEnd _ _ _ _ _ _ _ => true
  | .flushProbeDone _ => true
  | .pstPlanWrite agent which _ => agentOk agent && planRegOk which
  | .planRecompute => true
  | .spineLoadDone => true
  | .consolidationDone => true
  | .twinWaitExpire => true
  | .serviceOpen => true
  | .homingDone _ _ _ => true
  | .fillEnWrite agent _ => agentOk agent
  | .rstClear agent _ => agentOk agent
  | .quiesceTimeout => true
  | .leaseGrant _ _ _ _ result holder stale lastHolder _ => arbiterOk result holder stale lastHolder
  | .promoteGrant _ _ _ _ result holder stale lastHolder _ => arbiterOk result holder stale lastHolder
  | .handbackGrant _ _ _ _ result holder stale lastHolder _ => arbiterOk result holder stale lastHolder
  | .leaseDeadline => true
  | .fenceNoticeRepeat => true
  | .leaseRenewTimer => true
  | .arbRetryTimeout => true
  | .fenceIn _ => true
  | .pinDropTimer => true
  | .firstRoleWaitExpire => true
  | .laneFail lane => laneOk lane
  | .linkRetrainDone _ => true
  | .laneRetest lane _ => laneOk lane
  | .statusSendTimer => true
  | .linkDownTimeout => true
  | .twinAbsent => true
  | .detachedTwinExpire => true
  | .vhead _ _ _ _ _ _ _ _ _ => true
  | .vdata _ _ _ _ _ _ => true
  | .vend _ _ _ _ _ _ => true
  | .vack _ _ _ _ _ _ _ _ _ _ => true
  | .vnak _ _ _ _ => true
  | .status _ _ _ _ _ _ _ _ _ _ _ _ _ _ _ _ => true
  | .resolve _ _ _ _ _ _ _ _ => true
  | .join _ _ _ _ => true
  | .joinAccept _ _ _ => true
  | .joinRefuse _ _ => true
  | .synced _ _ => true
  | .hbPropose _ _ => true
  | .pfetchReq _ _ _ _ _ _ _ => true
  | .pfetchData _ _ _ _ _ _ _ _ _ => true
  | .pfetchTimeout _ _ _ => true
  | .frameRetryTimer => true
  | .twinBudgetTimeout => true
  | .promoteRetry => true
  | .handbackDelayExpire => true
  | .handbackNow agent => agentOk agent
  | .handbackCommitWaitDone => true
  | .handbackRequestRepeat => true
  | .resyncWalk => true
  | .resyncComplete => true
  | .mirDetach agent => agentOk agent
  | .mirJoin agent => agentOk agent
  | .flr fn => fnOk fn
  | .hrgFnResetGo agent => agentOk agent
  | .vfDisable link => linkOk link
  | .portHotReset link => linkOk link
  | .pcieLinkDown link => linkOk link
  | .pcieLinkUp link => linkOk link
  | .aqEnable agent _ => agentOk agent
  | .cqCoalesceTimer fn q => fnOk fn && queueOk q
  | .ccwWrite fn q => fnOk fn && queueOk q
  | .linkWordUe qmq cell bits _ => qmqOk qmq && decide (cell < 262144 ∧ bits ≤ 2)
  | .linkSweepDone qmq => qmqOk qmq
  | .qmgReclaimGo agent _ => agentOk agent
  | .reclaimDone _ => true
  | .ethFrameRx _ => true
  | .exceptionFrame iface _ _ _ => ifaceOk iface
  | .ethLinkUp iface => ifaceOk iface
  | .ethLinkDown iface => ifaceOk iface
  | .netPModeWrite agent _ => agentOk agent
  | .pfcFrameRx iface prio _ => ifaceOk iface && prioOk prio
  | .pfcRefreshTimer port prio => npPortOk port && prioOk prio
  | .pauseExpire iface prio => ifaceOk iface && prioOk prio
  | .pfcStormExpire port prio => npPortOk port && prioOk prio
  | .pfcStormClear port prio => npPortOk port && prioOk prio
  | .roceSend _ _ _ _ => true
  | .roceRdmaWrite _ _ _ _ _ _ _ _ => true
  | .roceRdmaReadReq _ _ _ _ => true
  | .roceAtomic _ _ _ _ _ _ => true
  | .roceAcknowledge _ _ => true
  | .roceReadResponse _ _ => true
  | .roceCnp _ => true
  | .roceAckSend qpn => qpnOk qpn
  | .roceAckTimeout qpn => qpnOk qpn
  | .roceRnrTimer qpn => qpnOk qpn
  | .dcqcnAlphaTimer qpn _ _ => qpnOk qpn
  | .dcqcnIncTimer qpn _ _ => qpnOk qpn
  | .dcqcnByteCounter qpn _ _ => qpnOk qpn
  | .pdtWrite _ => true
  | .pdtWriteImm _ => true
  | .pdtSend _ => true
  | .pdtReadReq _ => true
  | .pdtCas8 _ => true
  | .pdtCas16 _ => true
  | .pdtFadd8 _ => true
  | .pdtPersist _ => true
  | .pdtQueryPkt _ => true
  | .pdtReadResp _ => true
  | .pdtAtomicResp _ => true
  | .pdtAck _ => true
  | .pdtNak _ => true
  | .pdtBusy _ => true
  | .pdtMessageExecute _ _ => true
  | .pdtAckTimer _ _ => true
  | .pdtPacketSend _ _ => true
  | .pdtRetransmitTimer _ _ _ => true
  | .pdtComplTimeout _ _ _ => true
  | .pdtEntryTimeout _ _ _ => true
  | .pdtFlowExpire _ _ => true
  | .pdtQuietEnd => true
  | .refreshTick ch rank queued acts => dramChOk ch && rankOk rank && queued.all (fun b => decide (b < 32)) && acts.all (fun a => decide (a.1 < 32))
  | .requestPromote ch _ _ => dramChOk ch
  | .dimmTempRead ch _ => dramChOk ch
  | .srIdleExpire ch => dramChOk ch
  | .dramCe ch slot subch rank _ bank _ => dramChOk ch && dimmSlotOk slot && subchOk subch && rankOk rank && bankOk bank
  | .dramUe ch slot subch rank _ bank _ _ => dramChOk ch && dimmSlotOk slot && subchOk subch && rankOk rank && bankOk bank
  | .patrolScrub _ => true
  | .pprRepair ch => dramChOk ch
  | .drmTsetGo agent _ => agentOk agent
  | .tsetChannelDone _ => true
  | .cellarProgramDone ch lun _ _ _ _ _ => cellarChOk ch && lunOk lun
  | .rowPadTimeout _ => true
  | .cellarReadDone ch lun _ _ _ _ _ _ _ _ _ _ _ => cellarChOk ch && lunOk lun
  | .blockEraseDone ch lun _ _ _ => cellarChOk ch && lunOk lun
  | .opAgeRaise ch lun _ => cellarChOk ch && lunOk lun
  | .garbageCollect _ _ _ _ => true
  | .cellarScan ch lun _ => cellarChOk ch && lunOk lun
  | .eraseCountCheckpoint => true
  | .waitrdyTimeout ch lun _ _ _ => cellarChOk ch && lunOk lun
  | .celRawGo agent _ _ _ => agentOk agent
  | .keyLoad agent => agentOk agent
  | .keyGenerate agent => agentOk agent
  | .keyErase agent => agentOk agent
  | .eAlarm _ => true
  | .tAlarm _ => true
  | .regulatorStart _ _ _ _ _ _ again => strapsOk again
  | .prestartTimeout slot => railOk slot
  | .railInRegulation slot _ _ => railOk slot
  | .railStepDelay => true
  | .railUpTimeout slot => railOk slot
  | .pllLock pll => pllOk pll
  | .pllLockTimeout pll => pllOk pll
  | .railFault slot _ _ => railOk slot
  | .railBelowOff slot _ => railOk slot
  | .railDnTimeout slot => railOk slot
  | .dischargeTimeout slot => railOk slot
  | .restartHoldoffExpire => true
  | .avsStep => true
  | .shortPress => true
  | .longPress => true
  | .otherPress => true
  | .resetInput _ => true
  | .pwrCmdOn agent => agentOk agent
  | .pwrCmdOff agent _ => agentOk agent
  | .flushDrained => true
  | .orderlyShutdownTimeout => true
  | .marginWrite agent _ => agentOk agent
  | .marginUnlockWrite agent _ => agentOk agent
  | .pmbusStuck _ _ => true
  | .pmbusRecoveryRetry _ => true
  | .pmbusTelemetry slot _ => railOk slot
  | .capClearWrite agent _ => agentOk agent
  | .capDataRead agent => agentOk agent
  | .perchGate _ => true
  | .pwrTargetMode agent _ => agentOk agent
  | .diapauseDrained => true
  | .lowPowerWake _ => true
  | .wakeN => true
  | .pwrTargetWake agent => agentOk agent
  | .rtcWakeAlarm => true
  | .rtcSleepAlarm => true
  | .watchdogExpire core => coreOk core
  | .fwsRead agent _ => agentOk agent
  | .fwsProgram agent => agentOk agent
  | .fwsErase agent => agentOk agent
  | .fwsCommit agent => agentOk agent
  | .goodTimerExpire => true
  | .eventRecord => true
  | .eventArchive => true
  | .replanTimer => true
  | .agePlanNow agent _ => agentOk agent
  | .eyeProbe ch _ _ => dramChOk ch
  | .slackCheck _ _ => true
  | .canaryCheck _ => true
  | .trlHello f _ _ _ _ _ _ => trlInOk f
  | .trlAck f _ => trlInOk f
  | .trlTime f _ _ => trlInOk f
  | .trlVclk f _ => trlInOk f
  | .trlMark f _ => trlInOk f
  | .trlSealed f _ _ _ => trlInOk f
  | .trlCommit f _ _ => trlInOk f
  | .trlPiece f _ _ _ _ => trlInOk f
  | .trlRead f _ _ _ => trlInOk f
  | .trlLease f _ _ _ => trlInOk f
  | .trlStatus f _ _ _ _ _ _ _ _ _ => trlInOk f
  | .trlMeta f _ _ _ => trlInOk f
  | .trlCtrl f _ _ _ => trlInOk f
  | .trlHelloTimer port => trlPortOk port
  | .trlAckTimer => true
  | .trlTimeTimer => true
  | .trlFormTimeout => true
  | .trlPortDown port => trlPortOk port
  | .trlDeviceLost _ => true
  | .trellisWake port => trlPortOk port
  | .pfShareLow => true
  | .pfShareReleaseTimeout => true
  | .refclk156Loss => true
  | .vbatLow _ => true
  | .resetInputRelease => true
  | .quiesceDone => true
  | .attemptClear => true
  | .pfShareHigh => true
  | .trlPortUp port _ => trlPortOk port
  | .keyRestoreDone => true
  | .capsuleComplete => true
  | .flowQuietEnd => true
  | .aloneRequestRetry => true
  | .crossbarPromote _ _ _ => true
  | .trainingLost ch _ => dramChOk ch
  | .hostReadCompletion fn q _ _ _ _ => fnOk fn && queueOk q
  | .fnResetReady fn => fnOk fn
  | .mcStateRebuilt core => coreOk core
  | .vfEnable link _ => linkOk link

end Sys2Proof
end

