-- ==== Sys2Proof/Decode.lean ====
section
/-! DEFINITION. The command that a word spells by the operation table's bits. No row of the table gives bits: the commands are register
accesses, frames, descriptors, events on pins and completions, none of which is one word; so every word spells none. -/

namespace Sys2Proof

/-- The command that `w`, of `nbits` bits, spells: none, since the table gives no row an encoding (log 1). -/
def decodeTableWord (_nbits _w : Nat) : Option Instr := none

end Sys2Proof
end

