-- ==== Sys2Proof/Machine/Bits.lean ====
section
/-! DEFINITION. Bit fields and byte order: little-endian words (R8, R208) and big-endian link fields (R176). -/

namespace Sys2Proof.Machine

/-- Bits [hi:lo] of a word, as a number. -/
def bitsGet (w : Word) (hi lo : Nat) : Nat := (w.toNat / 2 ^ lo) % 2 ^ (hi + 1 - lo)

/-- The word with bits [hi:lo] set to `v`. -/
def bitsSet (w : Word) (hi lo v : Nat) : Word :=
  BitVec.ofNat 32 (w.toNat - bitsGet w hi lo * 2 ^ lo + (v % 2 ^ (hi + 1 - lo)) * 2 ^ lo)

/-- Bit `n` of a word. -/
def bitAt (w : Word) (n : Nat) : Bool := w.toNat / 2 ^ n % 2 == 1

/-- Bit `n` of a number. -/
def natBit (w n : Nat) : Bool := w / 2 ^ n % 2 == 1

/-- Bits [hi:lo] of a number. -/
def natBits (w hi lo : Nat) : Nat := (w / 2 ^ lo) % 2 ^ (hi + 1 - lo)

/-- A Bool as a bit. -/
def b2n (b : Bool) : Nat := if b then 1 else 0

/-- The `n` little-endian bytes of a number. -/
def leBytes : Nat → Nat → List Byte
  | 0, _ => []
  | n + 1, v => BitVec.ofNat 8 v :: leBytes n (v / 256)

/-- The number that little-endian bytes spell. -/
def leNat : List Byte → Nat
  | [] => 0
  | b :: bs => b.toNat + 256 * leNat bs

/-- The `n` big-endian bytes of a number, and the number that big-endian bytes spell. -/
def beBytes (n v : Nat) : List Byte := (leBytes n v).reverse
def beNat (bs : List Byte) : Nat := leNat bs.reverse

/-- The number of ones among sixteen bits. -/
def popcount16 (b : BitVec 16) : Nat := ((List.range 16).filter (fun i => natBit b.toNat i)).length

/-- Bit `i` of sixteen. -/
def page? (b : BitVec 16) (i : Nat) : Bool := natBit b.toNat i

/-- The mask of one page. -/
def pageBit (i : Nat) : BitVec 16 := BitVec.ofNat 16 (2 ^ i)

/-- Sixteen ones. -/
def allPages : BitVec 16 := BitVec.ofNat 16 65535

/-- Saturating addition. -/
def satAdd (a n mx : Nat) : Nat := min (a + n) mx

/-- The smallest multiple of `m` at or above `n`. -/
def roundUp (n m : Nat) : Nat := (n + m - 1) / m * m

/-- A list without the first element that satisfies `p`. -/
def removeFirst {α : Type} (p : α → Bool) : List α → List α
  | [] => []
  | x :: xs => if p x then xs else x :: removeFirst p xs

/-- Replace the first element that satisfies `p`. -/
def updateFirst {α : Type} (p : α → Bool) (f : α → α) : List α → List α
  | [] => []
  | x :: xs => if p x then f x :: xs else x :: updateFirst p f xs

/-- A list of numbers with `n` in its place, rising, once. -/
def insertNat (n : Nat) : List Nat → List Nat
  | [] => [n]
  | x :: xs => if n < x then n :: x :: xs else if n = x then x :: xs else x :: insertNat n xs

end Sys2Proof.Machine
end

