-- ==== Sys2Proof/Config.lean ====
section
/-! DEFINITION. What one device fixes and what the manual leaves open: constants without a body, so that
no proof can rest on a value of them (assumption log 2). -/

namespace Sys2Proof

/-- A value that the manual leaves open, drawn by the step that needs it: the argument is the count of free
values drawn so far (`Device.freeCtr`). -/
opaque Config.freeValue : Nat → Nat

/-- A byte that the manual leaves open, by the draw and the position in the run of bytes drawn. -/
opaque Config.freeByte : Nat → Nat → Byte

/-- GEN_ID1.STEP, "By stepping" (R3, GEN_ID1). -/
opaque Config.stepping : BitVec 8

/-- GEN_SERIAL (R548): one number for each device. -/
opaque Config.serial : BitVec 64

/-- The event-code table of the running image (R452, R464): the code, and the DATA bytes, of the event that a rule
records without naming them. The argument is the rule's number. -/
opaque Config.eventCode : Nat → Nat
opaque Config.eventData : Nat → List Byte

/-- The AES operations of the cipher engine (R366, R367, R378): mode, key material, IV words, input. -/
opaque Config.aesEncrypt : Nat → List Byte → List Word → Nat → List Byte → List Byte
opaque Config.aesDecrypt : Nat → List Byte → List Word → Nat → List Byte → List Byte
/-- The GCM or CMAC tag of an input (16 bytes). -/
opaque Config.aesTag : Nat → List Byte → List Word → Nat → List Byte → List Byte
/-- The key check value of a key (R371). -/
opaque Config.kcv : List Byte → BitVec 24
/-- The media key (slot 0), the vault key (slot 1) and the slot-wrap key (2) that SC derives under a KEK share by the chain of R372, by the share
and that number. -/
opaque Config.hwKey : Nat → Nat → List Byte
/-- A copy of a KEK share, wrapped under the DRK (R373), by the share and the copy. -/
opaque Config.shareRecord : Nat → Nat → List Byte
/-- The UDP source port of a QP whose attributes give 0: a hash of the QPN (R262). -/
opaque Config.portHash : Nat → Nat
/-- Where a page of a reserved area that is not duplexed lies among the live channels (R306, R307, R323), by area and page: 0 QP contexts,
1 receiving and 2 sending flow records, 3 firmware working areas. -/
opaque Config.areaCh : Nat → Nat → Nat
/-- Where a copy of a duplexed unit lies (R307), among the channels that the rule leaves it: by area, cask, unit and copy. -/
opaque Config.dupCh : Nat → Nat → Nat → Nat → Nat
/-- The page of the home directory that holds a cask's entry (R306, R493), whose layout the manual does not give. -/
opaque Config.homePage : Nat → Nat
/-- The content of a pad page (R341), by the byte within the page. -/
opaque Config.padByte : Nat → Byte
/-- The bytes of a page of the absence-map area (R78, R187), whose layout the manual does not give: by page, the racks and casks marked in it. -/
opaque Config.mapBytes : Nat → List Nat → List Byte
/-- Bytes from the DRBG (R371), by the draw and the position. -/
opaque Config.drbg : Nat → Nat → Byte

/-- Whether a slot's content passes the cryptographic checks of R452: PUBKEY against the fuse hash, SIG and HASH. The
argument is its programmed units, by unit of the slot. -/
opaque Config.imageSigned : List (Nat × List Byte) → Bool
/-- The seven SEC-DED check bits of a link word (R223), whose check matrix the manual does not give. -/
opaque Config.linkEcc : BitVec 32 → BitVec 7
/-- The eight SEC-DED check bits of a 64-bit cell word (R223). -/
opaque Config.cellEcc : BitVec 64 → BitVec 8
/-- The packet header (R224), whose layout the manual does not give: by packet length, poison flag and void flag. -/
opaque Config.pktHead : Nat → Bool → Bool → BitVec 64
/-- The words of a cell beyond the bytes of its packet, and the link word of a free cell, which the manual leaves open. -/
opaque Config.padWord : Nat → BitVec 64
opaque Config.freeLink : Nat → BitVec 39
/-- NEXT in the EOP cell of the last packet of a queue (R223), which has no next packet: by cell. -/
opaque Config.lastNext : Nat → BitVec 18
/-- The page of the absence-map area of reserved DRAM in which the firmware keeps some of its bits (R187, R306), whose order the manual does
not give. -/
opaque Config.mapPage : Nat → Nat
/-- Where a reserved area lies in DRAM, and in the cellar after an update of the reserved-area map (R126), by area: 0 cask table, 1 grant table,
2 rack tables, 3 absence map. -/
opaque Config.areaDram : Nat → Nat
opaque Config.areaCell : Nat → Nat → Nat
/-- The subsystem IDs of a device whose active profile holds none (R198). -/
opaque Config.subsysIds : BitVec 32
/-- The media section of a profile (R460, TYPE 0x0003), whose layout the manual does not give. -/
opaque Config.mseqOf : List Byte → Mseq
/-- The bytes of a governing learned record whose content the manual does not lay out (R460): by profile and draw. -/
opaque Config.learnedBytes : Nat → Nat → List Byte

end Sys2Proof
end

