-- ==== Sys2Proof/Machine/RegTable.lean ====
section
/-! DEFINITION. Every register of the fifteen blocks (R533, R534), as the register tables of the chapters give
it: block offset, reset class (R14), the window or copy it belongs to (R534, R536), and for each field its bits, its
access code (R10) and its Reset value. Bits that no field names are Reserved (R9). The named fields follow. -/

namespace Sys2Proof.Machine

/-- The access codes of R10. -/
inductive Acc where
  | rw | ro | wo | rc | w1c | w1s | rwl | rwp
  deriving DecidableEq, Repr

/-- The reset classes of R14. -/
inductive RClass where
  | f | w | c | a | n
  deriving DecidableEq, Repr

/-- Which instance of a register an access reaches: the device's one copy, the agent's own copy (R536), or the
instance a select register chooses (R537). -/
inductive Win where
  | dev | agent | fn | qmq | port | dch | cch | lun | kslot | rail
  deriving DecidableEq, Repr

structure FieldSpec where
  hi    : Nat
  lo    : Nat
  acc   : Acc
  reset : Nat
  deriving DecidableEq, Repr

structure RegSpec where
  off    : Nat
  cls    : RClass
  win    : Win
  fields : List FieldSpec
  deriving DecidableEq, Repr

/-- A named field: the BAR0 offset of its register, its high bit and its low bit. -/
structure Fld where
  reg : Nat
  hi  : Nat
  lo  : Nat
  deriving DecidableEq, Repr

/-- Registers of block GEN. -/
def regsGEN0 : List RegSpec := [
  ⟨0x0, .n, .dev, [⟨31, 16, .ro, 0x8800⟩, ⟨15, 0, .ro, 0x1f3c⟩]⟩,
  ⟨0x4, .n, .dev, [⟨31, 16, .ro, 0x8801⟩, ⟨7, 0, .ro, 0⟩]⟩,
  ⟨0x8, .n, .dev, [⟨31, 0, .ro, 0⟩]⟩,
  ⟨0xC, .n, .dev, [⟨31, 0, .ro, 0⟩]⟩,
  ⟨0x10, .w, .dev, [⟨17, 16, .ro, 0⟩, ⟨15, 0, .ro, 0⟩]⟩,
  ⟨0x20, .n, .dev, [⟨31, 24, .ro, 0x18⟩, ⟨23, 16, .ro, 0x40⟩, ⟨15, 12, .ro, 8⟩, ⟨11, 8, .ro, 4⟩, ⟨7, 4, .ro, 4⟩]⟩,
  ⟨0x24, .n, .dev, [⟨31, 24, .ro, 0x10⟩, ⟨23, 16, .ro, 0x12⟩, ⟨15, 8, .ro, 0x14⟩, ⟨7, 0, .ro, 0x18⟩]⟩,
  ⟨0x28, .n, .dev, [⟨31, 16, .ro, 0x400⟩, ⟨15, 0, .ro, 0x1000⟩]⟩,
  ⟨0x2C, .n, .dev, [⟨31, 16, .ro, 0xa0⟩, ⟨15, 8, .ro, 0x20⟩, ⟨7, 0, .ro, 8⟩]⟩,
  ⟨0x30, .n, .dev, [⟨8, 8, .ro, 0⟩, ⟨7, 7, .ro, 1⟩, ⟨6, 6, .ro, 1⟩, ⟨5, 5, .ro, 1⟩, ⟨4, 4, .ro, 1⟩, ⟨3, 3, .ro, 1⟩, ⟨2, 2, .ro, 1⟩, ⟨1, 1, .ro, 1⟩, ⟨0, 0, .ro, 1⟩]⟩,
  ⟨0x34, .n, .dev, [⟨31, 24, .ro, 0x14⟩, ⟨23, 16, .ro, 0x18⟩, ⟨15, 8, .ro, 0x34⟩, ⟨7, 0, .ro, 8⟩]⟩,
  ⟨0x40, .c, .dev, [⟨31, 28, .ro, 0⟩, ⟨27, 26, .ro, 2⟩, ⟨25, 23, .ro, 1⟩, ⟨22, 19, .ro, 1⟩, ⟨18, 15, .ro, 0⟩, ⟨14, 14, .ro, 0⟩, ⟨13, 13, .ro, 0⟩, ⟨12, 12, .ro, 0⟩]⟩,
  ⟨0x44, .a, .dev, [⟨31, 0, .ro, 0⟩]⟩,
  ⟨0x48, .c, .dev, [⟨31, 0, .rw, 0⟩]⟩,
  ⟨0x50, .w, .dev, [⟨31, 31, .w1s, 0⟩]⟩,
  ⟨0x60, .c, .dev, [⟨2, 2, .w1c, 0⟩, ⟨1, 1, .w1c, 0⟩, ⟨0, 0, .w1c, 0⟩]⟩,
  ⟨0x64, .c, .dev, [⟨2, 0, .rw, 4⟩]⟩,
  ⟨0x70, .c, .dev, [⟨25, 0, .ro, 0⟩]⟩,
  ⟨0x74, .c, .dev, [⟨31, 30, .ro, 0⟩, ⟨29, 29, .ro, 0⟩, ⟨26, 16, .ro, 0⟩]⟩]

def regsGEN : List RegSpec := regsGEN0

/-- Registers of block QMG, part 1. -/
def regsQMG0 : List RegSpec := [
  ⟨0x0, .w, .agent, [⟨15, 0, .rw, 0⟩]⟩,
  ⟨0x4, .c, .dev, [⟨31, 31, .w1s, 0⟩]⟩,
  ⟨0x8, .c, .dev, [⟨18, 0, .ro, 0x40000⟩]⟩,
  ⟨0x10, .c, .dev, [⟨17, 0, .rwl, 0x4000⟩]⟩,
  ⟨0x14, .c, .dev, [⟨17, 0, .rwl, 0x4000⟩]⟩,
  ⟨0x18, .c, .dev, [⟨17, 0, .rwl, 0x8000⟩]⟩,
  ⟨0x1C, .c, .dev, [⟨17, 0, .rwl, 0x4000⟩]⟩,
  ⟨0x20, .c, .dev, [⟨18, 0, .ro, 0⟩]⟩,
  ⟨0x24, .c, .dev, [⟨18, 0, .ro, 0⟩]⟩,
  ⟨0x28, .c, .dev, [⟨18, 0, .ro, 0⟩]⟩,
  ⟨0x2C, .c, .dev, [⟨18, 0, .ro, 0⟩]⟩,
  ⟨0x30, .c, .dev, [⟨18, 0, .ro, 0⟩]⟩,
  ⟨0x40, .c, .dev, [⟨31, 31, .ro, 0⟩, ⟨30, 30, .wo, 0⟩, ⟨11, 0, .rw, 0⟩]⟩,
  ⟨0x44, .c, .dev, [⟨31, 0, .ro, 0⟩]⟩,
  ⟨0x50, .c, .dev, [⟨31, 0, .ro, 0⟩]⟩,
  ⟨0x54, .c, .dev, [⟨31, 0, .ro, 0⟩]⟩,
  ⟨0x58, .c, .dev, [⟨31, 0, .ro, 0⟩]⟩,
  ⟨0x60, .c, .dev, [⟨4, 4, .w1c, 0⟩, ⟨3, 3, .w1c, 0⟩, ⟨2, 2, .w1c, 0⟩, ⟨1, 1, .w1c, 0⟩, ⟨0, 0, .w1c, 0⟩]⟩,
  ⟨0x64, .c, .dev, [⟨4, 0, .rw, 0x1c⟩]⟩,
  ⟨0x68, .c, .dev, [⟨15, 0, .rwp, 0x100⟩]⟩,
  ⟨0x100, .c, .qmq, [⟨31, 30, .ro, 0⟩, ⟨29, 27, .ro, 0⟩, ⟨11, 0, .ro, 0⟩]⟩,
  ⟨0x104, .c, .qmq, [⟨18, 0, .rw, 0⟩]⟩,
  ⟨0x108, .c, .qmq, [⟨18, 0, .ro, 0⟩]⟩,
  ⟨0x10C, .c, .qmq, [⟨18, 0, .ro, 0⟩]⟩]

/-- Registers of block QMG, part 2. -/
def regsQMG1 : List RegSpec := [
  ⟨0x110, .c, .qmq, [⟨31, 16, .rc, 0⟩, ⟨15, 0, .rc, 0⟩]⟩,
  ⟨0x114, .c, .qmq, [⟨31, 16, .rc, 0⟩, ⟨15, 0, .rc, 0⟩]⟩,
  ⟨0x118, .c, .qmq, [⟨18, 0, .rc, 0⟩]⟩]

def regsQMG : List RegSpec := regsQMG0 ++ regsQMG1

/-- Registers of block HRG. -/
def regsHRG0 : List RegSpec := [
  ⟨0x0, .w, .agent, [⟨9, 0, .rw, 0⟩]⟩,
  ⟨0x10, .c, .dev, [⟨1, 0, .rwp, 0⟩]⟩,
  ⟨0x14, .c, .dev, [⟨1, 0, .rwp, 0⟩]⟩,
  ⟨0x18, .c, .dev, [⟨1, 0, .rwp, 0⟩]⟩,
  ⟨0x1C, .c, .dev, [⟨1, 0, .rwp, 0⟩]⟩,
  ⟨0x20, .c, .dev, [⟨15, 0, .rwp, 0x14⟩]⟩,
  ⟨0x24, .c, .dev, [⟨31, 16, .ro, 0⟩, ⟨15, 0, .ro, 0⟩]⟩,
  ⟨0x100, .c, .fn, [⟨31, 31, .rwp, 0⟩, ⟨27, 16, .rwp, 0⟩, ⟨15, 8, .rwp, 0x10⟩, ⟨7, 0, .rwp, 0x10⟩]⟩,
  ⟨0x104, .f, .fn, [⟨31, 31, .ro, 1⟩, ⟨30, 30, .ro, 0⟩, ⟨2, 2, .w1c, 0⟩, ⟨1, 1, .w1c, 0⟩, ⟨0, 0, .w1c, 0⟩]⟩,
  ⟨0x108, .f, .fn, [⟨0, 0, .wo, 0⟩]⟩,
  ⟨0x110, .f, .fn, [⟨31, 31, .rw, 0⟩, ⟨11, 8, .rw, 6⟩, ⟨3, 0, .rw, 6⟩]⟩,
  ⟨0x114, .f, .fn, [⟨31, 0, .rw, 0⟩]⟩,
  ⟨0x118, .f, .fn, [⟨31, 0, .rw, 0⟩]⟩,
  ⟨0x11C, .f, .fn, [⟨31, 0, .rw, 0⟩]⟩,
  ⟨0x120, .f, .fn, [⟨31, 0, .rw, 0⟩]⟩,
  ⟨0x124, .f, .fn, [⟨31, 12, .rw, 0⟩, ⟨0, 0, .rw, 0⟩]⟩,
  ⟨0x128, .f, .fn, [⟨31, 0, .rw, 0⟩]⟩,
  ⟨0x130, .f, .fn, [⟨31, 31, .rw, 0⟩, ⟨8, 0, .rw, 0⟩]⟩,
  ⟨0x134, .f, .fn, [⟨14, 0, .w1c, 0⟩]⟩]

def regsHRG : List RegSpec := regsHRG0

/-- Registers of block CSK, part 1. -/
def regsCSK0 : List RegSpec := [
  ⟨0x0, .c, .dev, [⟨6, 0, .rwp, 0x4b⟩]⟩,
  ⟨0x4, .c, .dev, [⟨15, 0, .rwp, 0x40⟩]⟩,
  ⟨0x8, .c, .dev, [⟨13, 0, .rwp, 0x64⟩]⟩,
  ⟨0x10, .c, .dev, [⟨3, 3, .w1c, 0⟩, ⟨2, 2, .w1c, 0⟩, ⟨1, 1, .w1c, 0⟩, ⟨0, 0, .w1c, 0⟩]⟩,
  ⟨0x14, .c, .dev, [⟨3, 3, .rw, 1⟩, ⟨2, 2, .rw, 0⟩, ⟨1, 1, .rw, 0⟩, ⟨0, 0, .rw, 0⟩]⟩,
  ⟨0x18, .c, .dev, [⟨31, 24, .ro, 0⟩, ⟨23, 22, .ro, 0⟩, ⟨19, 0, .ro, 0⟩]⟩,
  ⟨0x20, .c, .dev, [⟨31, 0, .ro, 0⟩]⟩,
  ⟨0x24, .c, .dev, [⟨31, 0, .ro, 0⟩]⟩,
  ⟨0x28, .c, .dev, [⟨31, 0, .ro, 0⟩]⟩,
  ⟨0x2C, .c, .dev, [⟨31, 0, .ro, 0⟩]⟩,
  ⟨0x30, .c, .dev, [⟨31, 0, .ro, 0⟩]⟩,
  ⟨0x34, .c, .dev, [⟨31, 0, .ro, 0⟩]⟩,
  ⟨0x38, .c, .dev, [⟨31, 0, .ro, 0⟩]⟩,
  ⟨0x3C, .c, .dev, [⟨31, 0, .ro, 0⟩]⟩,
  ⟨0x40, .c, .dev, [⟨31, 0, .ro, 0⟩]⟩,
  ⟨0x44, .c, .dev, [⟨31, 0, .ro, 0⟩]⟩,
  ⟨0x48, .c, .dev, [⟨31, 0, .ro, 0⟩]⟩,
  ⟨0x4C, .c, .dev, [⟨31, 0, .ro, 0⟩]⟩,
  ⟨0x50, .c, .dev, [⟨31, 0, .ro, 0⟩]⟩,
  ⟨0x54, .c, .dev, [⟨31, 0, .ro, 0⟩]⟩,
  ⟨0x58, .c, .dev, [⟨31, 0, .ro, 0⟩]⟩,
  ⟨0x5C, .c, .dev, [⟨31, 0, .ro, 0⟩]⟩,
  ⟨0x60, .c, .dev, [⟨31, 0, .ro, 0⟩]⟩,
  ⟨0x64, .c, .dev, [⟨31, 0, .ro, 0⟩]⟩]

/-- Registers of block CSK, part 2. -/
def regsCSK1 : List RegSpec := [
  ⟨0x68, .c, .dev, [⟨31, 0, .ro, 0⟩]⟩,
  ⟨0x6C, .c, .dev, [⟨31, 0, .ro, 0⟩]⟩,
  ⟨0x70, .c, .dev, [⟨31, 0, .ro, 0⟩]⟩,
  ⟨0x74, .c, .dev, [⟨31, 0, .ro, 0⟩]⟩,
  ⟨0x78, .c, .dev, [⟨31, 0, .ro, 0⟩]⟩,
  ⟨0x80, .w, .agent, [⟨23, 0, .rw, 0⟩]⟩,
  ⟨0x84, .w, .agent, [⟨31, 0, .rw, 0⟩]⟩,
  ⟨0x88, .w, .agent, [⟨19, 0, .rw, 0⟩]⟩,
  ⟨0x8C, .w, .agent, [⟨31, 31, .ro, 0⟩, ⟨2, 1, .ro, 0⟩, ⟨0, 0, .wo, 0⟩]⟩,
  ⟨0x90, .w, .agent, [⟨31, 0, .ro, 0⟩]⟩,
  ⟨0x94, .w, .agent, [⟨31, 0, .ro, 0⟩]⟩,
  ⟨0x98, .w, .agent, [⟨31, 0, .ro, 0⟩]⟩,
  ⟨0x9C, .w, .agent, [⟨31, 0, .ro, 0⟩]⟩]

def regsCSK : List RegSpec := regsCSK0 ++ regsCSK1

/-- Registers of block PST, part 1. -/
def regsPST0 : List RegSpec := [
  ⟨0x0, .c, .dev, [⟨6, 0, .rwp, 4⟩]⟩,
  ⟨0x4, .c, .dev, [⟨13, 0, .rwp, 0x1000⟩]⟩,
  ⟨0x8, .w, .dev, [⟨0, 0, .wo, 0⟩]⟩,
  ⟨0xC, .c, .dev, [⟨31, 31, .ro, 0⟩, ⟨30, 30, .ro, 0⟩, ⟨29, 29, .ro, 0⟩, ⟨15, 0, .ro, 0⟩]⟩,
  ⟨0x10, .c, .dev, [⟨31, 0, .ro, 0⟩]⟩,
  ⟨0x14, .c, .dev, [⟨31, 0, .ro, 0⟩]⟩,
  ⟨0x18, .c, .dev, [⟨31, 0, .ro, 0⟩]⟩,
  ⟨0x1C, .c, .dev, [⟨31, 0, .ro, 0⟩]⟩,
  ⟨0x20, .c, .dev, [⟨31, 0, .ro, 0⟩]⟩,
  ⟨0x24, .c, .dev, [⟨31, 0, .ro, 0⟩]⟩,
  ⟨0x28, .c, .dev, [⟨31, 0, .ro, 0⟩]⟩,
  ⟨0x2C, .c, .dev, [⟨31, 0, .ro, 0⟩]⟩,
  ⟨0x30, .c, .dev, [⟨31, 0, .ro, 0⟩]⟩,
  ⟨0x34, .c, .dev, [⟨31, 0, .ro, 0⟩]⟩,
  ⟨0x40, .c, .dev, [⟨15, 0, .ro, 0⟩]⟩,
  ⟨0x44, .c, .dev, [⟨15, 0, .rc, 0⟩]⟩,
  ⟨0x48, .c, .dev, [⟨31, 0, .ro, 0⟩]⟩,
  ⟨0x4C, .c, .dev, [⟨31, 0, .ro, 0⟩]⟩,
  ⟨0x50, .c, .dev, [⟨31, 0, .ro, 0⟩]⟩,
  ⟨0x54, .c, .dev, [⟨31, 0, .ro, 0⟩]⟩,
  ⟨0x60, .c, .dev, [⟨2, 2, .w1c, 0⟩, ⟨1, 1, .w1c, 0⟩, ⟨0, 0, .w1c, 0⟩]⟩,
  ⟨0x64, .c, .dev, [⟨2, 2, .rw, 0⟩, ⟨1, 1, .rw, 1⟩, ⟨0, 0, .rw, 0⟩]⟩,
  ⟨0x68, .c, .dev, [⟨15, 0, .rwp, 0x40⟩]⟩,
  ⟨0x100, .c, .dev, [⟨31, 0, .ro, 0⟩]⟩]

/-- Registers of block PST, part 2. -/
def regsPST1 : List RegSpec := [
  ⟨0x104, .c, .dev, [⟨31, 0, .ro, 0⟩]⟩,
  ⟨0x108, .c, .dev, [⟨31, 0, .rwp, 0⟩]⟩,
  ⟨0x10C, .c, .dev, [⟨6, 0, .rwp, 0x5a⟩]⟩,
  ⟨0x110, .c, .dev, [⟨17, 16, .rwp, 1⟩, ⟨15, 0, .rwp, 0x32⟩]⟩,
  ⟨0x114, .c, .dev, [⟨13, 13, .ro, 0⟩, ⟨12, 12, .ro, 0⟩, ⟨11, 11, .ro, 0⟩, ⟨10, 10, .ro, 0⟩, ⟨9, 9, .ro, 0⟩, ⟨8, 8, .ro, 0⟩, ⟨1, 0, .ro, 2⟩]⟩,
  ⟨0x118, .c, .dev, [⟨31, 0, .ro, 0⟩]⟩,
  ⟨0x11C, .c, .dev, [⟨31, 0, .ro, 0⟩]⟩,
  ⟨0x120, .c, .dev, [⟨31, 0, .ro, 0⟩]⟩,
  ⟨0x124, .c, .dev, [⟨31, 0, .ro, 0⟩]⟩,
  ⟨0x128, .c, .dev, [⟨31, 0, .ro, 0⟩]⟩,
  ⟨0x12C, .c, .dev, [⟨31, 0, .ro, 0⟩]⟩,
  ⟨0x130, .c, .dev, [⟨31, 0, .ro, 0⟩]⟩,
  ⟨0x140, .c, .dev, [⟨31, 16, .rwp, 0xe10⟩, ⟨15, 0, .rwp, 0x3b6⟩]⟩,
  ⟨0x144, .c, .dev, [⟨31, 22, .rwp, 0x398⟩, ⟨21, 12, .rwp, 0x258⟩, ⟨11, 0, .rwp, 0x190⟩]⟩,
  ⟨0x148, .c, .dev, [⟨15, 0, .rwp, 0x61a8⟩]⟩,
  ⟨0x150, .c, .dev, [⟨4, 4, .w1c, 0⟩, ⟨3, 3, .w1c, 0⟩, ⟨2, 2, .w1c, 0⟩, ⟨1, 1, .w1c, 0⟩, ⟨0, 0, .w1c, 0⟩]⟩,
  ⟨0x154, .c, .dev, [⟨4, 4, .rw, 1⟩, ⟨3, 3, .rw, 1⟩, ⟨2, 2, .rw, 1⟩, ⟨1, 1, .rw, 1⟩, ⟨0, 0, .rw, 0⟩]⟩,
  ⟨0x200, .c, .dev, [⟨31, 28, .ro, 1⟩, ⟨27, 26, .ro, 0⟩, ⟨25, 25, .ro, 0⟩, ⟨24, 24, .ro, 0⟩, ⟨23, 23, .ro, 0⟩, ⟨22, 22, .ro, 0⟩, ⟨19, 16, .ro, 0xf⟩]⟩,
  ⟨0x204, .c, .dev, [⟨31, 16, .rwp, 0x7d0⟩, ⟨11, 8, .rwp, 4⟩, ⟨0, 0, .rwp, 1⟩]⟩,
  ⟨0x208, .w, .dev, [⟨31, 16, .wo, 0⟩, ⟨0, 0, .wo, 0⟩]⟩,
  ⟨0x20C, .c, .dev, [⟨31, 16, .ro, 0⟩, ⟨15, 0, .ro, 0⟩]⟩,
  ⟨0x210, .c, .dev, [⟨31, 16, .ro, 0⟩, ⟨15, 0, .ro, 0⟩]⟩,
  ⟨0x218, .c, .dev, [⟨31, 0, .ro, 0⟩]⟩,
  ⟨0x21C, .c, .dev, [⟨31, 0, .ro, 0⟩]⟩]

/-- Registers of block PST, part 3. -/
def regsPST2 : List RegSpec := [
  ⟨0x220, .c, .dev, [⟨31, 0, .ro, 0⟩]⟩,
  ⟨0x224, .c, .dev, [⟨31, 0, .ro, 0⟩]⟩,
  ⟨0x228, .c, .dev, [⟨31, 0, .ro, 0⟩]⟩,
  ⟨0x22C, .c, .dev, [⟨31, 0, .ro, 0⟩]⟩,
  ⟨0x230, .c, .dev, [⟨31, 0, .ro, 0⟩]⟩,
  ⟨0x234, .c, .dev, [⟨31, 0, .ro, 0⟩]⟩,
  ⟨0x238, .c, .dev, [⟨31, 0, .ro, 0⟩]⟩,
  ⟨0x23C, .c, .dev, [⟨31, 0, .ro, 0⟩]⟩,
  ⟨0x240, .c, .dev, [⟨4, 4, .w1c, 0⟩, ⟨3, 3, .w1c, 0⟩, ⟨2, 2, .w1c, 0⟩, ⟨1, 1, .w1c, 0⟩, ⟨0, 0, .w1c, 0⟩]⟩,
  ⟨0x244, .c, .dev, [⟨4, 4, .rw, 1⟩, ⟨3, 3, .rw, 1⟩, ⟨2, 2, .rw, 0⟩, ⟨1, 1, .rw, 0⟩, ⟨0, 0, .rw, 1⟩]⟩]

def regsPST : List RegSpec := regsPST0 ++ regsPST1 ++ regsPST2

/-- Registers of block MIR, part 1. -/
def regsMIR0 : List RegSpec := [
  ⟨0x0, .c, .dev, [⟨31, 31, .w1s, 0⟩, ⟨7, 7, .rwp, 1⟩, ⟨4, 4, .rwp, 0⟩, ⟨0, 0, .rwp, 0⟩]⟩,
  ⟨0x4, .c, .dev, [⟨31, 0, .rwp, 0⟩]⟩,
  ⟨0x8, .c, .dev, [⟨31, 0, .rwp, 0⟩]⟩,
  ⟨0x10, .c, .dev, [⟨31, 28, .ro, 0⟩, ⟨27, 24, .ro, 0⟩, ⟨23, 23, .ro, 0⟩, ⟨22, 22, .ro, 0⟩, ⟨21, 18, .ro, 0⟩, ⟨17, 17, .ro, 0⟩]⟩,
  ⟨0x14, .c, .dev, [⟨31, 0, .ro, 0⟩]⟩,
  ⟨0x18, .c, .dev, [⟨31, 24, .ro, 0xff⟩, ⟨15, 0, .ro, 0xffff⟩]⟩,
  ⟨0x20, .c, .dev, [⟨31, 16, .rwp, 0x3c⟩, ⟨15, 8, .rwp, 2⟩, ⟨7, 0, .rwp, 2⟩]⟩,
  ⟨0x24, .c, .dev, [⟨1, 0, .rwp, 0⟩]⟩,
  ⟨0x28, .c, .dev, [⟨31, 31, .ro, 0⟩, ⟨30, 29, .ro, 0⟩, ⟨28, 16, .ro, 0⟩, ⟨15, 0, .ro, 0⟩]⟩,
  ⟨0x2C, .c, .dev, [⟨31, 16, .rc, 0⟩, ⟨15, 0, .ro, 0⟩]⟩,
  ⟨0x40, .c, .dev, [⟨31, 0, .rwp, 0⟩]⟩,
  ⟨0x44, .c, .dev, [⟨31, 0, .rwp, 0⟩]⟩,
  ⟨0x48, .c, .dev, [⟨31, 0, .rwp, 0⟩]⟩,
  ⟨0x4C, .c, .dev, [⟨31, 0, .rwp, 0⟩]⟩,
  ⟨0x50, .c, .dev, [⟨31, 16, .rwp, 0xbac2⟩, ⟨15, 0, .rwp, 0xbac2⟩]⟩,
  ⟨0x54, .c, .dev, [⟨31, 31, .rwp, 0⟩, ⟨26, 24, .rwp, 0⟩, ⟨22, 20, .rwp, 1⟩, ⟨11, 0, .rwp, 0⟩]⟩,
  ⟨0x58, .c, .dev, [⟨11, 0, .rwl, 0⟩]⟩,
  ⟨0x60, .w, .dev, [⟨2, 2, .wo, 0⟩, ⟨1, 1, .wo, 0⟩, ⟨0, 0, .wo, 0⟩]⟩,
  ⟨0x70, .c, .dev, [⟨7, 7, .w1c, 0⟩, ⟨6, 6, .w1c, 0⟩, ⟨5, 5, .w1c, 0⟩, ⟨4, 4, .w1c, 0⟩, ⟨3, 3, .w1c, 0⟩, ⟨2, 2, .w1c, 0⟩, ⟨1, 1, .w1c, 0⟩, ⟨0, 0, .w1c, 0⟩]⟩,
  ⟨0x74, .c, .dev, [⟨7, 0, .rw, 0xff⟩]⟩,
  ⟨0x80, .c, .dev, [⟨31, 0, .ro, 0⟩]⟩,
  ⟨0x84, .c, .dev, [⟨31, 0, .ro, 0⟩]⟩,
  ⟨0x88, .c, .dev, [⟨31, 0, .ro, 0⟩]⟩,
  ⟨0x8C, .c, .dev, [⟨31, 0, .ro, 0⟩]⟩]

/-- Registers of block MIR, part 2. -/
def regsMIR1 : List RegSpec := [
  ⟨0x90, .c, .dev, [⟨31, 0, .ro, 0⟩]⟩,
  ⟨0x94, .c, .dev, [⟨31, 0, .ro, 0⟩]⟩,
  ⟨0x98, .c, .dev, [⟨31, 0, .ro, 0⟩]⟩,
  ⟨0x9C, .c, .dev, [⟨31, 0, .ro, 0⟩]⟩]

def regsMIR : List RegSpec := regsMIR0 ++ regsMIR1

/-- Registers of block NET, part 1. -/
def regsNET0 : List RegSpec := [
  ⟨0x0, .w, .agent, [⟨2, 0, .rw, 0⟩]⟩,
  ⟨0x4, .c, .dev, [⟨31, 31, .w1s, 0⟩, ⟨12, 8, .rwp, 0x14⟩, ⟨1, 0, .rwp, 1⟩]⟩,
  ⟨0x8, .c, .dev, [⟨31, 16, .rwp, 0x32⟩, ⟨13, 8, .rwp, 0x30⟩, ⟨2, 0, .rwp, 6⟩]⟩,
  ⟨0x10, .c, .dev, [⟨31, 20, .rwp, 0x37⟩, ⟨19, 8, .rwp, 0x12c⟩, ⟨7, 4, .rwp, 5⟩, ⟨3, 0, .rwp, 8⟩]⟩,
  ⟨0x14, .c, .dev, [⟨31, 16, .rwp, 0x1f4⟩, ⟨15, 0, .rwp, 0x1388⟩]⟩,
  ⟨0x18, .c, .dev, [⟨31, 16, .rwp, 0x64⟩, ⟨15, 0, .rwp, 0xa⟩]⟩,
  ⟨0x20, .c, .dev, [⟨20, 0, .ro, 0⟩]⟩,
  ⟨0x40, .c, .dev, [⟨4, 4, .w1c, 0⟩, ⟨3, 3, .w1c, 0⟩, ⟨2, 2, .w1c, 0⟩, ⟨1, 1, .w1c, 0⟩, ⟨0, 0, .w1c, 0⟩]⟩,
  ⟨0x44, .c, .dev, [⟨4, 0, .rw, 0xe⟩]⟩,
  ⟨0x50, .c, .dev, [⟨31, 0, .ro, 0⟩]⟩,
  ⟨0x54, .c, .dev, [⟨31, 0, .ro, 0⟩]⟩,
  ⟨0x58, .c, .dev, [⟨31, 0, .ro, 0⟩]⟩,
  ⟨0x5C, .c, .dev, [⟨31, 0, .ro, 0⟩]⟩,
  ⟨0x100, .c, .port, [⟨31, 31, .rwp, 0⟩, ⟨9, 8, .rwp, 0⟩, ⟨2, 0, .rwp, 0⟩]⟩,
  ⟨0x104, .c, .port, [⟨31, 16, .ro, 0⟩, ⟨7, 0, .ro, 0⟩]⟩,
  ⟨0x108, .c, .port, [⟨31, 24, .rwp, 8⟩, ⟨15, 0, .rwp, 0⟩]⟩,
  ⟨0x10C, .c, .port, [⟨31, 16, .rwp, 0x3800⟩, ⟨15, 0, .rwp, 0x3c00⟩]⟩,
  ⟨0x110, .c, .port, [⟨31, 31, .rwp, 1⟩, ⟨15, 0, .rwp, 0x2000⟩]⟩,
  ⟨0x114, .c, .port, [⟨16, 16, .rwp, 1⟩, ⟨13, 8, .rwp, 0x30⟩, ⟨2, 0, .rwp, 6⟩]⟩,
  ⟨0x180, .c, .port, [⟨31, 0, .ro, 0⟩]⟩,
  ⟨0x184, .c, .port, [⟨31, 0, .ro, 0⟩]⟩,
  ⟨0x188, .c, .port, [⟨31, 0, .ro, 0⟩]⟩,
  ⟨0x18C, .c, .port, [⟨31, 0, .ro, 0⟩]⟩,
  ⟨0x190, .c, .port, [⟨31, 0, .ro, 0⟩]⟩]

/-- Registers of block NET, part 2. -/
def regsNET1 : List RegSpec := [
  ⟨0x194, .c, .port, [⟨31, 0, .ro, 0⟩]⟩,
  ⟨0x198, .c, .port, [⟨31, 0, .ro, 0⟩]⟩,
  ⟨0x19C, .c, .port, [⟨31, 0, .ro, 0⟩]⟩,
  ⟨0x1A0, .c, .port, [⟨31, 0, .ro, 0⟩]⟩,
  ⟨0x1A4, .c, .port, [⟨31, 0, .ro, 0⟩]⟩,
  ⟨0x1A8, .c, .port, [⟨31, 0, .ro, 0⟩]⟩,
  ⟨0x1AC, .c, .port, [⟨31, 0, .ro, 0⟩]⟩,
  ⟨0x1B0, .c, .port, [⟨31, 0, .ro, 0⟩]⟩,
  ⟨0x1B4, .c, .port, [⟨31, 0, .ro, 0⟩]⟩,
  ⟨0x1B8, .c, .port, [⟨31, 0, .ro, 0⟩]⟩,
  ⟨0x1BC, .c, .port, [⟨31, 0, .ro, 0⟩]⟩,
  ⟨0x1C0, .c, .port, [⟨31, 0, .ro, 0⟩]⟩,
  ⟨0x1C4, .c, .port, [⟨31, 0, .ro, 0⟩]⟩,
  ⟨0x200, .c, .port, [⟨31, 0, .rwp, 0⟩]⟩,
  ⟨0x204, .c, .port, [⟨27, 16, .rwp, 0⟩, ⟨15, 0, .rwp, 0⟩]⟩,
  ⟨0x208, .c, .port, [⟨31, 0, .rwp, 0⟩]⟩,
  ⟨0x20C, .c, .port, [⟨31, 0, .rwp, 0⟩]⟩,
  ⟨0x210, .c, .port, [⟨31, 0, .rwp, 0⟩]⟩,
  ⟨0x214, .c, .port, [⟨31, 0, .rwp, 0⟩]⟩,
  ⟨0x218, .c, .port, [⟨31, 0, .rwp, 0⟩]⟩,
  ⟨0x220, .c, .port, [⟨31, 0, .rwp, 0⟩]⟩,
  ⟨0x224, .c, .port, [⟨27, 16, .rwp, 0⟩, ⟨15, 0, .rwp, 0⟩]⟩,
  ⟨0x228, .c, .port, [⟨31, 0, .rwp, 0⟩]⟩,
  ⟨0x22C, .c, .port, [⟨31, 0, .rwp, 0⟩]⟩]

/-- Registers of block NET, part 3. -/
def regsNET2 : List RegSpec := [
  ⟨0x230, .c, .port, [⟨31, 0, .rwp, 0⟩]⟩,
  ⟨0x234, .c, .port, [⟨31, 0, .rwp, 0⟩]⟩,
  ⟨0x238, .c, .port, [⟨31, 0, .rwp, 0⟩]⟩,
  ⟨0x240, .c, .port, [⟨31, 0, .rwp, 0⟩]⟩,
  ⟨0x244, .c, .port, [⟨27, 16, .rwp, 0⟩, ⟨15, 0, .rwp, 0⟩]⟩,
  ⟨0x248, .c, .port, [⟨31, 0, .rwp, 0⟩]⟩,
  ⟨0x24C, .c, .port, [⟨31, 0, .rwp, 0⟩]⟩,
  ⟨0x250, .c, .port, [⟨31, 0, .rwp, 0⟩]⟩,
  ⟨0x254, .c, .port, [⟨31, 0, .rwp, 0⟩]⟩,
  ⟨0x258, .c, .port, [⟨31, 0, .rwp, 0⟩]⟩,
  ⟨0x260, .c, .port, [⟨31, 0, .rwp, 0⟩]⟩,
  ⟨0x264, .c, .port, [⟨27, 16, .rwp, 0⟩, ⟨15, 0, .rwp, 0⟩]⟩,
  ⟨0x268, .c, .port, [⟨31, 0, .rwp, 0⟩]⟩,
  ⟨0x26C, .c, .port, [⟨31, 0, .rwp, 0⟩]⟩,
  ⟨0x270, .c, .port, [⟨31, 0, .rwp, 0⟩]⟩,
  ⟨0x274, .c, .port, [⟨31, 0, .rwp, 0⟩]⟩,
  ⟨0x278, .c, .port, [⟨31, 0, .rwp, 0⟩]⟩,
  ⟨0x280, .c, .port, [⟨31, 0, .rwp, 0⟩]⟩,
  ⟨0x284, .c, .port, [⟨27, 16, .rwp, 0⟩, ⟨15, 0, .rwp, 0⟩]⟩,
  ⟨0x288, .c, .port, [⟨31, 0, .rwp, 0⟩]⟩,
  ⟨0x28C, .c, .port, [⟨31, 0, .rwp, 0⟩]⟩,
  ⟨0x290, .c, .port, [⟨31, 0, .rwp, 0⟩]⟩,
  ⟨0x294, .c, .port, [⟨31, 0, .rwp, 0⟩]⟩,
  ⟨0x298, .c, .port, [⟨31, 0, .rwp, 0⟩]⟩]

/-- Registers of block NET, part 4. -/
def regsNET3 : List RegSpec := [
  ⟨0x2A0, .c, .port, [⟨31, 0, .rwp, 0⟩]⟩,
  ⟨0x2A4, .c, .port, [⟨27, 16, .rwp, 0⟩, ⟨15, 0, .rwp, 0⟩]⟩,
  ⟨0x2A8, .c, .port, [⟨31, 0, .rwp, 0⟩]⟩,
  ⟨0x2AC, .c, .port, [⟨31, 0, .rwp, 0⟩]⟩,
  ⟨0x2B0, .c, .port, [⟨31, 0, .rwp, 0⟩]⟩,
  ⟨0x2B4, .c, .port, [⟨31, 0, .rwp, 0⟩]⟩,
  ⟨0x2B8, .c, .port, [⟨31, 0, .rwp, 0⟩]⟩,
  ⟨0x2C0, .c, .port, [⟨31, 0, .rwp, 0⟩]⟩,
  ⟨0x2C4, .c, .port, [⟨27, 16, .rwp, 0⟩, ⟨15, 0, .rwp, 0⟩]⟩,
  ⟨0x2C8, .c, .port, [⟨31, 0, .rwp, 0⟩]⟩,
  ⟨0x2CC, .c, .port, [⟨31, 0, .rwp, 0⟩]⟩,
  ⟨0x2D0, .c, .port, [⟨31, 0, .rwp, 0⟩]⟩,
  ⟨0x2D4, .c, .port, [⟨31, 0, .rwp, 0⟩]⟩,
  ⟨0x2D8, .c, .port, [⟨31, 0, .rwp, 0⟩]⟩,
  ⟨0x2E0, .c, .port, [⟨31, 0, .rwp, 0⟩]⟩,
  ⟨0x2E4, .c, .port, [⟨27, 16, .rwp, 0⟩, ⟨15, 0, .rwp, 0⟩]⟩,
  ⟨0x2E8, .c, .port, [⟨31, 0, .rwp, 0⟩]⟩,
  ⟨0x2EC, .c, .port, [⟨31, 0, .rwp, 0⟩]⟩,
  ⟨0x2F0, .c, .port, [⟨31, 0, .rwp, 0⟩]⟩,
  ⟨0x2F4, .c, .port, [⟨31, 0, .rwp, 0⟩]⟩,
  ⟨0x2F8, .c, .port, [⟨31, 0, .rwp, 0⟩]⟩]

def regsNET : List RegSpec := regsNET0 ++ regsNET1 ++ regsNET2 ++ regsNET3

/-- Registers of block DRM, part 1. -/
def regsDRM0 : List RegSpec := [
  ⟨0x0, .w, .agent, [⟨4, 0, .rw, 0⟩]⟩,
  ⟨0x4, .c, .dev, [⟨31, 31, .w1s, 0⟩, ⟨15, 0, .rwp, 0x64⟩]⟩,
  ⟨0x8, .c, .dev, [⟨31, 31, .ro, 0⟩, ⟨30, 29, .ro, 0⟩, ⟨28, 28, .ro, 0⟩, ⟨27, 24, .ro, 0⟩, ⟨9, 0, .ro, 0⟩]⟩,
  ⟨0x10, .c, .dev, [⟨31, 16, .rwp, 0x100⟩, ⟨15, 0, .rwp, 0x400⟩]⟩,
  ⟨0x14, .c, .dev, [⟨31, 16, .rwp, 0x800⟩, ⟨15, 0, .rwp, 0x2000⟩]⟩,
  ⟨0x18, .c, .dev, [⟨31, 24, .rwp, 0x18⟩, ⟨0, 0, .rwp, 1⟩]⟩,
  ⟨0x1C, .c, .dev, [⟨15, 8, .rwl, 0x10⟩, ⟨7, 0, .rwp, 8⟩]⟩,
  ⟨0x20, .w, .dev, [⟨31, 31, .wo, 0⟩, ⟨30, 30, .wo, 0⟩]⟩,
  ⟨0x24, .c, .dev, [⟨31, 31, .ro, 0⟩, ⟨30, 30, .ro, 0⟩, ⟨4, 0, .ro, 0⟩]⟩,
  ⟨0x40, .c, .dev, [⟨6, 6, .w1c, 0⟩, ⟨5, 5, .w1c, 0⟩, ⟨4, 4, .w1c, 0⟩, ⟨3, 3, .w1c, 0⟩, ⟨2, 2, .w1c, 0⟩, ⟨1, 1, .w1c, 0⟩, ⟨0, 0, .w1c, 0⟩]⟩,
  ⟨0x44, .c, .dev, [⟨6, 0, .rw, 0x66⟩]⟩,
  ⟨0x60, .c, .dev, [⟨31, 0, .ro, 0⟩]⟩,
  ⟨0x64, .c, .dev, [⟨31, 0, .ro, 0⟩]⟩,
  ⟨0x68, .c, .dev, [⟨31, 0, .ro, 0⟩]⟩,
  ⟨0x6C, .c, .dev, [⟨31, 0, .ro, 0⟩]⟩,
  ⟨0x70, .c, .dev, [⟨31, 0, .ro, 0⟩]⟩,
  ⟨0x74, .c, .dev, [⟨31, 0, .ro, 0⟩]⟩,
  ⟨0x100, .c, .dch, [⟨31, 30, .ro, 0⟩, ⟨29, 29, .ro, 0⟩, ⟨28, 28, .ro, 0⟩, ⟨27, 27, .ro, 0⟩, ⟨26, 26, .ro, 0⟩, ⟨15, 8, .ro, 0⟩]⟩,
  ⟨0x104, .c, .dch, [⟨18, 16, .rwp, 4⟩, ⟨15, 12, .rwp, 0⟩, ⟨8, 8, .rwp, 0⟩, ⟨7, 0, .rwp, 0x5f⟩]⟩,
  ⟨0x108, .c, .dch, [⟨31, 16, .rc, 0⟩, ⟨15, 0, .rc, 0⟩]⟩,
  ⟨0x10C, .c, .dch, [⟨31, 31, .ro, 0⟩, ⟨27, 27, .ro, 0⟩, ⟨26, 26, .ro, 0⟩, ⟨25, 22, .ro, 0⟩, ⟨21, 18, .ro, 0⟩, ⟨17, 13, .ro, 0⟩]⟩,
  ⟨0x110, .c, .dch, [⟨17, 0, .ro, 0⟩]⟩,
  ⟨0x114, .c, .dch, [⟨31, 24, .ro, 0⟩, ⟨23, 16, .ro, 0⟩, ⟨15, 8, .ro, 0⟩]⟩,
  ⟨0x120, .c, .dch, [⟨31, 31, .ro, 0⟩, ⟨19, 16, .rw, 0⟩, ⟨15, 8, .rw, 0⟩, ⟨7, 0, .rw, 0⟩]⟩]

/-- Registers of block DRM, part 2. -/
def regsDRM1 : List RegSpec := [
  ⟨0x124, .c, .dch, [⟨31, 16, .rw, 0⟩, ⟨15, 0, .rw, 0⟩]⟩,
  ⟨0x128, .c, .dch, [⟨31, 16, .rw, 0⟩, ⟨15, 0, .rw, 0⟩]⟩,
  ⟨0x12C, .c, .dch, [⟨31, 16, .rw, 0⟩, ⟨15, 0, .rw, 0⟩]⟩,
  ⟨0x130, .c, .dch, [⟨15, 0, .rw, 0⟩]⟩,
  ⟨0x134, .c, .dch, [⟨31, 16, .rw, 0⟩, ⟨15, 0, .rw, 0⟩]⟩,
  ⟨0x138, .c, .dch, [⟨31, 16, .rw, 0⟩, ⟨15, 8, .rw, 0⟩, ⟨7, 0, .rw, 0⟩]⟩,
  ⟨0x13C, .c, .dch, [⟨31, 24, .rw, 0⟩, ⟨23, 16, .rw, 0⟩, ⟨15, 8, .rw, 0⟩, ⟨7, 0, .rw, 0⟩]⟩,
  ⟨0x140, .c, .dch, [⟨31, 31, .ro, 0⟩, ⟨19, 16, .rw, 0⟩, ⟨15, 8, .rw, 0⟩, ⟨7, 0, .rw, 0⟩]⟩,
  ⟨0x144, .c, .dch, [⟨31, 16, .rw, 0⟩, ⟨15, 0, .rw, 0⟩]⟩,
  ⟨0x148, .c, .dch, [⟨31, 16, .rw, 0⟩, ⟨15, 0, .rw, 0⟩]⟩,
  ⟨0x14C, .c, .dch, [⟨31, 16, .rw, 0⟩, ⟨15, 0, .rw, 0⟩]⟩,
  ⟨0x150, .c, .dch, [⟨15, 0, .rw, 0⟩]⟩,
  ⟨0x154, .c, .dch, [⟨31, 16, .rw, 0⟩, ⟨15, 0, .rw, 0⟩]⟩,
  ⟨0x158, .c, .dch, [⟨31, 16, .rw, 0⟩, ⟨15, 8, .rw, 0⟩, ⟨7, 0, .rw, 0⟩]⟩,
  ⟨0x15C, .c, .dch, [⟨31, 24, .rw, 0⟩, ⟨23, 16, .rw, 0⟩, ⟨15, 8, .rw, 0⟩, ⟨7, 0, .rw, 0⟩]⟩]

def regsDRM : List RegSpec := regsDRM0 ++ regsDRM1

/-- Registers of block CEL, part 1. -/
def regsCEL0 : List RegSpec := [
  ⟨0x0, .w, .agent, [⟨5, 0, .rw, 0⟩]⟩,
  ⟨0x4, .w, .agent, [⟨6, 0, .rw, 0⟩]⟩,
  ⟨0x8, .c, .dev, [⟨31, 31, .w1s, 0⟩, ⟨0, 0, .rwl, 0⟩]⟩,
  ⟨0xC, .c, .dev, [⟨31, 28, .ro, 0⟩, ⟨27, 26, .ro, 0⟩, ⟨25, 13, .ro, 0⟩, ⟨12, 0, .ro, 0⟩]⟩,
  ⟨0x10, .c, .dev, [⟨31, 31, .ro, 0⟩, ⟨30, 29, .ro, 0⟩, ⟨28, 26, .ro, 0⟩, ⟨25, 21, .ro, 0⟩, ⟨9, 0, .ro, 0⟩]⟩,
  ⟨0x14, .c, .dev, [⟨25, 16, .ro, 0⟩, ⟨9, 0, .rwp, 0x78⟩]⟩,
  ⟨0x18, .c, .dev, [⟨31, 24, .ro, 0⟩, ⟨15, 0, .rwp, 0x200⟩]⟩,
  ⟨0x1C, .c, .dev, [⟨31, 24, .rwp, 3⟩, ⟨23, 16, .rwp, 0x3c⟩, ⟨15, 8, .rwp, 0x64⟩, ⟨7, 0, .rwp, 7⟩]⟩,
  ⟨0x20, .c, .dev, [⟨16, 16, .rwp, 1⟩, ⟨12, 8, .rwp, 4⟩, ⟨4, 0, .rwp, 8⟩]⟩,
  ⟨0x24, .c, .dev, [⟨7, 0, .rwp, 0xa⟩]⟩,
  ⟨0x28, .c, .dev, [⟨31, 31, .ro, 0⟩, ⟨30, 28, .ro, 0⟩, ⟨15, 0, .ro, 0⟩]⟩,
  ⟨0x2C, .c, .dev, [⟨20, 0, .ro, 0⟩]⟩,
  ⟨0x40, .c, .dev, [⟨5, 5, .w1c, 0⟩, ⟨4, 4, .w1c, 0⟩, ⟨3, 3, .w1c, 0⟩, ⟨2, 2, .w1c, 0⟩, ⟨1, 1, .w1c, 0⟩, ⟨0, 0, .w1c, 0⟩]⟩,
  ⟨0x44, .c, .dev, [⟨5, 0, .rw, 0x3c⟩]⟩,
  ⟨0x60, .c, .dev, [⟨31, 0, .ro, 0⟩]⟩,
  ⟨0x64, .c, .dev, [⟨31, 0, .ro, 0⟩]⟩,
  ⟨0x68, .c, .dev, [⟨31, 0, .ro, 0⟩]⟩,
  ⟨0x6C, .c, .dev, [⟨31, 0, .ro, 0⟩]⟩,
  ⟨0x70, .c, .dev, [⟨31, 0, .ro, 0⟩]⟩,
  ⟨0x74, .c, .dev, [⟨31, 0, .ro, 0⟩]⟩,
  ⟨0x78, .c, .dev, [⟨31, 0, .ro, 0⟩]⟩,
  ⟨0x7C, .c, .dev, [⟨31, 0, .ro, 0⟩]⟩,
  ⟨0x80, .c, .dev, [⟨31, 0, .ro, 0⟩]⟩,
  ⟨0x84, .c, .dev, [⟨31, 0, .ro, 0⟩]⟩]

/-- Registers of block CEL, part 2. -/
def regsCEL1 : List RegSpec := [
  ⟨0x100, .c, .cch, [⟨31, 30, .ro, 0⟩, ⟨29, 29, .ro, 0⟩, ⟨15, 0, .ro, 0⟩]⟩,
  ⟨0x104, .c, .cch, [⟨31, 24, .rc, 0⟩, ⟨23, 12, .rc, 0⟩, ⟨11, 0, .rc, 0⟩]⟩,
  ⟨0x200, .c, .lun, [⟨31, 30, .ro, 0⟩, ⟨29, 24, .ro, 0⟩, ⟨23, 12, .ro, 0⟩, ⟨11, 0, .ro, 0⟩]⟩,
  ⟨0x204, .w, .agent, [⟨19, 0, .rw, 0⟩]⟩,
  ⟨0x208, .c, .lun, [⟨31, 29, .ro, 0⟩, ⟨28, 28, .ro, 0⟩, ⟨27, 14, .ro, 0⟩]⟩,
  ⟨0x20C, .n, .lun, [⟨31, 0, .ro, 0⟩]⟩,
  ⟨0x210, .w, .agent, [⟨31, 31, .wo, 0⟩, ⟨30, 30, .ro, 0⟩, ⟨25, 20, .rw, 0⟩, ⟨19, 0, .rw, 0⟩]⟩,
  ⟨0x214, .w, .agent, [⟨12, 0, .rw, 0⟩]⟩,
  ⟨0x218, .w, .agent, [⟨15, 8, .ro, 0⟩, ⟨7, 0, .ro, 0⟩]⟩,
  ⟨0x4000, .w, .agent, [⟨31, 0, .rw, 0⟩]⟩]

def regsCEL : List RegSpec := regsCEL0 ++ regsCEL1

/-- Registers of block CPH, part 1. -/
def regsCPH0 : List RegSpec := [
  ⟨0x0, .w, .agent, [⟨11, 0, .rw, 0x10⟩]⟩,
  ⟨0x4, .c, .dev, [⟨31, 31, .w1s, 0⟩, ⟨1, 1, .rwl, 1⟩, ⟨0, 0, .rwl, 1⟩]⟩,
  ⟨0x8, .c, .dev, [⟨31, 31, .ro, 0⟩, ⟨30, 30, .ro, 0⟩, ⟨9, 0, .ro, 0⟩]⟩,
  ⟨0x40, .c, .dev, [⟨4, 4, .w1c, 0⟩, ⟨3, 3, .w1c, 0⟩, ⟨2, 2, .w1c, 0⟩, ⟨1, 1, .w1c, 0⟩, ⟨0, 0, .w1c, 0⟩]⟩,
  ⟨0x44, .c, .dev, [⟨4, 0, .rw, 0xf⟩]⟩,
  ⟨0x60, .c, .dev, [⟨31, 0, .ro, 0⟩]⟩,
  ⟨0x64, .c, .dev, [⟨31, 0, .ro, 0⟩]⟩,
  ⟨0x68, .c, .dev, [⟨31, 0, .ro, 0⟩]⟩,
  ⟨0x6C, .c, .dev, [⟨31, 0, .ro, 0⟩]⟩,
  ⟨0x70, .c, .dev, [⟨31, 0, .ro, 0⟩]⟩,
  ⟨0x74, .c, .dev, [⟨31, 0, .ro, 0⟩]⟩,
  ⟨0x100, .c, .kslot, [⟨31, 30, .ro, 0⟩, ⟨29, 29, .rw, 0⟩, ⟨28, 28, .rw, 1⟩, ⟨27, 24, .rw, 0⟩]⟩,
  ⟨0x104, .c, .kslot, [⟨23, 0, .ro, 0⟩]⟩,
  ⟨0x108, .w, .agent, [⟨31, 31, .wo, 0⟩, ⟨30, 30, .ro, 0⟩, ⟨23, 16, .ro, 0⟩, ⟨1, 0, .rw, 0⟩]⟩,
  ⟨0x140, .w, .agent, [⟨31, 0, .wo, 0⟩]⟩,
  ⟨0x144, .w, .agent, [⟨31, 0, .wo, 0⟩]⟩,
  ⟨0x148, .w, .agent, [⟨31, 0, .wo, 0⟩]⟩,
  ⟨0x14C, .w, .agent, [⟨31, 0, .wo, 0⟩]⟩,
  ⟨0x150, .w, .agent, [⟨31, 0, .wo, 0⟩]⟩,
  ⟨0x154, .w, .agent, [⟨31, 0, .wo, 0⟩]⟩,
  ⟨0x158, .w, .agent, [⟨31, 0, .wo, 0⟩]⟩,
  ⟨0x15C, .w, .agent, [⟨31, 0, .wo, 0⟩]⟩,
  ⟨0x160, .w, .agent, [⟨31, 0, .wo, 0⟩]⟩,
  ⟨0x164, .w, .agent, [⟨31, 0, .wo, 0⟩]⟩]

/-- Registers of block CPH, part 2. -/
def regsCPH1 : List RegSpec := [
  ⟨0x168, .w, .agent, [⟨31, 0, .wo, 0⟩]⟩,
  ⟨0x16C, .w, .agent, [⟨31, 0, .wo, 0⟩]⟩,
  ⟨0x170, .w, .agent, [⟨31, 0, .wo, 0⟩]⟩,
  ⟨0x174, .w, .agent, [⟨31, 0, .wo, 0⟩]⟩,
  ⟨0x178, .w, .agent, [⟨31, 0, .wo, 0⟩]⟩,
  ⟨0x17C, .w, .agent, [⟨31, 0, .wo, 0⟩]⟩]

def regsCPH : List RegSpec := regsCPH0 ++ regsCPH1

/-- Registers of block SUP, part 1. -/
def regsSUP0 : List RegSpec := [
  ⟨0x0, .w, .agent, [⟨4, 0, .rw, 0⟩]⟩,
  ⟨0x4, .a, .dev, [⟨31, 31, .w1s, 0⟩, ⟨28, 28, .rwp, 1⟩, ⟨27, 24, .rwp, 3⟩, ⟨23, 16, .rwp, 0x1e⟩, ⟨15, 0, .rwp, 0x1f4⟩]⟩,
  ⟨0x8, .a, .dev, [⟨31, 28, .ro, 0⟩, ⟨27, 24, .ro, 0⟩, ⟨23, 19, .ro, 0⟩, ⟨18, 18, .ro, 0⟩, ⟨17, 13, .ro, 0⟩, ⟨7, 0, .ro, 0⟩]⟩,
  ⟨0xC, .a, .dev, [⟨31, 31, .ro, 0⟩, ⟨30, 30, .ro, 0⟩, ⟨29, 29, .ro, 0⟩, ⟨11, 8, .rwp, 8⟩, ⟨0, 0, .rwp, 1⟩]⟩,
  ⟨0x10, .w, .dev, [⟨31, 16, .wo, 0⟩, ⟨1, 1, .wo, 0⟩, ⟨0, 0, .wo, 0⟩]⟩,
  ⟨0x14, .w, .dev, [⟨31, 16, .wo, 0⟩, ⟨0, 0, .ro, 0⟩]⟩,
  ⟨0x18, .a, .dev, [⟨1, 0, .rwp, 1⟩]⟩,
  ⟨0x1C, .a, .dev, [⟨31, 31, .ro, 0⟩, ⟨23, 16, .rc, 0⟩, ⟨15, 0, .rc, 0⟩]⟩,
  ⟨0x20, .a, .dev, [⟨31, 16, .ro, 0⟩, ⟨15, 0, .ro, 0⟩]⟩,
  ⟨0x24, .n, .dev, [⟨31, 16, .wo, 0⟩, ⟨3, 2, .ro, 0⟩, ⟨0, 0, .wo, 0⟩]⟩,
  ⟨0x28, .w, .agent, [⟨15, 0, .rw, 0⟩]⟩,
  ⟨0x2C, .w, .dev, [⟨31, 0, .ro, 0⟩]⟩,
  ⟨0x40, .a, .dev, [⟨6, 6, .w1c, 0⟩, ⟨5, 5, .w1c, 0⟩, ⟨4, 4, .w1c, 0⟩, ⟨3, 3, .w1c, 0⟩, ⟨2, 2, .w1c, 0⟩, ⟨1, 1, .w1c, 0⟩, ⟨0, 0, .w1c, 0⟩]⟩,
  ⟨0x44, .a, .dev, [⟨6, 0, .rw, 0x7f⟩]⟩,
  ⟨0x100, .a, .rail, [⟨31, 31, .rwp, 0⟩, ⟨30, 30, .rwp, 0⟩, ⟨29, 29, .rwp, 0⟩, ⟨28, 28, .rwp, 0⟩, ⟨27, 27, .rwp, 0⟩, ⟨26, 26, .rwp, 0⟩, ⟨25, 23, .rwp, 0⟩, ⟨20, 16, .rwp, 0⟩, ⟨12, 8, .rwp, 0⟩, ⟨7, 6, .rwp, 0⟩, ⟨5, 4, .rwp, 0⟩, ⟨3, 2, .rwp, 0⟩]⟩,
  ⟨0x104, .a, .rail, [⟨31, 16, .rwp, 0⟩, ⟨15, 0, .rwp, 0⟩]⟩,
  ⟨0x108, .a, .rail, [⟨31, 16, .rwp, 0⟩, ⟨15, 0, .rwp, 0⟩]⟩,
  ⟨0x10C, .a, .rail, [⟨31, 24, .rwp, 0xa⟩, ⟨23, 16, .rwp, 0x14⟩, ⟨15, 8, .rwp, 0x14⟩, ⟨7, 0, .rwp, 1⟩]⟩,
  ⟨0x110, .a, .rail, [⟨22, 16, .rwp, 0⟩, ⟨15, 8, .rwp, 0⟩]⟩,
  ⟨0x114, .a, .rail, [⟨31, 29, .ro, 0⟩, ⟨28, 28, .ro, 0⟩, ⟨27, 27, .ro, 0⟩, ⟨26, 26, .ro, 0⟩, ⟨15, 0, .ro, 0⟩]⟩,
  ⟨0x118, .c, .rail, [⟨31, 31, .ro, 0⟩, ⟨4, 0, .rw, 0⟩]⟩,
  ⟨0x11C, .a, .rail, [⟨31, 24, .rc, 0⟩, ⟨23, 16, .rc, 0⟩, ⟨15, 8, .rc, 0⟩, ⟨7, 0, .rc, 0⟩]⟩,
  ⟨0x200, .a, .dev, [⟨8, 8, .wo, 0⟩, ⟨1, 0, .rw, 0⟩]⟩,
  ⟨0x204, .a, .dev, [⟨31, 28, .ro, 0⟩, ⟨27, 24, .ro, 0⟩, ⟨20, 16, .ro, 0⟩, ⟨12, 8, .ro, 0⟩, ⟨0, 0, .ro, 0⟩]⟩]

/-- Registers of block SUP, part 2. -/
def regsSUP1 : List RegSpec := [
  ⟨0x208, .a, .dev, [⟨4, 4, .rwp, 1⟩, ⟨3, 3, .ro, 1⟩, ⟨2, 2, .rwp, 1⟩, ⟨1, 1, .ro, 1⟩, ⟨0, 0, .rwp, 1⟩]⟩,
  ⟨0x20C, .a, .dev, [⟨31, 31, .rwp, 1⟩, ⟨15, 0, .rwp, 0xa⟩]⟩,
  ⟨0x210, .a, .dev, [⟨31, 0, .rw, 0⟩]⟩,
  ⟨0x214, .a, .dev, [⟨31, 31, .ro, 0⟩, ⟨14, 0, .ro, 0⟩]⟩,
  ⟨0x218, .a, .dev, [⟨31, 0, .rw, 0⟩]⟩,
  ⟨0x21C, .a, .dev, [⟨31, 0, .rw, 0⟩]⟩,
  ⟨0x220, .a, .dev, [⟨31, 31, .rw, 0⟩, ⟨30, 30, .rw, 0⟩, ⟨29, 28, .rw, 1⟩]⟩,
  ⟨0x230, .a, .dev, [⟨31, 16, .rwp, 0x3e8⟩, ⟨15, 8, .rwp, 0x32⟩, ⟨7, 0, .rwp, 0x3c⟩]⟩,
  ⟨0x234, .a, .dev, [⟨31, 24, .rc, 0⟩, ⟨23, 16, .rc, 0⟩, ⟨8, 0, .w1c, 0⟩]⟩,
  ⟨0x238, .a, .dev, [⟨31, 28, .ro, 0⟩, ⟨27, 24, .ro, 0⟩, ⟨23, 20, .ro, 0⟩, ⟨15, 0, .ro, 0⟩]⟩,
  ⟨0x240, .a, .dev, [⟨3, 3, .w1c, 0⟩, ⟨2, 2, .w1c, 0⟩, ⟨1, 1, .w1c, 0⟩, ⟨0, 0, .w1c, 0⟩]⟩,
  ⟨0x244, .a, .dev, [⟨3, 0, .rw, 0xf⟩]⟩,
  ⟨0x400, .a, .dev, [⟨31, 16, .rwp, 0x13ec⟩, ⟨15, 0, .rwp, 0x1388⟩]⟩,
  ⟨0x404, .a, .dev, [⟨15, 0, .rwp, 0x12c0⟩]⟩,
  ⟨0x408, .a, .dev, [⟨31, 24, .rwp, 0x18⟩, ⟨23, 16, .rwp, 0x64⟩, ⟨15, 8, .rwp, 0x64⟩, ⟨0, 0, .wo, 0⟩]⟩,
  ⟨0x40C, .n, .dev, [⟨31, 31, .ro, 0⟩, ⟨23, 0, .ro, 0⟩]⟩,
  ⟨0x410, .n, .dev, [⟨31, 31, .ro, 0⟩, ⟨15, 0, .ro, 0⟩]⟩,
  ⟨0x414, .a, .dev, [⟨31, 28, .ro, 0⟩, ⟨27, 20, .ro, 0xff⟩, ⟨2, 2, .w1c, 0⟩, ⟨1, 1, .w1c, 0⟩, ⟨0, 0, .ro, 0⟩]⟩,
  ⟨0x480, .n, .dev, [⟨8, 8, .rwl, 0⟩, ⟨3, 0, .rwl, 0⟩]⟩,
  ⟨0x484, .a, .dev, [⟨0, 0, .w1s, 0⟩]⟩,
  ⟨0x488, .a, .dev, [⟨19, 16, .ro, 0xf⟩, ⟨9, 9, .ro, 0⟩, ⟨8, 8, .w1c, 0⟩, ⟨3, 0, .w1c, 0⟩]⟩,
  ⟨0x48C, .a, .dev, [⟨31, 24, .rwp, 0x73⟩, ⟨11, 8, .ro, 0⟩, ⟨7, 0, .ro, 0⟩]⟩]

def regsSUP : List RegSpec := regsSUP0 ++ regsSUP1

/-- Registers of block AGE. -/
def regsAGE0 : List RegSpec := [
  ⟨0x0, .c, .dev, [⟨31, 31, .w1s, 0⟩, ⟨30, 30, .wo, 0⟩, ⟨4, 4, .rwl, 1⟩, ⟨3, 3, .rwp, 1⟩, ⟨2, 2, .rwp, 1⟩, ⟨1, 1, .rwp, 1⟩]⟩,
  ⟨0x4, .c, .dev, [⟨15, 8, .rwp, 0x18⟩, ⟨7, 0, .rwp, 0x18⟩]⟩,
  ⟨0x8, .c, .dev, [⟨31, 16, .ro, 0⟩, ⟨15, 8, .ro, 0⟩, ⟨7, 0, .rwl, 0x28⟩]⟩,
  ⟨0xC, .c, .dev, [⟨31, 24, .ro, 0xff⟩, ⟨23, 16, .ro, 0xff⟩, ⟨15, 8, .rwl, 0x28⟩, ⟨7, 0, .rwl, 0x14⟩]⟩,
  ⟨0x10, .c, .dev, [⟨7, 0, .rwp, 2⟩]⟩,
  ⟨0x14, .n, .dev, [⟨15, 0, .ro, 0⟩]⟩,
  ⟨0x18, .c, .dev, [⟨15, 8, .rwp, 6⟩, ⟨7, 0, .rwp, 0x40⟩]⟩,
  ⟨0x1C, .c, .dev, [⟨7, 0, .rwp, 0x28⟩]⟩,
  ⟨0x20, .c, .dev, [⟨31, 31, .ro, 0⟩, ⟨30, 30, .ro, 0⟩, ⟨29, 0, .ro, 0⟩]⟩,
  ⟨0x24, .c, .dev, [⟨31, 0, .ro, 0⟩]⟩,
  ⟨0x28, .c, .dev, [⟨31, 0, .ro, 0⟩]⟩,
  ⟨0x40, .c, .dev, [⟨4, 4, .w1c, 0⟩, ⟨3, 3, .w1c, 0⟩, ⟨2, 2, .w1c, 0⟩, ⟨1, 1, .w1c, 0⟩, ⟨0, 0, .w1c, 0⟩]⟩,
  ⟨0x44, .c, .dev, [⟨4, 0, .rw, 0x1e⟩]⟩]

def regsAGE : List RegSpec := regsAGE0

/-- Registers of block TRL. -/
def regsTRL0 : List RegSpec := [
  ⟨0x0, .c, .dev, [⟨31, 31, .w1s, 0⟩, ⟨12, 12, .rwp, 1⟩, ⟨11, 8, .rwp, 4⟩, ⟨6, 4, .rwp, 0⟩, ⟨1, 0, .rwp, 0⟩]⟩,
  ⟨0x4, .c, .dev, [⟨31, 31, .ro, 0⟩, ⟨30, 30, .ro, 0⟩, ⟨29, 27, .ro, 0⟩, ⟨23, 16, .ro, 0⟩, ⟨15, 8, .ro, 0⟩]⟩,
  ⟨0x8, .c, .dev, [⟨23, 16, .rwp, 0x3c⟩, ⟨15, 0, .rwp, 0x1f4⟩]⟩,
  ⟨0x10, .c, .dev, [⟨31, 31, .ro, 0⟩, ⟨30, 28, .ro, 0⟩, ⟨12, 0, .ro, 0⟩]⟩,
  ⟨0x14, .c, .dev, [⟨31, 31, .ro, 0⟩, ⟨30, 28, .ro, 0⟩, ⟨12, 0, .ro, 0⟩]⟩,
  ⟨0x18, .c, .dev, [⟨31, 31, .ro, 0⟩, ⟨30, 28, .ro, 0⟩, ⟨12, 0, .ro, 0⟩]⟩,
  ⟨0x1C, .c, .dev, [⟨31, 31, .ro, 0⟩, ⟨30, 28, .ro, 0⟩, ⟨12, 0, .ro, 0⟩]⟩,
  ⟨0x20, .c, .dev, [⟨15, 0, .rc, 0⟩]⟩,
  ⟨0x40, .c, .dev, [⟨4, 4, .w1c, 0⟩, ⟨3, 3, .w1c, 0⟩, ⟨2, 2, .w1c, 0⟩, ⟨1, 1, .w1c, 0⟩, ⟨0, 0, .w1c, 0⟩]⟩,
  ⟨0x44, .c, .dev, [⟨4, 0, .rw, 0x1e⟩]⟩,
  ⟨0x60, .c, .dev, [⟨31, 0, .ro, 0⟩]⟩,
  ⟨0x64, .c, .dev, [⟨31, 0, .ro, 0⟩]⟩,
  ⟨0x68, .c, .dev, [⟨31, 0, .ro, 0⟩]⟩,
  ⟨0x6C, .c, .dev, [⟨31, 0, .ro, 0⟩]⟩]

def regsTRL : List RegSpec := regsTRL0

/-- Registers of block EVR, part 1. -/
def regsEVR0 : List RegSpec := [
  ⟨0x0, .a, .dev, [⟨31, 31, .w1s, 0⟩, ⟨2, 0, .rwl, 1⟩]⟩,
  ⟨0x4, .n, .dev, [⟨31, 0, .ro, 0⟩]⟩,
  ⟨0x8, .n, .dev, [⟨23, 0, .ro, 0⟩]⟩,
  ⟨0xC, .n, .dev, [⟨23, 0, .ro, 0⟩]⟩,
  ⟨0x10, .a, .dev, [⟨12, 0, .ro, 0⟩]⟩,
  ⟨0x14, .n, .dev, [⟨15, 0, .ro, 0⟩]⟩,
  ⟨0x18, .a, .dev, [⟨31, 0, .ro, 0⟩]⟩,
  ⟨0x20, .a, .dev, [⟨31, 0, .ro, 0⟩]⟩,
  ⟨0x24, .a, .dev, [⟨31, 0, .ro, 0⟩]⟩,
  ⟨0x28, .a, .dev, [⟨31, 0, .ro, 0⟩]⟩,
  ⟨0x2C, .a, .dev, [⟨31, 0, .ro, 0⟩]⟩,
  ⟨0x30, .a, .dev, [⟨31, 0, .ro, 0⟩]⟩,
  ⟨0x34, .a, .dev, [⟨31, 0, .ro, 0⟩]⟩,
  ⟨0x38, .a, .dev, [⟨31, 0, .ro, 0⟩]⟩,
  ⟨0x3C, .a, .dev, [⟨31, 0, .ro, 0⟩]⟩,
  ⟨0x40, .w, .agent, [⟨12, 0, .rw, 0⟩]⟩,
  ⟨0x44, .w, .agent, [⟨31, 0, .ro, 0⟩]⟩,
  ⟨0x48, .w, .agent, [⟨31, 0, .ro, 0⟩]⟩,
  ⟨0x4C, .w, .agent, [⟨31, 0, .ro, 0⟩]⟩,
  ⟨0x50, .w, .agent, [⟨31, 0, .ro, 0⟩]⟩,
  ⟨0x54, .w, .agent, [⟨31, 0, .ro, 0⟩]⟩,
  ⟨0x58, .w, .agent, [⟨31, 0, .ro, 0⟩]⟩,
  ⟨0x5C, .w, .agent, [⟨31, 0, .ro, 0⟩]⟩,
  ⟨0x60, .w, .agent, [⟨31, 0, .ro, 0⟩]⟩]

/-- Registers of block EVR, part 2. -/
def regsEVR1 : List RegSpec := [
  ⟨0x70, .a, .dev, [⟨1, 1, .w1c, 0⟩, ⟨0, 0, .w1c, 0⟩]⟩,
  ⟨0x74, .a, .dev, [⟨1, 0, .rw, 3⟩]⟩]

def regsEVR : List RegSpec := regsEVR0 ++ regsEVR1

/-- Registers of block FWS, part 1. -/
def regsFWS0 : List RegSpec := [
  ⟨0x0, .a, .dev, [⟨31, 31, .w1s, 0⟩, ⟨30, 30, .w1s, 0⟩, ⟨1, 1, .rwl, 0⟩, ⟨0, 0, .rwl, 0⟩]⟩,
  ⟨0x4, .a, .dev, [⟨31, 30, .ro, 0⟩, ⟨29, 29, .ro, 0⟩, ⟨28, 28, .ro, 0⟩]⟩,
  ⟨0x8, .a, .dev, [⟨31, 30, .ro, 0⟩, ⟨29, 29, .ro, 0⟩, ⟨23, 20, .ro, 0⟩, ⟨15, 0, .ro, 0⟩]⟩,
  ⟨0xC, .a, .dev, [⟨31, 30, .ro, 0⟩, ⟨29, 29, .ro, 0⟩, ⟨23, 20, .ro, 0⟩, ⟨15, 0, .ro, 0⟩]⟩,
  ⟨0x10, .a, .dev, [⟨31, 16, .rwp, 0x3c⟩, ⟨3, 0, .rwp, 3⟩]⟩,
  ⟨0x14, .w, .agent, [⟨23, 5, .rw, 0⟩]⟩,
  ⟨0x18, .w, .agent, [⟨31, 31, .wo, 0⟩, ⟨30, 30, .ro, 0⟩, ⟨23, 16, .ro, 0⟩, ⟨1, 0, .rw, 0⟩]⟩,
  ⟨0x20, .w, .agent, [⟨31, 0, .rw, 0⟩]⟩,
  ⟨0x24, .w, .agent, [⟨31, 0, .rw, 0⟩]⟩,
  ⟨0x28, .w, .agent, [⟨31, 0, .rw, 0⟩]⟩,
  ⟨0x2C, .w, .agent, [⟨31, 0, .rw, 0⟩]⟩,
  ⟨0x30, .w, .agent, [⟨31, 0, .rw, 0⟩]⟩,
  ⟨0x34, .w, .agent, [⟨31, 0, .rw, 0⟩]⟩,
  ⟨0x38, .w, .agent, [⟨31, 0, .rw, 0⟩]⟩,
  ⟨0x3C, .w, .agent, [⟨31, 0, .rw, 0⟩]⟩,
  ⟨0x40, .w, .agent, [⟨7, 0, .rw, 0⟩]⟩,
  ⟨0x44, .n, .dev, [⟨31, 0, .ro, 0⟩]⟩,
  ⟨0x48, .a, .dev, [⟨31, 16, .rc, 0⟩, ⟨15, 8, .rc, 0⟩, ⟨0, 0, .w1c, 0⟩]⟩,
  ⟨0x60, .a, .dev, [⟨31, 31, .rw, 0⟩, ⟨23, 16, .rw, 0⟩, ⟨7, 0, .rw, 0⟩]⟩,
  ⟨0x64, .a, .dev, [⟨31, 31, .rw, 0⟩, ⟨23, 16, .rw, 0⟩, ⟨7, 0, .rw, 0⟩]⟩,
  ⟨0x68, .a, .dev, [⟨31, 31, .rw, 0⟩, ⟨23, 16, .rw, 0⟩, ⟨7, 0, .rw, 0⟩]⟩,
  ⟨0x6C, .a, .dev, [⟨31, 31, .rw, 0⟩, ⟨23, 16, .rw, 0⟩, ⟨7, 0, .rw, 0⟩]⟩,
  ⟨0x70, .a, .dev, [⟨31, 31, .rw, 0⟩, ⟨23, 16, .rw, 0⟩, ⟨7, 0, .rw, 0⟩]⟩,
  ⟨0x74, .a, .dev, [⟨31, 31, .rw, 0⟩, ⟨23, 16, .rw, 0⟩, ⟨7, 0, .rw, 0⟩]⟩]

/-- Registers of block FWS, part 2. -/
def regsFWS1 : List RegSpec := [
  ⟨0x78, .a, .dev, [⟨31, 31, .rw, 0⟩, ⟨23, 16, .rw, 0⟩, ⟨7, 0, .rw, 0⟩]⟩,
  ⟨0x7C, .a, .dev, [⟨31, 31, .rw, 0⟩, ⟨23, 16, .rw, 0⟩, ⟨7, 0, .rw, 0⟩]⟩,
  ⟨0x80, .a, .dev, [⟨31, 30, .ro, 0⟩, ⟨29, 29, .ro, 0⟩, ⟨28, 27, .ro, 0⟩, ⟨7, 4, .ro, 0⟩, ⟨3, 0, .ro, 0⟩]⟩,
  ⟨0x90, .a, .dev, [⟨4, 4, .w1c, 0⟩, ⟨3, 3, .w1c, 0⟩, ⟨2, 2, .w1c, 0⟩, ⟨1, 1, .w1c, 0⟩, ⟨0, 0, .w1c, 0⟩]⟩,
  ⟨0x94, .a, .dev, [⟨4, 0, .rw, 0x1e⟩]⟩]

def regsFWS : List RegSpec := regsFWS0 ++ regsFWS1

/-- The registers of a block, by its block code (R534). -/
def blockRegs : Nat → List RegSpec
  | 0 => regsGEN
  | 1 => regsQMG
  | 2 => regsHRG
  | 3 => regsCSK
  | 4 => regsPST
  | 5 => regsMIR
  | 6 => regsNET
  | 7 => regsDRM
  | 8 => regsCEL
  | 9 => regsCPH
  | 10 => regsSUP
  | 11 => regsAGE
  | 12 => regsTRL
  | 13 => regsEVR
  | 14 => regsFWS
  | _ => []

/-- The BAR0 offsets of the registers. -/
abbrev Reg.GEN_ID0 : Nat := 0x0
abbrev Reg.GEN_ID1 : Nat := 0x4
abbrev Reg.GEN_SERIAL_LO : Nat := 0x8
abbrev Reg.GEN_SERIAL_HI : Nat := 0xC
abbrev Reg.GEN_FW : Nat := 0x10
abbrev Reg.GEN_CAP0 : Nat := 0x20
abbrev Reg.GEN_CAP1 : Nat := 0x24
abbrev Reg.GEN_CAP2 : Nat := 0x28
abbrev Reg.GEN_CAP3 : Nat := 0x2C
abbrev Reg.GEN_FEAT : Nat := 0x30
abbrev Reg.GEN_LIMITS : Nat := 0x34
abbrev Reg.GEN_STATUS : Nat := 0x40
abbrev Reg.GEN_USEC : Nat := 0x44
abbrev Reg.GEN_SCRATCH : Nat := 0x48
abbrev Reg.GEN_CTRL : Nat := 0x50
abbrev Reg.GEN_INT_STATUS : Nat := 0x60
abbrev Reg.GEN_INT_ENABLE : Nat := 0x64
abbrev Reg.GEN_LAST_ERR0 : Nat := 0x70
abbrev Reg.GEN_LAST_ERR1 : Nat := 0x74
abbrev Reg.QMG_QSEL : Nat := 0x10000
abbrev Reg.QMG_CTRL : Nat := 0x10004
abbrev Reg.QMG_FREE : Nat := 0x10008
abbrev Reg.QMG_RES0 : Nat := 0x10010
abbrev Reg.QMG_RES1 : Nat := 0x10014
abbrev Reg.QMG_RES2 : Nat := 0x10018
abbrev Reg.QMG_RES3 : Nat := 0x1001C
abbrev Reg.QMG_USED0 : Nat := 0x10020
abbrev Reg.QMG_USED1 : Nat := 0x10024
abbrev Reg.QMG_USED2 : Nat := 0x10028
abbrev Reg.QMG_USED3 : Nat := 0x1002C
abbrev Reg.QMG_USED4 : Nat := 0x10030
abbrev Reg.QMG_RECLAIM : Nat := 0x10040
abbrev Reg.QMG_RECLAIM_CNT : Nat := 0x10044
abbrev Reg.QMG_ECC_CE_TOTAL : Nat := 0x10050
abbrev Reg.QMG_ECC_UE_TOTAL : Nat := 0x10054
abbrev Reg.QMG_LINK_UE_CNT : Nat := 0x10058
abbrev Reg.QMG_INT_STATUS : Nat := 0x10060
abbrev Reg.QMG_INT_ENABLE : Nat := 0x10064
abbrev Reg.QMG_CE_THR : Nat := 0x10068
abbrev Reg.QMG_Q_CFG : Nat := 0x10100
abbrev Reg.QMG_Q_CAP : Nat := 0x10104
abbrev Reg.QMG_Q_CELLS : Nat := 0x10108
abbrev Reg.QMG_Q_PKTS : Nat := 0x1010C
abbrev Reg.QMG_Q_ECC : Nat := 0x10110
abbrev Reg.QMG_Q_DROP : Nat := 0x10114
abbrev Reg.QMG_Q_PEAK : Nat := 0x10118
abbrev Reg.HRG_FSEL : Nat := 0x20000
abbrev Reg.HRG_PORT_CFG0 : Nat := 0x20010
abbrev Reg.HRG_PORT_CFG1 : Nat := 0x20014
abbrev Reg.HRG_PORT_CFG2 : Nat := 0x20018
abbrev Reg.HRG_PORT_CFG3 : Nat := 0x2001C
abbrev Reg.HRG_POLL : Nat := 0x20020
abbrev Reg.HRG_Q_TOTAL : Nat := 0x20024
abbrev Reg.HRG_FN_CFG : Nat := 0x20100
abbrev Reg.HRG_FN_STATUS : Nat := 0x20104
abbrev Reg.HRG_FN_RESET : Nat := 0x20108
abbrev Reg.HRG_AQ_CFG : Nat := 0x20110
abbrev Reg.HRG_ASQ_LO : Nat := 0x20114
abbrev Reg.HRG_ASQ_HI : Nat := 0x20118
abbrev Reg.HRG_ACQ_LO : Nat := 0x2011C
abbrev Reg.HRG_ACQ_HI : Nat := 0x20120
abbrev Reg.HRG_SHADOW_LO : Nat := 0x20124
abbrev Reg.HRG_SHADOW_HI : Nat := 0x20128
abbrev Reg.HRG_FN_EVT : Nat := 0x20130
abbrev Reg.HRG_FN_EVT_CAUSE : Nat := 0x20134
abbrev Reg.CSK_PIN_LIMIT : Nat := 0x30000
abbrev Reg.CSK_FREE_LOW : Nat := 0x30004
abbrev Reg.CSK_AGE_TICK : Nat := 0x30008
abbrev Reg.CSK_INT_STATUS : Nat := 0x30010
abbrev Reg.CSK_INT_ENABLE : Nat := 0x30014
abbrev Reg.CSK_LAST_REJECT : Nat := 0x30018
abbrev Reg.CSK_CAP_RACKS_LO : Nat := 0x30020
abbrev Reg.CSK_CAP_RACKS_HI : Nat := 0x30024
abbrev Reg.CSK_ALLOC_RACKS_LO : Nat := 0x30028
abbrev Reg.CSK_ALLOC_RACKS_HI : Nat := 0x3002C
abbrev Reg.CSK_FRAMES_DATA_LO : Nat := 0x30030
abbrev Reg.CSK_FRAMES_DATA_HI : Nat := 0x30034
abbrev Reg.CSK_FRAMES_FREE_LO : Nat := 0x30038
abbrev Reg.CSK_FRAMES_FREE_HI : Nat := 0x3003C
abbrev Reg.CSK_FRAMES_PINNED_LO : Nat := 0x30040
abbrev Reg.CSK_FRAMES_PINNED_HI : Nat := 0x30044
abbrev Reg.CSK_FETCH_CNT_LO : Nat := 0x30048
abbrev Reg.CSK_FETCH_CNT_HI : Nat := 0x3004C
abbrev Reg.CSK_EVICT_CNT_LO : Nat := 0x30050
abbrev Reg.CSK_EVICT_CNT_HI : Nat := 0x30054
abbrev Reg.CSK_LATE_CNT_LO : Nat := 0x30058
abbrev Reg.CSK_LATE_CNT_HI : Nat := 0x3005C
abbrev Reg.CSK_STALE_CNT_LO : Nat := 0x30060
abbrev Reg.CSK_STALE_CNT_HI : Nat := 0x30064
abbrev Reg.CSK_PROT_CNT_LO : Nat := 0x30068
abbrev Reg.CSK_PROT_CNT_HI : Nat := 0x3006C
abbrev Reg.CSK_GRANT_LIVE : Nat := 0x30070
abbrev Reg.CSK_GRANT_QUAR : Nat := 0x30074
abbrev Reg.CSK_STREAMS : Nat := 0x30078
abbrev Reg.CSK_LK_CASK : Nat := 0x30080
abbrev Reg.CSK_LK_OFF_LO : Nat := 0x30084
abbrev Reg.CSK_LK_OFF_HI : Nat := 0x30088
abbrev Reg.CSK_LK_CTRL : Nat := 0x3008C
abbrev Reg.CSK_LK_ENT0 : Nat := 0x30090
abbrev Reg.CSK_LK_ENT1 : Nat := 0x30094
abbrev Reg.CSK_LK_ENT2 : Nat := 0x30098
abbrev Reg.CSK_LK_ENT3 : Nat := 0x3009C
abbrev Reg.PST_VINT_PERIOD : Nat := 0x40000
abbrev Reg.PST_VINT_MAX : Nat := 0x40004
abbrev Reg.PST_VINT_CTRL : Nat := 0x40008
abbrev Reg.PST_VINT_STATUS : Nat := 0x4000C
abbrev Reg.PST_VINT_OPEN_LO : Nat := 0x40010
abbrev Reg.PST_VINT_OPEN_HI : Nat := 0x40014
abbrev Reg.PST_VINT_SEALED_LO : Nat := 0x40018
abbrev Reg.PST_VINT_SEALED_HI : Nat := 0x4001C
abbrev Reg.PST_VINT_COMMIT_LO : Nat := 0x40020
abbrev Reg.PST_VINT_COMMIT_HI : Nat := 0x40024
abbrev Reg.PST_VINT_APPLIED_LO : Nat := 0x40028
abbrev Reg.PST_VINT_APPLIED_HI : Nat := 0x4002C
abbrev Reg.PST_VINT_RESV_LO : Nat := 0x40030
abbrev Reg.PST_VINT_RESV_HI : Nat := 0x40034
abbrev Reg.PST_STAGE_USED : Nat := 0x40040
abbrev Reg.PST_STAGE_PEAK : Nat := 0x40044
abbrev Reg.PST_SEAL_CNT_PERIOD : Nat := 0x40048
abbrev Reg.PST_SEAL_CNT_SIZE : Nat := 0x4004C
abbrev Reg.PST_SEAL_CNT_FORCED : Nat := 0x40050
abbrev Reg.PST_COMMIT_LOCAL_CNT : Nat := 0x40054
abbrev Reg.PST_INT_STATUS : Nat := 0x40060
abbrev Reg.PST_INT_ENABLE : Nat := 0x40064
abbrev Reg.PST_PENDING_THR : Nat := 0x40068
abbrev Reg.PST_DB_LIMIT : Nat := 0x40100
abbrev Reg.PST_DB_PLAN : Nat := 0x40104
abbrev Reg.PST_DB_CAP : Nat := 0x40108
abbrev Reg.PST_DB_HIGH : Nat := 0x4010C
abbrev Reg.PST_ADMIT_CTRL : Nat := 0x40110
abbrev Reg.PST_ADMIT_STATUS : Nat := 0x40114
abbrev Reg.PST_DB_USED_LO : Nat := 0x40118
abbrev Reg.PST_DB_USED_HI : Nat := 0x4011C
abbrev Reg.PST_DB_PEND : Nat := 0x40120
abbrev Reg.PST_WB_RATE : Nat := 0x40124
abbrev Reg.PST_FLUSH_BW : Nat := 0x40128
abbrev Reg.PST_BUDGET_REJ_CNT : Nat := 0x4012C
abbrev Reg.PST_THROTTLE_US : Nat := 0x40130
abbrev Reg.PST_PLAN_A : Nat := 0x40140
abbrev Reg.PST_PLAN_B : Nat := 0x40144
abbrev Reg.PST_PLAN_C : Nat := 0x40148
abbrev Reg.PST_BDG_INT_STATUS : Nat := 0x40150
abbrev Reg.PST_BDG_INT_ENABLE : Nat := 0x40154
abbrev Reg.PST_RST_STATUS : Nat := 0x40200
abbrev Reg.PST_RST_CTRL : Nat := 0x40204
abbrev Reg.PST_RST_CLEAR : Nat := 0x40208
abbrev Reg.PST_RST_T : Nat := 0x4020C
abbrev Reg.PST_RST_PEND : Nat := 0x40210
abbrev Reg.PST_RST_RESOLVE_LO : Nat := 0x40218
abbrev Reg.PST_RST_RESOLVE_HI : Nat := 0x4021C
abbrev Reg.PST_RST_VAULT_LEFT_E_LO : Nat := 0x40220
abbrev Reg.PST_RST_VAULT_LEFT_E_HI : Nat := 0x40224
abbrev Reg.PST_RST_VAULT_LEFT_O_LO : Nat := 0x40228
abbrev Reg.PST_RST_VAULT_LEFT_O_HI : Nat := 0x4022C
abbrev Reg.PST_RST_FILL_LEFT_LO : Nat := 0x40230
abbrev Reg.PST_RST_FILL_LEFT_HI : Nat := 0x40234
abbrev Reg.PST_RST_DEMAND_CNT_LO : Nat := 0x40238
abbrev Reg.PST_RST_DEMAND_CNT_HI : Nat := 0x4023C
abbrev Reg.PST_RST_INT_STATUS : Nat := 0x40240
abbrev Reg.PST_RST_INT_ENABLE : Nat := 0x40244
abbrev Reg.MIR_CTRL : Nat := 0x50000
abbrev Reg.MIR_PAIR_LO : Nat := 0x50004
abbrev Reg.MIR_PAIR_HI : Nat := 0x50008
abbrev Reg.MIR_ROLE : Nat := 0x50010
abbrev Reg.MIR_EPOCH : Nat := 0x50014
abbrev Reg.MIR_LEASE : Nat := 0x50018
abbrev Reg.MIR_TIMERS : Nat := 0x50020
abbrev Reg.MIR_LINK_CFG : Nat := 0x50024
abbrev Reg.MIR_LINK_STATUS : Nat := 0x50028
abbrev Reg.MIR_RTT : Nat := 0x5002C
abbrev Reg.MIR_ARB_ADDR0 : Nat := 0x50040
abbrev Reg.MIR_ARB_ADDR1 : Nat := 0x50044
abbrev Reg.MIR_ARB_ADDR2 : Nat := 0x50048
abbrev Reg.MIR_ARB_ADDR3 : Nat := 0x5004C
abbrev Reg.MIR_ARB_PORT : Nat := 0x50050
abbrev Reg.MIR_ARB_PATH : Nat := 0x50054
abbrev Reg.MIR_ARB_KEY : Nat := 0x50058
abbrev Reg.MIR_CMD : Nat := 0x50060
abbrev Reg.MIR_INT_STATUS : Nat := 0x50070
abbrev Reg.MIR_INT_ENABLE : Nat := 0x50074
abbrev Reg.MIR_ABSENT_LO : Nat := 0x50080
abbrev Reg.MIR_ABSENT_HI : Nat := 0x50084
abbrev Reg.MIR_SHIPPED_LO : Nat := 0x50088
abbrev Reg.MIR_SHIPPED_HI : Nat := 0x5008C
abbrev Reg.MIR_VNAK_CNT_LO : Nat := 0x50090
abbrev Reg.MIR_VNAK_CNT_HI : Nat := 0x50094
abbrev Reg.MIR_PFETCH_CNT_LO : Nat := 0x50098
abbrev Reg.MIR_PFETCH_CNT_HI : Nat := 0x5009C
abbrev Reg.NET_PSEL : Nat := 0x60000
abbrev Reg.NET_CTRL : Nat := 0x60004
abbrev Reg.NET_CNP : Nat := 0x60008
abbrev Reg.NET_DCQCN_A : Nat := 0x60010
abbrev Reg.NET_DCQCN_B : Nat := 0x60014
abbrev Reg.NET_DCQCN_C : Nat := 0x60018
abbrev Reg.NET_QP_LIVE : Nat := 0x60020
abbrev Reg.NET_INT_STATUS : Nat := 0x60040
abbrev Reg.NET_INT_ENABLE : Nat := 0x60044
abbrev Reg.NET_QPC_HIT_LO : Nat := 0x60050
abbrev Reg.NET_QPC_HIT_HI : Nat := 0x60054
abbrev Reg.NET_QPC_MISS_LO : Nat := 0x60058
abbrev Reg.NET_QPC_MISS_HI : Nat := 0x6005C
abbrev Reg.NET_P_MODE : Nat := 0x60100
abbrev Reg.NET_P_STATUS : Nat := 0x60104
abbrev Reg.NET_P_PFC : Nat := 0x60108
abbrev Reg.NET_P_XOFF : Nat := 0x6010C
abbrev Reg.NET_P_ECN : Nat := 0x60110
abbrev Reg.NET_P_PRIO : Nat := 0x60114
abbrev Reg.NET_P_RX_FRAMES_LO : Nat := 0x60180
abbrev Reg.NET_P_RX_FRAMES_HI : Nat := 0x60184
abbrev Reg.NET_P_TX_FRAMES_LO : Nat := 0x60188
abbrev Reg.NET_P_TX_FRAMES_HI : Nat := 0x6018C
abbrev Reg.NET_P_DROP_LO : Nat := 0x60190
abbrev Reg.NET_P_DROP_HI : Nat := 0x60194
abbrev Reg.NET_P_REFUSED_LO : Nat := 0x60198
abbrev Reg.NET_P_REFUSED_HI : Nat := 0x6019C
abbrev Reg.NET_P_PFC_TX_LO : Nat := 0x601A0
abbrev Reg.NET_P_PFC_TX_HI : Nat := 0x601A4
abbrev Reg.NET_P_PFC_RX_LO : Nat := 0x601A8
abbrev Reg.NET_P_PFC_RX_HI : Nat := 0x601AC
abbrev Reg.NET_P_CE_LO : Nat := 0x601B0
abbrev Reg.NET_P_CE_HI : Nat := 0x601B4
abbrev Reg.NET_P_CNP_TX_LO : Nat := 0x601B8
abbrev Reg.NET_P_CNP_TX_HI : Nat := 0x601BC
abbrev Reg.NET_P_CNP_RX_LO : Nat := 0x601C0
abbrev Reg.NET_P_CNP_RX_HI : Nat := 0x601C4
abbrev Reg.NET_P_IF0_MAC_LO : Nat := 0x60200
abbrev Reg.NET_P_IF0_MAC_HI : Nat := 0x60204
abbrev Reg.NET_P_IF0_IPV4 : Nat := 0x60208
abbrev Reg.NET_P_IF0_IPV6_0 : Nat := 0x6020C
abbrev Reg.NET_P_IF0_IPV6_1 : Nat := 0x60210
abbrev Reg.NET_P_IF0_IPV6_2 : Nat := 0x60214
abbrev Reg.NET_P_IF0_IPV6_3 : Nat := 0x60218
abbrev Reg.NET_P_IF1_MAC_LO : Nat := 0x60220
abbrev Reg.NET_P_IF1_MAC_HI : Nat := 0x60224
abbrev Reg.NET_P_IF1_IPV4 : Nat := 0x60228
abbrev Reg.NET_P_IF1_IPV6_0 : Nat := 0x6022C
abbrev Reg.NET_P_IF1_IPV6_1 : Nat := 0x60230
abbrev Reg.NET_P_IF1_IPV6_2 : Nat := 0x60234
abbrev Reg.NET_P_IF1_IPV6_3 : Nat := 0x60238
abbrev Reg.NET_P_IF2_MAC_LO : Nat := 0x60240
abbrev Reg.NET_P_IF2_MAC_HI : Nat := 0x60244
abbrev Reg.NET_P_IF2_IPV4 : Nat := 0x60248
abbrev Reg.NET_P_IF2_IPV6_0 : Nat := 0x6024C
abbrev Reg.NET_P_IF2_IPV6_1 : Nat := 0x60250
abbrev Reg.NET_P_IF2_IPV6_2 : Nat := 0x60254
abbrev Reg.NET_P_IF2_IPV6_3 : Nat := 0x60258
abbrev Reg.NET_P_IF3_MAC_LO : Nat := 0x60260
abbrev Reg.NET_P_IF3_MAC_HI : Nat := 0x60264
abbrev Reg.NET_P_IF3_IPV4 : Nat := 0x60268
abbrev Reg.NET_P_IF3_IPV6_0 : Nat := 0x6026C
abbrev Reg.NET_P_IF3_IPV6_1 : Nat := 0x60270
abbrev Reg.NET_P_IF3_IPV6_2 : Nat := 0x60274
abbrev Reg.NET_P_IF3_IPV6_3 : Nat := 0x60278
abbrev Reg.NET_P_IF4_MAC_LO : Nat := 0x60280
abbrev Reg.NET_P_IF4_MAC_HI : Nat := 0x60284
abbrev Reg.NET_P_IF4_IPV4 : Nat := 0x60288
abbrev Reg.NET_P_IF4_IPV6_0 : Nat := 0x6028C
abbrev Reg.NET_P_IF4_IPV6_1 : Nat := 0x60290
abbrev Reg.NET_P_IF4_IPV6_2 : Nat := 0x60294
abbrev Reg.NET_P_IF4_IPV6_3 : Nat := 0x60298
abbrev Reg.NET_P_IF5_MAC_LO : Nat := 0x602A0
abbrev Reg.NET_P_IF5_MAC_HI : Nat := 0x602A4
abbrev Reg.NET_P_IF5_IPV4 : Nat := 0x602A8
abbrev Reg.NET_P_IF5_IPV6_0 : Nat := 0x602AC
abbrev Reg.NET_P_IF5_IPV6_1 : Nat := 0x602B0
abbrev Reg.NET_P_IF5_IPV6_2 : Nat := 0x602B4
abbrev Reg.NET_P_IF5_IPV6_3 : Nat := 0x602B8
abbrev Reg.NET_P_IF6_MAC_LO : Nat := 0x602C0
abbrev Reg.NET_P_IF6_MAC_HI : Nat := 0x602C4
abbrev Reg.NET_P_IF6_IPV4 : Nat := 0x602C8
abbrev Reg.NET_P_IF6_IPV6_0 : Nat := 0x602CC
abbrev Reg.NET_P_IF6_IPV6_1 : Nat := 0x602D0
abbrev Reg.NET_P_IF6_IPV6_2 : Nat := 0x602D4
abbrev Reg.NET_P_IF6_IPV6_3 : Nat := 0x602D8
abbrev Reg.NET_P_IF7_MAC_LO : Nat := 0x602E0
abbrev Reg.NET_P_IF7_MAC_HI : Nat := 0x602E4
abbrev Reg.NET_P_IF7_IPV4 : Nat := 0x602E8
abbrev Reg.NET_P_IF7_IPV6_0 : Nat := 0x602EC
abbrev Reg.NET_P_IF7_IPV6_1 : Nat := 0x602F0
abbrev Reg.NET_P_IF7_IPV6_2 : Nat := 0x602F4
abbrev Reg.NET_P_IF7_IPV6_3 : Nat := 0x602F8
abbrev Reg.DRM_CHSEL : Nat := 0x70000
abbrev Reg.DRM_CTRL : Nat := 0x70004
abbrev Reg.DRM_POP : Nat := 0x70008
abbrev Reg.DRM_AGE_A : Nat := 0x70010
abbrev Reg.DRM_AGE_B : Nat := 0x70014
abbrev Reg.DRM_SCRUB : Nat := 0x70018
abbrev Reg.DRM_ERR_CFG : Nat := 0x7001C
abbrev Reg.DRM_TSET_CMD : Nat := 0x70020
abbrev Reg.DRM_TSET_STATUS : Nat := 0x70024
abbrev Reg.DRM_INT_STATUS : Nat := 0x70040
abbrev Reg.DRM_INT_ENABLE : Nat := 0x70044
abbrev Reg.DRM_CE_TOTAL_LO : Nat := 0x70060
abbrev Reg.DRM_CE_TOTAL_HI : Nat := 0x70064
abbrev Reg.DRM_UE_TOTAL_LO : Nat := 0x70068
abbrev Reg.DRM_UE_TOTAL_HI : Nat := 0x7006C
abbrev Reg.DRM_REFETCH_CNT_LO : Nat := 0x70070
abbrev Reg.DRM_REFETCH_CNT_HI : Nat := 0x70074
abbrev Reg.DRM_CH_STATUS : Nat := 0x70100
abbrev Reg.DRM_CH_REF : Nat := 0x70104
abbrev Reg.DRM_CH_ERR : Nat := 0x70108
abbrev Reg.DRM_CH_LAST_ERR0 : Nat := 0x7010C
abbrev Reg.DRM_CH_LAST_ERR1 : Nat := 0x70110
abbrev Reg.DRM_CH_PPR : Nat := 0x70114
abbrev Reg.DRM_TSA_CFG : Nat := 0x70120
abbrev Reg.DRM_TSA_ROW : Nat := 0x70124
abbrev Reg.DRM_TSA_RAS : Nat := 0x70128
abbrev Reg.DRM_TSA_RFC : Nat := 0x7012C
abbrev Reg.DRM_TSA_REFI : Nat := 0x70130
abbrev Reg.DRM_TSA_WR : Nat := 0x70134
abbrev Reg.DRM_TSA_ACT : Nat := 0x70138
abbrev Reg.DRM_TSA_TURN : Nat := 0x7013C
abbrev Reg.DRM_TSB_CFG : Nat := 0x70140
abbrev Reg.DRM_TSB_ROW : Nat := 0x70144
abbrev Reg.DRM_TSB_RAS : Nat := 0x70148
abbrev Reg.DRM_TSB_RFC : Nat := 0x7014C
abbrev Reg.DRM_TSB_REFI : Nat := 0x70150
abbrev Reg.DRM_TSB_WR : Nat := 0x70154
abbrev Reg.DRM_TSB_ACT : Nat := 0x70158
abbrev Reg.DRM_TSB_TURN : Nat := 0x7015C
abbrev Reg.CEL_CHSEL : Nat := 0x80000
abbrev Reg.CEL_LUNSEL : Nat := 0x80004
abbrev Reg.CEL_CTRL : Nat := 0x80008
abbrev Reg.CEL_GEOM : Nat := 0x8000C
abbrev Reg.CEL_POP : Nat := 0x80010
abbrev Reg.CEL_OP : Nat := 0x80014
abbrev Reg.CEL_VAULT : Nat := 0x80018
abbrev Reg.CEL_WEAR : Nat := 0x8001C
abbrev Reg.CEL_RETRY : Nat := 0x80020
abbrev Reg.CEL_HANG : Nat := 0x80024
abbrev Reg.CEL_MSEQ_STATUS : Nat := 0x80028
abbrev Reg.CEL_GEOM2 : Nat := 0x8002C
abbrev Reg.CEL_INT_STATUS : Nat := 0x80040
abbrev Reg.CEL_INT_ENABLE : Nat := 0x80044
abbrev Reg.CEL_READ_CNT_LO : Nat := 0x80060
abbrev Reg.CEL_READ_CNT_HI : Nat := 0x80064
abbrev Reg.CEL_PROG_CNT_LO : Nat := 0x80068
abbrev Reg.CEL_PROG_CNT_HI : Nat := 0x8006C
abbrev Reg.CEL_ERASE_CNT_LO : Nat := 0x80070
abbrev Reg.CEL_ERASE_CNT_HI : Nat := 0x80074
abbrev Reg.CEL_REBUILD_CNT_LO : Nat := 0x80078
abbrev Reg.CEL_REBUILD_CNT_HI : Nat := 0x8007C
abbrev Reg.CEL_MOVE_CNT_LO : Nat := 0x80080
abbrev Reg.CEL_MOVE_CNT_HI : Nat := 0x80084
abbrev Reg.CEL_C_STATUS : Nat := 0x80100
abbrev Reg.CEL_C_ERR : Nat := 0x80104
abbrev Reg.CEL_L_STATUS : Nat := 0x80200
abbrev Reg.CEL_L_BLKSEL : Nat := 0x80204
abbrev Reg.CEL_L_BLK : Nat := 0x80208
abbrev Reg.CEL_L_BLK_ERASE : Nat := 0x8020C
abbrev Reg.CEL_L_RAW_CMD : Nat := 0x80210
abbrev Reg.CEL_L_RAW_PAGE : Nat := 0x80214
abbrev Reg.CEL_L_RAW_STATUS : Nat := 0x80218
abbrev Reg.CEL_L_RAW_BUF : Nat := 0x84000
abbrev Reg.CPH_KSEL : Nat := 0x90000
abbrev Reg.CPH_CTRL : Nat := 0x90004
abbrev Reg.CPH_STATE : Nat := 0x90008
abbrev Reg.CPH_INT_STATUS : Nat := 0x90040
abbrev Reg.CPH_INT_ENABLE : Nat := 0x90044
abbrev Reg.CPH_MEDIA_BYTES_LO : Nat := 0x90060
abbrev Reg.CPH_MEDIA_BYTES_HI : Nat := 0x90064
abbrev Reg.CPH_HOST_BYTES_LO : Nat := 0x90068
abbrev Reg.CPH_HOST_BYTES_HI : Nat := 0x9006C
abbrev Reg.CPH_AUTH_FAIL_CNT_LO : Nat := 0x90070
abbrev Reg.CPH_AUTH_FAIL_CNT_HI : Nat := 0x90074
abbrev Reg.CPH_K_ATTR : Nat := 0x90100
abbrev Reg.CPH_K_KCV : Nat := 0x90104
abbrev Reg.CPH_K_CMD : Nat := 0x90108
abbrev Reg.CPH_K_DATA0 : Nat := 0x90140
abbrev Reg.CPH_K_DATA1 : Nat := 0x90144
abbrev Reg.CPH_K_DATA2 : Nat := 0x90148
abbrev Reg.CPH_K_DATA3 : Nat := 0x9014C
abbrev Reg.CPH_K_DATA4 : Nat := 0x90150
abbrev Reg.CPH_K_DATA5 : Nat := 0x90154
abbrev Reg.CPH_K_DATA6 : Nat := 0x90158
abbrev Reg.CPH_K_DATA7 : Nat := 0x9015C
abbrev Reg.CPH_K_DATA8 : Nat := 0x90160
abbrev Reg.CPH_K_DATA9 : Nat := 0x90164
abbrev Reg.CPH_K_DATA10 : Nat := 0x90168
abbrev Reg.CPH_K_DATA11 : Nat := 0x9016C
abbrev Reg.CPH_K_DATA12 : Nat := 0x90170
abbrev Reg.CPH_K_DATA13 : Nat := 0x90174
abbrev Reg.CPH_K_DATA14 : Nat := 0x90178
abbrev Reg.CPH_K_DATA15 : Nat := 0x9017C
abbrev Reg.SUP_RAILSEL : Nat := 0xA0000
abbrev Reg.SUP_SEQ_CTRL : Nat := 0xA0004
abbrev Reg.SUP_SEQ_STATUS : Nat := 0xA0008
abbrev Reg.SUP_BTN : Nat := 0xA000C
abbrev Reg.SUP_PWR_CMD : Nat := 0xA0010
abbrev Reg.SUP_MARGIN_UNLOCK : Nat := 0xA0014
abbrev Reg.SUP_PMB_CFG : Nat := 0xA0018
abbrev Reg.SUP_PMB_STATUS : Nat := 0xA001C
abbrev Reg.SUP_HV_MEAS : Nat := 0xA0020
abbrev Reg.SUP_CAP_CTRL : Nat := 0xA0024
abbrev Reg.SUP_CAP_ADDR : Nat := 0xA0028
abbrev Reg.SUP_CAP_DATA : Nat := 0xA002C
abbrev Reg.SUP_SEQ_INT_STATUS : Nat := 0xA0040
abbrev Reg.SUP_SEQ_INT_ENABLE : Nat := 0xA0044
abbrev Reg.SUP_R_CFG : Nat := 0xA0100
abbrev Reg.SUP_R_V0 : Nat := 0xA0104
abbrev Reg.SUP_R_V1 : Nat := 0xA0108
abbrev Reg.SUP_R_TIME : Nat := 0xA010C
abbrev Reg.SUP_R_PMB : Nat := 0xA0110
abbrev Reg.SUP_R_MEAS : Nat := 0xA0114
abbrev Reg.SUP_R_MARGIN : Nat := 0xA0118
abbrev Reg.SUP_R_FAULT : Nat := 0xA011C
abbrev Reg.SUP_PWR_TARGET : Nat := 0xA0200
abbrev Reg.SUP_PWR_STATUS : Nat := 0xA0204
abbrev Reg.SUP_WAKE_EN : Nat := 0xA0208
abbrev Reg.SUP_PWR_CFG : Nat := 0xA020C
abbrev Reg.SUP_RTC_SEC : Nat := 0xA0210
abbrev Reg.SUP_RTC_SUB : Nat := 0xA0214
abbrev Reg.SUP_RTC_WAKE : Nat := 0xA0218
abbrev Reg.SUP_RTC_SLEEP : Nat := 0xA021C
abbrev Reg.SUP_RTC_SCHED : Nat := 0xA0220
abbrev Reg.SUP_WDT_CFG : Nat := 0xA0230
abbrev Reg.SUP_WDT_STATUS : Nat := 0xA0234
abbrev Reg.SUP_RST_STATUS : Nat := 0xA0238
abbrev Reg.SUP_PWR_INT_STATUS : Nat := 0xA0240
abbrev Reg.SUP_PWR_INT_ENABLE : Nat := 0xA0244
abbrev Reg.SUP_HV_WARN : Nat := 0xA0400
abbrev Reg.SUP_HV_BOTTLE : Nat := 0xA0404
abbrev Reg.SUP_HU_CTRL : Nat := 0xA0408
abbrev Reg.SUP_HU_MEAS_C : Nat := 0xA040C
abbrev Reg.SUP_HU_MEAS_ESR : Nat := 0xA0410
abbrev Reg.SUP_HU_STATUS : Nat := 0xA0414
abbrev Reg.SUP_TAMPER_CFG : Nat := 0xA0480
abbrev Reg.SUP_TAMPER_LOCK : Nat := 0xA0484
abbrev Reg.SUP_TAMPER_STATUS : Nat := 0xA0488
abbrev Reg.SUP_ALARM_E : Nat := 0xA048C
abbrev Reg.AGE_CTRL : Nat := 0xB0000
abbrev Reg.AGE_PERIOD : Nat := 0xB0004
abbrev Reg.AGE_VCORE : Nat := 0xB0008
abbrev Reg.AGE_PATH : Nat := 0xB000C
abbrev Reg.AGE_HU_CFG : Nat := 0xB0010
abbrev Reg.AGE_HU_TREND : Nat := 0xB0014
abbrev Reg.AGE_DRAM_CFG : Nat := 0xB0018
abbrev Reg.AGE_NAND_CFG : Nat := 0xB001C
abbrev Reg.AGE_STATUS : Nat := 0xB0020
abbrev Reg.AGE_LEVELS0 : Nat := 0xB0024
abbrev Reg.AGE_LEVELS1 : Nat := 0xB0028
abbrev Reg.AGE_INT_STATUS : Nat := 0xB0040
abbrev Reg.AGE_INT_ENABLE : Nat := 0xB0044
abbrev Reg.TRL_CFG : Nat := 0xC0000
abbrev Reg.TRL_STATUS : Nat := 0xC0004
abbrev Reg.TRL_TIMERS : Nat := 0xC0008
abbrev Reg.TRL_PORT0 : Nat := 0xC0010
abbrev Reg.TRL_PORT1 : Nat := 0xC0014
abbrev Reg.TRL_PORT2 : Nat := 0xC0018
abbrev Reg.TRL_PORT3 : Nat := 0xC001C
abbrev Reg.TRL_TIME : Nat := 0xC0020
abbrev Reg.TRL_INT_STATUS : Nat := 0xC0040
abbrev Reg.TRL_INT_ENABLE : Nat := 0xC0044
abbrev Reg.TRL_PIECES_LO : Nat := 0xC0060
abbrev Reg.TRL_PIECES_HI : Nat := 0xC0064
abbrev Reg.TRL_RESENT_LO : Nat := 0xC0068
abbrev Reg.TRL_RESENT_HI : Nat := 0xC006C
abbrev Reg.EVR_CTRL : Nat := 0xD0000
abbrev Reg.EVR_OPSEC : Nat := 0xD0004
abbrev Reg.EVR_CYCLES : Nat := 0xD0008
abbrev Reg.EVR_SEQ : Nat := 0xD000C
abbrev Reg.EVR_RING_USED : Nat := 0xD0010
abbrev Reg.EVR_ARCH_USED : Nat := 0xD0014
abbrev Reg.EVR_FIFO_LOST : Nat := 0xD0018
abbrev Reg.EVR_DROPPED0 : Nat := 0xD0020
abbrev Reg.EVR_DROPPED1 : Nat := 0xD0024
abbrev Reg.EVR_DROPPED2 : Nat := 0xD0028
abbrev Reg.EVR_DROPPED3 : Nat := 0xD002C
abbrev Reg.EVR_DROPPED4 : Nat := 0xD0030
abbrev Reg.EVR_DROPPED5 : Nat := 0xD0034
abbrev Reg.EVR_DROPPED6 : Nat := 0xD0038
abbrev Reg.EVR_DROPPED7 : Nat := 0xD003C
abbrev Reg.EVR_RD_IDX : Nat := 0xD0040
abbrev Reg.EVR_RD_DATA0 : Nat := 0xD0044
abbrev Reg.EVR_RD_DATA1 : Nat := 0xD0048
abbrev Reg.EVR_RD_DATA2 : Nat := 0xD004C
abbrev Reg.EVR_RD_DATA3 : Nat := 0xD0050
abbrev Reg.EVR_RD_DATA4 : Nat := 0xD0054
abbrev Reg.EVR_RD_DATA5 : Nat := 0xD0058
abbrev Reg.EVR_RD_DATA6 : Nat := 0xD005C
abbrev Reg.EVR_RD_DATA7 : Nat := 0xD0060
abbrev Reg.EVR_INT_STATUS : Nat := 0xD0070
abbrev Reg.EVR_INT_ENABLE : Nat := 0xD0074
abbrev Reg.FWS_CTRL : Nat := 0xE0000
abbrev Reg.FWS_BOOT : Nat := 0xE0004
abbrev Reg.FWS_SLOT_A : Nat := 0xE0008
abbrev Reg.FWS_SLOT_B : Nat := 0xE000C
abbrev Reg.FWS_BOOT_CFG : Nat := 0xE0010
abbrev Reg.FWS_ADDR : Nat := 0xE0014
abbrev Reg.FWS_CMD : Nat := 0xE0018
abbrev Reg.FWS_DATA0 : Nat := 0xE0020
abbrev Reg.FWS_DATA1 : Nat := 0xE0024
abbrev Reg.FWS_DATA2 : Nat := 0xE0028
abbrev Reg.FWS_DATA3 : Nat := 0xE002C
abbrev Reg.FWS_DATA4 : Nat := 0xE0030
abbrev Reg.FWS_DATA5 : Nat := 0xE0034
abbrev Reg.FWS_DATA6 : Nat := 0xE0038
abbrev Reg.FWS_DATA7 : Nat := 0xE003C
abbrev Reg.FWS_BLKSEL : Nat := 0xE0040
abbrev Reg.FWS_BLK_ERASE : Nat := 0xE0044
abbrev Reg.FWS_STATUS : Nat := 0xE0048
abbrev Reg.FWS_XO0 : Nat := 0xE0060
abbrev Reg.FWS_XO1 : Nat := 0xE0064
abbrev Reg.FWS_XO2 : Nat := 0xE0068
abbrev Reg.FWS_XO3 : Nat := 0xE006C
abbrev Reg.FWS_XO4 : Nat := 0xE0070
abbrev Reg.FWS_XO5 : Nat := 0xE0074
abbrev Reg.FWS_XO6 : Nat := 0xE0078
abbrev Reg.FWS_XO7 : Nat := 0xE007C
abbrev Reg.FWS_PROF : Nat := 0xE0080
abbrev Reg.FWS_INT_STATUS : Nat := 0xE0090
abbrev Reg.FWS_INT_ENABLE : Nat := 0xE0094

/-! The named fields. -/
abbrev Fld.GEN_ID0_DEVICE_ID : Fld := ⟨0x0, 31, 16⟩
abbrev Fld.GEN_ID0_VENDOR_ID : Fld := ⟨0x0, 15, 0⟩
abbrev Fld.GEN_ID1_VF_DEVICE_ID : Fld := ⟨0x4, 31, 16⟩
abbrev Fld.GEN_ID1_STEP : Fld := ⟨0x4, 7, 0⟩
abbrev Fld.GEN_SERIAL_LO_VAL_LO : Fld := ⟨0x8, 31, 0⟩
abbrev Fld.GEN_SERIAL_HI_VAL_HI : Fld := ⟨0xC, 31, 0⟩
abbrev Fld.GEN_FW_SLOT : Fld := ⟨0x10, 17, 16⟩
abbrev Fld.GEN_FW_RELEASE : Fld := ⟨0x10, 15, 0⟩
abbrev Fld.GEN_CAP0_DDR_CH : Fld := ⟨0x20, 31, 24⟩
abbrev Fld.GEN_CAP0_ONFI_CH : Fld := ⟨0x20, 23, 16⟩
abbrev Fld.GEN_CAP0_NP_PORTS : Fld := ⟨0x20, 15, 12⟩
abbrev Fld.GEN_CAP0_HP_PORTS : Fld := ⟨0x20, 11, 8⟩
abbrev Fld.GEN_CAP0_TP_PORTS : Fld := ⟨0x20, 7, 4⟩
abbrev Fld.GEN_CAP1_QMQ_LOG2 : Fld := ⟨0x24, 31, 24⟩
abbrev Fld.GEN_CAP1_CELL_LOG2 : Fld := ⟨0x24, 23, 16⟩
abbrev Fld.GEN_CAP1_GRANT_LOG2 : Fld := ⟨0x24, 15, 8⟩
abbrev Fld.GEN_CAP1_CASK_BITS : Fld := ⟨0x24, 7, 0⟩
abbrev Fld.GEN_CAP2_FUNCTIONS : Fld := ⟨0x28, 31, 16⟩
abbrev Fld.GEN_CAP2_KEY_SLOTS : Fld := ⟨0x28, 15, 0⟩
abbrev Fld.GEN_CAP3_SRAM_MIB : Fld := ⟨0x2C, 31, 16⟩
abbrev Fld.GEN_CAP3_STAGE_MIB : Fld := ⟨0x2C, 15, 8⟩
abbrev Fld.GEN_CAP3_CASCADE_MAX : Fld := ⟨0x2C, 7, 0⟩
abbrev Fld.GEN_FEAT_CXL : Fld := ⟨0x30, 8, 8⟩
abbrev Fld.GEN_FEAT_MRDIMM : Fld := ⟨0x30, 7, 7⟩
abbrev Fld.GEN_FEAT_RDIMM : Fld := ⟨0x30, 6, 6⟩
abbrev Fld.GEN_FEAT_TRELLIS : Fld := ⟨0x30, 5, 5⟩
abbrev Fld.GEN_FEAT_VAELAUNE : Fld := ⟨0x30, 4, 4⟩
abbrev Fld.GEN_FEAT_PDT_GCM : Fld := ⟨0x30, 3, 3⟩
abbrev Fld.GEN_FEAT_PDT : Fld := ⟨0x30, 2, 2⟩
abbrev Fld.GEN_FEAT_ROCE_RC : Fld := ⟨0x30, 1, 1⟩
abbrev Fld.GEN_FEAT_SRIOV : Fld := ⟨0x30, 0, 0⟩
abbrev Fld.GEN_LIMITS_ATOMIC_LOG2 : Fld := ⟨0x34, 31, 24⟩
abbrev Fld.GEN_LIMITS_DRAM_TIB : Fld := ⟨0x34, 23, 16⟩
abbrev Fld.GEN_LIMITS_CELLAR_ADDR_BITS : Fld := ⟨0x34, 15, 8⟩
abbrev Fld.GEN_LIMITS_PDT_PAY_KIB : Fld := ⟨0x34, 7, 0⟩
abbrev Fld.GEN_STATUS_ROLE : Fld := ⟨0x40, 31, 28⟩
abbrev Fld.GEN_STATUS_ADMIT : Fld := ⟨0x40, 27, 26⟩
abbrev Fld.GEN_STATUS_SUPPLY : Fld := ⟨0x40, 25, 23⟩
abbrev Fld.GEN_STATUS_RST_PHASE : Fld := ⟨0x40, 22, 19⟩
abbrev Fld.GEN_STATUS_PWR : Fld := ⟨0x40, 18, 15⟩
abbrev Fld.GEN_STATUS_SVC_OK : Fld := ⟨0x40, 14, 14⟩
abbrev Fld.GEN_STATUS_FW_TRIAL : Fld := ⟨0x40, 13, 13⟩
abbrev Fld.GEN_STATUS_HUB_ON : Fld := ⟨0x40, 12, 12⟩
abbrev Fld.GEN_USEC_USEC : Fld := ⟨0x44, 31, 0⟩
abbrev Fld.GEN_SCRATCH_VALUE : Fld := ⟨0x48, 31, 0⟩
abbrev Fld.GEN_CTRL_LOCK_ALL : Fld := ⟨0x50, 31, 31⟩
abbrev Fld.GEN_INT_STATUS_BRIDGE : Fld := ⟨0x60, 2, 2⟩
abbrev Fld.GEN_INT_STATUS_WIDTH : Fld := ⟨0x60, 1, 1⟩
abbrev Fld.GEN_INT_STATUS_RSVD_WR : Fld := ⟨0x60, 0, 0⟩
abbrev Fld.GEN_INT_ENABLE_EN : Fld := ⟨0x64, 2, 0⟩
abbrev Fld.GEN_LAST_ERR0_OFFSET : Fld := ⟨0x70, 25, 0⟩
abbrev Fld.GEN_LAST_ERR1_KIND : Fld := ⟨0x74, 31, 30⟩
abbrev Fld.GEN_LAST_ERR1_WRITE : Fld := ⟨0x74, 29, 29⟩
abbrev Fld.GEN_LAST_ERR1_AGENT : Fld := ⟨0x74, 26, 16⟩
abbrev Fld.QMG_QSEL_QMQ : Fld := ⟨0x10000, 15, 0⟩
abbrev Fld.QMG_CTRL_LOCK : Fld := ⟨0x10004, 31, 31⟩
abbrev Fld.QMG_FREE_FREE : Fld := ⟨0x10008, 18, 0⟩
abbrev Fld.QMG_RES0_RES : Fld := ⟨0x10010, 17, 0⟩
abbrev Fld.QMG_RES1_RES : Fld := ⟨0x10014, 17, 0⟩
abbrev Fld.QMG_RES2_RES : Fld := ⟨0x10018, 17, 0⟩
abbrev Fld.QMG_RES3_RES : Fld := ⟨0x1001C, 17, 0⟩
abbrev Fld.QMG_USED0_USED : Fld := ⟨0x10020, 18, 0⟩
abbrev Fld.QMG_USED1_USED : Fld := ⟨0x10024, 18, 0⟩
abbrev Fld.QMG_USED2_USED : Fld := ⟨0x10028, 18, 0⟩
abbrev Fld.QMG_USED3_USED : Fld := ⟨0x1002C, 18, 0⟩
abbrev Fld.QMG_USED4_USED : Fld := ⟨0x10030, 18, 0⟩
abbrev Fld.QMG_RECLAIM_BUSY : Fld := ⟨0x10040, 31, 31⟩
abbrev Fld.QMG_RECLAIM_GO : Fld := ⟨0x10040, 30, 30⟩
abbrev Fld.QMG_RECLAIM_OWNER : Fld := ⟨0x10040, 11, 0⟩
abbrev Fld.QMG_RECLAIM_CNT_VALUE : Fld := ⟨0x10044, 31, 0⟩
abbrev Fld.QMG_ECC_CE_TOTAL_VALUE : Fld := ⟨0x10050, 31, 0⟩
abbrev Fld.QMG_ECC_UE_TOTAL_VALUE : Fld := ⟨0x10054, 31, 0⟩
abbrev Fld.QMG_LINK_UE_CNT_VALUE : Fld := ⟨0x10058, 31, 0⟩
abbrev Fld.QMG_INT_STATUS_BROKEN : Fld := ⟨0x10060, 4, 4⟩
abbrev Fld.QMG_INT_STATUS_POISON : Fld := ⟨0x10060, 3, 3⟩
abbrev Fld.QMG_INT_STATUS_CE_THR : Fld := ⟨0x10060, 2, 2⟩
abbrev Fld.QMG_INT_STATUS_RECLAIM_DONE : Fld := ⟨0x10060, 1, 1⟩
abbrev Fld.QMG_INT_STATUS_FLOOR : Fld := ⟨0x10060, 0, 0⟩
abbrev Fld.QMG_INT_ENABLE_EN : Fld := ⟨0x10064, 4, 0⟩
abbrev Fld.QMG_CE_THR_THR : Fld := ⟨0x10068, 15, 0⟩
abbrev Fld.QMG_Q_CFG_STATE : Fld := ⟨0x10100, 31, 30⟩
abbrev Fld.QMG_Q_CFG_CLASS : Fld := ⟨0x10100, 29, 27⟩
abbrev Fld.QMG_Q_CFG_OWNER : Fld := ⟨0x10100, 11, 0⟩
abbrev Fld.QMG_Q_CAP_CAP : Fld := ⟨0x10104, 18, 0⟩
abbrev Fld.QMG_Q_CELLS_CELLS : Fld := ⟨0x10108, 18, 0⟩
abbrev Fld.QMG_Q_PKTS_PKTS : Fld := ⟨0x1010C, 18, 0⟩
abbrev Fld.QMG_Q_ECC_UE : Fld := ⟨0x10110, 31, 16⟩
abbrev Fld.QMG_Q_ECC_CE : Fld := ⟨0x10110, 15, 0⟩
abbrev Fld.QMG_Q_DROP_REFUSED : Fld := ⟨0x10114, 31, 16⟩
abbrev Fld.QMG_Q_DROP_REWOUND : Fld := ⟨0x10114, 15, 0⟩
abbrev Fld.QMG_Q_PEAK_PEAK : Fld := ⟨0x10118, 18, 0⟩
abbrev Fld.HRG_FSEL_FN : Fld := ⟨0x20000, 9, 0⟩
abbrev Fld.HRG_PORT_CFG0_BIFUR : Fld := ⟨0x20010, 1, 0⟩
abbrev Fld.HRG_PORT_CFG1_BIFUR : Fld := ⟨0x20014, 1, 0⟩
abbrev Fld.HRG_PORT_CFG2_BIFUR : Fld := ⟨0x20018, 1, 0⟩
abbrev Fld.HRG_PORT_CFG3_BIFUR : Fld := ⟨0x2001C, 1, 0⟩
abbrev Fld.HRG_POLL_IDLE_US : Fld := ⟨0x20020, 15, 0⟩
abbrev Fld.HRG_Q_TOTAL_CQS : Fld := ⟨0x20024, 31, 16⟩
abbrev Fld.HRG_Q_TOTAL_SQS : Fld := ⟨0x20024, 15, 0⟩
abbrev Fld.HRG_FN_CFG_ADMIN : Fld := ⟨0x20100, 31, 31⟩
abbrev Fld.HRG_FN_CFG_PDOM : Fld := ⟨0x20100, 27, 16⟩
abbrev Fld.HRG_FN_CFG_MAX_SQ : Fld := ⟨0x20100, 15, 8⟩
abbrev Fld.HRG_FN_CFG_MAX_CQ : Fld := ⟨0x20100, 7, 0⟩
abbrev Fld.HRG_FN_STATUS_READY : Fld := ⟨0x20104, 31, 31⟩
abbrev Fld.HRG_FN_STATUS_RESETTING : Fld := ⟨0x20104, 30, 30⟩
abbrev Fld.HRG_FN_STATUS_Q0_ERR : Fld := ⟨0x20104, 2, 2⟩
abbrev Fld.HRG_FN_STATUS_HOST_ERR : Fld := ⟨0x20104, 1, 1⟩
abbrev Fld.HRG_FN_STATUS_DB_ERR : Fld := ⟨0x20104, 0, 0⟩
abbrev Fld.HRG_FN_RESET_GO : Fld := ⟨0x20108, 0, 0⟩
abbrev Fld.HRG_AQ_CFG_EN : Fld := ⟨0x20110, 31, 31⟩
abbrev Fld.HRG_AQ_CFG_CQ_LOG2 : Fld := ⟨0x20110, 11, 8⟩
abbrev Fld.HRG_AQ_CFG_SQ_LOG2 : Fld := ⟨0x20110, 3, 0⟩
abbrev Fld.HRG_ASQ_LO_ADDR : Fld := ⟨0x20114, 31, 0⟩
abbrev Fld.HRG_ASQ_HI_ADDR : Fld := ⟨0x20118, 31, 0⟩
abbrev Fld.HRG_ACQ_LO_ADDR : Fld := ⟨0x2011C, 31, 0⟩
abbrev Fld.HRG_ACQ_HI_ADDR : Fld := ⟨0x20120, 31, 0⟩
abbrev Fld.HRG_SHADOW_LO_BASE : Fld := ⟨0x20124, 31, 12⟩
abbrev Fld.HRG_SHADOW_LO_EN : Fld := ⟨0x20124, 0, 0⟩
abbrev Fld.HRG_SHADOW_HI_BASE : Fld := ⟨0x20128, 31, 0⟩
abbrev Fld.HRG_FN_EVT_EN : Fld := ⟨0x20130, 31, 31⟩
abbrev Fld.HRG_FN_EVT_VEC : Fld := ⟨0x20130, 8, 0⟩
abbrev Fld.HRG_FN_EVT_CAUSE_CAUSE : Fld := ⟨0x20134, 14, 0⟩
abbrev Fld.CSK_PIN_LIMIT_PIN_PCT : Fld := ⟨0x30000, 6, 0⟩
abbrev Fld.CSK_FREE_LOW_FREE_LOW_K : Fld := ⟨0x30004, 15, 0⟩
abbrev Fld.CSK_AGE_TICK_TICK_MS : Fld := ⟨0x30008, 13, 0⟩
abbrev Fld.CSK_INT_STATUS_FRAME_GUARD : Fld := ⟨0x30010, 3, 3⟩
abbrev Fld.CSK_INT_STATUS_LATE : Fld := ⟨0x30010, 2, 2⟩
abbrev Fld.CSK_INT_STATUS_STALE_GEN : Fld := ⟨0x30010, 1, 1⟩
abbrev Fld.CSK_INT_STATUS_PROT : Fld := ⟨0x30010, 0, 0⟩
abbrev Fld.CSK_INT_ENABLE_FRAME_GUARD : Fld := ⟨0x30014, 3, 3⟩
abbrev Fld.CSK_INT_ENABLE_LATE : Fld := ⟨0x30014, 2, 2⟩
abbrev Fld.CSK_INT_ENABLE_STALE_GEN : Fld := ⟨0x30014, 1, 1⟩
abbrev Fld.CSK_INT_ENABLE_PROT : Fld := ⟨0x30014, 0, 0⟩
abbrev Fld.CSK_LAST_REJECT_STATUS : Fld := ⟨0x30018, 31, 24⟩
abbrev Fld.CSK_LAST_REJECT_ENTRY : Fld := ⟨0x30018, 23, 22⟩
abbrev Fld.CSK_LAST_REJECT_GRANT_INDEX : Fld := ⟨0x30018, 19, 0⟩
abbrev Fld.CSK_CAP_RACKS_LO_VAL_LO : Fld := ⟨0x30020, 31, 0⟩
abbrev Fld.CSK_CAP_RACKS_HI_VAL_HI : Fld := ⟨0x30024, 31, 0⟩
abbrev Fld.CSK_ALLOC_RACKS_LO_VAL_LO : Fld := ⟨0x30028, 31, 0⟩
abbrev Fld.CSK_ALLOC_RACKS_HI_VAL_HI : Fld := ⟨0x3002C, 31, 0⟩
abbrev Fld.CSK_FRAMES_DATA_LO_VAL_LO : Fld := ⟨0x30030, 31, 0⟩
abbrev Fld.CSK_FRAMES_DATA_HI_VAL_HI : Fld := ⟨0x30034, 31, 0⟩
abbrev Fld.CSK_FRAMES_FREE_LO_VAL_LO : Fld := ⟨0x30038, 31, 0⟩
abbrev Fld.CSK_FRAMES_FREE_HI_VAL_HI : Fld := ⟨0x3003C, 31, 0⟩
abbrev Fld.CSK_FRAMES_PINNED_LO_VAL_LO : Fld := ⟨0x30040, 31, 0⟩
abbrev Fld.CSK_FRAMES_PINNED_HI_VAL_HI : Fld := ⟨0x30044, 31, 0⟩
abbrev Fld.CSK_FETCH_CNT_LO_VAL_LO : Fld := ⟨0x30048, 31, 0⟩
abbrev Fld.CSK_FETCH_CNT_HI_VAL_HI : Fld := ⟨0x3004C, 31, 0⟩
abbrev Fld.CSK_EVICT_CNT_LO_VAL_LO : Fld := ⟨0x30050, 31, 0⟩
abbrev Fld.CSK_EVICT_CNT_HI_VAL_HI : Fld := ⟨0x30054, 31, 0⟩
abbrev Fld.CSK_LATE_CNT_LO_VAL_LO : Fld := ⟨0x30058, 31, 0⟩
abbrev Fld.CSK_LATE_CNT_HI_VAL_HI : Fld := ⟨0x3005C, 31, 0⟩
abbrev Fld.CSK_STALE_CNT_LO_VAL_LO : Fld := ⟨0x30060, 31, 0⟩
abbrev Fld.CSK_STALE_CNT_HI_VAL_HI : Fld := ⟨0x30064, 31, 0⟩
abbrev Fld.CSK_PROT_CNT_LO_VAL_LO : Fld := ⟨0x30068, 31, 0⟩
abbrev Fld.CSK_PROT_CNT_HI_VAL_HI : Fld := ⟨0x3006C, 31, 0⟩
abbrev Fld.CSK_GRANT_LIVE_VALUE : Fld := ⟨0x30070, 31, 0⟩
abbrev Fld.CSK_GRANT_QUAR_VALUE : Fld := ⟨0x30074, 31, 0⟩
abbrev Fld.CSK_STREAMS_VALUE : Fld := ⟨0x30078, 31, 0⟩
abbrev Fld.CSK_LK_CASK_CASK_ID : Fld := ⟨0x30080, 23, 0⟩
abbrev Fld.CSK_LK_OFF_LO_OFF_LO : Fld := ⟨0x30084, 31, 0⟩
abbrev Fld.CSK_LK_OFF_HI_OFF_HI : Fld := ⟨0x30088, 19, 0⟩
abbrev Fld.CSK_LK_CTRL_DONE : Fld := ⟨0x3008C, 31, 31⟩
abbrev Fld.CSK_LK_CTRL_RESULT : Fld := ⟨0x3008C, 2, 1⟩
abbrev Fld.CSK_LK_CTRL_GO : Fld := ⟨0x3008C, 0, 0⟩
abbrev Fld.CSK_LK_ENT0_ENT : Fld := ⟨0x30090, 31, 0⟩
abbrev Fld.CSK_LK_ENT1_ENT : Fld := ⟨0x30094, 31, 0⟩
abbrev Fld.CSK_LK_ENT2_ENT : Fld := ⟨0x30098, 31, 0⟩
abbrev Fld.CSK_LK_ENT3_ENT : Fld := ⟨0x3009C, 31, 0⟩
abbrev Fld.PST_VINT_PERIOD_PERIOD_US : Fld := ⟨0x40000, 6, 0⟩
abbrev Fld.PST_VINT_MAX_MAX_KIB : Fld := ⟨0x40004, 13, 0⟩
abbrev Fld.PST_VINT_CTRL_SEAL_NOW : Fld := ⟨0x40008, 0, 0⟩
abbrev Fld.PST_VINT_STATUS_NUM_VALID : Fld := ⟨0x4000C, 31, 31⟩
abbrev Fld.PST_VINT_STATUS_TWIN_ATTACHED : Fld := ⟨0x4000C, 30, 30⟩
abbrev Fld.PST_VINT_STATUS_STAGE_WAIT : Fld := ⟨0x4000C, 29, 29⟩
abbrev Fld.PST_VINT_STATUS_PENDING : Fld := ⟨0x4000C, 15, 0⟩
abbrev Fld.PST_VINT_OPEN_LO_VAL_LO : Fld := ⟨0x40010, 31, 0⟩
abbrev Fld.PST_VINT_OPEN_HI_VAL_HI : Fld := ⟨0x40014, 31, 0⟩
abbrev Fld.PST_VINT_SEALED_LO_VAL_LO : Fld := ⟨0x40018, 31, 0⟩
abbrev Fld.PST_VINT_SEALED_HI_VAL_HI : Fld := ⟨0x4001C, 31, 0⟩
abbrev Fld.PST_VINT_COMMIT_LO_VAL_LO : Fld := ⟨0x40020, 31, 0⟩
abbrev Fld.PST_VINT_COMMIT_HI_VAL_HI : Fld := ⟨0x40024, 31, 0⟩
abbrev Fld.PST_VINT_APPLIED_LO_VAL_LO : Fld := ⟨0x40028, 31, 0⟩
abbrev Fld.PST_VINT_APPLIED_HI_VAL_HI : Fld := ⟨0x4002C, 31, 0⟩
abbrev Fld.PST_VINT_RESV_LO_VAL_LO : Fld := ⟨0x40030, 31, 0⟩
abbrev Fld.PST_VINT_RESV_HI_VAL_HI : Fld := ⟨0x40034, 31, 0⟩
abbrev Fld.PST_STAGE_USED_USED_KIB : Fld := ⟨0x40040, 15, 0⟩
abbrev Fld.PST_STAGE_PEAK_PEAK_KIB : Fld := ⟨0x40044, 15, 0⟩
abbrev Fld.PST_SEAL_CNT_PERIOD_COUNT : Fld := ⟨0x40048, 31, 0⟩
abbrev Fld.PST_SEAL_CNT_SIZE_COUNT : Fld := ⟨0x4004C, 31, 0⟩
abbrev Fld.PST_SEAL_CNT_FORCED_COUNT : Fld := ⟨0x40050, 31, 0⟩
abbrev Fld.PST_COMMIT_LOCAL_CNT_COUNT : Fld := ⟨0x40054, 31, 0⟩
abbrev Fld.PST_INT_STATUS_PENDING_HIGH : Fld := ⟨0x40060, 2, 2⟩
abbrev Fld.PST_INT_STATUS_LOCAL_COMMIT : Fld := ⟨0x40060, 1, 1⟩
abbrev Fld.PST_INT_STATUS_STAGE_WAIT : Fld := ⟨0x40060, 0, 0⟩
abbrev Fld.PST_INT_ENABLE_PENDING_HIGH : Fld := ⟨0x40064, 2, 2⟩
abbrev Fld.PST_INT_ENABLE_LOCAL_COMMIT : Fld := ⟨0x40064, 1, 1⟩
abbrev Fld.PST_INT_ENABLE_STAGE_WAIT : Fld := ⟨0x40064, 0, 0⟩
abbrev Fld.PST_PENDING_THR_THR : Fld := ⟨0x40068, 15, 0⟩
abbrev Fld.PST_DB_LIMIT_LIMIT_RACKS : Fld := ⟨0x40100, 31, 0⟩
abbrev Fld.PST_DB_PLAN_PLAN_RACKS : Fld := ⟨0x40104, 31, 0⟩
abbrev Fld.PST_DB_CAP_CAP_RACKS : Fld := ⟨0x40108, 31, 0⟩
abbrev Fld.PST_DB_HIGH_HIGH_PCT : Fld := ⟨0x4010C, 6, 0⟩
abbrev Fld.PST_ADMIT_CTRL_PFI_MODE : Fld := ⟨0x40110, 17, 16⟩
abbrev Fld.PST_ADMIT_CTRL_WAIT_MS : Fld := ⟨0x40110, 15, 0⟩
abbrev Fld.PST_ADMIT_STATUS_NO_PLAN_C : Fld := ⟨0x40114, 13, 13⟩
abbrev Fld.PST_ADMIT_STATUS_VAULT_C : Fld := ⟨0x40114, 12, 12⟩
abbrev Fld.PST_ADMIT_STATUS_BOTTLE_C : Fld := ⟨0x40114, 11, 11⟩
abbrev Fld.PST_ADMIT_STATUS_WARN_C : Fld := ⟨0x40114, 10, 10⟩
abbrev Fld.PST_ADMIT_STATUS_GUARD_C : Fld := ⟨0x40114, 9, 9⟩
abbrev Fld.PST_ADMIT_STATUS_LIMIT_C : Fld := ⟨0x40114, 8, 8⟩
abbrev Fld.PST_ADMIT_STATUS_STATE : Fld := ⟨0x40114, 1, 0⟩
abbrev Fld.PST_DB_USED_LO_VAL_LO : Fld := ⟨0x40118, 31, 0⟩
abbrev Fld.PST_DB_USED_HI_VAL_HI : Fld := ⟨0x4011C, 31, 0⟩
abbrev Fld.PST_DB_PEND_VALUE : Fld := ⟨0x40120, 31, 0⟩
abbrev Fld.PST_WB_RATE_VALUE : Fld := ⟨0x40124, 31, 0⟩
abbrev Fld.PST_FLUSH_BW_VALUE : Fld := ⟨0x40128, 31, 0⟩
abbrev Fld.PST_BUDGET_REJ_CNT_VALUE : Fld := ⟨0x4012C, 31, 0⟩
abbrev Fld.PST_THROTTLE_US_VALUE : Fld := ⟨0x40130, 31, 0⟩
abbrev Fld.PST_PLAN_A_VLOW : Fld := ⟨0x40140, 31, 16⟩
abbrev Fld.PST_PLAN_A_PBOTTLE_W : Fld := ⟨0x40140, 15, 0⟩
abbrev Fld.PST_PLAN_B_ETA_PM : Fld := ⟨0x40144, 31, 22⟩
abbrev Fld.PST_PLAN_B_KMARGIN_PM : Fld := ⟨0x40144, 21, 12⟩
abbrev Fld.PST_PLAN_B_TFIXED_MS : Fld := ⟨0x40144, 11, 0⟩
abbrev Fld.PST_PLAN_C_ESRMAX_UOHM : Fld := ⟨0x40148, 15, 0⟩
abbrev Fld.PST_BDG_INT_STATUS_RESUMED : Fld := ⟨0x40150, 4, 4⟩
abbrev Fld.PST_BDG_INT_STATUS_PLAN_DROP : Fld := ⟨0x40150, 3, 3⟩
abbrev Fld.PST_BDG_INT_STATUS_WARN : Fld := ⟨0x40150, 2, 2⟩
abbrev Fld.PST_BDG_INT_STATUS_STOPPED : Fld := ⟨0x40150, 1, 1⟩
abbrev Fld.PST_BDG_INT_STATUS_THROTTLED : Fld := ⟨0x40150, 0, 0⟩
abbrev Fld.PST_BDG_INT_ENABLE_RESUMED : Fld := ⟨0x40154, 4, 4⟩
abbrev Fld.PST_BDG_INT_ENABLE_PLAN_DROP : Fld := ⟨0x40154, 3, 3⟩
abbrev Fld.PST_BDG_INT_ENABLE_WARN : Fld := ⟨0x40154, 2, 2⟩
abbrev Fld.PST_BDG_INT_ENABLE_STOPPED : Fld := ⟨0x40154, 1, 1⟩
abbrev Fld.PST_BDG_INT_ENABLE_THROTTLED : Fld := ⟨0x40154, 0, 0⟩
abbrev Fld.PST_RST_STATUS_PHASE : Fld := ⟨0x40200, 31, 28⟩
abbrev Fld.PST_RST_STATUS_SOURCE : Fld := ⟨0x40200, 27, 26⟩
abbrev Fld.PST_RST_STATUS_SRC_GEN : Fld := ⟨0x40200, 25, 25⟩
abbrev Fld.PST_RST_STATUS_OLDER_REF : Fld := ⟨0x40200, 24, 24⟩
abbrev Fld.PST_RST_STATUS_ALONE : Fld := ⟨0x40200, 23, 23⟩
abbrev Fld.PST_RST_STATUS_NO_ERASED : Fld := ⟨0x40200, 22, 22⟩
abbrev Fld.PST_RST_STATUS_WAVE_PRI : Fld := ⟨0x40200, 19, 16⟩
abbrev Fld.PST_RST_CTRL_TWIN_WAIT_MS : Fld := ⟨0x40204, 31, 16⟩
abbrev Fld.PST_RST_CTRL_WAVE_DEPTH : Fld := ⟨0x40204, 11, 8⟩
abbrev Fld.PST_RST_CTRL_FILL_EN : Fld := ⟨0x40204, 0, 0⟩
abbrev Fld.PST_RST_CLEAR_KEY : Fld := ⟨0x40208, 31, 16⟩
abbrev Fld.PST_RST_CLEAR_GO : Fld := ⟨0x40208, 0, 0⟩
abbrev Fld.PST_RST_T_T_OPEN_MS : Fld := ⟨0x4020C, 31, 16⟩
abbrev Fld.PST_RST_T_T_WAVE0_MS : Fld := ⟨0x4020C, 15, 0⟩
abbrev Fld.PST_RST_PEND_DISCARDED : Fld := ⟨0x40210, 31, 16⟩
abbrev Fld.PST_RST_PEND_COMMITTED : Fld := ⟨0x40210, 15, 0⟩
abbrev Fld.PST_RST_RESOLVE_LO_VAL_LO : Fld := ⟨0x40218, 31, 0⟩
abbrev Fld.PST_RST_RESOLVE_HI_VAL_HI : Fld := ⟨0x4021C, 31, 0⟩
abbrev Fld.PST_RST_VAULT_LEFT_E_LO_VAL_LO : Fld := ⟨0x40220, 31, 0⟩
abbrev Fld.PST_RST_VAULT_LEFT_E_HI_VAL_HI : Fld := ⟨0x40224, 31, 0⟩
abbrev Fld.PST_RST_VAULT_LEFT_O_LO_VAL_LO : Fld := ⟨0x40228, 31, 0⟩
abbrev Fld.PST_RST_VAULT_LEFT_O_HI_VAL_HI : Fld := ⟨0x4022C, 31, 0⟩
abbrev Fld.PST_RST_FILL_LEFT_LO_VAL_LO : Fld := ⟨0x40230, 31, 0⟩
abbrev Fld.PST_RST_FILL_LEFT_HI_VAL_HI : Fld := ⟨0x40234, 31, 0⟩
abbrev Fld.PST_RST_DEMAND_CNT_LO_VAL_LO : Fld := ⟨0x40238, 31, 0⟩
abbrev Fld.PST_RST_DEMAND_CNT_HI_VAL_HI : Fld := ⟨0x4023C, 31, 0⟩
abbrev Fld.PST_RST_INT_STATUS_NO_IMAGE : Fld := ⟨0x40240, 4, 4⟩
abbrev Fld.PST_RST_INT_STATUS_ALONE : Fld := ⟨0x40240, 3, 3⟩
abbrev Fld.PST_RST_INT_STATUS_HOMED : Fld := ⟨0x40240, 2, 2⟩
abbrev Fld.PST_RST_INT_STATUS_FILL_DONE : Fld := ⟨0x40240, 1, 1⟩
abbrev Fld.PST_RST_INT_STATUS_OPEN : Fld := ⟨0x40240, 0, 0⟩
abbrev Fld.PST_RST_INT_ENABLE_NO_IMAGE : Fld := ⟨0x40244, 4, 4⟩
abbrev Fld.PST_RST_INT_ENABLE_ALONE : Fld := ⟨0x40244, 3, 3⟩
abbrev Fld.PST_RST_INT_ENABLE_HOMED : Fld := ⟨0x40244, 2, 2⟩
abbrev Fld.PST_RST_INT_ENABLE_FILL_DONE : Fld := ⟨0x40244, 1, 1⟩
abbrev Fld.PST_RST_INT_ENABLE_OPEN : Fld := ⟨0x40244, 0, 0⟩
abbrev Fld.MIR_CTRL_LOCK : Fld := ⟨0x50000, 31, 31⟩
abbrev Fld.MIR_CTRL_HANDBACK_EN : Fld := ⟨0x50000, 7, 7⟩
abbrev Fld.MIR_CTRL_PREF_STANDBY : Fld := ⟨0x50000, 4, 4⟩
abbrev Fld.MIR_CTRL_UNIT : Fld := ⟨0x50000, 0, 0⟩
abbrev Fld.MIR_PAIR_LO_PAIR : Fld := ⟨0x50004, 31, 0⟩
abbrev Fld.MIR_PAIR_HI_PAIR : Fld := ⟨0x50008, 31, 0⟩
abbrev Fld.MIR_ROLE_STATE : Fld := ⟨0x50010, 31, 28⟩
abbrev Fld.MIR_ROLE_TWIN : Fld := ⟨0x50010, 27, 24⟩
abbrev Fld.MIR_ROLE_SOLO_PEND : Fld := ⟨0x50010, 23, 23⟩
abbrev Fld.MIR_ROLE_STALE : Fld := ⟨0x50010, 22, 22⟩
abbrev Fld.MIR_ROLE_FENCE_CAUSE : Fld := ⟨0x50010, 21, 18⟩
abbrev Fld.MIR_ROLE_HB_ARMED : Fld := ⟨0x50010, 17, 17⟩
abbrev Fld.MIR_EPOCH_EPOCH : Fld := ⟨0x50014, 31, 0⟩
abbrev Fld.MIR_LEASE_RESULT : Fld := ⟨0x50018, 31, 24⟩
abbrev Fld.MIR_LEASE_AGE_MS : Fld := ⟨0x50018, 15, 0⟩
abbrev Fld.MIR_TIMERS_HANDBACK_DELAY_S : Fld := ⟨0x50020, 31, 16⟩
abbrev Fld.MIR_TIMERS_ABSENT_TMO_MS : Fld := ⟨0x50020, 15, 8⟩
abbrev Fld.MIR_TIMERS_PFETCH_TMO_MS : Fld := ⟨0x50020, 7, 0⟩
abbrev Fld.MIR_LINK_CFG_MIN_LANES : Fld := ⟨0x50024, 1, 0⟩
abbrev Fld.MIR_LINK_STATUS_UP : Fld := ⟨0x50028, 31, 31⟩
abbrev Fld.MIR_LINK_STATUS_WIDTH : Fld := ⟨0x50028, 30, 29⟩
abbrev Fld.MIR_LINK_STATUS_RETRAINS : Fld := ⟨0x50028, 28, 16⟩
abbrev Fld.MIR_LINK_STATUS_LANE_OK : Fld := ⟨0x50028, 15, 0⟩
abbrev Fld.MIR_RTT_MAX : Fld := ⟨0x5002C, 31, 16⟩
abbrev Fld.MIR_RTT_LAST : Fld := ⟨0x5002C, 15, 0⟩
abbrev Fld.MIR_ARB_ADDR0_ADDR : Fld := ⟨0x50040, 31, 0⟩
abbrev Fld.MIR_ARB_ADDR1_ADDR : Fld := ⟨0x50044, 31, 0⟩
abbrev Fld.MIR_ARB_ADDR2_ADDR : Fld := ⟨0x50048, 31, 0⟩
abbrev Fld.MIR_ARB_ADDR3_ADDR : Fld := ⟨0x5004C, 31, 0⟩
abbrev Fld.MIR_ARB_PORT_DST : Fld := ⟨0x50050, 31, 16⟩
abbrev Fld.MIR_ARB_PORT_SRC : Fld := ⟨0x50050, 15, 0⟩
abbrev Fld.MIR_ARB_PATH_ALT_EN : Fld := ⟨0x50054, 31, 31⟩
abbrev Fld.MIR_ARB_PATH_PRI : Fld := ⟨0x50054, 26, 24⟩
abbrev Fld.MIR_ARB_PATH_ALT : Fld := ⟨0x50054, 22, 20⟩
abbrev Fld.MIR_ARB_PATH_VLAN : Fld := ⟨0x50054, 11, 0⟩
abbrev Fld.MIR_ARB_KEY_KSLOT : Fld := ⟨0x50058, 11, 0⟩
abbrev Fld.MIR_CMD_HANDBACK_NOW : Fld := ⟨0x50060, 2, 2⟩
abbrev Fld.MIR_CMD_JOIN : Fld := ⟨0x50060, 1, 1⟩
abbrev Fld.MIR_CMD_DETACH : Fld := ⟨0x50060, 0, 0⟩
abbrev Fld.MIR_INT_STATUS_JOIN_REFUSED : Fld := ⟨0x50070, 7, 7⟩
abbrev Fld.MIR_INT_STATUS_PFETCH_FAIL : Fld := ⟨0x50070, 6, 6⟩
abbrev Fld.MIR_INT_STATUS_HANDBACK : Fld := ⟨0x50070, 5, 5⟩
abbrev Fld.MIR_INT_STATUS_RESYNC_DONE : Fld := ⟨0x50070, 4, 4⟩
abbrev Fld.MIR_INT_STATUS_LANE_DEGRADE : Fld := ⟨0x50070, 3, 3⟩
abbrev Fld.MIR_INT_STATUS_LEASE_LOST : Fld := ⟨0x50070, 2, 2⟩
abbrev Fld.MIR_INT_STATUS_TWIN_ABSENT : Fld := ⟨0x50070, 1, 1⟩
abbrev Fld.MIR_INT_STATUS_ROLE_CHANGE : Fld := ⟨0x50070, 0, 0⟩
abbrev Fld.MIR_INT_ENABLE_EN : Fld := ⟨0x50074, 7, 0⟩
abbrev Fld.MIR_ABSENT_LO_VAL_LO : Fld := ⟨0x50080, 31, 0⟩
abbrev Fld.MIR_ABSENT_HI_VAL_HI : Fld := ⟨0x50084, 31, 0⟩
abbrev Fld.MIR_SHIPPED_LO_VAL_LO : Fld := ⟨0x50088, 31, 0⟩
abbrev Fld.MIR_SHIPPED_HI_VAL_HI : Fld := ⟨0x5008C, 31, 0⟩
abbrev Fld.MIR_VNAK_CNT_LO_VAL_LO : Fld := ⟨0x50090, 31, 0⟩
abbrev Fld.MIR_VNAK_CNT_HI_VAL_HI : Fld := ⟨0x50094, 31, 0⟩
abbrev Fld.MIR_PFETCH_CNT_LO_VAL_LO : Fld := ⟨0x50098, 31, 0⟩
abbrev Fld.MIR_PFETCH_CNT_HI_VAL_HI : Fld := ⟨0x5009C, 31, 0⟩
abbrev Fld.NET_PSEL_PORT : Fld := ⟨0x60000, 2, 0⟩
abbrev Fld.NET_CTRL_LOCK : Fld := ⟨0x60004, 31, 31⟩
abbrev Fld.NET_CTRL_RNR_FENCE : Fld := ⟨0x60004, 12, 8⟩
abbrev Fld.NET_CTRL_ECT : Fld := ⟨0x60004, 1, 0⟩
abbrev Fld.NET_CNP_INT_US : Fld := ⟨0x60008, 31, 16⟩
abbrev Fld.NET_CNP_DSCP : Fld := ⟨0x60008, 13, 8⟩
abbrev Fld.NET_CNP_PRIO : Fld := ⟨0x60008, 2, 0⟩
abbrev Fld.NET_DCQCN_A_ALPHA_US : Fld := ⟨0x60010, 31, 20⟩
abbrev Fld.NET_DCQCN_A_INC_US : Fld := ⟨0x60010, 19, 8⟩
abbrev Fld.NET_DCQCN_A_F : Fld := ⟨0x60010, 7, 4⟩
abbrev Fld.NET_DCQCN_A_G_LOG2 : Fld := ⟨0x60010, 3, 0⟩
abbrev Fld.NET_DCQCN_B_RAI : Fld := ⟨0x60014, 31, 16⟩
abbrev Fld.NET_DCQCN_B_RHAI : Fld := ⟨0x60014, 15, 0⟩
abbrev Fld.NET_DCQCN_C_RMIN : Fld := ⟨0x60018, 31, 16⟩
abbrev Fld.NET_DCQCN_C_BC_MIB : Fld := ⟨0x60018, 15, 0⟩
abbrev Fld.NET_QP_LIVE_COUNT : Fld := ⟨0x60020, 20, 0⟩
abbrev Fld.NET_INT_STATUS_QP_ERR : Fld := ⟨0x60040, 4, 4⟩
abbrev Fld.NET_INT_STATUS_STORM : Fld := ⟨0x60040, 3, 3⟩
abbrev Fld.NET_INT_STATUS_REFUSED : Fld := ⟨0x60040, 2, 2⟩
abbrev Fld.NET_INT_STATUS_LINK_DOWN : Fld := ⟨0x60040, 1, 1⟩
abbrev Fld.NET_INT_STATUS_LINK_UP : Fld := ⟨0x60040, 0, 0⟩
abbrev Fld.NET_INT_ENABLE_EN : Fld := ⟨0x60044, 4, 0⟩
abbrev Fld.NET_QPC_HIT_LO_VAL_LO : Fld := ⟨0x60050, 31, 0⟩
abbrev Fld.NET_QPC_HIT_HI_VAL_HI : Fld := ⟨0x60054, 31, 0⟩
abbrev Fld.NET_QPC_MISS_LO_VAL_LO : Fld := ⟨0x60058, 31, 0⟩
abbrev Fld.NET_QPC_MISS_HI_VAL_HI : Fld := ⟨0x6005C, 31, 0⟩
abbrev Fld.NET_P_MODE_EN : Fld := ⟨0x60100, 31, 31⟩
abbrev Fld.NET_P_MODE_MEDIA : Fld := ⟨0x60100, 9, 8⟩
abbrev Fld.NET_P_MODE_BRK : Fld := ⟨0x60100, 2, 0⟩
abbrev Fld.NET_P_STATUS_FLAPS : Fld := ⟨0x60104, 31, 16⟩
abbrev Fld.NET_P_STATUS_UP : Fld := ⟨0x60104, 7, 0⟩
abbrev Fld.NET_P_PFC_EN : Fld := ⟨0x60108, 31, 24⟩
abbrev Fld.NET_P_PFC_STORM_MS : Fld := ⟨0x60108, 15, 0⟩
abbrev Fld.NET_P_XOFF_XON : Fld := ⟨0x6010C, 31, 16⟩
abbrev Fld.NET_P_XOFF_XOFF : Fld := ⟨0x6010C, 15, 0⟩
abbrev Fld.NET_P_ECN_LOCAL_CE : Fld := ⟨0x60110, 31, 31⟩
abbrev Fld.NET_P_ECN_THR : Fld := ⟨0x60110, 15, 0⟩
abbrev Fld.NET_P_PRIO_TRUST : Fld := ⟨0x60114, 16, 16⟩
abbrev Fld.NET_P_PRIO_ARB_DSCP : Fld := ⟨0x60114, 13, 8⟩
abbrev Fld.NET_P_PRIO_ARB_PRIO : Fld := ⟨0x60114, 2, 0⟩
abbrev Fld.NET_P_RX_FRAMES_LO_VAL_LO : Fld := ⟨0x60180, 31, 0⟩
abbrev Fld.NET_P_RX_FRAMES_HI_VAL_HI : Fld := ⟨0x60184, 31, 0⟩
abbrev Fld.NET_P_TX_FRAMES_LO_VAL_LO : Fld := ⟨0x60188, 31, 0⟩
abbrev Fld.NET_P_TX_FRAMES_HI_VAL_HI : Fld := ⟨0x6018C, 31, 0⟩
abbrev Fld.NET_P_DROP_LO_VAL_LO : Fld := ⟨0x60190, 31, 0⟩
abbrev Fld.NET_P_DROP_HI_VAL_HI : Fld := ⟨0x60194, 31, 0⟩
abbrev Fld.NET_P_REFUSED_LO_VAL_LO : Fld := ⟨0x60198, 31, 0⟩
abbrev Fld.NET_P_REFUSED_HI_VAL_HI : Fld := ⟨0x6019C, 31, 0⟩
abbrev Fld.NET_P_PFC_TX_LO_VAL_LO : Fld := ⟨0x601A0, 31, 0⟩
abbrev Fld.NET_P_PFC_TX_HI_VAL_HI : Fld := ⟨0x601A4, 31, 0⟩
abbrev Fld.NET_P_PFC_RX_LO_VAL_LO : Fld := ⟨0x601A8, 31, 0⟩
abbrev Fld.NET_P_PFC_RX_HI_VAL_HI : Fld := ⟨0x601AC, 31, 0⟩
abbrev Fld.NET_P_CE_LO_VAL_LO : Fld := ⟨0x601B0, 31, 0⟩
abbrev Fld.NET_P_CE_HI_VAL_HI : Fld := ⟨0x601B4, 31, 0⟩
abbrev Fld.NET_P_CNP_TX_LO_VAL_LO : Fld := ⟨0x601B8, 31, 0⟩
abbrev Fld.NET_P_CNP_TX_HI_VAL_HI : Fld := ⟨0x601BC, 31, 0⟩
abbrev Fld.NET_P_CNP_RX_LO_VAL_LO : Fld := ⟨0x601C0, 31, 0⟩
abbrev Fld.NET_P_CNP_RX_HI_VAL_HI : Fld := ⟨0x601C4, 31, 0⟩
abbrev Fld.NET_P_IF0_MAC_LO_MAC_LO : Fld := ⟨0x60200, 31, 0⟩
abbrev Fld.NET_P_IF0_MAC_HI_VLAN : Fld := ⟨0x60204, 27, 16⟩
abbrev Fld.NET_P_IF0_MAC_HI_MAC_HI : Fld := ⟨0x60204, 15, 0⟩
abbrev Fld.NET_P_IF0_IPV4_IPV4 : Fld := ⟨0x60208, 31, 0⟩
abbrev Fld.NET_P_IF0_IPV6_0_IPV6 : Fld := ⟨0x6020C, 31, 0⟩
abbrev Fld.NET_P_IF0_IPV6_1_IPV6 : Fld := ⟨0x60210, 31, 0⟩
abbrev Fld.NET_P_IF0_IPV6_2_IPV6 : Fld := ⟨0x60214, 31, 0⟩
abbrev Fld.NET_P_IF0_IPV6_3_IPV6 : Fld := ⟨0x60218, 31, 0⟩
abbrev Fld.NET_P_IF1_MAC_LO_MAC_LO : Fld := ⟨0x60220, 31, 0⟩
abbrev Fld.NET_P_IF1_MAC_HI_VLAN : Fld := ⟨0x60224, 27, 16⟩
abbrev Fld.NET_P_IF1_MAC_HI_MAC_HI : Fld := ⟨0x60224, 15, 0⟩
abbrev Fld.NET_P_IF1_IPV4_IPV4 : Fld := ⟨0x60228, 31, 0⟩
abbrev Fld.NET_P_IF1_IPV6_0_IPV6 : Fld := ⟨0x6022C, 31, 0⟩
abbrev Fld.NET_P_IF1_IPV6_1_IPV6 : Fld := ⟨0x60230, 31, 0⟩
abbrev Fld.NET_P_IF1_IPV6_2_IPV6 : Fld := ⟨0x60234, 31, 0⟩
abbrev Fld.NET_P_IF1_IPV6_3_IPV6 : Fld := ⟨0x60238, 31, 0⟩
abbrev Fld.NET_P_IF2_MAC_LO_MAC_LO : Fld := ⟨0x60240, 31, 0⟩
abbrev Fld.NET_P_IF2_MAC_HI_VLAN : Fld := ⟨0x60244, 27, 16⟩
abbrev Fld.NET_P_IF2_MAC_HI_MAC_HI : Fld := ⟨0x60244, 15, 0⟩
abbrev Fld.NET_P_IF2_IPV4_IPV4 : Fld := ⟨0x60248, 31, 0⟩
abbrev Fld.NET_P_IF2_IPV6_0_IPV6 : Fld := ⟨0x6024C, 31, 0⟩
abbrev Fld.NET_P_IF2_IPV6_1_IPV6 : Fld := ⟨0x60250, 31, 0⟩
abbrev Fld.NET_P_IF2_IPV6_2_IPV6 : Fld := ⟨0x60254, 31, 0⟩
abbrev Fld.NET_P_IF2_IPV6_3_IPV6 : Fld := ⟨0x60258, 31, 0⟩
abbrev Fld.NET_P_IF3_MAC_LO_MAC_LO : Fld := ⟨0x60260, 31, 0⟩
abbrev Fld.NET_P_IF3_MAC_HI_VLAN : Fld := ⟨0x60264, 27, 16⟩
abbrev Fld.NET_P_IF3_MAC_HI_MAC_HI : Fld := ⟨0x60264, 15, 0⟩
abbrev Fld.NET_P_IF3_IPV4_IPV4 : Fld := ⟨0x60268, 31, 0⟩
abbrev Fld.NET_P_IF3_IPV6_0_IPV6 : Fld := ⟨0x6026C, 31, 0⟩
abbrev Fld.NET_P_IF3_IPV6_1_IPV6 : Fld := ⟨0x60270, 31, 0⟩
abbrev Fld.NET_P_IF3_IPV6_2_IPV6 : Fld := ⟨0x60274, 31, 0⟩
abbrev Fld.NET_P_IF3_IPV6_3_IPV6 : Fld := ⟨0x60278, 31, 0⟩
abbrev Fld.NET_P_IF4_MAC_LO_MAC_LO : Fld := ⟨0x60280, 31, 0⟩
abbrev Fld.NET_P_IF4_MAC_HI_VLAN : Fld := ⟨0x60284, 27, 16⟩
abbrev Fld.NET_P_IF4_MAC_HI_MAC_HI : Fld := ⟨0x60284, 15, 0⟩
abbrev Fld.NET_P_IF4_IPV4_IPV4 : Fld := ⟨0x60288, 31, 0⟩
abbrev Fld.NET_P_IF4_IPV6_0_IPV6 : Fld := ⟨0x6028C, 31, 0⟩
abbrev Fld.NET_P_IF4_IPV6_1_IPV6 : Fld := ⟨0x60290, 31, 0⟩
abbrev Fld.NET_P_IF4_IPV6_2_IPV6 : Fld := ⟨0x60294, 31, 0⟩
abbrev Fld.NET_P_IF4_IPV6_3_IPV6 : Fld := ⟨0x60298, 31, 0⟩
abbrev Fld.NET_P_IF5_MAC_LO_MAC_LO : Fld := ⟨0x602A0, 31, 0⟩
abbrev Fld.NET_P_IF5_MAC_HI_VLAN : Fld := ⟨0x602A4, 27, 16⟩
abbrev Fld.NET_P_IF5_MAC_HI_MAC_HI : Fld := ⟨0x602A4, 15, 0⟩
abbrev Fld.NET_P_IF5_IPV4_IPV4 : Fld := ⟨0x602A8, 31, 0⟩
abbrev Fld.NET_P_IF5_IPV6_0_IPV6 : Fld := ⟨0x602AC, 31, 0⟩
abbrev Fld.NET_P_IF5_IPV6_1_IPV6 : Fld := ⟨0x602B0, 31, 0⟩
abbrev Fld.NET_P_IF5_IPV6_2_IPV6 : Fld := ⟨0x602B4, 31, 0⟩
abbrev Fld.NET_P_IF5_IPV6_3_IPV6 : Fld := ⟨0x602B8, 31, 0⟩
abbrev Fld.NET_P_IF6_MAC_LO_MAC_LO : Fld := ⟨0x602C0, 31, 0⟩
abbrev Fld.NET_P_IF6_MAC_HI_VLAN : Fld := ⟨0x602C4, 27, 16⟩
abbrev Fld.NET_P_IF6_MAC_HI_MAC_HI : Fld := ⟨0x602C4, 15, 0⟩
abbrev Fld.NET_P_IF6_IPV4_IPV4 : Fld := ⟨0x602C8, 31, 0⟩
abbrev Fld.NET_P_IF6_IPV6_0_IPV6 : Fld := ⟨0x602CC, 31, 0⟩
abbrev Fld.NET_P_IF6_IPV6_1_IPV6 : Fld := ⟨0x602D0, 31, 0⟩
abbrev Fld.NET_P_IF6_IPV6_2_IPV6 : Fld := ⟨0x602D4, 31, 0⟩
abbrev Fld.NET_P_IF6_IPV6_3_IPV6 : Fld := ⟨0x602D8, 31, 0⟩
abbrev Fld.NET_P_IF7_MAC_LO_MAC_LO : Fld := ⟨0x602E0, 31, 0⟩
abbrev Fld.NET_P_IF7_MAC_HI_VLAN : Fld := ⟨0x602E4, 27, 16⟩
abbrev Fld.NET_P_IF7_MAC_HI_MAC_HI : Fld := ⟨0x602E4, 15, 0⟩
abbrev Fld.NET_P_IF7_IPV4_IPV4 : Fld := ⟨0x602E8, 31, 0⟩
abbrev Fld.NET_P_IF7_IPV6_0_IPV6 : Fld := ⟨0x602EC, 31, 0⟩
abbrev Fld.NET_P_IF7_IPV6_1_IPV6 : Fld := ⟨0x602F0, 31, 0⟩
abbrev Fld.NET_P_IF7_IPV6_2_IPV6 : Fld := ⟨0x602F4, 31, 0⟩
abbrev Fld.NET_P_IF7_IPV6_3_IPV6 : Fld := ⟨0x602F8, 31, 0⟩
abbrev Fld.DRM_CHSEL_CH : Fld := ⟨0x70000, 4, 0⟩
abbrev Fld.DRM_CTRL_LOCK : Fld := ⟨0x70004, 31, 31⟩
abbrev Fld.DRM_CTRL_SR_IDLE_US : Fld := ⟨0x70004, 15, 0⟩
abbrev Fld.DRM_POP_ILLEGAL : Fld := ⟨0x70008, 31, 31⟩
abbrev Fld.DRM_POP_TYPE : Fld := ⟨0x70008, 30, 29⟩
abbrev Fld.DRM_POP_DPC2 : Fld := ⟨0x70008, 28, 28⟩
abbrev Fld.DRM_POP_RATE : Fld := ⟨0x70008, 27, 24⟩
abbrev Fld.DRM_POP_DIMM_GIB : Fld := ⟨0x70008, 9, 0⟩
abbrev Fld.DRM_AGE_A_C0 : Fld := ⟨0x70010, 31, 16⟩
abbrev Fld.DRM_AGE_A_C1 : Fld := ⟨0x70010, 15, 0⟩
abbrev Fld.DRM_AGE_B_C2 : Fld := ⟨0x70014, 31, 16⟩
abbrev Fld.DRM_AGE_B_C3 : Fld := ⟨0x70014, 15, 0⟩
abbrev Fld.DRM_SCRUB_PERIOD_H : Fld := ⟨0x70018, 31, 24⟩
abbrev Fld.DRM_SCRUB_EN : Fld := ⟨0x70018, 0, 0⟩
abbrev Fld.DRM_ERR_CFG_CH_UE_MAX : Fld := ⟨0x7001C, 15, 8⟩
abbrev Fld.DRM_ERR_CFG_ROW_CE_THR : Fld := ⟨0x7001C, 7, 0⟩
abbrev Fld.DRM_TSET_CMD_GO : Fld := ⟨0x70020, 31, 31⟩
abbrev Fld.DRM_TSET_CMD_ALL : Fld := ⟨0x70020, 30, 30⟩
abbrev Fld.DRM_TSET_STATUS_BUSY : Fld := ⟨0x70024, 31, 31⟩
abbrev Fld.DRM_TSET_STATUS_FAIL : Fld := ⟨0x70024, 30, 30⟩
abbrev Fld.DRM_TSET_STATUS_CUR : Fld := ⟨0x70024, 4, 0⟩
abbrev Fld.DRM_INT_STATUS_CH_RETIRED : Fld := ⟨0x70040, 6, 6⟩
abbrev Fld.DRM_INT_STATUS_UE : Fld := ⟨0x70040, 5, 5⟩
abbrev Fld.DRM_INT_STATUS_CE_ROW : Fld := ⟨0x70040, 4, 4⟩
abbrev Fld.DRM_INT_STATUS_PPR_DONE : Fld := ⟨0x70040, 3, 3⟩
abbrev Fld.DRM_INT_STATUS_HOT : Fld := ⟨0x70040, 2, 2⟩
abbrev Fld.DRM_INT_STATUS_TSET_FAIL : Fld := ⟨0x70040, 1, 1⟩
abbrev Fld.DRM_INT_STATUS_TSET_DONE : Fld := ⟨0x70040, 0, 0⟩
abbrev Fld.DRM_INT_ENABLE_EN : Fld := ⟨0x70044, 6, 0⟩
abbrev Fld.DRM_CE_TOTAL_LO_VAL_LO : Fld := ⟨0x70060, 31, 0⟩
abbrev Fld.DRM_CE_TOTAL_HI_VAL_HI : Fld := ⟨0x70064, 31, 0⟩
abbrev Fld.DRM_UE_TOTAL_LO_VAL_LO : Fld := ⟨0x70068, 31, 0⟩
abbrev Fld.DRM_UE_TOTAL_HI_VAL_HI : Fld := ⟨0x7006C, 31, 0⟩
abbrev Fld.DRM_REFETCH_CNT_LO_VAL_LO : Fld := ⟨0x70070, 31, 0⟩
abbrev Fld.DRM_REFETCH_CNT_HI_VAL_HI : Fld := ⟨0x70074, 31, 0⟩
abbrev Fld.DRM_CH_STATUS_STATE : Fld := ⟨0x70100, 31, 30⟩
abbrev Fld.DRM_CH_STATUS_SWITCHING : Fld := ⟨0x70100, 29, 29⟩
abbrev Fld.DRM_CH_STATUS_ACTIVE_SET : Fld := ⟨0x70100, 28, 28⟩
abbrev Fld.DRM_CH_STATUS_HOT : Fld := ⟨0x70100, 27, 27⟩
abbrev Fld.DRM_CH_STATUS_RFM_ON : Fld := ⟨0x70100, 26, 26⟩
abbrev Fld.DRM_CH_STATUS_TEMP : Fld := ⟨0x70100, 15, 8⟩
abbrev Fld.DRM_CH_REF_POSTPONE_MAX : Fld := ⟨0x70104, 18, 16⟩
abbrev Fld.DRM_CH_REF_REF_SCALE : Fld := ⟨0x70104, 15, 12⟩
abbrev Fld.DRM_CH_REF_RFM_FORCE : Fld := ⟨0x70104, 8, 8⟩
abbrev Fld.DRM_CH_REF_TCRIT : Fld := ⟨0x70104, 7, 0⟩
abbrev Fld.DRM_CH_ERR_UE : Fld := ⟨0x70108, 31, 16⟩
abbrev Fld.DRM_CH_ERR_CE : Fld := ⟨0x70108, 15, 0⟩
abbrev Fld.DRM_CH_LAST_ERR0_UE : Fld := ⟨0x7010C, 31, 31⟩
abbrev Fld.DRM_CH_LAST_ERR0_SLOT : Fld := ⟨0x7010C, 27, 27⟩
abbrev Fld.DRM_CH_LAST_ERR0_SUBCH : Fld := ⟨0x7010C, 26, 26⟩
abbrev Fld.DRM_CH_LAST_ERR0_RANK : Fld := ⟨0x7010C, 25, 22⟩
abbrev Fld.DRM_CH_LAST_ERR0_DEVICE : Fld := ⟨0x7010C, 21, 18⟩
abbrev Fld.DRM_CH_LAST_ERR0_BANK : Fld := ⟨0x7010C, 17, 13⟩
abbrev Fld.DRM_CH_LAST_ERR1_ROW : Fld := ⟨0x70110, 17, 0⟩
abbrev Fld.DRM_CH_PPR_SPPR : Fld := ⟨0x70114, 31, 24⟩
abbrev Fld.DRM_CH_PPR_HPPR : Fld := ⟨0x70114, 23, 16⟩
abbrev Fld.DRM_CH_PPR_LISTED : Fld := ⟨0x70114, 15, 8⟩
abbrev Fld.DRM_TSA_CFG_TRAINED : Fld := ⟨0x70120, 31, 31⟩
abbrev Fld.DRM_TSA_CFG_RATE : Fld := ⟨0x70120, 19, 16⟩
abbrev Fld.DRM_TSA_CFG_CWL : Fld := ⟨0x70120, 15, 8⟩
abbrev Fld.DRM_TSA_CFG_CL : Fld := ⟨0x70120, 7, 0⟩
abbrev Fld.DRM_TSA_ROW_tRCD : Fld := ⟨0x70124, 31, 16⟩
abbrev Fld.DRM_TSA_ROW_tRP : Fld := ⟨0x70124, 15, 0⟩
abbrev Fld.DRM_TSA_RAS_tRAS : Fld := ⟨0x70128, 31, 16⟩
abbrev Fld.DRM_TSA_RAS_tRC : Fld := ⟨0x70128, 15, 0⟩
abbrev Fld.DRM_TSA_RFC_tRFC1 : Fld := ⟨0x7012C, 31, 16⟩
abbrev Fld.DRM_TSA_RFC_tRFCsb : Fld := ⟨0x7012C, 15, 0⟩
abbrev Fld.DRM_TSA_REFI_tREFI : Fld := ⟨0x70130, 15, 0⟩
abbrev Fld.DRM_TSA_WR_tWR : Fld := ⟨0x70134, 31, 16⟩
abbrev Fld.DRM_TSA_WR_tRTP : Fld := ⟨0x70134, 15, 0⟩
abbrev Fld.DRM_TSA_ACT_tFAW : Fld := ⟨0x70138, 31, 16⟩
abbrev Fld.DRM_TSA_ACT_tRRD_L : Fld := ⟨0x70138, 15, 8⟩
abbrev Fld.DRM_TSA_ACT_tRRD_S : Fld := ⟨0x70138, 7, 0⟩
abbrev Fld.DRM_TSA_TURN_tWTR_L : Fld := ⟨0x7013C, 31, 24⟩
abbrev Fld.DRM_TSA_TURN_tWTR_S : Fld := ⟨0x7013C, 23, 16⟩
abbrev Fld.DRM_TSA_TURN_tCCD_L : Fld := ⟨0x7013C, 15, 8⟩
abbrev Fld.DRM_TSA_TURN_tCCD_S : Fld := ⟨0x7013C, 7, 0⟩
abbrev Fld.DRM_TSB_CFG_TRAINED : Fld := ⟨0x70140, 31, 31⟩
abbrev Fld.DRM_TSB_CFG_RATE : Fld := ⟨0x70140, 19, 16⟩
abbrev Fld.DRM_TSB_CFG_CWL : Fld := ⟨0x70140, 15, 8⟩
abbrev Fld.DRM_TSB_CFG_CL : Fld := ⟨0x70140, 7, 0⟩
abbrev Fld.DRM_TSB_ROW_tRCD : Fld := ⟨0x70144, 31, 16⟩
abbrev Fld.DRM_TSB_ROW_tRP : Fld := ⟨0x70144, 15, 0⟩
abbrev Fld.DRM_TSB_RAS_tRAS : Fld := ⟨0x70148, 31, 16⟩
abbrev Fld.DRM_TSB_RAS_tRC : Fld := ⟨0x70148, 15, 0⟩
abbrev Fld.DRM_TSB_RFC_tRFC1 : Fld := ⟨0x7014C, 31, 16⟩
abbrev Fld.DRM_TSB_RFC_tRFCsb : Fld := ⟨0x7014C, 15, 0⟩
abbrev Fld.DRM_TSB_REFI_tREFI : Fld := ⟨0x70150, 15, 0⟩
abbrev Fld.DRM_TSB_WR_tWR : Fld := ⟨0x70154, 31, 16⟩
abbrev Fld.DRM_TSB_WR_tRTP : Fld := ⟨0x70154, 15, 0⟩
abbrev Fld.DRM_TSB_ACT_tFAW : Fld := ⟨0x70158, 31, 16⟩
abbrev Fld.DRM_TSB_ACT_tRRD_L : Fld := ⟨0x70158, 15, 8⟩
abbrev Fld.DRM_TSB_ACT_tRRD_S : Fld := ⟨0x70158, 7, 0⟩
abbrev Fld.DRM_TSB_TURN_tWTR_L : Fld := ⟨0x7015C, 31, 24⟩
abbrev Fld.DRM_TSB_TURN_tWTR_S : Fld := ⟨0x7015C, 23, 16⟩
abbrev Fld.DRM_TSB_TURN_tCCD_L : Fld := ⟨0x7015C, 15, 8⟩
abbrev Fld.DRM_TSB_TURN_tCCD_S : Fld := ⟨0x7015C, 7, 0⟩
abbrev Fld.CEL_CHSEL_CH : Fld := ⟨0x80000, 5, 0⟩
abbrev Fld.CEL_LUNSEL_LUN : Fld := ⟨0x80004, 6, 0⟩
abbrev Fld.CEL_CTRL_LOCK : Fld := ⟨0x80008, 31, 31⟩
abbrev Fld.CEL_CTRL_RAW_EN : Fld := ⟨0x80008, 0, 0⟩
abbrev Fld.CEL_GEOM_PPB_LOG2 : Fld := ⟨0x8000C, 31, 28⟩
abbrev Fld.CEL_GEOM_PLANES_LOG2 : Fld := ⟨0x8000C, 27, 26⟩
abbrev Fld.CEL_GEOM_SLC_PPB : Fld := ⟨0x8000C, 25, 13⟩
abbrev Fld.CEL_GEOM_BLK_K : Fld := ⟨0x8000C, 12, 0⟩
abbrev Fld.CEL_POP_ILLEGAL : Fld := ⟨0x80010, 31, 31⟩
abbrev Fld.CEL_POP_CHANNELS : Fld := ⟨0x80010, 30, 29⟩
abbrev Fld.CEL_POP_RATE : Fld := ⟨0x80010, 28, 26⟩
abbrev Fld.CEL_POP_VOLUMES : Fld := ⟨0x80010, 25, 21⟩
abbrev Fld.CEL_POP_LUN_GIB : Fld := ⟨0x80010, 9, 0⟩
abbrev Fld.CEL_OP_OP_USED : Fld := ⟨0x80014, 25, 16⟩
abbrev Fld.CEL_OP_OP_PM : Fld := ⟨0x80014, 9, 0⟩
abbrev Fld.CEL_VAULT_GEN_BLK : Fld := ⟨0x80018, 31, 24⟩
abbrev Fld.CEL_VAULT_GEN_GIB : Fld := ⟨0x80018, 15, 0⟩
abbrev Fld.CEL_WEAR_NATIVE_K : Fld := ⟨0x8001C, 31, 24⟩
abbrev Fld.CEL_WEAR_SLC_K : Fld := ⟨0x8001C, 23, 16⟩
abbrev Fld.CEL_WEAR_WL_DELTA : Fld := ⟨0x8001C, 15, 8⟩
abbrev Fld.CEL_WEAR_SCAN_D : Fld := ⟨0x8001C, 7, 0⟩
abbrev Fld.CEL_RETRY_SOFT_EN : Fld := ⟨0x80020, 16, 16⟩
abbrev Fld.CEL_RETRY_RELOC : Fld := ⟨0x80020, 12, 8⟩
abbrev Fld.CEL_RETRY_MAX : Fld := ⟨0x80020, 4, 0⟩
abbrev Fld.CEL_HANG_RESET_MS : Fld := ⟨0x80024, 7, 0⟩
abbrev Fld.CEL_MSEQ_STATUS_LOADED : Fld := ⟨0x80028, 31, 31⟩
abbrev Fld.CEL_MSEQ_STATUS_FAIL : Fld := ⟨0x80028, 30, 28⟩
abbrev Fld.CEL_MSEQ_STATUS_VERSION : Fld := ⟨0x80028, 15, 0⟩
abbrev Fld.CEL_GEOM2_BLOCKS : Fld := ⟨0x8002C, 20, 0⟩
abbrev Fld.CEL_INT_STATUS_ISOLATED : Fld := ⟨0x80040, 5, 5⟩
abbrev Fld.CEL_INT_STATUS_PGM_REFUSED : Fld := ⟨0x80040, 4, 4⟩
abbrev Fld.CEL_INT_STATUS_OP_LOW : Fld := ⟨0x80040, 3, 3⟩
abbrev Fld.CEL_INT_STATUS_POISON : Fld := ⟨0x80040, 2, 2⟩
abbrev Fld.CEL_INT_STATUS_RETIRED : Fld := ⟨0x80040, 1, 1⟩
abbrev Fld.CEL_INT_STATUS_HANG : Fld := ⟨0x80040, 0, 0⟩
abbrev Fld.CEL_INT_ENABLE_EN : Fld := ⟨0x80044, 5, 0⟩
abbrev Fld.CEL_READ_CNT_LO_VAL_LO : Fld := ⟨0x80060, 31, 0⟩
abbrev Fld.CEL_READ_CNT_HI_VAL_HI : Fld := ⟨0x80064, 31, 0⟩
abbrev Fld.CEL_PROG_CNT_LO_VAL_LO : Fld := ⟨0x80068, 31, 0⟩
abbrev Fld.CEL_PROG_CNT_HI_VAL_HI : Fld := ⟨0x8006C, 31, 0⟩
abbrev Fld.CEL_ERASE_CNT_LO_VAL_LO : Fld := ⟨0x80070, 31, 0⟩
abbrev Fld.CEL_ERASE_CNT_HI_VAL_HI : Fld := ⟨0x80074, 31, 0⟩
abbrev Fld.CEL_REBUILD_CNT_LO_VAL_LO : Fld := ⟨0x80078, 31, 0⟩
abbrev Fld.CEL_REBUILD_CNT_HI_VAL_HI : Fld := ⟨0x8007C, 31, 0⟩
abbrev Fld.CEL_MOVE_CNT_LO_VAL_LO : Fld := ⟨0x80080, 31, 0⟩
abbrev Fld.CEL_MOVE_CNT_HI_VAL_HI : Fld := ⟨0x80084, 31, 0⟩
abbrev Fld.CEL_C_STATUS_STATE : Fld := ⟨0x80100, 31, 30⟩
abbrev Fld.CEL_C_STATUS_RELOC_PEND : Fld := ⟨0x80100, 29, 29⟩
abbrev Fld.CEL_C_STATUS_ISO_VOL : Fld := ⟨0x80100, 15, 0⟩
abbrev Fld.CEL_C_ERR_HANGS : Fld := ⟨0x80104, 31, 24⟩
abbrev Fld.CEL_C_ERR_REBUILDS : Fld := ⟨0x80104, 23, 12⟩
abbrev Fld.CEL_C_ERR_RETRIES : Fld := ⟨0x80104, 11, 0⟩
abbrev Fld.CEL_L_STATUS_STATE : Fld := ⟨0x80200, 31, 30⟩
abbrev Fld.CEL_L_STATUS_RESETS : Fld := ⟨0x80200, 29, 24⟩
abbrev Fld.CEL_L_STATUS_BAD : Fld := ⟨0x80200, 23, 12⟩
abbrev Fld.CEL_L_STATUS_FREE : Fld := ⟨0x80200, 11, 0⟩
abbrev Fld.CEL_L_BLKSEL_BLOCK : Fld := ⟨0x80204, 19, 0⟩
abbrev Fld.CEL_L_BLK_STATE : Fld := ⟨0x80208, 31, 29⟩
abbrev Fld.CEL_L_BLK_SLC : Fld := ⟨0x80208, 28, 28⟩
abbrev Fld.CEL_L_BLK_WP : Fld := ⟨0x80208, 27, 14⟩
abbrev Fld.CEL_L_BLK_ERASE_COUNT : Fld := ⟨0x8020C, 31, 0⟩
abbrev Fld.CEL_L_RAW_CMD_GO : Fld := ⟨0x80210, 31, 31⟩
abbrev Fld.CEL_L_RAW_CMD_BUSY : Fld := ⟨0x80210, 30, 30⟩
abbrev Fld.CEL_L_RAW_CMD_SEQ : Fld := ⟨0x80210, 25, 20⟩
abbrev Fld.CEL_L_RAW_CMD_BLOCK : Fld := ⟨0x80210, 19, 0⟩
abbrev Fld.CEL_L_RAW_PAGE_PAGE : Fld := ⟨0x80214, 12, 0⟩
abbrev Fld.CEL_L_RAW_STATUS_NAND : Fld := ⟨0x80218, 15, 8⟩
abbrev Fld.CEL_L_RAW_STATUS_RESULT : Fld := ⟨0x80218, 7, 0⟩
abbrev Fld.CEL_L_RAW_BUF_DATA : Fld := ⟨0x84000, 31, 0⟩
abbrev Fld.CPH_KSEL_SLOT : Fld := ⟨0x90000, 11, 0⟩
abbrev Fld.CPH_CTRL_LOCK : Fld := ⟨0x90004, 31, 31⟩
abbrev Fld.CPH_CTRL_LOAD_EN : Fld := ⟨0x90004, 1, 1⟩
abbrev Fld.CPH_CTRL_HOST_EN : Fld := ⟨0x90004, 0, 0⟩
abbrev Fld.CPH_STATE_READY : Fld := ⟨0x90008, 31, 31⟩
abbrev Fld.CPH_STATE_REDERIVE : Fld := ⟨0x90008, 30, 30⟩
abbrev Fld.CPH_STATE_PERSIST_USED : Fld := ⟨0x90008, 9, 0⟩
abbrev Fld.CPH_INT_STATUS_AUTH_FAIL : Fld := ⟨0x90040, 4, 4⟩
abbrev Fld.CPH_INT_STATUS_MKEY_MISSING : Fld := ⟨0x90040, 3, 3⟩
abbrev Fld.CPH_INT_STATUS_VOLATILE_LOST : Fld := ⟨0x90040, 2, 2⟩
abbrev Fld.CPH_INT_STATUS_T_ALARM : Fld := ⟨0x90040, 1, 1⟩
abbrev Fld.CPH_INT_STATUS_E_ALARM : Fld := ⟨0x90040, 0, 0⟩
abbrev Fld.CPH_INT_ENABLE_EN : Fld := ⟨0x90044, 4, 0⟩
abbrev Fld.CPH_MEDIA_BYTES_LO_VAL_LO : Fld := ⟨0x90060, 31, 0⟩
abbrev Fld.CPH_MEDIA_BYTES_HI_VAL_HI : Fld := ⟨0x90064, 31, 0⟩
abbrev Fld.CPH_HOST_BYTES_LO_VAL_LO : Fld := ⟨0x90068, 31, 0⟩
abbrev Fld.CPH_HOST_BYTES_HI_VAL_HI : Fld := ⟨0x9006C, 31, 0⟩
abbrev Fld.CPH_AUTH_FAIL_CNT_LO_VAL_LO : Fld := ⟨0x90070, 31, 0⟩
abbrev Fld.CPH_AUTH_FAIL_CNT_HI_VAL_HI : Fld := ⟨0x90074, 31, 0⟩
abbrev Fld.CPH_K_ATTR_STATE : Fld := ⟨0x90100, 31, 30⟩
abbrev Fld.CPH_K_ATTR_PERSIST : Fld := ⟨0x90100, 29, 29⟩
abbrev Fld.CPH_K_ATTR_LEN256 : Fld := ⟨0x90100, 28, 28⟩
abbrev Fld.CPH_K_ATTR_USE : Fld := ⟨0x90100, 27, 24⟩
abbrev Fld.CPH_K_KCV_KCV : Fld := ⟨0x90104, 23, 0⟩
abbrev Fld.CPH_K_CMD_GO : Fld := ⟨0x90108, 31, 31⟩
abbrev Fld.CPH_K_CMD_BUSY : Fld := ⟨0x90108, 30, 30⟩
abbrev Fld.CPH_K_CMD_RESULT : Fld := ⟨0x90108, 23, 16⟩
abbrev Fld.CPH_K_CMD_OP : Fld := ⟨0x90108, 1, 0⟩
abbrev Fld.CPH_K_DATA0_KEY : Fld := ⟨0x90140, 31, 0⟩
abbrev Fld.CPH_K_DATA1_KEY : Fld := ⟨0x90144, 31, 0⟩
abbrev Fld.CPH_K_DATA2_KEY : Fld := ⟨0x90148, 31, 0⟩
abbrev Fld.CPH_K_DATA3_KEY : Fld := ⟨0x9014C, 31, 0⟩
abbrev Fld.CPH_K_DATA4_KEY : Fld := ⟨0x90150, 31, 0⟩
abbrev Fld.CPH_K_DATA5_KEY : Fld := ⟨0x90154, 31, 0⟩
abbrev Fld.CPH_K_DATA6_KEY : Fld := ⟨0x90158, 31, 0⟩
abbrev Fld.CPH_K_DATA7_KEY : Fld := ⟨0x9015C, 31, 0⟩
abbrev Fld.CPH_K_DATA8_KEY : Fld := ⟨0x90160, 31, 0⟩
abbrev Fld.CPH_K_DATA9_KEY : Fld := ⟨0x90164, 31, 0⟩
abbrev Fld.CPH_K_DATA10_KEY : Fld := ⟨0x90168, 31, 0⟩
abbrev Fld.CPH_K_DATA11_KEY : Fld := ⟨0x9016C, 31, 0⟩
abbrev Fld.CPH_K_DATA12_KEY : Fld := ⟨0x90170, 31, 0⟩
abbrev Fld.CPH_K_DATA13_KEY : Fld := ⟨0x90174, 31, 0⟩
abbrev Fld.CPH_K_DATA14_KEY : Fld := ⟨0x90178, 31, 0⟩
abbrev Fld.CPH_K_DATA15_KEY : Fld := ⟨0x9017C, 31, 0⟩
abbrev Fld.SUP_RAILSEL_SLOT : Fld := ⟨0xA0000, 4, 0⟩
abbrev Fld.SUP_SEQ_CTRL_LOCK : Fld := ⟨0xA0004, 31, 31⟩
abbrev Fld.SUP_SEQ_CTRL_AUTO_ON : Fld := ⟨0xA0004, 28, 28⟩
abbrev Fld.SUP_SEQ_CTRL_RETRIES : Fld := ⟨0xA0004, 27, 24⟩
abbrev Fld.SUP_SEQ_CTRL_ORD_TMO_S : Fld := ⟨0xA0004, 23, 16⟩
abbrev Fld.SUP_SEQ_CTRL_HOLDOFF_MS : Fld := ⟨0xA0004, 15, 0⟩
abbrev Fld.SUP_SEQ_STATUS_STATE : Fld := ⟨0xA0008, 31, 28⟩
abbrev Fld.SUP_SEQ_STATUS_ATTEMPT : Fld := ⟨0xA0008, 27, 24⟩
abbrev Fld.SUP_SEQ_STATUS_STEP : Fld := ⟨0xA0008, 23, 19⟩
abbrev Fld.SUP_SEQ_STATUS_DIR : Fld := ⟨0xA0008, 18, 18⟩
abbrev Fld.SUP_SEQ_STATUS_FAULT_SLOT : Fld := ⟨0xA0008, 17, 13⟩
abbrev Fld.SUP_SEQ_STATUS_LAST_TRIG : Fld := ⟨0xA0008, 7, 0⟩
abbrev Fld.SUP_BTN_BTN : Fld := ⟨0xA000C, 31, 31⟩
abbrev Fld.SUP_BTN_MRST : Fld := ⟨0xA000C, 30, 30⟩
abbrev Fld.SUP_BTN_RST : Fld := ⟨0xA000C, 29, 29⟩
abbrev Fld.SUP_BTN_LONG_S : Fld := ⟨0xA000C, 11, 8⟩
abbrev Fld.SUP_BTN_SHORT_EN : Fld := ⟨0xA000C, 0, 0⟩
abbrev Fld.SUP_PWR_CMD_KEY : Fld := ⟨0xA0010, 31, 16⟩
abbrev Fld.SUP_PWR_CMD_OFF : Fld := ⟨0xA0010, 1, 1⟩
abbrev Fld.SUP_PWR_CMD_ON : Fld := ⟨0xA0010, 0, 0⟩
abbrev Fld.SUP_MARGIN_UNLOCK_KEY : Fld := ⟨0xA0014, 31, 16⟩
abbrev Fld.SUP_MARGIN_UNLOCK_UNLOCKED : Fld := ⟨0xA0014, 0, 0⟩
abbrev Fld.SUP_PMB_CFG_SPEED : Fld := ⟨0xA0018, 1, 0⟩
abbrev Fld.SUP_PMB_STATUS_DEAD : Fld := ⟨0xA001C, 31, 31⟩
abbrev Fld.SUP_PMB_STATUS_RECOVERIES : Fld := ⟨0xA001C, 23, 16⟩
abbrev Fld.SUP_PMB_STATUS_NACKS : Fld := ⟨0xA001C, 15, 0⟩
abbrev Fld.SUP_HV_MEAS_HVIN : Fld := ⟨0xA0020, 31, 16⟩
abbrev Fld.SUP_HV_MEAS_VBAT : Fld := ⟨0xA0020, 15, 0⟩
abbrev Fld.SUP_CAP_CTRL_KEY : Fld := ⟨0xA0024, 31, 16⟩
abbrev Fld.SUP_CAP_CTRL_STATE : Fld := ⟨0xA0024, 3, 2⟩
abbrev Fld.SUP_CAP_CTRL_CLEAR : Fld := ⟨0xA0024, 0, 0⟩
abbrev Fld.SUP_CAP_ADDR_OFFSET : Fld := ⟨0xA0028, 15, 0⟩
abbrev Fld.SUP_CAP_DATA_DATA : Fld := ⟨0xA002C, 31, 0⟩
abbrev Fld.SUP_SEQ_INT_STATUS_LOCKOUT : Fld := ⟨0xA0040, 6, 6⟩
abbrev Fld.SUP_SEQ_INT_STATUS_CAPSULE : Fld := ⟨0xA0040, 5, 5⟩
abbrev Fld.SUP_SEQ_INT_STATUS_PMB_DEAD : Fld := ⟨0xA0040, 4, 4⟩
abbrev Fld.SUP_SEQ_INT_STATUS_DN_FAIL : Fld := ⟨0xA0040, 3, 3⟩
abbrev Fld.SUP_SEQ_INT_STATUS_RUN_FAULT : Fld := ⟨0xA0040, 2, 2⟩
abbrev Fld.SUP_SEQ_INT_STATUS_UP_FAIL : Fld := ⟨0xA0040, 1, 1⟩
abbrev Fld.SUP_SEQ_INT_STATUS_VBAT_LOW : Fld := ⟨0xA0040, 0, 0⟩
abbrev Fld.SUP_SEQ_INT_ENABLE_EN : Fld := ⟨0xA0044, 6, 0⟩
abbrev Fld.SUP_R_CFG_USED : Fld := ⟨0xA0100, 31, 31⟩
abbrev Fld.SUP_R_CFG_PMB : Fld := ⟨0xA0100, 30, 30⟩
abbrev Fld.SUP_R_CFG_AVS : Fld := ⟨0xA0100, 29, 29⟩
abbrev Fld.SUP_R_CFG_KEEP_DP : Fld := ⟨0xA0100, 28, 28⟩
abbrev Fld.SUP_R_CFG_BNEED : Fld := ⟨0xA0100, 27, 27⟩
abbrev Fld.SUP_R_CFG_DIS_EN : Fld := ⟨0xA0100, 26, 26⟩
abbrev Fld.SUP_R_CFG_DIS_SEL : Fld := ⟨0xA0100, 25, 23⟩
abbrev Fld.SUP_R_CFG_UP_STEP : Fld := ⟨0xA0100, 20, 16⟩
abbrev Fld.SUP_R_CFG_DN_STEP : Fld := ⟨0xA0100, 12, 8⟩
abbrev Fld.SUP_R_CFG_PG_MODE : Fld := ⟨0xA0100, 7, 6⟩
abbrev Fld.SUP_R_CFG_CLK : Fld := ⟨0xA0100, 5, 4⟩
abbrev Fld.SUP_R_CFG_DIV : Fld := ⟨0xA0100, 3, 2⟩
abbrev Fld.SUP_R_V0_OV_MV : Fld := ⟨0xA0104, 31, 16⟩
abbrev Fld.SUP_R_V0_VNOM_MV : Fld := ⟨0xA0104, 15, 0⟩
abbrev Fld.SUP_R_V1_UV_MV : Fld := ⟨0xA0108, 31, 16⟩
abbrev Fld.SUP_R_V1_OFF_MV : Fld := ⟨0xA0108, 15, 0⟩
abbrev Fld.SUP_R_TIME_UP_TMO_MS : Fld := ⟨0xA010C, 31, 24⟩
abbrev Fld.SUP_R_TIME_DN_TMO_MS : Fld := ⟨0xA010C, 23, 16⟩
abbrev Fld.SUP_R_TIME_DIS_TMO_MS : Fld := ⟨0xA010C, 15, 8⟩
abbrev Fld.SUP_R_TIME_DELAY_MS : Fld := ⟨0xA010C, 7, 0⟩
abbrev Fld.SUP_R_PMB_ADDR : Fld := ⟨0xA0110, 22, 16⟩
abbrev Fld.SUP_R_PMB_PAGE : Fld := ⟨0xA0110, 15, 8⟩
abbrev Fld.SUP_R_MEAS_STATE : Fld := ⟨0xA0114, 31, 29⟩
abbrev Fld.SUP_R_MEAS_EN : Fld := ⟨0xA0114, 28, 28⟩
abbrev Fld.SUP_R_MEAS_PG : Fld := ⟨0xA0114, 27, 27⟩
abbrev Fld.SUP_R_MEAS_DIS : Fld := ⟨0xA0114, 26, 26⟩
abbrev Fld.SUP_R_MEAS_V_MV : Fld := ⟨0xA0114, 15, 0⟩
abbrev Fld.SUP_R_MARGIN_ACTIVE : Fld := ⟨0xA0118, 31, 31⟩
abbrev Fld.SUP_R_MARGIN_STEPS : Fld := ⟨0xA0118, 4, 0⟩
abbrev Fld.SUP_R_FAULT_UV : Fld := ⟨0xA011C, 31, 24⟩
abbrev Fld.SUP_R_FAULT_OV : Fld := ⟨0xA011C, 23, 16⟩
abbrev Fld.SUP_R_FAULT_DN_TMO : Fld := ⟨0xA011C, 15, 8⟩
abbrev Fld.SUP_R_FAULT_EARLY : Fld := ⟨0xA011C, 7, 0⟩
abbrev Fld.SUP_PWR_TARGET_WAKE : Fld := ⟨0xA0200, 8, 8⟩
abbrev Fld.SUP_PWR_TARGET_MODE : Fld := ⟨0xA0200, 1, 0⟩
abbrev Fld.SUP_PWR_STATUS_CUR : Fld := ⟨0xA0204, 31, 28⟩
abbrev Fld.SUP_PWR_STATUS_REFUSE : Fld := ⟨0xA0204, 27, 24⟩
abbrev Fld.SUP_PWR_STATUS_WAKE_SRC : Fld := ⟨0xA0204, 20, 16⟩
abbrev Fld.SUP_PWR_STATUS_WAKE_PEND : Fld := ⟨0xA0204, 12, 8⟩
abbrev Fld.SUP_PWR_STATUS_RST_PEND : Fld := ⟨0xA0204, 0, 0⟩
abbrev Fld.SUP_WAKE_EN_TRELLIS : Fld := ⟨0xA0208, 4, 4⟩
abbrev Fld.SUP_WAKE_EN_I3C : Fld := ⟨0xA0208, 3, 3⟩
abbrev Fld.SUP_WAKE_EN_WAKE_N : Fld := ⟨0xA0208, 2, 2⟩
abbrev Fld.SUP_WAKE_EN_BTN : Fld := ⟨0xA0208, 1, 1⟩
abbrev Fld.SUP_WAKE_EN_RTC : Fld := ⟨0xA0208, 0, 0⟩
abbrev Fld.SUP_PWR_CFG_PERCH_EN : Fld := ⟨0xA020C, 31, 31⟩
abbrev Fld.SUP_PWR_CFG_PERCH_US : Fld := ⟨0xA020C, 15, 0⟩
abbrev Fld.SUP_RTC_SEC_SEC : Fld := ⟨0xA0210, 31, 0⟩
abbrev Fld.SUP_RTC_SUB_VALID : Fld := ⟨0xA0214, 31, 31⟩
abbrev Fld.SUP_RTC_SUB_SUB : Fld := ⟨0xA0214, 14, 0⟩
abbrev Fld.SUP_RTC_WAKE_SEC : Fld := ⟨0xA0218, 31, 0⟩
abbrev Fld.SUP_RTC_SLEEP_SEC : Fld := ⟨0xA021C, 31, 0⟩
abbrev Fld.SUP_RTC_SCHED_WAKE_EN : Fld := ⟨0xA0220, 31, 31⟩
abbrev Fld.SUP_RTC_SCHED_SLEEP_EN : Fld := ⟨0xA0220, 30, 30⟩
abbrev Fld.SUP_RTC_SCHED_SLEEP_MODE : Fld := ⟨0xA0220, 29, 28⟩
abbrev Fld.SUP_WDT_CFG_MC_MS : Fld := ⟨0xA0230, 31, 16⟩
abbrev Fld.SUP_WDT_CFG_SC_MS : Fld := ⟨0xA0230, 15, 8⟩
abbrev Fld.SUP_WDT_CFG_WINDOW_S : Fld := ⟨0xA0230, 7, 0⟩
abbrev Fld.SUP_WDT_STATUS_STAGE2 : Fld := ⟨0xA0234, 31, 24⟩
abbrev Fld.SUP_WDT_STATUS_STAGE1 : Fld := ⟨0xA0234, 23, 16⟩
abbrev Fld.SUP_WDT_STATUS_EXPIRED : Fld := ⟨0xA0234, 8, 0⟩
abbrev Fld.SUP_RST_STATUS_KIND : Fld := ⟨0xA0238, 31, 28⟩
abbrev Fld.SUP_RST_STATUS_CAUSE : Fld := ⟨0xA0238, 27, 24⟩
abbrev Fld.SUP_RST_STATUS_CORE : Fld := ⟨0xA0238, 23, 20⟩
abbrev Fld.SUP_RST_STATUS_WARM_CNT : Fld := ⟨0xA0238, 15, 0⟩
abbrev Fld.SUP_PWR_INT_STATUS_WDT : Fld := ⟨0xA0240, 3, 3⟩
abbrev Fld.SUP_PWR_INT_STATUS_RTC_LOST : Fld := ⟨0xA0240, 2, 2⟩
abbrev Fld.SUP_PWR_INT_STATUS_REFUSED : Fld := ⟨0xA0240, 1, 1⟩
abbrev Fld.SUP_PWR_INT_STATUS_WAKE : Fld := ⟨0xA0240, 0, 0⟩
abbrev Fld.SUP_PWR_INT_ENABLE_EN : Fld := ⟨0xA0244, 3, 0⟩
abbrev Fld.SUP_HV_WARN_RISE : Fld := ⟨0xA0400, 31, 16⟩
abbrev Fld.SUP_HV_WARN_FALL : Fld := ⟨0xA0400, 15, 0⟩
abbrev Fld.SUP_HV_BOTTLE_LEVEL : Fld := ⟨0xA0404, 15, 0⟩
abbrev Fld.SUP_HU_CTRL_PERIOD_H : Fld := ⟨0xA0408, 31, 24⟩
abbrev Fld.SUP_HU_CTRL_RLOAD : Fld := ⟨0xA0408, 23, 16⟩
abbrev Fld.SUP_HU_CTRL_DV : Fld := ⟨0xA0408, 15, 8⟩
abbrev Fld.SUP_HU_CTRL_GO : Fld := ⟨0xA0408, 0, 0⟩
abbrev Fld.SUP_HU_MEAS_C_VALID : Fld := ⟨0xA040C, 31, 31⟩
abbrev Fld.SUP_HU_MEAS_C_C_MF : Fld := ⟨0xA040C, 23, 0⟩
abbrev Fld.SUP_HU_MEAS_ESR_VALID : Fld := ⟨0xA0410, 31, 31⟩
abbrev Fld.SUP_HU_MEAS_ESR_ESR_UOHM : Fld := ⟨0xA0410, 15, 0⟩
abbrev Fld.SUP_HU_STATUS_PHASE : Fld := ⟨0xA0414, 31, 28⟩
abbrev Fld.SUP_HU_STATUS_AGE_H : Fld := ⟨0xA0414, 27, 20⟩
abbrev Fld.SUP_HU_STATUS_ABORT : Fld := ⟨0xA0414, 2, 2⟩
abbrev Fld.SUP_HU_STATUS_FAIL : Fld := ⟨0xA0414, 1, 1⟩
abbrev Fld.SUP_HU_STATUS_BUSY : Fld := ⟨0xA0414, 0, 0⟩
abbrev Fld.SUP_TAMPER_CFG_POLICY : Fld := ⟨0xA0480, 8, 8⟩
abbrev Fld.SUP_TAMPER_CFG_EN : Fld := ⟨0xA0480, 3, 0⟩
abbrev Fld.SUP_TAMPER_LOCK_LOCK : Fld := ⟨0xA0484, 0, 0⟩
abbrev Fld.SUP_TAMPER_STATUS_PIN : Fld := ⟨0xA0488, 19, 16⟩
abbrev Fld.SUP_TAMPER_STATUS_VBAT_EVT : Fld := ⟨0xA0488, 9, 9⟩
abbrev Fld.SUP_TAMPER_STATUS_ZEROIZED : Fld := ⟨0xA0488, 8, 8⟩
abbrev Fld.SUP_TAMPER_STATUS_LATCH : Fld := ⟨0xA0488, 3, 0⟩
abbrev Fld.SUP_ALARM_E_TEMP_C : Fld := ⟨0xA048C, 31, 24⟩
abbrev Fld.SUP_ALARM_E_LAST : Fld := ⟨0xA048C, 11, 8⟩
abbrev Fld.SUP_ALARM_E_COUNT : Fld := ⟨0xA048C, 7, 0⟩
abbrev Fld.AGE_CTRL_LOCK : Fld := ⟨0xB0000, 31, 31⟩
abbrev Fld.AGE_CTRL_PLAN_NOW : Fld := ⟨0xB0000, 30, 30⟩
abbrev Fld.AGE_CTRL_AVS_EN : Fld := ⟨0xB0000, 4, 4⟩
abbrev Fld.AGE_CTRL_REF_EN : Fld := ⟨0xB0000, 3, 3⟩
abbrev Fld.AGE_CTRL_NAND_EN : Fld := ⟨0xB0000, 2, 2⟩
abbrev Fld.AGE_CTRL_DRAM_EN : Fld := ⟨0xB0000, 1, 1⟩
abbrev Fld.AGE_PERIOD_PLAN_H : Fld := ⟨0xB0004, 15, 8⟩
abbrev Fld.AGE_PERIOD_PROBE_H : Fld := ⟨0xB0004, 7, 0⟩
abbrev Fld.AGE_VCORE_TARGET_MV : Fld := ⟨0xB0008, 31, 16⟩
abbrev Fld.AGE_VCORE_CANARY_10MV : Fld := ⟨0xB0008, 15, 8⟩
abbrev Fld.AGE_VCORE_SRAM_GUARD_MV : Fld := ⟨0xB0008, 7, 0⟩
abbrev Fld.AGE_PATH_HUB_PS : Fld := ⟨0xB000C, 31, 24⟩
abbrev Fld.AGE_PATH_EDGE_PS : Fld := ⟨0xB000C, 23, 16⟩
abbrev Fld.AGE_PATH_SLACK_REQ : Fld := ⟨0xB000C, 15, 8⟩
abbrev Fld.AGE_PATH_FAST_THR : Fld := ⟨0xB000C, 7, 0⟩
abbrev Fld.AGE_HU_CFG_EARLY_PCT : Fld := ⟨0xB0010, 7, 0⟩
abbrev Fld.AGE_HU_TREND_C_RATE : Fld := ⟨0xB0014, 15, 0⟩
abbrev Fld.AGE_DRAM_CFG_EYE_THR : Fld := ⟨0xB0018, 15, 8⟩
abbrev Fld.AGE_DRAM_CFG_CE_THR : Fld := ⟨0xB0018, 7, 0⟩
abbrev Fld.AGE_NAND_CFG_BITS_THR : Fld := ⟨0xB001C, 7, 0⟩
abbrev Fld.AGE_STATUS_BUSY : Fld := ⟨0xB0020, 31, 31⟩
abbrev Fld.AGE_STATUS_WAITING : Fld := ⟨0xB0020, 30, 30⟩
abbrev Fld.AGE_STATUS_PLAN_SEQ : Fld := ⟨0xB0020, 29, 0⟩
abbrev Fld.AGE_LEVELS0_LEVEL : Fld := ⟨0xB0024, 31, 0⟩
abbrev Fld.AGE_LEVELS1_LEVEL : Fld := ⟨0xB0028, 31, 0⟩
abbrev Fld.AGE_INT_STATUS_VMAX : Fld := ⟨0xB0040, 4, 4⟩
abbrev Fld.AGE_INT_STATUS_DRAM_FLOOR : Fld := ⟨0xB0040, 3, 3⟩
abbrev Fld.AGE_INT_STATUS_PLAN_FAIL : Fld := ⟨0xB0040, 2, 2⟩
abbrev Fld.AGE_INT_STATUS_FAST : Fld := ⟨0xB0040, 1, 1⟩
abbrev Fld.AGE_INT_STATUS_PLANNED : Fld := ⟨0xB0040, 0, 0⟩
abbrev Fld.AGE_INT_ENABLE_EN : Fld := ⟨0xB0044, 4, 0⟩
abbrev Fld.TRL_CFG_LOCK : Fld := ⟨0xC0000, 31, 31⟩
abbrev Fld.TRL_CFG_SHARED_BANK : Fld := ⟨0xC0000, 12, 12⟩
abbrev Fld.TRL_CFG_STRIPE_LOG2 : Fld := ⟨0xC0000, 11, 8⟩
abbrev Fld.TRL_CFG_N : Fld := ⟨0xC0000, 6, 4⟩
abbrev Fld.TRL_CFG_MODE : Fld := ⟨0xC0000, 1, 0⟩
abbrev Fld.TRL_STATUS_FORMED : Fld := ⟨0xC0004, 31, 31⟩
abbrev Fld.TRL_STATUS_MASTER : Fld := ⟨0xC0004, 30, 30⟩
abbrev Fld.TRL_STATUS_ID : Fld := ⟨0xC0004, 29, 27⟩
abbrev Fld.TRL_STATUS_SEEN : Fld := ⟨0xC0004, 23, 16⟩
abbrev Fld.TRL_STATUS_LOST : Fld := ⟨0xC0004, 15, 8⟩
abbrev Fld.TRL_TIMERS_FORM_S : Fld := ⟨0xC0008, 23, 16⟩
abbrev Fld.TRL_TIMERS_LOST_US : Fld := ⟨0xC0008, 15, 0⟩
abbrev Fld.TRL_PORT0_UP : Fld := ⟨0xC0010, 31, 31⟩
abbrev Fld.TRL_PORT0_PEER : Fld := ⟨0xC0010, 30, 28⟩
abbrev Fld.TRL_PORT0_RETRAINS : Fld := ⟨0xC0010, 12, 0⟩
abbrev Fld.TRL_PORT1_UP : Fld := ⟨0xC0014, 31, 31⟩
abbrev Fld.TRL_PORT1_PEER : Fld := ⟨0xC0014, 30, 28⟩
abbrev Fld.TRL_PORT1_RETRAINS : Fld := ⟨0xC0014, 12, 0⟩
abbrev Fld.TRL_PORT2_UP : Fld := ⟨0xC0018, 31, 31⟩
abbrev Fld.TRL_PORT2_PEER : Fld := ⟨0xC0018, 30, 28⟩
abbrev Fld.TRL_PORT2_RETRAINS : Fld := ⟨0xC0018, 12, 0⟩
abbrev Fld.TRL_PORT3_UP : Fld := ⟨0xC001C, 31, 31⟩
abbrev Fld.TRL_PORT3_PEER : Fld := ⟨0xC001C, 30, 28⟩
abbrev Fld.TRL_PORT3_RETRAINS : Fld := ⟨0xC001C, 12, 0⟩
abbrev Fld.TRL_TIME_ERR_NS : Fld := ⟨0xC0020, 15, 0⟩
abbrev Fld.TRL_INT_STATUS_TIME : Fld := ⟨0xC0040, 4, 4⟩
abbrev Fld.TRL_INT_STATUS_MISMATCH : Fld := ⟨0xC0040, 3, 3⟩
abbrev Fld.TRL_INT_STATUS_LOST : Fld := ⟨0xC0040, 2, 2⟩
abbrev Fld.TRL_INT_STATUS_PORT_DOWN : Fld := ⟨0xC0040, 1, 1⟩
abbrev Fld.TRL_INT_STATUS_FORMED : Fld := ⟨0xC0040, 0, 0⟩
abbrev Fld.TRL_INT_ENABLE_EN : Fld := ⟨0xC0044, 4, 0⟩
abbrev Fld.TRL_PIECES_LO_VAL_LO : Fld := ⟨0xC0060, 31, 0⟩
abbrev Fld.TRL_PIECES_HI_VAL_HI : Fld := ⟨0xC0064, 31, 0⟩
abbrev Fld.TRL_RESENT_LO_VAL_LO : Fld := ⟨0xC0068, 31, 0⟩
abbrev Fld.TRL_RESENT_HI_VAL_HI : Fld := ⟨0xC006C, 31, 0⟩
abbrev Fld.EVR_CTRL_LOCK : Fld := ⟨0xD0000, 31, 31⟩
abbrev Fld.EVR_CTRL_MIN_SEV : Fld := ⟨0xD0000, 2, 0⟩
abbrev Fld.EVR_OPSEC_VALUE : Fld := ⟨0xD0004, 31, 0⟩
abbrev Fld.EVR_CYCLES_VALUE : Fld := ⟨0xD0008, 23, 0⟩
abbrev Fld.EVR_SEQ_VALUE : Fld := ⟨0xD000C, 23, 0⟩
abbrev Fld.EVR_RING_USED_VALUE : Fld := ⟨0xD0010, 12, 0⟩
abbrev Fld.EVR_ARCH_USED_VALUE : Fld := ⟨0xD0014, 15, 0⟩
abbrev Fld.EVR_FIFO_LOST_VALUE : Fld := ⟨0xD0018, 31, 0⟩
abbrev Fld.EVR_DROPPED0_VALUE : Fld := ⟨0xD0020, 31, 0⟩
abbrev Fld.EVR_DROPPED1_VALUE : Fld := ⟨0xD0024, 31, 0⟩
abbrev Fld.EVR_DROPPED2_VALUE : Fld := ⟨0xD0028, 31, 0⟩
abbrev Fld.EVR_DROPPED3_VALUE : Fld := ⟨0xD002C, 31, 0⟩
abbrev Fld.EVR_DROPPED4_VALUE : Fld := ⟨0xD0030, 31, 0⟩
abbrev Fld.EVR_DROPPED5_VALUE : Fld := ⟨0xD0034, 31, 0⟩
abbrev Fld.EVR_DROPPED6_VALUE : Fld := ⟨0xD0038, 31, 0⟩
abbrev Fld.EVR_DROPPED7_VALUE : Fld := ⟨0xD003C, 31, 0⟩
abbrev Fld.EVR_RD_IDX_IDX : Fld := ⟨0xD0040, 12, 0⟩
abbrev Fld.EVR_RD_DATA0_DATA : Fld := ⟨0xD0044, 31, 0⟩
abbrev Fld.EVR_RD_DATA1_DATA : Fld := ⟨0xD0048, 31, 0⟩
abbrev Fld.EVR_RD_DATA2_DATA : Fld := ⟨0xD004C, 31, 0⟩
abbrev Fld.EVR_RD_DATA3_DATA : Fld := ⟨0xD0050, 31, 0⟩
abbrev Fld.EVR_RD_DATA4_DATA : Fld := ⟨0xD0054, 31, 0⟩
abbrev Fld.EVR_RD_DATA5_DATA : Fld := ⟨0xD0058, 31, 0⟩
abbrev Fld.EVR_RD_DATA6_DATA : Fld := ⟨0xD005C, 31, 0⟩
abbrev Fld.EVR_RD_DATA7_DATA : Fld := ⟨0xD0060, 31, 0⟩
abbrev Fld.EVR_INT_STATUS_HIGH : Fld := ⟨0xD0070, 1, 1⟩
abbrev Fld.EVR_INT_STATUS_DROPPED : Fld := ⟨0xD0070, 0, 0⟩
abbrev Fld.EVR_INT_ENABLE_EN : Fld := ⟨0xD0074, 1, 0⟩
abbrev Fld.FWS_CTRL_LOCK : Fld := ⟨0xE0000, 31, 31⟩
abbrev Fld.FWS_CTRL_XO_LOCK : Fld := ⟨0xE0000, 30, 30⟩
abbrev Fld.FWS_CTRL_PROF_WP : Fld := ⟨0xE0000, 1, 1⟩
abbrev Fld.FWS_CTRL_REG_PGM_EN : Fld := ⟨0xE0000, 0, 0⟩
abbrev Fld.FWS_BOOT_RUN : Fld := ⟨0xE0004, 31, 30⟩
abbrev Fld.FWS_BOOT_TRIAL : Fld := ⟨0xE0004, 29, 29⟩
abbrev Fld.FWS_BOOT_PEND : Fld := ⟨0xE0004, 28, 28⟩
abbrev Fld.FWS_SLOT_A_STATE : Fld := ⟨0xE0008, 31, 30⟩
abbrev Fld.FWS_SLOT_A_ARMED : Fld := ⟨0xE0008, 29, 29⟩
abbrev Fld.FWS_SLOT_A_TRIALS : Fld := ⟨0xE0008, 23, 20⟩
abbrev Fld.FWS_SLOT_A_RELEASE : Fld := ⟨0xE0008, 15, 0⟩
abbrev Fld.FWS_SLOT_B_STATE : Fld := ⟨0xE000C, 31, 30⟩
abbrev Fld.FWS_SLOT_B_ARMED : Fld := ⟨0xE000C, 29, 29⟩
abbrev Fld.FWS_SLOT_B_TRIALS : Fld := ⟨0xE000C, 23, 20⟩
abbrev Fld.FWS_SLOT_B_RELEASE : Fld := ⟨0xE000C, 15, 0⟩
abbrev Fld.FWS_BOOT_CFG_GOOD_S : Fld := ⟨0xE0010, 31, 16⟩
abbrev Fld.FWS_BOOT_CFG_TRIALS : Fld := ⟨0xE0010, 3, 0⟩
abbrev Fld.FWS_ADDR_ADDR : Fld := ⟨0xE0014, 23, 5⟩
abbrev Fld.FWS_CMD_GO : Fld := ⟨0xE0018, 31, 31⟩
abbrev Fld.FWS_CMD_BUSY : Fld := ⟨0xE0018, 30, 30⟩
abbrev Fld.FWS_CMD_RESULT : Fld := ⟨0xE0018, 23, 16⟩
abbrev Fld.FWS_CMD_OP : Fld := ⟨0xE0018, 1, 0⟩
abbrev Fld.FWS_DATA0_DATA : Fld := ⟨0xE0020, 31, 0⟩
abbrev Fld.FWS_DATA1_DATA : Fld := ⟨0xE0024, 31, 0⟩
abbrev Fld.FWS_DATA2_DATA : Fld := ⟨0xE0028, 31, 0⟩
abbrev Fld.FWS_DATA3_DATA : Fld := ⟨0xE002C, 31, 0⟩
abbrev Fld.FWS_DATA4_DATA : Fld := ⟨0xE0030, 31, 0⟩
abbrev Fld.FWS_DATA5_DATA : Fld := ⟨0xE0034, 31, 0⟩
abbrev Fld.FWS_DATA6_DATA : Fld := ⟨0xE0038, 31, 0⟩
abbrev Fld.FWS_DATA7_DATA : Fld := ⟨0xE003C, 31, 0⟩
abbrev Fld.FWS_BLKSEL_BLOCK : Fld := ⟨0xE0040, 7, 0⟩
abbrev Fld.FWS_BLK_ERASE_COUNT : Fld := ⟨0xE0044, 31, 0⟩
abbrev Fld.FWS_STATUS_CE : Fld := ⟨0xE0048, 31, 16⟩
abbrev Fld.FWS_STATUS_UE : Fld := ⟨0xE0048, 15, 8⟩
abbrev Fld.FWS_STATUS_XO_READ : Fld := ⟨0xE0048, 0, 0⟩
abbrev Fld.FWS_XO0_EN : Fld := ⟨0xE0060, 31, 31⟩
abbrev Fld.FWS_XO0_LAST : Fld := ⟨0xE0060, 23, 16⟩
abbrev Fld.FWS_XO0_FIRST : Fld := ⟨0xE0060, 7, 0⟩
abbrev Fld.FWS_XO1_EN : Fld := ⟨0xE0064, 31, 31⟩
abbrev Fld.FWS_XO1_LAST : Fld := ⟨0xE0064, 23, 16⟩
abbrev Fld.FWS_XO1_FIRST : Fld := ⟨0xE0064, 7, 0⟩
abbrev Fld.FWS_XO2_EN : Fld := ⟨0xE0068, 31, 31⟩
abbrev Fld.FWS_XO2_LAST : Fld := ⟨0xE0068, 23, 16⟩
abbrev Fld.FWS_XO2_FIRST : Fld := ⟨0xE0068, 7, 0⟩
abbrev Fld.FWS_XO3_EN : Fld := ⟨0xE006C, 31, 31⟩
abbrev Fld.FWS_XO3_LAST : Fld := ⟨0xE006C, 23, 16⟩
abbrev Fld.FWS_XO3_FIRST : Fld := ⟨0xE006C, 7, 0⟩
abbrev Fld.FWS_XO4_EN : Fld := ⟨0xE0070, 31, 31⟩
abbrev Fld.FWS_XO4_LAST : Fld := ⟨0xE0070, 23, 16⟩
abbrev Fld.FWS_XO4_FIRST : Fld := ⟨0xE0070, 7, 0⟩
abbrev Fld.FWS_XO5_EN : Fld := ⟨0xE0074, 31, 31⟩
abbrev Fld.FWS_XO5_LAST : Fld := ⟨0xE0074, 23, 16⟩
abbrev Fld.FWS_XO5_FIRST : Fld := ⟨0xE0074, 7, 0⟩
abbrev Fld.FWS_XO6_EN : Fld := ⟨0xE0078, 31, 31⟩
abbrev Fld.FWS_XO6_LAST : Fld := ⟨0xE0078, 23, 16⟩
abbrev Fld.FWS_XO6_FIRST : Fld := ⟨0xE0078, 7, 0⟩
abbrev Fld.FWS_XO7_EN : Fld := ⟨0xE007C, 31, 31⟩
abbrev Fld.FWS_XO7_LAST : Fld := ⟨0xE007C, 23, 16⟩
abbrev Fld.FWS_XO7_FIRST : Fld := ⟨0xE007C, 7, 0⟩
abbrev Fld.FWS_PROF_ACTIVE : Fld := ⟨0xE0080, 31, 30⟩
abbrev Fld.FWS_PROF_PEND : Fld := ⟨0xE0080, 29, 29⟩
abbrev Fld.FWS_PROF_PEND_SEL : Fld := ⟨0xE0080, 28, 27⟩
abbrev Fld.FWS_PROF_TEST : Fld := ⟨0xE0080, 7, 4⟩
abbrev Fld.FWS_PROF_VALID : Fld := ⟨0xE0080, 3, 0⟩
abbrev Fld.FWS_INT_STATUS_TRIAL_FAIL : Fld := ⟨0xE0090, 4, 4⟩
abbrev Fld.FWS_INT_STATUS_FALLBACK : Fld := ⟨0xE0090, 3, 3⟩
abbrev Fld.FWS_INT_STATUS_WORN : Fld := ⟨0xE0090, 2, 2⟩
abbrev Fld.FWS_INT_STATUS_ECC_UE : Fld := ⟨0xE0090, 1, 1⟩
abbrev Fld.FWS_INT_STATUS_XO_READ : Fld := ⟨0xE0090, 0, 0⟩
abbrev Fld.FWS_INT_ENABLE_EN : Fld := ⟨0xE0094, 4, 0⟩

end Sys2Proof.Machine
end

