-- ==== Sys2Proof/Machine/SMap.lean ====
section
/-! DEFINITION. Sparse maps as plain data: a list of key and value pairs with keys strictly rising. A map with a
default (`getD`, `setD`) also lists no entry equal to what an unlisted key reads as, so equal maps are equal lists. -/

namespace Sys2Proof.Machine

/-- Key and value pairs, keys strictly rising. -/
abbrev AMap (α : Type) := List (Nat × α)

namespace AMap
variable {α : Type}

/-- The value at a key, if the key is listed. -/
def find? : AMap α → Nat → Option α
  | [], _ => none
  | (k, v) :: m, x => if x = k then some v else find? m x

/-- The map with `x` mapped to `v`. -/
def put : AMap α → Nat → α → AMap α
  | [], x, v => [(x, v)]
  | (k, w) :: m, x, v =>
    if x < k then (x, v) :: (k, w) :: m
    else if x = k then (k, v) :: m
    else (k, w) :: put m x v

/-- The map without `x`. -/
def del : AMap α → Nat → AMap α
  | [], _ => []
  | (k, w) :: m, x => if x = k then m else (k, w) :: del m x

/-- Every key below the bound's successor; used by `wf`. -/
def keysAbove : Nat → AMap α → Bool
  | _, [] => true
  | lo, (k, _) :: m => decide (lo < k) && keysAbove k m

/-- Keys strictly rising. -/
def sorted : AMap α → Bool
  | [] => true
  | (k, _) :: m => keysAbove k m

/-- Apply `f` at a key that is listed; nothing otherwise. -/
def upd (m : AMap α) (x : Nat) (f : α → α) : AMap α :=
  match find? m x with
  | some v => put m x (f v)
  | none => m

/-- Whether a key is listed. -/
def has (m : AMap α) (x : Nat) : Bool := (find? m x).isSome

/-- The keys, rising. -/
def keys (m : AMap α) : List Nat := m.map (·.1)

/-- The values, in key order. -/
def vals (m : AMap α) : List α := m.map (·.2)

/-- The value at a key, or the default. -/
def getD (dflt : Nat → α) (m : AMap α) (x : Nat) : α := (find? m x).getD (dflt x)

/-- Set a key, listing it only when the value differs from the default. -/
def setD [DecidableEq α] (dflt : Nat → α) (m : AMap α) (x : Nat) (v : α) : AMap α :=
  if v = dflt x then del m x else put m x v

/-- The canonical form of a map with a default: keys strictly rising, no entry equal to the default. -/
def wf [DecidableEq α] (dflt : Nat → α) (m : AMap α) : Bool :=
  sorted m && m.all (fun p => decide (p.2 ≠ dflt p.1))

end AMap
end Sys2Proof.Machine
end

