-- ==== Sys2Proof/Machine/State.lean ====
section
/-! DEFINITION. The state of the device as plain data, the fault and refusal reasons, and the state after reset. -/

namespace Sys2Proof.Machine

/-! ### Events (R462–R467) -/

/-- A record offered to the event input queue (R466). -/
structure EventIn where
  sev  : Nat
  host : Bool
  src  : Nat
  code : Nat
  data : List Byte
  deriving DecidableEq, Repr

/-- A record in the ring or the archive whose VALID is 1 (R462). -/
structure EventRec where
  opsec    : Nat
  cycles   : Nat
  ev       : EventIn
  archived : Bool
  saturated : Bool
  deferred : Bool
  repeats  : Nat
  seq      : Nat
  deriving DecidableEq, Repr

/-- The event recorder (R466, R467). The counters are the EVR registers. -/
structure Evr where
  fifo    : List EventIn       -- the input queue, oldest first, at most 64
  ring    : AMap EventRec      -- slot to record, slots 0–6,143
  last    : Option Nat         -- slot of the last record written
  archive : AMap (List EventRec)   -- block 0–15 to its records, in the order written
  todo   : List Nat           -- ring slots of the records that SC has still to archive, oldest first (R467)
  deriving DecidableEq, Repr

/-- What the device drives or sends to the outside; `Device.out` lists it, newest first. -/
inductive Out where
  | regRead (agent off : Nat) (v : Word)          -- a register read's data
  | i3cRead (status : Nat) (v : Word)             -- the five bytes of R543
  | i3cNack
  | i3cIbi (byte : Nat)                           -- an in-band interrupt and its mandatory byte (R544)
  | badWord (qmq : Nat)                           -- the next output of this egress queue carries a poisoned word: EP set, or its check inverted (R229)
  | xbarGrant (src cls : Nat)                     -- a lane granted to a source of a class (R24)
  | hostWrite (fn addr : Nat) (bytes : List Byte)
  | hostRead (fn addr len : Nat)                  -- a host-memory read request
  | cqe (fn cq slot : Nat) (dw : List Word)       -- a completion entry (R211) in its ring slot
  | msix (fn vec : Nat)
  | pciePayload (fn : Nat) (bytes : List Byte)
  | frame (port : Nat) (kind : String) (args : List Nat) (bytes : List Byte)   -- an Ethernet frame
  | vae (kind : String) (args : List Nat) (recs : List WireRec) (bytes : List Byte)  -- a Vaelaune frame (R176)
  | arb (args : List Nat) (bytes : List Byte)     -- an arbiter message (R166–R168)
  | trl (port : Nat) (kind : String) (args : List Nat) (recs : List WireRec) (bytes : List Byte)  -- a Trellis frame (R489)
  | pmbus (addr page cmd val : Nat)
  | media (cptr : Nat) (head : List Byte) (bytes : List Byte)   -- a page programmed: its header and what the cipher engine gave (R342, R375)
  | nand (ch lun : Nat) (step : String) (args : List Nat)   -- a step of a media microsequence (R357)
  | dram (ch : Nat) (cmd : String) (args : List Nat)        -- a DRAM command or scheduling act (R310–R322)
  | pin (name : String) (level : Nat)
  | console (s : String)
  deriving DecidableEq, Repr

/-! ### Host rings (R196–R219) -/

/-- A PCIe link (R196, R197). -/
structure Link where
  up     : Bool
  vfEn   : Bool
  numVfs : Nat
  deriving DecidableEq, Repr

/-- Where a descriptor stands. -/
inductive DescPhase where
  | fetched      -- in the controller, not started (R203)
  | running      -- started, not complete
  | done         -- complete; the SQ head has not passed it yet
  deriving DecidableEq, Repr

/-- A fetched descriptor. -/
structure DescState where
  seq   : Nat                 -- number in ring order since the queue was created
  dw    : List Word           -- DW0–DW15
  phase : DescPhase
  need  : Nat                 -- bytes of host data asked for and not yet delivered
  data  : List Byte           -- host data delivered
  hostErr : Bool              -- the host-memory read failed (R209)
  parts : Nat                 -- pieces or sub-operations outstanding (R45)
  status : Nat                -- first status other than ST_OK, or 0
  r0    : Nat
  r1    : Nat
  startedAt : Nat
  sgl   : List (Nat × Nat)    -- scatter list read from the host: address and length (R208)
  fetchNo : Nat := 0          -- its place in the order of fetches of the device (R57)
  sglBad : Bool := false      -- bytes 12–15 of an entry of that list were not zero (R208)
  deriving DecidableEq, Repr

/-- A submission queue (R201–R207). -/
structure Sq where
  base   : Nat
  log2   : Nat
  cq     : Nat
  nowait : Bool
  shadow : Bool
  ccwEn  : Bool
  ccwAddr : Nat
  weight : Nat
  tail   : Nat                -- index written by the doorbell or read from the shadow slot
  fetchSeq : Nat              -- descriptors fetched since creation
  headSeq : Nat               -- descriptors the head has passed since creation
  count  : Nat                -- completion count, modulo 2^32 (R206)
  ccwDue : Bool               -- the completion-count word is older than the count
  ccwAt  : Nat                -- µs clock of its last write
  poll   : Bool               -- shadow POLL (R207)
  emptyAt : Nat               -- µs clock at which the SQ became empty
  descs  : List DescState     -- fetched and not passed by the head, oldest first
  stopped : Bool              -- queue 0 taken down, or a deletion in progress: no fetch
  refused : Bool := false     -- its next descriptor was refused cells and is to be tried again (R237)
  qmq    : Nat                -- its QMQ (R201, R235)
  deleting : Option Nat       -- the DELETE_SQ descriptor (its number on SQ 0) that waits
  deriving DecidableEq, Repr

/-- A completion queue (R204, R205). -/
structure Cq where
  base   : Nat
  log2   : Nat
  ien    : Bool
  vec    : Nat
  coalCnt : Nat
  coalUs : Nat
  posted : Nat                -- entries posted since creation
  released : Nat              -- entries released by the head doorbell since creation
  unsig  : Nat                -- entries unsignalled
  unsigAt : Nat               -- µs clock of the oldest of them
  wait   : List (List Word)   -- entries waiting for room, oldest first
  reread : Bool := false      -- its shadow head is being reread, since it is full (R204)
  deriving DecidableEq, Repr

/-- A per-function reset in progress (R219): how far its steps have come. -/
structure FnReset where
  startAt : Nat
  step    : Nat
  toks    : List (Nat × Nat × Nat)   -- FN_RESET descriptors that wait: function, queue and number
  deriving DecidableEq, Repr

/-- An entry of a function's MSI-X table (R198): message address and data, and the mask bit of its vector control. -/
structure MsixEntry where
  addr   : Nat
  data   : Nat
  masked : Bool
  deriving DecidableEq, Repr

/-- The entry after reset: masked, as the MSI-X rules have it (PRESUMED, log 30). -/
def MsixEntry.blank : MsixEntry := { addr := 0, data := 0, masked := true }

structure Hrg where
  links  : AMap Link          -- link number 0–15
  bifur  : List Nat           -- BIFUR in force on HP0–HP3 (R196)
  sqs    : AMap Sq            -- 256 × function + SQ
  cqs    : AMap Cq            -- 256 × function + CQ
  resets : AMap FnReset       -- function
  msix   : AMap MsixEntry     -- the MSI-X tables: 512 × function + vector (R198, R200)
  msixPend : List Nat         -- pending bits (the PBA): 512 × function + vector
  rrFn   : Nat                -- function that fetched last (R203)
  fetches : Nat := 0          -- descriptors fetched (R57)
  rrSq   : AMap (Nat × Nat)   -- function to the SQ it fetched from last, and the fetches its WEIGHT still gives it (R203)
  deriving DecidableEq, Repr

/-! ### Persistence (R33–R62) -/

/-- A write source (R33). -/
inductive Source where
  | sq (fn q : Nat)
  | qp (qpn : Nat)
  | pdt (src loc : Nat)
  | engine (op fn q : Nat)   -- the COPY, CIPHER or REMOTE_READ engine, by opcode, with the SQ of the descriptor
  | device                 -- the device's own records: metadata, epoch, resync
  | remote (dev n : Nat)   -- a source of another device of the cascade, by the number that its frames give (R489, R495)
  deriving DecidableEq, Repr

/-- The party a completion is sent to. -/
inductive Token where
  | desc (fn q seq : Nat)
  | roce (qpn psn : Nat)
  | pdt (loc src flow msn : Nat)
  | trl (device req : Nat)
  | none
  deriving DecidableEq, Repr

/-- What a write request does at placement (R44, R55). -/
inductive WriteOp where
  | data (bytes : List Byte)
  | zero (len : Nat)
  | cas (width compare swap : Nat)
  | fadd (addend : Nat)
  | metadata (m : MetaOp)
  deriving DecidableEq, Repr

/-- What a request asks of a cask (R87 steps 4 and 8). -/
inductive Access where
  | read | write | atomic
  deriving DecidableEq, Repr

/-- The path of a request (R87): a descriptor that names a cask, a grant handle over a transport, or the device. -/
inductive Path where
  | ring (fn : Nat)
  | roce (handle qpn : Nat)
  | pdt (handle src : Nat) (gcm : Bool)
  | device
  deriving DecidableEq, Repr

/-- A write request that is not yet placed (R43, R115): the piece in hand, and the rest of the request (R45). -/
structure WriteReq where
  src    : Source
  tok    : Token
  path   : Path
  acc    : Access
  cask   : Nat
  off    : Nat
  op     : WriteOp
  more   : WriteOp         -- what follows the piece in hand
  policy : Mirror          -- at translation (R59)
  heldAt : Nat             -- when it reached step 11 (R116)
  part   : Bool := false   -- a later piece of a request of which one piece is placed (R45)
  deriving DecidableEq, Repr

/-- A record placed in a vintage. -/
structure VRecord where
  src    : Source
  tok    : Token
  wire   : WireRec
  result : Nat             -- an atomic's fetched value (R55)
  charge : Nat             -- bytes charged under R104
  size   : Nat             -- bytes counted under R44
  released : Bool          -- its completion has been sent
  fetchNo : Nat := 0       -- when its descriptor was fetched, in the order of fetches of the device (R57)
  deriving DecidableEq, Repr

inductive SealCause where
  | period | size | forced
  deriving DecidableEq, Repr

inductive VState where
  | sealed | committed
  deriving DecidableEq, Repr

/-- A vintage that has sealed and is not yet applied (R39); the open vintage stands in `Pst`. -/
structure Vintage where
  num    : Nat
  state  : VState
  cause  : SealCause
  recs   : List VRecord
  sealedAt : Nat           -- µs clock at its seal (R63)
  shipped : Bool
  acked  : Bool            -- the twin has acknowledged it; held until lower numbers commit (R40)
  own    : Bool            -- issued by this unit; false: received from the twin
  prev   : Nat := 0        -- PREV of the VHEAD it was shipped with (R177)
  deriving DecidableEq, Repr

/-- A vintage image whose reception is open (R178, R179). -/
structure RxImage where
  num   : Nat
  prev  : Nat
  epoch : Nat
  len   : Nat
  count : Nat
  cause : Nat
  rel   : Bool
  got   : Nat              -- image bytes received in order
  recs  : List WireRec
  deriving DecidableEq, Repr

/-- What a read's data is for. -/
inductive ReadUse where
  | hostBuf (pos : Nat)                -- READ: into the descriptor's host buffer, at a position
  | copyIn (pos : Nat)                 -- COPY: its source
  | cipherIn (pos : Nat)               -- CIPHER with its input in a cask
  | remoteSrc (pos : Nat)              -- REMOTE_WRITE from a cask
  | roceResp (qpn psn : Nat)           -- RDMA READ
  | pdtResp (loc src flow msn att : Nat)   -- PDT READ
  | trlResp (device req : Nat)
  deriving DecidableEq, Repr

/-- A read that waits for racks (R21, R79, R97). -/
structure ReadReq where
  src   : Source
  tok   : Token
  cask  : Nat
  off   : Nat
  len   : Nat
  snap  : Nat              -- snapshot number S (R52)
  use   : ReadUse
  data   : List Byte       -- the bytes under its snapshot, taken at translation (R52, R53)
  redo   : List Nat        -- positions whose page was being recovered then (R193)
  path   : Path := .device
  streams : List Nat := [] -- the streams that it is a stream read of (R97)
  deriving DecidableEq, Repr

/-- An operation of a transport or of the cascade that has ended, with its status and results; its engine takes it
when it answers the initiator. -/
structure Done where
  tok    : Token
  status : Nat
  r0     : Nat
  r1     : Nat
  deriving DecidableEq, Repr

/-- A PERSIST_FENCE that has started (R56, R57). -/
structure Fence where
  tok   : Token
  doSeal : Bool
  twin  : Bool
  scope : List Token       -- the descriptors within its scope
  sealed : Bool            -- its forced seal has been made, or was not needed
  deriving DecidableEq, Repr

structure Pst where
  openRecs : List VRecord  -- the open vintage, placement order
  openAt : Nat             -- µs clock at which its period began
  openPeriod : Nat         -- its VINT_PERIOD in µs (R51)
  openMax : Nat            -- its VINT_MAX_BYTES (R51)
  nextNum : Nat            -- the number it will carry
  numValid : Bool          -- numbering has resumed (R49)
  resv  : Nat              -- first number of the highest block recorded in MRAM; class N in effect (R49)
  sealedNum : Nat
  commitNum : Nat          -- on a standby, the highest acknowledged (R64)
  appliedNum : Nat
  vints : List Vintage     -- ascending number
  rx    : Option RxImage
  placeWait : List WriteReq   -- admitted, waiting for staging room or for a seal (R43, R50)
  reads : List ReadReq
  fences : List Fence
  outcomes : List Done     -- of transport and cascade requests, oldest first
  sealAt : Nat             -- earliest moment of the next seal, in units of 100 ns (R50)
  sealDue : Option SealCause   -- a seal that waits for the 100 ns spacing (R50)
  deriving DecidableEq, Repr

/-! ### Casks and racks (R66–R98) -/

/-- A rack entry (R77). -/
structure Rack where
  frame   : Nat
  cptr    : Nat
  present : BitVec 16
  dirty   : BitVec 16
  rdirty  : BitVec 16
  res     : Bool
  cvalid  : Bool
  fetch   : Bool
  wb      : Bool
  vault   : Bool
  acc     : Nat
  homed   : Bool             -- CPTR names a copy; false for a written rack never yet flushed (log 14)
  deriving DecidableEq, Repr

/-- An unwritten rack that is not resident. -/
def Rack.blank : Rack :=
  { frame := 0, cptr := 0, present := 0, dirty := 0, rdirty := 0, res := false, cvalid := false, fetch := false,
    wb := false, vault := false, acc := 0, homed := false }

/-- An open stream (R95). -/
structure Stream where
  fn   : Nat
  q    : Nat
  cask : Nat
  pos  : Nat               -- rack index of the position
  look : Nat               -- L
  auto : Bool
  late : Nat
  deriving DecidableEq, Repr

/-- A cask or grant admin command between its start and its persistence point (R70, R75). -/
structure AdminJob where
  tok    : Token
  op     : MetaOp
  placed : Bool
  deriving DecidableEq, Repr

structure Csk where
  casks  : AMap CaskEntry
  grants : AMap GrantEntry    -- slots that are not FREE with GEN 0
  fresh  : Nat                -- lowest slot never issued since the format (R82)
  freed  : List Nat           -- slots that became FREE since, oldest first
  racks  : AMap Rack          -- 2^36 × cask + rack index
  streams : AMap Stream
  jobs   : List AdminJob      -- oldest first; the head runs (R70)
  capRacks : Nat              -- CSK_CAP_RACKS
  frames : Nat                -- data frames
  nextFrame : Nat             -- lowest frame never taken
  freeFrames : List Nat       -- frames returned
  poison : List Nat           -- 16 × rack key + page of the pages that are poisoned (R320)
  wbJobs : AMap Nat           -- rack key to the location a write-behind programs (R80)
  closedStreams : List (Nat × Nat × Nat)  -- (function, queue, stream) closed under R98
  gate   : List WriteReq := []   -- writes that arrive while a shrink, deletion or revocation of what they name is placed (R75)
  fetchWait : List Nat := []     -- rack keys of the cellar reads that the apply reserve holds off, in order of issue (R92)
  urgent : List Nat := []        -- rack keys of the cellar reads in class C1: demand fetches (R97, R148)
  quarBy : List (Nat × Nat) := []   -- cask and slot: the slots that a deletion of the cask has quarantined, until it is applied (R83, R187)
  deriving DecidableEq, Repr

/-! ### Hold-up, admission and bottling (R103–R131) -/

/-- The supply states of R118. -/
inductive Supply where
  | normal | warn | dwell | bottling | bottled
  deriving DecidableEq, Repr

/-- The states of a vault generation (R124). -/
inductive GenState where
  | erased | sealed | superseded | released
  deriving DecidableEq, Repr

/-- Admission states of R114. -/
inductive Admit where
  | opened | throttled | stopped
  deriving DecidableEq, Repr

/-- A page of a metadata table in reserved DRAM (R103): rack-table, cask-table, grant-table or absence map. -/
inductive MetaPage where
  | rackTable (cask page : Nat)
  | caskTable (page : Nat)
  | grantTable (page : Nat)
  | absence (page : Nat)
  | absCask (page : Nat)      -- the bits of cask IDs and of grant slots (R187)
  | absGrant (page : Nat)
  | epochTable                -- the epoch-start table (R188)
  deriving DecidableEq, Repr

/-- A vault index entry of KIND 0x00 together with its directory entry (R125, R138). -/
structure VaultRack where
  mask : BitVec 16
  vaddr : Nat
  prev : Option Nat        -- CPTR before the load; none: the rack was unwritten
  deriving DecidableEq, Repr

/-- A pending vintage (R61, R144). -/
structure Pending where
  num  : Nat
  rel  : Bool
  recs : List VRecord
  deriving DecidableEq, Repr

/-- The metadata that a spine, a null seal or the in-place spine leads to (R126, R134, R155): the reserved-area
tables as they stood, with the vintage state and the role items. -/
structure MetaImage where
  casks  : AMap CaskEntry
  grants : AMap GrantEntry
  fresh  : Nat
  freed  : List Nat
  racks  : AMap Rack
  absence : List Nat          -- rack keys whose bit is set (R187)
  absCasks : List Nat := []
  absGrants : List Nat := []
  epochs : List (Nat × Nat × Nat)   -- the epoch-start table
  applied : Nat
  commit : Nat
  resv   : Nat
  pend   : List Pending
  role   : Nat                -- role state at stop-admission
  pair   : Nat                -- pair identity
  twinAck : Nat               -- the twin's highest acknowledged vintage
  plan   : Nat
  homes  : AMap Nat           -- the home directory of a cascade (R493)
  gen    : Nat := 0           -- header: the generation (R126)
  bseq   : Nat := 0           -- bottling sequence number
  cycles : Nat := 0           -- power-cycle count
  rtc    : Nat := 0           -- RTC time, in periods of 32.768 kHz
  map    : List (Nat × Nat) := []   -- the reserved-area map: where the cask table, grant table, rack tables and absence map lie, in DRAM and in the cellar
  epoch  : Nat := 0           -- the highest epoch known (MIR_EPOCH, R510)
  cMf    : Nat := 0           -- C and ESR of the plan, and BW_MEAS
  esr    : Nat := 0
  bw     : Nat := 0
  pendList : List (List Byte) := []   -- the pending-vintage list, in entries of 16 bytes (R144)
  idxAt  : List Nat := []     -- index map: where the index pages lie, and how many entries there are
  idxN   : Nat := 0
  deriving DecidableEq, Repr

/-- One vault generation (R124, R126). -/
structure VaultGen where
  state  : GenState
  erased : Nat                -- its erased blocks, E of R345
  racks  : AMap VaultRack     -- rack key to its vault copy
  spine  : Option MetaImage
  copyA  : Bool               -- the spine copy on EDGE-W passes its CRC checks
  copyB  : Bool
  index  : List (List Byte) := []   -- its vault index entries of 32 bytes, in order (R125)
  idxAt  : List Nat := []           -- where its index pages lie
  dir    : AMap (List Byte) := []   -- its vault directory: position of a copy to its entry of 32 bytes (R138)
  deriving DecidableEq, Repr

/-- What a record of the restore-record journal says (R126, R133, R145). A seal record names where both spine copies lie; an open record
the source generation, any older referenced one, and the reserved-area map. -/
inductive JRec where
  | sealRec (gen bseq spineW spineE crc : Nat)
  | nullSeal
  | openRec (source older : Option Nat) (map : List (Nat × Nat))
  | phase (n : Nat)
  | railFault
  | zeroize
  deriving DecidableEq, Repr

/-- A record of the journal in MRAM (R133): the power-cycle count and the sequence number that every record carries. -/
structure JEntry where
  cycles : Nat
  seq    : Nat
  what   : JRec
  deriving DecidableEq, Repr

/-- How a bottling ends (R127, R140, R155, R157). -/
structure Bottle where
  target : Option Nat         -- generation written; none: nothing to write (R134, R140)
  preOpen : Bool              -- latched before the open record (R140)
  inReset : Bool              -- never resumes in place (R127)
  noResume : Bool             -- step 10 runs whatever the input (R28, R401, R406)
  pend : List Pending
  skipped : List Nat          -- LUNs skipped (R123)
  streamDone : Bool
  deriving DecidableEq, Repr

structure Hold where
  supply  : Supply
  inputBad : Bool             -- latest assessment of R117
  inputGood : Bool
  goodAt  : Nat               -- µs clock since which the input is good
  dwellAt : Nat
  stopAdm : Bool              -- the stop-admission wire
  pfDrive : Bool              -- this device asserts PF_SHARE
  bottle  : Option Bottle
  phase   : Nat               -- SUP_HU_STATUS.PHASE
  waitIn  : Bool              -- step 9 done; SC waits on the input (R127)
  bseq    : Nat               -- bottling sequence number
  journal : List JEntry       -- newest first; class N
  genE    : VaultGen
  genO    : VaultGen
  lastGen : Nat               -- generation that was the target last
  home    : Option MetaImage  -- what the reserved-area map in MRAM leads to (R133)
  -- the hold-up measurement (R106–R111); class N results are SUP_HU_MEAS_*
  coldSet : Bool              -- no service open has followed the cold start (R106)
  setStart : Bool             -- a measurement set is due or running
  testAt  : Option Nat        -- µs clock at which HU_TEST_N was asserted
  probing : Bool
  lastSetAt : Nat
  planL   : Option Nat        -- L of the newest set, in racks
  planPrev : Option Nat       -- L of the set before it
  replan  : Bool              -- a planning input was written; PLAN_RECOMPUTE is due (R130)
  bwMeas : Nat                -- BW_MEAS in MB/s
  mapNo  : Nat := 0           -- updates of the reserved-area map in MRAM; class N (R133)
  stopRole : Nat := 0         -- role state at the latest stop-admission or quiesce (R126, R510)
  stopEpoch : Nat := 0        -- epoch then (R510)
  setDone : Bool := false     -- a measurement set has completed since SUP started (SUP_HU_STATUS.AGE_H)
  deriving DecidableEq, Repr

structure Adm where
  state  : Admit
  credit : Nat                -- bytes
  held   : List WriteReq      -- at step 11, in order of arrival
  pend   : Nat                -- pending charge in bytes (R104)
  metaDirty : List MetaPage
  cleared : List (Nat × Nat)  -- what write-behind has cleared in the latest millisecond: µs clock and bytes, newest first (R114)
  rate   : Nat := 0           -- R_ADMIT as last recomputed, bytes per µs
  guard  : Bool
  deriving DecidableEq, Repr

/-! ### Emergence (R133–R156) -/

structure Rst where
  phase  : Nat                -- PST_RST_STATUS.PHASE
  source : Nat
  srcGen : Nat
  older  : Bool
  alone  : Bool
  wavePri : Nat
  svcOpen : Bool              -- service has opened (R145)
  noImage : Bool
  image  : Option MetaImage   -- the image selected and not yet loaded
  pend   : List Pending       -- pending vintages not yet resolved
  twinH  : Option Nat         -- the twin's H and pending numbers, from RESOLVE
  resolved : Bool
  told   : List (List Nat × List Byte × Nat)   -- the RESOLVE frames this unit sent last, each its arguments, payload and FLAGS, and when (R141, R178)
  toldAt : Nat
  awaits : List Nat           -- agreed vintages that the twin ships before service opens (R143)
  vR     : Nat
  startAt : Nat               -- µs clock at the trigger of the latest emergence
  openAt : Nat
  linkUpAt : Nat
  fillLeft : List Nat         -- rack keys still to be read by the wave in progress, in order
  wave0  : Bool               -- wave 0 is in progress
  fillPaused : Bool           -- the fill waves are paused by FILL_EN (R149)
  filling : Bool := false     -- the fill waves have begun and not ended
  waveOut : List Nat := []    -- rack keys of the wave reads outstanding (R148)
  again  : List Nat := []     -- racks with VAULT = 1 that a retired channel held in wave 0, which reads them again at its end (R515)
  preferOff : Bool := false   -- the fill of PREFER_DRAM casks has ended, below FREE_LOW (R149)
  roleWas : Nat := 0          -- role at stop-admission, from the image (R141)
  sentPend : List Pending := []   -- pending vintages shipped to the twin (R143)
  owed   : Option Bool := none    -- the service that a granted lease brings, held until every agreed vintage is here: as SOLO or not (R143)
  cleared : Bool              -- R154 emptied the cask space; ALONE requests repeat
  deriving DecidableEq, Repr

/-! ### Twin mirroring (R160–R194) -/

/-- The role states of R160. -/
inductive Role where
  | detached | active | solo | standby | resync | fenced
  deriving DecidableEq, Repr

/-- A budget block (R177). -/
structure Budget where
  dirtyPages : Nat
  limit  : Nat             -- racks
  high   : Nat             -- racks
  freeKib : Nat
  wbRate : Nat             -- MB/s
  admState  : Nat             -- 0 OPEN, 1 THROTTLED, 2 STOPPED
  deriving DecidableEq, Repr

/-- The fields of an arbiter reply (R167, R168). -/
structure ArbReply where
  ok      : Bool          -- MAGIC, VERSION and the tag check
  pair    : Nat
  echo    : Nat
  epoch   : Nat
  result  : Nat
  holder  : Nat
  stale   : Nat
  lastHolder : Nat
  remain  : Nat
  vf      : Nat
  deriving DecidableEq, Repr

/-- What came for MC2 while it is stopped, and waits until it runs again (R20, R23; log 58): an arbiter reply, a ROLE frame, a role change
that follows the loss of the twin, or a write of MIR_CMD. -/
inductive MirJob where
  | lease (r : ArbReply)
  | promote (r : ArbReply)
  | handback (r : ArbReply)
  | join (h epoch : Nat) (samePair : Bool)
  | joinAccept (p : Nat)
  | joinRefuse
  | synced
  | hbPropose
  | leave                  -- a RESYNC unit whose twin is absent becomes DETACHED (R162)
  | rejoin                 -- a unit that left Diapause joins once the link is up (R428)
  | cmd (agent : Nat) (v : Word)
  deriving DecidableEq, Repr

/-- An arbiter message that awaits its reply (R163, R166). -/
structure ArbMsg where
  kind  : Nat              -- TYPE of R168
  flags : Nat
  seq   : Nat
  sentAt : Nat             -- the latched send time (R163)
  alt   : Bool             -- sent on the alternate path
  tried : Bool := false    -- it has been sent anew after 10 ms (R163, R166)
  deriving DecidableEq, Repr

/-- A page being recovered from the twin (R193). -/
structure Pfetch where
  cask : Nat
  rack : Nat
  page : Nat
  tag  : Nat
  nMax : Nat
  aMin : Nat
  cellar : Bool            -- step 5 of R353 asks for it
  got  : Option (Nat × List Byte)   -- A′ and the page, waiting for this unit's own applies to reach A′
  startAt : Nat
  asked : Bool := true     -- its PFETCH_REQ has been sent: at most 65,536 are outstanding (R515)
  deriving DecidableEq, Repr

structure Mir where
  role   : Role
  twinRole : Option Role      -- from the latest STATUS; none: unknown
  twinUnit : Option Nat
  twinPref : Option Bool
  twinHb  : Bool
  twinEpoch : Nat
  twinOther : Bool            -- it has reported a role other than DETACHED since the link last came up (R173)
  twinNoImage : Bool          -- it answered resolution with NO_IMAGE (R509)
  absent : Bool               -- the twin has been declared absent
  attached : Bool             -- the twin is STANDBY or RESYNC as the mirror engine regards it (R35)
  soloPend : Bool
  stale  : Bool
  staleKnown : Bool := false  -- the arbiter has said so in a reply since emergence or the warm reset (R161)
  fenceCause : Nat
  epoch  : Nat
  serving : Bool              -- the first role has been taken since emergence or the warm reset (R161)
  firstAt : Nat               -- µs clock at which the first-role wait began
  unitConflict : Bool         -- R175
  deadline : Option Nat       -- lease deadline, µs clock (R163)
  leaseStart : Nat
  lastResult : Nat            -- MIR_LEASE.RESULT
  renewAt : Nat
  seq    : Nat                -- the 40-bit counter of R167
  waitArb : List ArbMsg       -- unanswered, oldest first
  promoteAt : Option Nat      -- when PROMOTE_REQUEST is sent again (R183)
  notices : Nat               -- FENCE_NOTICE sends still due (R171)
  fencedAt : Nat
  fenceIn : Bool
  -- pins (R186)
  rolePins : Nat
  svcOk  : Bool
  pinsDue : Option Nat        -- µs clock at which a FENCED unit drops its pins
  pinsOnCommit : Option Nat   -- vintage whose commit raises the pins
  -- the link (R172–R174)
  linkUp : Bool
  lanes  : BitVec 16          -- healthy lanes
  width  : Nat
  widenAt : Option Nat        -- when a retrain last widened the link (R172)
  linkDownAt : Nat
  lastGoodAt : Nat
  txLseq : Nat
  rxLseq : Nat                -- LSEQ of the last frame taken
  rxFirst : Bool := true      -- no frame has been taken since the link came up (R178)
  rxSkip : Bool               -- frames are dropped until a VHEAD or the VDATA named by rxWant (R178)
  rxWant : Option (Nat × Nat) -- vintage and byte offset of the VNAK sent
  retests : List Nat          -- lanes that failed
  statusAt : Nat              -- µs clock of the last STATUS sent
  -- shipping (R178, R179)
  lastShipped : Nat           -- PREV of the next VHEAD
  sentSizes : List (Nat × Nat)   -- vintages sent: number and image length, for the staging estimate
  blockArg0 : Nat             -- ARG0 of the frame that carried the latest budget block
  budget : Option Budget
  budgetAt : Nat
  vnaks  : List (Nat × Nat)   -- VNAKs drawn per vintage
  lastWhole : Nat             -- last vintage held whole (receiver)
  ackedNum : Nat              -- highest acknowledged to the twin (receiver)
  chainOpen : Bool            -- the next vintage may carry PREV = 0
  twinHeld : Nat              -- highest vintage the twin has acknowledged
  learned : Nat               -- highest vintage number the twin's frames have named (R49)
  -- rejoining (R187–R190)
  absence : List Nat          -- rack keys whose bit is set, rising
  absCasks : List Nat
  absGrants : List Nat
  epochs : List (Nat × Nat × Nat)   -- epoch-start table, newest first: epoch, number of its epoch record, and the highest vintage held below it
  marking : Bool              -- vintages applied set absence bits
  markBelow : Option Nat      -- after SOLO: bits are set for vintages below this number (R187)
  joinPrev0 : Bool            -- the next VHEAD carries PREV = 0 (R188)
  syncLast : Option Nat       -- vintage that holds the last resync record
  joinReq : Bool              -- this unit has a JOIN outstanding
  -- handback (R191)
  hbArmedAt : Option Nat
  hbProposed : Option Nat     -- the target's latched HB_PROPOSE send time
  hbHolder : Nat              -- 0 none, 1 waiting for commits, 2 HANDBACK_REQUEST sent
  hbVF : Nat
  step10 : List WriteReq      -- writes that wait at step 10 of R87
  inbox  : List MirJob := []  -- what waits for MC2, oldest first (R23)
  pfetch : List Pfetch
  pfTag  : Nat
  deriving DecidableEq, Repr

/-! ### Queue manager (R222–R243) -/

/-- A packet in a queue or under construction (R224, R226). -/
structure Pkt where
  tok   : Token            -- what the packet belongs to
  owner : Nat              -- owner tag (R231)
  cells : Nat
  whole : Bool             -- its last word is written (R226)
  poison : Bool            -- the poison flag of the packet header (R224, R229)
  void  : Bool
  runs  : List (Nat × Nat) := []   -- its chain of cells, as runs of consecutive cells: first cell and count
  len   : Nat := 0         -- the packet length in bytes, as the packet header holds it (R224)
  deriving DecidableEq, Repr

/-- A queue context; `state` is QMG_Q_CFG.STATE. -/
structure QmQueue where
  state : Nat
  cls   : Nat
  owner : Nat
  pkts  : List Pkt         -- oldest first
  lost  : List Pkt := []   -- packets that a broken link word has cut off, until the sweep (R230)
  swept : Bool := false    -- broken, with the sweep done: live again once its consumer has drained it (R230)
  deriving DecidableEq, Repr

/-- A reclaim in progress (R233, R234). -/
structure Reclaim where
  tag   : Nat
  freed : Nat
  startAt : Nat
  deriving DecidableEq, Repr

/-- A request that waits for a crossbar lane (R24). -/
structure XbarReq where
  src    : Nat
  cls    : Nat
  waited : Nat             -- HUB clocks since it arrived
  deriving DecidableEq, Repr

structure Qmg where
  queues : AMap QmQueue    -- queues that are not as their default of R235
  reclaims : List Reclaim
  xbar   : List XbarReq    -- oldest first
  free   : List (Nat × Nat) := [(0, 262144)]   -- the free list, as runs of cells: first cell and count (R222)
  bad    : List Nat := []  -- queues whose next packet carries a poisoned word (R229)
  waits  : List (Nat × Pkt) := []   -- packets whose producer waits for a broken queue, oldest first (R230)
  deriving DecidableEq, Repr

/-! ### Ethernet ports and RoCEv2 (R244–R266) -/

/-- A dyadic number, num / 2^exp: the rates and α of R263 are held exactly. -/
structure Dy where
  num : Nat
  exp : Nat
  deriving DecidableEq, Repr

/-- The rate limiter of a QP or a sending flow (R263, R284); rates in 10 Mb/s. -/
structure Rate where
  rc    : Dy
  rt    : Dy
  alpha : Dy
  t     : Nat
  b     : Nat
  bytes : Nat               -- sent since the last step of the byte counter
  alphaAt : Nat             -- µs clock at which ALPHA_US last restarted
  incAt : Nat               -- µs clock at which INC_US last restarted
  hitAt : Option Nat        -- µs clock of the last ECE that acted (R284)
  deriving DecidableEq, Repr

/-- What answers a request of a responder (R254). -/
inductive RoceAns where
  | ack | read | atomic
  deriving DecidableEq, Repr

/-- A request of a QP that has not been answered (R254), its message perhaps still arriving. -/
structure RoceReq where
  psn   : Nat               -- its first PSN
  last  : Nat               -- its last PSN, once `ended`
  ans   : RoceAns
  handle : Nat
  off   : Nat
  len   : Nat               -- the DMA length; for a SEND, the bytes that have arrived
  op    : WriteOp           -- an atomic's operation
  send  : Bool              -- a SEND
  ended : Bool              -- its last packet has arrived
  ready : List (Nat × List Byte)   -- pieces of a write that wait for their turn: offset and bytes
  buf   : List Byte         -- bytes that have arrived and belong to no piece yet
  pos   : Nat               -- bytes before them
  started : Bool            -- it has been translated, with every piece
  left  : Nat               -- pieces placed or being read whose outcome is awaited
  status : Nat              -- 0, a status of R212, or one of the replies of R256
  chunks : AMap (List Byte) -- read data, by cask offset
  result : Nat
  recv  : Option (Nat × Nat × Nat)   -- the RECV it consumed: function, queue and number
  imm   : Option Nat
  dup   : Bool := false     -- a READ executed again (R257)
  deriving DecidableEq, Repr

/-- A request sent and not completed (R259). -/
structure RoceOut where
  fn    : Nat
  q     : Nat
  seq   : Nat
  read  : Bool
  psn   : Nat
  last  : Nat
  handle : Nat
  off   : Nat
  len   : Nat
  data  : List Byte
  sent  : Bool              -- false while the ORD limit holds it
  got   : Nat               -- bytes of a read that have landed
  bytes : List Byte         -- those bytes, for a landing buffer in a cask
  deriving DecidableEq, Repr

/-- A QP context (R260–R262). `attr` holds the attribute block's 128 B as taken. -/
structure Qp where
  inc   : Nat
  owner : Nat
  state : Nat
  attr  : List Byte
  cause : Nat               -- ERR_CAUSE
  ePsn  : Nat               -- expected receive PSN
  naked : Bool              -- a NAK has been sent; packets other than the expected PSN are discarded
  reqs  : List RoceReq      -- in PSN order
  recvs : List (Nat × Nat × Nat)   -- RECVs not consumed, oldest first
  saved : List (Nat × Nat)  -- the last 16 atomics: PSN and result, newest first
  ackDue : Bool
  ackPsn : Nat              -- the PSN that the next ACK covers
  cnpAt : Option Nat        -- µs clock of the last CNP sent
  sPsn  : Nat               -- next PSN to send
  out   : List RoceOut
  sentAt : Nat              -- µs clock at which the ACK timer last started
  tries : Nat               -- retries used
  rnrs  : Nat               -- RNR retries used
  rnrAt : Option Nat        -- µs clock at which the RNR timer ends
  rate  : Rate
  deriving DecidableEq, Repr

/-- A frame that waits in an egress queue: interface, kind, arguments and bytes. An entry that stands for a whole message counts its
packets. -/
structure TxFrame where
  iface : Nat
  kind  : String
  args  : List Nat
  bytes : List Byte
  ver   : Nat := 0          -- the IP version, 4 or 6; 0: no IP header of the record's own
  n     : Nat := 1          -- packets
  held  : Bool := false     -- it holds cells of QMQ 0x0110 + 8n + p (R238)
  deriving DecidableEq, Repr

structure Net where
  qps    : AMap Qp            -- index to context
  qpInc  : AMap Nat           -- index to the incarnation assigned last
  cache  : List Nat           -- contexts in the cache, most recently used first (R260)
  paused : AMap Nat           -- 8 × interface + priority to the µs clock at which its pause ends
  pausedAt : AMap Nat         -- 8 × port + priority to the µs clock since which it has been paused (R250)
  storm  : AMap Nat           -- 8 × port + priority that does not honour pause, to the µs clock of the latest pause
  xoff   : AMap Nat           -- 8 × port + priority in XOFF to the µs clock of its last PFC frame
  egress : AMap (List TxFrame) -- 8 × port + priority to the frames that wait, oldest first
  marks  : AMap (List (Option Bool))   -- by QMQ, for each packet received and not taken, whether it met the ECN threshold; none: discarded
  mc6    : AMap (Nat × Nat)   -- port to a second and the exception frames handled in it
  pauseRx : AMap Nat := []    -- 8 × port + priority to the µs clock of the last pause that has arrived (R250)
  deriving DecidableEq, Repr

/-! ### PDT (R267–R302) -/

/-- The packet that a reply answers, as far as the reply needs it (R273, R295): where it arrived, its priority and DSCP, its source MAC
address, its IP addresses and its ATTEMPT. -/
structure PdtVia where
  iface : Nat
  prio  : Nat
  dscp  : Nat
  mac   : Nat
  sip   : Nat
  dip   : Nat
  att   : Nat
  v6    : Bool := false     -- IPv6
  deriving DecidableEq, Repr

/-- A message entry (R288). -/
structure PdtEntry where
  msn   : Nat
  op    : Nat
  len   : Nat
  grant : Nat
  off   : Nat
  imm   : Nat
  gcm   : Bool
  flags : Nat
  att   : Nat
  status : Nat              -- the failure recorded; 0: none
  units : List Nat          -- units of 256 B that the map holds, rising
  parts : AMap (List Byte)  -- MSG_OFF to payload
  lastAt : Nat
  nonce : Nat               -- NONCE_BASE (R297)
  via   : PdtVia            -- its latest packet
  psn   : Nat               -- and that packet's PSN
  deriving DecidableEq, Repr

/-- A message that has been executed and awaits its outcome (R290–R294). -/
structure PdtRun where
  msn   : Nat
  att   : Nat
  op    : Nat
  len   : Nat
  left  : Nat
  status : Nat
  result : Nat
  chunks : AMap (List Byte)
  recv  : Option (Nat × Nat × Nat)
  imm   : Option Nat
  zero  : Bool              -- length 0: its outcome follows the earlier ones (R290)
  dup   : Bool              -- a read executed again (R292); it decides nothing
  prot  : Option (Nat × Nat)  -- key slot and NONCE_BASE of a protected message (R297)
  psn   : Nat               -- the PSN that its response carries
  via   : PdtVia            -- the packet that its response answers
  resp  : Option (List Byte) := none   -- an atomic's result, while its response waits for its key slot (R370)
  deriving DecidableEq, Repr

/-- A receiving flow record (R285). -/
structure PdtRx where
  src   : Nat
  loc   : Nat
  exp   : Nat
  comp  : Nat
  ack   : Nat
  map   : List Nat          -- PSNs above ACK_PSN that have been received
  done  : List (Nat × Nat)  -- MSN and outcome: the 32 below COMP_MSN and those decided above it
  reads : List (Nat × Nat)  -- MSN of a read and its last executed ATTEMPT
  atoms : List (Nat × List Byte)   -- results held (R293), oldest first
  entries : List PdtEntry
  runs  : List PdtRun
  hold  : Option Nat        -- MSN of the PERSIST with HOLD that awaits its outcome
  lastAt : Nat
  gapAt : Option Nat        -- µs clock of the last ACK that a gap drew
  unacked : Nat             -- data packets since the last ACK
  unackedAt : Nat
  ece   : Bool
  sent  : Nat               -- packets sent, for R278
  via   : PdtVia            -- its latest packet
  rate  : Rate              -- the limiter of its READ_RESPs, where no sending flow record holds it (R263, R284)
  deriving DecidableEq, Repr

/-- A message that this device sends (R276–R281). -/
structure PdtMsg where
  fn    : Nat
  q     : Nat
  seq   : Nat
  msn   : Nat
  read  : Bool
  len   : Nat
  data  : List Byte
  grant : Nat
  off   : Nat
  pos   : Nat               -- where its data lies in the descriptor's buffer
  gcm   : Bool
  nonce : Nat
  kslot : Nat
  next  : Nat               -- bytes sent for the first time
  allSent : Bool
  pkts  : List (Nat × Nat × Nat)   -- packets sent: PSN, MSG_OFF and length
  rep   : List Nat          -- PSNs reported received
  fast  : List Nat          -- PSNs retransmitted on a gap in this attempt
  att   : Nat
  rto   : Nat               -- µs
  timerAt : Option Nat
  repAt : Option Nat        -- µs clock at which every packet had been reported
  busy  : Nat               -- status of the last BUSY
  got   : AMap (List Byte)  -- read data of the current attempt
  eces  : List Nat := []    -- PSNs that were first sent with ECE, which a retransmission repeats (R276)
  deriving DecidableEq, Repr

/-- A sending flow record with its peer entry (R285, R300). -/
structure PdtTx where
  loc   : Nat
  rem   : Nat
  peer  : List Byte         -- the 64 B peer block
  psn   : Nat               -- next PSN
  msn   : Nat               -- next MSN
  lowMsn : Nat
  ack   : Nat               -- latest ACK_PSN
  sent  : Nat               -- packets sent, for R278
  ece   : Bool
  msgs  : List PdtMsg
  rate  : Rate
  deriving DecidableEq, Repr

/-- An endpoint (R267, R300). -/
structure PdtEp where
  inc   : Nat
  owner : Nat
  block : List Byte         -- the 64 B endpoint block
  recvs : List (Nat × Nat × Nat)
  deriving DecidableEq, Repr

structure Pdt where
  port  : Nat
  on    : Bool
  complMs : Nat
  eps   : AMap PdtEp          -- index
  epInc : AMap Nat            -- index to the incarnation assigned last
  rx    : List PdtRx
  tx    : List PdtTx
  cnt   : AMap Nat            -- the counters of R302, 1 to 14
  quietAt : Nat := 0          -- µs clock at which the engine last started, from which the quiet period runs (R128, R295)
  held  : List (Nat × PdtIn) := []   -- packets that wait for a PENDING key slot (R370), with their opcode, oldest first
  deriving DecidableEq, Repr

/-! ### DRAM tier (R303–R333) -/

/-- A row of a DIMM that is queued or listed for repair (R319, R322). -/
structure DramRow where
  slot  : Nat
  subch : Nat
  rank  : Nat
  bank  : Nat
  row   : Nat
  deriving DecidableEq, Repr

/-- What the controller keeps about a channel beyond its registers. -/
structure DramCh where
  postponed : AMap Nat        -- 4 × rank + bank index to its postponed refreshes (R314)
  raa   : AMap Nat            -- 32 × rank + bank to its rolling accumulated activation count (R316)
  ces   : List (DramRow × Nat)  -- corrected errors of the last 24 hours: row and µs clock (R319)
  ues   : List Nat            -- µs clocks of the uncorrectable errors of the last second (R323)
  queue : List DramRow        -- rows queued for repair (R322)
  deriving DecidableEq, Repr

def DramCh.blank : DramCh := { postponed := [], raa := [], ces := [], ues := [], queue := [] }

/-- A timing-set switch in progress (R328): the channels still to switch, the one in its switch first. -/
structure DramWalk where
  left : List Nat
  stop : Bool
  deriving DecidableEq, Repr

structure Drm where
  dimms  : List Dimm          -- the modules fitted
  chans  : List Nat           -- live channels as the layout of R307 counts them, ascending
  total  : Nat                -- data frames of that layout
  retired : List Nat
  short  : Bool               -- R324: pinned racks may be evicted
  freed  : Nat := 0           -- R324: frames freed by steps 2 and 3 that no apply has taken
  bad    : List (DupPage × Nat) := []   -- copies of duplexed pages that are uncorrectable (R308, R320)
  fence  : Bool := false      -- R320: both copies of a page are lost, as if FENCE_IN were asserted
  chs    : AMap DramCh
  walk   : Option DramWalk
  scrub  : AMap Nat           -- channel to the lines read in the patrol pass in progress (R321)
  quietUntil : Nat            -- R320: flow records were dropped
  deriving DecidableEq, Repr

/-! ### Cellar flash (R334–R365) -/

/-- Block states of R347, as CEL_L_BLK.STATE codes them. -/
inductive BlkState where
  | erased | opened | full | released | vault | retired | bad
  deriving DecidableEq, Repr

/-- A block (R338, R347, R359). -/
structure Blk where
  state : BlkState
  slc   : Bool
  wp    : Nat
  erases : Nat
  sb    : Nat                 -- its superblock; 0: none
  member : Nat
  gen    : Nat                -- a VAULT block: 0 even generation, 1 odd, 2 probe block
  deriving DecidableEq, Repr

def Blk.blank : Blk := { state := .erased, slc := false, wp := 0, erases := 0, sb := 0, member := 0, gen := 0 }

/-- A superblock (R338, R343): members are the blocks that name it. -/
structure Super where
  oseq : Nat
  slc  : Bool
  rackAt : Nat                -- µs clock at which a rack last entered its open row (R341)
  deriving DecidableEq, Repr

/-- The header in the spare area of a programmed page (R342). -/
structure PageHead where
  oseq  : Nat
  kind  : Nat
  page  : Nat
  cask  : Nat
  index : Nat
  sb    : Nat
  deriving DecidableEq, Repr

/-- The native program or the erase that keeps a LUN busy (R352). -/
structure CelOp where
  erase : Bool
  key   : Nat                 -- the rack whose write-behind it serves; of an erase, the block
  endAt : Nat                 -- µs clock at which it is estimated to end
  count : Nat                 -- suspensions so far
  left  : Option Nat          -- suspended, with this many µs to go
  deriving DecidableEq, Repr

structure Cel where
  pop    : List NandVol       -- the volumes fitted
  used   : List (Nat × Nat)   -- channel and volume in use since the last format
  blocks : AMap Blk           -- (128 × channel + LUN) × 2^20 + block
  supers : AMap Super
  oseq   : Nat                -- next open sequence
  oseqResv : Nat              -- end of the highest block of open sequences recorded; class N (R343)
  ckpt   : AMap Nat           -- erase counters as last written to the cellar (R359)
  reloc  : List Nat           -- rack keys queued for relocation (R353, R354, R361)
  isoReloc : List Nat         -- those among them whose relocation follows an isolation (R361)
  hungAt : AMap Nat           -- 128 × channel + LUN to the µs clock of its last hang (R360)
  scanned : Nat               -- pages read in the scan pass in progress
  mseq   : Mseq               -- the sequence stores as loaded (R355)
  genGib : Nat                -- CEL_VAULT.GEN_GIB in force since the last format
  vaultBlks : Nat             -- blocks of each LUN that the vault took at the last format (R345, log 21)
  heads  : AMap PageHead := []   -- page header of a programmed page, by its CPTR (R342)
  busy   : AMap CelOp := []      -- 128 × channel + LUN to what keeps it busy (R352)
  deriving DecidableEq, Repr


/-! ### Cipher engine (R366–R389) -/

/-- A software key slot that is not EMPTY (R370), or a governing record of the slot table (R374). -/
structure KeySlot where
  pending : Bool              -- PENDING; false: LOADED
  persist : Bool
  len256  : Bool
  use     : Nat               -- USE as CPH_K_ATTR codes it
  key     : List Word         -- 16 words, word 0 first
  deriving DecidableEq, Repr

/-- The slot table in the key-wrap area of the embedded flash (R374); class N. -/
structure KeyArea where
  block : Nat                 -- the block in use, 1 or 2
  used  : Nat                 -- records in it
  at_   : AMap Nat            -- slot to its governing record in it
  counter : Nat               -- the next record counter
  deriving DecidableEq, Repr

structure Cph where
  slots  : AMap KeySlot       -- slots 16–4,095 that are not EMPTY
  table  : AMap KeySlot       -- the slot table: persistent slots; class N (R374)
  share  : Option Nat         -- the KEK share, by the draw that made it; class N (R373)
  hw0    : Bool               -- slot 0 is LOADED
  hw1    : Bool               -- slot 1 is LOADED
  keys   : Bool               -- SUP holds its key registers (R372)
  alarmAt : Option Nat        -- µs clock of the E alarm whose restoration runs
  wait   : List (Nat × Nat × Nat)   -- CIPHER descriptors that wait for a slot (R370, R381)
  quiet  : AMap Nat           -- E alarm source to the µs clock at which it last acted (R379)
  vbatLatch : Nat             -- LATCH bits set while only VBAT was present and not yet acted on (R385)
  erased : Bool               -- R383 step 4 has completed since the last T alarm
  area   : KeyArea := { block := 1, used := 0, at_ := [], counter := 0 }
  deriving DecidableEq, Repr

/-! ### Power supervisor, power states and resets (R390–R442) -/

/-- Supervisor states (R393). -/
inductive SupState where
  | init | off | holdoff | powerUp | on | flush | powerDown | lowPower | lockout
  deriving DecidableEq, Repr

/-- SUP_R_MEAS.STATE of a used slot. -/
inductive RailState where
  | off | rising | inReg | falling | fault
  deriving DecidableEq, Repr

/-- A rail slot (R392). -/
structure Rail where
  state : RailState
  en    : Bool
  pg    : Bool
  dis   : Bool
  mv    : Nat                 -- latest sense reading
  disAt : Nat                 -- µs clock at which its discharge output was asserted
  dnTmo : Bool                -- it was not below OFF DN_TMO_MS after its step began (R403)
  handled : Bool              -- R403 has dealt with it in this power-down
  deriving DecidableEq, Repr

def Rail.blank : Rail :=
  { state := .off, en := false, pg := false, dis := false, mv := 0, disAt := 0, dnTmo := false, handled := false }

/-- Where POWER_UP stands (R397). -/
inductive UpPhase where
  | prestart | rising | delay | clocks
  deriving DecidableEq, Repr

/-- A first-fault capsule (R412, R413). -/
structure Capsule where
  done    : Bool              -- header STATE 0x02
  lost    : Bool              -- the capture lost power (R412)
  trig    : Nat
  slot    : Nat
  supState : Nat
  attempt : Nat
  opsec   : Nat
  cycles  : Nat
  rtc     : Nat
  evtSeq  : Nat
  hvin    : Nat
  hu      : Nat
  vbat    : Nat
  phase   : Nat
  rails   : List (List Nat)   -- for each slot: reading, STATE, flags, UV, OV, OFF
  draw    : Nat               -- the free bytes of the traces, which the model does not sample
  events  : List EventRec
  regs    : List Word
  deriving DecidableEq, Repr

/-- A compiled profile image as far as it is valid (R459, R460). -/
structure Profile where
  valid  : Bool
  test   : Bool
  regs   : AMap Word          -- the register values it gives, by register key
  subsys : Option (Nat × Nat) -- PCI subsystem vendor ID and subsystem ID
  rates  : List Nat           -- DRAM frequency points; the first is the selected rate
  mseq   : Option Mseq
  unknown : Nat               -- sections of unknown TYPE
  deriving DecidableEq, Repr

def Profile.blank : Profile :=
  { valid := false, test := false, regs := [], subsys := none, rates := [], mseq := none, unknown := 0 }

/-- A warm reset in progress (R155, R439). -/
structure WarmReset where
  cause   : Nat
  core    : Nat
  startAt : Nat
  quiesced : Bool             -- the quiesce of R155 has ended
  held    : Bool              -- at its end, waiting for RESET_N and MRST_N (R407)
  overran : Bool              -- bottling runs in place of the rest of the quiesce
  deriving DecidableEq, Repr

structure Sup where
  supOn  : Bool               -- SUP's regulator runs (R390)
  state  : SupState
  step   : Nat
  phase  : UpPhase
  stepAt : Nat                -- µs clock at which the step, or the discharge of the pre-start check, began
  endIn  : SupState           -- where POWER_DOWN ends (R404)
  dnKeep : Bool               -- POWER_DOWN leaves the slots with KEEP_DP = 1 on (R425)
  cold   : Bool               -- this power-up is a cold start (R394)
  onAt   : Nat
  upAt   : Nat                -- µs clock since which the supervisor is in ON or LOW_POWER without a break (R399, R456)
  offAt  : Nat                -- µs clock at which the last rail went off
  rails  : AMap Rail
  plls   : List Nat           -- PLLs locked: 0 HUB, 1 EDGE, 2 PCIe, 3 Trellis, 4 Ethernet, 5 Vaelaune
  hvin   : Nat                -- 10 mV
  vbat   : Nat                -- mV
  hu     : Nat                -- HU_SENSE, 10 mV
  flushAt : Nat
  flushing : Bool             -- step 3 of R405 or step 2 of R425 has begun
  cur    : Nat                -- SUP_PWR_STATUS.CUR
  target : Nat                -- MODE of the entry or exit in progress; 0 none
  nullSealed : Bool           -- the null seal of a Diapause entry has been written (R426)
  dpExit : Bool               -- POWER_UP is a Diapause exit
  joinBack : Bool             -- the unit was STANDBY or RESYNC at the request (R428)
  resetWake : Bool            -- RESET_N or MRST_N woke the device from Diapause (R440)
  pressOff : Bool             -- a long press was recognised in Diapause; it acts once in ON (R406)
  saved  : AMap Word          -- the save list (R435)
  scWait : List (Nat × Nat × Nat × Word × Nat) := []   -- actions of SC's registers that wait until SC resumes: agent, offset, instance, value, ECC (R540)
  latched : Option (Nat × Nat) -- a warm reset latched under R407: cause and core
  rstN   : Bool               -- RESET_N is asserted
  mrstN  : Bool               -- MRST_N is asserted
  warm   : Option WarmReset
  profile : Nat               -- active profile
  profNext : Option Nat       -- named by PROFILE_SELECT
  wdtAt  : AMap Nat           -- core to the µs clock of its stage-1 restart
  coresDown : List Nat        -- cores that rebuild their state: 0–7 MC0–MC7, 8 SC
  gated  : List Nat           -- engines gated in Perch (R419)
  running : Profile := Profile.blank  -- the active profile's values in force (R461)
  btn    : Bool := false      -- PWRBTN_N as the latest press left it (SUP_BTN.BTN)
  recFails : List Nat         -- µs clocks of failed PMBus recoveries
  avsMv  : Nat                -- output voltage of the AVS slot, µV
  avsTarget : Nat             -- its target, mV
  avsAt  : Nat                -- µs clock of its last step
  capsule : Option Capsule
  pfLow  : Bool               -- PF_SHARE reads low
  pfLowAt : Nat
  refAt  : AMap Nat           -- 1 REFCLK100, 2 the 156.25 MHz reference: to the µs clock at which this power-up enabled it (R27)
  stuck  : Bool := false      -- SC stays in INIT until the next cold start (R520, R523)
  rtcFrac : Nat               -- the part of a 32.768 kHz period that has passed, in units of 10⁻⁶ of one (R25)
  deriving DecidableEq, Repr


/-! ### Embedded flash, firmware and profiles (R445–R461) -/

/-- The plan record of R482. -/
structure PlanRec where
  mv     : Nat
  levels : List Nat           -- of channels 0–23
  scales : List Nat
  seq    : Nat
  deriving DecidableEq, Repr

/-- The governing records of a profile's learned area (R460, R482). -/
structure Learned where
  dimms  : Option (List Dimm) -- TYPE 0x0081
  trained : List (Nat × Nat × Nat)  -- TYPE 0x0082: DIMM serial number, frequency point, and the first draw of its values (R325)
  repairs : AMap (List DramRow) -- TYPE 0x0083: channel to its repair list
  vols   : Option (List NandVol) -- TYPE 0x0084
  plan   : Option PlanRec     -- TYPE 0x0085
  deriving DecidableEq, Repr

def Learned.blank : Learned := { dimms := none, trained := [], repairs := [], vols := none, plan := none }

/-- An FW_BEGIN that erases (R454): the blocks still to erase, the first of which is being erased. -/
structure FwJob where
  fn     : Nat
  seq    : Nat                -- the descriptor of queue 0 that it completes
  left   : List Nat
  at_    : Nat                -- µs clock at which the erase of the first began
  deriving DecidableEq, Repr

/-- The learned area of a profile as it is written (R459, R460): the records that govern, and how far the block in use is filled. -/
structure LearnArea where
  block  : Nat                -- the block in use: 0 block 2, 1 block 3 of the profile
  used   : Nat                -- its units that are written
  recs   : List ((Nat × Nat × Nat) × Nat)  -- type and key of each governing record, and its length in units
  deriving DecidableEq, Repr

def LearnArea.blank : LearnArea := { block := 0, used := 0, recs := [] }

structure Fws where
  units  : AMap (List Byte)   -- programmed units of 32 B, by flash address / 32; an unlisted unit reads 0xFF; class N
  erases : AMap Nat           -- block to its erase counter; class N
  learned : AMap Learned      -- profile number to its learned area; class N
  run    : Nat                -- FWS_BOOT.RUN: 0 slot A, 1 slot B, 2 recovery
  trial  : Bool
  goodAt : Nat                -- µs clock at which the count of R456 last restarted
  begun  : Bool               -- an FW_BEGIN has completed since the last SC start (R458)
  job    : Option FwJob       -- the FW_BEGIN in progress
  areas  : AMap LearnArea := []  -- profile number to its learned area as written; class N
  recCtr : Nat := 0           -- the record counter of the learned areas, which never repeats (R460); class N
  deriving DecidableEq, Repr


/-! ### Ageing (R472–R485) -/

/-- What is known of the reads of a LUN and erase-count bin since the last re-plan (R479). -/
structure NandStat where
  words  : Nat                -- codewords
  bits   : Nat                -- corrected bits
  step2  : Nat                -- codewords that needed step 2 of R353
  hits   : AMap Nat           -- retry entry to the times it succeeded
  deriving DecidableEq, Repr

structure Age where
  planAt : Nat                -- µs clock at which the last re-plan started (R473)
  falls  : Nat                -- re-plans in a row that called for a fall of T (R475)
  canary : Nat                -- latest canary failure voltage in mV
  eyes   : AMap (Nat × Nat)   -- channel to its worst eye width and height, as last probed (R472)
  passCe : AMap Nat           -- channel to its corrected errors in the latest scrub pass (R478)
  ceMark : AMap Nat           -- channel to its count of corrected errors when the pass began
  ceAll  : AMap Nat           -- channel to its corrected errors since the cold start
  calmAt : AMap Nat           -- channel to the µs clock since which every pass was below CE_THR / 4
  nand   : AMap NandStat      -- 8 × (128 × channel + LUN) + bin
  offsets : AMap Nat          -- the offset table in force, where it differs from the profile's; same key
  ckpt   : AMap Nat           -- its checkpoint in the cellar; class N (R482)
  fastAt : Option Nat         -- µs clock of the last fast raise (R476)
  setC   : Option (Nat × Nat) -- operating seconds and C of the newest measurement set (R474)
  early  : Option Nat         -- µs clock to which the next measurement set has been brought forward
  swLevels : List (Nat × Nat) -- levels that the switch in progress brings in: channel and level (R480)
  changed : Option Nat        -- the re-plan that runs: a bit per output changed, in the order of R480
  portPs : Nat := 0           -- worst PORT slack in ps, as the latest sample reports it (R472; free)
  tj     : Nat := 0           -- junction temperature recorded with that sample, in °C (R472; free)
  deriving DecidableEq, Repr

/-! ### Trellis cascade (R486–R502) -/

/-- A frame sent and not yet acknowledged (R490). -/
structure TrlFrame where
  dest : Nat
  pseq : Nat
  kind : String
  args : List Nat
  recs : List WireRec
  bytes : List Byte
  deriving DecidableEq, Repr

/-- What this device knows of another device of the cascade. -/
structure TrlDev where
  seen   : Bool               -- an agreeing HELLO has arrived (R488)
  lost   : Bool
  lastAt : Nat                -- µs clock of its latest frame
  rxSeq  : Nat                -- highest PSEQ delivered from it
  txSeq  : Nat                -- highest PSEQ sent to it
  unacked : List TrlFrame     -- oldest first
  markN  : Nat                -- highest MARK received from it
  sealedN : Nat               -- from its SEALED frames
  ackedN : Nat
  commitN : Nat
  dirty  : Nat
  cMf    : Nat
  esr    : Nat
  budget : Option Budget
  statusAt : Nat
  synced : Bool               -- it has reported its resync complete (R497)
  cap    : Nat                -- its own capacity in racks, from its HELLO (R492, log 19)
  report : Option (Nat × List (Nat × Bool))   -- its H and its pending list, with REL (R501)
  deriving DecidableEq, Repr

/-- A Trellis port. -/
structure TrlPort where
  up     : Bool
  peer   : Nat
  lastAt : Nat
  held   : Bool               -- held down by a HELLO that disagreed
  txLseq : Nat := 0           -- LSEQ of the next frame sent (R176, R489)
  deriving DecidableEq, Repr

structure Trl where
  id     : Nat                -- CASCADE_ID as sampled
  late   : Bool               -- FORM_S has passed before the device formed (R488)
  mode   : Nat                -- MODE, N and STRIPE_LOG2 in effect
  n      : Nat
  stripe : Nat
  formed : Bool
  startAt : Nat
  ports  : AMap TrlPort
  devs   : AMap TrlDev
  bcSeq  : Nat
  bcRx   : AMap Nat           -- broadcast PSEQ delivered, by SRC
  timeOff : Nat               -- cascade time less the device's own, ns, modulo 2^64
  vclk   : Nat                -- highest VCLK closed
  closing : AMap (List VRecord) -- cascade vintages closed and not yet sealed here, with this device's part (R494)
  asked  : Bool               -- an early boundary has been asked for
  wait   : List (Nat × VRecord) -- completions of writes whose parts lie elsewhere, by vintage
  bcSent : List (TrlFrame × List Nat) -- broadcasts, with the devices that have not sent an ACK since
  sealedN : Nat               -- highest cascade vintage sealed here
  commitN : Nat               -- highest COMMIT received
  applyM : Nat                -- apply bound of the latest COMMIT
  homes  : AMap Nat           -- home directory: cask to device (R493)
  tag    : Nat
  reads  : AMap ReadReq       -- tag to the part of a read asked of another device
  atoms  : AMap (Nat × Token) -- tag to an atomic evaluated by another device
  ask    : Option (Nat × Option (Nat × Nat))  -- a request of R421 put to the members: its mode, and the PWR_ENTER (function, number) that made it
  askFrom : List Nat          -- members whose answer it awaits (R502)
  deriving DecidableEq, Repr

/-- The device: everything but the queue of waiting commands. -/
structure Device where
  regs    : AMap Word         -- registers, by `rkey`; an unlisted one holds its Reset value
  latches : AMap Word         -- latched _HI words (R64), by agent and offset
  mem     : List Host.Cell    -- DRAM frames and cellar locations, by `dramKey` and `cellKey`
  now     : Nat               -- µs since the first power of the model's run
  usecBase : Nat              -- clock at which GEN_USEC was 0 (R551)
  freeCtr : Nat               -- the model's own: free values drawn so far
  out     : List Out          -- the model's own: what the device has driven, newest first
  i3cPtr  : Nat               -- the address pointer (R542)
  i3cForm : Nat               -- 0 not yet recognised, 1 SMBus, 2 I3C (R541)
  i3cIbi  : Bool              -- in-band interrupts enabled by the controller (R544)
  hubOn   : Bool              -- HUB is powered and released
  evr     : Evr
  hrg     : Hrg
  pst     : Pst
  csk     : Csk
  hold    : Hold
  adm     : Adm
  rst     : Rst
  mir     : Mir
  qmg     : Qmg
  sup     : Sup
  profiles : AMap Profile      -- profile number to its image in the embedded flash
  cph     : Cph
  fws     : Fws
  age     : Age
  trl     : Trl
  net     : Net
  pdt     : Pdt
  drm     : Drm
  cel     : Cel
  deriving DecidableEq, Repr

/-- The state: the device, and the queue of the commands that wait, first in, first out. -/
structure State where
  dev     : Device
  pending : List Instr
  deriving DecidableEq, Repr

/-- Why a step faults. `absoluteMaximum`: raised by HVIN_UVLO and the HVIN readings of the input commands when the
reading lies above the 80 V absolute maximum rating of R524, which the manual says can damage the device and for
which it gives no effect; safe, since the machine stops. -/
inductive Fault where
  | absoluteMaximum
  deriving DecidableEq, Repr

/-- Why a step is refused. `notModelled`: raised by an arm of `exec` that has no meaning yet; safe. -/
inductive Refusal where
  | notModelled (mnemonic : String)
  deriving DecidableEq, Repr

/-! ### Reset -/

/-- A vault generation that is ERASED and holds nothing; its blocks are counted at the first format. -/
def VaultGen.empty : VaultGen := { state := .erased, erased := 0, racks := [], spine := none, copyA := false, copyB := false }

/-- The device right after SUP's regulator first starts (R390, R393): SUP in INIT and the supply in WARN, every rail off and HUB not
released, every register at its Reset value, DRAM, cellar, journal, ring and archive empty, no profile stored. What the manual gives no
value for is the model's: the population of Appliance A, and a GOOD image of release 2.4 in slot A, which SC runs (logs 1 and 29). -/
def Device.reset : Device :=
  { regs := [], latches := [], mem := [], now := 0, usecBase := 0, freeCtr := 0, out := [], i3cPtr := 0, i3cForm := 0, i3cIbi := false, hubOn := false
    evr := { fifo := [], ring := [], last := none, archive := [], todo := [] }
    hrg := { links := [], bifur := [0, 0, 0, 0], sqs := [], cqs := [], resets := [], msix := [], msixPend := [], rrSq := [], rrFn := 0 }
    pst := { openRecs := [], openAt := 0, openPeriod := 4, openMax := 4194304, nextNum := 0, numValid := false, resv := 0, sealedNum := 0, commitNum := 0,
             appliedNum := 0, vints := [], rx := none, placeWait := [], reads := [], fences := [], outcomes := [], sealAt := 0, sealDue := none }
    csk := { casks := [], grants := [], fresh := 0, freed := [], racks := [], streams := [], jobs := [], capRacks := 0, frames := 0, nextFrame := 0,
             freeFrames := [], poison := [], wbJobs := [], closedStreams := [] }
    hold := { supply := .warn, inputBad := false, inputGood := false, goodAt := 0, dwellAt := 0, stopAdm := false, pfDrive := false, bottle := none, phase := 0,
              waitIn := false, bseq := 0, journal := [], genE := VaultGen.empty, genO := VaultGen.empty, lastGen := 1, home := none, coldSet := true,
              setStart := false, testAt := none, probing := false, lastSetAt := 0, planL := none, planPrev := none, replan := false, bwMeas := 0 }
    adm := { state := .stopped, credit := 0, held := [], pend := 0, metaDirty := [], cleared := [], guard := false }
    rst := { phase := 1, source := 0, srcGen := 0, older := false, alone := false, wavePri := 15, svcOpen := false, noImage := false, image := none, pend := [],
             twinH := none, resolved := false, told := [], toldAt := 0, awaits := [], vR := 0, startAt := 0, openAt := 0, linkUpAt := 0, fillLeft := [], wave0 := false,
             fillPaused := false, cleared := false }
    mir := { role := .detached, twinRole := none, twinUnit := none, twinPref := none, twinHb := false, twinEpoch := 0, twinOther := false, twinNoImage := false,
             absent := false, attached := false, soloPend := false, stale := false, fenceCause := 0, epoch := 0, serving := false, firstAt := 0,
             unitConflict := false, deadline := none, leaseStart := 0, lastResult := 255, renewAt := 0, seq := 0, waitArb := [], promoteAt := none,
             notices := 0, fencedAt := 0, fenceIn := false, rolePins := 0, svcOk := false, pinsDue := none, pinsOnCommit := none, linkUp := false,
             lanes := 0, width := 0, widenAt := none, linkDownAt := 0, lastGoodAt := 0, txLseq := 0, rxLseq := 0, rxSkip := false, rxWant := none, retests := [],
             statusAt := 0, lastShipped := 0, sentSizes := [], blockArg0 := 0, budget := none, budgetAt := 0, vnaks := [], lastWhole := 0, ackedNum := 0,
             chainOpen := false, twinHeld := 0, learned := 0, absence := [], absCasks := [], absGrants := [], epochs := [], marking := false, markBelow := none,
             joinPrev0 := false, syncLast := none, joinReq := false, hbArmedAt := none, hbProposed := none, hbHolder := 0, hbVF := 0, step10 := [],
             pfetch := [], pfTag := 0 }
    qmg := { queues := [], reclaims := [], xbar := [] }
    sup := { supOn := true, state := .init, step := 0, phase := .prestart, stepAt := 0, endIn := .off, dnKeep := false, cold := true, onAt := 0, upAt := 0,
             offAt := 0, rails := [], plls := [], hvin := 0, vbat := 0, hu := 0, flushAt := 0, flushing := false, cur := 0, target := 0, nullSealed := false,
             dpExit := false, joinBack := false, resetWake := false, pressOff := false, saved := [], latched := none, rstN := false, mrstN := false,
             warm := none, profile := 0, profNext := none, wdtAt := [], coresDown := [], gated := [], recFails := [], avsMv := 0, avsTarget := 0, avsAt := 0,
             capsule := none, pfLow := false, pfLowAt := 0, refAt := [], rtcFrac := 0 }
    profiles := []
    cph := { slots := [], table := [], share := none, hw0 := false, hw1 := false, keys := false, alarmAt := none, wait := [], quiet := [],
             vbatLatch := 0, erased := false }
    fws := { units := [(0, [0x49, 0x54, 0x4D, 0x4C, 1, 0, 0, 0, 4, 2, 0, 0] ++ List.replicate 20 0), (16, List.replicate 32 0xA5), (18, List.replicate 32 0xA5),
                       (20, [1, 0, 0, 0] ++ List.replicate 28 0xA5)]
             erases := [], learned := [], run := 0, trial := false, goodAt := 0, begun := false, job := none }
    age := { planAt := 0, falls := 0, canary := 0, eyes := [], passCe := [], ceMark := [], ceAll := [], calmAt := [], nand := [], offsets := [], ckpt := [], fastAt := none,
             setC := none, early := none, swLevels := [], changed := none }
    trl := { id := 0, late := false, mode := 0, n := 0, stripe := 4, formed := false, startAt := 0, ports := [], devs := [], bcSeq := 0, bcRx := [],
             timeOff := 0, vclk := 0, closing := [], asked := false, wait := [], bcSent := [], sealedN := 0, commitN := 0, applyM := 0, homes := [], tag := 0,
             reads := [], atoms := [], ask := none, askFrom := [] }
    net := { qps := [], qpInc := [], cache := [], paused := [], pausedAt := [], storm := [], xoff := [], egress := [], marks := [], mc6 := [] }
    pdt := { port := 47801, on := true, complMs := 200, eps := [], epInc := [], rx := [], tx := [], cnt := [] }
    drm := { dimms := (List.range 24).map (fun c => { ch := c, slot := 0, serial := c + 1, kind := 1, ranks := 2, gib := 256, bin := 2, ok := true, trains := true,
                                                      spares := 8, rfm := false, raaInit := 64, raaMax := 384 })
             chans := [], total := 0, retired := [], short := false, chs := [], walk := none, scrub := [], quietUntil := 0 }
    cel := { pop := (List.range 512).map (fun i => { ch := i / 8, vol := i % 8, luns := 8, same := true, maker := 1, rate := 2, pages := 2048, slcPages := 512,
                                                     blocks := 8192, planes := 4, gib := 256 })
             used := [], blocks := [], supers := [], oseq := 0, oseqResv := 0, ckpt := [], reloc := [], isoReloc := [], hungAt := [], scanned := 0,
             mseq := { steps := [], dir := [], retry := [], offset := [], version := 0, crcOk := false, rate := 0 }, genGib := 512, vaultBlks := 0 } }

/-- The machine right after reset: the device at its reset, and no command waiting. -/
def State.reset : State := { dev := Device.reset, pending := [] }

end Sys2Proof.Machine
end

