-- ==== Sys2Proof/Machine/Ops.lean ====
section
/-! DEFINITION. The named operations over the register file, the clock, the outputs and the event input queue
(R462–R466); `State.run`, through which every meaning acts on the device and leaves the queue alone. -/

namespace Sys2Proof.Machine

/-- The key of instance `inst` of the register at BAR0 offset `off`. -/
def rkey (inst off : Nat) : Nat := off + 67108864 * inst

/-- The register table's row for a BAR0 offset. CEL_L_RAW_BUF is one row for the words of its range. -/
def regSpec? (off : Nat) : Option RegSpec :=
  if 0x84000 ≤ off ∧ off < 0x88000 then (blockRegs 8).find? (fun r => r.off == 0x4000)
  else (blockRegs (off / 65536)).find? (fun r => r.off == off % 65536)

/-- The Reset value of a register's fields (R14, R545). -/
def specReset (r : RegSpec) : Word :=
  r.fields.foldl (fun w f => bitsSet w f.hi f.lo f.reset) 0

/-- What an unlisted register holds: its Reset value; ADMIN of function 0 resets to 1 (HRG_FN_CFG). -/
def regDflt (k : Nat) : Word :=
  if k = Reg.HRG_FN_CFG then 0x80001010
  else match regSpec? (k % 67108864) with
    | some r => specReset r
    | none => 0

/-- A command's effect on the device: the queue of waiting commands stays as it is. -/
def State.run (s : State) (f : Device → Device) : Host.Outcome State Fault Refusal := .next { s with dev := f s.dev }

namespace Device

/-- The value held by a register. -/
def reg (d : Device) (off : Nat) (inst : Nat := 0) : Word := AMap.getD regDflt d.regs (rkey inst off)

/-- Put a value into a register, whatever its access codes. -/
def setReg (d : Device) (off : Nat) (v : Word) (inst : Nat := 0) : Device :=
  { d with regs := AMap.setD regDflt d.regs (rkey inst off) v }

/-- The value of a field. -/
def fld (d : Device) (f : Fld) (inst : Nat := 0) : Nat := bitsGet (d.reg f.reg inst) f.hi f.lo

/-- Whether a one-bit field is 1. -/
def flag (d : Device) (f : Fld) (inst : Nat := 0) : Bool := d.fld f inst == 1

/-- Put a value into a field. -/
def setFld (d : Device) (f : Fld) (v : Nat) (inst : Nat := 0) : Device :=
  d.setReg f.reg (bitsSet (d.reg f.reg inst) f.hi f.lo v) inst

/-- Raise a counter field by `n`, wrapping in its width. -/
def bump (d : Device) (f : Fld) (n : Nat := 1) (inst : Nat := 0) : Device := d.setFld f (d.fld f inst + n) inst

/-- Raise a counter field by `n`, saturating at its greatest value. -/
def bumpSat (d : Device) (f : Fld) (n : Nat := 1) (inst : Nat := 0) : Device :=
  d.setFld f (min (d.fld f inst + n) (2 ^ (f.hi + 1 - f.lo) - 1)) inst

/-- The 64-bit value of a _LO and _HI pair (R64), by the offset of its _LO word. -/
def pair (d : Device) (lo : Nat) (inst : Nat := 0) : Nat :=
  (d.reg lo inst).toNat + 4294967296 * (d.reg (lo + 4) inst).toNat

def setPair (d : Device) (lo v : Nat) (inst : Nat := 0) : Device :=
  (d.setReg lo (BitVec.ofNat 32 v) inst).setReg (lo + 4) (BitVec.ofNat 32 (v / 4294967296)) inst

/-- Raise a 64-bit counter, which wraps at 2^64. -/
def bumpPair (d : Device) (lo : Nat) (n : Nat := 1) (inst : Nat := 0) : Device :=
  d.setPair lo (d.pair lo inst + n) inst

/-- Whether a core runs: 0–7 MC0–MC7, 8 SC. While it rebuilds its state, its duties wait (R20, R23, R436). -/
def coreUp (d : Device) (core : Nat) : Bool := !d.sup.coresDown.contains core

/-- A request reaches the engines (R418, R419): those that were gated run again, and CUR leaves PERCH. Which engine a request reaches is not
stated, so each request wakes them all (DESIGN CHOICE, log 67). -/
def unperch (d : Device) : Device := { d with sup := { d.sup with gated := [], cur := if d.sup.cur = 1 then 0 else d.sup.cur } }

/-- MC0–MC7 are halted and clock-gated, or run again from their saved state (R122 step 5, R128, R425 step 4, R428). -/
def haltCores (d : Device) : Device :=
  { d with sup := { d.sup with coresDown := List.range 8 ++ d.sup.coresDown.filter (fun c => decide (8 ≤ c)) } }
def startCores (d : Device) : Device := { d with sup := { d.sup with coresDown := d.sup.coresDown.filter (fun c => decide (8 ≤ c)) } }

/-- Whether PORT takes no requests: from the latch of bottling on, and from the trigger of a warm reset to its logic reset (R122, R155). -/
def portStopped (d : Device) : Bool := d.hold.bottle.isSome || d.sup.warm.isSome

/-- Drive an output. -/
def emit (d : Device) (o : Out) : Device := { d with out := o :: d.out }

/-- Draw a free value (assumption log 2): the value, and the device with the draw counted. -/
def draw (d : Device) : Nat × Device := (Config.freeValue d.freeCtr, { d with freeCtr := d.freeCtr + 1 })

/-- GEN_USEC (R551). -/
def usec (d : Device) : Nat := (d.now - d.usecBase) % 4294967296

/-- The 32.768 kHz clock runs for `n` microseconds (R25, R434): `rtcFrac` is the part of a period that has passed, in units of 10⁻⁶ of
one, so that no time is lost between moves of the clock. -/
def rtcRun (d : Device) (n : Nat) : Device :=
  let t := d.sup.rtcFrac + n * 32768
  let sub := d.fld Fld.SUP_RTC_SUB_SUB + t / 1000000
  let d := (d.setFld Fld.SUP_RTC_SUB_SUB (sub % 32768)).bump Fld.SUP_RTC_SEC_SEC (sub / 32768)
  { d with sup := { d.sup with rtcFrac := t % 1000000 } }

/-- Offer a record to the event input queue (R466): below MIN_SEV it is discarded; a full queue loses it. -/
def event (d : Device) (e : EventIn) : Device :=
  if e.sev < d.fld Fld.EVR_CTRL_MIN_SEV then d
  else if 64 ≤ d.evr.fifo.length then d.bumpSat Fld.EVR_FIFO_LOST_VALUE
  else { d with evr := { d.evr with fifo := d.evr.fifo ++ [e] } }

/-- An event whose CODE and DATA the manual leaves to the running image's event-code table (R464): the code is the
table's entry for the rule that records it. -/
def eventR (d : Device) (sev src rule : Nat) : Device :=
  d.event { sev := sev, host := false, src := src, code := Config.eventCode rule, data := Config.eventData rule }

/-- The event of a register write that was ignored (R464, code 0x0001). -/
def eventIgnored (d : Device) (off : Nat) (v : Word) (agent : Nat) (sev : Nat := 3) : Device :=
  d.event { sev := sev, host := false, src := off / 65536, code := 1,
            data := leBytes 4 off ++ leBytes 4 v.toNat ++ leBytes 2 agent ++ List.replicate 6 0 }

/-- The device with `f` applied when the condition holds. -/
def when (d : Device) (c : Bool) (f : Device → Device) : Device := if c then f d else d

/-- Drive a pin. -/
def pin (d : Device) (name : String) (level : Nat) : Device := d.emit (.pin name level)

end Device
end Sys2Proof.Machine
end

