-- ==== Sys2Proof/Machine/Flags.lean ====
section
/-! DEFINITION. Interrupt and status flags: the functions that exist, MSI-X (R200), and a bit of an INT_STATUS
register becoming 1 (R553). -/

namespace Sys2Proof.Machine
namespace Device

/-- Whether a function exists (R197). -/
def fnExists (d : Device) (fn : Nat) : Bool :=
  match d.hrg.links.find? (fn / 64) with
  | some l => l.up && (fn % 64 == 0 || (l.vfEn && decide (fn % 64 ≤ l.numVfs)))
  | none => false

/-- The admin-capable PFs (R199): those of the links that are up whose ADMIN is 1. -/
def adminPfs (d : Device) : List Nat :=
  ((d.hrg.links.filter (fun p => p.2.up)).map (fun p => 64 * p.1)).filter (fun fn => d.flag Fld.HRG_FN_CFG_ADMIN fn)

def isAdmin (d : Device) (fn : Nat) : Bool := d.adminPfs.contains fn

/-- Whether a per-function reset has stopped the function's traffic (R219 step 2). -/
def fnStopped (d : Device) (fn : Nat) : Bool := d.hrg.resets.has fn

/-- The MSI-X table entry of a vector (R198). -/
def msixEntry (d : Device) (fn vec : Nat) : MsixEntry := AMap.getD (fun _ => MsixEntry.blank) d.hrg.msix (512 * fn + vec)

/-- Send an MSI-X vector (R200): a masked vector sets its pending bit; a function in reset sends none (R219). -/
def msix (d : Device) (fn vec : Nat) : Device :=
  if d.fnStopped fn then d
  else if (d.msixEntry fn vec).masked then
    { d with hrg := { d.hrg with msixPend := insertNat (512 * fn + vec) d.hrg.msixPend } }
  else d.emit (.msix fn vec)

/-- Change an entry of the MSI-X table: a vector that is unmasked while its pending bit is set is sent (R200). -/
def setMsix (d : Device) (fn vec : Nat) (e : MsixEntry) : Device :=
  let k := 512 * fn + vec
  let d : Device := { d with hrg := { d.hrg with msix := AMap.setD (fun _ => MsixEntry.blank) d.hrg.msix k e } }
  if !e.masked && d.hrg.msixPend.contains k then
    { d with hrg := { d.hrg with msixPend := d.hrg.msixPend.filter (fun x => decide (x ≠ k)) } }.msix fn vec
  else d

/-- Raise a block's interrupt of one admin-capable PF (R200). -/
def raiseFor (blk : Nat) (d : Device) (fn : Nat) : Device :=
  let w := d.reg Reg.HRG_FN_EVT_CAUSE fn
  if bitAt w blk then d
  else
    let d := d.setReg Reg.HRG_FN_EVT_CAUSE (bitsSet w blk blk 1) fn
    if d.flag Fld.HRG_FN_EVT_EN fn then d.msix fn (d.fld Fld.HRG_FN_EVT_VEC fn) else d

/-- Raise a block's interrupt of each admin-capable function (R200). While HUB is unpowered nothing is raised (R471). -/
def raiseBlk (d : Device) (blk : Nat) : Device :=
  if d.hubOn then d.adminPfs.foldl (raiseFor blk) d else d

/-- Whether MGT_ALERT_N is asserted (R544). -/
def alertOn (d : Device) : Bool :=
  Nat.land (d.reg Reg.SUP_SEQ_INT_STATUS).toNat (d.reg Reg.SUP_SEQ_INT_ENABLE).toNat != 0
    || Nat.land (d.reg Reg.SUP_PWR_INT_STATUS).toNat (d.reg Reg.SUP_PWR_INT_ENABLE).toNat != 0

/-- Drive MGT_ALERT_N when it changes; in I3C form with in-band interrupts enabled, an interrupt with mandatory byte 0x00 is sent in its
place (R541, R544). -/
def noteAlert (was : Bool) (d : Device) : Device :=
  if d.alertOn == was then d
  else if d.i3cForm == 2 && d.i3cIbi then (if was then d else d.emit (.i3cIbi 0))
  else d.pin "MGT_ALERT_N" (b2n was)

/-- Set bit `n` of an INT_STATUS register without an event of R553; the interrupt follows the enable bit. -/
def raiseQuiet (d : Device) (reg n : Nat) : Device :=
  let w := d.reg reg
  if bitAt w n then d
  else
    let was := d.alertOn
    let d := d.setReg reg (bitsSet w n n 1)
    let d := if reg = Reg.SUP_SEQ_INT_STATUS ∨ reg = Reg.SUP_PWR_INT_STATUS then d.noteAlert was else d
    if bitAt (d.reg (reg + 4)) n then d.raiseBlk (reg / 65536) else d

/-- Bit `n` of an INT_STATUS register becomes 1 (R553): the event of code 0x0100 + n, and the interrupt when enabled.
A bit that is already 1 does nothing. Every INT_ENABLE register lies at its INT_STATUS register's offset plus 4. -/
def raise (d : Device) (reg n sev : Nat) : Device :=
  if bitAt (d.reg reg) n then d
  else
    let d := d.raiseQuiet reg n
    d.event { sev := sev, host := false, src := reg / 65536, code := 256 + n,
              data := leBytes 4 (d.reg reg).toNat ++ List.replicate 12 0 }

end Device
end Sys2Proof.Machine
end

