-- ==== Sys2Proof/Machine/Operands.lean ====
section
/-! DEFINITION. Descriptor fields (R208), the fields each opcode uses (R209, R210, R214, R216), and the packed forms
of cask entries, grant entries and rack entries (R71, R77, R81, R217). -/

namespace Sys2Proof.Machine

/-- Status codes (R212). -/
def stOk : Nat := 0x00
def stAborted : Nat := 0x01
def stInvalid : Nat := 0x02
def stRange : Nat := 0x03
def stProt : Nat := 0x04
def stStaleGen : Nat := 0x05
def stNotReady : Nat := 0x06
def stBudget : Nat := 0x07
def stFenced : Nat := 0x08
def stNoTwin : Nat := 0x09
def stPoison : Nat := 0x0A
def stHostErr : Nat := 0x0B
def stTimeout : Nat := 0x0C
def stRemote : Nat := 0x0D
def stAuthFail : Nat := 0x0E

/-- Word `i` of a descriptor. -/
def dwAt (dw : List Word) (i : Nat) : Word := dw.getD i 0

/-- Bits [hi:lo] of word `i`. -/
def dwF (dw : List Word) (i hi lo : Nat) : Nat := bitsGet (dwAt dw i) hi lo

/-- The 64-bit number in words `i` and `i+1`. -/
def dw64 (dw : List Word) (i : Nat) : Nat := (dwAt dw i).toNat + 4294967296 * (dwAt dw (i + 1)).toNat

def dOpcode (dw : List Word) : Nat := dwF dw 0 7 0
def dCid (dw : List Word) : Nat := dwF dw 0 31 16
def dQuiet (dw : List Word) : Bool := bitAt (dwAt dw 0) 15
def dAfter (dw : List Word) : Bool := bitAt (dwAt dw 0) 14
def dFlag (dw : List Word) (n : Nat) : Bool := bitAt (dwAt dw 0) n
def dCask (dw : List Word) : Nat := dwF dw 1 23 0
def dOffset (dw : List Word) : Nat := dw64 dw 2
def dLength (dw : List Word) : Nat := (dwAt dw 4).toNat
def dSgl (dw : List Word) : Bool := bitAt (dwAt dw 5) 31
def dCaskIo (dw : List Word) : Bool := bitAt (dwAt dw 5) 30
def dSglCnt (dw : List Word) : Nat := dwF dw 5 15 0
def dHaddr (dw : List Word) : Nat := dw64 dw 6

/-- The bits a group of fields occupies, as (word, mask) pairs. -/
def mCask : List (Nat × Nat) := [(1, 0xFFFFFF)]
def mOffset : List (Nat × Nat) := [(2, 0xFFFFFFFF), (3, 0xFFFFFFFF)]
def mLength : List (Nat × Nat) := [(4, 0xFFFFFFFF)]
def mHaddr : List (Nat × Nat) := [(5, 0x8000FFFF), (6, 0xFFFFFFFF), (7, 0xFFFFFFFF)]
def mCaskIo : List (Nat × Nat) := [(5, 0x40000000)]
def mWords (a b : Nat) : List (Nat × Nat) := (List.range (b + 1 - a)).map (fun i => (a + i, 0xFFFFFFFF))

/-- The fields of a cask entry in CASK_CREATE and CASK_MODIFY (R71, R217): DW0, DW1, SIZE_RACKS and TAG. -/
def mEntry : List (Nat × Nat) := [(8, 0x8FFF03FF), (9, 0xFFFFFFFF), (10, 0xFFFFFFFF), (11, 0xF), (12, 0xFFFFFFFF), (13, 0xFFFFFFFF)]

/-- The fields of a grant entry in GRANT_ISSUE (R81, R217). -/
def mGrant : List (Nat × Nat) :=
  [(8, 0xFFFFFFFF), (9, 0xFFFFFF), (10, 0xFFF), (11, 0xFFFFFF), (12, 0xFFFFFFFF), (13, 0xFFFFF), (14, 0xFFFFFFFF), (15, 0xFFFFF)]

/-- The bits an opcode uses besides CID, QUIET, AFTER and OPCODE (R210, R214, R216 and the command tables of R261,
R300, R415, R442 and R468); none: the opcode is not listed. -/
def opUsed : Nat → Option (List (Nat × Nat))
  | 0x00 => some []
  | 0x01 => some (mCask ++ mOffset ++ mLength ++ mHaddr)
  | 0x02 => some (mCask ++ mOffset ++ mLength ++ mHaddr)
  | 0x03 => some (mCask ++ mOffset ++ mLength)
  | 0x04 => some (mCask ++ mOffset ++ mWords 8 11)
  | 0x05 => some (mCask ++ mOffset ++ mWords 8 15)
  | 0x06 => some (mCask ++ mOffset ++ mWords 8 9)
  | 0x07 => some [(0, 0xF00)]
  | 0x08 => some (mCask ++ mOffset ++ mLength ++ [(8, 0xFFFFFF)] ++ mWords 10 11)
  | 0x09 => some ([(0, 0x300)] ++ mCask ++ mOffset ++ mLength ++ mHaddr ++ mCaskIo ++ [(8, 0x010F0FFF)] ++ mWords 9 15)
  | 0x0A => some [(8, 0xFF), (9, 0xFFFFFFFF), (10, 0xFFFF)]
  | 0x10 => some (mCask ++ mOffset ++ mLength ++ mHaddr ++ mCaskIo ++ [(8, 0xC0FFFFFF)] ++ mWords 9 11 ++ [(12, 0x80FFFFFF)] ++ mWords 13 14 ++ [(15, 0xFFF)])
  | 0x11 => some (mCask ++ mOffset ++ mLength ++ mHaddr ++ mCaskIo ++ [(8, 0xC0FFFFFF)] ++ mWords 9 11 ++ [(12, 0x80FFFFFF)] ++ mWords 13 14 ++ [(15, 0xFFF)])
  | 0x12 => some (mCask ++ mOffset ++ mLength ++ mHaddr ++ mCaskIo ++ [(8, 0xC0FFFFFF), (12, 0xFFFFFF)])
  | 0x18 => some (mCask ++ mOffset ++ [(8, 0x1FF)])
  | 0x19 => some (mOffset ++ [(8, 0x3FFF)])
  | 0x1A => some [(8, 0x3FFF)]
  | 0x80 => some ([(8, 0x011F00FF), (9, 0xFFFF01FF)] ++ mWords 10 11)
  | 0x81 => some [(8, 0xFF)]
  | 0x82 => some ([(8, 0xF71FFFFF)] ++ mWords 10 13)
  | 0x83 => some [(8, 0xFF)]
  | 0x84 => some mHaddr
  | 0x90 => some (mCask ++ mEntry)
  | 0x91 => some (mCask ++ mEntry ++ [(14, 0xFFF)])
  | 0x92 => some mCask
  | 0x93 => some (mCask ++ mHaddr)
  | 0x98 => some mGrant
  | 0x99 => some [(8, 0xFFFFFFFF)]
  | 0x9A => some ([(8, 0xFFFFF)] ++ mHaddr)
  | 0xA0 => some [(8, 0x3FF)]
  | 0xA1 => some [(8, 0xFFFFFFFF)]
  | 0xA2 => some [(8, 0x3)]
  | 0xB0 => some [(8, 0x3FF)]
  | 0xB1 => some (mHaddr ++ [(8, 0xFFFFFF)])
  | 0xB2 => some [(8, 0xFFFFFF)]
  | 0xB3 => some (mHaddr ++ [(8, 0xFFFFFF)])
  | 0xB8 => some mHaddr
  | 0xB9 => some (mHaddr ++ [(8, 0x3FF)])
  | 0xBA => some (mHaddr ++ [(8, 0xFFFFFF)])
  | 0xBB => some [(8, 0xFFFFFF)]
  | 0xBC => some (mHaddr ++ [(8, 0xFFFFFF)])
  | 0xBD => some mHaddr
  | 0xC0 => some []
  | 0xC1 => some (mLength ++ mHaddr ++ [(8, 0xFFFFFFFF)])
  | 0xC2 => some []
  | 0xC3 => some []
  | 0xC4 => some (mLength ++ mHaddr ++ [(8, 0x1), (9, 0xFFFFFFFF)])
  | 0xC8 => some (mHaddr ++ [(8, 0x3)])
  | 0xC9 => some (mLength ++ mHaddr ++ [(8, 0x103)])
  | 0xCA => some (mLength ++ mHaddr)
  | 0xCC => some mHaddr
  | 0xCD => some (mHaddr ++ [(8, 0xF)])
  | 0xCE => some ([(8, 0x7), (9, 0xFFFF)] ++ mWords 10 12)
  | 0xD0 => some [(8, 0x3)]
  | 0xD8 => some [(8, 0xFFFFFFFF)]
  | 0xD9 => some mHaddr
  | 0xDA => some []
  | _ => none

/-- The mask of the bits of word `i` that the fields occupy. -/
def usedMask (used : List (Nat × Nat)) (i : Nat) : Nat :=
  (used.filter (fun p => p.1 == i)).foldl (fun a p => Nat.lor a p.2) (if i = 0 then 0xFFFFC0FF else 0)

/-- R209: every Reserved field and every field the opcode does not use is zero. -/
def descZeros (dw : List Word) (used : List (Nat × Nat)) : Bool :=
  (List.range 16).all (fun i => Nat.land (dwAt dw i).toNat (4294967295 - usedMask used i) == 0)

def placeOf : Nat → Place
  | 0 => .pinDram
  | 1 => .preferDram
  | 2 => .cellarOk
  | _ => .streamed

def placeNum : Place → Nat
  | .pinDram => 0
  | .preferDram => 1
  | .cellarOk => 2
  | .streamed => 3

def mirrorNum : Mirror → Nat
  | .syncRequired => 0
  | .syncPreferred => 1
  | .locally => 2

def mirrorOf : Nat → Mirror
  | 0 => .syncRequired
  | 1 => .syncPreferred
  | _ => .locally

/-- The 64 B of a cask-table entry (R71); an invalid entry is all zero. -/
def caskBytes : Option CaskEntry → List Byte
  | none => List.replicate 64 0
  | some e =>
    leBytes 4 (2147483648 + placeNum e.place * 2 ^ 26 + mirrorNum e.mirror * 2 ^ 24 + e.rpri * 2 ^ 20
      + b2n e.grantable * 2 ^ 19 + b2n e.atom * 2 ^ 18 + b2n e.wr * 2 ^ 17 + b2n e.rd * 2 ^ 16 + e.owner)
    ++ leBytes 4 (e.pdom * 2 ^ 20 + e.lookahead * 2 ^ 12 + e.mkey)
    ++ leBytes 4 e.size ++ leBytes 4 (e.size / 4294967296)
    ++ leBytes 4 e.rtPtr ++ leBytes 4 (e.rtPtr / 4294967296)
    ++ leBytes 8 e.tag ++ List.replicate 32 0

/-- The entry that CASK_CREATE's operands spell (R217): VALID and OWNER_FN are ignored. -/
def caskOf (dw : List Word) (owner rtPtr : Nat) : CaskEntry :=
  { place := placeOf (dwF dw 8 27 26), mirror := mirrorOf (dwF dw 8 25 24), rpri := dwF dw 8 23 20,
    grantable := bitAt (dwAt dw 8) 19, atom := bitAt (dwAt dw 8) 18, wr := bitAt (dwAt dw 8) 17,
    rd := bitAt (dwAt dw 8) 16, owner := owner, pdom := dwF dw 9 31 20, lookahead := dwF dw 9 19 12,
    mkey := dwF dw 9 11 0, size := (dwAt dw 10).toNat + 4294967296 * dwF dw 11 3 0, rtPtr := rtPtr,
    tag := dw64 dw 12 }

/-- Field values of CASK_CREATE within range (R71, R73): MIRROR is not 0b11, LOOKAHEAD is not 0. -/
def caskFieldsOk (dw : List Word) : Bool := dwF dw 8 25 24 != 3 && dwF dw 9 19 12 != 0

/-- CASK_MODIFY (R217): the fields whose mask bit is 1 change. -/
def caskMerge (old new : CaskEntry) (m : Nat) : CaskEntry :=
  { place := if natBit m 0 then new.place else old.place
    mirror := if natBit m 1 then new.mirror else old.mirror
    rpri := if natBit m 2 then new.rpri else old.rpri
    grantable := if natBit m 3 then new.grantable else old.grantable
    atom := if natBit m 4 then new.atom else old.atom
    wr := if natBit m 5 then new.wr else old.wr
    rd := if natBit m 6 then new.rd else old.rd
    owner := old.owner
    pdom := if natBit m 7 then new.pdom else old.pdom
    lookahead := if natBit m 8 then new.lookahead else old.lookahead
    mkey := old.mkey
    size := if natBit m 9 then new.size else old.size
    rtPtr := old.rtPtr
    tag := if natBit m 10 then new.tag else old.tag }

def grantStateNum : GrantState → Nat
  | .free => 0
  | .live => 1
  | .quarantine => 2

/-- The 32 B of a grant entry (R81). -/
def grantBytes (g : GrantEntry) : List Byte :=
  leBytes 4 (grantStateNum g.state * 2 ^ 30 + b2n g.gcmReq * 2 ^ 29 + b2n g.atom * 2 ^ 28 + b2n g.wr * 2 ^ 27
    + b2n g.rd * 2 ^ 26 + b2n g.pdtOk * 2 ^ 25 + b2n g.roceOk * 2 ^ 24 + g.bind * 2 ^ 22 + g.owner * 2 ^ 12 + g.gen)
  ++ leBytes 4 g.cask ++ leBytes 4 g.gcmSlot ++ leBytes 4 g.bindId
  ++ leBytes 4 (if g.state = .quarantine then g.revokeUs else g.base) ++ leBytes 4 (g.base / 4294967296)
  ++ leBytes 4 g.len ++ leBytes 4 (g.len / 4294967296)

/-- The entry that GRANT_ISSUE's operands spell (R217): STATE, OWNER_FN and GEN are ignored. -/
def grantOf (dw : List Word) (owner gen : Nat) : GrantEntry :=
  { state := .live, gcmReq := bitAt (dwAt dw 8) 29, atom := bitAt (dwAt dw 8) 28, wr := bitAt (dwAt dw 8) 27,
    rd := bitAt (dwAt dw 8) 26, pdtOk := bitAt (dwAt dw 8) 25, roceOk := bitAt (dwAt dw 8) 24,
    bind := dwF dw 8 23 22, owner := owner, gen := gen, cask := dwF dw 9 23 0, gcmSlot := dwF dw 10 11 0,
    bindId := dwF dw 11 23 0, base := (dwAt dw 12).toNat + 4294967296 * dwF dw 13 19 0,
    len := (dwAt dw 14).toNat + 4294967296 * dwF dw 15 19 0, revokeUs := 0 }

/-- The 128 bits of a rack entry (R77), as a number. -/
def rackBits (r : Rack) : Nat :=
  r.frame * 2 ^ 99 + r.cptr * 2 ^ 61 + r.present.toNat * 2 ^ 45 + r.dirty.toNat * 2 ^ 29 + r.rdirty.toNat * 2 ^ 13
  + b2n r.res * 2 ^ 12 + b2n r.cvalid * 2 ^ 11 + b2n r.fetch * 2 ^ 10 + b2n r.wb * 2 ^ 9 + b2n r.vault * 2 ^ 8
  + r.acc * 2 ^ 4

/-- The role code of R160. -/
def roleNum : Role → Nat
  | .detached => 0
  | .active => 1
  | .solo => 2
  | .standby => 3
  | .resync => 4
  | .fenced => 5

def roleOf : Nat → Role
  | 1 => .active
  | 2 => .solo
  | 3 => .standby
  | 4 => .resync
  | 5 => .fenced
  | _ => .detached

/-- GEN_STATUS.SUPPLY (R118). -/
def supplyNum : Supply → Nat
  | .normal => 0
  | .warn => 1
  | .dwell => 2
  | .bottling => 3
  | .bottled => 4

def admitNum : Admit → Nat
  | .opened => 0
  | .throttled => 1
  | .stopped => 2

/-! ### Keys -/

/-- The modes of R214. -/
def modeGcm : Nat := 4
def modeXts : Nat := 5
def modeCmac : Nat := 6

/-- The key of a slot as bytes, byte 0 first: 64 for XTS with AES-256, half as many for AES-128 or one key (R370). -/
def keyBytes (k : KeySlot) (mode : Nat) : List Byte :=
  let all := (k.key.map (fun w => leBytes 4 w.toNat)).flatten
  let n := if k.len256 then 32 else 16
  if mode = modeXts then all.take n ++ (all.drop 32).take n else all.take n

end Sys2Proof.Machine
end

