-- ==== Sys2Proof/Machine/Cells.lean ====
section
/-! DEFINITION. Operations of the queue manager: the queue map, reservation, commit, release, rewind and reclaim of
cells (R223–R237, R243). -/

namespace Sys2Proof.Machine

/-- The cells of the pool (R16). -/
def poolCells : Nat := 262144

/-- The fixed queues of R235: class, owner tag and default cap. Dynamic queues are unused until created. Of the engine tags the table says only
'Engine': the Q0 and PCIe egress queues carry 0x800 here, and 0x0300–0x03FF carry 0x806 (DESIGN CHOICE, log 62). -/
def qmqDefault (n : Nat) : QmQueue :=
  let q (c o : Nat) : QmQueue := { state := 1, cls := c, owner := o, pkts := [] }
  if n < 0x30 then q 0 0x800
  else if n < 0x38 then q 0 0x430
  else if n < 0x40 then { state := 0, cls := 0, owner := 0, pkts := [] }
  else if n < 0x42 then q 2 0x410
  else if n < 0x4A then q 2 (0x420 + (n - 0x42) / 2)
  else if n < 0x100 then { state := 0, cls := 0, owner := 0, pkts := [] }
  else if n < 0x110 then q 1 0x800
  else if n < 0x150 then q 1 (0x400 + (n - 0x110) / 8)
  else if n < 0x200 then { state := 0, cls := 0, owner := 0, pkts := [] }
  else if n < 0x240 then q 3 (0x400 + (n - 0x200) / 8)
  else if n < 0x300 then { state := 0, cls := 0, owner := 0, pkts := [] }
  else if n < 0x400 then q 4 0x806
  else { state := 0, cls := 3, owner := 0, pkts := [] }

/-- The default cap of R235. -/
def qmqCapDefault (n : Nat) : Nat :=
  if n < 0x30 then 16384
  else if n < 0x38 then 64
  else if n < 0x42 then 32768
  else if n < 0x4A then 16384
  else if n < 0x150 then 8192
  else if n < 0x240 then 16384
  else if n < 0x400 then 2048
  else 8200

/-- The cells of a packet that carries `len` bytes: the packet header, the 64 B request header, and the bytes
(R224; the 64 B is DEDUCED from the 4,100 cells of a 1 MiB write, log 12). -/
def cellsFor (len : Nat) : Nat := (72 + len + 255) / 256

/-- The cells of the largest frame of a link: a header, 4,096 B of payload and a CRC (R176, R489). -/
def frameMax : Nat := 17

/-- Take `n` cells from the head of a free list (R222): the runs taken, and the list that is left. Which free cell is taken first is the
model's own choice (DESIGN CHOICE, log 31). -/
def takeCells : Nat → List (Nat × Nat) → List (Nat × Nat) × List (Nat × Nat)
  | _, [] => ([], [])
  | 0, l => ([], l)
  | n + 1, (c, k) :: rest =>
    if n + 1 < k then ([(c, n + 1)], (c + n + 1, k - n - 1) :: rest)
    else let t := takeCells (n + 1 - k) rest; ((c, k) :: t.1, t.2)

/-- The cells of a packet, in chain order (R224). -/
def pktCells (p : Pkt) : List Nat := (p.runs.map (fun r => (List.range r.2).map (· + r.1))).flatten

/-- Whether a cell belongs to a packet. -/
def holdsCell (c : Nat) (p : Pkt) : Bool := p.runs.any (fun r => decide (r.1 ≤ c ∧ c < r.1 + r.2))

/-- A link word (R223). -/
def linkWord (sop eop : Bool) (owner : Nat) (next : BitVec 18) : BitVec 39 :=
  let w := BitVec.ofNat 32 (b2n sop * 2 ^ 31 + b2n eop * 2 ^ 30 + owner % 4096 * 2 ^ 18 + next.toNat)
  Config.linkEcc w ++ w

namespace Device

def queue (d : Device) (n : Nat) : QmQueue := (d.qmg.queues.find? n).getD (qmqDefault n)

def setQueue (d : Device) (n : Nat) (q : QmQueue) : Device :=
  { d with qmg := { d.qmg with queues := d.qmg.queues.put n q } }

/-- Cells of a list of packets. -/
def pktsCells (ps : List Pkt) : Nat := ps.foldl (fun a p => a + p.cells) 0

/-- Cells held or reserved in a queue. -/
def queueCells (q : QmQueue) : Nat := pktsCells q.pkts + pktsCells q.lost

/-- Packets committed in a queue. -/
def queuePkts (q : QmQueue) : Nat := (q.pkts.filter (·.whole)).length

/-- Cells held or reserved by a class (QMG_USED). -/
def classUsed (d : Device) (c : Nat) : Nat :=
  d.qmg.queues.foldl (fun a p => if p.2.cls = c then a + queueCells p.2 else a) 0

/-- Cells on the free list that no reservation holds. -/
def freeCells (d : Device) : Nat :=
  poolCells - d.qmg.queues.foldl (fun a p => a + queueCells p.2) 0

/-- The cap of a queue: QMG_Q_CAP when written, else its default (R235). -/
def queueCap (d : Device) (n : Nat) : Nat :=
  match d.regs.find? (rkey n Reg.QMG_Q_CAP) with
  | some w => w.toNat
  | none => qmqCapDefault n

/-- The threshold T_c of R236. -/
def classFloor (d : Device) (c : Nat) : Nat :=
  ((List.range (min c 4)).map (fun i => d.fld ⟨Reg.QMG_RES0 + 4 * i, 17, 0⟩)).foldl (· + ·) 0

/-- The largest packet, in cells (R224). -/
def maxCells : Nat := 4100

/-- Whether a reservation of `n` cells in queue `qn` succeeds (R224, R225, R234, R236). -/
def mayReserve (d : Device) (qn n owner : Nat) : Bool :=
  let q := d.queue qn
  (q.state == 1) && decide (n ≤ maxCells) && decide (n + d.classFloor q.cls ≤ d.freeCells) && decide (queueCells q + n ≤ d.queueCap qn)
    && !(d.qmg.reclaims.any (fun r => r.tag == owner))

/-- Record the highest occupancy (QMG_Q_PEAK) of a queue. -/
def notePeak (d : Device) (qn : Nat) : Device :=
  let c := queueCells (d.queue qn)
  if d.fld Fld.QMG_Q_PEAK_PEAK qn < c then d.setFld Fld.QMG_Q_PEAK_PEAK c qn else d

/-- Put a reserved packet into a queue (R225): its cells come from the head of the free list. -/
def addPkt (d : Device) (qn : Nat) (p : Pkt) : Device :=
  let q := d.queue qn
  let t := takeCells p.cells d.qmg.free
  ({ d with qmg := { d.qmg with free := t.2 } }.setQueue qn { q with pkts := q.pkts ++ [{ p with runs := t.1 }] }).notePeak qn

/-- The cells of packets return to the free list (R226). -/
def freePkts (d : Device) (ps : List Pkt) : Device :=
  { d with qmg := { d.qmg with free := d.qmg.free ++ (ps.map (·.runs)).flatten } }

/-- A queue is created, with its class and owner tag (R231, R235). -/
def openQueue (d : Device) (n cls owner : Nat) : Device := d.setQueue n { state := 1, cls := cls, owner := owner, pkts := [] }

/-- MC6 and MC7 create the initiator, PDT group and cascade queues when their owner first needs them (R235): for function f the initiator
queue 0x8800 + f and the PDT group 0x8400 + f, for port p of a cascade 0x8C00 + p (DESIGN CHOICE, log 64). -/
def openOnce (d : Device) (n cls owner : Nat) : Device := if (d.queue n).state = 0 then d.openQueue n cls owner else d

/-- A queue is deleted: its cells are free, and it is unused. -/
def closeQueue (d : Device) (n : Nat) : Device :=
  let q := d.queue n
  { d with qmg := { d.qmg with queues := d.qmg.queues.del n } }.freePkts (q.pkts ++ q.lost)

/-- Whether the cap of a queue has room for `n` more cells (R225). -/
def underCap (d : Device) (qn n : Nat) : Bool := decide (queueCells (d.queue qn) + n ≤ d.queueCap qn)

/-- A reservation was refused (R237): the queue's count, and FLOOR when the class threshold refused it. The producer of a broken queue waits
instead (R230). -/
def refuseCells (d : Device) (qn n : Nat) : Device :=
  let q := d.queue qn
  if q.state = 3 then d
  else
    let d := d.bumpSat Fld.QMG_Q_DROP_REFUSED 1 qn
    if d.freeCells < n + d.classFloor q.cls then d.raise Reg.QMG_INT_STATUS 0 2 else d

/-- A broken queue that has been swept is live again once its consumer has drained what it could still reach (R230 step 4). -/
def relive (q : QmQueue) : QmQueue :=
  if q.state == 3 && q.swept && !q.pkts.any (·.whole) then { q with state := 1, swept := false } else q

/-- Take every packet that satisfies `p` out of a queue; its cells are free. -/
def dropPkts (d : Device) (qn : Nat) (p : Pkt → Bool) : Device :=
  let q := d.queue qn
  (d.setQueue qn (relive { q with pkts := q.pkts.filter (fun x => !p x) })).freePkts (q.pkts.filter p)

/-- Release the packet of a token (R226): its cells return to the free list. -/
def releasePkt (d : Device) (qn : Nat) (t : Token) : Device := d.dropPkts qn (fun p => p.tok == t)

/-- Rewind the packet of a token (R227). -/
def rewindPkt (d : Device) (qn : Nat) (t : Token) : Device :=
  let q := d.queue qn
  if q.pkts.any (fun p => p.tok == t && !p.whole) then
    (d.dropPkts qn (fun p => p.tok == t && !p.whole)).bumpSat Fld.QMG_Q_DROP_REWOUND 1 qn
  else d

/-- The last word of the packet of a token is written (R226): it joins the queue's tail, behind every packet committed before it. -/
def commitPkt (d : Device) (qn : Nat) (t : Token) : Device :=
  let q := d.queue qn
  let mine (p : Pkt) : Bool := p.tok == t && !p.whole
  d.setQueue qn { q with pkts := q.pkts.filter (·.whole) ++ (q.pkts.filter mine).map (fun p => { p with whole := true })
                                   ++ q.pkts.filter (fun p => !p.whole && !mine p) }

/-- The marks of a queue once some of its packets are gone for their consumer: `gone` says so of each packet that was not void. -/
def voidMarks : List Bool → List (Option Bool) → List (Option Bool)
  | _, [] => []
  | [], l => l
  | bs, none :: l => none :: voidMarks bs l
  | b :: bs, some e :: l => (if b then none else some e) :: voidMarks bs l

/-- The consumer of a queue waits no longer for packets that are gone, and the frames among them are gone with them (R230, R233). -/
def loseMarks (d : Device) (qn : Nat) (gone : List Bool) : Device :=
  let cut (l : List TxFrame) : List TxFrame :=
    (((l.filter (·.held)).zip gone).filter (fun p => !p.2)).map (·.1) ++ l.filter (fun f => !f.held)
  { d with net := { d.net with
      marks := d.net.marks.upd qn (voidMarks gone)
      egress := if 0x110 ≤ qn ∧ qn < 0x150 then d.net.egress.upd (qn - 0x110) cut else d.net.egress } }

/-- The packet of a token belongs to another token from now on. -/
def retagPkt (d : Device) (qn : Nat) (t u : Token) : Device :=
  let q := d.queue qn
  if q.pkts.any (fun p => p.tok == t) then d.setQueue qn { q with pkts := q.pkts.map (fun p => if p.tok = t then { p with tok := u } else p) } else d

/-- Whether the sweep of a reclaim of tag `t` frees a packet at once: one under construction, or in a queue owned by `t` (R233 part 1). -/
def sweptOut (t : Nat) (q : QmQueue) (p : Pkt) : Bool := q.owner == t || (p.owner == t && !p.whole)

/-- The packets of a queue once `t` has been swept from it: those of `t` that the queue of another party holds are void (R233 part 1). The
manual speaks of an internal-engine queue here; an ingress queue holds packets of other tags too (R231; DEDUCED, log 64). -/
def voidOf (t : Nat) (q : QmQueue) : List Pkt :=
  (q.pkts.filter (fun p => !sweptOut t q p)).map (fun p => if p.owner = t then { p with void := true } else p)

/-- The sweep of one queue (R233): what it leaves; a void packet at the head is released at once (part 2). -/
def sweepQueue (t : Nat) (q : QmQueue) : QmQueue := { q with pkts := (voidOf t q).dropWhile (·.void) }

/-- What the sweep of one queue frees. -/
def sweptPkts (t : Nat) (q : QmQueue) : List Pkt := q.pkts.filter (sweptOut t q) ++ (voidOf t q).takeWhile (·.void)

/-- Start a reclaim of tag `t` (R233). -/
def reclaim (d : Device) (t : Nat) : Device :=
  let gone := (d.qmg.queues.map (fun (p : Nat × QmQueue) => sweptPkts t p.2)).flatten
  let d := d.qmg.queues.foldl (fun (d : Device) (p : Nat × QmQueue) =>
    d.loseMarks p.1 (((p.2.pkts.filter (fun x => !x.void)) ++ (d.qmg.waits.filter (fun w => w.1 == p.1)).map (·.2)).map (fun x => p.2.owner == t || x.owner == t))) d
  let d : Device := { d with qmg := { d.qmg with waits := d.qmg.waits.filter (fun w => !((d.queue w.1).owner == t || w.2.owner == t)) } }
  let d := d.qmg.queues.foldl (fun (d : Device) (p : Nat × QmQueue) =>
    d.bumpSat Fld.QMG_Q_DROP_REWOUND ((p.2.pkts.filter (fun x => x.owner == t && !x.whole)).length) p.1) d
  let d : Device := { d with qmg := { d.qmg with
      queues := d.qmg.queues.map (fun (p : Nat × QmQueue) => (p.1, sweepQueue t p.2))
      reclaims := d.qmg.reclaims ++ [{ tag := t, freed := pktsCells gone, startAt := d.now }] } }
  d.freePkts gone

/-- Step 3 of R122: every tag of 0x000–0x430 that holds a cell is reclaimed (R234); of the others no cell is in use. -/
def reclaimAll (d : Device) : Device :=
  let tags : List Nat := d.qmg.queues.foldl (fun (a : List Nat) (p : Nat × QmQueue) => p.2.pkts.foldl (fun (a : List Nat) x => insertNat x.owner a) a) []
  (tags.filter (fun t => decide (t ≤ 0x430) && !d.qmg.reclaims.any (fun r => r.tag == t))).foldl (fun (d : Device) t => d.reclaim t) d

/-- The last cell of a reclaimed tag is free (R233 part 2, R234): void packets are released, BUSY clears. -/
def reclaimDone (d : Device) (t : Nat) : Device :=
  match d.qmg.reclaims.find? (fun r => r.tag == t) with
  | none => d
  | some r =>
    let void (x : Pkt) : Bool := x.owner == t && x.void
    let gone := (d.qmg.queues.map (fun (p : Nat × QmQueue) => p.2.pkts.filter void)).flatten
    let d : Device := { d with
        qmg := { d.qmg with
          queues := d.qmg.queues.map (fun (p : Nat × QmQueue) => (p.1, relive { p.2 with pkts := p.2.pkts.filter (fun x => !void x) }))
          reclaims := removeFirst (fun r => r.tag == t) d.qmg.reclaims } }
    ((d.freePkts gone).setReg Reg.QMG_RECLAIM_CNT (BitVec.ofNat 32 (r.freed + pktsCells gone))).raise Reg.QMG_INT_STATUS 1 1

/-! ### Link words and errors in cells (R223, R228–R230) -/

/-- The chain of a queue's committed packets, in dequeue order (R226): each cell with its SOP, EOP and OWNER. -/
def queueChain (q : QmQueue) : List (Nat × Bool × Bool × Nat) :=
  ((q.pkts.filter (·.whole)).map (fun p =>
    let cs := pktCells p
    (cs.zip (List.range cs.length)).map (fun c => (c.1, c.2 == 0, c.2 + 1 == cs.length, p.owner)))).flatten

/-- The link words of a chain, by cell (R223): NEXT names the cell that follows. -/
def chainWords : List (Nat × Bool × Bool × Nat) → List (Nat × BitVec 39)
  | [] => []
  | (c, sop, eop, o) :: rest =>
    (c, linkWord sop eop o (match rest with
      | x :: _ => BitVec.ofNat 18 x.1
      | [] => Config.lastNext c)) :: chainWords rest

/-- The chain of a packet under construction (R226): no EOP is set before its last word. -/
def openChain (p : Pkt) : List (Nat × Bool × Bool × Nat) :=
  let cs := pktCells p
  (cs.zip (List.range cs.length)).map (fun c => (c.1, c.2 == 0, false, p.owner))

/-- The link words of a queue (R222, R223): its committed packets, and each packet under construction. -/
def linkWords (d : Device) (qn : Nat) : List (Nat × BitVec 39) :=
  let q := d.queue qn
  chainWords (queueChain q) ++ ((q.pkts.filter (fun p => !p.whole)).map (fun p => chainWords (openChain p))).flatten

/-- The link memory (R222): the words of the cells that queues hold, and of the free ones. -/
def linkMemory (d : Device) : List (Nat × BitVec 39) :=
  (d.qmg.queues.map (fun (p : Nat × QmQueue) => d.linkWords p.1)).flatten
    ++ (d.qmg.free.map (fun r => (List.range r.2).map (fun i => (r.1 + i, Config.freeLink (r.1 + i))))).flatten

/-- A 64-bit word of the cell memory with its check bits (R223). -/
def cellWord (w : BitVec 64) : BitVec 72 := Config.cellEcc w ++ w

/-- The words of a packet in the cell memory (R222–R224): the header, then its bytes, eight to a word, over the 32 words of each of its
cells. Where the manual does not say what a word holds it is free. -/
def pktWords (p : Pkt) (body : List Byte) : List (BitVec 72) :=
  (List.range (32 * p.cells)).map (fun i => cellWord
    (if i = 0 then Config.pktHead p.len p.poison p.void
     else if 8 * i ≤ body.length + 7 then BitVec.ofNat 64 (leNat ((body.drop (8 * (i - 1))).take 8))
     else Config.padWord i))

/-- A corrected single-bit error in a cell word or a link word of a queue (R228). -/
def correctedWord (d : Device) (qn : Nat) : Device :=
  let was := d.fld Fld.QMG_Q_ECC_CE qn
  let d := (d.bumpSat Fld.QMG_Q_ECC_CE 1 qn).bump Fld.QMG_ECC_CE_TOTAL_VALUE
  let thr := d.fld Fld.QMG_CE_THR_THR
  if was < thr ∧ thr ≤ d.fld Fld.QMG_Q_ECC_CE qn then d.raise Reg.QMG_INT_STATUS 2 3 else d

/-- The fixed queues of R235: what passes through one within a command holds no cell after it, so an error in one meets the packet that passes
next (log 31). -/
def fixedQueue (n : Nat) : Bool := decide (n < 0x400)

/-- The next packet of a fixed queue carries a poisoned word (R229). -/
def armEgress (d : Device) (qn : Nat) : Device := { d with qmg := { d.qmg with bad := d.qmg.bad ++ [qn] } }

/-- An uncorrectable cell word is delivered with a poison tag (R229): the header of the packet that holds the cell is flagged. -/
def poisonedWord (d : Device) (qn cell : Nat) : Device :=
  let q := d.queue qn
  let d := if q.pkts.any (holdsCell cell) then
      d.setQueue qn { q with pkts := q.pkts.map (fun p => if holdsCell cell p then { p with poison := true } else p) }
    else if q.lost.any (holdsCell cell) then d else d.armEgress qn
  ((d.bumpSat Fld.QMG_Q_ECC_UE 1 qn).bump Fld.QMG_ECC_UE_TOTAL_VALUE).raise Reg.QMG_INT_STATUS 3 4

/-- Whether a packet under construction, or a committed one in front of the broken link word, is still reached (R230): the packet that
holds the cell is not. -/
def reached (cell : Nat) : List Pkt → List Pkt
  | [] => []
  | p :: ps => if holdsCell cell p then ps.filter (fun x => !x.whole) else p :: reached cell ps

/-- An uncorrectable link word breaks the queue that holds the cell (R230): what its consumer can no longer reach is lost. -/
def brokenWord (d : Device) (qn cell : Nat) : Device :=
  let q := d.queue qn
  let keep := reached cell q.pkts
  let d := d.loseMarks qn ((q.pkts.filter (fun p => !p.void)).map (fun p => !keep.contains p))
  let d := d.setQueue qn { q with state := 3, pkts := keep, lost := q.lost ++ q.pkts.filter (fun p => !keep.contains p), swept := false }
  (d.bump Fld.QMG_LINK_UE_CNT_VALUE).raise Reg.QMG_INT_STATUS 4 5

/-- The next packet passes through a fixed queue; whether it carries a poisoned word (R229). -/
def passing (d : Device) (qn : Nat) : Bool × Device :=
  if d.qmg.bad.contains qn then (true, { d with qmg := { d.qmg with bad := removeFirst (fun n => n == qn) d.qmg.bad } })
  else (false, d)

/-- The next packet of an egress queue leaves; whether it carries a poisoned word, which the output `badWord` then says (R229). -/
def leaving (d : Device) (qn : Nat) : Bool × Device :=
  let p := d.passing qn
  if p.1 then (true, p.2.emit (.badWord qn)) else (false, d)

/-! ### Queues that one party fills and another drains by a command of its own (R246) -/

/-- The mark of a packet received joins those of its queue. -/
def addMark (d : Device) (qn : Nat) (m : Option Bool) : Device :=
  { d with net := { d.net with marks := d.net.marks.put qn (((d.net.marks.find? qn).getD []) ++ [m]) } }

/-- The void packets at the head of a queue are released (R233 part 2). -/
def dropVoid (d : Device) (qn : Nat) : Device :=
  let q := d.queue qn
  match q.pkts with
  | p :: _ => if p.void then (d.setQueue qn (relive { q with pkts := q.pkts.dropWhile (·.void) })).freePkts (q.pkts.takeWhile (·.void)) else d
  | [] => d

/-- A producer's packet enters a queue, with its mark, or waits for it while the queue is broken (R230). -/
def enterQueue (d : Device) (qn : Nat) (p : Pkt) (mark : Bool) : Device :=
  let d := d.addMark qn (some mark)
  if (d.queue qn).state = 3 then { d with qmg := { d.qmg with waits := d.qmg.waits ++ [(qn, p)] } } else d.addPkt qn p

/-- What waited for a queue enters it once it is live again (R230). -/
def admitWaits (d : Device) : Device :=
  d.qmg.waits.foldl (fun (d : Device) w =>
    if d.mayReserve w.1 w.2.cells w.2.owner then { d with qmg := { d.qmg with waits := removeFirst (fun x => x == w) d.qmg.waits } }.addPkt w.1 w.2
    else d) d

/-- The consumer of a queue takes the next packet; none: that packet was discarded, lost or void. With it: whether it met the ECN threshold, and
whether it is poisoned (R229). A packet that still waits for a broken queue is taken as the sweep lets it in. A command that nothing received
stands behind is taken as it comes (log 64). -/
def popIn (d : Device) (qn : Nat) : Device × Option (Bool × Bool) :=
  match (d.net.marks.find? qn).getD [] with
  | [] => let b := d.passing qn; (b.2, some (false, b.1))
  | m :: ms =>
    let d : Device := { d with net := { d.net with marks := d.net.marks.put qn ms } }
    match m, (d.queue qn).pkts with
    | none, _ => (d, none)
    | some e, p :: rest =>
      let b := ((d.setQueue qn (relive { d.queue qn with pkts := rest })).freePkts [p]).passing qn
      (b.2.dropVoid qn, some (e, p.poison || b.1))
    | some e, [] => ({ d with qmg := { d.qmg with waits := removeFirst (fun w => w.1 == qn) d.qmg.waits } }, some (e, false))

end Device
end Sys2Proof.Machine
end

