-- ==== Sys2Proof/Machine/Rings.lean ====
section
/-! DEFINITION. Host rings: looking up and changing queues, completion entries (R204, R205, R211), the SQ head and
completion counts (R203, R206), the start of a descriptor (R203, R209, R213, R215). -/

namespace Sys2Proof.Machine

/-- The key of queue `q` of function `fn`. -/
def qkey (fn q : Nat) : Nat := 256 * fn + q

/-- The 32-bit words of a completion entry, PHASE left 0 (R211). -/
def cqeWords (cid q status head r0 r1 : Nat) : List Word :=
  [BitVec.ofNat 32 (cid * 65536 + q), BitVec.ofNat 32 (status * 16777216 + head), BitVec.ofNat 32 r0,
   BitVec.ofNat 32 (r0 / 4294967296), BitVec.ofNat 32 r1, BitVec.ofNat 32 (r1 / 4294967296), 0, 0]

/-- How many leading descriptors have completed. -/
def doneCount : List DescState → Nat
  | [] => 0
  | x :: xs => if x.phase = .done then 1 + doneCount xs else 0

namespace Device

def sq? (d : Device) (fn q : Nat) : Option Sq := d.hrg.sqs.find? (qkey fn q)
def cq? (d : Device) (fn q : Nat) : Option Cq := d.hrg.cqs.find? (qkey fn q)

def putSq (d : Device) (fn q : Nat) (s : Sq) : Device := { d with hrg := { d.hrg with sqs := d.hrg.sqs.put (qkey fn q) s } }
def putCq (d : Device) (fn q : Nat) (c : Cq) : Device := { d with hrg := { d.hrg with cqs := d.hrg.cqs.put (qkey fn q) c } }
def delSq (d : Device) (fn q : Nat) : Device := { d with hrg := { d.hrg with sqs := d.hrg.sqs.del (qkey fn q) } }
def delCq (d : Device) (fn q : Nat) : Device := { d with hrg := { d.hrg with cqs := d.hrg.cqs.del (qkey fn q) } }

/-- Change an SQ that exists. -/
def updSq (d : Device) (fn q : Nat) (f : Sq → Sq) : Device :=
  match d.sq? fn q with
  | some s => d.putSq fn q (f s)
  | none => d

/-- A descriptor by its number in ring order. -/
def desc? (d : Device) (fn q seq : Nat) : Option DescState :=
  match d.sq? fn q with
  | some s => s.descs.find? (fun x => x.seq == seq)
  | none => none

/-- Change a descriptor. -/
def updDesc (d : Device) (fn q seq : Nat) (f : DescState → DescState) : Device :=
  d.updSq fn q (fun s => { s with descs := updateFirst (fun x => x.seq == seq) f s.descs })

/-- Send a CQ's vector and count nothing unsignalled (R205). -/
def signalCq (d : Device) (fn q : Nat) (c : Cq) : Device :=
  (d.putCq fn q { c with unsig := 0 }).msix fn c.vec

/-- The PCIe egress queue of a function's link (R235). -/
def pcieQ (fn : Nat) : Nat := 0x100 + fn / 64

/-- Write one entry into a CQ that has room (R204, R205). -/
def writeCqe (d : Device) (fn q : Nat) (c : Cq) (dw : List Word) : Device :=
  let size := 2 ^ c.log2
  let phase := if c.posted / size % 2 = 0 then 1 else 0
  let d := (d.leaving (pcieQ fn)).2.emit (.cqe fn q (c.posted % size) (dw.take 7 ++ [BitVec.ofNat 32 phase]))
  let c := { c with posted := c.posted + 1, unsig := c.unsig + 1, unsigAt := if c.unsig = 0 then d.now else c.unsigAt }
  if c.ien ∧ (c.coalCnt = 0 ∨ c.coalCnt ≤ c.unsig) then d.signalCq fn q c else d.putCq fn q c

/-- Whether a CQ may take an entry: fewer than size entries posted and not released (R204). -/
def cqRoom (c : Cq) : Bool := decide (c.posted - c.released < 2 ^ c.log2)

/-- The host address of the shadow slot of SQ `q` and CQ `q`. -/
def shadowSlot (d : Device) (fn q : Nat) : Nat :=
  d.fld Fld.HRG_SHADOW_LO_BASE fn * 4096 + 4294967296 * d.fld Fld.HRG_SHADOW_HI_BASE fn + 16 * q

/-- Before a CQ counts as full, its shadow head is read again when shadowing is enabled (R204): the read goes out, and SHADOW_TAIL_POLL
brings its data. -/
def rereadHead (d : Device) (fn q : Nat) : Device :=
  match d.cq? fn q with
  | some c =>
    if cqRoom c || c.reread || !d.flag Fld.HRG_SHADOW_LO_EN fn || d.fnStopped fn then d
    else (d.putCq fn q { c with reread := true }).emit (.hostRead fn (d.shadowSlot fn q + 4) 4)
  | none => d

/-- Whether the PCIe egress queue of a function takes a packet of `len` bytes: what it would hold leaves at once, but a class at its threshold,
or a broken queue, holds the producer back (R230, R236, R237). -/
def pcieRoom (d : Device) (fn len : Nat) : Bool := d.mayReserve (pcieQ fn) (min (cellsFor len) maxCells) fn

/-- Post an entry, or keep it waiting while the CQ is full (R204) or PCIe egress has no room (R237). -/
def postCqe (d : Device) (fn q : Nat) (dw : List Word) : Device :=
  match d.cq? fn q with
  | none => d
  | some c =>
    if c.wait.isEmpty && cqRoom c && d.pcieRoom fn 32 then d.writeCqe fn q c dw
    else (d.putCq fn q { c with wait := c.wait ++ [dw] }).rereadHead fn q

/-- Post the entries that wait, as far as room goes. -/
def drainCq (d : Device) (fn q : Nat) : Nat → Device
  | 0 => d
  | n + 1 =>
    match d.cq? fn q with
    | some c =>
      match c.wait with
      | dw :: rest => if cqRoom c && d.pcieRoom fn 32 then drainCq (d.writeCqe fn q { c with wait := rest } dw) fn q n else d
      | [] => d
    | none => d

/-- The entries that wait for room in PCIe egress go on (R237). -/
def drainCqs (d : Device) : Device :=
  d.hrg.cqs.foldl (fun (d : Device) (p : Nat × Cq) => if p.2.wait.isEmpty then d else d.drainCq (p.1 / 256) (p.1 % 256) p.2.wait.length) d

/-- Whether this unit may write the completion-count and shadow words of an SQ: a FENCED unit writes none, and they follow only from
committed vintages, so they wait while a descriptor that completed at its seal lies in a vintage that has not committed (R186). -/
def mayWriteWords (d : Device) (fn q : Nat) : Bool :=
  d.mir.role != .fenced && !d.pst.vints.any (fun v => v.state == .sealed && v.recs.any (fun r => r.released && (match r.tok with
    | .desc f p _ => f == fn && p == q
    | _ => false)))

/-- Write the controller's shadow words of an SQ: its head and POLL (R207). -/
def writeShadow (d : Device) (fn q : Nat) (s : Sq) : Device :=
  if s.shadow && d.flag Fld.HRG_SHADOW_LO_EN fn && d.mayWriteWords fn q && !d.fnStopped fn then
    (d.leaving (pcieQ fn)).2.emit (.hostWrite fn (d.shadowSlot fn q + 8) (leBytes 4 (s.headSeq % 2 ^ s.log2) ++ leBytes 4 (b2n s.poll)))
  else d

/-- Let the SQ head pass the descriptors that have completed (R203, R206). The SQ head is read as the slot of the oldest descriptor that has
not completed, so that the slots in front of it may be reused (DESIGN CHOICE, log 32). -/
def passHead (d : Device) (fn q : Nat) (s : Sq) : Device :=
  let n := doneCount s.descs
  let rest := s.descs.drop n
  let head := s.headSeq + n
  let s := { s with descs := rest, headSeq := head, count := (s.count + n) % 4294967296, ccwDue := s.ccwDue || (s.ccwEn && n != 0),
                    emptyAt := if rest.isEmpty ∧ s.tail = s.fetchSeq % 2 ^ s.log2 then d.now else s.emptyAt }
  let d := d.putSq fn q s
  if n = 0 then d else d.writeShadow fn q s

/-- A descriptor completes: its cells are released, the head passes it once every earlier one has completed, and its
entry is posted unless QUIET withholds it (R203, R208, R211, R226). In a function that is being reset, or for a
descriptor that is gone, nothing is posted (R60, R219). -/
def completeOne (d : Device) (fn q seq status r0 r1 : Nat) : Device :=
  match d.sq? fn q with
  | none => d
  | some s =>
    match s.descs.find? (fun x => x.seq == seq) with
    | none => d
    | some x =>
      if x.phase = .done then d
      else
        let d := d.releasePkt s.qmq (.desc fn q seq)
        let s := { s with descs := updateFirst (fun y => y.seq == seq) (fun y => { y with phase := .done, status := status }) s.descs }
        let d := d.passHead fn q s
        let head := match d.sq? fn q with
          | some s => s.headSeq % 2 ^ s.log2
          | none => 0
        if (dQuiet x.dw && status == 0) || d.fnStopped fn then d
        else d.postCqe fn s.cq (cqeWords (dCid x.dw) q status head r0 r1)

/-- An earlier descriptor that holds the rest of its SQ: a WAIT_COUNT, or a fence with HOLD (R56, R213). -/
def holdsQueue (x : DescState) : Bool :=
  x.phase != .done && ((dOpcode x.dw == 0x0A) || (dOpcode x.dw == 0x07 && dFlag x.dw 11))

/-- The next descriptor of an SQ that may start: the first not started, every earlier one started, none of them
holding the queue, all of them complete when it has AFTER set, and its host data delivered (R203, R208, R213). -/
def nextStart : List DescState → Bool → Option DescState
  | [], _ => none
  | x :: xs, allDone =>
    if x.phase = .fetched then
      if (!dAfter x.dw || allDone) && x.need == 0 then some x else none
    else if holdsQueue x then none
    else nextStart xs (allDone && x.phase == .done)

/-- The status of a descriptor that its queue does not accept (R209, R215): checked before everything else. -/
def refusedBy (d : Device) (fn q : Nat) (dw : List Word) : Option Nat :=
  let op := dOpcode dw
  if q = 0 then
    if 0x90 ≤ op ∧ !d.isAdmin fn then some stProt
    else if op ≠ 0 ∧ op < 0x80 then some stInvalid
    else if (opUsed op).isNone then some stInvalid
    else none
  else if 0x80 ≤ op ∨ (opUsed op).isNone then some stInvalid
  else none

/-- The descriptors in turn to start that their queue does not accept complete at once. -/
def reapRefused (fn q : Nat) : Nat → Device → Device
  | 0, d => d
  | n + 1, d =>
    match d.sq? fn q with
    | some s =>
      match nextStart s.descs true with
      | some x =>
        match d.refusedBy fn q x.dw with
        | some st => reapRefused fn q n (d.completeOne fn q x.seq st 0 0)
        | none => d
      | none => d
    | none => d

/-- The WAIT_COUNTs that wait for SQ `q`, which is deleted, end with ST_ABORTED (R213). -/
def endWaits (d : Device) (fn q : Nat) : Device :=
  let waits : List (Nat × Nat) := ((d.hrg.sqs.filter (fun (p : Nat × Sq) => p.1 / 256 == fn && p.1 % 256 != q)).map (fun (p : Nat × Sq) =>
    (p.2.descs.filter (fun x => x.phase == .running && dOpcode x.dw == 0x0A && dwF x.dw 8 7 0 == q)).map (fun x => (p.1 % 256, x.seq)))).flatten
  waits.foldl (fun (d : Device) w => reapRefused fn w.1 65536 (d.completeOne fn w.1 w.2 stAborted 0 0)) d

/-- A DELETE_SQ completes when no descriptor of its SQ remains (R216); the SQ is then gone. -/
def finishDelete (d : Device) (fn q : Nat) : Device :=
  match d.sq? fn q with
  | some s =>
    match s.deleting with
    | some seq =>
      if s.descs.isEmpty then
        (((d.delSq fn q).closeQueue s.qmq).endWaits fn q).completeOne fn 0 seq stOk 0 0
      else d
    | none => d
  | none => d

/-- Queue 0 that was taken down goes once the descriptors fetched have completed and their entries are posted: EN then reads 0. -/
def aqDrain (d : Device) (fn : Nat) : Device :=
  match d.sq? fn 0 with
  | some s =>
    let posted := match d.cq? fn 0 with
      | some c => c.wait.isEmpty
      | none => true
    if s.stopped && s.descs.isEmpty && posted && !d.fnStopped fn then
      ((((d.delSq fn 0).delCq fn 0).closeQueue s.qmq).endWaits fn 0).setFld Fld.HRG_AQ_CFG_EN 0 fn
    else d
  | none => d

/-- A descriptor completes; refused ones behind it complete in their turn, and a deletion that waited may complete. -/
def complete (d : Device) (fn q seq status r0 r1 : Nat) : Device :=
  let d := ((d.completeOne fn q seq status r0 r1).finishDelete fn q) |> reapRefused fn q 65536
  if q = 0 then d.aqDrain fn else d

/-- The next startable descriptor of SQ `q`, when its opcode is `op`. -/
def ready? (d : Device) (fn q op : Nat) : Option DescState :=
  if d.fnStopped fn || d.portStopped || (q == 0 && !d.coreUp 0) then none
  else match d.sq? fn q with
    | some s =>
      match nextStart s.descs true with
      | some x => if dOpcode x.dw = op then some x else none
      | none => none
    | none => none

/-- R208 and R209, scatter list: 16-byte aligned, 1 to 65,535 entries of length at least 1 that add up to LENGTH, the rest of each entry
zero. A list that is not aligned, or has no entry, counts as malformed (DEDUCED, log 33). -/
def sglOk (x : DescState) : Bool :=
  !dSgl x.dw || (decide (dHaddr x.dw % 16 = 0) && decide (1 ≤ dSglCnt x.dw) && !x.sglBad && decide (x.sgl.length = dSglCnt x.dw) && x.sgl.all (fun p => decide (1 ≤ p.2)) &&
    x.sgl.foldl (fun a p => a + p.2) 0 == dLength x.dw)

/-- Mark a descriptor running. -/
def startDesc (d : Device) (fn q : Nat) (x : DescState) : Device :=
  d.updDesc fn q x.seq (fun y => { y with phase := .running, startedAt := d.now })

/-- Whether the data of a descriptor stays in its cells after it has started: writes and atomics until they are placed (R226), CIPHER and
REMOTE_WRITE until their engine takes it. -/
def keepsCells (op : Nat) : Bool := decide (2 ≤ op ∧ op ≤ 6) || op == 0x09 || op == 0x10

/-- The packet of a descriptor is released (R226). -/
def releaseDesc (d : Device) (fn q seq : Nat) : Device :=
  match d.sq? fn q with
  | some s => d.releasePkt s.qmq (.desc fn q seq)
  | none => d

/-- Whether the packet that holds a descriptor's data is poisoned (R229). -/
def descPoisoned (d : Device) (fn q seq : Nat) : Bool :=
  match d.sq? fn q with
  | some s => (d.queue s.qmq).pkts.any (fun p => p.tok == .desc fn q seq && p.poison)
  | none => false

/-- The HUB block, whose SOURCE code the management cores' events carry (R464). -/
def qmgBlk : Nat := Reg.QMG_CTRL / 65536

/-- A descriptor runs, its data taken by its engine and its packet released (R226). -/
def takenDesc (d : Device) (fn q : Nat) (x : DescState) : Device := (d.startDesc fn q x).releaseDesc fn q x.seq

/-- A descriptor starts its work: its packet is released when its engine has taken the data (R226). -/
def beginDesc (d : Device) (fn q op : Nat) (x : DescState) : Device := if keepsCells op then d.startDesc fn q x else d.takenDesc fn q x

/-- Start the next descriptor of an SQ when it has the opcode: the checks of R209, those of host memory before those of the list that was
to be read from it, then `body`. Nothing happens when no such descriptor may start (log 4). Poisoned data (R229): a management core that
meets it discards the command and records an event; a WRITE is not carried out; each completes with ST_POISON (log 34). The packet of a
descriptor whose data its engine has taken is released (R226). -/
def withDesc (d : Device) (fn q op : Nat) (body : Device → DescState → Device) : Device :=
  match d.ready? fn q op with
  | none => d
  | some x =>
    let e := d.startDesc fn q x
    match opUsed op with
    | none => e.complete fn q x.seq stInvalid 0 0
    | some used =>
      if !descZeros x.dw used then e.complete fn q x.seq stInvalid 0 0
      else if x.hostErr then
        (e.setFld Fld.HRG_FN_STATUS_HOST_ERR 1 fn).complete fn q x.seq stHostErr 0 0
      else if !sglOk x then e.complete fn q x.seq stInvalid 0 0
      else if e.descPoisoned fn q x.seq && (0x80 ≤ op || op == 0x02) then
        (if 0x80 ≤ op then e.eventR 3 qmgBlk 229 else e).complete fn q x.seq stPoison 0 0
      else body (d.beginDesc fn q op x) x

/-- Scatter bytes over the host buffer of a descriptor: one buffer, or the entries of its list. -/
def scatter : List (Nat × Nat) → List Byte → List (Nat × List Byte)
  | [], _ => []
  | (a, n) :: rest, bs => if bs.isEmpty then [] else (a, bs.take n) :: scatter rest (bs.drop n)

/-- Data leaves through PCIe egress toward a function's host buffer (R208, R235); whether a TLP carries a poisoned word, and so EP
(R229). -/
def pcieOut (d : Device) (fn : Nat) (parts : List (Nat × List Byte)) : Bool × Device :=
  let p := d.leaving (pcieQ fn)
  (p.1, parts.foldl (fun (d : Device) x => d.emit (.hostWrite fn x.1 x.2)) p.2)

/-- Write bytes to a descriptor's host buffer (R208, R210). -/
def hostOut (d : Device) (fn : Nat) (x : DescState) (bytes : List Byte) : Bool × Device :=
  d.pcieOut fn (if dSgl x.dw then scatter x.sgl bytes else [(dHaddr x.dw, bytes)])

/-- A command answers with data in host memory (R210, R216): ST_OK, or ST_POISON when a TLP went out with EP set (R229). -/
def answerHost (d : Device) (fn q : Nat) (x : DescState) (bytes : List Byte) (r0 : Nat := 0) (r1 : Nat := 0) : Device :=
  let p := d.hostOut fn x bytes
  p.2.complete fn q x.seq (if p.1 then stPoison else stOk) r0 r1

end Device
end Sys2Proof.Machine
end

