-- ==== Sys2Proof/Machine/Media.lean ====
section
/-! DEFINITION. What the DIMMs and the NAND packages are: geometry and capacities (R306, R307, R334, R337–R340, R344,
R345), the active profile and its learned records (R459, R460). -/

namespace Sys2Proof.Machine

/-- A volume that is not there. -/
def NandVol.none : NandVol :=
  { ch := 0, vol := 0, luns := 0, same := false, maker := 0, rate := 0, pages := 0, slcPages := 0, blocks := 0, planes := 0, gib := 0 }

/-- The least `k` with `n` at most 2^k. -/
def log2Up (n : Nat) : Nat := ((List.range 32).filter (fun k => decide (n ≤ 2 ^ k))).headD 32

/-- A list without repeats, in order of first appearance. -/
def nubNat : List Nat → List Nat
  | [] => []
  | x :: xs => x :: (nubNat xs).filter (fun y => decide (y ≠ x))

/-- Insertion of an element into a list ordered by `before`. -/
def insertBy {α : Type} (before : α → α → Bool) (x : α) : List α → List α
  | [] => [x]
  | y :: ys => if before x y then x :: y :: ys else y :: insertBy before x ys

def sortBy {α : Type} (before : α → α → Bool) (l : List α) : List α := l.foldl (fun acc x => insertBy before x acc) []

namespace Device

def setDrm (d : Device) (x : Drm) : Device := { d with drm := x }
def setCel (d : Device) (x : Cel) : Device := { d with cel := x }

/-! ### The active profile -/

/-- The stored image of the active profile; one that holds nothing when it is not valid. -/
def profStored (d : Device) : Profile :=
  match d.profiles.find? d.sup.profile with
  | some p => if p.valid then p else Profile.blank
  | none => Profile.blank

/-- The active profile as it is in force (R461): a PROFILE_WRITE to it changes no running value. -/
def prof (d : Device) : Profile := d.sup.running

/-- The values of the active profile come into force: when it is selected, and at each reset of class C (R12, R461). -/
def takeProfile (d : Device) : Device := { d with sup := { d.sup with running := d.profStored } }

/-- The learned records of the active profile. -/
def learned (d : Device) : Learned := (d.fws.learned.find? d.sup.profile).getD Learned.blank

def setLearned (d : Device) (l : Learned) : Device := { d with fws := { d.fws with learned := d.fws.learned.put d.sup.profile l } }

/-- The DRAM rate that the profile selects, coded as DRM_POP.RATE; the lowest when it lists none (log 22). -/
def dramRate (d : Device) : Nat := d.prof.rates.headD 0

/-! ### DRAM -/

/-- The channel of a data frame (R307). -/
def frameCh (d : Device) (f : Nat) : Nat := d.drm.chans.getD (f % d.drm.chans.length) 0

/-- Whether a frame lies on a channel that has been retired (R323). -/
def frameLost (d : Device) (f : Nat) : Bool := !d.drm.retired.isEmpty && d.drm.retired.contains (d.frameCh f)

def dramCh (d : Device) (c : Nat) : DramCh := (d.drm.chs.find? c).getD DramCh.blank

def setDramCh (d : Device) (c : Nat) (x : DramCh) : Device := d.setDrm { d.drm with chs := d.drm.chs.put c x }

/-- The live channel that holds a copy of a duplexed unit (R307): copy 1 lies on the other EDGE die, or, with no live channel there, on another
channel of the same die; with one live channel there is none. -/
def copyCh (d : Device) (p : DupPage) (copy : Nat) : Option Nat :=
  let cs := d.drm.chans
  let c0 := cs.getD (Config.dupCh p.area p.cask p.unit 0 % cs.length) 0
  if copy = 0 then (if cs.isEmpty then none else some c0)
  else
    let other := cs.filter (fun c => c / 12 != c0 / 12)
    let ks := if other.isEmpty then cs.filter (fun c => c != c0) else other
    if ks.isEmpty then none else some (ks.getD (Config.dupCh p.area p.cask p.unit 1 % ks.length) 0)

/-- Whether a copy of a unit lies on no channel that is live: the unit goes on undoubled (R323). -/
def copyGone (d : Device) (p : DupPage) (copy : Nat) : Bool :=
  match d.copyCh p copy with
  | some c => d.drm.retired.contains c
  | none => true

/-- Whether a copy of a page cannot be read (R308, R320, R323). -/
def copyLost (d : Device) (p : DupPage) (copy : Nat) : Bool := d.drm.bad.contains (p, copy) || d.copyGone p copy

/-- A write to a duplexed page writes both copies (R308): neither is uncorrectable any more. -/
def writeDup (d : Device) (p : DupPage) : Device :=
  if d.drm.bad.isEmpty then d else d.setDrm { d.drm with bad := d.drm.bad.filter (fun b => b.1 != p) }

/-- A request to a channel in self-refresh brings it out (R317). -/
def wakeCh (d : Device) (c : Nat) : Device :=
  if d.fld Fld.DRM_CH_STATUS_STATE c = 2 ∧ !d.flag Fld.DRM_CH_STATUS_SWITCHING c then d.setFld Fld.DRM_CH_STATUS_STATE 1 c else d

def wakeFrame (d : Device) (f : Nat) : Device := d.wakeCh (d.frameCh f)

/-! ### Media keys -/

/-- The slot of a key, if it is LOADED (R370). -/
def keyLoaded (d : Device) (slot : Nat) : Option KeySlot :=
  match d.cph.slots.find? slot with
  | some k => if k.pending then none else some k
  | none => none

/-- Whether a software slot that is LOADED or PENDING permits a use: 0 HOST, 1 GCM, 2 CMAC, 3 MEDIA (R370). Hardware slots
are none of these (R369). -/
def slotPermits (d : Device) (slot use : Nat) : Bool :=
  match d.cph.slots.find? slot with
  | some k => natBit k.use use
  | none => false

/-- Whether a slot is PENDING (R370). -/
def slotPending (d : Device) (slot : Nat) : Bool :=
  match d.cph.slots.find? slot with
  | some k => k.pending
  | none => false

/-- The slot that MKEY names is not LOADED (R377); MKEY 0 names slot 0. -/
def keyMissing (d : Device) (mkey : Nat) : Bool := if mkey = 0 then !d.cph.hw0 else (d.keyLoaded mkey).isNone

def mkeyMissing (d : Device) (cask : Nat) : Bool :=
  match d.csk.casks.find? cask with
  | some e => d.keyMissing e.mkey
  | none => false

/-- A cask entry is applied: MKEY_MISSING when its software slot is not LOADED (R377). -/
def noteMkey (d : Device) (mkey : Nat) : Device :=
  if mkey ≠ 0 ∧ d.keyMissing mkey then d.raise Reg.CPH_INT_STATUS 3 4 else d

/-- Bytes through media XTS (R389). -/
def mediaBytes (d : Device) (n : Nat) : Device := d.bumpPair Reg.CPH_MEDIA_BYTES_LO n

/-! ### The cellar -/

/-- The geometry that every populated LUN reports (R335). -/
def nandGeom (d : Device) : NandVol := d.cel.pop.headD NandVol.none

def ppbLog2 (d : Device) : Nat := log2Up d.nandGeom.pages

def lunKey (ch lun : Nat) : Nat := 128 * ch + lun

def blkKey (ch lun b : Nat) : Nat := 1048576 * lunKey ch lun + b

/-- The member of a superblock that holds its data slot `s`: fifteen slots a row, and in row r member r mod 16 holds the parity
(R338, R339). -/
def slotMember (s : Nat) : Nat := if s % 15 < s / 15 % 16 then s % 15 else s % 15 + 1

/-- The channels of the four consecutive slots of the copy at a CPTR (R338–R340). -/
def copyChans (c ppb : Nat) : List Nat :=
  let ch := c / 2 ^ 32 % 64
  let row := c % 2 ^ ppb
  let first := 15 * row + (if ch % 16 < row % 16 then ch % 16 else ch % 16 - 1)
  (List.range 4).map (fun i => 16 * (ch / 16) + slotMember (first + i))

/-- Live channels enter self-refresh, or leave it (R155, R156). -/
def selfRefresh (d : Device) (on : Bool) : Device :=
  d.drm.chans.foldl (fun (d : Device) c =>
    if d.fld Fld.DRM_CH_STATUS_STATE c = (if on then 1 else 2) then d.setFld Fld.DRM_CH_STATUS_STATE (if on then 2 else 1) c else d) d

/-- The parity group of a channel (R17, R338): sixteen channels. -/
def groupOf (ch : Nat) : Nat := ch / 16

def volIsolated (d : Device) (ch vol : Nat) : Bool := natBit (d.fld Fld.CEL_C_STATUS_ISO_VOL ch) vol

/-- Whether a LUN is populated and in use. -/
def lunUsed (d : Device) (ch lun : Nat) : Bool := d.cel.used.contains (ch, lun / 8)

/-- The volumes of the recorded population (R336); with no record in the profile, those in use. -/
def recordedVols (d : Device) : List (Nat × Nat) :=
  match d.learned.vols with
  | some vs => vs.map (fun v => (v.ch, v.vol))
  | none => d.cel.used

/-- Whether a volume has been added since the population was recorded: it is not used until the next format (R336). -/
def volAdded (d : Device) (ch vol : Nat) : Bool := !d.recordedVols.isEmpty && !d.recordedVols.contains (ch, vol)

/-- The state of a LUN as CEL_L_STATUS codes it, R360's recovery apart. A LUN added since the last format reads as absent (DESIGN CHOICE,
log 66). -/
def lunState (d : Device) (ch lun : Nat) : Nat :=
  if d.volAdded ch (lun / 8) then 0
  else if !d.cel.pop.any (fun v => v.ch == ch && v.vol == lun / 8) then (if d.volIsolated ch (lun / 8) then 3 else 0)
  else if d.volIsolated ch (lun / 8) then 3 else 1

/-- L of R345: the LUNs in use that are not isolated. -/
def lunsLive (d : Device) : Nat := 8 * (d.cel.used.filter (fun v => !d.volIsolated v.1 v.2)).length

/-- G of R345: the SLC blocks of a generation in each LUN. -/
def genBlocks (d : Device) (gib : Nat) : Nat :=
  let per := d.lunsLive * d.nandGeom.slcPages * 1536000
  let want := 104 * gib * 1073741824 + 6710886400
  if per = 0 then 0 else (want + per - 1) / per

/-- The erased capacity of a generation with `e` erased blocks, in racks (R345). -/
def genRacks (d : Device) (e : Nat) : Nat :=
  let all := d.genBlocks d.cel.genGib * d.lunsLive
  if all = 0 then 0 else min (d.cel.genGib * 16384 * e / all) (d.cel.genGib * 16384)

/-- CSK_CAP_RACKS as a format would set it (R344), over every LUN populated. -/
def capFormula (d : Device) : Nat :=
  let b := d.cel.pop.length * 8 * d.nandGeom.blocks
  (1000 - d.fld Fld.CEL_OP_OP_PM) * b * 2 ^ d.ppbLog2 * 15 / 64000

/-- A block's record. The blocks that the vault took at the last format are VAULT blocks until they are listed (log 21). -/
def blk (d : Device) (ch lun b : Nat) : Blk :=
  match d.cel.blocks.find? (blkKey ch lun b) with
  | some x => x
  | none => if b < d.cel.vaultBlks ∧ d.lunUsed ch lun then
      { Blk.blank with state := .vault, slc := true, gen := min 2 (2 * b / (d.cel.vaultBlks - 1)) } else Blk.blank

def setBlk (d : Device) (ch lun b : Nat) (x : Blk) : Device := d.setCel { d.cel with blocks := d.cel.blocks.put (blkKey ch lun b) x }

/-- The pages of a block in its mode. -/
def blkPages (d : Device) (slc : Bool) : Nat := if slc then d.nandGeom.slcPages else d.nandGeom.pages

/-- The channels of a rack's four slots, from its CPTR (R67, R337, R339, R340). -/
def rackChans (d : Device) (cptr : Nat) : List Nat :=
  let ch := cptr / 2 ^ 32 % 64
  let row := cptr % 2 ^ 25 % 2 ^ d.ppbLog2
  let base := ch / 16 * 16
  let m := ch - base
  let slot := 15 * row + (if m < row % 16 then m else m - 1)
  (List.range 4).map (fun i =>
    let s := slot + i
    let k := s % 15
    base + (if k < s / 15 % 16 then k else k + 1))

/-- The volume and LUN position of a rack's superblock. -/
def rackLun (cptr : Nat) : Nat := cptr / 2 ^ 25 % 128

/-- Whether one of a rack's pages lies on a volume. -/
def rackOnVol (d : Device) (cptr ch vol : Nat) : Bool := rackLun cptr / 8 == vol && (d.rackChans cptr).contains ch

end Device
end Sys2Proof.Machine
end

