-- ==== Sys2Proof/Machine/Flash.lean ====
section
/-! DEFINITION. The embedded flash, firmware slots, boot selection and profile images (R445–R461). -/

namespace Sys2Proof.Machine

/-- A unit as an erase leaves it (R446). -/
def blankUnit : List Byte := List.replicate 32 0xFF

/-- A marker unit that is set (R453). -/
def markUnit : List Byte := List.replicate 32 0xA5

/-! ### CRC-32C -/

def crcShift (c : Nat) : Nat := if c % 2 = 1 then Nat.xor (c / 2) 0x82F63B78 else c / 2

def crcByte (c : Nat) (b : Byte) : Nat :=
  crcShift (crcShift (crcShift (crcShift (crcShift (crcShift (crcShift (crcShift (Nat.xor c b.toNat))))))))

/-- CRC-32C of bytes. -/
def crc32c (bs : List Byte) : Nat := Nat.xor (bs.foldl crcByte 0xFFFFFFFF) 0xFFFFFFFF

/-! ### Profile images -/

/-- The number in `n` little-endian bytes from `i`. -/
def leField (bs : List Byte) (i n : Nat) : Nat := leNat ((bs.drop i).take n)

/-- The entries of a TYPE 0x0001 section (R460); a later entry wins. -/
def profEntries : Nat → List Byte → AMap Word → AMap Word
  | 0, _, m => m
  | n + 1, bs, m =>
    let sel := leField bs 2 2
    let off := leField bs 0 1 * 65536 + leField bs 4 2
    let inst := if sel = 0xFFFF then 0 else sel
    profEntries n (bs.drop 12) (m.put (rkey inst off) (BitVec.ofNat 32 (leField bs 8 4)))

/-- The sections of a profile image (R460). -/
def profSections : Nat → List Byte → Profile → Profile
  | 0, _, p => p
  | n + 1, bs, p =>
    if bs.length < 8 then p
    else
      let len := leField bs 4 4
      let body := (bs.drop 8).take len
      let p := match leField bs 0 2 with
        | 1 => { p with regs := profEntries (len / 12) body p.regs }
        | 2 => { p with subsys := some (leField body 0 2, leField body 2 2) }
        | 3 => { p with mseq := some (Config.mseqOf body) }
        | 4 => { p with rates := body.map (fun b => b.toNat) }
        | _ => { p with unknown := p.unknown + 1 }
      profSections n (bs.drop (8 + roundUp len 8)) p

/-- A compiled image of 128 KiB, read as R459 says: it is valid when its VALID marker is set, its header checks and its CRC
matches. -/
def parseProfile (img : List Byte) : Profile :=
  let len := leField img 8 4
  let zeroed := img.take 12 ++ List.replicate 4 0 ++ (img.drop 16).take (len - 16)
  let head := leField img 0 4 == 0x4C4D5450 && leField img 4 2 == 1 && decide (leField img 6 2 < 2) && decide (64 ≤ len) && decide (len ≤ 131040)
    && leField img 32 4 == 0x88001F3C && (img.drop 40).take 24 == List.replicate 24 (0 : Byte)
  if head && (img.drop 131040).take 32 == markUnit && crc32c zeroed == leField img 12 4 then
    profSections (leField img 36 4) ((img.take len).drop 64) { Profile.blank with valid := true, test := leField img 6 2 == 1 }
  else Profile.blank

namespace Device

def fwsBlk : Nat := Reg.FWS_CTRL / 65536

def setFws (d : Device) (x : Fws) : Device := { d with fws := x }

/-! ### Units and blocks -/

def flashUnit (d : Device) (u : Nat) : List Byte := AMap.getD (fun _ => blankUnit) d.fws.units u

def putUnit (d : Device) (u : Nat) (bs : List Byte) : Device :=
  d.setFws { d.fws with units := AMap.setD (fun _ => blankUnit) d.fws.units u bs }

/-- The bytes of `n` units from unit `u`. -/
def flashBytes (d : Device) (u n : Nat) : List Byte := ((List.range n).map (fun i => d.flashUnit (u + i))).flatten

/-- Whether every unit of a block is blank. -/
def blockBlank (d : Device) (b : Nat) : Bool := d.fws.units.all (fun p => decide (p.1 / 2048 ≠ b))

/-- The cached reading of a profile follows its compiled blocks. -/
def refreshProfile (d : Device) (p : Nat) : Device :=
  { d with profiles := d.profiles.put p (parseProfile (d.flashBytes (2048 * (192 + 4 * p)) 4096)) }

/-- A block of a profile's compiled image has changed. -/
def noteBlock (d : Device) (b : Nat) : Device :=
  if 192 ≤ b ∧ b < 208 ∧ (b - 192) % 4 < 2 then d.refreshProfile ((b - 192) / 4) else d

/-- Erase a block (R446, R450). -/
def eraseBlock (d : Device) (b : Nat) : Device :=
  let n := (d.fws.erases.find? b).getD 0
  let d := d.setFws { d.fws with units := d.fws.units.filter (fun p => decide (p.1 / 2048 ≠ b)), erases := d.fws.erases.put b (min (n + 1) 4294967295) }
  let d := d.noteBlock b
  if n + 1 = 50000 then d.raise Reg.FWS_INT_STATUS 2 3 else d

/-- Program a unit (R446): false when it is not wholly erased, and nothing changes. -/
def programUnit (d : Device) (u : Nat) (bs : List Byte) : Device × Bool :=
  if d.flashUnit u = blankUnit then ((d.putUnit u bs).noteBlock (u / 2048), true) else (d, false)

/-- Program units in order, up to the first that is not erased. -/
def programUnits : Device → Nat → Nat → List Byte → Device × Bool
  | d, _, 0, _ => (d, true)
  | d, u, n + 1, bs =>
    if d.flashUnit u = blankUnit then programUnits (d.putUnit u (bs.take 32)) (u + 1) n (bs.drop 32) else (d, false)

/-! ### Slots -/

/-- The first unit of a slot. -/
def slotUnit (s : Nat) : Nat := s * 196608

/-- The marker units of R453, by slot offset. -/
def mkValid : Nat := 0x200
def mkArmed : Nat := 0x220
def mkGood : Nat := 0x240
def mkRetired : Nat := 0x260
def mkSeq : Nat := 0x280

def marker (d : Device) (s off : Nat) : Bool := d.flashUnit (slotUnit s + off / 32) != blankUnit

def setMarker (d : Device) (s off : Nat) : Device :=
  if d.marker s off then d else d.putUnit (slotUnit s + off / 32) markUnit

def trialsUsed (d : Device) (s : Nat) : Nat := ((List.range 15).filter (fun k => d.marker s (0x300 + 32 * k))).length

def slotSeq (d : Device) (s : Nat) : Nat := leNat ((d.flashUnit (slotUnit s + mkSeq / 32)).take 4)

/-- FWS_SLOT_x.STATE (R453). -/
def slotState (d : Device) (s : Nat) : Nat :=
  if !d.marker s mkValid then 0 else if d.marker s mkRetired then 3 else if d.marker s mkGood then 2 else 1

/-- The descriptor's RELEASE. -/
def slotRelease (d : Device) (s : Nat) : Nat := leField (d.flashBytes (slotUnit s) 1) 8 4

/-- The identity words of GEN that no register holds: GEN_ID1, GEN_SERIAL (R548) and GEN_FW; recovery runs no image. -/
def identityReg (d : Device) (off : Nat) : Word :=
  if off = Reg.GEN_ID1 then bitsSet (d.reg off) 7 0 Config.stepping.toNat
  else if off = Reg.GEN_SERIAL_LO then BitVec.ofNat 32 Config.serial.toNat
  else if off = Reg.GEN_SERIAL_HI then BitVec.ofNat 32 (Config.serial.toNat / 4294967296)
  else if off = Reg.GEN_FW then BitVec.ofNat 32 (d.fws.run * 65536 + (if d.fws.run < 2 then d.slotRelease d.fws.run % 65536 else 0))
  else d.reg off

/-- Whether a slot verifies (R452). Its markers are no part of what is signed. -/
def verifies (d : Device) (s : Nat) : Bool :=
  let h := d.flashBytes (slotUnit s) 1
  let body := (d.fws.units.filter (fun (p : Nat × List Byte) => decide (p.1 / 196608 = s) &&
    (decide (p.1 % 196608 < 16) || decide (128 ≤ p.1 % 196608)))).map (fun p => (p.1 % 196608, p.2))
  leField h 0 4 == 0x4C4D5449 && leField h 4 4 == 1 && decide (leField h 12 4 ≤ 6287360) && decide (leField h 16 4 ≤ Config.stepping.toNat)
    && Config.imageSigned body

/-- The slot that holds the last GOOD image: GOOD, not retired, and the higher SEQ. -/
def goodSlot (d : Device) (ok : Nat → Bool) : Option Nat :=
  match ok 0 && d.marker 0 mkGood, ok 1 && d.marker 1 mkGood with
  | true, true => some (if d.slotSeq 0 < d.slotSeq 1 then 1 else 0)
  | true, false => some 0
  | false, true => some 1
  | false, false => none

/-- Whether a slot is ARMED and not GOOD. -/
def onArm (d : Device) (s : Nat) : Bool := d.marker s mkArmed && !d.marker s mkGood

def armed (d : Device) : Bool := d.onArm 0 || d.onArm 1

/-- A marker unit that is neither blank nor set as R453 says is recorded. -/
def oddMarkers (d : Device) (s : Nat) : Device :=
  let q := d.flashUnit (slotUnit s + mkSeq / 32)
  let d := if q = blankUnit ∨ q.drop 4 = List.replicate 28 0xA5 then d else d.eventR 4 0x18 453
  ([mkValid, mkArmed, mkGood, mkRetired] ++ (List.range 15).map (fun k => 0x300 + 32 * k)).foldl (fun d off =>
    let u := d.flashUnit (slotUnit s + off / 32)
    if u = blankUnit ∨ u = markUnit then d else d.eventR 4 0x18 453) d

/-- Boot selection (R455). -/
def bootSelect (d : Device) : Device :=
  let d := (d.oddMarkers 0).oddMarkers 1
  let v0 := d.verifies 0
  let v1 := d.verifies 1
  let live (s : Nat) : Bool := d.marker s mkValid && !d.marker s mkRetired
  let ok (s : Nat) : Bool := live s && (if s = 0 then v0 else v1)
  let bad (s : Nat) : Bool := live s && !(if s = 0 then v0 else v1)
  let d := if bad 0 then d.setMarker 0 mkRetired else d
  let d := if bad 1 then d.setMarker 1 mkRetired else d
  let pick (d : Device) (t : Option Nat) : Device :=
    match d.goodSlot (fun s => ok s && t != some s) with
    | some g => d.setFws { d.fws with run := g, trial := false }
    | none => (d.setFws { d.fws with run := 2, trial := false }).eventR 7 0x18 455
  match if ok 0 && d.onArm 0 then some 0 else if ok 1 && d.onArm 1 then some 1 else none with
  | some t =>
    let n := d.trialsUsed t
    if n < d.fld Fld.FWS_BOOT_CFG_TRIALS ∧ n < 15 then
      (d.setMarker t (0x300 + 32 * n)).setFws { (d.setMarker t (0x300 + 32 * n)).fws with run := t, trial := true }
    else pick ((d.setMarker t mkRetired).raise Reg.FWS_INT_STATUS 4 5) (some t)
  | none => pick d none

/-! ### FW_BEGIN in progress -/

/-- The longest array time of a block erase, in µs (R446). -/
def eraseTime : Nat := 20000

/-- The erases of an FW_BEGIN whose time has passed have ended, in order; after the last the command completes (R454). -/
def flashGo : Nat → Device → Device
  | 0, d => d
  | n + 1, d =>
    match d.fws.job with
    | none => d
    | some j =>
      match j.left with
      | [] => (d.setFws { d.fws with job := none, begun := true }).complete j.fn 0 j.seq stOk 0 0
      | b :: bs =>
        if j.at_ + eraseTime ≤ d.now then
          let d := d.eraseBlock b
          flashGo n (d.setFws { d.fws with job := some { j with left := bs, at_ := j.at_ + eraseTime } })
        else d

/-- An FW_BEGIN is interrupted, by a restart of SC or by bottling: the erase in progress completes, and the command ends with ST_ABORTED
(R451, R458). -/
def flashStop (d : Device) : Device :=
  match d.fws.job with
  | none => d
  | some j =>
    let d := match j.left with
      | b :: _ => d.eraseBlock b
      | [] => d
    (d.setFws { d.fws with job := none }).complete j.fn 0 j.seq stAborted 0 0

/-- Power is lost during an erase (R451): what the block then holds is free (log 2), and its counter does not rise. -/
def flashCut (d : Device) : Device :=
  match d.fws.job with
  | some { left := b :: _, .. } =>
    let n := d.freeCtr
    let d := (List.range 2048).foldl (fun (d : Device) i => d.putUnit (2048 * b + i) ((List.range 32).map (fun k => Config.freeByte n (32 * i + k))))
      d.draw.2
    d.setFws { d.fws with job := none }
  | _ => d.setFws { d.fws with job := none }

/-- HU_TEST_N rises at a watchdog expiry and at a restart of SC (R530): a bank test that it ends is discarded as R108 discards one, and sets no
bit of SUP_HU_STATUS (DEDUCED, log 57). -/
def testStop (d : Device) : Device :=
  if d.hold.testAt.isSome then { d with hold := { d.hold with testAt := none, setStart := false } }.pin "HU_TEST_N" 1 else d

/-- SC starts (R448, R455, R458): the execute-only regions are opened, boot selection runs, boot code closes the booted
slot's code again, and the start is recorded (R464). -/
def scStart (d : Device) : Device :=
  let d := d.flashStop.testStop
  let d := (List.range 8).foldl (fun (d : Device) k => d.setReg (Reg.FWS_XO0 + 4 * k) (bitsSet (d.reg (Reg.FWS_XO0 + 4 * k)) 31 31 0)) d
  let d := d.setFld Fld.FWS_CTRL_XO_LOCK 0
  let d := (d.setFws { d.fws with begun := false, goodAt := d.now }).bootSelect
  let d := if d.fws.run = 2 then d else
    let (a, d) := d.draw                                       -- which blocks hold code is the image's own (log 2)
    let (b, d) := d.draw
    (d.setReg Reg.FWS_XO0 (BitVec.ofNat 32 (2147483648 + (96 * d.fws.run + b % 96) * 65536 + (96 * d.fws.run + a % 96)))).setFld Fld.FWS_CTRL_XO_LOCK 1
  d.event { sev := 2, host := false, src := 0x18, code := 0x10,
            data := leBytes 4 (d.reg Reg.SUP_RTC_SEC).toNat ++ leBytes 4 (d.reg Reg.SUP_RST_STATUS).toNat ++
              [BitVec.ofNat 8 d.fws.run, BitVec.ofNat 8 d.sup.profile] ++ List.replicate 6 0 }

/-- A watchdog expiry restarts the count of R456. -/
def noteWatchdog (d : Device) : Device := d.setFws { d.fws with goodAt := d.now }

/-! ### Profiles -/

/-- The profile that takes effect when `p` is named (R461); sections of unknown TYPE are recorded (R460). -/
def selectProfile (d : Device) (p : Nat) : Device :=
  let ok (q : Nat) : Bool := match d.profiles.find? q with
    | some x => x.valid
    | none => false
  let note (d : Device) : Device := (List.range d.takeProfile.prof.unknown).foldl (fun d _ => d.eventR 2 0x18 460) d.takeProfile
  let use (q : Nat) : Device := { d with sup := { d.sup with profile := q } }
  if ok p then note (use p)
  else match ((List.range 4).filter ok).head? with
    | some q => note ((use q).raise Reg.FWS_INT_STATUS 3 4)
    | none => (use p).takeProfile

/-! ### Learned areas -/

/-- The most units a learned record takes: fast-train values are at most 512 B; the manual does not lay out the others (log 67). -/
def recUnitsMax : Nat := 17

/-- A learned record of the active profile is written (R460): it takes units of the block in use; when that is full, SC copies the governing records
into the other block, and only then erases the first. Its length is free (log 67). -/
def learnRec (d : Device) (key : Nat × Nat × Nat) : Device :=
  let p := d.sup.profile
  let a := (d.fws.areas.find? p).getD LearnArea.blank
  let (n, d) := d.draw
  let len := 1 + n % recUnitsMax
  let recs := a.recs.filter (fun r => r.1 != key) ++ [(key, len)]
  let d := d.setFws { d.fws with recCtr := d.fws.recCtr + 1 }
  if a.used + len ≤ 2048 then d.setFws { d.fws with areas := d.fws.areas.put p { a with used := a.used + len, recs := recs } }
  else
    let d := d.setFws { d.fws with areas := d.fws.areas.put p { block := 1 - a.block, used := min 2048 (recs.foldl (fun n r => n + r.2) 0), recs := recs } }
    d.eraseBlock (194 + 4 * p + a.block)

/-! ### What may be programmed and erased -/

/-- Who asks (R449): an update command, FWS_CMD, PROFILE_WRITE. -/
inductive FlashPath where
  | update | command | profile
  deriving DecidableEq, Repr

/-- Whether a program or an erase of a block is permitted (R449). -/
def flashOk (d : Device) (b : Nat) (p : FlashPath) : Bool :=
  let reg := d.flag Fld.FWS_CTRL_REG_PGM_EN || d.fws.run == 2
  if b < 192 then
    let s := b / 96
    let last := d.goodSlot (fun s => d.marker s mkValid && !d.marker s mkRetired)
    if s = d.fws.run || (d.fws.trial && last == some s) then false
    else p == .update || (p == .command && reg)
  else if b < 208 then
    decide ((b - 192) % 4 < 2) && ((p == .profile && !d.flag Fld.FWS_CTRL_PROF_WP) || (p == .command && reg))
  else false

end Device
end Sys2Proof.Machine
end

