-- ==== Sys2Proof/Machine/Store.lean ====
section
/-! DEFINITION. Memory and racks: the bytes of DRAM frames and cellar locations, rack entries and frames (R47, R74,
R77–R79, R90, R92), dirty bytes (R103), the newest value a reader may see (R21, R46, R52). -/

namespace Sys2Proof.Machine

/-- The key of byte `o` of DRAM frame `f`. -/
def dramKey (f o : Nat) : Nat := 65536 * f + o

/-- The key of byte `o` of the rack copy whose first cellar page is at CPTR `c`. -/
def cellKey (c o : Nat) : Nat := 2 ^ 60 + 65536 * c + o

/-- What a byte of memory that nothing has written reads as (log 3). -/
def memDflt (_ : Nat) : Byte := 0

/-- The key of a rack entry. -/
def rackKey (cask idx : Nat) : Nat := 2 ^ 36 * cask + idx

/-- The cells of `m` in [src, src + n), moved to start at dst. -/
def shiftCells (m : List Host.Cell) (src dst n : Nat) : List Host.Cell :=
  (m.filter (fun p => decide (src ≤ p.1 ∧ p.1 < src + n))).map (fun p => (p.1 - src + dst, p.2))

/-- `m` with the cells in [a, a + n) replaced by `cs`. -/
def spliceCells (m : List Host.Cell) (a n : Nat) (cs : List Host.Cell) : List Host.Cell :=
  m.filter (fun p => decide (p.1 < a)) ++ cs ++ m.filter (fun p => decide (a + n ≤ p.1))

/-- The cells that bytes stored from a key upward leave: none for a byte that an unlisted cell reads as. -/
def runCells : Nat → List Byte → List Host.Cell
  | _, [] => []
  | k, b :: bs => if b = memDflt k then runCells (k + 1) bs else (k, b) :: runCells (k + 1) bs

/-- The first `n` bytes of a run, which zeros follow. -/
def fitBytes (n : Nat) (bs : List Byte) : List Byte := bs.take n ++ List.replicate (n - bs.length) 0

/-- The racks that a byte range touches, by index. -/
def racksOf (off len : Nat) : List Nat :=
  if len = 0 then [] else (List.range ((off + len - 1) / 65536 + 1 - off / 65536)).map (fun i => off / 65536 + i)

/-- The length that a write covers. -/
def opLen : WriteOp → Nat
  | .data bs => bs.length
  | .zero n => n
  | .cas w _ _ => w
  | .fadd _ => 8
  | .metadata _ => 0

/-- The pages of rack `idx` that a byte range touches. -/
def pagesOf (idx off len : Nat) : List Nat :=
  (List.range 16).filter (fun p => decide (off < idx * 65536 + p * 4096 + 4096 ∧ idx * 65536 + p * 4096 < off + len))

/-- A page mask from a list of pages. -/
def maskOf (ps : List Nat) : BitVec 16 := ps.foldl (fun m p => m ||| pageBit p) 0

/-- What a record leaves at byte `a` of a cask, if it covers that byte (R46). A deletion, a shrink or a creation leaves zeros (R73, R74). -/
def recByte (w : WireRec) (cask a : Nat) : Option Byte :=
  match w.metaOp with
  | some (.caskDelete id) => if id = cask then some 0 else none
  | some (.caskCreate id _) => if id = cask then some 0 else none
  | some (.caskModify id e m) => if id = cask ∧ natBit m 9 ∧ e.size * 65536 ≤ a then some 0 else none
  | some (.caskImage id none) => if id = cask then some 0 else none
  | some _ => none
  | none =>
    if w.cask = cask ∧ w.off ≤ a ∧ a < w.off + w.len then
      (if w.zero then some 0 else some (w.bytes.getD (a - w.off) 0))
    else none

/-- The newest record of a list (newest first) that covers a byte. -/
def newestByte (rs : List VRecord) (cask a : Nat) : Option Byte :=
  match rs with
  | [] => none
  | r :: rest =>
    match recByte r.wire cask a with
    | some b => some b
    | none => newestByte rest cask a

/-- KIND, CASK_ID, the 64 KiB unit within its area and the page in it, of a metadata page (R125). Where the absence-map area keeps a bit is the
firmware's (log 2). -/
def MetaPage.place : MetaPage → Nat × Nat × Nat × Nat
  | .rackTable c p => (1, c, p / 16, p % 16)
  | .caskTable p => (2, 0, p / 16, p % 16)
  | .grantTable p => (3, 0, p / 16, p % 16)
  | .absence p => (4, 0, Config.mapPage (4 * p) / 16 % 2 ^ 36, Config.mapPage (4 * p) % 16)
  | .absCask p => (4, 0, Config.mapPage (4 * p + 1) / 16 % 2 ^ 36, Config.mapPage (4 * p + 1) % 16)
  | .absGrant p => (4, 0, Config.mapPage (4 * p + 2) / 16 % 2 ^ 36, Config.mapPage (4 * p + 2) % 16)
  | .epochTable => (4, 0, Config.mapPage 3 / 16 % 2 ^ 36, Config.mapPage 3 % 16)

namespace Device

def memByte (d : Device) (k : Nat) : Byte := AMap.getD memDflt d.mem k

/-- The `n` bytes from key `k` of cells that begin at `k` or above. -/
def cellBytes : List Host.Cell → Nat → Nat → List Byte
  | _, _, 0 => []
  | [], k, n + 1 => memDflt k :: cellBytes [] (k + 1) n
  | (a, b) :: m, k, n + 1 => if a = k then b :: cellBytes m (k + 1) n else memDflt k :: cellBytes ((a, b) :: m) (k + 1) n

/-- The `n` bytes of memory from key `k` upward. -/
def memRun (d : Device) (k n : Nat) : List Byte := cellBytes (d.mem.filter (fun p => decide (k ≤ p.1))) k n

/-- Store bytes from a key upward. -/
def setBytes (d : Device) (k : Nat) (bs : List Byte) : Device := { d with mem := spliceCells d.mem k bs.length (runCells k bs) }

/-- Make [a, a + n) read as memory that nothing has written. -/
def clearBytes (d : Device) (a n : Nat) : Device := { d with mem := spliceCells d.mem a n [] }

/-- Copy the `n` bytes at `src` to `dst`. -/
def copyBytes (d : Device) (src dst n : Nat) : Device :=
  { d with mem := spliceCells d.mem dst n (shiftCells d.mem src dst n) }

def rack (d : Device) (cask idx : Nat) : Rack := (d.csk.racks.find? (rackKey cask idx)).getD Rack.blank

def setRack (d : Device) (cask idx : Nat) (r : Rack) : Device :=
  { d with csk := { d.csk with racks := AMap.setD (fun _ => Rack.blank) d.csk.racks (rackKey cask idx) r } }

/-- The target generation (R124): the ERASED one; with both ERASED, the one not used last. -/
def targetGen (d : Device) : Option Nat :=
  match d.hold.genE.state == .erased, d.hold.genO.state == .erased with
  | true, true => some (1 - d.hold.lastGen)
  | true, false => some 0
  | false, true => some 1
  | false, false => none

/-- A metadata page of reserved DRAM becomes dirty (R78, R103); while no generation is ERASED it is written home before
the change counts (R152), and the reserved-area map follows (R133). The write goes to both copies (R308). -/
def dirtyMeta (d : Device) (p : MetaPage) : Device :=
  let (a, c, u, i) := p.place
  let d := d.writeDup { area := a, cask := c, unit := u, page := i }
  if d.adm.metaDirty.contains p then d
  else if d.rst.svcOpen && d.targetGen.isNone then { d with hold := { d.hold with mapNo := d.hold.mapNo + 1 } }
  else { d with adm := { d.adm with metaDirty := d.adm.metaDirty ++ [p] } }

/-- Change a rack entry; its rack-table page becomes dirty when a persistent field changes (R77, R78). -/
def putRack (d : Device) (cask idx : Nat) (r : Rack) : Device :=
  let o := d.rack cask idx
  let d := d.setRack cask idx r
  if o.cptr = r.cptr ∧ o.cvalid = r.cvalid ∧ o.vault = r.vault then d else d.dirtyMeta (.rackTable cask (idx / 256))

/-- Frames that hold a rack, or that a cellar read in flight will need (R92). -/
def framesUsed (d : Device) : Nat := (d.csk.racks.filter (fun p => p.2.res || p.2.fetch)).length

def framesFree (d : Device) : Nat := d.csk.frames - d.framesUsed

/-- Whether a rack lies in an open stream's window (R90, R95). -/
def inWindow (d : Device) (cask idx : Nat) : Bool :=
  d.csk.streams.any (fun p => p.2.cask == cask && decide (p.2.pos ≤ idx ∧ idx < p.2.pos + p.2.look))

/-- Whether a translated request that is not yet placed or served targets a rack (R90). -/
def targeted (d : Device) (cask idx : Nat) : Bool :=
  let w (r : WriteReq) : Bool := r.cask == cask && (racksOf r.off (opLen r.op)).contains idx
  d.pst.reads.any (fun r => r.cask == cask && (racksOf r.off r.len).contains idx) || d.mir.step10.any w || d.adm.held.any w || d.pst.placeWait.any w

/-- Whether a rack is one of a PIN_DRAM cask. -/
def pinned (d : Device) (k : Nat) : Bool :=
  match d.csk.casks.find? (k / 2 ^ 36) with
  | some e => decide (e.place = .pinDram)
  | none => false

/-- Whether a rack is evictable (R90), those of PIN_DRAM casks only while frames are short (R324). -/
def evictable (d : Device) (k : Nat) (r : Rack) : Bool :=
  let cask := k / 2 ^ 36
  r.res && decide (r.dirty = 0) && !r.wb && !r.fetch && !d.targeted cask (k % 2 ^ 36) && !d.inWindow cask (k % 2 ^ 36)
    && (!d.pinned k || d.drm.short)

/-- Free plus evictable frames (R92). A pinned rack that R324 lets go counts once it has gone (DEDUCED, log 66). -/
def framesReady (d : Device) : Nat := d.framesFree + (d.csk.racks.filter (fun p => d.evictable p.1 p.2 && !d.pinned p.1)).length

/-- Take a frame: a returned one first, else the lowest never taken that lies on no retired channel. Which frame is taken
is the model's own choice (log 13). -/
def takeFrame (d : Device) : Nat × Device :=
  match d.csk.freeFrames with
  | f :: rest => (f, { d with csk := { d.csk with freeFrames := rest } })
  | [] =>
    let f := (((List.range 24).map (fun i => d.csk.nextFrame + i)).filter (fun f => !d.frameLost f)).headD d.csk.nextFrame
    (f, { d with csk := { d.csk with nextFrame := f + 1 } })

/-- Return a frame to the free pool, unless its channel has been retired (R323); its bytes are read no more. -/
def dropFrame (d : Device) (f : Nat) : Device :=
  let d := d.clearBytes (dramKey f 0) 65536
  if d.frameLost f then d else { d with csk := { d.csk with freeFrames := d.csk.freeFrames ++ [f] } }

/-- A frame has been freed by step 2 or step 3 of R324. -/
def noteFreed (d : Device) (on : Bool) : Device := if d.drm.short && on then d.setDrm { d.drm with freed := d.drm.freed + 1 } else d

/-- Evict a rack (R90): RES and PRESENT clear, the frame is free again, no data moves. -/
def evictRack (d : Device) (cask idx : Nat) : Device :=
  let r := d.rack cask idx
  if r.res then
    (((d.noteFreed (d.pinned (rackKey cask idx))).dropFrame r.frame).setRack cask idx { r with res := false, present := 0, frame := 0, acc := 0 }).bumpPair Reg.CSK_EVICT_CNT_LO
  else d

/-- The tier and order of R91 for eviction: lower goes first. -/
def evictRank (d : Device) (k : Nat) (r : Rack) : Nat :=
  let cask := k / 2 ^ 36
  match d.csk.casks.find? cask with
  | some e =>
    match e.place with
    | .pinDram => r.acc                -- R324: evictable only after a retirement, and then first
    | .streamed =>
      let ss := d.csk.streams.filter (fun s => s.2.cask == cask)
      (if ss.isEmpty || ss.any (fun s => decide (k % 2 ^ 36 < s.2.pos)) then 16 else 32) + r.acc
    | .cellarOk => 48 + r.acc
    | .preferDram => 64 + r.acc
  | none => r.acc

/-- The evictable racks, the first to go first (R91). Among racks of equal ACC the lowest key goes first (log 13). -/
def evictOrder (d : Device) : List (Nat × Rack) :=
  sortBy (fun a b => decide (d.evictRank a.1 a.2 ≤ d.evictRank b.1 b.2)) (d.csk.racks.filter (fun p => d.evictable p.1 p.2))

/-- Evict the first rack in the order of R91, if one is evictable. -/
def evictFirst (d : Device) : Device :=
  match d.evictOrder with
  | (k, _) :: _ => d.evictRack (k / 2 ^ 36) (k % 2 ^ 36)
  | [] => d

/-- Give a rack a frame when it has none (R47): with no frame free, one of an evictable rack (R92). -/
def ensureFrame (d : Device) (cask idx : Nat) : Device :=
  let r := d.rack cask idx
  if r.res then d.wakeFrame r.frame
  else
    let d := if d.framesFree = 0 then d.evictFirst else d
    let (f, d) := d.takeFrame
    (d.setRack cask idx { r with res := true, frame := f, present := 0 }).wakeFrame f

/-- Free a rack (R74): its frame returns, its dirty pages stop counting, its cellar pages are released, and it is
unwritten. -/
def freeRack (d : Device) (cask idx : Nat) : Device :=
  let r := d.rack cask idx
  let d := if r.res then d.dropFrame r.frame else d
  let d := d.putRack cask idx Rack.blank
  let k := rackKey cask idx
  { d with
    csk := { d.csk with
      poison := d.csk.poison.filter (fun p => decide (p / 16 ≠ k))
      wbJobs := d.csk.wbJobs.del k
      fetchWait := d.csk.fetchWait.filter (fun x => decide (x ≠ k))
      urgent := d.csk.urgent.filter (fun x => decide (x ≠ k)) }
    mir := { d.mir with pfetch := d.mir.pfetch.filter (fun f => !(f.cask == cask && f.rack == idx)) } }

/-- Free every rack of a cask from an index on. -/
def freeRacksFrom (d : Device) (cask idx : Nat) : Device :=
  let ks := (d.csk.racks.keys.filter (fun k => decide (k / 2 ^ 36 = cask ∧ idx ≤ k % 2 ^ 36))).map (· % 2 ^ 36)
  ks.foldl (fun d i => d.freeRack cask i) d

/-- Dirty pages (R103): data pages with DIRTY set, and dirty metadata pages. -/
def dirtyPages (d : Device) : Nat :=
  d.csk.racks.foldl (fun a p => a + popcount16 p.2.dirty) 0 + d.adm.metaDirty.length

/-- The records of the cascade vintages that have closed and are not sealed (R494), oldest first. -/
def closed (d : Device) : List VRecord := (d.trl.closing.map (fun (p : Nat × List VRecord) => p.2)).flatten

/-- The records that a reader from source `x` may see, newest first (R21, R52): its own in the open vintage and in
sealed ones, and everyone's in committed ones numbered at most `snap`. A LOCAL write whose completion went out at its seal is so hidden
from other sources until its vintage commits: R52 is followed, not the wider words of R54 (DESIGN CHOICE, log 40). -/
def visible (d : Device) (x : Source) (snap : Nat) : List VRecord :=
  let mine (rs : List VRecord) : List VRecord := rs.filter (fun r => r.src == x)
  (mine (d.closed ++ d.pst.openRecs)).reverse ++
    (d.pst.vints.reverse.map (fun v =>
      if (v.state = .committed ∨ d.trl.mode = 1 ∨ d.trl.mode = 2) ∧ v.num ≤ snap then v.recs.reverse else (mine v.recs).reverse)).flatten

/-- Every placed record, newest first: what an atomic and a resync record read (R55, R189). -/
def placed (d : Device) : List VRecord :=
  (d.closed ++ d.pst.openRecs).reverse ++ (d.pst.vints.reverse.map (fun v => v.recs.reverse)).flatten

/-- Where page `p` of the copy at CPTR `c` of a rack lies: a vault copy gives the pages of its MASK, and the copy before it the
others; a chain is at most two deep (R138). None: a page that no copy gives, which reads zero. -/
def copyHome (d : Device) (key p : Nat) : Nat → Nat → Option Nat
  | 0, c => some c
  | n + 1, c =>
    let hit (g : VaultGen) : Option VaultRack :=
      match g.racks.find? key with
      | some e => if e.vaddr = c then some e else none
      | none => none
    match (hit d.hold.genE).or (hit d.hold.genO) with
    | none => some c
    | some e =>
      if page? e.mask p then some c
      else match e.prev with
        | some q => copyHome d key p n q
        | none => none

/-- The copies that a read of a rack's home data may use: the one at CPTR `c`, and those behind a vault copy (R138, R148). -/
def copyChain (d : Device) (key : Nat) : Nat → Nat → List Nat
  | 0, c => [c]
  | n + 1, c =>
    let prev (g : VaultGen) : Option Nat := (g.racks.find? key).bind (fun e => if e.vaddr = c then e.prev else none)
    match (prev d.hold.genE).or (prev d.hold.genO) with
    | some q => c :: copyChain d key n q
    | none => [c]

/-- The channels that such a read uses. -/
def fetchChans (d : Device) (key : Nat) : List Nat :=
  nubNat ((d.copyChain key 2 ((d.csk.racks.find? key).getD Rack.blank).cptr).map (fun c => copyChans c d.ppbLog2)).flatten

/-- The 4,096 bytes of a page of the copy at CPTR `c`. -/
def copyPage (d : Device) (key p c : Nat) : List Byte :=
  match d.copyHome key p 2 c with
  | some h => d.memRun (cellKey h (p * 4096)) 4096
  | none => List.replicate 4096 0

/-- The 4,096 bytes of page `p` of a rack below staging: its frame when the page is present, zeros when unwritten or never flushed, else
the cellar or vault copy that the rack's home chain gives. -/
def rackPage (d : Device) (cask idx p : Nat) : List Byte :=
  let r := d.rack cask idx
  if r.res ∧ page? r.present p then d.memRun (dramKey r.frame (p * 4096)) 4096
  else if !r.cvalid || !r.homed then List.replicate 4096 0
  else d.copyPage (rackKey cask idx) p r.cptr

/-- The bytes of a range of a cask below staging. -/
def rackBytes (d : Device) (cask off len : Nat) : List Byte :=
  let first := off / 4096
  let pages := if len = 0 then [] else List.range ((off + len - 1) / 4096 + 1 - first)
  (((pages.map (fun i => d.rackPage cask ((first + i) / 16) ((first + i) % 16))).flatten).drop (off % 4096)).take len

/-- The bytes of a range as a reader of the records `rs` (newest first) sees them. -/
def seenBytes (d : Device) (rs : List VRecord) (cask off len : Nat) : List Byte :=
  (d.rackBytes cask off len).mapIdx (fun i b => (newestByte rs cask (off + i)).getD b)

/-- The bytes of a read under its snapshot (R21, R52, R53). -/
def readBytes (d : Device) (x : Source) (snap cask off len : Nat) : List Byte := d.seenBytes (d.visible x snap) cask off len

/-- The bytes of the newest placed value (R55). -/
def newestBytes (d : Device) (cask off len : Nat) : List Byte := d.seenBytes d.placed cask off len

/-- Whether staging covers every byte of a range that lies in page `p` of rack `idx`. -/
def pageStaged (rs : List VRecord) (cask idx p off len : Nat) : Bool :=
  (List.range 4096).all (fun i =>
    let a := idx * 65536 + p * 4096 + i
    decide (a < off) || decide (off + len ≤ a) || (newestByte rs cask a).isSome)

/-- Whether a page's data is at hand: staged, present, or known to be zero. -/
def pageAtHand (d : Device) (rs : List VRecord) (cask idx p off len : Nat) : Bool :=
  let r := d.rack cask idx
  (r.res && page? r.present p) || !r.cvalid || !r.homed || pageStaged rs cask idx p off len

/-- The racks of a range that must be fetched before a read can be served (R21). -/
def racksMissing (d : Device) (rs : List VRecord) (cask off len : Nat) : List Nat :=
  (racksOf off len).filter (fun i => !(pagesOf i off len).all (fun p => d.pageAtHand rs cask i p off len))

/-- Whether a page is poisoned (R320) or is being recovered from the twin (R193). -/
def pagePoisoned (d : Device) (cask idx p : Nat) : Bool := d.csk.poison.contains (16 * rackKey cask idx + p)

def pageRefetch (d : Device) (cask idx p : Nat) : Bool :=
  d.mir.pfetch.any (fun f => f.cask == cask && f.rack == idx && f.page == p)

/-- Set ACC of the racks a request touches to 15 (R91). -/
def touchRacks (d : Device) (cask off len : Nat) : Device :=
  (racksOf off len).foldl (fun d i =>
    let r := d.rack cask i
    if r.res then (d.setRack cask i { r with acc := 15 }).wakeFrame r.frame else d) d

/-- Whether the apply reserve keeps a read of a rack from a frame (R92), or the recovery from a retirement that went below it (R324). -/
def reserveHolds (d : Device) (r : Rack) : Bool := !r.res && (d.drm.short || decide (d.framesReady < 524288))

/-- Issue a cellar read of a rack unless one is in flight (R21, R79), for a demand fetch, a lookahead or a fill (R100). Below the apply
reserve it waits (R92). -/
def issueFetch (d : Device) (cask idx : Nat) : Device :=
  let r := d.rack cask idx
  let k := rackKey cask idx
  if r.fetch || !r.cvalid || !r.homed then d
  else if d.reserveHolds r then
    if d.csk.fetchWait.contains k then d else { d with csk := { d.csk with fetchWait := d.csk.fetchWait ++ [k] } }
  else ({ d with csk := { d.csk with fetchWait := d.csk.fetchWait.filter (fun x => decide (x ≠ k)) } }.setRack cask idx { r with fetch := true }).bumpPair
    Reg.CSK_FETCH_CNT_LO

/-- The cellar read of a rack is a demand fetch: class C1, at the head of its channels' queues (R97, R148). -/
def urgeFetch (d : Device) (cask idx : Nat) : Device :=
  let k := rackKey cask idx
  if d.csk.urgent.contains k then d else { d with csk := { d.csk with urgent := d.csk.urgent ++ [k] } }

/-- The reads that the apply reserve held off are issued as far as it now allows, those of class C1 first (R92). -/
def pumpFetch (d : Device) : Device :=
  let ks := d.csk.fetchWait
  let first := ks.filter (fun k => d.csk.urgent.contains k)
  (first ++ ks.filter (fun k => !d.csk.urgent.contains k)).foldl (fun (d : Device) k => d.issueFetch (k / 2 ^ 36) (k % 2 ^ 36)) d

/-- The background fill of a cask that has become PIN_DRAM (R89, R94): every written rack, in ascending index. -/
def fillCask (d : Device) (cask : Nat) : Device :=
  (d.csk.racks.keys.filter (fun k => decide (k / 2 ^ 36 = cask))).foldl (fun (d : Device) k =>
    let r := d.rack cask (k % 2 ^ 36)
    if r.res && r.present == allPages then d else d.issueFetch cask (k % 2 ^ 36)) d

end Device
end Sys2Proof.Machine
end

