-- ==== Sys2Proof/Machine/KeyArea.lean ====
section
/-! DEFINITION. The key-wrap area of the embedded flash (R373, R374): the KEK share and the slot table. -/

namespace Sys2Proof.Machine

/-- The first 16 bytes of a record of the slot table (R374): slot number, attributes, tombstone flag and record counter. The attributes lie as
CPH_K_ATTR has them, and the fields are little-endian (log 56). -/
def recHead (slot : Nat) (k : KeySlot) (tomb : Bool) (ctr : Nat) : List Byte :=
  leBytes 4 (slot % 4096 + (k.use % 16 + b2n k.len256 * 16 + b2n k.persist * 32) * 4096 + b2n tomb * 2147483648) ++ leBytes 12 ctr

/-- The IV that the record counter gives, in words. -/
def recIv (ctr : Nat) : List Word := [BitVec.ofNat 32 ctr, BitVec.ofNat 32 (ctr / 2 ^ 32), BitVec.ofNat 32 (ctr / 2 ^ 64), 0]

/-- A record of 128 bytes under the slot-wrap key `kwk` (R374). -/
def keyRecord (kwk : List Byte) (slot : Nat) (k : KeySlot) (tomb : Bool) (ctr : Nat) : List Byte :=
  let head := recHead slot k tomb ctr
  let key := (k.key.map (fun w => leBytes 4 w.toNat)).flatten
  let enc := fitBytes 64 (Config.aesEncrypt modeGcm kwk (recIv ctr) 16 (head ++ fitBytes 64 key))
  head ++ enc ++ fitBytes 16 (Config.aesTag modeGcm kwk (recIv ctr) 16 (head ++ enc)) ++ List.replicate 32 0

namespace Device

/-- The slot-wrap key of R372. -/
def slotWrapKey (d : Device) : List Byte := Config.hwKey (d.cph.share.getD 0) 2

/-- The first flash unit of a block of the key-wrap area: 0 the share, 1 and 2 the slot table. -/
def keyBlkUnit (b : Nat) : Nat := 2048 * (224 + b)

def setKeyArea (d : Device) (x : KeyArea) : Device := { d with cph := { d.cph with area := x } }

/-- Write the two copies of the share into block 0 (R373). -/
def putShare (d : Device) (share : Nat) : Device :=
  (List.range 2).foldl (fun (d : Device) i => (d.programUnits (keyBlkUnit 0 + 64 * i) 4 (fitBytes 128 (Config.shareRecord share i))).1) d

/-- Put a record's bytes into the block in use, after the records that are there. -/
def putKeyRec (d : Device) (slot : Nat) (bs : List Byte) (live : Bool) : Device :=
  let a := d.cph.area
  let d := (d.programUnits (keyBlkUnit a.block + 4 * a.used) 4 bs).1
  d.setKeyArea { a with used := a.used + 1, at_ := if live then a.at_.put slot a.used else a.at_.del slot }

/-- The bytes of a record of the block in use. -/
def recBytes (d : Device) (i : Nat) : List Byte := d.flashBytes (keyBlkUnit d.cph.area.block + 4 * i) 4

/-- Copy the governing records of the other slots into the other block, and then erase the first (R374). -/
def compactKeys (d : Device) (slot : Nat) : Device :=
  let old := d.cph.area
  let rs := (old.at_.filter (fun p => decide (p.1 ≠ slot))).map (fun (p : Nat × Nat) => (p.1, d.recBytes p.2))
  let d := d.setKeyArea { old with block := 3 - old.block, used := 0, at_ := [] }
  let d := rs.foldl (fun (d : Device) r => d.putKeyRec r.1 r.2 true) d
  d.eraseBlock (224 + old.block)

/-- A change of a persistent slot appends a record (R374): its key, or a tombstone when it is no longer persistent. The record counter never
repeats. -/
def appendKey (d : Device) (slot : Nat) (k : KeySlot) (tomb : Bool) : Device :=
  let d := if d.cph.area.used < 512 then d else d.compactKeys slot
  let ctr := d.cph.area.counter
  let d := d.setKeyArea { d.cph.area with counter := ctr + 1 }
  d.putKeyRec slot (keyRecord d.slotWrapKey slot k tomb ctr) (!tomb)

/-- Change the slot table: the key of a persistent slot, or none. A slot that had no record, and has none now, appends nothing. -/
def tableSet (d : Device) (slot : Nat) (k : Option KeySlot) : Device :=
  match k with
  | some k => ({ d with cph := { d.cph with table := d.cph.table.put slot k } }).appendKey slot k false
  | none =>
    match d.cph.table.find? slot with
    | some k => ({ d with cph := { d.cph with table := d.cph.table.del slot } }).appendKey slot k true
    | none => d

/-- Whether the governing record of a slot unwraps (R374): its tag is right. -/
def recGood (d : Device) (slot : Nat) : Bool :=
  match d.cph.area.at_.find? slot with
  | some i =>
    let r := d.recBytes i
    r.drop 80 |>.take 16 |> fun t => t == fitBytes 16 (Config.aesTag modeGcm d.slotWrapKey (recIv (leNat ((r.drop 4).take 12))) 16 (r.take 80))
  | none => false

/-- The key-wrap area is erased (R383): the share, and then both blocks of the slot table. -/
def wipeKeys (d : Device) : Device :=
  let d := ({ d with cph := { d.cph with share := none } }).eraseBlock 224
  let d := (d.eraseBlock 225).eraseBlock 226
  { d with cph := { d.cph with table := [], erased := true, area := { d.cph.area with block := 1, used := 0, at_ := [] } } }

/-- The slots that are unwrapped at power-up (R374): a record whose tag fails is skipped, with an event. -/
def unwrapSlots (d : Device) : Device :=
  let bad := d.cph.table.filter (fun p => !d.recGood p.1)
  let d := { d with cph := { d.cph with slots := d.cph.table.filter (fun p => d.recGood p.1) } }
  bad.foldl (fun (d : Device) _ => d.eventR 4 (Reg.CPH_CTRL / 65536) 374) d

end Device
end Sys2Proof.Machine
end

