-- ==== Sys2Proof/Machine/Admit.lean ====
section
/-! DEFINITION. Translation (R87, R88), the dirty limit and write admission (R104, R110–R116, R180). -/

namespace Sys2Proof.Machine

/-- CSK_LAST_REJECT.ENTRY of a path. -/
def pathEntry : Path → Nat
  | .ring _ => 0
  | .roce _ _ => 1
  | .pdt _ _ _ => 2
  | .device => 3

/-- The slot index of a path's handle. -/
def pathSlot : Path → Nat
  | .roce h _ => h % 1048576
  | .pdt h _ _ => h % 1048576
  | _ => 0

/-- Distinct 4 KiB pages that a range covers (R104). -/
def pagesCovered (off len : Nat) : Nat := if len = 0 then 0 else (off + len - 1) / 4096 - off / 4096 + 1

/-- The page charge of a write, in bytes (R104). -/
def chargeOf (off : Nat) : WriteOp → Nat
  | .metadata _ => 4 * 4096
  | op => 4096 * (pagesCovered off (opLen op) + 2)

/-- The bytes that a record counts toward VINT_MAX_BYTES and staging (R44). -/
def sizeOf : WriteOp → Nat
  | .data bs => 64 + roundUp bs.length 64
  | .metadata _ => 64
  | _ => 128

/-- A generation whose contents are not needed any more, or are not to be restored (R124): RELEASED, with no block erased yet. -/
def VaultGen.dropped (v : VaultGen) : VaultGen :=
  { v with state := .released, erased := 0, racks := [], spine := none, copyA := false, copyB := false, index := [], idxAt := [], dir := [] }

namespace Device

def grant (d : Device) (slot : Nat) : GrantEntry := (d.csk.grants.find? slot).getD GrantEntry.blank

/-- Step 1 of R87: whether the range fails it. -/
def badRange (off len : Nat) : Bool := decide (2 ^ 52 ≤ off ∨ len = 0 ∨ 2 ^ 52 < off + len)

/-- Step 2 of R87: whether the handle names a LIVE slot of its generation. -/
def liveHandle (d : Device) (h : Nat) : Bool :=
  (d.grant (h % 1048576)).state == .live && (d.grant (h % 1048576)).gen == h / 1048576 % 4096

/-- Steps 2 to 5 of R87, the grant path: the failing status, or none. -/
def grantCheck (d : Device) (h : Nat) (transportOk : GrantEntry → Bool) (acc : Access) (off len : Nat) : Option Nat :=
  let g := d.grant (h % 1048576)
  if !d.liveHandle h then some stStaleGen
  else if !transportOk g then some stProt
  else if !(match acc with
      | .read => g.rd
      | .write => g.wr
      | .atomic => g.atom) then some stProt
  else if off < g.base ∨ g.base + g.len < off + len then some stRange
  else none

/-- The cask that a path names: the grant's, or the one the request gives. -/
def pathCask (d : Device) (p : Path) (cask : Nat) : Nat :=
  match p with
  | .roce h _ => (d.grant (h % 1048576)).cask
  | .pdt h _ _ => (d.grant (h % 1048576)).cask
  | _ => cask

/-- Steps 1 to 9 of R87: the status of the first check that fails. -/
def checks (d : Device) (p : Path) (acc : Access) (cask off len : Nat) : Option Nat :=
  if badRange off len then some stRange
  else
    let onGrant := match p with
      | .roce h q => d.grantCheck h (fun g => g.roceOk && (g.bind == 0 || (g.bind == 1 && g.bindId == q)) && !g.gcmReq) acc off len
      | .pdt h s gcm => d.grantCheck h (fun g => g.pdtOk && (g.bind == 0 || (g.bind == 2 && g.bindId == s)) && (!g.gcmReq || gcm) && (!gcm || d.slotPermits g.gcmSlot 1)) acc off len
      | _ => none
    match onGrant with
    | some st => some st
    | none =>
      let onRing := match p with
        | .ring _ => true
        | _ => false
      match d.csk.casks.find? (d.pathCask p cask) with
      | none => some (if onRing || p == .device then stProt else stStaleGen)
      | some e =>
        let domOk := match p with
          | .ring fn => d.fld Fld.HRG_FN_CFG_PDOM fn == e.pdom
          | _ => true
        if !domOk then some stProt
        else if !(match acc with
            | .read => e.rd
            | .write => e.wr
            | .atomic => e.atom) then some stProt
        else if e.size * 65536 < off + len then some stRange
        else none

/-- Count a rejection at steps 1 to 9 (R88, R99). -/
def noteReject (d : Device) (p : Path) (st : Nat) : Device :=
  let d := d.setReg Reg.CSK_LAST_REJECT (BitVec.ofNat 32 (st * 2 ^ 24 + pathEntry p * 2 ^ 22 + pathSlot p))
  if st = stStaleGen then (d.bumpPair Reg.CSK_STALE_CNT_LO).raise Reg.CSK_INT_STATUS 1 2
  else (d.bumpPair Reg.CSK_PROT_CNT_LO).raise Reg.CSK_INT_STATUS 0 2

/-- Whether this unit's role lets it place writes (R160). -/
def placesWrites (d : Device) : Bool := d.mir.role == .active || d.mir.role == .solo

/-! ### The dirty limit -/

/-- The vault generation by its number: 0 even, 1 odd. -/
def gen (d : Device) (g : Nat) : VaultGen := if g = 0 then d.hold.genE else d.hold.genO

def setGen (d : Device) (g : Nat) (v : VaultGen) : Device :=
  { d with hold := if g = 0 then { d.hold with genE := v } else { d.hold with genO := v } }

/-- The vault term of R112, in racks. -/
def vaultCap (d : Device) : Nat :=
  match d.targetGen with
  | some g => d.genRacks (d.gen g).erased * 98 / 100
  | none => 0

/-- DB_LIMIT in racks (R112). -/
def dbLimit (d : Device) : Nat :=
  let plan := d.fld Fld.PST_DB_PLAN_PLAN_RACKS
  let cap := d.fld Fld.PST_DB_CAP_CAP_RACKS
  min (if cap = 0 then plan else min plan cap) d.vaultCap

/-- DB_HIGH in racks (R113). -/
def dbHigh (d : Device) : Nat := d.dbLimit * d.fld Fld.PST_DB_HIGH_HIGH_PCT / 100

/-- D, in bytes (R104). -/
def dirtyD (d : Device) : Nat := 4096 * d.dirtyPages + d.adm.pend

/-- The frame guard (R92). -/
def guardOn (d : Device) : Bool := decide (d.framesReady < 1048576)

/-- Write-behind has cleared dirty bytes (R114); what lies more than 1 ms back counts no more. -/
def noteCleared (d : Device) (n : Nat) : Device :=
  if n = 0 then d
  else { d with adm := { d.adm with cleared := (d.now, n) :: d.adm.cleared.filter (fun p => decide (d.now < p.1 + 1000)) } }

/-- R_WB in bytes per ms: what write-behind has cleared over the preceding 1 ms (R114). -/
def wbRate (d : Device) : Nat := d.adm.cleared.foldl (fun a p => if d.now < p.1 + 1000 then a + p.2 else a) 0

/-- The admission state and R_ADMIT (bytes per µs) that R114 gives for one set of values, in bytes, R_WB in bytes per ms. R_ADMIT is rounded
down to whole bytes per µs (DESIGN CHOICE, log 44). -/
def admitEval (dd limit high rwb : Nat) (stop : Bool) : Admit × Nat :=
  if stop || decide (limit ≤ dd) || limit == 0 then (.stopped, 0)
  else if dd < high then (.opened, 0)
  else (.throttled, 2 * rwb * (limit - dd) / (limit - high) / 1000)

/-- The evaluation with this unit's own values. -/
def admitOwn (d : Device) : Admit × Nat :=
  admitEval d.dirtyD (d.dbLimit * 65536) (d.dbHigh * 65536) d.wbRate (d.guardOn || decide (d.hold.supply ≠ .normal))

/-- The evaluation with the twin's last budget block, which the active unit makes while the twin is attached (R180). -/
def admitTwin (d : Device) : Admit × Nat :=
  if !d.mir.attached || d.mir.role != .active then (.opened, 0)
  else match d.mir.budget with
    | none => (.stopped, 0)
    | some b =>
      if d.mir.budgetAt + 100 ≤ d.now ∨ b.admState = 2 then (.stopped, 0)
      else admitEval (4096 * b.dirtyPages + d.adm.pend) (b.limit * 65536) (b.high * 65536) (b.wbRate * 1000) false

/-- The more restrictive of two evaluations (R180). -/
def admitMeet (a b : Admit × Nat) : Admit × Nat :=
  match a, b with
  | (.stopped, _), _ => (.stopped, 0)
  | _, (.stopped, _) => (.stopped, 0)
  | (.opened, _), x => x
  | x, (.opened, _) => x
  | (.throttled, r), (.throttled, s) => (.throttled, min r s)

/-- The evaluation with another device's last STATUS (R496): STOPPED while none has arrived for 100 µs. -/
def admitDev (d : Device) (i : Nat) : Admit × Nat :=
  match d.trl.devs.find? i with
  | some x => match x.budget with
    | some b =>
      if x.statusAt + 100 ≤ d.now ∨ b.admState = 2 then (.stopped, 0)
      else admitEval (4096 * b.dirtyPages) (b.limit * 65536) (b.high * 65536) (b.wbRate * 1000) false
    | none => (.stopped, 0)
  | none => (.stopped, 0)

/-- The most restrictive evaluation of the other devices of a widen or deepen cascade (R496); OPEN outside one. -/
def admitCascade (d : Device) : Admit × Nat :=
  if d.trl.mode = 1 ∨ d.trl.mode = 2 then
    ((List.range d.trl.n).filter (· != d.trl.id)).foldl (fun a i => admitMeet a (d.admitDev i)) (.opened, 0)
  else (.opened, 0)

def admitNow (d : Device) : Admit × Nat := admitMeet (admitMeet d.admitOwn d.admitTwin) d.admitCascade

/-! ### The clock -/

/-- The greatest credit (R115). -/
def creditCap : Nat := 1060864

/-- R_ADMIT as it is recomputed at moment `t` of a move of the clock, when nothing else changes: only what lies more than 1 ms back, and a
budget block or STATUS older than 100 µs, counts otherwise then (R114, R180, R496). -/
def admitRateAt (d : Device) (t : Nat) : Nat := { d with now := t }.admitNow.2

/-- The moments before `stop` at which R_ADMIT so changes. -/
def rateTurns (d : Device) (stop : Nat) : List Nat :=
  let ts := d.adm.cleared.map (fun p => p.1 + 1000) ++ [d.mir.budgetAt + 100] ++ d.trl.devs.map (fun p => p.2.statusAt + 100)
  (ts.filter (fun t => decide (d.now + 1 < t ∧ t < stop))).foldl (fun (a : List Nat) t => insertNat t a) []

/-- The credit that accrues from moment `t` up to `stop`, R_ADMIT being recomputed every microsecond (R114, R115): it changes at the moments
`turns` alone. -/
def accrued (d : Device) (stop : Nat) : Nat → List Nat → Nat
  | t, [] => d.admitRateAt t * (stop - t)
  | t, m :: turns => d.admitRateAt t * (m - t) + accrued d stop m turns

/-- Admission over `n` microseconds: while THROTTLED the credit accrues at R_ADMIT, in the first microsecond as last recomputed, and while it
is not OPEN the time counts in PST_THROTTLE_US (R114, R115, R129). -/
def admitRun (d : Device) (n : Nat) : Device :=
  if !d.hubOn || d.adm.state == .opened then d
  else
    let more := d.adm.rate * min n 1 + d.accrued (d.now + n) (d.now + 1) (d.rateTurns (d.now + n))
    let d := d.bump Fld.PST_THROTTLE_US_VALUE n
    if d.adm.state = .throttled then { d with adm := { d.adm with credit := min creditCap (d.adm.credit + more) } } else d

/-- Let `n` microseconds pass: the clocks that run while SUP is powered (R465, R443, R551), and admission; VBAT alone keeps the RTC (R434). -/
def advance (d : Device) (n : Nat) : Device :=
  let d := d.admitRun n
  let secs := (d.now + n) / 1000000 - d.now / 1000000
  let d := if d.sup.supOn then d.bumpSat Fld.EVR_OPSEC_VALUE secs else d
  let d := if d.sup.supOn || decide (1000 ≤ d.sup.vbat) then d.rtcRun n else d
  { d with now := d.now + n }

/-- Move the clock to a moment that a timer command claims has come (assumption log 5). -/
def waitUntil (d : Device) (t : Nat) : Device := if d.now < t then d.advance (t - d.now) else d

/-! ### Admission -/

/-- Frames are back above the guard (R324): the background fill of R89 fetches the pinned racks that were evicted. -/
def refillPinned (d : Device) : Device :=
  (d.csk.casks.filter (fun p => p.2.place == .pinDram)).foldl (fun (d : Device) p => d.fillCask p.1) d

/-- Re-evaluate the admission state (R114, R115, R131): a change to THROTTLED or STOPPED sets its bit, and the credit is
0 outside THROTTLED and at each entry to it. -/
def reevalAdmit (d : Device) : Device :=
  let st := d.admitNow.1
  let d : Device := { d with adm := { d.adm with rate := d.admitNow.2 } }
  let d : Device := if d.drm.short && !d.guardOn then Device.refillPinned { d with drm := { d.drm with short := false, freed := 0 } } else d
  let d := if d.guardOn && !d.adm.guard then d.raise Reg.CSK_INT_STATUS 3 3 else d
  let d : Device := { d with adm := { d.adm with guard := d.guardOn } }
  if st = d.adm.state then d
  else
    let d : Device := { d with adm := { d.adm with state := st, credit := 0 } }
    match st with
    | .throttled => d.raise Reg.PST_BDG_INT_STATUS 0 2
    | .stopped => d.raise Reg.PST_BDG_INT_STATUS 1 3
    | .opened => d

/-- PST_DB_PLAN from the newest set and the one before it (R111). -/
def planFrom (d : Device) : Nat :=
  match d.hold.planL, d.hold.planPrev with
  | some l, some p => min l p
  | some l, none => l
  | none, _ => 0

/-- A PST_DB_PLAN value takes effect: PLAN_DROP on a fall (R112). -/
def setPlan (d : Device) (racks : Nat) : Device :=
  let old := d.fld Fld.PST_DB_PLAN_PLAN_RACKS
  let d := d.setFld Fld.PST_DB_PLAN_PLAN_RACKS racks
  let d := if racks < old then d.raise Reg.PST_BDG_INT_STATUS 3 2 else d
  d.reevalAdmit

end Device
end Sys2Proof.Machine
end

