-- ==== Sys2Proof/Machine/Page.lean ====
section
/-! DEFINITION. Pages of the cellar: the page header (R342), the open sequence and the media tweak (R343, R375, R376), the parity of a row (R339),
and the program or erase that keeps a LUN busy, with its suspension (R352). -/

namespace Sys2Proof.Machine

/-- The 32 bytes of a page header (R342). -/
def headBytes (h : PageHead) : List Byte :=
  let b := leBytes 6 h.oseq ++ leBytes 1 h.kind ++ leBytes 1 h.page ++ leBytes 4 (h.cask % 2 ^ 24) ++ leBytes 8 (h.index % 2 ^ 36) ++ leBytes 4 h.sb
    ++ List.replicate 4 0
  b ++ leBytes 4 (crc32c b)

/-- The tweak of 4 KiB unit `u` of the page at CPTR `c`, under open sequence `oseq` (R375): OSEQ × 2^64 + A ÷ 4,096, its low word first. -/
def mediaTweak (oseq c u : Nat) : List Word :=
  (List.range 4).map (fun i => BitVec.ofNat 32 ((oseq * 2 ^ 64 + 4 * c + u) / 2 ^ (32 * i)))

/-- Two runs of bytes XORed, the shorter one followed by zeros. -/
def xorBytes : List Byte → List Byte → List Byte
  | [], ys => ys
  | xs, [] => xs
  | x :: xs, y :: ys => (x ^^^ y) :: xorBytes xs ys

/-- A pad page (R341), whose content the manual does not give. -/
def padPage : List Byte := (List.range 16384).map Config.padByte

/-- The data slot that page `row` of a member is, in its superblock; none: the parity page of its row (R339). -/
def slotNo (member row : Nat) : Option Nat :=
  if member = row % 16 then none else some (15 * row + (if member < row % 16 then member else member - 1))

namespace Device

/-- The media key of a slot (R372, R376). -/
def mediaKey (d : Device) (slot : Nat) : List Byte :=
  if slot < 2 then Config.hwKey (d.cph.share.getD 0) slot
  else match d.keyLoaded slot with
    | some k => keyBytes k modeXts
    | none => []

/-- 16 KiB as they leave the cipher engine for the page at CPTR `c` (R375). -/
def mediaSeal (d : Device) (slot oseq c : Nat) (bs : List Byte) : List Byte :=
  ((List.range 4).map (fun u =>
    fitBytes 4096 (Config.aesEncrypt modeXts (d.mediaKey slot) (mediaTweak oseq c u) 4096 (fitBytes 4096 (bs.drop (4096 * u)))))).flatten

/-! ### Superblocks -/

/-- A superblock's first program: it takes the next open sequence, of a block of 2^16 recorded in MRAM before its first (R343). -/
def openSuper (d : Device) (sb : Nat) (slc : Bool) : Device :=
  if sb = 0 ∨ d.cel.supers.has sb then d
  else
    let resv := if d.cel.oseq < d.cel.oseqResv then d.cel.oseqResv else d.cel.oseq / 65536 * 65536 + 65536
    d.setCel { d.cel with oseqResv := resv, supers := d.cel.supers.put sb { oseq := d.cel.oseq, slc := slc, rackAt := d.now }, oseq := d.cel.oseq + 1 }

/-- The open sequence of a superblock; of one that no program has opened, the one it takes next. -/
def oseqOf (d : Device) (sb : Nat) : Nat :=
  match d.cel.supers.find? sb with
  | some s => s.oseq
  | none => d.cel.oseq

/-- The block's record of the page at a CPTR. -/
def pageBlk (d : Device) (c : Nat) : Blk := d.blk (c / 2 ^ 32 % 64) (rackLun c) (c % 2 ^ 25 / 2 ^ d.ppbLog2)

/-- The pages of the four slots of the rack copy at CPTR `c`, by their own CPTRs, from the superblock table (R340). The blocks of a superblock that
is not recorded are taken to bear the number of the first slot's (log 53). -/
def copySlots (d : Device) (c : Nat) : List Nat :=
  let ch := c / 2 ^ 32 % 64
  let row := c % 2 ^ d.ppbLog2
  let own := c % 2 ^ 25 / 2 ^ d.ppbLog2
  let sb := (d.pageBlk c).sb
  let first := (slotNo (ch % 16) row).getD (15 * row)
  (List.range 4).map (fun i =>
    let m := 16 * (ch / 16) + slotMember (first + i)
    let b := if sb = 0 then own
             else match (d.cel.blocks.filter (fun p => p.2.sb == sb && decide (p.1 / 1048576 = lunKey m (rackLun c)))).head? with
               | some p => p.1 % 1048576
               | none => own
    m * 2 ^ 32 + rackLun c * 2 ^ 25 + b * 2 ^ d.ppbLog2 + (first + i) / 15)

/-! ### Programs -/

/-- A page is programmed: its header is what its spare area holds, and its image leaves (R342, R357). -/
def putPage (d : Device) (c : Nat) (h : PageHead) (img : List Byte) : Device :=
  (d.setCel { d.cel with heads := d.cel.heads.put c h }).emit (.media c (headBytes h) img)

/-- The key slot of a cask's rack pages (R376). -/
def caskKey (d : Device) (cask : Nat) : Nat :=
  match d.csk.casks.find? cask with
  | some e => e.mkey
  | none => 0

/-- The image of slot `k` of the rack copy at CPTR `c`, for the page at `a`. -/
def slotImage (d : Device) (cask c k oseq a : Nat) : List Byte := d.mediaSeal (d.caskKey cask) oseq a (d.memRun (cellKey c (16384 * k)) 16384)

/-- Slot `k` of the rack copy at CPTR `c` is programmed at page `a`. -/
def putSlot (d : Device) (cask idx c k a : Nat) : Device :=
  let sb := (d.pageBlk a).sb
  let h : PageHead := { oseq := d.oseqOf sb, kind := 0, page := 4 * k, cask := cask, index := idx, sb := sb }
  d.putPage a h (d.slotImage cask c k h.oseq a)

/-- Whether a header is that of slot `k` of a rack (R342). -/
def headFits (h : PageHead) (cask idx k : Nat) : Bool := h.kind == 0 && h.page == 4 * k && h.cask == cask && h.index == idx

/-- Whether the page at `a` holds slot `k` of a rack. -/
def slotThere (d : Device) (cask idx k a : Nat) : Bool :=
  match d.cel.heads.find? a with
  | some h => headFits h cask idx k
  | none => false

/-- Whether the header of the page that holds page `p` of a rack disagrees with the rack entry (R342). -/
def headBad (d : Device) (cask idx p : Nat) : Bool :=
  match d.cel.heads.find? ((d.copySlots (d.rack cask idx).cptr).getD (p / 4) 0) with
  | some h => !headFits h cask idx (p / 4)
  | none => false

/-- The program of a rack copy is complete: what of its four pages no completion has reported is programmed too. -/
def putCopy (d : Device) (cask idx c : Nat) : Device :=
  ((d.copySlots c).zip (List.range 4)).foldl (fun (d : Device) (p : Nat × Nat) => if d.slotThere cask idx p.2 p.1 then d else d.putSlot cask idx c p.2 p.1) d

/-- The image and header of a page of a row, as parity counts them (R339): rack pages and pad pages. -/
def pageImage (d : Device) (a : Nat) : List Byte :=
  match d.cel.heads.find? a with
  | some h =>
    let k := rackKey h.cask h.index
    let c := (d.csk.wbJobs.find? k).getD (d.rack h.cask h.index).cptr
    (if h.kind = 0 then d.slotImage h.cask c (h.page / 4) h.oseq a else if h.kind = 6 then padPage else List.replicate 16384 0) ++ headBytes h
  | none => []

/-- The pages of row `row` of superblock `sb`, but for the one on channel `ch`. -/
def rowOthers (d : Device) (ch lun sb row : Nat) : List Nat :=
  ((List.range 16).filter (fun m => decide (m ≠ ch % 16))).map (fun m =>
    let b := match (d.cel.blocks.filter (fun p => p.2.sb == sb && decide (p.1 / 1048576 = lunKey (16 * (ch / 16) + m) lun))).head? with
      | some p => p.1 % 1048576
      | none => 0
    (16 * (ch / 16) + m) * 2 ^ 32 + lun * 2 ^ 25 + b * 2 ^ d.ppbLog2 + row)

/-- The parity page of a row is programmed (R339, R341): not encrypted (R375). -/
def putParity (d : Device) (ch lun block page sb : Nat) : Device :=
  let img := (d.rowOthers ch lun sb page).foldl (fun x a => xorBytes x (d.pageImage a)) (List.replicate 16384 0)
  d.putPage (ch * 2 ^ 32 + lun * 2 ^ 25 + block * 2 ^ d.ppbLog2 + page) { oseq := d.oseqOf sb, kind := 1, page := 0, cask := 0, index := 0, sb := sb } img

/-- A free slot is programmed as a pad page (R341). -/
def putPad (d : Device) (c sb : Nat) : Device := d.putPage c { oseq := d.oseqOf sb, kind := 6, page := 0, cask := 0, index := 0, sb := sb } padPage

/-- What the page of a completed program is: parity, or the slot of a write-behind in progress whose place it is; another data page is none
that the model follows (log 53). -/
def notePage (d : Device) (ch lun block page sb : Nat) : Device :=
  let a := ch * 2 ^ 32 + lun * 2 ^ 25 + block * 2 ^ d.ppbLog2 + page
  match slotNo (ch % 16) page with
  | none => d.putParity ch lun block page sb
  | some n =>
    let slotOf (c : Nat) : Option Nat :=
      if c / 2 ^ 32 % 64 / 16 = ch / 16 ∧ rackLun c = lun ∧ ((d.pageBlk c).sb = sb ∨ (d.pageBlk c).sb = 0) then
        match slotNo (c / 2 ^ 32 % 16) (c % 2 ^ d.ppbLog2) with
        | some f => if f ≤ n ∧ n < f + 4 then some (n - f) else none
        | none => none
      else none
    match ((d.csk.wbJobs.map (fun (j : Nat × Nat) => (j.1, j.2, slotOf j.2))).filter (fun j => j.2.2.isSome)).head? with
    | some (k, c, some i) => d.putSlot (k / 2 ^ 36) (k % 2 ^ 36) c i a
    | _ => d

/-- Whether a rack may be programmed at a location: no member of its parity group is isolated there (R361), nor added since the last format
(R336). -/
def siteOk (d : Device) (c : Nat) : Bool :=
  (List.range 16).all (fun m => !d.volIsolated (16 * (c / 2 ^ 32 % 64 / 16) + m) (rackLun c / 8) && !d.volAdded (16 * (c / 2 ^ 32 % 64 / 16) + m) (rackLun c / 8))

/-! ### Busy LUNs -/

/-- The estimated duration of an operation on a channel's die, in µs, 0 when it is not defined (R355). -/
def opTime (d : Device) (ch op : Nat) : Nat := (AMap.find? d.cel.mseq.dir (64 * (ch / 32) + op)).getD 0 % 2 ^ 18

def opDefined (d : Device) (ch op : Nat) : Bool := (AMap.find? d.cel.mseq.dir (64 * (ch / 32) + op)).getD 0 != 0

/-- The superblock that a rack copy lies in, by the block table; 0: not recorded. -/
def sbOf (d : Device) (cptr : Nat) : Nat := (d.blk (cptr / 2 ^ 32 % 64) (rackLun cptr) (cptr % 2 ^ 25 / 2 ^ d.ppbLog2)).sb

/-- Whether a rack entry, or a program in flight, refers to a superblock. -/
def sbReferenced (d : Device) (sb : Nat) : Bool :=
  sb != 0 && (d.csk.racks.any (fun p => p.2.cvalid && p.2.homed && d.sbOf p.2.cptr == sb) || d.csk.wbJobs.any (fun j => d.sbOf j.2 == sb))

/-- Whether a block is RELEASED, or of a RELEASED generation (R347, R349): a FULL block is when nothing refers to its superblock. -/
def blkFree (d : Device) (x : Blk) : Bool :=
  match x.state with
  | .released => true
  | .full => !d.sbReferenced x.sb
  | .vault => decide (x.gen < 2) && (d.gen x.gen).state == .released
  | _ => false

/-- The erase limit of a block in the mode of its last use (R359). -/
def wearLimit (d : Device) (x : Blk) : Nat := 1000 * d.fld (if x.slc then Fld.CEL_WEAR_SLC_K else Fld.CEL_WEAR_NATIVE_K)

/-- A block goes out of use (R354, R359): the racks of its superblock with a page on its channel are queued for relocation. -/
def retireBlk (d : Device) (ch lun b : Nat) : Device :=
  let x := d.blk ch lun b
  let hit (c : Nat) : Bool := x.sb != 0 && d.sbOf c == x.sb && (d.rackChans c).contains ch
  let ks := (d.csk.racks.filter (fun p => p.2.cvalid && p.2.homed && hit p.2.cptr)).map (·.1)
  let d := (d.setBlk ch lun b { x with state := .retired }).setCel { (d.setBlk ch lun b { x with state := .retired }).cel with reloc := nubNat (d.cel.reloc ++ ks) }
  d.raise Reg.CEL_INT_STATUS 1 2

/-- Blocks that have reached their erase limit are retired once they are RELEASED (R359). -/
def retireWorn (d : Device) : Device :=
  (d.cel.blocks.filter (fun (p : Nat × Blk) => d.blkFree p.2 && decide (d.wearLimit p.2 ≤ p.2.erases))).foldl
    (fun (d : Device) (p : Nat × Blk) => d.retireBlk (p.1 / 134217728) (p.1 / 1048576 % 128) (p.1 % 1048576)) d

/-- The next program or erase of a LUN begins, when none runs: a page of a write-behind that is not yet programmed, else the erase of a block
that is RELEASED, or of a RELEASED generation (R347, R351). None begins while bottling runs (R122). -/
def nextOp (d : Device) (ch lun : Nat) : Device :=
  if (d.cel.busy.has (lunKey ch lun)) || d.hold.bottle.isSome then d
  else
    let jobs := d.csk.wbJobs.filter (fun j => rackLun j.2 == lun &&
      ((d.copySlots j.2).zip (List.range 4)).any (fun (p : Nat × Nat) => p.1 / 2 ^ 32 % 64 == ch && !d.slotThere (j.1 / 2 ^ 36) (j.1 % 2 ^ 36) p.2 p.1))
    let begin_ (erase : Bool) (key op : Nat) : Device :=
      d.setCel { d.cel with busy := d.cel.busy.put (lunKey ch lun) { erase := erase, key := key, endAt := d.now + d.opTime ch op, count := 0, left := none } }
    match jobs.head? with
    | some j => begin_ false j.1 4
    | none =>
      match (d.cel.blocks.filter (fun p => decide (p.1 / 1048576 = lunKey ch lun) && d.blkFree p.2)).head? with
      | some p => begin_ true (p.1 % 1048576) 5
      | none => d

/-- The program or erase of a LUN is over, and the next one begins. -/
def endOp (d : Device) (ch lun : Nat) : Device := (d.setCel { d.cel with busy := d.cel.busy.del (lunKey ch lun) }).nextOp ch lun

/-- The programs of the write-behind of a rack begin on the LUNs of its four slots. -/
def beginJob (d : Device) (c : Nat) : Device := (copyChans c d.ppbLog2).foldl (fun (d : Device) ch => d.nextOp ch (rackLun c)) d

/-- The programs of a rack are over on the LUNs that they kept busy. -/
def endJob (d : Device) (key c : Nat) : Device :=
  (copyChans c d.ppbLog2).foldl (fun (d : Device) ch => match d.cel.busy.find? (lunKey ch (rackLun c)) with
    | some o => if !o.erase && o.key == key then d.endOp ch (rackLun c) else d
    | none => d) d

/-- Erases begin on the LUNs that hold a RELEASED block and are idle. -/
def beginErases (d : Device) : Device :=
  (nubNat ((d.cel.blocks.filter (fun p => d.blkFree p.2)).map (fun p => p.1 / 1048576))).foldl (fun (d : Device) l => d.nextOp (l / 128) (l % 128)) d

/-- The LUNs of which a demand fetch reads a page: level 2 of R351. -/
def urgentLuns (d : Device) : List (Nat × Nat) :=
  ((d.csk.urgent.filter (fun k => (d.rack (k / 2 ^ 36) (k % 2 ^ 36)).fetch)).map (fun k =>
    ((d.copyChain k 2 (d.rack (k / 2 ^ 36) (k % 2 ^ 36)).cptr).map (fun c => (copyChans c d.ppbLog2).map (fun ch => (ch, rackLun c)))).flatten)).flatten

/-- A demand fetch suspends the program or erase of a busy LUN (R352). -/
def suspendLun (d : Device) (l : Nat × Nat) : Device :=
  match d.cel.busy.find? (lunKey l.1 l.2) with
  | some o =>
    if o.left.isNone && d.opDefined l.1 0x0B && d.opDefined l.1 0x0C && decide (d.now + 500 < o.endAt ∧ o.count < 4) && d.hold.bottle.isNone then
      (d.setCel { d.cel with busy := d.cel.busy.put (lunKey l.1 l.2) { o with left := some (o.endAt - d.now), count := o.count + 1 } }).emit
        (.nand l.1 l.2 "SUSPEND" [0x0B])
    else d
  | none => d

/-- Suspended operations go on where no level-2 read is queued, and everywhere in bottling (R352). -/
def resumeOps (d : Device) : Device :=
  let ls := if d.hold.bottle.isSome then [] else d.urgentLuns
  d.cel.busy.foldl (fun (d : Device) (p : Nat × CelOp) => match p.2.left with
    | some n =>
      if ls.contains (p.1 / 128, p.1 % 128) then d
      else (d.setCel { d.cel with busy := d.cel.busy.put p.1 { p.2 with endAt := d.now + n, left := none } }).emit (.nand (p.1 / 128) (p.1 % 128) "RESUME" [0x0C])
    | none => d) d

/-- The channels serve their level-2 reads before what keeps their LUNs busy (R351, R352). -/
def serveLuns (d : Device) : Device := d.resumeOps.urgentLuns.foldl (fun (d : Device) l => d.suspendLun l) d.resumeOps

end Device
end Sys2Proof.Machine
end

