-- ==== Sys2Proof/Machine/Wire.lean ====
section
/-! DEFINITION. The bytes of the links' messages: vintage images, Vaelaune and Trellis frames (R176, R177, R217, R489), arbiter messages (R167,
R168). Where the rules give no byte order within a payload, it is that of the frame (log 52). -/

namespace Sys2Proof.Machine

/-! ### Vintage images -/

/-- The bytes that a record takes in a vintage image (R44, R177): a WRITE_ZERO counts 64 B of payload; a record of metadata, and the resync
record of an unwritten rack, have no payload. -/
def wireSize (w : WireRec) : Nat :=
  if w.metaOp.isSome then 64
  else if w.zero then (if w.resync then 64 else 128)
  else 64 + roundUp w.bytes.length 64

/-- A metadata record (R58, R184), or a resync record of a table entry (R189). -/
def metaRec (m : MetaOp) (resync : Bool) : WireRec :=
  { cask := 0, off := 0, len := 0, bytes := [], zero := false, policy := .syncPreferred, metaOp := some m, resync := resync }

/-- KIND of a record (R177). -/
def wireKind (w : WireRec) : Nat :=
  match w.metaOp with
  | some (.epochRec _ _) => 0x11
  | some (.caskImage _ _) => 0x21
  | some (.grantImage _ _) => 0x22
  | some _ => 0x10
  | none => if w.resync then 0x20 else if w.zero then 0x02 else if w.atomic then 0x03 else 0x01

/-- The cask that a record names. -/
def wireCask (w : WireRec) : Nat :=
  match w.metaOp with
  | some (.caskCreate id _) => id
  | some (.caskModify id _ _) => id
  | some (.caskDelete id) => id
  | some (.caskImage id _) => id
  | some (.grantIssue _ g) => g.cask
  | some (.grantImage _ g) => g.cask
  | some _ => 0
  | none => w.cask

/-- DW8 to DW15 of CASK_CREATE or CASK_MODIFY for an entry (R217): RT_PTR is not carried. -/
def caskWords (e : CaskEntry) (mask : Nat) : List Byte :=
  let b := caskBytes (some e)
  b.take 16 ++ (b.drop 24).take 8 ++ leBytes 4 mask

/-- Bytes 22–63 of a record's header: the admin opcode, DW8–DW15 and the grant slot of the command image (R217). -/
def imageOf (op : Nat) (words : List Byte) (slot : Nat) : List Byte :=
  [BitVec.ofNat 8 op, 0] ++ fitBytes 32 words ++ beBytes 4 slot ++ List.replicate 4 0

/-- The command image of a record (R177, R217); zeros in a record that carries none. -/
def commandImage (w : WireRec) : List Byte :=
  match w.metaOp with
  | some (.caskCreate _ e) => imageOf 0x90 (caskWords e 0) 0
  | some (.caskModify _ e m) => imageOf 0x91 (caskWords e m) 0
  | some (.caskDelete _) => imageOf 0x92 [] 0
  | some (.grantIssue s g) => imageOf 0x98 (grantBytes g) s
  | some (.grantRevoke s g) => imageOf 0x99 (leBytes 4 (g * 2 ^ 20 + s)) s
  | some (.caskImage _ (some e)) => imageOf 0x90 (caskWords e 0) 0
  | some (.caskImage _ none) => imageOf 0x92 [] 0
  | some (.grantImage s g) => imageOf 0x98 (grantBytes g) s
  | _ => List.replicate 42 0

/-- The 64-byte header of a record (R177). -/
def recordHead (w : WireRec) : List Byte :=
  [BitVec.ofNat 8 (wireKind w), 0, 0, 0] ++ beBytes 4 (wireCask w % 2 ^ 24) ++ beBytes 8 w.off
    ++ beBytes 4 (if w.resync && w.zero then 0 else w.len) ++ beBytes 2 (if wireKind w = 0x20 ∧ !w.zero then 65535 else 0) ++ commandImage w

/-- A record in a vintage image: its header and its payload, padded as R44 counts it. -/
def recordBytes (w : WireRec) : List Byte := recordHead w ++ fitBytes (wireSize w - 64) w.bytes

/-- A vintage image (R177). -/
def imageBytes (ws : List WireRec) : List Byte := (ws.map recordBytes).flatten

/-- The records of an image that end within its bytes (lo, hi]. -/
def recordsIn : List WireRec → Nat → Nat → Nat → List WireRec
  | [], _, _, _ => []
  | w :: ws, at_, lo, hi =>
    let stop := at_ + wireSize w
    if lo < stop ∧ stop ≤ hi then w :: recordsIn ws stop lo hi else recordsIn ws stop lo hi

/-! ### Link frames -/

/-- TYPE of a frame (R177). -/
def vaeType (kind : String) : Nat :=
  match kind with
  | "VHEAD" => 1
  | "VDATA" => 2
  | "VEND" => 3
  | "VACK" => 4
  | "VNAK" => 5
  | "STATUS" => 6
  | "RESOLVE" => 7
  | "ROLE" => 8
  | "PFETCH_REQ" => 9
  | _ => 10

/-- A link frame (R176): header, payload, zeros to a multiple of eight bytes, and the CRC-32C, inverted when the frame carries a poisoned
word (R229). `route`: what stands before it, which the CRC covers too (R489). -/
def frameBytes (type flags lseq arg0 arg1 : Nat) (payload : List Byte) (bad : Bool) (route : List Byte := []) : List Byte :=
  let b := route ++ [BitVec.ofNat 8 (type * 16 + 1), BitVec.ofNat 8 flags] ++ beBytes 2 payload.length ++ beBytes 4 lseq ++ beBytes 8 arg0 ++ beBytes 8 arg1
    ++ payload ++ List.replicate (roundUp payload.length 8 - payload.length) 0
  let c := crc32c b
  b ++ beBytes 4 (if bad then 0xFFFFFFFF - c else c)

/-- The budget block (R177). -/
def budgetBytes (b : Budget) : List Byte :=
  beBytes 8 (4096 * b.dirtyPages) ++ beBytes 4 b.limit ++ beBytes 4 b.high ++ beBytes 4 b.freeKib ++ beBytes 4 b.wbRate
    ++ [BitVec.ofNat 8 b.admState] ++ List.replicate 7 0

/-- The payload of VHEAD (R177). -/
def vheadBytes (epoch len count cause rel : Nat) : List Byte :=
  beBytes 4 epoch ++ beBytes 4 len ++ beBytes 4 count ++ [BitVec.ofNat 8 cause, BitVec.ofNat 8 rel] ++ List.replicate 50 0

/-- ARG1 of STATUS (R177). -/
def statusWord (epoch state pref hb unit width : Nat) : Nat :=
  epoch % 2 ^ 32 * 2 ^ 32 + state * 2 ^ 24 + pref * 2 ^ 23 + hb * 2 ^ 22 + unit * 2 ^ 21 + width

/-- The first 32 bytes of RESOLVE's payload: the pair identity, the role at stop-admission, the entry count. The rule gives no layout within
them: PAIR_ID in bytes 0–7, the role in byte 8, the count in bytes 12–15, zeros elsewhere (DESIGN CHOICE, log 17). -/
def resolveHead (pair role count : Nat) : List Byte :=
  beBytes 8 pair ++ [BitVec.ofNat 8 role, 0, 0, 0] ++ beBytes 4 count ++ List.replicate 16 0

/-- RESOLVE frames from entry `i` on (R177): ARG1, payload and FLAGS of each; `room` is what the next one has for entries. -/
def resolveCut : Nat → List Byte → Nat → Nat → List (List Byte) → List (Nat × List Byte × Nat)
  | 0, _, _, _, _ => []
  | n + 1, head, i, room, es =>
    if es.length ≤ room then [(i, head ++ es.flatten, 1)]
    else (i, head ++ (es.take room).flatten, 0) :: resolveCut n [] (i + room) 256 (es.drop room)

/-! ### Trellis frames (R489) -/

/-- TYPE of a Trellis frame; READ_DATA is the READ that answers one. -/
def trlType (kind : String) : Nat :=
  match kind with
  | "HELLO" => 1
  | "ACK" => 2
  | "TIME" => 3
  | "VCLK" => 4
  | "MARK" => 5
  | "SEALED" => 6
  | "COMMIT" => 7
  | "PIECE" => 8
  | "READ" => 9
  | "READ_DATA" => 9
  | "LEASE" => 10
  | "STATUS" => 11
  | "META" => 12
  | _ => 13

/-- The route header. -/
def routeHead (dest src hops pseq : Nat) : List Byte := [BitVec.ofNat 8 dest, BitVec.ofNat 8 src, BitVec.ofNat 8 hops, 0] ++ beBytes 4 pseq

/-- A write source as PIECE and READ name it (log 19): its kind in bits [63:60]. -/
def sourceNum : Source → Nat
  | .sq fn q => fn * 256 + q
  | .qp n => 2 ^ 60 + n
  | .pdt src loc => 2 * 2 ^ 60 + src * 2 ^ 24 + loc
  | .engine op fn q => 3 * 2 ^ 60 + op * 2 ^ 32 + fn * 256 + q
  | .remote dev n => 4 * 2 ^ 60 + dev * 2 ^ 56 + n % 2 ^ 56
  | .device => 5 * 2 ^ 60

/-- ARG0 and ARG1 of HELLO: the fields of TRL_CFG at their places, the capacity above bit 15 (log 19), and PAIR_ID. -/
def helloArgs (mode n stripe : Nat) (shared : Bool) (pair cap : Nat) : List Nat :=
  [cap * 2 ^ 16 + b2n shared * 2 ^ 12 + stripe * 2 ^ 8 + (n - 1) * 2 ^ 4 + mode, pair]

/-- ARG0 and ARG1 of READ: the snapshot and the tag; those of its data: position and status, and the tag (log 19). -/
def readDataArgs (pos status tag : Nat) : List Nat := [status * 2 ^ 56 + pos, tag]

/-- The request of a READ (log 19). -/
def readAsk (cask off len source : Nat) : List Byte := beBytes 8 cask ++ beBytes 8 off ++ beBytes 8 len ++ beBytes 8 source

/-- What follows the record of a PIECE that is an atomic (log 19). -/
def atomBytes : Option TrlAtomic → List Byte
  | none => []
  | some a => beBytes 8 a.tag ++ beBytes 8 (b2n a.cas) ++ beBytes 8 a.width ++ beBytes 16 a.arg ++ beBytes 16 a.swap

/-- The lists of vintages that CTRL carries (R501, log 19). -/
def ctlBytes (nums : List (Nat × Bool)) : List Byte := (nums.map (fun q => beBytes 8 q.1 ++ beBytes 8 (b2n q.2))).flatten

/-! ### Arbiter messages -/

/-- The unit body (R168). -/
def unitBody (h pref serial : Nat) : List Byte := beBytes 8 h ++ [BitVec.ofNat 8 pref] ++ beBytes 7 serial

/-- The handback body (R168). -/
def handbackBody (vf target serial : Nat) : List Byte := unitBody vf target serial ++ List.replicate 8 0

/-- A message without its tag (R167). -/
def arbBytes (kind flags sender pair seq epoch : Nat) (body : List Byte) : List Byte :=
  beBytes 2 0xA5E7 ++ [1, BitVec.ofNat 8 kind] ++ beBytes 2 flags ++ [BitVec.ofNat 8 sender, 0] ++ beBytes 8 pair ++ beBytes 8 seq ++ beBytes 8 0
    ++ beBytes 4 epoch ++ beBytes 2 body.length ++ [0, 0] ++ body

end Sys2Proof.Machine
end

