-- ==== Sys2Proof/Machine/Egress.lean ====
section
/-! DEFINITION. What leaves the Ethernet ports: interfaces, pause, the egress queues and their order (R244, R247–R250). -/

namespace Sys2Proof.Machine
namespace Device

def setNet (d : Device) (n : Net) : Device := { d with net := n }

/-- Whether an interface is up (NET_P_STATUS.UP). -/
def ifUp (d : Device) (i : Nat) : Bool := bitAt (d.reg Reg.NET_P_STATUS (i / 8)) (i % 8)

/-- The rate of an interface in 10 Mb/s (R244). -/
def ifRate (d : Device) (i : Nat) : Nat := 80000 / 2 ^ d.fld Fld.NET_P_MODE_BRK (i / 8)

/-- Count a frame dropped (NET_P_DROP). -/
def netDrop (d : Device) (port : Nat) : Device := d.bumpPair Reg.NET_P_DROP_LO 1 port

/-- The µs that a pause time lasts on an interface: a quantum is 512 bit times. -/
def pauseUs (d : Device) (i quanta : Nat) : Nat := quanta * 512 / (10 * d.ifRate i)

/-- Whether priority `p` of an interface is paused (R249), unless the watchdog of the priority holds (R250). -/
def isPaused (d : Device) (i p : Nat) : Bool :=
  (match d.net.paused.find? (8 * i + p) with
   | some t => decide (d.now < t)
   | none => false) && !d.net.storm.has (8 * (i / 8) + p)

/-- Whether every pause on a priority of a port has ended. -/
def noPauseLeft (d : Device) (n p : Nat) : Bool := (List.range 8).all (fun s => !d.net.paused.has (8 * (8 * n + s) + p))

/-- Once no interface of a port is paused for a priority, the watchdog's time starts anew (R250). -/
def endPause (d : Device) (n p : Nat) : Device :=
  if d.noPauseLeft n p then d.setNet { d.net with pausedAt := d.net.pausedAt.del (8 * n + p) } else d

/-- The tag of a frame that an interface sends with priority `p` (R247): VLAN × 16 + 8 + PCP; 0, untagged. -/
def txTag (d : Device) (i p : Nat) : Nat :=
  let vlan := bitsGet (d.reg (Reg.NET_P_IF0_MAC_HI + 32 * (i % 8)) (i / 8)) 27 16
  if vlan = 0 then 0 else vlan * 16 + 8 + p % 8

/-- The MAC address of an interface record (R265). -/
def ifMac (d : Device) (i : Nat) : Nat :=
  bitsGet (d.reg (Reg.NET_P_IF0_MAC_HI + 32 * (i % 8)) (i / 8)) 15 0 * 2 ^ 32 + (d.reg (Reg.NET_P_IF0_MAC_LO + 32 * (i % 8)) (i / 8)).toNat

/-- The IPv4 (version 4) or IPv6 address of an interface record (R265). -/
def ifIp (d : Device) (i ver : Nat) : Nat :=
  let r (k : Nat) : Nat := (d.reg (Reg.NET_P_IF0_MAC_LO + 32 * (i % 8) + k) (i / 8)).toNat
  if ver = 4 then r 8 else if ver = 6 then ((r 12 * 2 ^ 32 + r 16) * 2 ^ 32 + r 20) * 2 ^ 32 + r 24 else 0

/-- What a frame takes from the record of the interface that sends it (R265): the source MAC address, the IP version and the source IP
address. -/
def fromRecord (d : Device) (f : TxFrame) : List Nat := [d.ifMac f.iface, f.ver, d.ifIp f.iface f.ver]

/-- Put a frame on the wire with its tag and the addresses of its interface, when that is up; an arbiter message carries the VLAN of
MIR_ARB_PATH (R166). -/
def wireFrame (d : Device) (p : Nat) (f : TxFrame) : Device :=
  if d.ifUp f.iface then
    (d.emit (if f.kind = "ARBITER" then .arb (f.args ++ d.fromRecord f) f.bytes
             else .frame f.iface f.kind (d.txTag f.iface p :: f.args ++ d.fromRecord f) f.bytes)).bumpPair Reg.NET_P_TX_FRAMES_LO f.n (f.iface / 8)
  else d

/-- A PFC frame for a priority on one interface (R248): its priority, its pause time and the source MAC address. -/
def pfcFrame (d : Device) (i p quanta : Nat) : Device :=
  if d.ifUp i then
    ((d.emit (.frame i "PFC" [p, quanta, d.ifMac i] [])).bumpPair Reg.NET_P_PFC_TX_LO 1 (i / 8)).bumpPair Reg.NET_P_TX_FRAMES_LO 1 (i / 8)
  else d

/-- A PFC frame for a priority on every interface of a port (R248). -/
def sendPfc (d : Device) (n p quanta : Nat) : Device := (List.range 8).foldl (fun (d : Device) s => d.pfcFrame (8 * n + s) p quanta) d

/-- The cells of a frame, or of the packets that an entry stands for (R224). -/
def frameCells (f : TxFrame) : Nat := f.n * ((8 + (f.bytes.length + f.n - 1) / f.n + 255) / 256)

/-- The frames of an egress queue that hold no cell yet take them, in order, as far as the class threshold and the cap let them (R236–R238);
the others wait without one. An entry of several packets takes one largest packet's worth at most. -/
def holdFrames (k owner : Nat) : List TxFrame → Device → List TxFrame × Device
  | [], d => ([], d)
  | f :: fs, d =>
    if f.held then let r := holdFrames k owner fs d; (f :: r.1, r.2)
    else
      let c := min (frameCells f) maxCells
      if d.mayReserve (0x110 + k) c owner then
        let r := holdFrames k owner fs
          (d.addPkt (0x110 + k) { tok := .none, owner := owner, cells := c, whole := true, poison := false, void := false, len := f.bytes.length })
        ({ f with held := true } :: r.1, r.2)
      else (f :: fs, d)

/-- The head of an egress queue leaves it: the cells that it holds are free. Whether one of them was poisoned (R229). -/
def popEgress (d : Device) (k : Nat) (f : TxFrame) : Device × Bool :=
  if f.held then
    match (d.queue (0x110 + k)).pkts with
    | p :: rest => ((d.setQueue (0x110 + k) (relive { d.queue (0x110 + k) with pkts := rest })).freePkts [p], p.poison)
    | [] => (d, false)
  else (d, false)

/-- The head of an egress queue is sent; a frame that carries a poisoned word ends with an inverted FCS, which the output `badWord` in front of
it says (R229). -/
def sendHead (d : Device) (k : Nat) (f : TxFrame) : Device :=
  let p := d.popEgress k f
  let b := p.1.leaving (0x110 + k)
  (if p.2 && !b.1 then b.2.emit (.badWord (0x110 + k)) else b.2).wireFrame (k % 8) f

/-- Send what an egress queue may send: its head waits while its interface is paused, and what is behind it waits too
(R249); while the watchdog holds, frames are discarded as they reach the head (R250). A frame that may leave at once needs room for its cells and
holds none after it. -/
def drainEgress (k : Nat) : Nat → Device → Device
  | 0, d => d
  | n + 1, d =>
    match (d.net.egress.find? k).getD [] with
    | [] => d.setNet { d.net with egress := d.net.egress.del k }
    | f :: rest =>
      let owner := 0x400 + k / 8
      let next (d : Device) : Device := d.setNet { d.net with egress := d.net.egress.put k rest }
      if d.net.storm.has k then drainEgress k n (next (d.popEgress k f).1)
      else if d.isPaused f.iface (k % 8) || !(f.held || d.mayReserve (0x110 + k) (min (frameCells f) maxCells) owner) then
        let h := holdFrames k owner (f :: rest) d
        h.2.setNet { h.2.net with egress := h.2.net.egress.put k h.1 }
      else drainEgress k n ((next d).sendHead k f)

/-- A frame leaves through egress queue 0x0110 + 8n + p (R247). `ver`: the IP version of a frame that carries the address of its interface;
`n`: the packets of the message that the entry stands for. -/
def sendFrame (d : Device) (iface prio : Nat) (kind : String) (args : List Nat) (bytes : List Byte := []) (ver : Nat := 0) (n : Nat := 1) : Device :=
  let k := 8 * (iface / 8) + prio
  let q := (d.net.egress.find? k).getD []
  drainEgress k (q.length + 2) (d.setNet { d.net with egress := d.net.egress.put k (q ++ [{ iface := iface, kind := kind, args := args, bytes := bytes, ver := ver, n := n }]) })

/-- An egress queue of a port sends what it may. -/
def drainOf (d : Device) (n p : Nat) : Device :=
  let k := 8 * n + p
  drainEgress k (((d.net.egress.find? k).getD []).length + 1) d

/-- Every egress queue sends what it may. -/
def flushEgress (d : Device) : Device :=
  d.net.egress.foldl (fun (d : Device) (p : Nat × List TxFrame) => drainEgress p.1 (p.2.length + 1) d) d

/-- Whether frames of an egress queue wait for room: reads whose data would join them wait too (R238). -/
def egressFull (d : Device) (iface prio : Nat) : Bool := ((d.net.egress.find? (8 * (iface / 8) + prio)).getD []).any (fun f => !f.held)

end Device
end Sys2Proof.Machine
end

