-- ==== Sys2Proof/Machine/Frames.lean ====
section
/-! DEFINITION. Trellis frames and the division of the cask space over a cascade (R486–R493). -/

namespace Sys2Proof.Machine
namespace Device

def setTrl (d : Device) (t : Trl) : Device := { d with trl := t }

/-- In a cascade, whether this device is a member and not the master (R486). -/
def cascadeMember (d : Device) : Bool := d.trl.mode != 0 && d.trl.id != 0
def cascadeMaster (d : Device) : Bool := d.trl.mode != 0 && d.trl.id == 0

/-- Whether the cask space is shared (widen or deepen). -/
def cascadeShared (d : Device) : Bool := d.trl.mode == 1 || d.trl.mode == 2

/-- The other devices of the cascade. -/
def others (d : Device) : List Nat := (List.range d.trl.n).filter (· != d.trl.id)

/-- The device that holds a rack (R492). -/
def rackOwner (d : Device) (cask rack : Nat) : Nat :=
  if d.trl.mode = 1 then (rack / 2 ^ d.trl.stripe + cask) % d.trl.n
  else if d.trl.mode = 2 then (d.trl.homes.find? cask).getD 0
  else d.trl.id

/-- A byte range cut at the racks where the owner changes: owner, offset and length. -/
def ownerRuns (d : Device) (cask off len : Nat) : List (Nat × Nat × Nat) :=
  ((racksOf off len).foldl (fun (acc : List (Nat × Nat × Nat)) i =>
    let lo := max off (i * 65536)
    let n := min (off + len) (i * 65536 + 65536) - lo
    let o := d.rackOwner cask i
    match acc with
    | (p, a, k) :: rest => if p = o ∧ a + k = lo then (p, a, k + n) :: rest else (o, lo, n) :: acc
    | [] => [(o, lo, n)]) []).reverse

/-- The port on which a frame for a device leaves (R487, R490): the shorter direction, ring A for an even SRC + DEST, and
another port that is up when that one is down. -/
def trlPort (d : Device) (dest : Nat) : Option Nat :=
  let up (p : Nat) : Bool := match d.trl.ports.find? p with
    | some x => x.up
    | none => false
  let fwd := (dest + d.trl.n - d.trl.id) % d.trl.n
  let ahead := decide (fwd ≤ d.trl.n - fwd)
  let ring := if (d.trl.id + dest) % 2 = 0 then 0 else 2
  let other := 2 - ring
  let a := if ahead then 0 else 1
  [ring + a, other + a, ring + (1 - a), other + (1 - a)].find? up

def trlDev (d : Device) (i : Nat) : TrlDev :=
  (d.trl.devs.find? i).getD { seen := false, lost := false, lastAt := 0, rxSeq := 0, txSeq := 0, unacked := [], markN := 0, sealedN := 0, ackedN := 0, commitN := 0,
                              dirty := 0, cMf := 0, esr := 0, budget := none, statusAt := 0, synced := false, cap := 0, report := none }

def updDev (d : Device) (i : Nat) (f : TrlDev → TrlDev) : Device :=
  d.setTrl { d.trl with devs := d.trl.devs.put i (f (d.trlDev i)) }

/-- Drive a frame with its route header out of a port (R489): the output holds the header's fields, ARG0, ARG1, the records of the payload,
and the bytes of the whole frame. -/
def trlOut (d : Device) (p : Nat) (kind : String) (dest src hops pseq : Nat) (args : List Nat) (recs : List WireRec) (payload : List Byte) : Device :=
  let n := match d.trl.ports.find? p with
    | some x => x.txLseq
    | none => 0
  let (bad, d) := d.leaving (0x42 + 2 * p)
  let d := match d.trl.ports.find? p with
    | some x => d.setTrl { d.trl with ports := d.trl.ports.put p { x with txLseq := (n + 1) % 4294967296 } }
    | none => d
  d.emit (.trl p kind (dest :: src :: hops :: pseq :: args) recs
    (frameBytes (trlType kind) 0 n (args.getD 0 0) (args.getD 1 0) payload bad (routeHead dest src hops pseq)))

/-- Drive a frame of this device out of the port that leads to its destination. -/
def trlDrive (d : Device) (f : TrlFrame) : Device :=
  match d.trlPort (if f.dest = 255 then (d.trl.id + 1) % d.trl.n else f.dest) with
  | some p => d.trlOut p f.kind f.dest d.trl.id (d.trl.n - 1) f.pseq f.args f.recs f.bytes
  | none => d

/-- CTRL actions, which the manual does not number (log 19): an early boundary, the twin declared absent, a request of R421 with its
mode, the answer with a cause, the start of the entry, a warm reset, resync complete, a report of FENCED, a report of H and the pending
list, and the list of pending vintages that stand. -/
def ctlBoundary : Nat := 1
def ctlAbsent : Nat := 2
def ctlAsk : Nat := 3
def ctlAnswer : Nat := 4
def ctlEnter : Nat := 5
def ctlReset : Nat := 6
def ctlSynced : Nat := 7
def ctlFenced : Nat := 8
def ctlReport : Nat := 9
def ctlStand : Nat := 10

/-- HELLO, ACK and TIME are sent afresh: they are not held for an ACK and take no PSEQ of their own (log 19). -/
def trlFresh (kind : String) : Bool := kind == "HELLO" || kind == "ACK" || kind == "TIME"

/-- Send a frame to a device, or to every other device (DEST 0xFF): it is held until an ACK covers it (R490). `args`: ARG0 and ARG1;
`bytes`: the payload, of which `recs` are the records. -/
def trlSend (d : Device) (dest : Nat) (kind : String) (args : List Nat) (recs : List WireRec := []) (bytes : List Byte := []) : Device :=
  if d.trl.mode = 0 ∨ d.trl.n < 2 then d
  else if dest = 255 then
    let q := d.trl.bcSeq + b2n (!trlFresh kind)
    let f : TrlFrame := { dest := 255, pseq := q, kind := kind, args := args, recs := recs, bytes := bytes }
    (d.setTrl { d.trl with bcSeq := q, bcSent := if trlFresh kind then d.trl.bcSent else d.trl.bcSent ++ [(f, d.others)] }).trlDrive f
  else
    let q := (d.trlDev dest).txSeq + b2n (!trlFresh kind)
    let f : TrlFrame := { dest := dest, pseq := q, kind := kind, args := args, recs := recs, bytes := bytes }
    (d.updDev dest (fun x => { x with txSeq := q, unacked := if trlFresh kind then x.unacked else x.unacked ++ [f] })).trlDrive f

/-- CSK_CAP_RACKS as the cascade has it (R492): N times the least capacity in widen, the sum in deepen; the other devices' come
with their HELLOs. -/
def cascadeCap (d : Device) : Nat :=
  let caps := d.others.map (fun i => (d.trlDev i).cap)
  if d.trl.mode = 1 then d.trl.n * caps.foldl min d.csk.capRacks
  else if d.trl.mode = 2 then caps.foldl (fun a c => a + c) d.csk.capRacks
  else d.csk.capRacks

/-- The racks of casks whose home is device `i` (R492, deepen). -/
def homeRacks (d : Device) (i : Nat) : Nat :=
  (d.csk.casks.filter (fun (p : Nat × CaskEntry) => (d.trl.homes.find? p.1).getD 0 == i)).foldl (fun a p => a + p.2.size) 0

/-- The home of a new cask in deepen (R492): the device with the most unallocated racks, the lowest ID on a tie. -/
def pickHome (d : Device) : Nat :=
  let free (i : Nat) : Nat := (if i = d.trl.id then d.csk.capRacks else (d.trlDev i).cap) - d.homeRacks i
  (List.range d.trl.n).foldl (fun b i => if free b < free i then i else b) 0

end Device
end Sys2Proof.Machine
end

