-- ==== Sys2Proof/Machine/Vintage.lean ====
section
/-! DEFINITION. The life of a vintage: placement (R42–R46, R55), the seals (R40, R50, R51, R61), commit and the release
of completions (R35, R40, R41, R58), apply (R46, R47, R76, R104), fences (R56, R57). -/

namespace Sys2Proof.Machine

/-- The bytes of staging (R16). -/
def stageCap : Nat := 33554432

/-- The bytes of staging that records take. -/
def recsSize (rs : List VRecord) : Nat := rs.foldl (fun a r => a + r.size) 0

/-- How much of a request of `len` bytes the piece in hand takes (R42, R45): a request of at most 1 MiB is whole; a longer
one goes up to the next 1 MiB boundary of the cask offset. -/
def pieceLen (off len : Nat) : Nat := if len ≤ 1048576 then len else 1048576 - off % 1048576

/-- The first piece of a request (R45). -/
def firstPiece (off : Nat) : WriteOp → WriteOp × WriteOp
  | .data bs => let n := pieceLen off bs.length; (.data (bs.take n), .data (bs.drop n))
  | .zero l => let n := pieceLen off l; (.zero n, .zero (l - n))
  | op => (op, .data [])

/-- The whole of a request that `firstPiece` has cut. -/
def joinOp : WriteOp × WriteOp → WriteOp
  | (.data a, .data b) => .data (a ++ b)
  | (.zero a, .zero b) => .zero (a + b)
  | (op, _) => op

/-- The value of little-endian bytes after an atomic (R55), and the fetched value. -/
def atomicResult (old : List Byte) : WriteOp → List Byte × Nat
  | .cas w cmp swap => (if leNat old = cmp then leBytes w swap else old, leNat old)
  | .fadd a => (leBytes 8 (leNat old + a), leNat old)
  | _ => (old, 0)

/-- Whether a token names one of a list of descriptors. -/
def tokIn (t : Token) (ts : List Token) : Bool := ts.contains t

namespace Device

def setPst (d : Device) (p : Pst) : Device := { d with pst := p }

/-- Staging in use, in bytes: the open vintage, the vintages not yet applied, and an image being received (R39). -/
def stageUsed (d : Device) : Nat :=
  recsSize d.pst.openRecs + recsSize d.closed + d.pst.vints.foldl (fun a v => a + recsSize v.recs) 0 +
    (match d.pst.rx with
     | some x => x.len
     | none => 0)

/-- An operation ends: a descriptor's part, or a request of a transport or of the cascade. -/
def finish (d : Device) (t : Token) (status r0 r1 : Nat) : Device :=
  match t with
  | .none => d
  | .desc fn q seq =>
    let d := d.updDesc fn q seq (fun x => { x with parts := x.parts - 1, status := if x.status = 0 then status else x.status,
                                                   r0 := r0, r1 := r1 })
    match d.desc? fn q seq with
    | some x => if x.parts = 0 ∧ x.phase = .running then d.complete fn q seq x.status x.r0 x.r1 else d
    | none => d
  | t => { d with pst := { d.pst with outcomes := d.pst.outcomes ++ [{ tok := t, status := status, r0 := r0, r1 := r1 }] } }

/-- One more part of a descriptor is outstanding. -/
def addPart (d : Device) (t : Token) : Device :=
  match t with
  | .desc fn q seq => d.updDesc fn q seq (fun x => { x with parts := x.parts + 1 })
  | _ => d

/-- One more piece of a write request is outstanding (R45). -/
def addPiece (d : Device) (t : Token) : Device :=
  match t with
  | .roce qpn psn => { d with net := { d.net with qps := d.net.qps.map (fun (p : Nat × Qp) =>
      if p.1 = qpn % 1048576 then
        (p.1, { p.2 with reqs := updateFirst (fun (r : RoceReq) => r.psn == psn) (fun r => { r with left := r.left + 1 }) p.2.reqs })
      else p) } }
  | t => d.addPart t

/-- SEALED vintages of this unit. -/
def sealedCount (d : Device) : Nat := (d.pst.vints.filter (fun v => v.state == .sealed)).length

/-- Whether a seal may start now: at most one in any 100 ns (R50). -/
def maySeal (d : Device) : Bool := decide (d.pst.sealAt ≤ 10 * d.now + 9)

/-- A cask entry as every request meets it from the commit of its record on (R58); its table page becomes dirty at the apply. -/
def setCask (d : Device) (id : Nat) (e : Option CaskEntry) : Device :=
  match e with
  | some x => { d with csk := { d.csk with casks := d.csk.casks.put id x } }
  | none => { d with csk := { d.csk with casks := d.csk.casks.del id } }

/-- A grant entry, in the same way. -/
def setGrant (d : Device) (slot : Nat) (g : GrantEntry) : Device :=
  { d with csk := { d.csk with grants := AMap.setD (fun _ => GrantEntry.blank) d.csk.grants slot g } }

/-- The cask-table page of an entry, and the grant-table page of a slot, become dirty (R103). -/
def dirtyCask (d : Device) (id : Nat) : Device := d.dirtyMeta (.caskTable (id / 64))
def dirtyGrant (d : Device) (slot : Nat) : Device := d.dirtyMeta (.grantTable (slot / 128))

/-- A grant entry changes by no record (R84): its table page becomes dirty at once (R103). -/
def putGrant (d : Device) (slot : Nat) (g : GrantEntry) : Device := (d.setGrant slot g).dirtyGrant slot

/-- A LIVE slot moves to QUARANTINE (R81, R83). -/
def quarantine (d : Device) (slot : Nat) : Device :=
  d.setGrant slot { d.grant slot with state := .quarantine, revokeUs := d.usec }

/-- Close the streams that satisfy `p` (R98). -/
def closeStreams (d : Device) (p : Stream → Bool) : Device :=
  let gone := (d.csk.streams.filter (fun x => p x.2)).map (fun x => (x.2.fn, x.2.q, x.1))
  { d with csk := { d.csk with streams := d.csk.streams.filter (fun x => !p x.2),
                               closedStreams := d.csk.closedStreams ++ gone } }

/-- A cask entry takes a place in this unit's own rack tables: RT_PTR is the unit's choice (R217), a free value (log 2); an entry that
stood keeps its own. -/
def placeCask (d : Device) (id : Nat) (e : CaskEntry) : Device :=
  match d.csk.casks.find? id with
  | some old => d.setCask id (some { e with rtPtr := old.rtPtr })
  | none => let p := d.draw; p.2.setCask id (some { e with rtPtr := p.1 % 2 ^ 33 })

/-- A slot is issued: it leaves the free list (R82). -/
def issueSlot (d : Device) (slot : Nat) (g : GrantEntry) : Device :=
  { d with csk := { d.csk with
      fresh := if d.csk.freed.contains slot then d.csk.fresh else max d.csk.fresh (slot + 1)
      freed := d.csk.freed.filter (fun x => decide (x ≠ slot)) } }.setGrant slot g

/-- A slot takes the image that a resync record gives (R82, R189): one that becomes FREE goes behind the free list, and one that is not FREE
leaves it. -/
def takeSlotImage (d : Device) (slot : Nat) (g : GrantEntry) : Device :=
  let listed := d.csk.freed.contains slot
  { d with csk := { d.csk with
      freed := if g.state ≠ GrantState.free then d.csk.freed.filter (fun x => decide (x ≠ slot))
               else if slot < d.csk.fresh && !listed then d.csk.freed ++ [slot] else d.csk.freed } }.setGrant slot g

/-- A metadata record commits: the table entry changes, and the admin command that placed it may complete (R58, R73,
R82, R83); a cask that becomes PIN_DRAM is filled (R94). Racks that a deletion or a shrink frees are freed at the apply (R74), where the
pages of the tables that the record changes become dirty (R103). -/
def commitMeta (d : Device) (m : MetaOp) : Device :=
  match m with
  | .caskCreate id e => d.placeCask id e
  | .caskModify id e mask =>
    match d.csk.casks.find? id with
    | some old =>
      let new := caskMerge old e mask
      let d := d.setCask id (some new)
      if old.place ≠ .pinDram ∧ new.place = .pinDram then d.fillCask id else d
    | none => d
  | .caskDelete id =>
    let live := (d.csk.grants.filter (fun g => g.2.cask == id && g.2.state == .live)).map (·.1)
    let d := live.foldl (fun d s => d.quarantine s) d
    let d : Device := { d with csk := { d.csk with quarBy := d.csk.quarBy ++ live.map (fun s => (id, s)) } }
    (d.setCask id none).closeStreams (fun s => s.cask == id)
  | .grantIssue slot g => d.issueSlot slot g
  | .grantRevoke slot _ => d.quarantine slot
  | .epochRec _ _ => d
  | .caskImage id (some e) => d.placeCask id e
  | .caskImage id none => d.setCask id none
  | .grantImage slot g => d.takeSlotImage slot g

/-- RESULT0 of the admin command that a metadata record carries: GRANT_ISSUE returns the handle (R216). -/
def metaResult : MetaOp → Nat
  | .grantIssue slot g => g.gen * 1048576 + slot
  | _ => 0

/-- Send the completion of a record, once (R35, R58, R60). -/
def releaseRec (d : Device) (r : VRecord) : Device :=
  if r.released then d
  else match r.wire.metaOp with
    | some m => d.finish r.tok stOk (metaResult m) 0
    | none => d.finish r.tok stOk r.result (r.result / 2 ^ 64)

/-- The shadow words of an SQ that waited for this commit are written (R186). -/
def lateWords (d : Device) (t : Token) : Device :=
  match t with
  | .desc fn q _ =>
    match d.sq? fn q with
    | some s => d.writeShadow fn q s
    | none => d
  | _ => d

/-- The pins take the values of an active role at a commit (R186). -/
def raisePins (d : Device) : Device :=
  match d.mir.role with
  | .active => ({ d with mir := { d.mir with rolePins := 2, svcOk := d.rst.svcOpen, pinsDue := none, pinsOnCommit := none } }.pin "ROLE" 2).pin
      "SVC_OK" (b2n d.rst.svcOpen)
  | .solo => ({ d with mir := { d.mir with rolePins := 3, svcOk := d.rst.svcOpen, pinsDue := none, pinsOnCommit := none } }.pin "ROLE" 3).pin
      "SVC_OK" (b2n d.rst.svcOpen)
  | _ => d

/-- Vintage `v`, the lowest SEALED one, commits (R40, R41): it becomes visible to every reader, its metadata changes
take effect and its completions are released. -/
def commitVint (d : Device) (v : Vintage) (locally : Bool) : Device :=
  let d := d.setPst { d.pst with
    vints := updateFirst (fun x => x.num == v.num)
      (fun x => { x with state := .committed, recs := x.recs.map (fun r => { r with released := true }) }) d.pst.vints
    commitNum := max d.pst.commitNum v.num }
  let d := v.recs.foldl (fun d r => match r.wire.metaOp with
    | some m => d.commitMeta m
    | none => d) d
  let d := v.recs.foldl (fun d r => d.releaseRec r) d
  let d := v.recs.foldl (fun d r => if r.released then d.lateWords r.tok else d) d
  let d : Device := { d with csk := { d.csk with jobs := d.csk.jobs.filter (fun j => !(j.placed && v.recs.any (fun r => r.wire.metaOp == some j.op))) } }
  let d := if locally then (d.bump Fld.PST_COMMIT_LOCAL_CNT_COUNT).raise Reg.PST_INT_STATUS 1 3 else d
  match d.mir.pinsOnCommit with
  | some n => if n ≤ v.num then d.raisePins else d
  | none => d

/-- The lowest SEALED vintage. -/
def lowestSealed (d : Device) : Option Vintage := d.pst.vints.find? (fun v => v.state == .sealed)

/-- Commit in ascending order what may commit (R40): on the twin's acknowledgement while this unit holds the lease, or locally while it is
SOLO; in a widen or deepen cascade, only on COMMIT (R495). While FENCED, and on a unit that receives, nothing commits here (R40, R181). -/
def commitReady : Nat → Device → Device
  | 0, d => d
  | n + 1, d =>
    match d.lowestSealed with
    | some v =>
      if d.cascadeShared && decide (d.trl.commitN < v.num) then d
      else if d.cascadeShared then commitReady n (d.commitVint v (d.mir.role == .solo))
      else if d.mir.role = .solo then commitReady n (d.commitVint v true)
      else if d.mir.role = .active ∧ v.acked then commitReady n (d.commitVint v false)
      else d
    | none => d

/-- Release the completions of writes whose parts lie on other devices, once the device has COMMIT for their vintage and, for an
atomic, its result. -/
def releaseRemote (d : Device) : Device :=
  let due (p : Nat × VRecord) : Bool := decide (p.1 ≤ d.trl.commitN) && !d.trl.atoms.any (fun a => a.2.2 == p.2.tok)
  (d.trl.wait.filter due).foldl (fun (d : Device) p => d.releaseRec p.2)
    (d.setTrl { d.trl with wait := d.trl.wait.filter (fun p => !due p) })

/-- COMMIT(n) with apply bound m takes effect here (R495). -/
def takeCommit (d : Device) (n m : Nat) : Device :=
  let d := d.setTrl { d.trl with commitN := max d.trl.commitN n, applyM := max d.trl.applyM m }
  let d := commitReady (d.pst.vints.length + 1) d
  (d.setPst { d.pst with commitNum := max d.pst.commitNum n }).releaseRemote

/-- The highest cascade vintage whose part here is held by the twin: sealed, and empty or acknowledged (R494). -/
def heldByTwin (d : Device) : Nat :=
  match d.pst.vints.find? (fun v => v.state == .sealed && !v.acked) with
  | some v => v.num - 1
  | none => d.trl.sealedN

/-- The master's COMMIT decision (R495): once every device has reported n acknowledged or, while the cascade is SOLO,
sealed. -/
def decideCommit (d : Device) : Device :=
  let solo := d.mir.role == .solo
  let mine := if solo then d.trl.sealedN else d.heldByTwin
  let n := d.others.foldl (fun a i => let x := d.trlDev i; min a (if solo then x.sealedN else x.ackedN)) mine
  let m := d.others.foldl (fun a i => min a (d.trlDev i).commitN) d.trl.commitN
  if d.placesWrites && (decide (d.trl.commitN < n) || decide (d.trl.applyM < m)) then
    (d.trlSend 255 "COMMIT" [max n d.trl.commitN, m]).takeCommit n m
  else d

/-- A device of a shared cascade reports what it has sealed and what its twin holds (R495). -/
def reportSealed (d : Device) : Device :=
  if d.cascadeMaster then d.decideCommit
  else d.trlSend 0 "SEALED" [d.trl.sealedN, d.heldByTwin * 2 ^ 32 + (d.trl.sealedN - d.trl.commitN)]

def commitAll (d : Device) : Device :=
  let d := commitReady (d.pst.vints.length + 1) d
  if d.cascadeShared then d.reportSealed else d

/-- The clock reaches the moment at which the next seal may start (R50): a seal that one event makes on its way waits so. -/
def waitSeal (d : Device) : Device := d.waitUntil (d.pst.sealAt / 10)

/-- The block of a number is recorded before the first number of the block is issued or received (R49). -/
def reserveFor (d : Device) (n : Nat) : Device := d.setPst { d.pst with resv := max d.pst.resv (n / 2 ^ 24 * 2 ^ 24) }

/-- The records `recs` seal as vintage `n` (R40). Its LOCAL completions go out at the seal when the unit places writes then
(R35); while SOLO it commits at once. -/
def sealRecs (d : Device) (n : Nat) (recs : List VRecord) (c : SealCause) : Device :=
    let live := d.placesWrites
    let early (r : VRecord) : Bool := live && r.tok != .none && r.wire.metaOp.isNone && r.wire.policy == .locally && !r.released
    let v : Vintage := { num := n, state := .sealed, cause := c, recs := recs.map (fun r => { r with released := r.released || early r }),
                         sealedAt := d.now, shipped := false, acked := false, own := true }
    let d := d.reserveFor n
    let d := d.setPst { d.pst with
      sealedNum := n, vints := d.pst.vints ++ [v],
      sealAt := max d.pst.sealAt (10 * d.now) + 1, sealDue := none }
    let d := recs.foldl (fun d r => if early r then d.releaseRec r else d) d
    let d : Device := match c with
      | .period => d.bump Fld.PST_SEAL_CNT_PERIOD_COUNT
      | .size => d.bump Fld.PST_SEAL_CNT_SIZE_COUNT
      | .forced => d.bump Fld.PST_SEAL_CNT_FORCED_COUNT
    let d := d.commitAll
    if d.fld Fld.PST_PENDING_THR_THR < d.sealedCount then d.raise Reg.PST_INT_STATUS 2 3 else d

/-- A new vintage opens behind number `n`. -/
def openNext (d : Device) (n : Nat) : Device :=
  d.setPst { d.pst with numValid := d.pst.numValid || d.cascadeShared, openRecs := [], openAt := d.now, openPeriod := d.fld Fld.PST_VINT_PERIOD_PERIOD_US, nextNum := n + 1 }

/-- The seal of the open vintage, which holds a write (R40, R49). -/
def sealNow (d : Device) (c : SealCause) : Device :=
  if d.pst.openRecs.isEmpty then d
  else (d.waitSeal.openNext d.pst.nextNum).sealRecs d.pst.nextNum d.pst.openRecs c

/-! ### Cascade vintages (R494) -/

/-- Whether MARK(n) is held from every other device that is not lost. -/
def marksHeld (d : Device) (n : Nat) : Bool := d.others.all (fun i => decide (n ≤ (d.trlDev i).markN))

/-- Seal the parts of the closed vintages for which every MARK is held, in order (R494 step 3). -/
def sealClosed : Nat → Device → Device
  | 0, d => d
  | k + 1, d =>
    match d.trl.closing with
    | (n, recs) :: rest =>
      if d.marksHeld n then
        let d := d.setTrl { d.trl with closing := rest, sealedN := max d.trl.sealedN n }
        let d := if recs.isEmpty then ((d.reserveFor n).setPst { (d.reserveFor n).pst with sealedNum := max d.pst.sealedNum n }).commitAll else d.waitSeal.sealRecs n recs .forced
        sealClosed k d
      else d
    | [] => d

/-- VCLK(n): vintage n closes on this device, which sends MARK(n) (R494 steps 1 and 2), once the blocks of n and of the number that opens
behind it are recorded (R49). -/
def closeVint (d : Device) (n : Nat) : Device :=
  if n < d.pst.nextNum ∧ d.pst.numValid then d
  else
    let d := d.reserveFor (n + 1)
    let recs := d.pst.openRecs
    let d := d.setTrl { d.trl with closing := d.trl.closing.put n (((d.trl.closing.find? n).getD []) ++ recs), vclk := max d.trl.vclk n, asked := false }
    let d := (d.openNext n).trlSend 255 "MARK" [n, 0]
    sealClosed (d.trl.closing.length + 1) d

/-- The master closes the vintage at its boundary, or earlier when a device asks (R494). -/
def vclkBoundary (d : Device) : Device :=
  if d.cascadeMaster && d.trl.formed && d.placesWrites then (d.trlSend 255 "VCLK" [d.pst.nextNum, 0]).closeVint d.pst.nextNum
  else d

/-- In a shared cascade an early boundary: the master makes it, a member asks for it with CTRL, once (R494). -/
def askBoundary (d : Device) : Device :=
  if d.cascadeMaster then d.vclkBoundary
  else if d.trl.asked then d
  else (d.setTrl { d.trl with asked := true }).trlSend 0 "CTRL" [ctlBoundary, 0]

/-- A seal is called for: it is made now, or waits for the 100 ns spacing while the vintage stays OPEN (R50). -/
def trySeal (d : Device) (c : SealCause) : Device :=
  if d.cascadeShared then d.askBoundary
  else if d.pst.openRecs.isEmpty then d
  else if d.maySeal then d.sealNow c
  else d.setPst { d.pst with sealDue := some c }

/-- A forced seal of the open vintage on whose number what follows rests: it is made now, and the clock waits for the spacing (R50). -/
def forceSeal (d : Device) : Device := if d.cascadeShared then d.askBoundary else d.sealNow .forced

/-- Note the highest staging occupancy (PST_STAGE_PEAK). -/
def noteStage (d : Device) : Device :=
  let k := (d.stageUsed + 1023) / 1024
  if d.fld Fld.PST_STAGE_PEAK_PEAK_KIB < k then d.setFld Fld.PST_STAGE_PEAK_PEAK_KIB k else d

/-- Put a record into the open vintage. VINT_MAX_BYTES is taken at the first placement (R51). -/
def appendRec (d : Device) (r : VRecord) : Device :=
  (d.setPst { d.pst with
    openMax := if d.pst.openRecs.isEmpty then 1024 * d.fld Fld.PST_VINT_MAX_MAX_KIB else d.pst.openMax
    openRecs := d.pst.openRecs ++ [r] }).noteStage

/-- The record that a write request leaves (R44, R55, R104). -/
def recordOf (d : Device) (r : WriteReq) : VRecord :=
  let at_ : Nat := match r.tok with
    | .desc fn q seq => ((d.desc? fn q seq).map (·.fetchNo)).getD 0
    | _ => 0
  let base : WireRec := { cask := r.cask, off := r.off, len := opLen r.op, bytes := [], zero := false, policy := r.policy,
                          metaOp := none, resync := false }
  let mk (w : WireRec) (res : Nat) : VRecord :=
    { src := r.src, tok := r.tok, wire := w, result := res, charge := chargeOf r.off r.op, size := sizeOf r.op, released := false, fetchNo := at_ }
  match r.op with
  | .data bs => mk { base with bytes := bs } 0
  | .zero _ => mk { base with zero := true } 0
  | .metadata m => mk { base with metaOp := some m } 0
  | op =>
    let (bs, old) := atomicResult (d.newestBytes r.cask r.off (opLen op)) op
    mk { base with bytes := bs, atomic := true } old

/-- Whether a REMOTE_READ of a descriptor is still on its way (R299). -/
def remoteOut (d : Device) (fn q seq : Nat) : Bool :=
  d.net.qps.any (fun p => p.2.out.any (fun o => o.fn == fn && o.q == q && o.seq == seq)) ||
    d.pdt.tx.any (fun f => f.msgs.any (fun m => m.fn == fn && m.q == q && m.seq == seq))

/-- Whether any write of the token is still to be placed: one that waits on its way to placement, or a descriptor that has not started, or
whose data is still being read for it, as the source of a COPY, the input of a CIPHER and the answer to a REMOTE_READ are (R57). -/
def unplaced (d : Device) (t : Token) : Bool :=
  d.csk.gate.any (fun r => r.tok == t) || d.mir.step10.any (fun r => r.tok == t) || d.adm.held.any (fun r => r.tok == t) || d.pst.placeWait.any (fun r => r.tok == t)
    || d.pst.reads.any (fun r => r.tok == t) || d.trl.reads.any (fun p => p.2.tok == t)
    || (match t with
        | .desc fn q seq =>
          d.cph.wait.contains (fn, q, seq) || d.remoteOut fn q seq ||
          (match d.desc? fn q seq with
           | some x => x.phase == .fetched
           | none => false)
        | _ => false)

/-- Fences with SEAL: once every write within scope is placed, a forced seal when the open vintage holds one (R57). -/
def fenceSeals (d : Device) : Device :=
  let due (f : Fence) : Bool := f.doSeal && !f.sealed && f.scope.all (fun t => !d.unplaced t)
  if d.pst.fences.any due then
    let hit := d.pst.fences.any (fun f => due f && d.pst.openRecs.any (fun r => tokIn r.tok f.scope))
    let d := d.setPst { d.pst with fences := d.pst.fences.map (fun f => if due f then { f with sealed := true } else f) }
    if hit then d.trySeal .forced else d
  else d

/-- The queue of a PDT endpoint's group: one per function, 0x8400 on (R235, R268; log 18). -/
def groupQ (d : Device) (loc : Nat) : Nat :=
  match d.pdt.eps.find? (loc % 65536) with
  | some e => 0x8400 + e.owner
  | none => 0x8400

/-- Whether a message of a PDT flow still awaits its outcome. -/
def pdtOpen (d : Device) (loc src msn : Nat) : Bool :=
  d.pdt.rx.any (fun f => f.loc == loc && f.src == src && f.runs.any (fun r => r.msn == msn && !r.dup))

/-- The home directory takes a cask's home (R492, R493), in both copies (R308). -/
def putHome (d : Device) (id home : Nat) : Device :=
  (d.setTrl { d.trl with homes := d.trl.homes.put id home }).writeDup
    { area := 6, cask := 0, unit := Config.homePage id / 16 % 256, page := Config.homePage id % 16 }

/-- A metadata record of the master goes to every member as META (R493), with the home that a deepen cascade gives a new cask
(R492). -/
def sendMeta (d : Device) (m : MetaOp) : Device :=
  if d.cascadeShared then
    let home := d.pickHome
    let d := match m with
      | .caskCreate id _ => if d.trl.mode = 2 then d.putHome id home else d
      | _ => d
    let w := metaRec m false
    d.trlSend 255 "META" [d.pst.nextNum, home] [w] (recordBytes w)
  else d

/-- The record of a run of a write's bytes. -/
def cutRec (w : WireRec) (off len : Nat) : WireRec :=
  { w with off := off, len := len, bytes := if w.zero then [] else (w.bytes.drop (off - w.off)).take len }

/-- PIECE (R489, R493): vintage, write source, and one record. -/
def sendPiece (d : Device) (dest n : Nat) (src : Source) (w : WireRec) (a : Option TrlAtomic) : Device :=
  d.trlSend dest "PIECE" [n, sourceNum src] [w] (recordBytes w ++ atomBytes a)

/-- Place a write of a shared cascade (R493, R494): the runs that lie here join the open vintage, the others leave as PIECE
frames tagged with its number; the completion waits for COMMIT. An atomic is evaluated where its target lies (log 19). -/
def placeShared (d : Device) (r : WriteReq) : Device :=
  let n := d.pst.nextNum
  let d := d.reserveFor n
  match r.op with
  | .metadata m => (d.appendRec (d.recordOf r)).sendMeta m
  | _ =>
    let runs := d.ownerRuns r.cask r.off (opLen r.op)
    if runs.all (fun p => p.1 == d.trl.id) then d.appendRec (d.recordOf r)
    else
      let atom : Option TrlAtomic := match r.op with
        | .cas w c s => some { tag := d.trl.tag, cas := true, width := w, arg := c, swap := s }
        | .fadd a => some { tag := d.trl.tag, cas := false, width := 8, arg := a, swap := 0 }
        | _ => none
      match atom, runs with
      | some a, (o, off, len) :: _ =>
        let blank : WireRec := { cask := r.cask, off := off, len := len, bytes := [], zero := false, policy := r.policy, metaOp := none, resync := false,
                                 atomic := true }
        let rec0 : VRecord := { src := r.src, tok := r.tok, wire := blank, result := 0, charge := chargeOf r.off r.op, size := sizeOf r.op, released := false }
        let d := (d.sendPiece o n r.src blank (some a)).bumpPair Reg.TRL_PIECES_LO
        d.setTrl { d.trl with tag := d.trl.tag + 1, atoms := d.trl.atoms.put d.trl.tag (n, r.tok), wait := d.trl.wait ++ [(n, rec0)] }
      | _, _ =>
        let rec0 := d.recordOf r
        let d := runs.foldl (fun (d : Device) p =>
          let w := cutRec rec0.wire p.2.1 p.2.2
          if p.1 = d.trl.id then d.appendRec { rec0 with wire := w, tok := .none, charge := chargeOf w.off (.zero w.len), size := wireSize w, released := false }
          else (d.sendPiece p.1 n r.src w none).bumpPair Reg.TRL_PIECES_LO) d
        let own := runs.foldl (fun a p => if p.1 = d.trl.id then a + chargeOf p.2.1 (.zero p.2.2) else a) 0
        let d : Device := { d with adm := { d.adm with pend := d.adm.pend + own - rec0.charge } }
        d.setTrl { d.trl with wait := d.trl.wait ++ [(n, rec0)] }

/-- The size that a placement adds to this device's part. -/
def ownSize (d : Device) (r : WriteReq) : Nat :=
  if !d.cascadeShared then sizeOf r.op
  else match r.op with
    | .data _ => (d.ownerRuns r.cask r.off (opLen r.op)).foldl (fun a p => if p.1 = d.trl.id then a + 64 + roundUp p.2.2 64 else a) 0
    | _ => sizeOf r.op

/-- Place a write when staging and the open vintage have room (R42, R43, R50); none: it must wait. -/
def tryPlace (d : Device) (r : WriteReq) : Option Device :=
  let size := d.ownSize r
  if stageCap < d.stageUsed + size ∨ (d.cascadeShared ∧ !d.pst.numValid) then none
  else
    let mustSeal := !d.pst.openRecs.isEmpty && decide (d.pst.openMax < recsSize d.pst.openRecs + size)
    if mustSeal && (!d.maySeal || d.cascadeMember) then none
    else
      let d := if mustSeal then (if d.cascadeShared then d.vclkBoundary else d.sealNow .size) else d
      let d := if d.cascadeShared then d.placeShared r else d.appendRec (d.recordOf r)
      let d := if d.pst.openMax < size then d.trySeal .size else d
      let d := match r.tok with
        | .desc fn q seq =>
          match d.sq? fn q with
          | some s => d.releasePkt s.qmq (.desc fn q seq)
          | none => d
        | .pdt loc _ _ _ => d.releasePkt (d.groupQ loc) r.tok
        | _ => d
      some d.fenceSeals

/-- Whether the packet that holds a request's data is poisoned (R229). -/
def tokPoisoned (d : Device) (t : Token) : Bool :=
  match t with
  | .desc fn q seq => d.descPoisoned fn q seq
  | .pdt loc _ _ _ => (d.queue (d.groupQ loc)).pkts.any (fun p => p.tok == t && p.poison)
  | _ => false

/-- A write waits for placement (R43). -/
def waitPlace (d : Device) (r : WriteReq) : Device :=
  let full := stageCap < d.stageUsed + d.ownSize r
  let d := if d.cascadeMember && !full then d.askBoundary else d
  let d := d.setPst { d.pst with placeWait := d.pst.placeWait ++ [r] }
  if full then d.raise Reg.PST_INT_STATUS 0 2 else d

/-- The queue's no-wait flag of a request (R116). -/
def noWait (d : Device) (t : Token) : Bool :=
  match t with
  | .desc fn q _ =>
    match d.sq? fn q with
    | some s => s.nowait
    | none => false
  | _ => false

/-- The charge of an admitted record joins the pending charge (R104). -/
def takeCharge (d : Device) (r : WriteReq) : Device :=
  { d with adm := { d.adm with pend := d.adm.pend + chargeOf r.off r.op } }

/-- A write ends with ST_BUDGET (R116). -/
def rejectBudget (d : Device) (r : WriteReq) : Device :=
  (d.bump Fld.PST_BUDGET_REJ_CNT_VALUE).finish r.tok stBudget 0 0

/-- The charge of an admitted write that will not be placed is released (DESIGN CHOICE, log 42). -/
def giveCharge (d : Device) (r : WriteReq) : Device :=
  { d with adm := { d.adm with pend := d.adm.pend - chargeOf r.off r.op } }

/-- The writes on their way to placement: at R75's gate, at steps 10 and 11 of R87, and behind staging. -/
def writesOnWay (d : Device) : List WriteReq := d.csk.gate ++ d.mir.step10 ++ d.adm.held ++ d.pst.placeWait

/-- The writes on their way to placement that satisfy `p` are dropped, and the charges of those admitted released. -/
def dropWrites (d : Device) (p : WriteReq → Bool) : Device :=
  let d := (d.pst.placeWait.filter p).foldl (fun (d : Device) r => d.giveCharge r) d
  { d with
    csk := { d.csk with gate := d.csk.gate.filter (fun w => !p w) }
    mir := { d.mir with step10 := d.mir.step10.filter (fun w => !p w) }
    adm := { d.adm with held := d.adm.held.filter (fun w => !p w) }
    pst := { d.pst with placeWait := d.pst.placeWait.filter (fun w => !p w) } }

/-- Step 11 of R87 (R114–R116): whether the write is admitted now; the device with the credit taken or the write held or
refused. -/
def step11 (d : Device) (r : WriteReq) : Device × Bool :=
  let d := d.reevalAdmit
  let c := chargeOf r.off r.op
  if d.noWait r.tok && decide (d.adm.state ≠ .opened) then (d.rejectBudget r, false)
  else if d.adm.held.isEmpty && decide (d.adm.state = .opened) then (d.takeCharge r, true)
  else if d.adm.held.isEmpty && decide (d.adm.state = .throttled ∧ c ≤ d.adm.credit) then
    ({ d with adm := { d.adm with credit := d.adm.credit - c } }.takeCharge r, true)
  else ({ d with adm := { d.adm with held := d.adm.held ++ [{ r with heldAt := d.now }] } }, false)

/-- Whether writes wait at step 10 of R87 (R162, R173, R191). -/
def step10Waits (d : Device) : Bool :=
  d.sup.state == .flush || d.mir.soloPend || d.mir.hbHolder != 0 || (!d.mir.attached && !d.mir.absent)

/-- What a cask or grant command waits on before its record is placed, and what waits for it from then until it completes (R75): the
requests to a cask that it shrinks or deletes, or with a handle that it revokes. -/
def underJob (d : Device) (op : MetaOp) (path : Path) (cask : Nat) : Bool :=
  match op with
  | .caskModify id e m =>
    match d.csk.casks.find? id with
    | some old => natBit m 9 && decide (e.size < old.size) && id == cask
    | none => false
  | .caskDelete id => id == cask
  | .grantRevoke slot _ => (match path with
    | .roce h _ => h % 1048576 == slot
    | .pdt h _ _ => h % 1048576 == slot
    | _ => false)
  | _ => false

/-- Whether a request waits for such a command to complete before it is translated (R75). -/
def gated (d : Device) (path : Path) (cask : Nat) : Bool := d.csk.jobs.any (fun j => j.placed && d.underJob j.op path (d.pathCask path cask))

/-- Whether later pieces of an earlier request of a source are still to be translated: the writes that follow it wait for them, so that two
writes of one source are never reordered (R34, R45). -/
def splitAhead (d : Device) (src : Source) : Bool := d.writesOnWay.any (fun w => w.src == src && decide (opLen w.more ≠ 0))

/-- Whether a request is not translated yet: it, or an earlier request of its source, waits for a command of R75, or an earlier one has pieces
to come (R34). A later piece goes before the requests that wait behind its own. -/
def heldBack (d : Device) (r : WriteReq) : Bool :=
  d.gated r.path r.cask || (!r.part && (d.csk.gate.any (fun w => w.src == r.src) || d.splitAhead r.src))

/-- A request waits untranslated, a later piece before what waits behind it. -/
def holdBack (d : Device) (r : WriteReq) : Device :=
  { d with csk := { d.csk with gate := if r.part then r :: d.csk.gate else d.csk.gate ++ [r] } }

/-- A request from its translation to its placement, as far as it comes (R45, R75, R87). Each piece is translated once the one
before it is placed. -/
def submit : Nat → Device → WriteReq → Device
  | 0, d, _ => d
  | n + 1, d, r =>
    let pc := firstPiece r.off r.op
    let r := { r with op := pc.1, more := pc.2 }
    if d.heldBack r then d.holdBack { r with op := joinOp pc }
    else match d.checks r.path r.acc r.cask r.off (opLen r.op) with
    | some st => (d.noteReject r.path st).finish r.tok st 0 0
    | none =>
      let cask := d.pathCask r.path r.cask
      let r := { r with cask := cask, policy := match d.csk.casks.find? cask with
        | some e => e.mirror
        | none => .syncRequired }
      if !d.placesWrites then d.finish r.tok stFenced 0 0
      else if d.step10Waits then { d with mir := { d.mir with step10 := d.mir.step10 ++ [r] } }
      else if r.policy = .syncRequired ∧ !d.mir.attached then d.finish r.tok stNoTwin 0 0
      else
        let (d, ok) := d.step11 r
        if !ok then d
        else if d.pst.placeWait.any (fun w => w.src == r.src) then d.waitPlace r
        else if d.tokPoisoned r.tok then (d.giveCharge r).finish r.tok stPoison 0 0
        else match d.tryPlace r with
          | some d => if opLen r.more = 0 then d
                      else submit n (d.addPiece r.tok) { r with off := r.off + opLen r.op, op := r.more, part := true }
          | none => d.waitPlace r

/-- Enough for the pieces of any request: a LENGTH is below 4 GiB (R45). -/
def pieceFuel : Nat := 4098

/-- A write that has been admitted goes to placement: behind the writes of its source that wait there (R34), else now. -/
def toPlace (d : Device) (r : WriteReq) (place : Device → WriteReq → Device) : Device :=
  if d.pst.placeWait.any (fun w => w.src == r.src) then d.waitPlace r else place d r

/-- Place a write that waited, and go on with the rest of its request. -/
def placeWaiting (d : Device) (r : WriteReq) : Device :=
  if d.tokPoisoned r.tok then (d.giveCharge r).finish r.tok stPoison 0 0
  else match d.tryPlace r with
  | some d => if opLen r.more = 0 then d
              else submit pieceFuel (d.addPiece r.tok) { r with off := r.off + opLen r.op, op := r.more, part := true }
  | none => d.waitPlace r

/-- Mark a rack in the absence map (R187); its map page becomes dirty. -/
def markAbsent (d : Device) (k : Nat) : Device :=
  if d.mir.absence.contains k then d
  else ({ d with mir := { d.mir with absence := insertNat k d.mir.absence } }.dirtyMeta (.absence (k / 32768))).setPair
    Reg.MIR_ABSENT_LO (d.mir.absence.length + 1)

/-- Apply one rack's share of a write (R47, R80): its pages become present and dirty. -/
def applyRack (d : Device) (w : WireRec) (clean : Bool) (idx : Nat) : Device :=
  let d := d.ensureFrame w.cask idx
  let r := d.rack w.cask idx
  let lo := max w.off (idx * 65536)
  let hi := min (w.off + w.len) (idx * 65536 + 65536)
  let ps := pagesOf idx w.off w.len
  -- a page written in part is filled below the write from its newest flushed copy, or with zeros (R47, log 15)
  let d := ps.foldl (fun d p =>
    if page? r.present p || decide (w.off ≤ idx * 65536 + p * 4096 ∧ idx * 65536 + p * 4096 + 4096 ≤ w.off + w.len) then d
    else d.setBytes (dramKey r.frame (p * 4096)) (d.rackPage w.cask idx p)) d
  let bytes := fitBytes (hi - lo) (if w.zero then [] else w.bytes.drop (lo - w.off))
  let d := d.setBytes (dramKey r.frame (lo - idx * 65536)) bytes
  let m := maskOf ps
  let whole (p : Nat) : Bool := decide (w.off ≤ idx * 65536 + p * 4096 ∧ idx * 65536 + p * 4096 + 4096 ≤ w.off + w.len)
  let d : Device := { d with csk := { d.csk with
    poison := d.csk.poison.filter (fun x => !(decide (x / 16 = rackKey w.cask idx) && whole (x % 16))) } }     -- R193
  d.putRack w.cask idx { r with present := r.present ||| m, dirty := if clean then r.dirty else r.dirty ||| m,
                                rdirty := if r.wb ∧ !clean then r.rdirty ||| m else r.rdirty, cvalid := true, acc := 15 }

/-- Mark a cask entry in the absence map (R187). -/
def markCask (d : Device) (id : Nat) : Device :=
  if d.mir.absCasks.contains id then d
  else { d with mir := { d.mir with absCasks := insertNat id d.mir.absCasks } }.dirtyMeta (.absCask (id / 32768))

/-- Mark a grant slot in the absence map (R187). -/
def markGrant (d : Device) (slot : Nat) : Device :=
  if d.mir.absGrants.contains slot then d
  else { d with mir := { d.mir with absGrants := insertNat slot d.mir.absGrants } }.dirtyMeta (.absGrant (slot / 32768))

/-- An apply has changed a cask entry, or a grant slot: its table page becomes dirty, and with `mark` its bit of the absence map is set
(R103, R187). -/
def changedCask (d : Device) (mark : Bool) (id : Nat) : Device := (d.dirtyCask id).when mark (·.markCask id)
def changedGrant (d : Device) (mark : Bool) (slot : Nat) : Device := (d.dirtyGrant slot).when mark (·.markGrant slot)

/-- The racks of a cask from an index on are freed (R74), and with `mark` their bits set: they are changed (R187). -/
def dropRacks (d : Device) (mark : Bool) (cask idx : Nat) : Device :=
  let ks := d.csk.racks.keys.filter (fun k => decide (k / 2 ^ 36 = cask ∧ idx ≤ k % 2 ^ 36))
  (d.when mark (fun d => ks.foldl (fun (d : Device) k => d.markAbsent k) d)).freeRacksFrom cask idx

/-- Apply a metadata record (R74, R78, R103, R187, R188): the racks that a deletion or a shrink frees, the table pages that it changes, an
entry of the epoch-start table. -/
def applyMeta (d : Device) (mark : Bool) (m : MetaOp) : Device :=
  match m with
  | .caskCreate id e => ((d.dropRacks mark id 0).noteMkey e.mkey).changedCask mark id
  | .caskModify id e bits => (d.when (natBit bits 9) (·.dropRacks mark id e.size)).changedCask mark id
  | .caskDelete id =>
    let qs := (d.csk.quarBy.filter (fun p => p.1 == id)).map (·.2)
    let d : Device := { d with csk := { d.csk with quarBy := d.csk.quarBy.filter (fun p => p.1 != id) } }
    ((qs.foldl (fun (d : Device) s => d.changedGrant mark s) d).dropRacks mark id 0).changedCask mark id
  | .grantIssue s _ => d.changedGrant mark s
  | .grantRevoke s _ => d.changedGrant mark s
  | .epochRec e b => { d with mir := { d.mir with epochs := ((e, b, d.pst.appliedNum) :: d.mir.epochs).take 1024 } }.dirtyMeta .epochTable
  | .caskImage id none => (d.freeRacksFrom id 0).dirtyCask id
  | .caskImage id (some e) => (d.noteMkey e.mkey).dirtyCask id
  | .grantImage s _ => d.dirtyGrant s

/-- Release a page charge (R104). -/
def freeCharge (d : Device) (n : Nat) : Device := { d with adm := { d.adm with pend := d.adm.pend - n } }

/-- The page charges of records. -/
def chargeSum (rs : List VRecord) : Nat := rs.foldl (fun a r => a + r.charge) 0

/-- Apply one record to DRAM (R46, R74, R76, R187). A resync record changes nothing on the unit that sent it (R189). -/
def applyRec (d : Device) (own mark : Bool) (r : VRecord) : Device :=
  let w := r.wire
  let d := d.freeCharge r.charge
  if w.resync && own then d
  else match w.metaOp with
    | some m => d.applyMeta mark m
    | none =>
      (racksOf w.off w.len).foldl (fun d i =>
        let full := w.zero && decide (w.off ≤ i * 65536 ∧ i * 65536 + 65536 ≤ w.off + w.len)
        let d := if full then d.freeRack w.cask i else d.applyRack w false i
        if mark then d.markAbsent (rackKey w.cask i) else d) d

/-- The apply of committed vintage `num`, the lowest one, finishes (R40, R41): its staging is freed. -/
def applyVint (d : Device) (num : Nat) : Device :=
  match d.pst.vints with
  | v :: rest =>
    if v.num = num ∧ v.state = .committed then
      let mark := d.mir.marking && (match d.mir.markBelow with
        | some n => decide (num < n)
        | none => true)
      let d := d.setPst { d.pst with vints := rest }
      let d := v.recs.foldl (fun d r => d.applyRec v.own mark r) d
      (d.setPst { d.pst with appliedNum := max d.pst.appliedNum num }).reevalAdmit
    else d
  | [] => d

/-- Whether every write in a fence's scope has met its condition (R57). -/
def fenceMet (d : Device) (f : Fence) : Bool :=
  let open' (t : Token) : Bool := match t with
    | .desc fn q seq =>
      match d.desc? fn q seq with
      | some x => x.phase != .done
      | none => false
    | .pdt loc src _ msn => d.pdtOpen loc src msn
    | _ => false
  f.scope.all (fun t => !open' t) &&
    (!f.twin || !(d.trl.wait.any (fun p => tokIn p.2.tok f.scope) || d.closed.any (fun r => tokIn r.tok f.scope) || (d.pst.openRecs.any (fun r => tokIn r.tok f.scope)) ||
      d.pst.vints.any (fun v => v.state == .sealed && v.recs.any (fun r => tokIn r.tok f.scope))))

/-- Complete a fence whose condition is met (R57). -/
def finishFence (d : Device) (f : Fence) : Device :=
  if d.fenceMet f then
    let d := d.setPst { d.pst with fences := d.pst.fences.filter (fun g => g.tok != f.tok) }
    d.finish f.tok (if f.twin && d.mir.absent then stNoTwin else stOk) 0 0
  else d

/-- A fence starts (R57): one with nothing in scope that is still outstanding completes with ST_OK at once. -/
def beginFence (d : Device) (f : Fence) : Device :=
  if d.fenceMet f then d.finish f.tok stOk 0 0
  else ((d.setPst { d.pst with fences := d.pst.fences ++ [f] }).fenceSeals).finishFence f

end Device
end Sys2Proof.Machine
end

