-- ==== Sys2Proof/Machine/Open.lean ====
section
/-! DEFINITION. Service open and the restore waves (R145, R147–R150, R152). -/

namespace Sys2Proof.Machine

namespace Device

def setRst (d : Device) (r : Rst) : Device := { d with rst := r }
def setHold (d : Device) (h : Hold) : Device := { d with hold := h }

/-- The restore priority and the place of a rack's cask. -/
def rackPri (d : Device) (k : Nat) : Nat :=
  match d.csk.casks.find? (k / 2 ^ 36) with
  | some e => e.rpri
  | none => 0

def rackPlace (d : Device) (k : Nat) : Place :=
  match d.csk.casks.find? (k / 2 ^ 36) with
  | some e => e.place
  | none => .streamed

/-- Wave 0 (R149): vault racks by descending RPRI, then ascending cask and rack, which is the order of keys. -/
def waveZero (d : Device) : List Nat :=
  let ks := (d.csk.racks.filter (fun p => p.2.vault && !p.2.res)).map (·.1)
  sortBy (fun a b => decide (d.rackPri b < d.rackPri a) || (d.rackPri a == d.rackPri b && decide (a < b))) ks

/-- The fill wave of priority `p` (R149): its written racks that are not resident, those of PIN_DRAM casks first, then those of PREFER_DRAM
casks unless their fill has ended. -/
def fillWave (d : Device) (p : Nat) : List Nat :=
  let ks := (d.csk.racks.filter (fun x => x.2.cvalid && x.2.homed && !x.2.res && d.rackPri x.1 == p)).map (·.1)
  ks.filter (fun k => d.rackPlace k == .pinDram) ++ (if d.rst.preferOff then [] else ks.filter (fun k => d.rackPlace k == .preferDram))

/-- PST_RST_FILL_LEFT: the racks that the fill waves have still to read, in the wave in progress and in the later ones; while wave 0 runs,
those that it does not read itself. -/
def fillLeftCount (d : Device) : Nat :=
  let later (n : Nat) (p : Nat → Bool) : Nat := (List.range n).foldl (fun a i => a + ((d.fillWave i).filter p).length) 0
  if !d.rst.svcOpen then 0
  else if d.rst.wave0 then later 16 (fun k => !((d.csk.racks.find? k).getD Rack.blank).vault)
  else if d.rst.filling then d.rst.fillLeft.length + later d.rst.wavePri (fun _ => true)
  else 0

/-- Racks that refer to generation `g`, by CPTR or along a chain (R150). -/
def vaultLeft (d : Device) (g : Nat) : List Nat :=
  let other := d.gen (1 - g)
  ((d.gen g).racks.filter (fun p =>
    let r := (d.csk.racks.find? p.1).getD Rack.blank
    (r.vault && r.cptr == p.2.vaddr) ||
      (match other.racks.find? p.1 with
       | some o => r.vault && r.cptr == o.vaddr && o.prev == some p.2.vaddr
       | none => false))).map (·.1)

/-- PST_RST_STATUS.PHASE after service open (R149): wave 0, fill and homing, homing only, complete. -/
def wavePhase (d : Device) : Nat :=
  let homing := !(d.vaultLeft 0).isEmpty || !(d.vaultLeft 1).isEmpty
  if d.rst.wave0 then 5
  else if d.rst.filling && !d.rst.fillPaused then 6
  else if homing then 7
  else 0

/-- The fill waves are paused once FILL_EN is 0 and the fill reads already issued have completed (R149); PHASE follows. -/
def refreshPhase (d : Device) : Device :=
  let d := d.setRst { d.rst with fillPaused := d.rst.filling && !d.flag Fld.PST_RST_CTRL_FILL_EN && d.rst.waveOut.isEmpty }
  if d.rst.svcOpen ∧ d.rst.phase ≠ 8 ∧ d.rst.phase ≠ 9 then d.setRst { d.rst with phase := d.wavePhase } else d

/-! ### The waves (R148, R149, R514) -/

/-- Whether waves issue reads: MC1 runs, the supply is NORMAL and nothing ends service; the fill waves also ask for FILL_EN. -/
def wavesRun (d : Device) : Bool :=
  d.rst.svcOpen && d.hold.supply == .normal && d.coreUp 1 && !d.portStopped && (d.rst.wave0 || d.flag Fld.PST_RST_CTRL_FILL_EN)

/-- Whether every channel that a rack's read uses has fewer wave reads outstanding than WAVE_DEPTH (R148). -/
def waveFits (d : Device) (k : Nat) : Bool :=
  let out := (d.rst.waveOut.map (fun x => d.fetchChans x)).flatten
  (d.fetchChans k).all (fun c => decide (out.count c < d.fld Fld.PST_RST_CTRL_WAVE_DEPTH))

/-- A rack is the wave's no longer. -/
def dropWave (d : Device) (k : Nat) : Device := d.setRst { d.rst with fillLeft := d.rst.fillLeft.filter (fun x => decide (x ≠ k)) }

/-- Issue the wave read of a rack, where it may be issued now (R92, R148, R149): one that has no home copy to read, or is resident, is
dropped; one whose demand fetch is in flight waits for it; a PREFER_DRAM rack takes a frame only while free frames are at least FREE_LOW,
and below that the fill of PREFER_DRAM casks ends. -/
def waveIssue (d : Device) (k : Nat) : Device :=
  let r := (d.csk.racks.find? k).getD Rack.blank
  if d.rst.waveOut.contains k || r.fetch then d
  else if r.res || !r.cvalid || !r.homed || (d.rst.wave0 && !r.vault) then d.dropWave k
  else if !d.rst.wave0 && d.rackPlace k == .preferDram && (d.rst.preferOff || decide (d.framesFree < 1024 * d.fld Fld.CSK_FREE_LOW_FREE_LOW_K)) then
    (d.dropWave k).setRst { (d.dropWave k).rst with preferOff := true }
  else if d.reserveHolds r || !d.waveFits k then d
  else (d.issueFetch (k / 2 ^ 36) (k % 2 ^ 36)).setRst { d.rst with waveOut := d.rst.waveOut ++ [k] }

/-- The wave in progress has been read: wave 0 reads again what a retired channel took from it (R515), and gives way to the fill waves; each
fill wave gives way to the next lower priority, whose racks are those that have it then, and after the last FILL_DONE sets (R149). -/
def nextWave (d : Device) : Device :=
  if d.rst.wave0 && !d.rst.again.isEmpty then d.setRst { d.rst with fillLeft := d.rst.again, again := [] }
  else if d.rst.wave0 then
    let d := d.setRst { d.rst with wave0 := false, filling := true, preferOff := false, wavePri := 15 }
    let d := d.setRst { d.rst with fillLeft := d.fillWave 15 }
    d.setFld Fld.PST_RST_T_T_WAVE0_MS (min 65535 ((d.now - d.rst.openAt) / 1000))
  else if d.rst.wavePri = 0 then (d.setRst { d.rst with filling := false }).raise Reg.PST_RST_INT_STATUS 1 1
  else
    let d := d.setRst { d.rst with wavePri := d.rst.wavePri - 1 }
    d.setRst { d.rst with fillLeft := d.fillWave d.rst.wavePri }

/-- The waves go on as far as they may. -/
def pumpWaves : Nat → Device → Device
  | 0, d => d
  | n + 1, d =>
    if !d.wavesRun || !(d.rst.wave0 || d.rst.filling) then d
    else
      let d := d.rst.fillLeft.foldl (fun (d : Device) k => d.waveIssue k) d
      if d.rst.fillLeft.isEmpty && d.rst.waveOut.isEmpty then pumpWaves n d.nextWave else d

/-- The wave reads that have completed, and those of racks freed meanwhile, are outstanding no more; the waves go on, and PHASE follows. -/
def runWaves (d : Device) : Device :=
  let live (k : Nat) : Bool := ((d.csk.racks.find? k).getD Rack.blank).fetch
  (pumpWaves 20 (d.setRst { d.rst with waveOut := d.rst.waveOut.filter live })).refreshPhase

/-- REVOKE_US of every QUARANTINE slot is reset (R84). -/
def resetRevoke (d : Device) : Device :=
  { d with csk := { d.csk with grants := d.csk.grants.map (fun (p : Nat × GrantEntry) =>
      if p.2.state = GrantState.quarantine then (p.1, { p.2 with revokeUs := d.usec }) else p) } }

/-- Whether a power-state transition or a reset is in progress. -/
def powerMoving (d : Device) : Bool := d.sup.state != .on || decide (2 ≤ d.sup.cur) || d.sup.warm.isSome || d.rst.phase == 9

/-- A bank test starts when a measurement set is due and the conditions of R106 hold; HU_TEST_RETRY tries again. -/
def tryTest (d : Device) : Device :=
  if d.hold.setStart && d.hold.testAt.isNone && !d.hold.probing && d.hold.supply == .normal && !d.powerMoving &&
      decide (d.fld Fld.SUP_HV_WARN_RISE + d.fld Fld.SUP_HU_CTRL_DV + 100 ≤ d.sup.hu) then
    -- R500: with a shared bank only the master runs the bank test
    if d.cascadeMember && d.flag Fld.TRL_CFG_SHARED_BANK then d.setHold { d.hold with probing := true }
    else (d.setHold { d.hold with testAt := some d.now }).pin "HU_TEST_N" 0
  else d

/-- A record joins the journal in MRAM (R133, R414), a circle of 512: it carries the power-cycle count and the next sequence number. -/
def journalAdd (d : Device) (r : JRec) : Device :=
  let n := match d.hold.journal with
    | e :: _ => e.seq + 1
    | [] => 1
  d.setHold { d.hold with journal := { cycles := d.fld Fld.EVR_CYCLES_VALUE, seq := n, what := r } :: d.hold.journal.take 511 }

/-- What the newest record of the journal says. -/
def newestSaid (d : Device) : Option JRec := d.hold.journal.head?.map (·.what)

/-- The reserved-area map in force (R126): where the cask table, the grant table, the rack tables and the absence map lie, in DRAM and, as the
latest update of the map has it, in the cellar. The places are the firmware's: free values (log 60). -/
def areaMap (d : Device) : List (Nat × Nat) := (List.range 4).map (fun a => (Config.areaDram a, Config.areaCell a d.hold.mapNo))

/-- The open record (R128, R133, R145): it names the source generation, any older referenced one, and the reserved-area map in force. -/
def openRecord (d : Device) : Device :=
  let src := if d.rst.source = 1 then some d.rst.srcGen else none
  d.journalAdd (.openRec src (if d.rst.older then some (1 - d.rst.srcGen) else none) d.areaMap)

/-- Numbering resumes (R49): at the first number of the block after the highest block recorded or learned. The new block is recorded
with the first number issued in it. -/
def resumeNumbers (d : Device) : Device :=
  if d.cascadeShared && d.cascadeMember then d.setPst { d.pst with numValid := false } else        -- R494: VCLK gives them
  let top := max d.pst.resv (max (max d.mir.twinHeld d.mir.learned / 2 ^ 24 * 2 ^ 24)
    (max (d.pst.commitNum / 2 ^ 24 * 2 ^ 24) (match d.rst.twinH with
      | some h => h / 2 ^ 24 * 2 ^ 24
      | none => 0)))
  let first := top + 2 ^ 24
  d.setPst { d.pst with nextNum := first, numValid := true }

/-- Service opens (R145): the open record, numbering, REVOKE_US of every QUARANTINE slot, the start of the PDT engine (R295), and the
waves: wave 0 after a load from a sealed generation (R133), or the waves as they stood (R514). -/
def openService (d : Device) : Device :=
  if d.rst.svcOpen then d
  else
    let d := d.openRecord
    let d := (if d.pst.numValid then d else d.resumeNumbers).resetRevoke
    let d := if d.rst.phase = 9 then d.setRst { d.rst with svcOpen := true, openAt := d.now, phase := 5 }
      else d.setRst { d.rst with svcOpen := true, openAt := d.now, phase := 5, wave0 := true, filling := false, waveOut := [], again := [], preferOff := false, wavePri := 15,
                                 fillLeft := if d.rst.source = 1 then d.waveZero else [] }
    let d : Device := { d with pdt := { d.pdt with quietAt := d.now } }
    let d := (d.setFld Fld.PST_RST_T_T_OPEN_MS (min 65535 ((d.now - d.rst.startAt) / 1000))).setPair Reg.PST_RST_DEMAND_CNT_LO 0
    let d := d.raise Reg.PST_RST_INT_STATUS 0 2
    let d := d.setHold { d.hold with setStart := d.hold.setStart || d.hold.coldSet, coldSet := false }
    d.runWaves.reevalAdmit.tryTest

end Device
end Sys2Proof.Machine
end

