-- ==== Sys2Proof/Machine/Role.lean ====
section
/-! DEFINITION. Roles: entering and leaving them, the pins, arbiter messages and link frames (R160–R191). -/

namespace Sys2Proof.Machine

/-- Frame type numbers of R168. -/
def arbLeaseRequest : Nat := 1
def arbLeaseRenew : Nat := 3
def arbPromoteRequest : Nat := 4
def arbHandbackRequest : Nat := 6
def arbFenceNotice : Nat := 8

/-- Whether the map holds every unit of a message below ⌈MSG_LEN / 256⌉ (R289). -/
def PdtEntry.whole (e : PdtEntry) : Bool :=
  e.op == 4 || e.op == 8 || decide ((e.len + 255) / 256 ≤ (e.units.filter (fun u => decide (u < (e.len + 255) / 256))).length)

namespace Device

def setMir (d : Device) (m : Mir) : Device := { d with mir := m }

/-- The unit number, MIR_CTRL.UNIT. -/
def unit (d : Device) : Nat := d.fld Fld.MIR_CTRL_UNIT

/-- H: the highest vintage this unit holds as committed (R141, R168). -/
def hNum (d : Device) : Nat := d.pst.commitNum

/-- Whether this unit receives vintages. -/
def receives (d : Device) : Bool := d.mir.role == .standby || d.mir.role == .resync

/-- The budget block of R177, from this unit's own values. Of a receiver only the vintages that it holds whole count as used (R179). -/
def budgetBlock (d : Device) : Budget :=
  { dirtyPages := d.dirtyPages, limit := d.dbLimit, high := d.dbHigh,
    freeKib := (stageCap - (if d.receives then d.pst.vints.foldl (fun a v => a + recsSize v.recs) 0 else d.stageUsed)) / 1024,
    wbRate := d.wbRate / 1000, admState := admitNum d.adm.state }

def budgetArgs (b : Budget) : List Nat := [b.dirtyPages, b.limit, b.high, b.freeKib, b.wbRate, b.admState]

/-- Send a frame on the Vaelaune Link (R176); nothing leaves while the link is down. The output holds its fields (LSEQ, then `args`, whose
first two are ARG0 and ARG1), the records that end in it, and the bytes of the whole frame. -/
def vae (d : Device) (kind : String) (args : List Nat) (recs : List WireRec := []) (payload : List Byte := []) (flags : Nat := 0) : Device :=
  if d.mir.linkUp then
    let n := d.mir.txLseq
    let (bad, d) := d.leaving 0x40
    (d.setMir { d.mir with txLseq := (n + 1) % 4294967296 }).emit
      (.vae kind (n :: args) recs (frameBytes (vaeType kind) flags n (args.getD 0 0) (args.getD 1 0) payload bad))
  else d

/-- The budget block as a payload's fields and bytes. -/
def vaeBudget (d : Device) (kind : String) (args : List Nat) : Device :=
  d.vae kind (args ++ budgetArgs d.budgetBlock) [] (budgetBytes d.budgetBlock)

/-- Whether the next repetition of a request leaves by the alternate port (R166): one of its kind has gone 10 ms without an answer, and
the last one left by the primary port. -/
def altNext (d : Device) (kind : Nat) : Bool :=
  let ms := d.mir.waitArb.filter (fun m => m.kind == kind)
  d.flag Fld.MIR_ARB_PATH_ALT_EN && ms.any (·.tried) && !(match ms.getLast? with
    | some m => m.alt
    | none => false)

/-- The tag of a message (R166): AES-CMAC with the pair key. -/
def arbTag (d : Device) (msg : List Byte) : List Byte :=
  match d.cph.slots.find? (d.fld Fld.MIR_ARB_KEY_KSLOT) with
  | some k => fitBytes 16 (Config.aesTag modeCmac (keyBytes k modeCmac) (List.replicate 4 0) 0 msg)
  | none => []

/-- The arbiter's address, MIR_ARB_ADDR0 highest (R166; log 20). -/
def arbAddr (d : Device) : Nat :=
  (List.range 4).foldl (fun a i => a * 2 ^ 32 + (d.reg (Reg.MIR_ARB_ADDR0 + 4 * i)).toNat) 0

/-- A message that cannot leave now waits for its next retry, as one that has no SEQ of R167 (log 6); FENCE_NOTICE does not wait. -/
def arbWaits (d : Device) (kind flags : Nat) (alt : Bool) : Device :=
  if kind = arbFenceNotice then d
  else d.setMir { d.mir with waitArb := d.mir.waitArb ++ [{ kind := kind, flags := flags, seq := 2 ^ 64, sentAt := d.now, alt := alt }] }

/-- Send a message to the arbiter (R166–R168): type, flags, and the two values of its body. It leaves by interface 0 of its NP port (R244,
DESIGN CHOICE, log 59). The output holds its fields, the port, VLAN, UDP ports and address that it leaves by, and its bytes with the tag. Only
FENCE_NOTICE leaves while MC2 is stopped: another message waits for its next retry (R20, R171; log 58). A unit with a unit-number conflict,
and a member of a cascade, send none (R175, R497), and from step 3 of bottling no unit does (R510); nor does a unit without a pair key (R369,
R370), whose message waits for its next retry as one that has no SEQ of R167 (log 6). FENCE_NOTICE is not answered. -/
def sendArb (d : Device) (kind flags a b : Nat) (alt : Bool := false) : Device :=
  if d.mir.unitConflict || d.cascadeMember || decide (3 ≤ d.hold.phase) then d
  else if kind ≠ arbFenceNotice ∧ !d.coreUp 2 then d.arbWaits kind flags alt
  else if d.fld Fld.MIR_ARB_KEY_KSLOT < 16 then d.arbWaits kind flags alt
  else if d.slotPending (d.fld Fld.MIR_ARB_KEY_KSLOT) then d.arbWaits kind flags alt
  else if !d.slotPermits (d.fld Fld.MIR_ARB_KEY_KSLOT) 2 then (d.eventR 4 (Reg.MIR_ARB_KEY / 65536) 370).arbWaits kind flags alt
  else
    let seq := d.fld Fld.EVR_CYCLES_VALUE * 2 ^ 40 + d.mir.seq % 2 ^ 40
    let d := d.setMir { d.mir with
      seq := d.mir.seq + 1
      waitArb := if kind = arbFenceNotice then d.mir.waitArb
                 else d.mir.waitArb ++ [{ kind := kind, flags := flags, seq := seq, sentAt := d.now, alt := alt }] }
    let serial := Config.serial.toNat % 2 ^ 56
    let pid := d.pair Reg.MIR_PAIR_LO
    let msg := arbBytes kind flags d.unit pid seq d.mir.epoch (if kind = arbHandbackRequest then handbackBody a b serial else unitBody a b serial)
    let np := if alt then d.fld Fld.MIR_ARB_PATH_ALT else d.fld Fld.MIR_ARB_PATH_PRI
    d.sendFrame (8 * np) (d.fld Fld.NET_P_PRIO_ARB_PRIO np) "ARBITER" [kind, flags, d.unit, pid, seq, 0, d.mir.epoch, a, b, serial, np,
      d.fld Fld.MIR_ARB_PATH_VLAN, d.fld Fld.MIR_ARB_PORT_SRC, d.fld Fld.MIR_ARB_PORT_DST, d.arbAddr, d.fld Fld.NET_P_PRIO_ARB_DSCP np]
      (msg ++ d.arbTag msg)

/-- The unit body of R168. -/
def sendUnit (d : Device) (kind flags : Nat) (alt : Bool := false) : Device :=
  d.sendArb kind flags d.hNum (d.fld Fld.MIR_CTRL_PREF_STANDBY) alt

/-- FENCE_IN keeps the unit from taking the lease (R164); so does the loss of both copies of a duplexed page (R320). -/
def noLease (d : Device) : Bool := d.mir.fenceIn || d.drm.fence

/-- LEASE_REQUEST (R161): with TWIN_PRESENT or ALONE. While FENCE_IN keeps the unit from taking the lease (R164) the request waits for
its next retry (log 6); a cascade that has not formed sends none (R488). -/
def requestLease (d : Device) (alone : Bool) : Device :=
  if d.trl.mode != 0 && !d.trl.formed then d
  else if d.noLease then d.arbWaits arbLeaseRequest (if alone then 4 else 8) false
  else d.sendUnit arbLeaseRequest (if alone then 4 else 8)

/-- LEASE_RENEW with its flags (R163, R168). -/
def renewLease (d : Device) (flags : Nat) : Device :=
  (d.setMir { d.mir with renewAt := d.now }).sendUnit arbLeaseRenew flags

/-- FENCE_OUT follows whether the unit may place writes (R164). -/
def driveFenceOut (d : Device) : Device := d.pin "FENCE_OUT" (b2n (!d.placesWrites))

/-- The pins take a value that shows no active role, at once (R186). -/
def pinsTo (d : Device) (v : Nat) : Device :=
  let d := d.setMir { d.mir with rolePins := v, svcOk := false, pinsDue := none, pinsOnCommit := none }
  (d.pin "ROLE" v).pin "SVC_OK" 0

/-- Cascade time in ns (R491). -/
def cascadeTime (d : Device) : Nat := (1000 * d.now + d.trl.timeOff) % 2 ^ 64

/-- The master of a cascade sends LEASE to every device (R497, R498). -/
def leaseOut (d : Device) : Device :=
  if d.cascadeMaster then
    d.trlSend 255 "LEASE" [(1000 * d.mir.leaseStart + d.trl.timeOff) % 2 ^ 64, d.mir.epoch * 2 ^ 32 + roleNum d.mir.role]
  else d

/-- What a unit in role `r` no longer waits for: SOLO confirmation and a handback it was asked for belong to ACTIVE (R162, R182, R191), a
handback it proposes and its delay to STANDBY (R191); a DETACHED unit takes no part in mirroring, and sends no JOIN (R160, R188). -/
def leaveRole (d : Device) (r : Role) : Device :=
  d.setMir { d.mir with
    soloPend := d.mir.soloPend && r == .active
    hbHolder := if r = .active then d.mir.hbHolder else 0
    hbProposed := if r = .standby then d.mir.hbProposed else none
    hbArmedAt := if r = .standby then d.mir.hbArmedAt else none
    attached := d.mir.attached && r != .detached
    joinReq := d.mir.joinReq && r != .detached }

/-- The role state changes (R160, R186): the ROLE_CHANGE bit, FENCE_OUT, and the pins of a role that is not active, unless they still
show an active value in the 10 ms that follow the entry to FENCED; every stream closes (R98). -/
def setRole (d : Device) (r : Role) : Device :=
  if d.mir.role = r then d
  else
    let was := d.placesWrites
    let d := d.leaveRole r
    let d := ((d.setMir { d.mir with role := r }).closeStreams (fun _ => true)).raise Reg.MIR_INT_STATUS 0 2
    let d := d.leaseOut
    let d := if was = d.placesWrites then d else d.driveFenceOut
    if d.mir.pinsDue.isSome then d
    else match r with
    | .detached => d.pinsTo 0
    | .standby => d.pinsTo 1
    | .resync => d.pinsTo 1
    | _ => d

/-- A unit whose power or logic has gone is DETACHED and starts from nothing (R153, R186, R428): the pins that showed another role drop. -/
def startDetached (d : Device) : Device :=
  let quiet := d.mir.role == .detached && d.mir.rolePins == 0
  let d := d.leaveRole .detached
  let d := d.setMir { d.mir with role := .detached, inbox := [] }
  if quiet then d else d.pinsTo 0

/-- Writes that wait at step 10 or step 11 of R87, or for placement, end with ST_FENCED (R160, R162). -/
def fenceWaiting (d : Device) : Device :=
  d.writesOnWay.foldl (fun d w => d.finish w.tok stFenced 0 0) (d.dropWrites (fun _ => true))

/-- A unit that becomes FENCED completes its fences with ST_FENCED (R57). -/
def fenceFences (d : Device) : Device :=
  let fs := d.pst.fences
  fs.foldl (fun d f => d.finish f.tok stFenced 0 0) { d with pst := { d.pst with fences := [] } }

/-- A PDT message that is complete and not translated when the unit enters FENCED takes the outcome ST_FENCED (R295). -/
def fenceMsgs (d : Device) : Device :=
  let fence (e : PdtEntry) : PdtEntry := if e.whole ∧ e.status = 0 then { e with status := stFenced, parts := [], units := [] } else e
  { d with pdt := { d.pdt with rx := d.pdt.rx.map (fun f => { f with entries := f.entries.map fence }) } }

/-- An ACTIVE or SOLO unit enters FENCED (R57, R162, R163, R171, R186): the open vintage force-seals with no completion
released, and FENCE_NOTICE leaves three times in all, but not for cause 0x7. -/
def enterFenced (d : Device) (cause : Nat) : Device :=
  if !d.placesWrites then d
  else
    let d := d.setRole .fenced
    let d := d.fenceWaiting.fenceFences.fenceMsgs
    let d := d.forceSeal
    let d := d.setMir { d.mir with soloPend := false, deadline := none, hbHolder := 0, fencedAt := d.now, fenceCause := cause,
                                   pinsDue := some (d.now + 10000), pinsOnCommit := none,
                                   notices := if cause = 7 then 0 else 2 }
    let d := (d.setFld Fld.MIR_ROLE_FENCE_CAUSE cause).raise Reg.MIR_INT_STATUS 2 5
    let d := if d.cascadeMember && cause != 5 then d.trlSend 0 "CTRL" [ctlFenced, 0] else d      -- R498
    if cause = 7 then d else d.sendUnit arbFenceNotice (cause * 16)

/-- The unit learns a vintage number from its twin (R49). -/
def learnNum (d : Device) (n : Nat) : Device := d.setMir { d.mir with learned := max d.mir.learned n }

/-- Place a record of the device's own into the open vintage: it needs no admission (R189, R184). -/
def placeOwn (d : Device) (w : WireRec) (charge size : Nat) : Device :=
  d.appendRec { src := .device, tok := .none, wire := w, result := 0, charge := charge, size := size, released := false }

/-- Place an epoch record into a new vintage and seal it (R161, R184 step 4); the pins rise at its commit (R186). In a shared
cascade the master places it, and closes the vintage with VCLK. -/
def placeEpoch (d : Device) : Device :=
  if d.cascadeShared && d.cascadeMember then d else
  let d := if d.pst.openRecs.isEmpty then d else if d.cascadeShared then d.vclkBoundary else d.sealNow .forced
  let d := d.setPst { d.pst with openMax := 1024 * d.fld Fld.PST_VINT_MAX_MAX_KIB }
  let d := d.placeOwn (metaRec (.epochRec d.mir.epoch d.pst.nextNum) false) 0 128
  let d := d.setMir { d.mir with pinsOnCommit := some d.pst.nextNum }
  if d.cascadeShared then (d.sendMeta (.epochRec d.mir.epoch d.pst.nextNum)).vclkBoundary else d.sealNow .forced

/-- The writes held at step 10 go on, unless something else still holds them there: they pass step 11 in their order. -/
def releaseStep10 (d : Device) : Device :=
  if d.step10Waits then d else
  let ws := d.mir.step10
  ws.foldl (fun d w =>
    if w.policy = .syncRequired ∧ !d.mir.attached then d.finish w.tok stNoTwin 0 0
    else
      let (d, ok) := d.step11 w
      if ok then d.toPlace w placeWaiting else d) (d.setMir { d.mir with step10 := [] })

/-- Steps 2, 3, 4 and 6 of R184 and, for a unit that becomes SOLO, step 5. -/
def takeService (d : Device) (solo : Bool) : Device :=
  let d := d.resumeNumbers.resetRevoke
  let d := d.setMir { d.mir with marking := d.mir.marking || solo, markBelow := if solo then none else d.mir.markBelow,
                                 serving := true, firstAt := d.now, lastShipped := 0, twinOther := d.mir.twinOther }
  d.openService.commitAll.placeEpoch.releaseStep10

/-- SOLO (R40, R162): the open vintage seals, SEALED vintages commit locally and waiting writes continue, those too that a proposed handback
held. -/
def becomeSolo (d : Device) : Device :=
  let d := d.forceSeal.setRole .solo
  let d := d.setMir { d.mir with soloPend := false, attached := false, marking := true, markBelow := none,
                                 pinsOnCommit := some d.pst.nextNum }
  d.commitAll.releaseStep10

/-- A page is poisoned (R193, R320). -/
def poisonPage (d : Device) (cask rack page : Nat) : Device :=
  let k := 16 * rackKey cask rack + page
  if d.csk.poison.contains k then d else { d with csk := { d.csk with poison := d.csk.poison ++ [k] } }

def endFetch (d : Device) (f : Pfetch) : Device := d.setMir { d.mir with pfetch := d.mir.pfetch.filter (fun g => g != f) }

/-- A page is not recovered: it is poisoned, and PFETCH_FAIL sets (R193). -/
def failPage (d : Device) (f : Pfetch) : Device :=
  let d := if f.cellar then d.raise Reg.CEL_INT_STATUS 2 4 else d
  ((d.endFetch f).poisonPage f.cask f.rack f.page).raise Reg.MIR_INT_STATUS 6 4

/-- A RESYNC unit whose twin is absent stays stale and becomes DETACHED (R162). -/
def leaveResync (d : Device) : Device :=
  if d.mir.role = .resync then (d.setMir { d.mir with stale := true }).setRole .detached else d

/-- What a job for MC2 is while that core is stopped: it waits (R20, R23). -/
def mc2Wait (d : Device) (j : MirJob) : Device :=
  if d.mir.inbox.contains j then d else d.setMir { d.mir with inbox := d.mir.inbox ++ [j] }

/-- The twin is declared absent (R162, R173, R182, R183, R193): pages that were being recovered from it are poisoned, its packets void (R233),
and a handback that this unit proposed is over (R191). -/
def declareAbsent (d : Device) : Device :=
  if d.mir.absent then d
  else
    let d := d.reclaim 0x410
    let d := (d.setMir { d.mir with absent := true, attached := false, budget := none, hbProposed := none }).raise Reg.MIR_INT_STATUS 1 4
    let d := (d.mir.pfetch.foldl (fun (d : Device) f => d.failPage f) d).reevalAdmit
    match d.mir.role with
    | .active => (d.setMir { d.mir with soloPend := true }).renewLease 1
    | .standby => d.sendUnit arbPromoteRequest 0
    | .resync => if d.coreUp 2 then d.leaveResync else d.mc2Wait .leave
    | .solo => d.releaseStep10
    | _ => d

/-- The twin becomes attached: it shows STANDBY or RESYNC. While SOLO confirmation is awaited, only that or FENCED ends the wait (R182). -/
def attachTwin (d : Device) : Device :=
  if d.mir.attached || d.mir.soloPend then d
  else
    let d := (d.setMir { d.mir with attached := true, absent := false }).reevalAdmit
    if d.mir.role = .active ∧ d.mir.hbHolder = 0 then d.releaseStep10 else d

/-- Whether this unit is one that starts a handback (R191). -/
def hbWanted (d : Device) : Bool :=
  d.mir.role == .standby && !d.flag Fld.MIR_CTRL_PREF_STANDBY && d.mir.twinPref == some true && d.mir.twinHb

/-- Whether the handback delay is running (MIR_ROLE.HB_ARMED): not while the twin is absent, nor once the handback has started. -/
def hbRuns (d : Device) : Bool := d.hbWanted && d.mir.hbArmedAt.isSome && !d.mir.absent && d.mir.hbProposed.isNone

/-- A unit that places no writes no longer holds its twin absent (log 6): its handback delay starts anew (R191). -/
def endAbsence (d : Device) : Device :=
  if d.mir.absent && !d.placesWrites then d.setMir { d.mir with absent := false, hbArmedAt := d.mir.hbArmedAt.map (fun _ => d.now) } else d

/-- The unit learns an epoch higher than its own (R162). -/
def learnEpoch (d : Device) (e : Nat) : Device :=
  if d.mir.epoch < e then
    if d.placesWrites then
      let d := d.enterFenced 6
      let d := d.setMir { d.mir with epoch := e, chainOpen := true }
      d.eventR 7 (Reg.MIR_CTRL / 65536) 162
    else d.setMir { d.mir with epoch := e, chainOpen := true }
  else d

/-- Give up whatever this unit has sealed and not committed, above vintage `p` (R62, R188). -/
def dropAbove (d : Device) (p : Nat) : Device :=
  let gone := d.pst.vints.filter (fun v => v.state == .sealed && decide (p < v.num))
  let charge := gone.foldl (fun a v => a + v.recs.foldl (fun a r => a + r.charge) 0) 0
  { d with pst := { d.pst with vints := d.pst.vints.filter (fun v => !(v.state == .sealed && decide (p < v.num))) },
           adm := { d.adm with pend := d.adm.pend - charge } }

/-- The SEALED vintages numbered at most `p` commit (R188 step 1). -/
def commitUpTo (d : Device) (p : Nat) : Device :=
  (d.pst.vints.filter (fun v => v.state == .sealed && decide (v.num ≤ p))).foldl (fun d v => d.commitVint v false) d

/-- The lease restarts from the send time of the request granted (R163). -/
def startLease (d : Device) (sentAt : Nat) : Device :=
  d.setMir { d.mir with leaseStart := sentAt, deadline := some (sentAt + 100000) }

/-- The holder drops its pins before the first HANDBACK_REQUEST (R186, R191). -/
def dropPinsHb (d : Device) : Device := d.pinsTo 1

end Device
end Sys2Proof.Machine
end

