-- ==== Sys2Proof/Machine/NetBase.lean ====
section
/-! DEFINITION. The Ethernet ports' shared operations (R244–R251), rates (R263, R284), the ends of QPs and endpoints
(R219, R256, R258, R260, R268), and the delivery of read data to transports. -/

namespace Sys2Proof.Machine

/-! ### Exact rates -/

/-- A whole number. -/
def dyOf (n : Nat) : Dy := ⟨n, 0⟩

def dyAdd (a b : Dy) : Dy := ⟨a.num * 2 ^ b.exp + b.num * 2 ^ a.exp, a.exp + b.exp⟩

def dyLe (a b : Dy) : Bool := decide (a.num * 2 ^ b.exp ≤ b.num * 2 ^ a.exp)

def dyMax (a b : Dy) : Dy := if dyLe a b then b else a
def dyMin (a b : Dy) : Dy := if dyLe a b then a else b

/-- a·(1 − b/2), for b at most 1 (R263). -/
def dyCut (a b : Dy) : Dy := ⟨a.num * (2 ^ (b.exp + 1) - b.num), a.exp + b.exp + 1⟩

/-- (1 − 2^−g)·a. -/
def dyDecay (a : Dy) (g : Nat) : Dy := ⟨a.num * (2 ^ g - 1), a.exp + g⟩

/-- (a + b)/2. -/
def dyMean (a b : Dy) : Dy := let s := dyAdd a b; ⟨s.num, s.exp + 1⟩

/-- A limiter as a QP enters RTS with it: Rc and Rt at the interface rate, α = 1 (R263). -/
def rateAt (r now : Nat) : Rate :=
  { rc := dyOf r, rt := dyOf r, alpha := dyOf 1, t := 0, b := 0, bytes := 0, alphaAt := now, incAt := now, hitAt := none }

/-- The RNR and other bytes of an attribute or endpoint block. -/
def byteAt (bs : List Byte) (i : Nat) : Nat := (bs.getD i 0).toNat

/-- A little-endian number of `n` bytes at byte `i` of a block. -/
def leAt (bs : List Byte) (i n : Nat) : Nat := leNat ((bs.drop i).take n)

/-- PMTU codes of R262 and R300, in bytes. -/
def pmtuBytes (c : Nat) : Nat := if c = 3 then 1024 else if c = 4 then 2048 else if c = 6 then 8192 else 4096

/-- The bytes that chunks hold. -/
def gotBytes (c : AMap (List Byte)) : Nat := c.foldl (fun a p => a + p.2.length) 0

/-- Distance from `a` up to `b` in a sequence space of 2^w. -/
def seqDist (w a b : Nat) : Nat := (b % 2 ^ w + 2 ^ w - a % 2 ^ w) % 2 ^ w

/-- Whether `a` lies before `b`. -/
def seqBefore (w a b : Nat) : Bool := let n := seqDist w a b; n != 0 && decide (n < 2 ^ (w - 1))

namespace Device

def setPdt (d : Device) (p : Pdt) : Device := { d with pdt := p }

/-- A member that declares its twin absent reports it to the master (R497). -/
def absentReport (d : Device) : Device := if d.cascadeMember then d.trlSend 0 "CTRL" [ctlAbsent, 0] else d

/-! ### Interfaces -/

/-- An interface goes down: FLAPS and LINK_DOWN (R264). -/
def ifDown (d : Device) (i : Nat) : Device :=
  if d.ifUp i then
    let n := i / 8
    let d := d.setReg Reg.NET_P_STATUS (bitsSet (d.reg Reg.NET_P_STATUS n) (i % 8) (i % 8) 0) n
    let d := d.bumpSat Fld.NET_P_STATUS_FLAPS 1 n
    let d := d.setNet { d.net with paused := d.net.paused.filter (fun p => decide (p.1 / 8 ≠ i)) }
    -- what waited behind the interface in the port's shared queues goes on, and a pause that has ended with it counts no longer (R249, R250)
    let d := (List.range 8).foldl (fun (d : Device) p => (d.endPause n p).drainOf n p) d
    d.raise Reg.NET_INT_STATUS 1 3
  else d

/-- Every interface of an NP port goes down, and its owner tag is reclaimed (R233, R245). -/
def npDown (d : Device) (n : Nat) : Device :=
  let d := (List.range 8).foldl (fun (d : Device) s => d.ifDown (8 * n + s)) d
  let port (k : Nat) : Bool := k / 8 == n
  (d.setNet { d.net with egress := d.net.egress.filter (fun p => !port p.1), xoff := d.net.xoff.filter (fun p => !port p.1),
                         pausedAt := d.net.pausedAt.filter (fun p => !port p.1), storm := d.net.storm.filter (fun p => !port p.1),
                         pauseRx := d.net.pauseRx.filter (fun p => !port p.1) }).reclaim (0x400 + n)

/-- Every NP port with an interface up goes down. -/
def ethDown (d : Device) : Device :=
  (List.range 8).foldl (fun (d : Device) n => if d.fld Fld.NET_P_STATUS_UP n = 0 then d else d.npDown n) d

/-- A Trellis port goes down; its owner tag is reclaimed (R233). -/
def trlPortDown (d : Device) (n : Nat) : Device :=
  match d.trl.ports.find? n with
  | some p =>
    if p.up then (d.setTrl { d.trl with ports := d.trl.ports.put n { p with up := false } }).reclaim (0x420 + n) else d
  | none => d

/-- Every port of PORT goes down (R122 step 5). -/
def portsDown (d : Device) : Device := (List.range 4).foldl (fun (d : Device) n => d.trlPortDown n) d.ethDown

/-- A packet leaves its ingress queue for its engine; none: it was discarded or lost. Whether it met the ECN threshold on arrival, and whether
its cells are poisoned (R229). The port sends a pause time of 0 when the queue falls below XON (R248). -/
def popIngress (d : Device) (iface prio : Nat) : Device × Option (Bool × Bool) :=
  let n := iface / 8
  let k := 8 * n + prio
  let r := d.popIn (0x200 + k)
  if r.1.net.xoff.has k && decide (queueCells (r.1.queue (0x200 + k)) < r.1.fld Fld.NET_P_XOFF_XON n) then
    ((r.1.setNet { r.1.net with xoff := r.1.net.xoff.del k }).sendPfc n prio 0, r.2)
  else r

/-! ### Rates -/

/-- A CNP, or a packet with ECE, for a limiter (R263, R284). -/
def rateHit (d : Device) (r : Rate) : Rate :=
  let g := d.fld Fld.NET_DCQCN_A_G_LOG2
  { rc := dyMax (dyOf (d.fld Fld.NET_DCQCN_C_RMIN)) (dyCut r.rc r.alpha), rt := r.rc,
    alpha := dyAdd (dyDecay r.alpha g) ⟨1, g⟩, t := 0, b := 0, bytes := 0, alphaAt := d.now, incAt := d.now, hitAt := some d.now }

/-- ALPHA_US with no CNP (R263). -/
def rateAlpha (d : Device) (r : Rate) : Rate := { r with alpha := dyDecay r.alpha (d.fld Fld.NET_DCQCN_A_G_LOG2), alphaAt := d.now }

/-- An increase step (R263), T or B already counted; neither rate exceeds the interface rate. -/
def rateUp (d : Device) (r : Rate) (top : Nat) : Rate :=
  let f := d.fld Fld.NET_DCQCN_A_F
  let add := if f ≤ r.t ∧ f ≤ r.b then d.fld Fld.NET_DCQCN_B_RHAI
             else if f ≤ r.t ∨ f ≤ r.b then d.fld Fld.NET_DCQCN_B_RAI else 0
  let rt := dyMin (dyAdd r.rt (dyOf add)) (dyOf top)
  { r with rt := rt, rc := dyMin (dyMean rt r.rc) (dyOf top) }

/-! ### QPs -/

/-- Change a QP context that exists. -/
def updQp (d : Device) (i : Nat) (f : Qp → Qp) : Device := d.setNet { d.net with qps := d.net.qps.upd i f }

/-- The QP that a QPN names: its context is assigned and its incarnation agrees (R253). -/
def qp? (d : Device) (qpn : Nat) : Option Qp :=
  match d.net.qps.find? (qpn % 1048576) with
  | some q => if q.inc = qpn / 1048576 % 16 then some q else none
  | none => none

/-- Drop the unplaced writes and the reads of a transport that satisfy `p`. -/
def dropUnplacedOf (d : Device) (p : Token → Bool) : Device :=
  let d := d.dropWrites (fun w => p w.tok)
  d.setPst { d.pst with reads := d.pst.reads.filter (fun r => !p r.tok), fences := d.pst.fences.filter (fun f => !p f.tok),
                        outcomes := d.pst.outcomes.filter (fun o => !p o.tok) }

def isRoce (qpn : Nat) : Token → Bool
  | .roce q _ => q == qpn
  | _ => false

/-- The QPN of a context. -/
def qpnOf (i : Nat) (q : Qp) : Nat := q.inc * 1048576 + i

/-- End descriptors, each with a status. -/
def endDescs (d : Device) (ts : List (Nat × Nat × Nat)) (st : Nat) : Device :=
  ts.foldl (fun (d : Device) t => d.complete t.1 t.2.1 t.2.2 st 0 0) d

/-- The REMOTE_WRITE descriptors that satisfy `p` and whose cask data is still being read, so that nothing of them has been sent. -/
def readingDescs (d : Device) (p : List Word → Bool) : List (Nat × Nat × Nat) :=
  let ts := (d.pst.reads ++ d.trl.reads.map (·.2)).filterMap (fun r => match r.use, r.tok with
    | .remoteSrc _, .desc fn q seq => some (fn, q, seq)
    | _, _ => none)
  ts.eraseDups.filter (fun t => match d.desc? t.1 t.2.1 t.2.2 with
    | some x => p x.dw
    | none => false)

/-- Whether a token is that of one of some descriptors. -/
def isDescOf (ts : List (Nat × Nat × Nat)) : Token → Bool
  | .desc fn q seq => ts.contains (fn, q, seq)
  | _ => false

/-- What a QP holds ends: its RECVs and its descriptors complete with ST_ABORTED (R258, R259, R261). -/
def abortQp (d : Device) (i : Nat) : Device :=
  match d.net.qps.find? i with
  | some q =>
    let rs := d.readingDescs (fun dw => dwF dw 8 31 30 == 1 && dwF dw 8 23 0 == qpnOf i q)
    let ts := q.recvs ++ (q.reqs.filterMap (·.recv)) ++ q.out.map (fun o => (o.fn, o.q, o.seq)) ++ rs
    let d := d.updQp i (fun q => { q with recvs := [], reqs := [], out := [], ackDue := false, rnrAt := none })
    (d.dropUnplacedOf (fun t => isRoce (qpnOf i q) t || isDescOf rs t)).endDescs ts stAborted
  | none => d

/-- A QP enters ERROR (R256, R259, R262): its cause is kept; QP_ERR when R256 or R259 put it there. ERR_CAUSE is a status of R212 where a rule gives
one; for a NAK Invalid Request it is ST_INVALID, for QP_MODIFY 0, for a function reset ST_ABORTED (DESIGN CHOICE, log 63). -/
def errQp (d : Device) (i cause : Nat) (byRule : Bool) : Device :=
  let d := (d.updQp i (fun q => { q with state := 4, cause := if q.state = 4 then q.cause else cause, naked := false })).abortQp i
  if byRule then d.raise Reg.NET_INT_STATUS 4 2 else d

/-- NET_QP_LIVE follows the contexts assigned. -/
def countQps (d : Device) : Device := d.setFld Fld.NET_QP_LIVE_COUNT d.net.qps.length

/-- A QP is destroyed and its index freed (R261). -/
def dropQp (d : Device) (i : Nat) : Device :=
  let d := d.abortQp i
  (d.setNet { d.net with qps := d.net.qps.del i, cache := d.net.cache.filter (· != i) }).countQps

/-! ### PDT endpoints -/

def bumpPdt (d : Device) (n : Nat) (k : Nat := 1) : Device :=
  d.setPdt { d.pdt with cnt := AMap.setD (fun _ => 0) d.pdt.cnt n ((AMap.getD (fun _ => 0) d.pdt.cnt n + k) % 2 ^ 64) }

/-- The endpoint that an ID names (R267). -/
def ep? (d : Device) (id : Nat) : Option PdtEp :=
  match d.pdt.eps.find? (id % 65536) with
  | some e => if e.inc = id / 65536 % 256 then some e else none
  | none => none

def isPdtOf (loc : Nat) : Token → Bool
  | .pdt l _ _ _ => l == loc
  | _ => false

/-- Close an endpoint (R268): its flow records and entries go, messages under reassembly are rewound, its index is free,
and its RECVs and descriptors end with ST_ABORTED (R300). -/
def dropEp (d : Device) (id : Nat) : Device :=
  match d.ep? id with
  | none => d
  | some e =>
    let qn := d.groupQ id
    let mine (t : Token) : Bool := isPdtOf id t
    let d := d.dropPkts qn (fun p => mine p.tok)
    let rs := d.readingDescs (fun dw => dwF dw 8 31 30 == 0 && dwF dw 12 23 0 == id)
    let d := d.dropUnplacedOf (fun t => mine t || isDescOf rs t)
    let runs := ((d.pdt.rx.filter (fun f => f.loc == id)).map (fun f => f.runs.filterMap (·.recv))).flatten
    let outs := ((d.pdt.tx.filter (fun f => f.loc == id)).map (fun f => f.msgs.map (fun m => (m.fn, m.q, m.seq)))).flatten
    let d := d.setPdt { d.pdt with eps := d.pdt.eps.del (id % 65536), rx := d.pdt.rx.filter (fun f => f.loc != id),
                                   tx := d.pdt.tx.filter (fun f => f.loc != id),
                                   held := d.pdt.held.filter (fun h => h.2.dst != id) }
    d.endDescs (e.recvs ++ runs ++ outs ++ rs) stAborted

/-- Step 5 of R219: the function's QPs enter ERROR and its endpoints close. -/
def abortTransports (d : Device) (fn : Nat) : Device :=
  let d := (d.net.qps.filter (fun p => p.2.owner == fn)).foldl (fun (d : Device) p => d.errQp p.1 stAborted false) d
  (d.pdt.eps.filter (fun p => p.2.owner == fn)).foldl (fun (d : Device) p => d.dropEp (p.2.inc * 65536 + p.1)) d

/-- QP contexts, endpoints and flow records are gone (R260, R268). -/
def dropTransports (d : Device) : Device :=
  let d := d.net.qps.foldl (fun (d : Device) p => d.dropQp p.1) d
  let d := d.pdt.eps.foldl (fun (d : Device) p => d.dropEp (p.2.inc * 65536 + p.1)) d
  d.setPdt { d.pdt with held := [] }

/-! ### Read data for a transport -/

/-- Put read data, or its failure, into a request of a QP. -/
def roceData (d : Device) (qpn psn : Nat) (r : ReadReq) (bs : List Byte) (st : Nat) : Device :=
  match d.qp? qpn with
  | some _ =>
    let take (x : RoceReq) : RoceReq :=
      { x with chunks := x.chunks.put r.off bs, status := if x.status = 0 ∧ st ≠ stOk then st else x.status }
    d.updQp (qpn % 1048576) (fun q => { q with reqs := updateFirst (fun x => x.psn == psn && x.ans == .read && decide (gotBytes x.chunks < x.len)) take q.reqs })
  | none => d

/-- Put read data, or its failure, into a message of a flow. -/
def pdtData (d : Device) (loc src msn att : Nat) (r : ReadReq) (bs : List Byte) (st : Nat) : Device :=
  let take (x : PdtRun) : PdtRun :=
    { x with chunks := x.chunks.put r.off bs, status := if x.status = 0 ∧ st ≠ stOk then st else x.status }
  let flow (f : PdtRx) : PdtRx := { f with runs := updateFirst (fun x => x.msn == msn && x.att == att && decide (gotBytes x.chunks < x.len)) take f.runs }
  d.setPdt { d.pdt with rx := updateFirst (fun f => f.loc == loc && f.src == src) flow d.pdt.rx }

end Device
end Sys2Proof.Machine
end

