-- ==== Sys2Proof/Machine/Resets.lean ====
section
/-! DEFINITION. Resets: the reset classes of the register file (R14, R15, R439, R441), per-function resets (R218,
R219), loss of links (R199, R218), and the state that HUB loses with its power. -/

namespace Sys2Proof.Machine

/-- Whether a register entry is one of the I3C/SMBus port's own copies, which are of class A (R536). -/
def isPortCopy (r : RegSpec) (k : Nat) : Bool := r.win == .agent && k / 67108864 == 1024

/-- Whether a register entry belongs to the classes given. -/
def inClasses (cs : List RClass) (k : Nat) : Bool :=
  match regSpec? (k % 67108864) with
  | some r => if isPortCopy r k then cs.contains .a else cs.contains r.cls
  | none => false

/-- Whether an agent's latched words belong to the classes given: those of a PF are of class W, those of the I3C/SMBus port of class A
(R536). -/
def latchIn (cs : List RClass) (k : Nat) : Bool := if k / 67108864 == 1024 then cs.contains .a else cs.contains .w

/-- The bits of a register whose access code is RWP. -/
def rwpMask (r : RegSpec) : Nat :=
  (r.fields.filter (fun f => f.acc == .rwp)).foldl (fun a f => a + (2 ^ (f.hi + 1 - f.lo) - 1) * 2 ^ f.lo) 0

/-- Merge the bits of `m` of `new` into `old`. -/
def mergeBits (old new : Word) (m : Nat) : Word :=
  BitVec.ofNat 32 (Nat.lor (Nat.land old.toNat (4294967295 - m)) (Nat.land new.toNat m))

namespace Device

/-- The values of the active profile that apply. -/
def profileRegs (d : Device) : AMap Word :=
  match d.profiles.find? d.sup.profile with
  | some p => if p.valid then p.regs else []
  | none => []

/-- Load the RWP fields of the classes given from the active profile (R12). -/
def loadProfile (d : Device) (cs : List RClass) : Device :=
  d.profileRegs.foldl (fun d p =>
    match regSpec? (p.1 % 67108864) with
    | some r =>
      if inClasses cs p.1 then
        d.setReg (p.1 % 67108864) (mergeBits (d.reg (p.1 % 67108864) (p.1 / 67108864)) p.2 (rwpMask r)) (p.1 / 67108864)
      else d
    | none => d) d

/-- The RWP fields of the classes given at their Reset values, the rest of each register as it stands (R12): what a field takes that a newly
selected profile does not set (R439). -/
def resetRwp (d : Device) (cs : List RClass) : Device :=
  d.regs.foldl (fun (d : Device) (p : Nat × Word) =>
    match regSpec? (p.1 % 67108864) with
    | some r =>
      if inClasses cs p.1 then d.setReg (p.1 % 67108864) (mergeBits p.2 (regDflt p.1) (rwpMask r)) (p.1 / 67108864) else d
    | none => d) d

/-- What MIR_LEASE and MIR_ROLE hold beside live state, at their Reset values: RESULT, AGE_MS, FENCE_CAUSE, STALE and SOLO_PEND, of class C
(R14). -/
def mirDefaults (d : Device) : Device :=
  { d with mir := { d.mir with lastResult := 255, leaseStart := 0, fenceCause := 0, stale := false, staleKnown := false, soloPend := false } }

/-- PDT's settings at their defaults, and its counters at 0: both are of reset class C (R301, R302). No section of a profile is laid out
for them (log 20). -/
def pdtDefaults (d : Device) : Device := { d with pdt := { d.pdt with port := 47801, on := true, complMs := 200, cnt := [] } }

/-- Return the registers of the classes given to their Reset values (R14). -/
def clearClasses (d : Device) (cs : List RClass) : Device :=
  let d := if cs.contains .c then d.pdtDefaults.mirDefaults else d
  { d with regs := d.regs.filter (fun p => !inClasses cs p.1), latches := d.latches.filter (fun p => !latchIn cs p.1) }

/-- A PF loses ADMIN, or its link goes down: its copies of the select and per-agent registers and its latched words return to their
reset values (R536). -/
def dropAgent (d : Device) (fn : Nat) : Device :=
  let own (k : Nat) : Bool := k / 67108864 == fn && (match regSpec? (k % 67108864) with
    | some r => r.win == .agent
    | none => false)
  { d with regs := d.regs.filter (fun p => !own p.1), latches := d.latches.filter (fun p => p.1 / 67108864 != fn) }

/-- The classes are reset and their RWP fields reloaded (R12, R14). -/
def resetClasses (d : Device) (cs : List RClass) : Device := (d.clearClasses cs).loadProfile cs

/-- BIFUR as HRG_PORT_CFG0–3 hold it comes into force (R196). -/
def takeBifur (d : Device) : Device :=
  { d with hrg := { d.hrg with bifur := (List.range 4).map (fun p => d.fld ⟨Reg.HRG_PORT_CFG0 + 4 * p, 1, 0⟩) } }

/-! ### Functions and links -/

/-- Whether a source or a token belongs to a function. -/
def srcOf (fn : Nat) : Source → Bool
  | .sq f _ => f == fn
  | .engine _ f _ => f == fn
  | _ => false

def tokOf (fn : Nat) : Token → Bool
  | .desc f _ _ => f == fn
  | _ => false

/-- The completions of what a function has placed are discarded (R60, R219 step 4): its records name no descriptor any more, so that none
that the function submits later can be taken for one of them. -/
def forgetFn (d : Device) (fn : Nat) : Device :=
  let rec' (r : VRecord) : VRecord := if tokOf fn r.tok then { r with tok := .none } else r
  { d with
    pst := { d.pst with openRecs := d.pst.openRecs.map rec', vints := d.pst.vints.map (fun v => { v with recs := v.recs.map rec' }) }
    csk := { d.csk with jobs := d.csk.jobs.map (fun j => if j.placed ∧ tokOf fn j.tok then { j with tok := .none } else j) }
    trl := { d.trl with closing := d.trl.closing.map (fun p => (p.1, p.2.map rec')), wait := d.trl.wait.map (fun p => (p.1, rec' p.2)),
                        atoms := d.trl.atoms.map (fun p => (p.1, if tokOf fn p.2.2 then (p.2.1, Token.none) else p.2)) } }

/-- Abort what a function has not placed, without completion (R219 step 3, R60). -/
def abortFn (d : Device) (fn : Nat) : Device :=
  let d := (d.forgetFn fn).dropWrites (fun w => tokOf fn w.tok)
  let d : Device := { d with
    pst := { d.pst with reads := d.pst.reads.filter (fun r => !tokOf fn r.tok),
                        fences := d.pst.fences.filter (fun f => !tokOf fn f.tok) }
    csk := { d.csk with jobs := d.csk.jobs.filter (fun j => j.placed || !tokOf fn j.tok) }
    cph := { d.cph with wait := d.cph.wait.filter (fun t => t.1 != fn) }
    fws := { d.fws with job := d.fws.job.filter (fun j => j.fn != fn) }
    hrg := { d.hrg with sqs := d.hrg.sqs.map (fun (p : Nat × Sq) =>
      if p.1 / 256 = fn then (p.1, { p.2 with descs := [], deleting := none, stopped := true }) else p) } }
  d.closeStreams (fun s => s.fn == fn)

/-- A per-function reset starts (R218, R219 steps 1 to 5); a token that waits is answered at step 6. -/
def startFnReset (d : Device) (tok : List (Nat × Nat × Nat)) (fn : Nat) : Device :=
  match d.hrg.resets.find? fn with
  | some r => { d with hrg := { d.hrg with resets := d.hrg.resets.put fn { r with toks := r.toks ++ tok } } }
  | none =>
    let d : Device := { d with hrg := { d.hrg with resets := d.hrg.resets.put fn { startAt := d.now, step := 1, toks := tok } } }
    let d := (d.setFld Fld.HRG_FN_STATUS_RESETTING 1 fn).setFld Fld.HRG_FN_STATUS_READY 0 fn
    ((d.abortFn fn).reclaim fn).abortTransports fn

/-- Step 6 of R219: the function's queues are deleted, its F-class fields are reset, and it is ready. -/
def finishFnReset (d : Device) (fn : Nat) : Device :=
  match d.hrg.resets.find? fn with
  | none => d
  | some r =>
    let qs := (d.hrg.sqs.filter (fun p => decide (p.1 / 256 = fn))).map (fun (p : Nat × Sq) => p.2.qmq)
    let d := qs.foldl (fun (d : Device) q => d.closeQueue q) d
    let d : Device := { d with
      hrg := { d.hrg with resets := d.hrg.resets.del fn
                          sqs := d.hrg.sqs.filter (fun p => !decide (p.1 / 256 = fn))
                          cqs := d.hrg.cqs.filter (fun p => !decide (p.1 / 256 = fn))
                          rrSq := d.hrg.rrSq.del fn
                          msix := d.hrg.msix.filter (fun p => decide (p.1 / 512 ≠ fn))   -- log 30
                          msixPend := d.hrg.msixPend.filter (fun v => decide (v / 512 ≠ fn)) }
      regs := d.regs.filter (fun p => !(decide (p.1 / 67108864 = fn) && (match regSpec? (p.1 % 67108864) with
        | some s => s.win == Win.fn && s.cls == RClass.f
        | none => false))) }
    let d := (d.setFld Fld.HRG_FN_STATUS_RESETTING 0 fn).setFld Fld.HRG_FN_STATUS_READY 1 fn
    r.toks.foldl (fun d t => d.complete t.1 t.2.1 t.2.2 stOk 0 0) d

/-- The functions of a link that exist. -/
def linkFns (d : Device) (l : Nat) : List Nat := (List.range 64).map (fun v => 64 * l + v) |>.filter (fun f => d.fnExists f)

/-- When no PF of a link that is up is admin-capable, the PF of the lowest-numbered one becomes so (R199). Link training is taken to end at
each PCIE_LINK_UP, so the first link to come up may take ADMIN before a later one does (DESIGN CHOICE, log 39). -/
def ensureAdmin (d : Device) : Device :=
  match (d.hrg.links.filter (fun p => p.2.up)).map (·.1) with
  | [] => d
  | l :: _ => if d.adminPfs.isEmpty then (d.setFld Fld.HRG_FN_CFG_ADMIN 1 (64 * l)).eventR 3 2 199 else d

/-- A PCIe link is lost (R218): each of its functions is reset; VF Enable is lost with the configuration space. -/
def linkDown (d : Device) (l : Nat) : Device :=
  match d.hrg.links.find? l with
  | some x =>
    if x.up then
      let d := (d.linkFns l).foldl (fun d f => d.startFnReset [] f) d
      let d : Device := { d with hrg := { d.hrg with links := d.hrg.links.put l { up := false, vfEn := false, numVfs := 0 } } }
      (d.dropAgent (64 * l)).ensureAdmin
    else d
  | none => d

def allLinksDown (d : Device) : Device := (d.hrg.links.map (·.1)).foldl (fun d l => d.linkDown l) d

/-- The Vaelaune Link goes down (R172–R174). -/
def vaeDown (d : Device) : Device :=
  if d.mir.linkUp then
    let d := d.setMir { d.mir with linkUp := false, width := 0, linkDownAt := d.now, twinOther := false }
    { d with pst := { d.pst with rx := none } }
  else d

/-- Every SerDes is off, and every port and link with it (R122 step 5, R425 step 3). -/
def serdesOff (d : Device) : Device := (d.allLinksDown.vaeDown).portsDown

/-- The volatile key slots are lost (R370, the reset table of R441). -/
def dropVolatile (d : Device) : Device := { d with cph := { d.cph with slots := d.cph.slots.filter (fun p => p.2.persist), wait := [] } }

/-- The cascade logic starts afresh: the cascade is to be formed again (R488). -/
def trlReset (d : Device) : Device :=
  d.setTrl { d.trl with formed := false, late := false, startAt := d.now, ports := [], devs := [], bcSeq := 0, bcRx := [], timeOff := 0, vclk := 0,
                        closing := [], asked := false, wait := [], bcSent := [], sealedN := 0, commitN := 0, applyM := 0, reads := [], atoms := [],
                        ask := none, askFrom := [] }

/-- HUB, EDGE and PORT lose their power: queues, staging, transports and roles are gone; DRAM goes too unless it holds
in self-refresh (R441). -/
def hubOff (d : Device) (keepDram : Bool) : Device :=
  let d := ((d.serdesOff.dropTransports).dropVolatile.trlReset).closeStreams (fun _ => true)
  let d : Device := { d with
    hubOn := false
    cel := { d.cel with busy := [] }
    hrg := { d.hrg with sqs := [], cqs := [], resets := [], msix := [], msixPend := [], rrSq := [] }
    qmg := { queues := [], reclaims := [], xbar := [] }
    net := { d.net with marks := [], egress := [] }
    pst := { d.pst with openRecs := [], vints := [], rx := none, placeWait := [], reads := [], fences := [], outcomes := [], sealDue := none }
    adm := { d.adm with held := [], pend := 0, credit := 0 }
    csk := { d.csk with jobs := [], wbJobs := [], gate := [], fetchWait := [], urgent := [], quarBy := [] }
    mir := { d.mir with step10 := [], pfetch := [], waitArb := [], notices := 0, deadline := none, hbHolder := 0, hbProposed := none,
                        attached := false, absent := false, soloPend := false, joinReq := false, inbox := [], serving := false, staleKnown := false, twinRole := none, learned := 0 } }
  if keepDram then d
  else { d.clearBytes 0 (2 ^ 60) with
    cph := { d.cph with slots := [], hw0 := false, hw1 := false, alarmAt := none }
    csk := { d.csk with racks := [], casks := [], grants := [], freed := [], fresh := 0, nextFrame := 0, freeFrames := [], poison := [] }
    adm := { d.adm with metaDirty := [] }
    trl := { d.trl with homes := [] }
    rst := { d.rst with svcOpen := false }
    mir := { d.mir with absence := [], absCasks := [], absGrants := [], epochs := [], epoch := 0 } }      -- MIR_EPOCH is of class C

end Device
end Sys2Proof.Machine
end

