-- ==== Sys2Proof/Machine/Format.lean ====
section
/-! DEFINITION. The format of the cask space (R336, R344, R345), isolation of a volume (R361), and what the device does
before it releases HUB: the population checks, training, the sequence store, the keys (R303–R307, R325, R326, R335, R336,
R355–R358, R373, R374, R384, R482). -/

namespace Sys2Proof.Machine
namespace Device

/-! ### Format -/

/-- Release a vault generation: its blocks are erased in the background (R124). -/
def dropGen (d : Device) (g : Nat) : Device :=
  let v := d.gen g
  if v.state = .erased ∧ v.spine.isNone then d
  else d.setGen g v.dropped

/-- A generation that is ERASED holds its whole complement of erased blocks. -/
def fullGen (d : Device) (g : Nat) : Device :=
  let v := d.gen g
  if v.state = .erased then d.setGen g { v with erased := d.genBlocks d.cel.genGib * d.lunsLive } else d

/-- The blocks that the NAND supplier marked bad, as found at a format (R347); in a LUN that has some among its first, the vault takes the next good
ones (log 21). -/
def markBad (d : Device) : Device :=
  d.cel.pop.foldl (fun (d : Device) v =>
    let d := v.bads.foldl (fun (d : Device) n => d.setBlk v.ch (8 * v.vol + n / 1048576) (n % 1048576) { (d.blk v.ch (8 * v.vol + n / 1048576) (n % 1048576)) with
      state := .bad, sb := 0, member := 0 }) d
    let luns := nubNat (v.bads.map (fun n => n / 1048576))
    luns.foldl (fun (d : Device) l =>
      let lun := 8 * v.vol + l
      let good := (List.range (d.cel.vaultBlks + v.bads.length)).filter (fun b => !v.bads.contains (1048576 * l + b))
      ((good.take d.cel.vaultBlks).zip (List.range d.cel.vaultBlks)).foldl (fun (d : Device) (p : Nat × Nat) =>
        d.setBlk v.ch lun p.1 { Blk.blank with state := .vault, slc := true, erases := (d.blk v.ch lun p.1).erases, gen := min 2 (2 * p.2 / (d.cel.vaultBlks - 1)) }) d) d) d

/-- What takes effect at a format: MODE, N and STRIPE_LOG2 of a cascade, CSK_CAP_RACKS, the over-provisioning, the vault, and the volumes
populated (R336, R344, R345). Blocks that held data are RELEASED. -/
def formatSizes (d : Device) : Device :=
  let blocks := d.cel.blocks.map (fun (p : Nat × Blk) =>
    if p.2.state = .opened ∨ p.2.state = .full then (p.1, { p.2 with state := .released, sb := 0, member := 0 }) else p)
  let d := d.setCel { d.cel with used := d.cel.pop.map (fun v => (v.ch, v.vol)), genGib := d.fld Fld.CEL_VAULT_GEN_GIB, blocks := blocks,
                                 supers := [], reloc := [], isoReloc := [] }
  let g := d.genBlocks d.cel.genGib
  let d := (d.setCel { d.cel with vaultBlks := 2 * g + 1 }).markBad
  let d := d.setTrl { d.trl with mode := d.fld Fld.TRL_CFG_MODE, n := d.fld Fld.TRL_CFG_N + 1, stripe := d.fld Fld.TRL_CFG_STRIPE_LOG2, homes := [] }
  let d : Device := { d with csk := { d.csk with capRacks := d.capFormula } }
  let d := (d.setFld Fld.CEL_OP_OP_USED (d.fld Fld.CEL_OP_OP_PM)).setFld Fld.CEL_VAULT_GEN_BLK g
  ((((d.setLearned { d.learned with vols := some d.cel.pop }).learnRec (0x84, 0, 0)).fullGen 0).fullGen 1).beginErases

/-- 64 KiB units of a number of bytes. -/
def units (n : Nat) : Nat := (n + 65535) / 65536

/-- The reserved units of R306, both copies counted, for a number of racks. -/
def reservedUnits (cap : Nat) (shared : Bool) : Nat :=
  2 * (units 1073741824 + units 33554432 + units (roundUp (16 * cap) 1073741824) + units (cap / 8 + 2097152 + 147456) + units 67108864)
    + units 268435456 + units 134217728 + units 4294967296 + (if shared then 2 * units 16777216 else 0)

/-- The data frames of the live channels (R306, R307), what the reserved areas leave of them; those of channels retired since are gone (R323). -/
def layoutDram (d : Device) : Device :=
  if d.drm.chans.isEmpty then d
  else
    let cs := d.drm.chans
    let total := (d.drm.dimms.filter (fun m => cs.contains m.ch)).foldl (fun a m => a + m.gib) 0 * 16384
    let cap := if d.csk.capRacks = 0 then d.capFormula else d.csk.capRacks
    let frames := total - reservedUnits cap (d.trl.mode == 1 || d.trl.mode == 2)
    let lost := d.drm.retired.foldl (fun a c => a + (frames + cs.length - 1 - (cs.takeWhile (fun x => decide (x ≠ c))).length) / cs.length) 0
    let d := d.setDrm { d.drm with total := frames }
    { d with csk := { d.csk with frames := frames - lost } }

/-- Empty the cask space (R154, R336, R384, R509): both generations are released, every cask and grant goes. -/
def formatSpace (d : Device) : Device :=
  let d : Device := { (d.dropGen 0).dropGen 1 with
    csk := { d.csk with casks := [], grants := [], fresh := 0, freed := [], racks := [], wbJobs := [], poison := [], nextFrame := 0, freeFrames := [] }
    mir := { d.mir with absence := [], absCasks := [], absGrants := [], epochs := [] } }
  let d := d.setPst { d.pst with commitNum := 0, appliedNum := 0, vints := [], rx := none }
  let d : Device := { d with adm := { d.adm with pend := 0, metaDirty := [] } }
  (((d.clearBytes 0 (2 ^ 61)).setRst { d.rst with pend := [], image := none, fillLeft := [], filling := false, wave0 := false, waveOut := [] }).setPair
    Reg.MIR_ABSENT_LO 0).formatSizes.layoutDram

/-! ### Isolation -/

/-- Fail the write-behinds whose program has a page that `p` picks: their pages stay dirty (R80, R354). -/
def failWriteBehind (d : Device) (p : Nat → Bool) : Device :=
  (d.csk.wbJobs.filter (fun j => p j.2)).foldl (fun (d : Device) (j : Nat × Nat) =>
    let r := d.rack (j.1 / 2 ^ 36) (j.1 % 2 ^ 36)
    let d := d.setRack (j.1 / 2 ^ 36) (j.1 % 2 ^ 36) { r with wb := false, dirty := r.dirty ||| r.rdirty, rdirty := 0 }
    { d with csk := { d.csk with wbJobs := d.csk.wbJobs.del j.1 } }.endJob j.1 j.2) d

/-- CEL_C_STATUS.STATE of a channel (R361). -/
def celChState (d : Device) (ch : Nat) : Nat :=
  let vs := (d.cel.pop.filter (fun v => v.ch == ch)).map (·.vol)
  let us := vs ++ ((d.cel.used.filter (fun v => v.1 == ch)).map (·.2)).filter (fun v => !vs.contains v)
  if us.isEmpty then 0 else if us.all (fun v => d.volIsolated ch v) then 3 else if us.any (fun v => d.volIsolated ch v) then 2 else 1

/-- Isolate a volume (R361). -/
def isolateVol (d : Device) (ch vol : Nat) : Device :=
  if d.volIsolated ch vol then d
  else
    let d := d.setFld Fld.CEL_C_STATUS_ISO_VOL (d.fld Fld.CEL_C_STATUS_ISO_VOL ch + 2 ^ vol) ch
    let d := d.setCel { d.cel with busy := d.cel.busy.filter (fun p => decide (p.1 / 8 ≠ 16 * ch + vol)) }
    let d := (d.setFld Fld.CEL_C_STATUS_STATE (d.celChState ch) ch).emit (.nand ch (8 * vol) "CE_OFF" [vol])
    let d := d.failWriteBehind (fun c => d.rackOnVol c ch vol)
    let on (c : Nat) : Bool := d.rackOnVol c ch vol
    let inVault (k : Nat) (g : VaultGen) : Bool := match g.racks.find? k with
      | some e => on e.vaddr
      | none => false
    let ks := (d.csk.racks.filter (fun p => (p.2.homed && p.2.cvalid && on p.2.cptr) || inVault p.1 d.hold.genE || inVault p.1 d.hold.genO)).map (·.1)
    let d := d.setCel { d.cel with reloc := nubNat (d.cel.reloc ++ ks), isoReloc := nubNat (d.cel.isoReloc ++ ks) }
    let cut (d : Device) (g : Nat) : Device :=
      if (d.gen g).state = .erased then d.setGen g { d.gen g with erased := (d.gen g).erased - 8 * d.genBlocks d.cel.genGib } else d
    let d := (cut (cut d 0) 1).setFld Fld.CEL_VAULT_GEN_BLK (d.genBlocks d.cel.genGib)
    (d.raise Reg.CEL_INT_STATUS 5 5).reevalAdmit

/-! ### Timing-set switch -/

/-- Two bits of each channel's level, as AGE_LEVELS holds them. -/
def packLevels (ls : List Nat) : Nat := (ls.zip (List.range ls.length)).foldl (fun a p => a + p.1 % 4 * 4 ^ p.2) 0

def setLevels (d : Device) (ls : List Nat) : Device :=
  (d.setFld Fld.AGE_LEVELS0_LEVEL (packLevels (ls.take 16))).setFld Fld.AGE_LEVELS1_LEVEL (packLevels ((ls.drop 16).take 8))

/-- Write the erase counters and the offset table to the cellar (R359, R482). -/
def checkpoint (d : Device) : Device :=
  let d := d.setCel { d.cel with ckpt := (d.cel.blocks.filter (fun p => decide (p.2.erases ≠ 0))).map (fun (p : Nat × Blk) => (p.1, p.2.erases)) }
  { d with age := { d.age with ckpt := d.age.offsets } }

/-- The level of a channel (R477). -/
def levelOf (d : Device) (c : Nat) : Nat :=
  (if c < 16 then d.fld Fld.AGE_LEVELS0_LEVEL / 4 ^ c else d.fld Fld.AGE_LEVELS1_LEVEL / 4 ^ (c - 16)) % 4

/-- The end of the re-plan that runs (R482): the plan record, the checkpoint of the offset table, and the event of a re-plan that
changed an output. -/
def planEnd (d : Device) : Device :=
  match d.age.changed with
  | none => d
  | some bits =>
    let d : Device := { d with age := { d.age with changed := none } }
    let d := (d.bumpSat Fld.AGE_STATUS_PLAN_SEQ).setFld Fld.AGE_STATUS_BUSY 0
    let seq := d.fld Fld.AGE_STATUS_PLAN_SEQ
    let levels := (List.range 24).map (fun c => d.levelOf c)
    let l := d.learned
    let d := (d.setLearned { l with plan := some { mv := d.sup.avsTarget, levels := levels, scales := (List.range 24).map (fun c => d.fld Fld.DRM_CH_REF_REF_SCALE c),
                                                   seq := seq } }).learnRec (0x85, 0, 0) |>.checkpoint
    if bits = 0 then d
    else (d.raise Reg.AGE_INT_STATUS 0 2).event { sev := 2, host := false, src := Reg.AGE_INT_STATUS / 65536, code := 0x1B01,
                                                  data := leBytes 4 seq ++ leBytes 1 bits ++ leBytes 2 d.sup.avsTarget ++ leBytes 6 (packLevels levels) ++ List.replicate 3 0 }

/-- The levels that the plan's own switch has brought in on the channels of `done` (R480). -/
def tookLevels (d : Device) (done : Nat → Bool) : Device :=
  if d.age.swLevels.isEmpty then d
  else
    let new (c : Nat) : Nat := match d.age.swLevels.find? (fun p => p.1 == c && done c) with
      | some p => p.2
      | none => d.levelOf c
    let old (c : Nat) : Nat := d.levelOf c
    let bit := b2n ((List.range 24).any (fun c => new c != d.levelOf c)) * 4
    let d := d.setLevels ((List.range 24).map new)
    -- the probe that called for a level has been answered; a channel that kept its level is tried again at the next re-plan
    { d with age := { d.age with swLevels := [], eyes := d.age.eyes.filter (fun (p : Nat × (Nat × Nat)) => new p.1 == old p.1),
                                 changed := d.age.changed.map (fun b => Nat.lor b bit) } }

/-- The end of the plan's own switch (R480): the levels it brought in, and PLAN_FAIL when it failed; the re-plan ends. -/
def planSwitched (d : Device) (done : Nat → Bool) (ok : Bool) : Device :=
  if d.age.swLevels.isEmpty then d
  else
    let d := d.tookLevels done
    (if ok then d else d.raise Reg.AGE_INT_STATUS 2 4).planEnd

/-- A reset or a loss of power interrupts the re-plan that runs: it is run again in full (R481). -/
def planCut (d : Device) : Device :=
  if d.age.changed.isSome then
    let d : Device := { d with age := { d.age with changed := none, swLevels := [] } }
    (d.setFld Fld.AGE_STATUS_BUSY 0).setFld Fld.AGE_STATUS_WAITING 1
  else d

/-- A walk stops after the channel in its switch (R329). -/
def stopWalk (d : Device) : Device :=
  match d.drm.walk with
  | some w => d.setDrm { d.drm with walk := some { w with stop := true } }
  | none => d

/-- A channel leaves its switch under the other set (R328). -/
def switchDone (d : Device) (ch : Nat) : Device :=
  ((d.setFld Fld.DRM_CH_STATUS_ACTIVE_SET (1 - d.fld Fld.DRM_CH_STATUS_ACTIVE_SET ch) ch).setFld Fld.DRM_CH_STATUS_SWITCHING 0 ch).setFld
    Fld.DRM_CH_STATUS_STATE 1 ch

/-- The walk is over. -/
def walkOver (d : Device) : Device := (d.setDrm { d.drm with walk := none }).setFld Fld.DRM_TSET_STATUS_BUSY 0

/-- The channel in its switch completes it, and the walk is over, before a reset or a loss of power (R329). -/
def endWalk (d : Device) : Device :=
  let d := match d.drm.walk with
    | some w => match w.left with
      | c :: _ => ((d.switchDone c).walkOver).tookLevels (fun x => decide (x ≤ c))
      | [] => d.walkOver
    | none => d
  d.planCut

/-! ### DIMM population -/

/-- Whether a module is one that R303 supports, at the rate selected. -/
def dimmOk (m : Dimm) : Bool :=
  m.ok && decide (m.ch < 24 ∧ m.slot < 2) &&
    ((m.kind == 1 && decide (16 ≤ m.gib ∧ m.gib ≤ 512 ∧ m.bin ≤ 2)) ||
     (m.kind == 2 && decide (32 ≤ m.gib ∧ m.gib ≤ 512 ∧ 3 ≤ m.bin ∧ m.bin ≤ 4) && m.slot == 0))

/-- The twelve channels of R304. -/
def halfChans : List Nat := List.range 6 ++ (List.range 6).map (fun i => 12 + i)

/-- The channels populated, ascending. -/
def popChans (ms : List Dimm) : List Nat := (List.range 24).filter (fun c => ms.any (fun m => m.ch == c))

/-- A rate that R303 allows for a kind of module. -/
def rateFits (kind rate : Nat) : Bool := if kind = 1 then decide (rate ≤ 2) else decide (3 ≤ rate ∧ rate ≤ 4)

/-- The first rule of R304 that a population breaks, 1 to 4; 0: a module that R303 does not support. -/
def dimmBroken (ms : List Dimm) (rate : Nat) : Option Nat :=
  let chs := popChans ms
  let cnt (c : Nat) : Nat := (ms.filter (fun m => m.ch == c)).length
  match ms with
  | [] => some 2
  | h :: _ =>
    if !ms.all dimmOk then some 0
    else if !(ms.all (fun m => m.kind == h.kind && m.gib == h.gib && m.ranks == h.ranks) && chs.all (fun c => cnt c == cnt h.ch)) then some 1
    else if chs ≠ List.range 24 ∧ chs ≠ halfChans then some 2
    else if !ms.all (fun m => ms.all (fun n => m.ch != n.ch || (m == n) || (m.slot != n.slot && m.bin == n.bin))) then some 3
    else if !ms.all (fun m => decide (rate ≤ m.bin) && rateFits m.kind rate) then some 4
    else none

/-- The stored fast-train values of a module at a frequency point (R325): the first of the eight draws that name them. -/
def valuesOf (l : Learned) (serial point : Nat) : Option Nat :=
  (l.trained.find? (fun t => t.1 == serial && t.2.1 == point)).map (fun t => t.2.2)

/-- Load one timing set of a channel from SPD and the stored values for its rate (R326): RATE, TRAINED when there are any, and the timings, which the
manual leaves open (log 2); the same stored values give the same timings. -/
def loadSet (ch base rate : Nat) (d : Device) : Device :=
  let n := ((d.drm.dimms.filter (fun m => m.ch == ch)).head?.bind (fun m => valuesOf d.learned m.serial rate))
  let d := (List.range 8).foldl (fun (d : Device) i =>
    let (v, d) := match n with
      | some n => (Config.freeValue (n + i), d)
      | none => d.draw
    let m : Nat := if i = 0 then 0xFFFF else if i = 4 then 0xFFFF else 0xFFFFFFFF
    d.setReg (base + 4 * i) (BitVec.ofNat 32 (Nat.land v m)) ch) d
  d.setReg base (bitsSet (bitsSet (d.reg base ch) 31 31 (b2n n.isSome)) 19 16 rate) ch

/-- Full training of a channel's modules at every frequency point (R325): the values it produces replace those stored before. -/
def trainCh (d : Device) (c : Nat) (points : List Nat) : Device :=
  let d := points.foldl (fun (d : Device) p => d.learnRec (0x82, c, p)) d
  (d.drm.dimms.filter (fun m => m.ch == c)).foldl (fun (d : Device) m => points.foldl (fun (d : Device) p =>
    let n := d.freeCtr
    let d : Device := { d with freeCtr := n + 8 }
    d.setLearned { d.learned with trained := d.learned.trained.filter (fun t => !(t.1 == m.serial && t.2.1 == p)) ++ [(m.serial, p, n)] }) d) d

/-- What the profile records of the modules (R305): which they are, and not what training or repair has left of them. -/
def dimmRecord (ms : List Dimm) : List Dimm := ms.map (fun m => { m with spares := 0, trains := true, eye := true })

/-- The channel's rate at a level of R477: level 3 takes the next lower frequency point of the profile. -/
def levelRate (d : Device) (level : Nat) : Nat :=
  if level < 3 then d.dramRate else ((d.prof.rates.filter (fun r => decide (r < d.dramRate))).foldl max 0)

/-- Hard repair of the listed rows of a channel (R322): a row without a resource left stays listed and has soft repair. -/
def repairListed (d : Device) (ch : Nat) : Device :=
  let rows := (d.learned.repairs.find? ch).getD []
  let d := rows.foldl (fun (d : Device) (r : DramRow) =>
    if d.drm.dimms.any (fun m => m.ch == ch && m.slot == r.slot && decide (0 < m.spares)) then
      let d := d.setDrm { d.drm with dimms := d.drm.dimms.map (fun m => if m.ch = ch ∧ m.slot = r.slot then { m with spares := m.spares - 1 } else m) }
      let l := d.learned
      (d.setLearned { l with repairs := l.repairs.put ch (((l.repairs.find? ch).getD []).filter (fun x => x != r)) }).learnRec (0x83, ch, 0) |>.bumpSat Fld.DRM_CH_PPR_HPPR 1 ch
    else d.bumpSat Fld.DRM_CH_PPR_SPPR 1 ch) d
  (if rows.isEmpty then d else d.raise Reg.DRM_INT_STATUS 3 2).setFld Fld.DRM_CH_PPR_LISTED ((d.learned.repairs.find? ch).getD []).length ch

/-- The DIMM check, the training and the layout (R303–R307, R322, R325, R326, R482); false when the population is illegal. A module's `eye` says
whether the eye check passes under the stored values, `trains` whether full training does. -/
def bringDram (d : Device) : Device × Bool :=
  let ms := d.drm.dimms
  let d := d.setDrm { d.drm with chans := [], total := 0, retired := [], short := false, freed := 0, bad := [], fence := false, chs := [],
                                 walk := none, scrub := [], quietUntil := 0 }
  match dimmBroken ms d.dramRate, ms with
  | some k, _ =>
    ((d.setFld Fld.DRM_POP_ILLEGAL 1).event { sev := 7, host := false, src := 0x18, code := Config.eventCode 305, data := Config.eventData (30500 + k) }, false)
  | none, [] => (d, false)
  | none, h :: _ =>
    let d := (d.setFld Fld.DRM_POP_TYPE h.kind).setFld Fld.DRM_POP_DPC2 (b2n (ms.any (fun m => m.slot == 1)))
    let d := (d.setFld Fld.DRM_POP_RATE d.dramRate).setFld Fld.DRM_POP_DIMM_GIB h.gib
    let points := nubNat (d.dramRate :: d.prof.rates)
    let same := d.learned.dimms == some (dimmRecord ms)
    let d := d.setLearned { d.learned with dimms := some (dimmRecord ms), trained := if same then d.learned.trained else [] } |>.when (!same) (·.learnRec (0x81, 0, 0))
    -- R326: a channel that fails the eye check, or has no stored values for a point, is given full training
    let fast := (popChans ms).filter (fun c => (ms.filter (fun m => m.ch == c)).all (fun m =>
      m.eye && points.all (fun p => (valuesOf d.learned m.serial p).isSome)))
    let live := (popChans ms).filter (fun c => fast.contains c || ms.all (fun m => m.ch != c || m.trains))
    let d := (live.filter (fun c => !fast.contains c)).foldl (fun (d : Device) c => d.trainCh c points) d
    -- R477, R482: a channel that has full training returns to level 0
    let levels := match d.learned.plan with
      | some p => (List.range 24).map (fun c => if fast.contains c then p.levels.getD c 0 else 0)
      | none => List.replicate 24 0
    let d := d.setLevels levels
    let d := (popChans ms).foldl (fun (d : Device) c =>
      if live.contains c then
        let r := d.levelRate (levels.getD c 0)
        let d := loadSet c Reg.DRM_TSB_CFG r (loadSet c Reg.DRM_TSA_CFG r d)
        let d := (d.setFld Fld.DRM_CH_STATUS_STATE 1 c).setFld Fld.DRM_CH_STATUS_RFM_ON
          (b2n (d.flag Fld.DRM_CH_REF_RFM_FORCE c || ms.any (fun m => m.ch == c && m.rfm))) c
        let d := match d.learned.plan with
          | some p => d.setFld Fld.DRM_CH_REF_REF_SCALE (p.scales.getD c 0) c
          | none => d
        d.repairListed c
      else (d.setFld Fld.DRM_CH_STATUS_STATE 3 c).raise Reg.DRM_INT_STATUS 6 5) d
    let d := d.setDrm { d.drm with chans := live, total := 0 }
    ({ d with csk := { d.csk with frames := 0 } }.layoutDram, true)

/-! ### The cellar -/

/-- After a power loss whose bottling did not seal, the erase counters are those of the last checkpoint (R359). -/
def recallErases (d : Device) : Device :=
  match d.newestSaid with
  | some (.sealRec _ _ _ _ _) => d
  | some .nullSeal => d
  | _ => d.setCel { d.cel with blocks := d.cel.blocks.map (fun (p : Nat × Blk) => (p.1, { p.2 with erases := (d.cel.ckpt.find? p.1).getD 0 })) }

/-- The channels of a population of 32 (R335). -/
def halfOnfi : List Nat := List.range 16 ++ (List.range 16).map (fun i => 32 + i)

/-- The first rule of R335 that a population breaks, 1 to 4; 0: a package that R334 does not support. -/
def nandBroken (vs : List NandVol) (rate : Nat) : Option Nat :=
  let chs := (List.range 64).filter (fun c => vs.any (fun v => v.ch == c))
  let on (c : Nat) : Nat := (vs.filter (fun v => v.ch == c)).length
  match vs with
  | [] => some 2
  | h :: _ =>
    if !vs.all (fun v => decide (v.page = 16384 ∧ 1824 ≤ v.spare ∧ 32 ≤ v.pages ∧ v.pages ≤ 8192 ∧ v.planes ≤ 4 ∧ v.gib ≤ 512 ∧ v.blocks ≤ 1048576)) then some 0
    else if !vs.all (fun v => v.same && v.maker == h.maker && v.rate == h.rate && v.pages == h.pages && v.slcPages == h.slcPages &&
        v.blocks == h.blocks && v.planes == h.planes && v.gib == h.gib && v.spare == h.spare) then some 1
    else if chs ≠ List.range 64 ∧ chs ≠ halfOnfi then some 2
    else if !(vs.all (fun v => v.luns == 8 && decide (v.vol < on h.ch) && decide (v.ch < 64) && decide (v.vol < 16)) && chs.all (fun c => on c == on h.ch)) then some 3
    else if h.rate < rate then some 4
    else none

/-- Whether a sequence runs to an END (R358): 0, or the FAIL code. A conditional JUMP counts as not taken (log 23). -/
def seqCheck (steps : Nat → Nat) : Nat → Nat → Nat
  | 0, _ => 4
  | n + 1, i =>
    let w := steps i
    let op := w / 2 ^ 60 % 16
    if 10 < op then 3
    else if op = 0 then 0
    else seqCheck steps n (if op = 10 ∧ w / 2 ^ 56 % 16 = 0 then w / 2 ^ 32 % 65536 else i + 1)

/-- The check of R358 over both dies: FAIL as CEL_MSEQ_STATUS codes it. -/
def mseqFail (m : Mseq) : Nat :=
  let step (die i : Nat) : Nat := (AMap.find? m.steps (4096 * die + i)).getD 0
  let bad := m.dir.map (fun e => if e.2 = 0 then 0 else if 4096 ≤ e.2 / 2 ^ 20 then 2 else seqCheck (step (e.1 / 64)) 256 (e.2 / 2 ^ 20))
  if !m.crcOk then 1 else (bad.filter (fun x => decide (x ≠ 0))).headD 0

/-- The sequence stores and the population check of the cellar (R335, R336, R355–R358, R482); false when HUB is not to be
released. -/
def bringCellar (d : Device) : Device × Bool :=
  let d := d.setFld Fld.CEL_VAULT_GEN_BLK (d.genBlocks d.cel.genGib)
  let (fail, m) := match d.prof.mseq with
    | some m => (mseqFail m, m)
    | none => (1, default)
  let d := ((d.setFld Fld.CEL_MSEQ_STATUS_LOADED (b2n (fail == 0))).setFld Fld.CEL_MSEQ_STATUS_FAIL fail).setFld Fld.CEL_MSEQ_STATUS_VERSION m.version
  if fail ≠ 0 then (d.eventR 7 0x18 358, false)
  else
    let d := (d.setCel { d.cel with mseq := m, oseq := d.cel.oseqResv }).recallErases
    let d := d.cel.pop.foldl (fun (d : Device) v => (List.range v.luns).foldl (fun (d : Device) i => d.emit (.nand v.ch (8 * v.vol + i) "READ_ID" [0x0E])) d) d
    match nandBroken d.cel.pop m.rate, d.cel.pop with
    | some k, _ => ((d.setFld Fld.CEL_POP_ILLEGAL 1).event
        { sev := 7, host := false, src := 0x18, code := Config.eventCode 336, data := Config.eventData (33600 + k) }, false)
    | none, [] => (d, false)
    | none, h :: _ =>
      let vs := d.cel.pop
      let chs := (List.range 64).filter (fun c => vs.any (fun v => v.ch == c))
      let d := ((d.setFld Fld.CEL_POP_CHANNELS (if chs.length = 64 then 2 else 1)).setFld Fld.CEL_POP_RATE m.rate).setFld Fld.CEL_POP_LUN_GIB h.gib
      let d := (d.setFld Fld.CEL_POP_VOLUMES (vs.filter (fun v => v.ch == h.ch)).length).setFld Fld.CEL_GEOM_PPB_LOG2 (log2Up h.pages)
      let d := (d.setFld Fld.CEL_GEOM_PLANES_LOG2 (log2Up h.planes)).setFld Fld.CEL_GEOM_SLC_PPB h.slcPages
      let d := (d.setFld Fld.CEL_GEOM_BLK_K (min (h.blocks / 16) 8191)).setFld Fld.CEL_GEOM2_BLOCKS h.blocks
      let d := chs.foldl (fun (d : Device) c => d.setFld Fld.CEL_C_STATUS_STATE (d.celChState c) c) d
      -- R336: against the population that the profile records; the first one seen is recorded
      let was := d.recordedVols
      let d := if d.learned.vols.isNone && was.isEmpty then (d.setLearned { d.learned with vols := some vs }).learnRec (0x84, 0, 0) else d
      let d := (was.filter (fun u => !vs.any (fun v => v.ch == u.1 && v.vol == u.2))).foldl (fun (d : Device) u => d.isolateVol u.1 u.2) d
      let d : Device := { d with age := { d.age with offsets := d.age.ckpt } }
      (d.setFld Fld.CEL_VAULT_GEN_BLK (d.genBlocks d.cel.genGib), true)

/-! ### Keys -/

/-- The key chain and the persistent slots (R372–R374); after a zeroize, what R384 says. -/
def bringKeys (d : Device) : Device :=
  let d : Device := if d.newestSaid = some .zeroize && !d.cph.erased then d.wipeKeys else d
  let d := match d.cph.share with
    | some _ => d
    | none => Device.putShare { d.draw.2 with cph := { d.cph with share := some d.freeCtr } } d.freeCtr
  let d := { d with cph := { d.cph with hw0 := true, hw1 := true, keys := true, alarmAt := none, wait := [] } }.unwrapSlots
  (d.setFld Fld.CPH_STATE_READY 1).setFld Fld.CPH_STATE_PERSIST_USED d.cph.slots.length

/-- Everything that precedes the release of HUB after a cold start or a Chrysalis exit; false: HUB is not released. -/
def bringUp (d : Device) : Device × Bool :=
  let d := match d.learned.plan with
    | some p => ((d.setFld Fld.AGE_STATUS_PLAN_SEQ p.seq).setFld Fld.AGE_VCORE_TARGET_MV p.mv).setFld Fld.AGE_VCORE_CANARY_10MV (d.age.canary / 10)
    | none => d
  let (d, okC) := d.bringCellar
  let (d, okD) := d.bringDram
  if !(okC && okD) then (d, false)
  else
    let zeroed := d.newestSaid == some .zeroize
    let d := d.bringKeys
    -- R336: the format of a device with no record of any kind, and after a zeroize
    (if zeroed || d.hold.journal.isEmpty then d.formatSpace else d, true)

end Device
end Sys2Proof.Machine
end

