-- ==== Sys2Proof/Machine/Vault.lean ====
section
/-! DEFINITION. The vault: its superblocks and slots, the entries of its index and directory, the pending-vintage list (R123, R125, R138,
R144, R345, R346). Where a copy is placed is the model's own choice (log 51). -/

namespace Sys2Proof.Machine

/-! ### Entries -/

/-- Seven words and their CRC-32C (R125, R138). -/
def sealWords (ws : List Nat) : List Byte :=
  let b := (ws.map (leBytes 4)).flatten
  b ++ leBytes 4 (crc32c b)

/-- A vault index entry (R125). -/
def indexEntry (kind cask index mask vaddr : Nat) : List Byte :=
  sealWords [kind * 2 ^ 24 + cask % 2 ^ 24, index, index / 2 ^ 32, mask % 65536, vaddr, vaddr / 2 ^ 32 % 64, 0]

/-- A vault directory entry (R138). -/
def dirEntry (cask index mask : Nat) (prev : Option Nat) : List Byte :=
  sealWords [cask % 2 ^ 24, index, index / 2 ^ 32 % 16, b2n prev.isSome * 2 ^ 31 + mask % 65536, prev.getD 0, prev.getD 0 / 2 ^ 32 % 64, 0]

/-- The length of a pending vintage in 64 KiB units, 1–512 (R144). -/
def Pending.units (p : Pending) : Nat := max 1 (min 512 ((p.recs.foldl (fun a r => a + r.size) 0 + 65535) / 65536))

/-- An entry of the pending-vintage list (R144). -/
def pendEntry (p : Pending) : List Byte := leBytes 8 p.num ++ leBytes 4 p.units ++ leBytes 4 (b2n p.rel * 2 ^ 31)

/-- The 64 KiB units that a list of metadata pages lies in, in order of first appearance, each with the mask of its pages. -/
def metaUnits : List MetaPage → List ((Nat × Nat × Nat) × BitVec 16)
  | [] => []
  | p :: ps =>
    let (k, c, u, b) := p.place
    let rest := metaUnits ps
    let m := match rest.find? (fun x => x.1 == (k, c, u)) with
      | some x => x.2 ||| pageBit b
      | none => pageBit b
    ((k, c, u), m) :: rest.filter (fun x => x.1 != (k, c, u))

/-- A superblock of the vault: parity group, volume and LUN number, and the block of each of its sixteen members (R338). -/
structure VaultSuper where
  group  : Nat
  lun    : Nat
  blocks : List Nat
  deriving DecidableEq, Repr

namespace Device

/-! ### Superblocks and slots -/

/-- The VAULT blocks of a LUN in generation `g`, ascending; 2 names its probe block (R345). -/
def vaultBlocks (d : Device) (ch lun g : Nat) : List Nat :=
  let later := (d.cel.blocks.filter (fun p => decide (p.1 / 1048576 = lunKey ch lun ∧ d.cel.vaultBlks ≤ p.1 % 1048576))).map (fun p => p.1 % 1048576)
  (List.range d.cel.vaultBlks ++ later).filter (fun b => (d.blk ch lun b).state == .vault && (d.blk ch lun b).gen == g)

/-- The LUN numbers in use. -/
def lunNumbers (d : Device) : List Nat :=
  sortBy (fun a b => decide (a ≤ b)) ((nubNat (d.cel.used.map (·.2))).map (fun v => (List.range 8).map (fun i => 8 * v + i))).flatten

/-- The whole superblocks of a generation in the order in which the model fills them: by LUN, then by parity group. One with a member on
an isolated volume is none. -/
def vaultSupers (d : Device) (g : Nat) : List VaultSuper :=
  (d.lunNumbers.map (fun l => ((List.range 4).map (fun gr =>
    let cols := (List.range 16).map (fun m => if d.lunState (16 * gr + m) l = 1 then d.vaultBlocks (16 * gr + m) l g else [])
    let n := cols.foldl (fun a c => min a c.length) (cols.headD []).length
    (List.range n).map (fun k => { group := gr, lun := l, blocks := cols.map (fun c => c.getD k 0) : VaultSuper }))).flatten)).flatten

/-- Data slots of a superblock in SLC mode (R339). -/
def slcSlots (d : Device) : Nat := 15 * d.nandGeom.slcPages

/-- The superblocks that hold data slots and index pages: all but those of the directory area, of 1/512 of GEN_GIB, and of the spine area of
each EDGE die (R345), which are the last ones. -/
def vaultData (d : Device) (g : Nat) : List VaultSuper :=
  let ss := d.vaultSupers g
  let dirs := if d.slcSlots = 0 then 0 else (128 * d.cel.genGib + d.slcSlots - 1) / d.slcSlots
  ss.take (ss.length - (dirs + 2))

/-- The cellar address, as CPTR gives it, of a data slot of a superblock (R67, R337, R339). -/
def superSlot (d : Device) (s : VaultSuper) (n : Nat) : Nat :=
  let m := slotMember n
  (16 * s.group + m) * 2 ^ 32 + s.lun * 2 ^ 25 + s.blocks.getD m 0 * 2 ^ d.ppbLog2 + n / 15

/-- The cellar address of data slot `n` of a generation; past its last superblock, an address that no cellar has. -/
def slotAddr (d : Device) (g n : Nat) : Nat :=
  match (d.vaultData g)[n / d.slcSlots]? with
  | some s => d.superSlot s (n % d.slcSlots)
  | none => 2 ^ 38 * (g + 1) + n

/-- The position of a vault copy within its generation, from its CPTR (R138): the number of its first data slot. -/
def slotOf (d : Device) (g cptr : Nat) : Nat :=
  if 2 ^ 38 ≤ cptr then cptr % 2 ^ 38
  else
    let ch := cptr / 2 ^ 32 % 64
    let row := cptr % 2 ^ d.ppbLog2
    let at_ (s : VaultSuper) : Bool := s.group == ch / 16 && s.lun == rackLun cptr && s.blocks.getD (ch % 16) 0 == cptr % 2 ^ 25 / 2 ^ d.ppbLog2
    ((d.vaultData g).findIdx at_) * d.slcSlots + 15 * row + (if ch % 16 < row % 16 then ch % 16 else ch % 16 - 1)

/-- The superblock ID of the `n`-th superblock with data slots of a generation (log 51). -/
def vaultSb (g n : Nat) : Nat := 2 ^ 31 + g * 2 ^ 24 + n

/-- Data slot `n` of a generation is programmed, under the vault key (R342, R375, R376). -/
def putVault (d : Device) (g n kind page cask index : Nat) (bytes : List Byte) : Device :=
  let sb := vaultSb g (n / d.slcSlots)
  let d := d.openSuper sb true
  let a := d.slotAddr g n
  d.putPage a { oseq := d.oseqOf sb, kind := kind, page := page, cask := cask, index := index, sb := sb } (d.mediaSeal 1 (d.oseqOf sb) a bytes)

/-- The pages `ps` of a vault copy, four to a slot, from data slot `n` on: PAGE is the first of them (R346, log 51). -/
def putVaultCopy (d : Device) (g n cask index : Nat) : List (Nat × List Byte) → Device
  | [] => d
  | p :: q :: r :: s :: rest => putVaultCopy (d.putVault g n 2 p.1 cask index (p.2 ++ q.2 ++ r.2 ++ s.2)) g (n + 1) cask index rest
  | p :: rest => d.putVault g n 2 p.1 cask index (p.2 ++ (rest.map (·.2)).flatten)

/-- The superblocks of a generation that was erased are programmed afresh (R343). -/
def freshSupers (d : Device) (g : Nat) : Device :=
  d.setCel { d.cel with supers := d.cel.supers.filter (fun p => decide (p.1 / 2 ^ 24 ≠ vaultSb g 0 / 2 ^ 24)) }

/-- The 4,096 bytes of a metadata page (R71, R77, R78, R81). -/
def metaPageBytes (d : Device) : MetaPage → List Byte
  | .rackTable c p => ((List.range 256).map (fun i => leBytes 16 (rackBits (d.rack c (256 * p + i))))).flatten
  | .caskTable p => ((List.range 64).map (fun i => caskBytes (d.csk.casks.find? (64 * p + i)))).flatten
  | .grantTable p => ((List.range 128).map (fun i => grantBytes (d.grant (128 * p + i)))).flatten
  | .absence p => Config.mapBytes (4 * p) d.mir.absence
  | .absCask p => Config.mapBytes (4 * p + 1) d.mir.absCasks
  | .absGrant p => Config.mapBytes (4 * p + 2) d.mir.absGrants
  | .epochTable => ((d.mir.epochs.map (fun e => leBytes 4 e.1 ++ leBytes 8 e.2.1 ++ leBytes 8 e.2.2)).flatten)

/-- Whether a superblock lies on a LUN that is skipped for the rest of a bottling (R123). -/
def superSkipped (s : VaultSuper) (skipped : List Nat) : Bool :=
  (List.range 16).any (fun m => skipped.contains (lunKey (16 * s.group + m) s.lun))

/-- The location of a spine copy: the first slot of the last superblock of EDGE-W, or of EDGE-E, that no skipped LUN has part in (R122 step 8,
R123, R345). -/
def spineAt (d : Device) (g : Nat) (skipped : List Nat) (east : Bool) : Nat :=
  match ((d.vaultSupers g).filter (fun s => decide (2 ≤ s.group) == east && !superSkipped s skipped)).getLast? with
  | some s => d.superSlot s 0
  | none => 2 ^ 38 * (g + 1) + 2 ^ 37 + b2n east

/-- The CRC of a seal record over the generation, the bottling sequence number and both spine locations (R126; the layout is the model's,
log 60). -/
def sealCrc (g n w e : Nat) : Nat := crc32c (leBytes 1 g ++ leBytes 8 n ++ leBytes 8 w ++ leBytes 8 e)

/-- The first of `k` consecutive slots at `n` or later: a copy never crosses a superblock (R346), and the stripes of a skipped LUN are
completed on the next LUN in order (R123). -/
def findSlots (d : Device) (g : Nat) (skipped : List Nat) : Nat → Nat → Nat → Nat
  | 0, n, _ => n
  | f + 1, n, k =>
    if d.slcSlots = 0 then n
    else
      let bad := match (d.vaultData g)[n / d.slcSlots]? with
        | some s => superSkipped s skipped
        | none => false
      if bad || decide (d.slcSlots < n % d.slcSlots + k) then findSlots d g skipped f ((n / d.slcSlots + 1) * d.slcSlots) k else n

/-- The pages programmed to fill the slots of a generation up to `n`: whole rows, with their parity pages and the pad pages that complete
the last (R339, R346, R347). -/
def fillVault (d : Device) (g : Nat) (skipped : List Nat) (n : Nat) : Device :=
  let ss := d.vaultData g
  (ss.zip (List.range ss.length)).foldl (fun (d : Device) (p : VaultSuper × Nat) =>
    let rows := (min d.slcSlots (n - p.2 * d.slcSlots) + 14) / 15
    if rows = 0 || superSkipped p.1 skipped then d
    else
      let d := (List.range 16).foldl (fun (d : Device) (m : Nat) =>
        let b := p.1.blocks.getD m 0
        let x := d.blk (16 * p.1.group + m) p.1.lun b
        d.setBlk (16 * p.1.group + m) p.1.lun b { x with wp := max x.wp rows }) d
      d.bumpPair Reg.CEL_PROG_CNT_LO (16 * rows)) d

/-- The flush probe (R109): 1 GiB is programmed in SLC mode into the probe blocks of every LUN that is not isolated, with 15+1 parity, through
media XTS; the probe blocks are erased afterwards. -/
def probeBlocks (d : Device) : Device :=
  let bs := (d.cel.used.map (fun u => ((List.range 8).map (fun i =>
    if d.lunState u.1 (8 * u.2 + i) = 1 then (d.vaultBlocks u.1 (8 * u.2 + i) 2).map (fun b => (u.1, 8 * u.2 + i, b)) else [])).flatten)).flatten
  if bs.isEmpty then d
  else
    let d := ((d.bumpPair Reg.CEL_PROG_CNT_LO (65536 + 65536 / 15 + 1)).mediaBytes 1073741824).bumpPair Reg.CEL_ERASE_CNT_LO bs.length
    bs.foldl (fun (d : Device) (b : Nat × Nat × Nat) =>
      let x := d.blk b.1 b.2.1 b.2.2
      d.setBlk b.1 b.2.1 b.2.2 { x with wp := 0, erases := min (x.erases + 1) 4294967295 }) d

end Device
end Sys2Proof.Machine
end

