-- ==== Sys2Proof/Machine/Power.lean ====
section
/-! DEFINITION. Operations of the supervisor: rails, power-up and power-down (R393–R404), the capsule (R412), the
latch of bottling (R120–R122), its end (R127, R128), the restore source (R133–R137), the supply states (R118). -/

namespace Sys2Proof.Machine

def supBlk : Nat := Reg.SUP_SEQ_CTRL / 65536

def supStateNum : SupState → Nat
  | .init => 0
  | .off => 1
  | .holdoff => 2
  | .powerUp => 3
  | .on => 4
  | .flush => 5
  | .powerDown => 6
  | .lowPower => 7
  | .lockout => 8

def railStateNum : RailState → Nat
  | .off => 0
  | .rising => 1
  | .inReg => 2
  | .falling => 3
  | .fault => 4

namespace Device

/-- The state that SUP_SEQ_STATUS.STATE reports (R393): LOW_POWER from the acceptance of a Diapause request until the exit has powered the
rails (R418). -/
def seqState (d : Device) : SupState :=
  if (d.sup.state == .powerDown && d.sup.dnKeep) || (d.sup.state == .powerUp && d.sup.dpExit) then .lowPower else d.sup.state

def setSup (d : Device) (s : Sup) : Device := { d with sup := s }

/-! ### Rails -/

def rail (d : Device) (n : Nat) : Rail := (d.sup.rails.find? n).getD Rail.blank

def setRail (d : Device) (n : Nat) (r : Rail) : Device := d.setSup { d.sup with rails := d.sup.rails.put n r }

def slotUsed (d : Device) (n : Nat) : Bool := d.flag Fld.SUP_R_CFG_USED n

def usedSlots (d : Device) : List Nat := (List.range 32).filter (fun n => d.slotUsed n)

/-- The slots that a power-up or power-down in progress works on: in Diapause, those with KEEP_DP = 0. -/
def workSlots (d : Device) (keep : Bool) : List Nat :=
  d.usedSlots.filter (fun n => !keep || !d.flag Fld.SUP_R_CFG_KEEP_DP n)

/-- PG_MODE asks for PG (0b00, 0b10 and 0b11); the sense (0b00, 0b01 and 0b11). -/
def needsPg (d : Device) (n : Nat) : Bool := d.fld Fld.SUP_R_CFG_PG_MODE n != 1
def needsSense (d : Device) (n : Nat) : Bool := d.fld Fld.SUP_R_CFG_PG_MODE n != 2

/-- A value of a slot with its margin (R408): STEPS is a five-bit two's complement number of half per cents. -/
def margined (d : Device) (n mv : Nat) : Nat :=
  let k := d.fld Fld.SUP_R_MARGIN_STEPS n
  if k ≤ 10 then mv * (200 + k) / 200 else mv * (168 + k) / 200

/-- UV_MV and OV_MV in force: a margin scales them (R408). -/
def uvOf (d : Device) (n : Nat) : Nat := d.margined n (d.fld Fld.SUP_R_V1_UV_MV n)
def ovOf (d : Device) (n : Nat) : Nat := d.margined n (d.fld Fld.SUP_R_V0_OV_MV n)

/-- Set the output of a PMB slot over the PMBus: its nominal value, or the AVS target, with its margin (R408). -/
def setOutput (d : Device) (n : Nat) : Device :=
  let nom := if d.flag Fld.SUP_R_CFG_AVS n then d.sup.avsTarget else d.fld Fld.SUP_R_V0_VNOM_MV n
  if d.flag Fld.SUP_R_CFG_PMB n then d.emit (.pmbus (d.fld Fld.SUP_R_PMB_ADDR n) (d.fld Fld.SUP_R_PMB_PAGE n) 0x21 (d.margined n nom)) else d

/-- Whether readings of a slot are in regulation (R396). -/
def inRegulation (d : Device) (n mv : Nat) (pg : Bool) : Bool :=
  (!d.needsSense n || decide (d.uvOf n ≤ mv ∧ mv ≤ d.ovOf n)) && (!d.needsPg n || pg)

def belowOff (d : Device) (n mv : Nat) : Bool := decide (mv < d.fld Fld.SUP_R_V1_OFF_MV n)

/-- Sense full scale by DIV, in mV (R526). -/
def senseFull (div : Nat) : Nat :=
  match div with
  | 0 => 1250
  | 1 => 2500
  | 2 => 5000
  | _ => 20000

def noRepeat : List Nat → Bool
  | [] => true
  | x :: xs => !xs.contains x && noRepeat xs

/-- Whether the rail table is valid (R395). -/
def railTableValid (d : Device) : Bool :=
  let us := d.usedSlots
  let f (x : Fld) (n : Nat) : Nat := d.fld x n
  let full (n : Nat) : Nat := senseFull (f Fld.SUP_R_CFG_DIV n)
  let avs := us.filter (fun n => d.flag Fld.SUP_R_CFG_AVS n)
  us.all (fun n => decide (f Fld.SUP_R_V1_OFF_MV n < f Fld.SUP_R_V1_UV_MV n ∧ f Fld.SUP_R_V1_UV_MV n < f Fld.SUP_R_V0_VNOM_MV n ∧
      f Fld.SUP_R_V0_VNOM_MV n < f Fld.SUP_R_V0_OV_MV n ∧ f Fld.SUP_R_V0_OV_MV n * 105 < 100 * full n))
    && decide (avs.length ≤ 1)
    && avs.all (fun n => d.flag Fld.SUP_R_CFG_PMB n &&
        decide (f Fld.SUP_R_V0_OV_MV n * 850 * 105 < 100 * full n * f Fld.SUP_R_V0_VNOM_MV n))
    && us.all (fun n => d.fld Fld.SUP_R_MARGIN_STEPS n == 0 || d.flag Fld.SUP_R_CFG_PMB n)
    && decide ((us.filter (fun n => f Fld.SUP_R_CFG_CLK n == 1)).length ≤ 1 ∧ (us.filter (fun n => f Fld.SUP_R_CFG_CLK n == 2)).length ≤ 1)
    && noRepeat ((us.filter (fun n => d.flag Fld.SUP_R_CFG_DIS_EN n)).map (fun n => f Fld.SUP_R_CFG_DIS_SEL n))

/-- Drive the enable of a slot. -/
def driveEn (d : Device) (n : Nat) (on : Bool) : Device := d.pin ("RAIL" ++ toString n ++ "_EN") (b2n on)

/-- Assert a slot's discharge output, when it has one. -/
def discharge (d : Device) (n : Nat) : Device :=
  if d.flag Fld.SUP_R_CFG_DIS_EN n then
    (d.setRail n { d.rail n with dis := true, disAt := d.now }).pin ("DIS" ++ toString (d.fld Fld.SUP_R_CFG_DIS_SEL n) ++ "_N") 0
  else d

/-- The slot whose output is the core voltage (R395). -/
def avsSlot (d : Device) : Option Nat := (d.usedSlots.filter (fun n => d.flag Fld.SUP_R_CFG_AVS n)).head?

/-- Move the output voltage of the AVS slot as the model holds it to `uv` µV; UV_MV and OV_MV keep their differences from it
(R398). -/
def avsMove (d : Device) (n uv : Nat) : Device :=
  let mv (x : Nat) : Nat := x + uv / 1000 - d.sup.avsMv / 1000
  let d := if d.sup.avsMv = 0 then d
    else (d.setFld Fld.SUP_R_V1_UV_MV (mv (d.fld Fld.SUP_R_V1_UV_MV n)) n).setFld Fld.SUP_R_V0_OV_MV (mv (d.fld Fld.SUP_R_V0_OV_MV n)) n
  d.setSup { d.sup with avsMv := uv }

/-- The AVS regulator powers up at its stored output voltage, which equals VNOM_MV (R398). -/
def avsHome (d : Device) (n : Nat) : Device := d.avsMove n (1000 * d.fld Fld.SUP_R_V0_VNOM_MV n)

/-- Set T, the target of the core voltage (R475). -/
def setTarget (d : Device) (mv : Nat) : Device := (d.setSup { d.sup with avsTarget := mv }).setFld Fld.AGE_VCORE_TARGET_MV mv

/-- Assert EN; the discharge output is released at that moment (R397). -/
def enableSlot (d : Device) (n : Nat) : Device :=
  let r := d.rail n
  let d := if d.flag Fld.SUP_R_CFG_AVS n then d.avsHome n else d
  let d := (d.setRail n { r with en := true, dis := false, state := .rising, handled := false }).driveEn n true
  if r.dis then d.pin ("DIS" ++ toString (d.fld Fld.SUP_R_CFG_DIS_SEL n) ++ "_N") 1 else d

def disableSlot (d : Device) (n : Nat) : Device :=
  let r := d.rail n
  (d.setRail n { r with en := false, handled := false, state := if d.belowOff n r.mv then .off else .falling }).driveEn n false

/-- The next step after `k` at which one of the slots stands, by its step field. -/
def nextStep (d : Device) (f : Fld) (slots : List Nat) (from_ : Nat) : Option Nat :=
  ((List.range 32).filter (fun k => decide (from_ ≤ k) && slots.any (fun n => d.fld f n == k))).head?

/-! ### The capsule -/

/-- Whether two events are the same to the recorder (R466). -/
def sameEvent (a b : EventIn) : Bool := a.src == b.src && a.code == b.code && a.sev == b.sev && fitBytes 16 a.data == fitBytes 16 b.data

/-- The SEQ that the event recorded next takes (R413): the new records that wait in the input queue come first; a repeat takes none. -/
def nextSeqNum (d : Device) : Nat :=
  let last := d.evr.last.bind (fun i => (d.evr.ring.find? i).map (·.ev))
  let a := d.evr.fifo.foldl (fun (a : Option EventIn × Nat) e =>
    (some e, if a.1.elim true (fun l => !sameEvent l e) then a.2 + 1 else a.2)) (last, d.fld Fld.EVR_SEQ_VALUE)
  a.2 % 16777216

/-- Capture the capsule while its state is EMPTY (R412): the header, the rails and the events at the trigger. -/
def captureCapsule (d : Device) (trig : Nat) (slot : Option Nat) : Device :=
  if d.sup.capsule.isSome then d
  else
    let (n, d) := d.draw
    let evs := (d.evr.ring.map (·.2)).reverse.take 256
    let rails := (List.range 32).map (fun i =>
      let r := d.rail i
      [r.mv, railStateNum r.state, b2n r.en + 2 * b2n r.pg + 4 * b2n r.dis, d.uvOf i, d.ovOf i,
       d.fld Fld.SUP_R_V1_OFF_MV i])
    d.setSup { d.sup with capsule := some {
      done := false, lost := false, trig := trig, slot := slot.getD 255, supState := supStateNum d.seqState, attempt := d.fld Fld.SUP_SEQ_STATUS_ATTEMPT,
      opsec := d.fld Fld.EVR_OPSEC_VALUE, cycles := d.fld Fld.EVR_CYCLES_VALUE,
      rtc := d.fld Fld.SUP_RTC_SEC_SEC * 32768 + d.fld Fld.SUP_RTC_SUB_SUB, evtSeq := d.nextSeqNum,
      hvin := d.sup.hvin, hu := d.sup.hu, vbat := d.sup.vbat, phase := d.hold.phase, rails := rails, draw := n, events := evs,
      regs := (List.range 1024).map (fun i => d.reg (supBlk * 65536 + 4 * i)) } }

/-- Record a trigger of R413: SUP_SEQ_STATUS and the capsule. -/
def noteTrigger (d : Device) (trig : Nat) (slot : Option Nat) : Device :=
  let d := d.setFld Fld.SUP_SEQ_STATUS_LAST_TRIG trig
  let d := match slot with
    | some n => d.setFld Fld.SUP_SEQ_STATUS_FAULT_SLOT n
    | none => d
  d.captureCapsule trig slot

/-- Return every margined slot to nominal (R409). -/
def dropMargins (d : Device) : Device :=
  (List.range 32).foldl (fun d n => if d.fld Fld.SUP_R_MARGIN_STEPS n = 0 then d else (d.setReg Reg.SUP_R_MARGIN 0 n).setOutput n) d

/-! ### Supply -/

/-- The levels of R117 applied to a reading, in units of 10 mV. -/
def assess (d : Device) (hvin : Nat) (pfi : Bool) : Bool × Bool :=
  let mode := d.fld Fld.PST_ADMIT_CTRL_PFI_MODE
  let bad := decide (hvin < d.fld Fld.SUP_HV_WARN_FALL) || (pfi && mode != 0)
  let good := decide (d.fld Fld.SUP_HV_WARN_RISE ≤ hvin) && (!pfi || mode == 0)
  (bad, good && !bad)

/-! ### Power-down -/

/-- Restore waves, scrub, bank tests and so on see the supply state leave NORMAL (R108, R118). -/
def leaveNormal (d : Device) : Device :=
  let d := match d.hold.testAt with
    | some _ => (((d.setHold { d.hold with testAt := none, setStart := false }).pin "HU_TEST_N" 1).setFld Fld.SUP_HU_STATUS_ABORT 1).eventR 3 supBlk 108
    | none => d
  -- R481: AVS steps stop at the present output, and pending outputs wait for the next re-plan
  let d := if d.sup.avsMv = 0 then d else d.setTarget (d.sup.avsMv / 1000)
  d.reevalAdmit

/-- The supply state enters WARN (R118, R131): one event for each entry, whether or not the bit was already 1; PST keeps the bit while HUB
is powered. -/
def enterWarn (d : Device) : Device :=
  let normal := d.hold.supply == .normal
  let d := d.setHold { d.hold with supply := .warn }
  let d := if d.hubOn then d.raiseQuiet Reg.PST_BDG_INT_STATUS 2 else d
  let d := d.event { sev := 3, host := false, src := Reg.PST_BDG_INT_STATUS / 65536, code := 258,
                     data := leBytes 4 (d.reg Reg.PST_BDG_INT_STATUS).toNat ++ List.replicate 12 0 }
  if normal then d.leaveNormal else d.reevalAdmit

/-- The supply state becomes WARN by a rule other than a bad input (R404, R155): it then follows R118. -/
def supplyWarn (d : Device) : Device :=
  let d := if d.hold.supply = .warn then d else d.enterWarn
  (d.setHold { d.hold with supply := if d.hold.inputGood then .dwell else .warn, dwellAt := d.now }).reevalAdmit

/-- The role and the epoch at stop-admission, or when a quiesce begins: what a spine records (R126, R141, R510). -/
def noteStop (d : Device) : Device := d.setHold { d.hold with stopRole := roleNum d.mir.role, stopEpoch := d.mir.epoch }

/-- The exit from Diapause or Chrysalis begins (R428, R431, R433): the latched wakes become the sources of the exit, and the
supply state is WARN (R118). The rails wait for RESTART_HOLDOFF. -/
def beginExit (d : Device) : Device :=
  let d := (d.setFld Fld.SUP_PWR_STATUS_WAKE_SRC (d.fld Fld.SUP_PWR_STATUS_WAKE_PEND)).setFld Fld.SUP_PWR_STATUS_WAKE_PEND 0
  let d := (d.setFld Fld.SUP_PWR_STATUS_RST_PEND 0).setSup { d.sup with cur := 5, dpExit := decide (d.sup.target = 1) }
  d.supplyWarn

/-- SC executes WAIT (R424): it returns at once when a wake is pending, or when a reset input (R440) or a long press (R406) arrived during the
entry. -/
def atWait (d : Device) : Device :=
  if d.fld Fld.SUP_PWR_STATUS_WAKE_PEND ≠ 0 ∨ d.sup.resetWake ∨ d.sup.pressOff then d.beginExit else d

/-- LOCKOUT is entered (R399, R417): one event, whether or not the bit is already 1. -/
def lockedOut (d : Device) : Device :=
  if bitAt (d.reg Reg.SUP_SEQ_INT_STATUS) 6 then d.eventR 5 supBlk 399 else d.raise Reg.SUP_SEQ_INT_STATUS 6 5

/-- Begin the step-down at step `k` or later; the last step ends POWER_DOWN (R402, R404). -/
def downFrom : Nat → Device → Nat → Device
  | 0, d, _ => d
  | fuel + 1, d, k =>
    let live := (d.workSlots d.sup.dnKeep).filter (fun n => (d.rail n).en)
    match d.nextStep Fld.SUP_R_CFG_DN_STEP live k with
    | some j =>
      let ns := live.filter (fun n => d.fld Fld.SUP_R_CFG_DN_STEP n == j)
      let d := ns.foldl (fun d n => d.disableSlot n) d
      let d := (d.setSup { d.sup with step := j, stepAt := d.now }).setFld Fld.SUP_SEQ_STATUS_STEP j
      if ns.all (fun n => (d.rail n).state == .off) then downFrom fuel d (j + 1) else d
    | none =>
      let fin := d.sup.endIn
      let d := if fin = .lowPower ∧ !d.sup.dnKeep then d.setSup { d.sup with upAt := d.now } else d
      let d := d.setSup { d.sup with state := fin, offAt := d.now, dnKeep := false,
                                     cur := if fin = .lowPower then (if d.sup.target = 1 then 3 else 4) else 0,
                                     target := if fin = .lowPower then d.sup.target else 0,
                                     nullSealed := if fin = .lowPower then d.sup.nullSealed else false }
      let d := d.setHold { d.hold with bottle := none, phase := 0, waitIn := false, stopAdm := false }
      let d := if d.hold.pfDrive then (d.setHold { d.hold with pfDrive := false }).pin "PF_SHARE" 1 else d
      let d := d.supplyWarn
      if fin = .lockout then d.lockedOut else if fin = .lowPower then d.atWait else d

/-- POWER_DOWN begins (R402): DRAM keeps its contents only in a Diapause entry. -/
def powerDown (d : Device) (endIn : SupState) (keep : Bool := false) : Device :=
  let d := d.dropMargins
  let d := d.endWalk
  let d := if d.hubOn then d.hubOff keep else if keep then d else d.clearBytes 0 (2 ^ 60)
  let d := d.setSup { d.sup with state := .powerDown, endIn := endIn, dnKeep := keep, plls := [], warm := none, flushing := false }
  let d := if endIn = .lowPower then d else
    (d.setSup { d.sup with dpExit := false, target := 0, cur := 0, joinBack := false, resetWake := false, pressOff := false }).setFld Fld.SUP_PWR_TARGET_MODE 0
  downFrom 34 (d.setFld Fld.SUP_SEQ_STATUS_DIR 1) 0

/-- The current power-down step ends when every slot of it is below OFF or was handled (R402, R403). -/
def downGoOn (d : Device) : Device :=
  if d.sup.state = .powerDown ∧ ((d.workSlots d.sup.dnKeep).filter (fun n => d.fld Fld.SUP_R_CFG_DN_STEP n == d.sup.step)).all
      (fun n => (d.rail n).state == .off || (d.rail n).handled) then
    downFrom 34 d (d.sup.step + 1)
  else d

/-- A power-up attempt fails (R399). -/
def failAttempt (d : Device) (trig : Nat) (slot : Option Nat) : Device :=
  let d := d.noteTrigger trig slot
  let n := d.fld Fld.SUP_SEQ_STATUS_ATTEMPT + 1
  let d := (d.setFld Fld.SUP_SEQ_STATUS_ATTEMPT n).raise Reg.SUP_SEQ_INT_STATUS 1 4
  let d := d.setSup { d.sup with dpExit := false, target := 0, cur := 0 }
  if d.fld Fld.SUP_SEQ_CTRL_RETRIES < n then d.powerDown .lockout else d.powerDown .holdoff

/-! ### The restore source and emergence -/

/-- The tables and the vintage state as they stand (R126, R155): a spine with its header, for generation `g` and bottling number `n`. -/
def captureMeta (d : Device) (pend : List Pending) (g : Nat := 0) (n : Nat := 0) : MetaImage :=
  { casks := d.csk.casks, grants := d.csk.grants, fresh := d.csk.fresh, freed := d.csk.freed,
    racks := d.csk.racks.map (fun (p : Nat × Rack) => (p.1, { Rack.blank with cptr := p.2.cptr, cvalid := p.2.cvalid, vault := p.2.vault, homed := p.2.homed })),
    absence := d.mir.absence, epochs := d.mir.epochs, applied := d.pst.appliedNum, commit := d.pst.commitNum, resv := d.pst.resv,
    pend := pend, role := d.hold.stopRole, pair := d.pair Reg.MIR_PAIR_LO, twinAck := d.mir.twinHeld,
    plan := d.fld Fld.PST_DB_PLAN_PLAN_RACKS, homes := d.trl.homes, absCasks := d.mir.absCasks, absGrants := d.mir.absGrants,
    gen := g, bseq := n, cycles := d.fld Fld.EVR_CYCLES_VALUE, rtc := d.fld Fld.SUP_RTC_SEC_SEC * 32768 + d.fld Fld.SUP_RTC_SUB_SUB,
    map := d.areaMap, epoch := d.hold.stopEpoch, cMf := d.fld Fld.SUP_HU_MEAS_C_C_MF, esr := d.fld Fld.SUP_HU_MEAS_ESR_ESR_UOHM,
    bw := d.hold.bwMeas, pendList := pend.map pendEntry, idxAt := (d.gen g).idxAt, idxN := (d.gen g).index.length }

/-- The spine copy of a generation that passes its CRC checks. -/
def goodSpine (g : VaultGen) : Option MetaImage := if g.copyA || g.copyB then g.spine else none

/-- The restore source that the newest journal record gives (R133): SOURCE, the generation, the image; no image is
distinguished from a device that has no record of any kind. Of the phase records, those of steps 9 and 10 and of the decision to resume
follow the seal or the null seal that step 9 has written, so they do not hide it (DEDUCED, log 17). -/
def restoreSource (d : Device) : Nat × Nat × Option MetaImage × Bool :=
  match (d.hold.journal.map (·.what)).dropWhile (fun (r : JRec) => r == .phase 5 || r == .phase 6 || r == .phase 7) with
  | [] => (0, 0, none, false)
  | .sealRec g n w e crc :: _ =>
    if crc ≠ sealCrc g n w e then (0, 0, none, true)
    else match goodSpine (d.gen g) with
    | some m => (1, g, some m, false)
    | none => (0, 0, none, true)
  | .nullSeal :: _ => (2, 0, d.hold.home, d.hold.home.isNone)
  | _ => (0, 0, none, true)

/-- The generation other than `g` is referred to by the image's racks (R135). -/
def olderRef (d : Device) (g : Nat) (m : MetaImage) : Bool :=
  (d.gen (1 - g)).state == .sealed && m.racks.any (fun p =>
    p.2.vault && (match (d.gen (1 - g)).racks.find? p.1 with
      | some e => e.vaddr == p.2.cptr
      | none => false))

/-- HUB is released after a cold start or a Chrysalis exit: emergence begins (R133, R136, R153). -/
def emerge (d : Device) : Device :=
  let (src, g, img, lost) := d.restoreSource
  let older := match img with
    | some m => src == 1 && d.olderRef g m
    | none => false
  let d := d.setRst { phase := if lost then 8 else 1, source := src, srcGen := g, older := older, alone := false, wavePri := 15,
                      svcOpen := false, noImage := lost, image := img, pend := [], twinH := none, resolved := false, told := [], toldAt := 0, awaits := [],
                      vR := 0, startAt := d.now, openAt := 0, linkUpAt := d.now, fillLeft := [], wave0 := false, fillPaused := false,
                      roleWas := (img.map (·.role)).getD 0, cleared := false }
  let d := d.startDetached
  let d := d.setMir { d.mir with twinRole := none, serving := false, staleKnown := false, firstAt := d.now }
  let d := d.setPst { d.pst with numValid := false, openAt := d.now, openPeriod := d.fld Fld.PST_VINT_PERIOD_PERIOD_US, sealAt := 0 }
  if lost then (d.raise Reg.PST_RST_INT_STATUS 4 7) else d

/-- A pending vintage that the vault held carries no page charge (R104). -/
def uncharged (p : Pending) : Pending := { p with recs := p.recs.map (fun r => { r with charge := 0 }) }

/-- Take an image's tables (R137): residency cleared, vault entries laid over the rack table. -/
def loadImage (d : Device) (m : MetaImage) (byGen : Option VaultGen) : Device :=
  let racks := match byGen with
    | some g => g.racks.foldl (fun (t : AMap Rack) (p : Nat × VaultRack) =>
        t.put p.1 { ((t.find? p.1).getD Rack.blank) with cptr := p.2.vaddr, vault := true, cvalid := true, homed := true }) m.racks
    | none => m.racks
  { d with
    csk := { d.csk with casks := m.casks, grants := m.grants, fresh := m.fresh, freed := m.freed, racks := racks }
    mir := { d.mir with absence := m.absence, absCasks := m.absCasks, absGrants := m.absGrants, epochs := m.epochs, twinHeld := m.twinAck,
                        epoch := max d.mir.epoch m.epoch }
    pst := { d.pst with appliedNum := m.applied, commitNum := m.commit, resv := max d.pst.resv m.resv }
    trl := { d.trl with homes := m.homes }
    rst := { d.rst with pend := m.pend.map uncharged, image := none } }

/-- The vault directory of a generation, as the load builds it and consolidation writes it (R137–R139): each entry under the position of its
copy. -/
def loadDir (d : Device) (g : Nat) : Device :=
  let v := d.gen g
  d.setGen g { v with dir := v.racks.foldl (fun (t : AMap (List Byte)) (p : Nat × VaultRack) =>
    t.put (d.slotOf g p.2.vaddr) (dirEntry (p.1 / 2 ^ 36) (p.1 % 2 ^ 36) p.2.mask.toNat p.2.prev)) [] }

/-! ### Power-up -/

/-- Interrupts of SUP bits that were set while HUB was unpowered (R417, R444, R471). -/
def raiseHeld (d : Device) : Device :=
  let hit (r : Nat) : Bool := Nat.land (d.reg r).toNat (d.reg (r + 4)).toNat != 0
  let d := if hit Reg.EVR_INT_STATUS then d.raiseBlk (Reg.EVR_INT_STATUS / 65536) else d
  if hit Reg.SUP_SEQ_INT_STATUS || hit Reg.SUP_PWR_INT_STATUS then d.raiseBlk supBlk else d

/-- POWER_UP completes (R397 step 5) for a cold start or a Chrysalis exit: ON, and HUB is released when the checks of
R305, R336 and R358 allow it. -/
def powerUpDone (d : Device) : Device :=
  let woke := d.sup.cur == 5
  let d := (d.setSup { d.sup with state := .on, onAt := d.now, upAt := d.now, cur := 0, target := 0, nullSealed := false, resetWake := false }).setFld Fld.SUP_PWR_TARGET_MODE 0
  let kind := if d.sup.cold then 0 else 1
  let d := (d.takeProfile.resetClasses [.f, .w, .c]).takeBifur.setFld Fld.SUP_RST_STATUS_KIND kind
  let d := (d.setFld Fld.PST_DB_PLAN_PLAN_RACKS d.planFrom).setFld Fld.PST_FLUSH_BW_VALUE d.hold.bwMeas   -- R129: from MRAM
  let (d, ok) := d.bringUp
  let d := if woke then d.raise Reg.SUP_PWR_INT_STATUS 0 2 else d
  -- R482: VDD_HUB is stepped to the recorded target once ON is reached
  let d := match d.learned.plan, d.avsSlot with
    | some p, _ => d.setTarget p.mv
    | none, some n => d.setTarget (d.fld Fld.SUP_R_V0_VNOM_MV n)
    | none, none => d
  let d := d.startCores
  if ok then { d with hubOn := true, trl := { d.trl with startAt := d.now }, mir := { d.mir with linkDownAt := d.now } }.emerge.raiseHeld else d

/-- Whether a reference is enabled during POWER_UP (R397 step 4): its slot's step has completed, its delay included. -/
def refEnabled (d : Device) (r : Nat) : Bool :=
  (d.usedSlots.filter (fun n => d.fld Fld.SUP_R_CFG_CLK n == r)).all (fun n =>
      d.sup.phase == .clocks || decide (d.fld Fld.SUP_R_CFG_UP_STEP n < d.sup.step) || (d.sup.dpExit && d.flag Fld.SUP_R_CFG_KEEP_DP n))

/-- Note when a reference becomes enabled: its PLLs have 1 ms from then (R27). -/
def noteRefs (d : Device) : Device :=
  [1, 2].foldl (fun (d : Device) r =>
    if d.refEnabled r && !d.sup.refAt.has r then d.setSup { d.sup with refAt := d.sup.refAt.put r d.now } else d) d

/-- Start the power-up step `k` or the first one after it; after the last, the clocks (R397). -/
def upFrom (d : Device) (k : Nat) : Device :=
  let ws := d.workSlots d.sup.dpExit
  match d.nextStep Fld.SUP_R_CFG_UP_STEP ws k with
  | some j =>
    let d := (ws.filter (fun n => d.fld Fld.SUP_R_CFG_UP_STEP n == j)).foldl (fun d n => d.enableSlot n) d
    (d.setSup { d.sup with step := j, phase := .rising, stepAt := d.now }).noteRefs.setFld Fld.SUP_SEQ_STATUS_STEP j
  | none => (d.setSup { d.sup with phase := .clocks, stepAt := d.now }).noteRefs

/-- POWER_UP begins (R393, R397): the pre-start check, unless the rail table is not valid (R395). -/
def powerUp (d : Device) : Device :=
  if d.fws.run = 2 then d                                      -- R455: in recovery the rails stay off
  else if !d.railTableValid then (d.setSup { d.sup with state := .off }).eventR 7 0x18 395
  else
    let d := (d.setSup { d.sup with state := .powerUp, phase := .prestart, stepAt := d.now, step := 0, plls := [], refAt := [] }).setFld Fld.SUP_SEQ_STATUS_DIR 0
    let d := d.setFld Fld.SUP_SEQ_STATUS_STEP 0
    let high := (d.workSlots d.sup.dpExit).filter (fun n => !d.belowOff n (d.rail n).mv)
    if high.isEmpty then d.upFrom 0 else high.foldl (fun d n => d.discharge n) d

/-- Blocks that stay powered in Diapause (R435): SUP, EVR and FWS. -/
def staysPowered (off : Nat) : Bool :=
  off / 65536 == supBlk || off / 65536 == Reg.EVR_CTRL / 65536 || off / 65536 == Reg.FWS_BOOT / 65536

/-- The bits of a register that the save list holds: fields of access RW, RWP and RWL, and lock bits (R435). -/
def saveMask (r : RegSpec) : Nat :=
  (r.fields.filter (fun f => f.acc == .rw || f.acc == .rwp || f.acc == .rwl || f.acc == .w1s)).foldl
    (fun a f => a + (2 ^ (f.hi + 1 - f.lo) - 1) * 2 ^ f.lo) 0

/-- Registers whose RO fields report what DRAM, the cellar and the plans still are at a Diapause exit (R435). -/
def stateRegs : List Nat :=
  [Reg.DRM_POP, Reg.DRM_CH_STATUS, Reg.DRM_TSA_CFG, Reg.DRM_TSB_CFG, Reg.DRM_CH_PPR, Reg.CEL_GEOM, Reg.CEL_GEOM2, Reg.CEL_POP, Reg.CEL_OP,
   Reg.CEL_VAULT, Reg.CEL_C_STATUS, Reg.CEL_MSEQ_STATUS, Reg.CEL_L_STATUS, Reg.AGE_LEVELS0, Reg.AGE_LEVELS1, Reg.AGE_STATUS, Reg.AGE_VCORE, Reg.CPH_STATE]

/-- The bits of a register whose access code is RO. -/
def roMask (r : RegSpec) : Nat :=
  (r.fields.filter (fun f => f.acc == .ro)).foldl (fun a f => a + (2 ^ (f.hi + 1 - f.lo) - 1) * 2 ^ f.lo) 0

/-- Whether a register entry is on the save list. -/
def saveable (k : Nat) : Bool :=
  !staysPowered (k % 67108864) && (match regSpec? (k % 67108864) with
    | some r => !isPortCopy r k && (r.cls == .w || r.cls == .c)
    | none => false)

/-- Write the save list (R435). -/
def saveRegs (d : Device) : Device := d.setSup { d.sup with saved := d.regs.filter (fun p => saveable p.1) }

/-- Every field on HUB, EDGE and PORT returns to its Reset value, and the save list is restored; a reset that woke the
device keeps W-class fields at their Reset values (R435, R440, R441). -/
def restoreRegs (d : Device) (reset : Bool) : Device :=
  let hub (k : Nat) : Bool := !staysPowered (k % 67108864) && (match regSpec? (k % 67108864) with
    | some r => !isPortCopy r k && (r.cls == .w || r.cls == .c || r.cls == .f)
    | none => false)
  let olds := d.regs.filter (fun p => stateRegs.contains (p.1 % 67108864))
  let d : Device := { d with regs := d.regs.filter (fun p => !hub p.1), latches := d.latches.filter (fun p => p.1 / 67108864 == 1024) }
  let d := d.sup.saved.foldl (fun (d : Device) (p : Nat × Word) =>
    match regSpec? (p.1 % 67108864) with
    | some r =>
      if reset && r.cls == .w then d
      else d.setReg (p.1 % 67108864) (mergeBits (d.reg (p.1 % 67108864) (p.1 / 67108864)) p.2 (saveMask r)) (p.1 / 67108864)
    | none => d) d
  let d := olds.foldl (fun (d : Device) (p : Nat × Word) =>
    match regSpec? (p.1 % 67108864) with
    | some r => d.setReg (p.1 % 67108864) (mergeBits (d.reg (p.1 % 67108864) (p.1 / 67108864)) p.2 (roMask r)) (p.1 / 67108864)
    | none => d) d
  { (d.setSup { d.sup with saved := [] }).mirDefaults with pdt := { d.pdt with cnt := [] } }

/-- A Diapause exit completes (R428): HUB and PORT are released with the save list, an open record is written, and the unit is
DETACHED. -/
def diapauseDone (d : Device) : Device :=
  let reset := d.sup.resetWake
  let d := d.setCel { d.cel with oseq := d.cel.oseqResv }      -- R343
  let d := d.restoreRegs reset
  let d : Device := { d with hubOn := true, mir := { d.mir with linkDownAt := d.now } }
  let d := (d.setSup { d.sup with state := .on, onAt := d.now, cur := 0, target := 0, nullSealed := false, dpExit := false, resetWake := false }).setFld
    Fld.SUP_PWR_TARGET_MODE 0
  let d := (d.setFld Fld.PST_DB_PLAN_PLAN_RACKS d.planFrom).setFld Fld.PST_FLUSH_BW_VALUE d.hold.bwMeas
  let d : Device := { d.startCores.openRecord with pdt := { d.startCores.openRecord.pdt with quietAt := d.now } }
  let d := d.setPair Reg.MIR_ABSENT_LO d.mir.absence.length
  let d := d.startDetached
  let d := if reset then (d.setFld Fld.SUP_RST_STATUS_KIND 2).bumpSat Fld.SUP_RST_STATUS_WARM_CNT else d.setFld Fld.SUP_RST_STATUS_KIND 3
  (d.raise Reg.SUP_PWR_INT_STATUS 0 2).raiseHeld

/-- Whether POWER_UP may begin: SC is not held in INIT (R520, R523), the supply is NORMAL and PF_SHARE is not low in a cascade (R393, R499). -/
def mayPowerUp (d : Device) : Bool := d.hold.supply == .normal && !d.sup.stuck && d.fws.run != 2 && !(d.trl.mode != 0 && d.sup.pfLow)

/-- RESTART_HOLDOFF has passed since the last rail went off. -/
def holdoffPassed (d : Device) : Bool := decide (d.sup.offAt + 1000 * d.fld Fld.SUP_SEQ_CTRL_HOLDOFF_MS ≤ d.now)

/-- What INIT, HOLDOFF and a Chrysalis exit do once the supply state is NORMAL (R393, R404, R431). -/
def supplyNormal (d : Device) : Device :=
  match d.sup.state with
  | .init => if !d.mayPowerUp then d else if d.flag Fld.SUP_SEQ_CTRL_AUTO_ON then d.powerUp else d.setSup { d.sup with state := .off }
  | .holdoff => if d.mayPowerUp && d.holdoffPassed then (d.setSup { d.sup with cold := false }).powerUp else d
  | .lowPower =>
    if d.sup.cur == 5 && d.mayPowerUp && d.holdoffPassed then (d.setSup { d.sup with cold := false }).powerUp else d
  | _ => d

/-! ### Orderly shutdown -/

/-- Step 2 of R405, once every vintage has committed and been applied: the unit leaves its role. -/
def flushGo (d : Device) : Device :=
  if d.sup.state = .flush ∧ !d.sup.flushing ∧ d.rst.phase ≠ 9 ∧ d.pst.openRecs.isEmpty ∧ d.pst.vints.isEmpty then
    let d := d.setSup { d.sup with flushing := true }
    if d.placesWrites then d.enterFenced 2
    else if d.mir.role = .standby ∨ d.mir.role = .resync then d.setRole .detached
    else d
  else d

/-- An orderly shutdown is accepted (R405), for OFF or for a Chrysalis entry (R429). A warm reset that is held ends here: only in ON does
a reset input act (R407). -/
def startFlush (d : Device) (chrysalis : Bool) : Device :=
  let d := d.setSup { d.sup with warm := none, state := .flush, flushAt := d.now, flushing := false, target := if chrysalis then 2 else 0,
                                 cur := if chrysalis then 2 else d.sup.cur }
  d.noteStop.forceSeal.flushGo

/-! ### Bottling -/

/-- Drop the writes past step 10 of R87 that are not placed yet, without completion (R122 step 3): those at step 10 are the waiting writes of
R162, which complete as the unit enters FENCED. -/
def dropLater (d : Device) : Device :=
  let ws := d.mir.step10
  (d.dropWrites (fun _ => true)).setMir { (d.dropWrites (fun _ => true)).mir with step10 := ws }

/-- Drop the requests not yet placed, without completion (R122 step 3). -/
def dropUnplaced (d : Device) : Device :=
  let d := d.dropWrites (fun _ => true)
  { d with pst := { d.pst with reads := [], fences := [], rx := none }, csk := { d.csk with jobs := [] } }

/-- Apply every COMMITTED vintage (R61, R122, R155). -/
def applyCommitted (d : Device) : Device :=
  (d.pst.vints.filter (fun v => v.state == .committed)).foldl (fun d v => d.applyVint v.num) d

/-- Whether a vintage holds only epoch records. -/
def epochOnly (v : Vintage) : Bool := v.recs.all (fun r => match r.wire.metaOp with
  | some (.epochRec _ _) => true
  | _ => false)

/-- The pending vintages: every SEALED one, whole (R61, R155); at a bottling while no generation is ERASED, one that holds only an epoch
record is discarded (R152). -/
def pendingNow (d : Device) (bottling : Bool) : List Pending :=
  (d.pst.vints.filter (fun v => v.own && v.state == .sealed && !(bottling && d.targetGen.isNone && epochOnly v))).map
    (fun v => { num := v.num, rel := v.recs.any (·.released), recs := v.recs })

/-- A bottling phase record, unless R140 keeps the journal as it is. -/
def journalPhase (d : Device) (n : Nat) : Device :=
  match d.hold.bottle with
  | some b => (d.when (!b.preOpen) (·.journalAdd (.phase n))).setHold { (d.when (!b.preOpen) (·.journalAdd (.phase n))).hold with phase := n }
  | none => d.setHold { d.hold with phase := n }

/-- The parts of cascade vintages that are not sealed here seal where they stand, at stop-admission or in a reset (R40). -/
def sealParts (d : Device) : Device :=
  if d.cascadeShared then
    let d := (d.trl.closing.filter (fun (p : Nat × List VRecord) => !p.2.isEmpty)).foldl (fun (d : Device) (p : Nat × List VRecord) => d.waitSeal.sealRecs p.1 p.2 .forced) d
    let d := d.setTrl { d.trl with closing := [] }
    d.sealNow .forced
  else d

/-- BOTTLING latches (R120–R122): stop-admission, PF_SHARE, the event, FENCED with cause 0x2; requests not placed are
dropped, COMMITTED vintages are applied, SEALED ones become pending, and every link goes down. A latch that is set
stays. `endIn` is where a power-down that ends it would end. With HUB unpowered nothing is there to write, as before the open record (log 45). -/
def latchBottling (d : Device) (noResume : Bool) (endIn : SupState) : Device :=
  match d.hold.bottle with
  | some b => if noResume then (d.setHold { d.hold with bottle := some { b with noResume := true } }).setSup { d.sup with endIn := endIn } else d
  | none =>
    let inReset := d.sup.warm.isSome || (d.hubOn && d.rst.phase == 9)
    let d := d.leaveNormal.dropMargins.stopWalk.flashStop
    let preOpen := !d.hubOn || (!d.rst.svcOpen && d.rst.phase != 9)
    let d := d.setHold { d.hold with supply := .bottling, stopAdm := true, pfDrive := true, waitIn := false, bottle := some {
      target := none, preOpen := preOpen, inReset := inReset, noResume := noResume, pend := [], skipped := [], streamDone := false } }
    let d := (d.setSup { d.sup with endIn := endIn }).resumeOps.pin "PF_SHARE" 0
    let d := (d.eventR 5 supBlk 120).journalPhase 1
    let d := (d.noteStop.dropLater.enterFenced 2).sealParts
    let d := d.setMir { d.mir with notices := 0, promoteAt := none, waitArb := [] }   -- R510: one copy only, and no reply is taken up
    let d := d.dropUnplaced.applyCommitted.reclaimAll                        -- R234
    -- R157: in a warm reset, streaming starts once the in-place spine has been loaded
    let d := match d.rst.image with
      | some m => if d.rst.phase = 9 then d.setRst { d.rst with pend := m.pend, image := none } else d
      | none => d
    let pend := d.pendingNow true ++ (if inReset then d.rst.pend else [])
    let d := d.setHold { d.hold with bottle := d.hold.bottle.map (fun b => { b with pend := pend }) }
    ((d.journalPhase 2).serdesOff.haltCores.reevalAdmit).journalPhase 3

/-- Whether the supervisor is in a state in which no rail stands (R393). -/
def railsOff (d : Device) : Bool := d.sup.state == .init || d.sup.state == .off || d.sup.state == .holdoff || d.sup.state == .lockout

/-- A bottling ends with no rail to sequence off (R118; log 45). -/
def bottleOver (d : Device) : Device :=
  let d := d.setHold { d.hold with bottle := none, phase := 0, waitIn := false, stopAdm := false }
  let d := if d.hold.pfDrive then (d.setHold { d.hold with pfDrive := false }).pin "PF_SHARE" 1 else d
  d.supplyWarn

/-- Step 10 of R122: the rails are sequenced off. -/
def stepTen (d : Device) : Device :=
  let d := d.journalPhase 6
  if d.railsOff then d.bottleOver else d.powerDown d.sup.endIn

/-- Step 10 runs at once, from the wait of R127 too: PF_SHARE is asserted until it ends. -/
def stepTenNow (d : Device) : Device :=
  (if d.hold.pfDrive then d else (d.setHold { d.hold with pfDrive := true }).pin "PF_SHARE" 0).stepTen

/-- The bottling in progress does not resume in place (R28, R508): step 10 runs whatever the input, at once when SC already waits on it. -/
def barResume (d : Device) : Device :=
  match d.hold.bottle with
  | some b =>
    let d := d.setHold { d.hold with bottle := some { b with noResume := true } }
    if d.hold.waitIn then d.stepTenNow else d
  | none => d

/-- The device resumes in place (R128): the PDT engine's quiet period begins again, and the cores run from their saved state. -/
def resumeBottle (d : Device) (b : Bottle) : Device :=
  let d := match b.target with
    | some g => d.setGen g (d.gen g).dropped
    | none => d
  let d := d.when (!b.preOpen) (·.openRecord)
  let d := d.setHold { d.hold with
    bottle := none, phase := 0, waitIn := false, stopAdm := false, pfDrive := false, supply := .dwell, dwellAt := d.now }
  let d : Device := { d.startCores with pdt := { d.pdt with quietAt := d.now } }
  (d.pin "PF_SHARE" 1).reevalAdmit.when d.hubOn (·.raise Reg.PST_BDG_INT_STATUS 4 5)

/-- The end of the sequence in a warm reset that bottled (R155, R157): the unit restores from the generation just
sealed. -/
def warmAfterBottle (d : Device) (logic : Device → Device) : Device :=
  let d := d.setHold { d.hold with bottle := none, phase := 0, waitIn := false, stopAdm := false, pfDrive := false }
  (logic (d.pin "PF_SHARE" 1)).supplyWarn

/-! ### Warm reset -/

/-- What every warm reset does to the logic of HUB, EDGE and PORT (R439, R441). -/
def logicReset (d : Device) (cause core : Nat) : Device :=
  let d := (d.serdesOff.dropTransports.endWalk.dropVolatile.trlReset).closeStreams (fun _ => true)
  let d := d.setCel { d.cel with oseq := d.cel.oseqResv, busy := [] }      -- R343
  let keepC := d.sup.profNext.isNone
  let d := match d.sup.profNext with
    | some p => (d.setSup { d.sup with profNext := none }).selectProfile p
    | none => d
  let d := (d.clearClasses [.f, .w]).when (!keepC) (·.resetRwp [.c])   -- R439
  let d := (d.loadProfile (if keepC then [.w] else [.w, .c])).takeBifur
  let d : Device := { d with
    hrg := { d.hrg with sqs := [], cqs := [], resets := [], msix := [], msixPend := [], rrSq := [] }
    qmg := { queues := [], reclaims := [], xbar := [] }
    net := { d.net with marks := [], egress := [] }
    csk := { d.csk with jobs := [], gate := [], fetchWait := [], urgent := [] }
    pst := { d.pst with openRecs := [], rx := none, placeWait := [], reads := [], fences := [], outcomes := [], sealDue := none, numValid := false }
    adm := { d.adm with held := [], credit := 0 }
    mir := { d.mir with step10 := [], pfetch := [], waitArb := [], hbHolder := 0, hbProposed := none, attached := false, absent := false,
                        joinReq := false, inbox := [], serving := false, staleKnown := false, firstAt := d.now, twinRole := none } }
  let d := (d.setFld Fld.SUP_RST_STATUS_KIND 2).setFld Fld.SUP_RST_STATUS_CAUSE cause
  let d := (d.setFld Fld.SUP_RST_STATUS_CORE core).bumpSat Fld.SUP_RST_STATUS_WARM_CNT
  let d := d.setSup { d.sup with warm := none, gated := [], coresDown := d.sup.coresDown.filter (fun c => c == 8) }
  if d.armed then d.scStart else d                             -- R457

/-- The warm reset completes its quiesce: the logic reset and recovery in place (R155, R156). -/
def warmLogic (d : Device) (w : WarmReset) : Device :=
  let d := d.sealParts
  let pend := d.pendingNow false
  let d := d.setDrm { d.drm with bad := d.drm.bad.filter (fun b => b.1.area != 5) }      -- the in-place spine is written in both copies (R308)
  let img := d.captureMeta pend
  let d := d.logicReset w.cause w.core
  -- R104: the vintages kept whole keep their charge until they are applied or discarded
  let charge := pend.foldl (fun a p => a + chargeSum p.recs) 0
  let d : Device := { d with pst := { d.pst with vints := [] }, adm := { d.adm with pend := charge } }
  let d := d.setRst { d.rst with phase := 9, source := 3, alone := false, svcOpen := false, image := some img, pend := [], twinH := none, told := [], toldAt := 0,
                                 resolved := false, awaits := [], startAt := d.now, linkUpAt := d.now, roleWas := d.hold.stopRole, sentPend := [],
                                 owed := none, waveOut := [] }
  if d.mir.role = .detached then d else d.setRole .detached

/-- A warm reset of a device that has no image to keep in place, or after bottling: emergence from the journal. -/
def warmFromJournal (d : Device) (w : WarmReset) : Device :=
  let d := d.logicReset w.cause w.core
  let d : Device := { d.clearBytes 0 (2 ^ 60) with
    pst := { d.pst with vints := [] }
    csk := { d.csk with racks := [], nextFrame := 0, freeFrames := [], poison := [], wbJobs := [] }
    adm := { d.adm with metaDirty := [], pend := 0 } }
  d.emerge

/-- A warm reset is triggered in ON or from a wake (R155, R407, R439). -/
def triggerWarm (d : Device) (cause core : Nat) : Device :=
  let w : WarmReset := { cause := cause, core := core, startAt := d.now, quiesced := false, held := false, overran := false }
  let d := d.stopWalk                                          -- R329
  let d := d.dropMargins.setFld Fld.SUP_MARGIN_UNLOCK_UNLOCKED 0
  let d := d.setSup { d.sup with warm := some w }
  let d := if d.cascadeMaster then d.trlSend 255 "CTRL" [ctlReset, cause + 16 * core] else d    -- R498
  (d.noteStop.dropLater.enterFenced 4).dropUnplaced

/-- A reset input or a stage-2 watchdog (R407, R437): it triggers, is latched, or is ignored by state. -/
def resetRequest (d : Device) (cause core : Nat) : Device :=
  if d.hold.bottle.isSome then d.eventR 2 supBlk 407
  else if d.sup.warm.isSome || d.rst.phase == 9 || d.sup.dpExit || (d.sup.state == .powerUp && !d.sup.cold) then
    if d.sup.latched.isNone then d.setSup { d.sup with latched := some (cause, core) } else d
  else if d.sup.state = .on then d.triggerWarm cause core
  else d.eventR 2 supBlk 407

/-- A latched warm reset runs once the device is in ON and nothing is in progress (R407). -/
def runLatched (d : Device) : Device :=
  match d.sup.latched with
  | some (c, k) =>
    if d.sup.state = .on ∧ d.sup.warm.isNone ∧ d.rst.phase ≠ 9 ∧ !d.sup.dpExit then
      (d.setSup { d.sup with latched := none }).triggerWarm c k
    else d
  | none => d

end Device
end Sys2Proof.Machine
end

