-- ==== Sys2Proof/Machine/Send.lean ====
section
/-! DEFINITION. The controller as requester of RoCEv2 (R259, R262) and as sender of PDT (R276–R278, R299). -/

namespace Sys2Proof.Machine

/-- Packets that a message of `len` bytes takes at a PMTU. -/
def packetsOf (len pmtu : Nat) : Nat := max 1 ((len + pmtu - 1) / pmtu)

namespace Device

/-- The ECN codepoint of frames sent (NET_CTRL.ECT; 0b11 is treated as 0b01). -/
def ectOf (d : Device) : Nat := let e := d.fld Fld.NET_CTRL_ECT; if e = 3 then 1 else e

/-! ### RoCEv2 -/

/-- What the headers of a QP's frames carry (R246, R251, R262): the remote QPN, P_Key, the ECN codepoint, DSCP, TTL or hop limit, the UDP source
port, the next-hop MAC address, the remote IP address and the flow label. -/
def qpHead (q : Qp) (ecn dscp : Nat) : List Nat :=
  let sport := leAt q.attr 24 2
  [leAt q.attr 8 3, leAt q.attr 6 2, ecn, dscp, byteAt q.attr 5, if sport = 0 then Config.portHash (leAt q.attr 8 3) % 65536 else sport,
   leAt q.attr 32 6, leAt q.attr 48 16, leAt q.attr 64 4 % 1048576]

/-- The IP version of a QP's frames (R262, byte 3). -/
def qpVer (q : Qp) : Nat := if natBit (byteAt q.attr 3) 7 then 6 else 4

/-- Send a frame of a QP to its remote QPN (R247). `n`: the packets that the entry stands for. -/
def qpFrame (d : Device) (q : Qp) (kind : String) (args : List Nat) (bytes : List Byte := []) (n : Nat := 1) : Device :=
  d.sendFrame (byteAt q.attr 2) (byteAt q.attr 3 % 8) kind (qpHead q d.ectOf (byteAt q.attr 4) ++ args) bytes (qpVer q) n

/-- The bytes that a READ request counts in the byte counter of the limiter: its BTH and RETH (R263; DESIGN CHOICE, log 65). -/
def readReqBytes : Nat := 28

/-- Put a request of a QP on the wire: the packets of the message, in one entry of `out` (log 20); of a READ that has partly been answered,
what is left, from the PSN at which it stands. Its bytes count for the limiter each time (R263). -/
def roceEmit (d : Device) (i : Nat) (q : Qp) (o : RoceOut) : Device :=
  let m := pmtuBytes (byteAt q.attr 1)
  let d := d.updQp i (fun q => { q with rate := { q.rate with bytes := q.rate.bytes + (if o.read then readReqBytes else o.len) } })
  if o.read then d.qpFrame q "RDMA_READ_REQ" [(o.psn + o.got / m) % 16777216, o.handle, o.off + o.got, o.len - o.got]
  else d.qpFrame q "RDMA_WRITE" [o.psn, o.last, o.handle, o.off, o.len] o.data (packetsOf o.len m)

/-- Reads sent and not complete. -/
def readsOut (q : Qp) : Nat := (q.out.filter (fun o => o.read && o.sent)).length

/-- Send, in order, the requests that wait: a read only while fewer than ORD are outstanding (R252, R262). -/
def rocePump (i : Nat) : Nat → Device → Device
  | 0, d => d
  | n + 1, d =>
    match d.net.qps.find? i with
    | none => d
    | some q =>
      match q.out.find? (fun o => !o.sent) with
      | none => d
      | some o =>
        if q.state ≠ 3 ∨ q.rnrAt.isSome ∨ (o.read ∧ byteAt q.attr 22 ≤ readsOut q) then d
        else
          let idle := q.out.all (fun p => !p.sent)
          let d := d.updQp i (fun q => { q with
            out := updateFirst (fun p => !p.sent) (fun p => { p with sent := true }) q.out
            sentAt := if idle then d.now else q.sentAt })
          rocePump i n (d.roceEmit i q o)

/-- The status of a descriptor for a QP that is not in RTS (R259): ST_ABORTED after ST_REMOTE or ST_TIMEOUT, else ST_PROT. -/
def qpRefuses (q : Qp) : Option Nat :=
  if q.state = 3 then none
  else if q.state = 4 ∧ (q.cause = stRemote ∨ q.cause = stTimeout) then some stAborted
  else some stProt

/-- Start a REMOTE_WRITE or REMOTE_READ on a QP (R259). -/
def roceLaunch (d : Device) (fn q seq : Nat) (read : Bool) (dw : List Word) (data : List Byte) : Device :=
  let qpn := dwF dw 8 23 0
  match d.qp? qpn with
  | none => d.complete fn q seq stProt 0 0
  | some c =>
    match qpRefuses c with
    | some st => d.complete fn q seq st 0 0
    | none =>
      let n := packetsOf (dLength dw) (pmtuBytes (byteAt c.attr 1))
      let o : RoceOut := { fn := fn, q := q, seq := seq, read := read, psn := c.sPsn, last := (c.sPsn + n - 1) % 16777216,
                           handle := (dwAt dw 9).toNat, off := dw64 dw 10, len := dLength dw, data := data, sent := false, got := 0, bytes := [] }
      let i := qpn % 1048576
      let d := d.updQp i (fun c => { c with sPsn := (c.sPsn + n) % 16777216, out := c.out ++ [o] })
      rocePump i (c.out.length + 1) d

/-! ### PDT -/

def setTx (d : Device) (f : PdtTx) : Device :=
  d.setPdt { d.pdt with tx := d.pdt.tx.map (fun g => if g.loc = f.loc ∧ g.rem = f.rem then f else g) }

def tx? (d : Device) (loc rem : Nat) : Option PdtTx := d.pdt.tx.find? (fun f => f.loc == loc && f.rem == rem)

/-- The messages of a request: at most 1 MiB each, divided at the 1 MiB boundaries of the remote offset (R45, R270). -/
def pdtPieces : Nat → Nat → Nat → List (Nat × Nat)
  | 0, _, _ => []
  | n + 1, off, len => if len = 0 then [] else let k := pieceLen off len; (off, k) :: pdtPieces n (off + k) (len - k)

/-- The messages of a descriptor, one for each piece. -/
def pdtMsgs (fn q seq : Nat) (read : Bool) (dw : List Word) (data : List Byte) : List (Nat × Nat) → Nat → Nat → List PdtMsg
  | [], _, _ => []
  | (off, len) :: rest, pos, msn =>
    { fn := fn, q := q, seq := seq, msn := msn % 4294967296, read := read, len := len, data := (data.drop pos).take len,
      grant := (dwAt dw 9).toNat, off := off, pos := pos, gcm := bitAt (dwAt dw 12) 31, nonce := dw64 dw 13, kslot := dwF dw 15 11 0,
      next := 0, allSent := false, pkts := [], rep := [], fast := [], att := 0, rto := 16, timerAt := none, repAt := none, busy := 0, got := [] }
    :: pdtMsgs fn q seq read dw data rest (pos + len) (msn + 1)

/-- Start a REMOTE_WRITE or REMOTE_READ on a flow (R299): its messages join the flow and are sent as the windows allow. -/
def pdtLaunch (d : Device) (fn q seq : Nat) (read : Bool) (dw : List Word) (data : List Byte) : Device :=
  match d.tx? (dwF dw 12 23 0) (dwF dw 8 23 0) with
  | none => d.complete fn q seq stRange 0 0
  | some f =>
    let ms := pdtMsgs fn q seq read dw data (pdtPieces 4098 (dw64 dw 10) (dLength dw)) 0 f.msn
    let d := (List.range (ms.length - 1)).foldl (fun (d : Device) _ => d.addPart (.desc fn q seq)) d
    d.setTx { f with msgs := f.msgs ++ ms, msn := (f.msn + ms.length) % 4294967296 }

/-- The Ethernet egress queue through which a REMOTE_WRITE or REMOTE_READ leaves (R235). -/
def remoteEgress (d : Device) (dw : List Word) : Option Nat :=
  let qn (iface prio : Nat) : Nat := 0x110 + 8 * (iface / 8) + prio % 8
  if dwF dw 8 31 30 = 1 then (d.qp? (dwF dw 8 23 0)).map (fun c => qn (byteAt c.attr 2) (byteAt c.attr 3))
  else match d.tx? (dwF dw 12 23 0) (dwF dw 8 23 0), d.ep? (dwF dw 12 23 0) with
    | some f, some e => some (qn (byteAt f.peer 4) (byteAt e.block 0))
    | _, _ => none

/-- Start the sending of a descriptor whose data is at hand. Poisoned data leaves in a frame with an inverted FCS, and the transport's own
retransmission follows (R229). -/
def remoteGo (d : Device) (fn q seq : Nat) (dw : List Word) (data : List Byte) : Device :=
  let d := match if d.descPoisoned fn q seq then d.remoteEgress dw else none with
    | some n => d.armEgress n
    | none => d
  let d := d.releaseDesc fn q seq
  if dwF dw 8 31 30 = 1 then d.roceLaunch fn q seq (dOpcode dw == 0x11) dw data
  else d.pdtLaunch fn q seq (dOpcode dw == 0x11) dw data

/-- Put bytes at a position of a list, which is padded with zeros up to it. -/
def spliceBytes (old : List Byte) (pos : Nat) (bs : List Byte) : List Byte :=
  let old := old ++ List.replicate (pos - old.length) 0
  old.take pos ++ bs ++ old.drop (pos + bs.length)

end Device
end Sys2Proof.Machine
end

