-- ==== Sys2Proof/Machine/Cipher.lean ====
section
/-! DEFINITION. The cipher engine: CIPHER descriptors (R214, R367), key slots while an E alarm is dealt with (R370, R380,
R381), tag failures (R388, R389). -/

namespace Sys2Proof.Machine

def cipDecrypt (dw : List Word) : Bool := dFlag dw 8
def cipUnit (dw : List Word) : Nat := if dFlag dw 9 then 512 else 4096
def cipSlot (dw : List Word) : Nat := dwF dw 8 11 0
def cipMode (dw : List Word) : Nat := dwF dw 8 19 16
def cipToCask (dw : List Word) : Bool := bitAt (dwAt dw 8) 24
def cipAad (dw : List Word) : Nat := (dwAt dw 9).toNat

/-- The rules of R367: LENGTH and the IV by mode. A tag to be verified is part of the input, and AAD lies within it; what a mode above 0x6, or AAD
longer than the input of an encryption, completes with is the model's choice (DESIGN CHOICE, log 66): ST_RANGE too. -/
def cipherForm (dw : List Word) : Bool :=
  let len := dLength dw
  let m := cipMode dw
  decide (1 ≤ len ∧ len ≤ 1048576 ∧ m ≤ modeCmac) &&
    (if m = 0 then len % 16 == 0
     else if m = modeGcm then dwAt dw 15 == 0 && decide (cipAad dw + (if cipDecrypt dw then 16 else 0) ≤ len)
     else if m = modeXts then len % cipUnit dw == 0
     else if m = modeCmac then (List.range 4).all (fun i => dwAt dw (12 + i) == 0) && (!cipDecrypt dw || decide (16 ≤ len))
     else true)

/-- The output of an operation and whether its tag, if it verifies one, is right. -/
def cipherOut (k : KeySlot) (dw : List Word) (input : List Byte) : List Byte × Bool :=
  let m := cipMode dw
  let key := keyBytes k m
  let iv := (List.range 4).map (fun i => dwAt dw (12 + i))
  if m = modeCmac then
    let msg := if cipDecrypt dw then input.take (input.length - 16) else input
    let tag := fitBytes 16 (Config.aesTag m key iv 0 msg)
    if cipDecrypt dw then ([], tag == input.drop (input.length - 16)) else (tag, true)
  else if m = modeGcm then
    let a := cipAad dw
    if cipDecrypt dw then
      let body := input.take (input.length - 16)
      (fitBytes (body.length - a) (Config.aesDecrypt m key iv a body), fitBytes 16 (Config.aesTag m key iv a body) == input.drop (input.length - 16))
    else
      let out := fitBytes (input.length - a) (Config.aesEncrypt m key iv a input)
      (out ++ fitBytes 16 (Config.aesTag m key iv a (input.take a ++ out)), true)
  else (fitBytes input.length ((if cipDecrypt dw then Config.aesDecrypt else Config.aesEncrypt) m key iv (cipUnit dw) input), true)

namespace Device

def cphBlk : Nat := Reg.CPH_CTRL / 65536

def setCph (d : Device) (x : Cph) : Device := { d with cph := x }

/-- A GCM or CMAC tag failed (R388, R389). -/
def authFail (d : Device) : Device := (d.raise Reg.CPH_INT_STATUS 4 2).bumpPair Reg.CPH_AUTH_FAIL_CNT_LO

/-- Bytes of host operations (R389). -/
def cipherBytes (d : Device) (n : Nat) : Device := d.bumpPair Reg.CPH_HOST_BYTES_LO n

/-- Run a CIPHER operation whose input is at hand (R214). Poisoned input gives output that carries the tag: to a host its TLPs leave with EP set,
to a cask it is not placed, and the descriptor completes with ST_POISON (R229). A PENDING slot is waited for; output to a cask is a write. After a
tag failure some of the output to the host may have been written: how much is a free value (log 2). -/
def cipherGo (d : Device) (fn q : Nat) (x : DescState) : Device :=
  let dw := x.dw
  if d.slotPending (cipSlot dw) then d.setCph { d.cph with wait := d.cph.wait ++ [(fn, q, x.seq)] }
  else match d.cph.slots.find? (cipSlot dw) with
    | none => d.complete fn q x.seq stProt 0 0
    | some k =>
      let input := x.data.take (dLength dw)
      let (out, ok) := cipherOut k dw input
      let bad := d.descPoisoned fn q x.seq
      let d := (d.cipherBytes input.length).releaseDesc fn q x.seq
      if !ok then
        let (n, d) := d.draw
        let part := if cipToCask dw then [] else out.take (n % (out.length + 1))
        let d := if part.isEmpty then d else d.emit (.hostWrite fn (dw64 dw 10) part)
        d.authFail.complete fn q x.seq stAuthFail 0 0
      else if out.isEmpty then d.complete fn q x.seq (if bad then stPoison else stOk) 0 0
      else if cipToCask dw && bad then d.complete fn q x.seq stPoison 0 0
      else if cipToCask dw then
        d.submit pieceFuel { src := .engine 0x09 fn q, tok := .desc fn q x.seq, path := .ring fn, acc := .write, cask := dCask dw, off := dw64 dw 10, op := .data out,
                             more := .data [], policy := .syncRequired, heldAt := d.now }
      else
        let p := (if bad then d.armEgress (pcieQ fn) else d).pcieOut fn [(dw64 dw 10, out)]
        p.2.complete fn q x.seq (if p.1 then stPoison else stOk) 0 0

/-- The CIPHER descriptors that wait are tried again (R370, R381). -/
def cipherRetry (d : Device) : Device :=
  let ws := d.cph.wait
  ws.foldl (fun (d : Device) (w : Nat × Nat × Nat) => match d.desc? w.1 w.2.1 w.2.2 with
    | some x => d.cipherGo w.1 w.2.1 x
    | none => d) (d.setCph { d.cph with wait := [] })

/-- The vault key is LOADED again 50 µs after an E alarm (R380): bottling waits for it. -/
def needVaultKey (d : Device) : Device :=
  match d.cph.alarmAt with
  | some t => if d.cph.hw1 then d else (d.waitUntil (t + 50)).setCph { (d.waitUntil (t + 50)).cph with hw1 := true }
  | none => d

end Device
end Sys2Proof.Machine
end

