-- ==== Sys2Proof/Machine/Serve.lean ====
section
/-! DEFINITION. Reads: the snapshot taken at translation (R52, R53), demand fetches (R21, R148), stream reads (R96, R97),
delivery (R58, R193, R320). -/

namespace Sys2Proof.Machine

/-- The pieces of a read: up to each 1 MiB boundary of the cask offset (R45, R53). -/
def readPieces : Nat → Nat → Nat → List (Nat × Nat)
  | 0, _, _ => []
  | n + 1, off, len =>
    if len = 0 then []
    else
      let k := pieceLen off len
      (off, k) :: readPieces n (off + k) (len - k)

/-- A scatter list from a position on. -/
def sglFrom : List (Nat × Nat) → Nat → List (Nat × Nat)
  | [], _ => []
  | (a, n) :: rest, pos => if pos < n then (a + pos, n - pos) :: rest else sglFrom rest (pos - n)

namespace Device

/-- Read data goes into a descriptor's host buffer at a position, and that part of it ends: with ST_POISON when a TLP carried a poisoned word
(R229). -/
def landHost (d : Device) (fn : Nat) (x : DescState) (tok : Token) (pos : Nat) (bytes : List Byte) : Device :=
  let p := d.pcieOut fn (if dSgl x.dw then scatter (sglFrom x.sgl pos) bytes else [(dHaddr x.dw + pos, bytes)])
  p.2.finish tok (if p.1 then stPoison else stOk) 0 0

/-- Issue a demand fetch, or raise the read in flight to one (R97, R148). It counts once, when the rack's read becomes one, whether it is
issued at once, held off by the apply reserve, or attached to a read in flight (R158). -/
def demandFetch (d : Device) (cask idx : Nat) : Device :=
  let r := d.rack cask idx
  let d' := ((d.urgeFetch cask idx).issueFetch cask idx).serveLuns
  if r.cvalid && r.homed && !d.csk.urgent.contains (rackKey cask idx) && d.rst.svcOpen then d'.bumpPair Reg.PST_RST_DEMAND_CNT_LO else d'

/-- The pages, as keys, of a byte range. -/
def pageKeys (off len : Nat) : List (Nat × Nat) :=
  ((racksOf off len).map (fun i => (pagesOf i off len).map (fun p => (i, p)))).flatten

/-- Whether the egress queue that read data goes through to a host has room for it (R237, R239). -/
def readRoom (d : Device) (r : ReadReq) : Bool :=
  match r.use, r.tok with
  | .hostBuf _, .desc fn _ _ => d.pcieRoom fn r.len
  | _, _ => true

/-- Whether a read can be served: every page at hand, none being recovered, and room for its data. -/
def readReady (d : Device) (r : ReadReq) : Bool :=
  d.readRoom r &&
  (d.racksMissing (d.visible r.src r.snap) r.cask r.off r.len).isEmpty &&
    (pageKeys r.off r.len).all (fun p => !d.pageRefetch r.cask p.1 p.2)

/-- The data of a read: as its snapshot gave it; the bytes of pages recovered since are read now. -/
def readData (d : Device) (r : ReadReq) : List Byte :=
  if r.redo.isEmpty then r.data
  else
    (d.readBytes r.src r.snap r.cask r.off r.len).mapIdx (fun i b => if r.redo.contains i then b else r.data.getD i 0)

/-! ### Streams -/

/-- Lookahead reads of a window (R96). -/
def streamFetch (d : Device) (s : Stream) : Device :=
  (List.range s.look).foldl (fun d i =>
    let r := d.rack s.cask (s.pos + i)
    if r.cvalid && !r.res then d.issueFetch s.cask (s.pos + i) else d) d

/-- The streams of SQ `q` that a READ belongs to (R97). -/
def streamsOf (d : Device) (fn q cask off : Nat) : List (Nat × Stream) :=
  d.csk.streams.filter (fun s => s.2.fn == fn && s.2.q == q && s.2.cask == cask && decide (s.2.pos * 65536 ≤ off))

/-- A late stream read is counted (R97). -/
def noteLate (d : Device) (p : Nat × Stream) : Device :=
  let d : Device := { d with csk := { d.csk with streams := d.csk.streams.put p.1 { p.2 with late := min (p.2.late + 1) 4294967295 } } }
  (d.bumpPair Reg.CSK_LATE_CNT_LO).raise Reg.CSK_INT_STATUS 2 2

/-- AUTO: the position moves to the rack of the highest byte that the stream has read (R96). -/
def streamAuto (d : Device) (id last : Nat) : Device :=
  match d.csk.streams.find? id with
  | some s =>
    if s.auto ∧ s.pos < last / 65536 then
      let s := { s with pos := last / 65536 }
      ({ d with csk := { d.csk with streams := d.csk.streams.put id s } }).streamFetch s
    else d
  | none => d

/-! ### Delivery -/

/-- Data taken from a cask for a descriptor that sends or enciphers it: once every part is there, the descriptor goes on. -/
def descData (d : Device) (r : ReadReq) (pos : Nat) (bs : List Byte) (st : Nat) (go : Device → Nat → Nat → DescState → Device) : Device :=
  match r.tok with
  | .desc fn q seq =>
    let d := d.updDesc fn q seq (fun x => { x with data := spliceBytes x.data pos bs, parts := x.parts - 1,
                                                   status := if x.status = 0 ∧ st ≠ stOk then st else x.status })
    match d.desc? fn q seq with
    | some x => if x.parts ≠ 1 then d else if x.status ≠ 0 then d.complete fn q seq x.status 0 0 else go d fn q x
    | none => d
  | _ => d

/-- Answer a read that another device of the cascade asked for (R489, R495): data frames of at most 4,096 B. -/
def answerRead (d : Device) (dev tag : Nat) (bs : List Byte) (st : Nat) : Device :=
  if st ≠ stOk then d.trlSend dev "READ_DATA" (readDataArgs 0 st tag)
  else (List.range ((bs.length + 4095) / 4096)).foldl (fun (d : Device) i =>
    d.trlSend dev "READ_DATA" (readDataArgs (4096 * i) stOk tag) [] ((bs.drop (4096 * i)).take 4096)) d

/-- The whole source of a COPY is at hand: it is written at its destination as one write request (R45, R58). -/
def copyGo (d : Device) (fn q : Nat) (x : DescState) : Device :=
  d.submit pieceFuel { src := .engine 0x08 fn q, tok := .desc fn q x.seq, path := .ring fn, acc := .write, cask := dwF x.dw 8 23 0, off := dw64 x.dw 10,
                       op := .data x.data, more := .data [], policy := .syncRequired, heldAt := d.now }

/-- Read data for a transport, the cipher engine, a COPY or another device. -/
def deliverOther (d : Device) (r : ReadReq) (bs : List Byte) (st : Nat) : Device :=
  match r.use with
  | .roceResp qpn psn => d.roceData qpn psn r bs st
  | .pdtResp loc src _ msn att => d.pdtData loc src msn att r bs st
  | .trlResp dev req => d.answerRead dev req bs st
  | .remoteSrc pos => d.descData r pos bs st (fun d fn q x => d.remoteGo fn q x.seq x.dw x.data)
  | .cipherIn pos => d.descData r pos bs st (fun d fn q x => d.cipherGo fn q x)
  | .copyIn pos => d.descData r pos bs st (fun d fn q x => d.copyGo fn q x)
  | _ => d

/-- Hand the bytes of a read to what they are for; `bad`: a page was poisoned. -/
def deliverBytes (d : Device) (r : ReadReq) (bytes : List Byte) (bad : Bool) : Device :=
  match r.use, r.tok with
  | .hostBuf pos, .desc fn q seq =>
    if bad then d.finish r.tok stPoison 0 0
    else match d.desc? fn q seq with
      | some x => r.streams.foldl (fun (d : Device) id => d.streamAuto id (r.off + r.len - 1)) (d.landHost fn x r.tok pos bytes)
      | none => d
  | _, _ => d.deliverOther r bytes (if bad then stPoison else stOk)

/-- Serve a read: ST_POISON when a page it needs is poisoned (R193, R320). -/
def deliver (d : Device) (r : ReadReq) : Device :=
  let d := d.touchRacks r.cask r.off r.len
  let rs := d.visible r.src r.snap
  let bad := (pageKeys r.off r.len).any (fun p =>
    d.pagePoisoned r.cask p.1 p.2 && !pageStaged rs r.cask p.1 p.2 r.off r.len)
  d.deliverBytes r (if bad then [] else d.readData r) bad

/-- A read is served now, or its missing racks are fetched and it waits (R21). -/
def tryRead (d : Device) (r : ReadReq) : Device :=
  if d.readReady r then d.deliver r
  else
    let miss := d.racksMissing (d.visible r.src r.snap) r.cask r.off r.len
    let d : Device := { d with pst := { d.pst with reads := d.pst.reads ++ [r] } }
    miss.foldl (fun d i => d.demandFetch r.cask i) d

/-- The use of a part of a read that begins `n` bytes into it. -/
def shiftUse (n : Nat) : ReadUse → ReadUse
  | .hostBuf p => .hostBuf (p + n)
  | .copyIn p => .copyIn (p + n)
  | .cipherIn p => .cipherIn (p + n)
  | .remoteSrc p => .remoteSrc (p + n)
  | u => u

/-- The parts of a translated read, each with its owner (R493): outside a shared cascade the whole of it, here. -/
def readParts (d : Device) (r : ReadReq) : List (Nat × ReadReq) :=
  if !d.cascadeShared then [(d.trl.id, r)]
  else (d.ownerRuns r.cask r.off r.len).map (fun p =>
    let k := p.2.1 - r.off
    (p.1, { r with off := p.2.1, len := p.2.2, use := shiftUse k r.use, data := (r.data.drop k).take p.2.2,
                   redo := (r.redo.filter (fun i => decide (k ≤ i ∧ i < k + p.2.2))).map (· - k) }))

/-- Start a part of a read: this device serves its own racks, and asks the owners of the others with READ frames that carry the snapshot
(R493, R495). -/
def routeRead (d : Device) (p : Nat × ReadReq) : Device :=
  if p.1 = d.trl.id then d.tryRead p.2
  else
    let t := d.trl.tag
    (d.setTrl { d.trl with tag := t + 1, reads := d.trl.reads.put t { p.2 with data := [] } }).trlSend p.1 "READ"
      [p.2.snap, t] [] (readAsk p.2.cask p.2.off p.2.len (sourceNum p.2.src))

/-- The reads that wait are tried again; each keeps its place when it must wait on. -/
def retryReads (d : Device) : Device :=
  let rs := d.pst.reads
  rs.foldl (fun d r => d.tryRead r) { d with pst := { d.pst with reads := [] } }

/-- Translate one piece of a read and take its snapshot (R52). -/
def newRead (d : Device) (src : Source) (tok : Token) (path : Path) (cask off len : Nat) (use : ReadUse) (streams : List Nat := []) : ReadReq :=
  let snap := d.pst.commitNum
  { src := src, tok := tok, path := path, cask := cask, off := off, len := len, snap := snap, use := use, streams := streams,
    data := d.readBytes src snap cask off len,
    redo := (List.range len).filter (fun i => d.pageRefetch cask ((off + i) / 65536) ((off + i) % 65536 / 4096)) }

/-- Translate the pieces of a request in order; a piece that fails its checks ends it (R45, R53). -/
def readReqs (d : Device) (src : Source) (tok : Token) (path : Path) (cask : Nat) (use : Nat → ReadUse) (base : Nat) (streams : List Nat := []) :
    List (Nat × Nat) → List ReadReq × Nat
  | [] => ([], stOk)
  | (off, len) :: rest =>
    match d.checks path .read cask off len with
    | some st => ([], st)
    | none =>
      let r := readReqs d src tok path cask use base streams rest
      (d.newRead src tok path (d.pathCask path cask) off len (use (off - base)) streams :: r.1, r.2)

/-- The pieces of a read request; one of length 0 is refused at step 1 of R87. -/
def piecesOf (off len : Nat) : List (Nat × Nat) := if len = 0 then [(off, 0)] else readPieces pieceFuel off len

/-- A read request (R52, R53, R58): every piece is translated, then every part of it counted, then served; the status of the first piece
that failed its checks. A descriptor's own part ends last. -/
def startRead (d : Device) (src : Source) (tok : Token) (path : Path) (cask off len : Nat) (use : Nat → ReadUse) (streams : List Nat := []) :
    Device × Nat :=
  let rs := d.readReqs src tok path cask use off streams (piecesOf off len)
  let d := if rs.2 = stOk then d else d.noteReject path rs.2
  let parts := (rs.1.map (fun r => d.readParts r)).flatten
  let d := parts.foldl (fun (d : Device) p => d.addPart p.2.tok) d
  (parts.foldl (fun (d : Device) p => d.routeRead p) d, rs.2)

/-! ### The ring gate -/

/-- What a descriptor of an I/O queue meets first: ST_NOT_READY before service opens (R146), ST_FENCED on a unit that does
not place writes (R160). -/
def ioGate (d : Device) (fn q : Nat) (x : DescState) (role : Bool) (k : Device → Device) : Device :=
  if !d.rst.svcOpen then d.complete fn q x.seq stNotReady 0 0
  else if role && !d.placesWrites then d.complete fn q x.seq stFenced 0 0
  else k d

/-- Whether the next descriptor of an SQ names a cask whose shrink or deletion is placed: it starts once that command has completed
(R75). -/
def descGated (d : Device) (fn q op : Nat) : Bool :=
  match d.ready? fn q op with
  | none => false
  | some x =>
    let names := decide ((1 ≤ op ∧ op ≤ 6) ∨ op = 8 ∨ op = 0x18) || (decide (op = 9 ∨ op = 0x10 ∨ op = 0x11) && dCaskIo x.dw)
    names && (d.gated (.ring fn) (dCask x.dw) || (op == 8 && d.gated (.ring fn) (dwF x.dw 8 23 0)))

/-- Start an I/O descriptor. -/
def ioDesc (d : Device) (fn q op : Nat) (role : Bool) (body : Device → DescState → Device) : Device :=
  if d.descGated fn q op then d
  else d.withDesc fn q op (fun d x => d.ioGate fn q x role (fun d => body d x))

/-- Start a function command on queue 0 (R146, R215). -/
def fnCmd (d : Device) (fn op : Nat) (body : Device → DescState → Device) : Device :=
  d.withDesc fn 0 op (fun d x =>
    if !d.rst.svcOpen && !d.isAdmin fn then d.complete fn 0 x.seq stNotReady 0 0 else body d x)

/-- Start a device command on queue 0 of an admin-capable PF (R215). -/
def devCmd (d : Device) (fn op : Nat) (body : Device → DescState → Device) : Device :=
  d.withDesc fn 0 op (fun d x => if d.isAdmin fn then body d x else d.complete fn 0 x.seq stProt 0 0)

/-- Start a device command whose work is the duty of a management core: it waits while that core is stopped (R20, R23). -/
def coreCmd (d : Device) (core fn op : Nat) (body : Device → DescState → Device) : Device :=
  if d.coreUp core then d.devCmd fn op body else d

end Device
end Sys2Proof.Machine
end

