-- ==== Sys2Proof/Machine/Roce.lean ====
section
/-! DEFINITION. The RoCEv2 responder (R253–R258): how requests come in, run in PSN order and are answered. -/

namespace Sys2Proof.Machine

/-- Replies of R256 that are not statuses of R212: the PSN sequence error, the missing RECV, and Invalid Request. -/
def rocePsnErr : Nat := 0x100
def roceNoRecv : Nat := 0x101
def roceInvalid : Nat := 0x102
/-- A SEND longer than its RECV buffer: Invalid Request too, and its RECV completes with ST_RANGE (R258). -/
def roceTooLong : Nat := 0x103

/-- The syndrome of R256, and whether the QP enters ERROR. -/
def roceSyndrome (st fenceCode rnrCode : Nat) : Nat × Bool :=
  if st = stStaleGen ∨ st = stProt ∨ st = stRange then (0x62, true)
  else if st = roceInvalid ∨ st = roceTooLong then (0x61, true)
  else if st = stNoTwin ∨ st = stPoison then (0x63, true)
  else if st = rocePsnErr then (0x60, false)
  else if st = roceNoRecv then (0x20 + rnrCode, false)
  else (0x20 + fenceCode, false)

def RoceReq.blank : RoceReq :=
  { psn := 0, last := 0, ans := .ack, handle := 0, off := 0, len := 0, op := .data [], send := false, ended := true, ready := [], buf := [],
    pos := 0, started := false, left := 0, status := 0, chunks := [], result := 0, recv := none, imm := none }

/-- Whether everything a request does has been done, so that it may be answered (R254). -/
def RoceReq.done (r : RoceReq) : Bool :=
  r.status != 0 || (r.ended && r.started && match r.ans with
    | .read => decide (r.len ≤ gotBytes r.chunks)
    | _ => r.left == 0)

/-- RESULT1 of a RECV: the immediate, and bit 32 when there is one (R210). -/
def immWord : Option Nat → Nat
  | some v => v % 4294967296 + 4294967296
  | none => 0

/-- Put a request into the list in PSN order (R254, R257). -/
def insertReq (x : RoceReq) : List RoceReq → List RoceReq
  | [] => [x]
  | r :: rs => if seqBefore 24 x.psn r.psn then x :: r :: rs else r :: insertReq x rs

namespace Device

/-- Mark a request failed; what follows it is dropped, and packets are discarded until its PSN comes again (R256). RECVs
that the dropped requests took go back. -/
def roceFail (d : Device) (i psn st : Nat) : Device :=
  match d.net.qps.find? i with
  | none => d
  | some q =>
    let later := q.reqs.filter (fun r => seqBefore 24 psn r.psn)
    let back := later.filterMap (·.recv)
    let qpn := qpnOf i q
    let gone (t : Token) : Bool := match t with
      | .roce n p => n == qpn && later.any (fun r => r.psn == p)
      | _ => false
    (d.updQp i (fun q => { q with
      reqs := (q.reqs.filter (fun r => !seqBefore 24 psn r.psn)).map (fun r => if r.psn = psn ∧ r.status = 0 then { r with status := st } else r)
      recvs := back ++ q.recvs, naked := true, ePsn := psn })).dropUnplacedOf gone

/-- The outcome of a placed or refused piece of a QP's request. -/
def roceOutcome (d : Device) (qpn psn st r0 : Nat) : Device :=
  match d.qp? qpn with
  | none => d
  | some q =>
    let i := qpn % 1048576
    match q.reqs.find? (fun r => r.psn == psn) with
    | none => d
    | some x =>
      if st ≠ stOk then
        let d := d.updQp i (fun q => { q with reqs := updateFirst (fun r => r.psn == psn) (fun r => { r with left := r.left - 1 }) q.reqs })
        d.roceFail i psn st
      else
        let last := x.left == 1 && x.started && x.ended && x.status == 0
        let take (r : RoceReq) : RoceReq := { r with left := r.left - 1, result := r0, recv := if last then none else r.recv }
        let d := d.updQp i (fun q => { q with reqs := updateFirst (fun r => r.psn == psn) take q.reqs })
        match x.recv with
        | some t => if last then d.complete t.1 t.2.1 t.2.2 stOk x.len (immWord x.imm) else d
        | none => d

/-- The head of the list is answered once it is done (R254, R256): an ACK falls due, a read or atomic response or a NAK is
sent. -/
def roceAnswer (i : Nat) : Nat → Device → Device
  | 0, d => d
  | n + 1, d =>
    match d.net.qps.find? i with
    | none => d
    | some q =>
      match q.reqs with
      | [] => d
      | r :: rest =>
        if !r.done then d
        else
          let pop (d : Device) : Device := d.updQp i (fun q => { q with reqs := rest })
          if r.status ≠ 0 then
            let (syn, fatal) := roceSyndrome r.status (d.fld Fld.NET_CTRL_RNR_FENCE) (byteAt q.attr 21 % 32)
            let d := (pop d).qpFrame q "NAK" [r.psn, syn]
            let d : Device := match r.recv with
              | some t => if fatal then d.complete t.1 t.2.1 t.2.2 (if r.status = roceTooLong then stRange else stAborted) 0 0
                          else d.updQp i (fun q => { q with recvs := t :: q.recvs })
              | none => d
            if fatal then d.errQp i (if 0x100 ≤ r.status then stInvalid else r.status) true else d
          else
            let d : Device := match r.recv with
              | some t => (pop d).complete t.1 t.2.1 t.2.2 stOk r.len (immWord r.imm)
              | none => pop d
            let d : Device := match r.ans with
              | .ack => d.updQp i (fun q => { q with ackDue := true, ackPsn := r.last })
              | .read =>
                -- the answer of a READ executed again says nothing of later requests (R257)
                let d := d.updQp i (fun q => { q with
                  ackDue := q.ackDue && r.dup, ackPsn := if r.dup then q.ackPsn else r.last, rate := { q.rate with bytes := q.rate.bytes + r.len } })
                d.qpFrame q "RDMA_READ_RESP" [r.psn, r.last] ((r.chunks.map (fun (p : Nat × List Byte) => p.2)).flatten)
                  (packetsOf r.len (pmtuBytes (byteAt q.attr 1)))
              | .atomic =>
                let d := d.updQp i (fun q => { q with ackDue := false, ackPsn := r.last, saved := ((r.psn, r.result) :: q.saved).take 16 })
                d.qpFrame q "ATOMIC_RESP" [r.psn] (leBytes 8 r.result)
            roceAnswer i n d

/-- Whether the response of a QP would have to wait for egress cells: its reads wait with it (R238). -/
def qpStalled (d : Device) (qpn : Nat) : Bool :=
  match d.qp? qpn with
  | some q => d.egressFull (byteAt q.attr 2) (byteAt q.attr 3 % 8)
  | none => false

/-- The first request, in PSN order, that may start or go on: everything before it is placed (R254). -/
def roceNext (d : Device) (qpn : Nat) : List RoceReq → Option RoceReq
  | [] => none
  | r :: rs =>
    if r.status ≠ 0 ∨ d.unplaced (.roce qpn r.psn) ∨ (r.ans = .read ∧ (d.gated (.roce r.handle qpn) 0 ∨ d.qpStalled qpn)) then none
    else if !r.started && (!r.ready.isEmpty || r.ended) then some r
    else if !r.ended then none
    else roceNext d qpn rs

def updReq (d : Device) (i psn : Nat) (f : RoceReq → RoceReq) : Device :=
  d.updQp i (fun q => { q with reqs := updateFirst (fun r => r.psn == psn && !r.started) f q.reqs })

/-- The remote-access bit of byte 11 that a request needs (R262), checked at step 4 of R87. -/
def roceAllows (q : Qp) (acc : Access) : Bool :=
  natBit (byteAt q.attr 11) (match acc with
    | .write => 0
    | .read => 1
    | .atomic => 2)

/-- Steps 1 to 9 for a request of a QP, with the bits of byte 11 at step 4 (R262): where they do not permit it, only a failure of steps 1
and 2 comes first. -/
def roceChecks (d : Device) (q : Qp) (qpn : Nat) (acc : Access) (handle off len : Nat) : Option Nat :=
  if roceAllows q acc then d.checks (.roce handle qpn) acc 0 off len
  else if badRange off len then some stRange
  else if !d.liveHandle handle then some stStaleGen
  else some stProt

/-- Run one request, or the next piece of a write. -/
def roceStart (d : Device) (i : Nat) (q : Qp) (r : RoceReq) : Device :=
  let qpn := qpnOf i q
  let tok := Token.roce qpn r.psn
  let fail (d : Device) (st : Nat) : Device := d.roceFail i r.psn st
  match r.ans with
  | .ack =>
    match r.ready with
    | [] => d.updReq i r.psn (fun r => { r with started := true })
    | (off, bs) :: rest =>
      let fin := r.ended && rest.isEmpty
      let host := d.updReq i r.psn (fun r => { r with ready := rest, started := fin, recv := none })
      let d := d.updReq i r.psn (fun r => { r with ready := rest, left := r.left + 1, started := fin })
      if r.send then
        match r.recv with
        | some t =>
          match d.desc? t.1 t.2.1 t.2.2 with
          | some x =>
            if !dCaskIo x.dw then host.answerHost t.1 t.2.1 x bs r.len (immWord r.imm)
            else d.submit pieceFuel { src := .qp qpn, tok := tok, path := .ring t.1, acc := .write, cask := dCask x.dw,
                                           off := dOffset x.dw, op := .data bs, more := .data [], policy := .syncRequired, heldAt := d.now }
          | none => fail d roceInvalid
        | none => fail d roceNoRecv
      else
        match d.roceChecks q qpn .write r.handle off bs.length with
        | some st => fail (d.noteReject (.roce r.handle qpn) st) st
        | none => d.submit pieceFuel { src := .qp qpn, tok := tok, path := .roce r.handle qpn, acc := .write, cask := 0, off := off,
                                       op := .data bs, more := .data [], policy := .syncRequired, heldAt := d.now }
  | .read =>
    if r.len = 0 then d.updReq i r.psn (fun r => { r with started := true })
    else
      match d.roceChecks q qpn .read r.handle r.off (min r.len 1048576) with
      | some st => fail (d.noteReject (.roce r.handle qpn) st) st
      | none =>
        let d := d.updReq i r.psn (fun r => { r with started := true })
        let (d, st) := d.startRead (.qp qpn) tok (.roce r.handle qpn) 0 r.off r.len (fun _ => .roceResp qpn r.psn)
        if st = stOk then d else fail d st
  | .atomic =>
    if r.off % 8 ≠ 0 then fail d roceInvalid
    else
      match d.roceChecks q qpn .atomic r.handle r.off 8 with
      | some st => fail (d.noteReject (.roce r.handle qpn) st) st
      | none =>
        let d := d.updReq i r.psn (fun r => { r with started := true, left := 1 })
        d.submit pieceFuel { src := .qp qpn, tok := tok, path := .roce r.handle qpn, acc := .atomic, cask := 0, off := r.off,
                             op := r.op, more := .data [], policy := .syncRequired, heldAt := d.now }

/-- Run what a QP may run, and answer what it may answer. -/
def roceRun (i : Nat) : Nat → Device → Device
  | 0, d => d
  | n + 1, d =>
    let d := roceAnswer i 4096 d
    match d.net.qps.find? i with
    | none => d
    | some q =>
      match d.roceNext (qpnOf i q) q.reqs with
      | some r => roceRun i n (d.roceStart i q r)
      | none => d

/-! ### Packets -/

/-- A CNP for a congested packet, at most once every INT_US per QP (R251). -/
def noteCongested (d : Device) (i port : Nat) : Device :=
  let d := d.bumpPair Reg.NET_P_CE_LO 1 port
  match d.net.qps.find? i with
  | some q =>
    let due := match q.cnpAt with
      | some t => decide (t + d.fld Fld.NET_CNP_INT_US ≤ d.now)
      | none => true
    if due then
      let d := d.updQp i (fun q => { q with cnpAt := some d.now })
      (d.sendFrame (byteAt q.attr 2) (d.fld Fld.NET_CNP_PRIO) "CNP" (qpHead q 0 (d.fld Fld.NET_CNP_DSCP) ++ [0x81, 0]) (List.replicate 16 0) (qpVer q)).bumpPair Reg.NET_P_CNP_TX_LO 1 (byteAt q.attr 2 / 8)
    else d
  | none => d

/-- The context of a packet is read through the cache; a miss reads it from reserved DRAM in class C1 (R260). The output names the channel, the
class and the context. The read ends at once: the packets that wait for it are timing (log 54). -/
def touchQpc (d : Device) (i : Nat) : Device :=
  let hit := d.net.cache.contains i
  let d := d.bumpPair (if hit then Reg.NET_QPC_HIT_LO else Reg.NET_QPC_MISS_LO)
  let c := d.frameCh (Config.areaCh 0 (i / 16))
  let d := if hit then d else (d.wakeCh c).emit (.dram c "QPC_READ" [1, i])
  d.setNet { d.net with cache := (i :: d.net.cache.filter (· != i)).take 49152 }

/-- What every RoCEv2 packet meets (R246, R251–R253): its ingress queue, ICRC, QPN and P_Key. The packet's cells may be
poisoned (R229). -/
def rocePkt (d : Device) (p : RoceIn) (body : Device → Nat → Qp → Bool → Device) : Device :=
  if !d.hubOn || d.portStopped then d
  else
    match d.popIngress p.iface p.prio with
    | (d, none) => d
    | (d, some (mark, poison)) =>
    let port := p.iface / 8
    match (if p.icrc then d.qp? p.qpn else none) with
    | none => d.netDrop port
    | some q =>
      if leAt q.attr 6 2 ≠ p.pkey then d.netDrop port
      else
        let i := p.qpn % 1048576
        let d := d.touchQpc i
        let d := if p.ce || (mark && d.flag Fld.NET_P_ECN_LOCAL_CE port) then d.noteCongested i port else d
        match d.net.qps.find? i with
        | some q => body d i q poison
        | none => d

/-- A reply that takes its turn behind the requests before it (R254, R256), and before the message that is still arriving. -/
def roceNakAt (d : Device) (i psn st : Nat) : Device :=
  (d.updQp i (fun q => { q with
    naked := true
    reqs := q.reqs.filter (·.ended) ++ [{ RoceReq.blank with psn := psn, last := psn, status := st }] ++ q.reqs.filter (fun r => !r.ended) }))

/-- A request packet of a QP that receives (R254, R256, R257): `dup` handles the duplicate region, `go` the expected PSN. -/
def roceReq (d : Device) (p : RoceIn) (dup : Device → Nat → Qp → Device) (go : Device → Nat → Qp → Device) : Device :=
  d.rocePkt p (fun d i q poison =>
    if q.state ≠ 2 ∧ q.state ≠ 3 then d
    else if q.naked && p.psn != q.ePsn then d
    else if !d.rst.svcOpen || !d.placesWrites then (d.updQp i (fun q => { q with naked := true })).qpFrame q "NAK" [q.ePsn, 0x20 + d.fld Fld.NET_CTRL_RNR_FENCE]
    else if p.psn = q.ePsn then
      if q.naked && q.reqs.any (fun r => r.status != 0) then d
      else
        let d := d.updQp i (fun q => { q with naked := false })
        if poison then roceRun i 4096 (d.roceNakAt i p.psn rocePsnErr)
        else match d.net.qps.find? i with
          | some q => roceRun i 4096 (go d i q)
          | none => d
    else if seqBefore 24 p.psn q.ePsn then roceRun i 4096 (dup d i q)
    else roceRun i 4096 (d.roceNakAt i q.ePsn rocePsnErr))

/-- The ACK of a duplicate WRITE or SEND is sent again under R254 (R257). -/
def roceReAck (d : Device) (i : Nat) : Device := d.updQp i (fun q => { q with ackDue := true })

/-- The message being received on a QP. -/
def roceCur (q : Qp) : Option RoceReq := q.reqs.find? (fun r => !r.ended)

/-- Cut the bytes that have arrived into the pieces that are whole: all of them at the end; before it, for a message longer
than 1 MiB, up to each 1 MiB boundary of the cask offset (R45). -/
def cutPieces (big ended : Bool) (off : Nat) : Nat → Nat → List Byte → List (Nat × List Byte) × Nat × List Byte
  | 0, pos, buf => ([], pos, buf)
  | n + 1, pos, buf =>
    let k := if big then 1048576 - (off + pos) % 1048576 else buf.length
    if buf.isEmpty then ([], pos, buf)
    else if big && decide (k ≤ buf.length) then
      let r := cutPieces big ended off n (pos + k) (buf.drop k)
      ((off + pos, buf.take k) :: r.1, r.2)
    else if ended then ([(off + pos, buf)], pos + buf.length, [])
    else ([], pos, buf)

/-- A packet of a SEND or an RDMA WRITE at the expected PSN. `place`: 0 First, 1 Middle, 2 Last, 3 Only. `hasImm`: the message is an RDMA WRITE
with Immediate, which its Last or Only packet carries; where its First packet says so, the RECV is taken there (R258), and else at the packet
that does (log 20). -/
def roceData1 (d : Device) (i : Nat) (q : Qp) (psn place handle off dmaLen : Nat) (send hasImm : Bool) (imm : Nat) (bytes : List Byte) : Device :=
  let first := place == 0 || place == 3
  let final := place == 2 || place == 3
  let pm := pmtuBytes (byteAt q.attr 1)
  let bad := decide (2147483648 < dmaLen) || (first && (roceCur q).isSome) || (!first && (match roceCur q with
      | some r => r.send != send
      | none => true)) || (!final && bytes.length != pm) || decide (pm < bytes.length)
  if bad then d.roceNakAt i psn roceInvalid
  else
    let d := d.updQp i (fun q => { q with ePsn := (psn + 1) % 16777216 })
    let wants := (send && first) || (hasImm && (match (roceCur q).bind (·.recv) with
      | some _ => false
      | none => true))
    match wants && q.recvs.isEmpty with
    | true =>
      -- nothing of the message has been executed; it starts again at its first packet
      let p0 := match roceCur q with
        | some r => r.psn
        | none => psn
      let d := d.updQp i (fun q => { q with reqs := q.reqs.filter (fun r => r.ended), ePsn := p0 })
      d.roceNakAt i p0 roceNoRecv
    | false =>
      let recv := if wants then q.recvs.head? else none
      let d := if wants then d.updQp i (fun q => { q with recvs := q.recvs.drop 1 }) else d
      let fresh : RoceReq := { RoceReq.blank with psn := psn, handle := handle, off := off, len := (if send then 0 else dmaLen), send := send, ended := false }
      let d := if first then d.updQp i (fun q => { q with reqs := q.reqs ++ [fresh] }) else d
      let add (r : RoceReq) : RoceReq :=
        let buf := r.buf ++ bytes
        let big := !send && decide (1048576 < r.len)
        let c := if send then ([], r.pos, buf) else cutPieces big final r.off 2050 r.pos buf
        { r with buf := c.2.2, pos := c.2.1, ready := r.ready ++ c.1, ended := final, last := psn, recv := if final && !send && !hasImm then none else recv.or r.recv,
                 imm := if final && hasImm then some imm else none, len := if send then buf.length else r.len }
      -- a RECV taken for an immediate that did not come is the QP's oldest again
      let back := if final && !send && !hasImm then ((roceCur q).bind (·.recv)).toList else []
      let d := d.updQp i (fun q => { q with recvs := back ++ q.recvs, reqs := updateFirst (fun r => !r.ended) add q.reqs })
      match (d.net.qps.find? i).bind (fun q => q.reqs.getLast?) with
      | none => d
      | some r =>
        if !send then
          -- a message that ends short of or beyond its DMA length is an invalid request, as IBTA gives
          if final && r.pos + r.buf.length != r.len then d.roceFail i r.psn roceInvalid else d
        else
          match r.recv with
          | none => d
          | some t =>
            match d.desc? t.1 t.2.1 t.2.2 with
            | none => d
            | some x =>
              if dLength x.dw < r.len then
                (d.updQp i (fun q => { q with reqs := updateFirst (fun y => y.psn == r.psn) (fun y => { y with ended := true }) q.reqs })).roceFail
                  i r.psn roceTooLong
              else if !final || r.len = 0 then d
              else d.updQp i (fun q => { q with reqs := updateFirst (fun y => y.psn == r.psn) (fun y => { y with ready := [(0, y.buf)], buf := [] }) q.reqs })

/-- Add a read or an atomic to the requests of a QP; more than IRD of them outstanding is an invalid request, as IBTA
gives. -/
def roceAdd (d : Device) (i : Nat) (q : Qp) (r : RoceReq) : Device :=
  if byteAt q.attr 23 ≤ (q.reqs.filter (fun x => x.ans != .ack)).length then d.roceNakAt i r.psn roceInvalid
  else if (roceCur q).isSome then d.roceNakAt i r.psn roceInvalid
  else d.updQp i (fun q => { q with ePsn := (r.last + 1) % 16777216, reqs := q.reqs ++ [r] })

end Device
end Sys2Proof.Machine
end

