-- ==== Sys2Proof/Machine/Pdt.lean ====
section
/-! DEFINITION. The PDT receiver (R285–R298) and sender (R276–R284): records, entries, execution, ACKs; the transports'
step, which takes the outcomes of what they placed. -/

namespace Sys2Proof.Machine

/-- MSN and PSN arithmetic is modulo 2^32 (R269). -/
def msnBefore (a b : Nat) : Bool := seqBefore 32 a b

/-- The message opcodes of R274. -/
def pdtWrites (op : Nat) : Bool := op == 1 || op == 2
def pdtAtomic (op : Nat) : Bool := op == 5 || op == 6 || op == 7

/-- The payload of a complete message. -/
def PdtEntry.data (e : PdtEntry) : List Byte :=
  (e.parts.foldl (fun (acc : List Byte) p => Device.spliceBytes acc p.1 p.2) []).take e.len

/-! ### Packets -/

/-- The base header of a packet (R272), without PAY_LEN. -/
structure PdtHead where
  op     : Nat
  flags  : Nat
  dst    : Nat
  src    : Nat
  psn    : Nat
  lowPsn : Nat := 0
  msn    : Nat
  lowMsn : Nat := 0
  len    : Nat := 0
  off    : Nat := 0

/-- The 40 bytes of a base header (R272). -/
def PdtHead.bytes (h : PdtHead) (pay : Nat) : List Byte :=
  beBytes 1 0x10 ++ beBytes 1 h.op ++ beBytes 2 h.flags ++ beBytes 4 h.dst ++ beBytes 4 h.src ++ beBytes 4 h.psn ++ beBytes 4 h.lowPsn ++
    beBytes 4 h.msn ++ beBytes 4 h.lowMsn ++ beBytes 4 h.len ++ beBytes 4 h.off ++ beBytes 2 pay ++ beBytes 2 0

/-- The request extension (R275). -/
def pdtExt (grant off imm : Nat) : List Byte := beBytes 4 grant ++ beBytes 8 off ++ beBytes 4 imm

/-- The GCM extension (R275). -/
def pdtGcmExt (nonce : Nat) : List Byte := leBytes 8 nonce ++ List.replicate 8 0

/-- The AAD of a protected packet (R297): the base header with RETX, ACK_NOW, ATTEMPT, LOW_PSN and LOW_MSN zero, and the extensions. -/
def PdtHead.aad (h : PdtHead) (pay : Nat) (ext : List Byte) (nonce : Nat) : List Byte :=
  { h with flags := Nat.land h.flags 0xBBF0, lowPsn := 0, lowMsn := 0 }.bytes pay ++ ext ++ pdtGcmExt nonce

/-- The IV of a protected packet (R297), in words as DW12–DW15 of a CIPHER descriptor hold one: NONCE_BASE, then the word that tells responses,
attempts and offsets apart. -/
def PdtHead.iv (h : PdtHead) (nonce : Nat) : List Word :=
  let resp := decide (0x10 < h.op)
  let w := (if resp then 2 ^ 31 + h.flags % 16 * 2 ^ 27 else 0) + h.off % 2 ^ 20
  [BitVec.ofNat 32 nonce, BitVec.ofNat 32 (nonce / 2 ^ 32), BitVec.ofNat 32 (leNat (beBytes 4 w)), 0]

/-- What a reply needs of the packet that it answers. -/
def viaOf (p : PdtIn) : PdtVia := { iface := p.iface, prio := p.prio, dscp := p.dscp, mac := p.mac, sip := p.sip, dip := p.dip, att := p.flags % 16, v6 := p.v6 }

/-- Whether an opcode is that of a data packet, which counts for congestion: not an ACK, NAK, BUSY or QUERY (R283, R284). -/
def pdtData? (op : Nat) : Bool := decide (op < 9) || op == 0x11 || op == 0x12

/-- The base header and the request extension of a packet received; responses have no extension (R271). -/
def inHead (op : Nat) (p : PdtIn) : PdtHead :=
  { op := op, flags := p.flags, dst := p.dst, src := p.src, psn := p.psn, msn := p.msn, len := p.msgLen, off := p.msgOff }
def inExt (op : Nat) (p : PdtIn) : List Byte := if 0x10 < op then [] else pdtExt p.grant p.off p.imm

namespace Device

/-- A payload under a key slot, with its tag (R297). -/
def pdtSeal (d : Device) (slot nonce : Nat) (h : PdtHead) (ext pay : List Byte) : List Byte × List Byte :=
  match d.cph.slots.find? slot with
  | none => (pay, [])
  | some k =>
    let aad := h.aad pay.length ext nonce
    let out := fitBytes pay.length (Config.aesEncrypt modeGcm (keyBytes k modeGcm) (h.iv nonce) aad.length (aad ++ pay))
    (out, fitBytes 16 (Config.aesTag modeGcm (keyBytes k modeGcm) (h.iv nonce) aad.length (aad ++ out)))

/-- The payload of a protected packet, and whether its tag is right (R297, R298). -/
def pdtUnseal (d : Device) (slot op : Nat) (p : PdtIn) : List Byte × Bool :=
  match d.cph.slots.find? slot with
  | none => ([], false)
  | some k =>
    let h := inHead op p
    let aad := h.aad p.bytes.length (inExt op p) p.nonce
    (fitBytes p.bytes.length (Config.aesDecrypt modeGcm (keyBytes k modeGcm) (h.iv p.nonce) aad.length (aad ++ p.bytes)),
     p.tag == fitBytes 16 (Config.aesTag modeGcm (keyBytes k modeGcm) (h.iv p.nonce) aad.length (aad ++ p.bytes)))

/-- What follows the UDP header of a packet (R271): headers, extensions, payload, tag and ECRC. `prot`: key slot and NONCE_BASE. -/
def pdtPacket (d : Device) (h : PdtHead) (ext : List Byte) (prot : Option (Nat × Nat)) (pay : List Byte) : List Byte :=
  let all : List Byte := match prot with
    | none => h.bytes pay.length ++ ext ++ pay
    | some (slot, nonce) =>
      let s := d.pdtSeal slot nonce h ext pay
      h.bytes pay.length ++ ext ++ pdtGcmExt nonce ++ s.1 ++ s.2
  all ++ beBytes 4 (crc32c all)

/-- The UDP source port of the `n`-th packet of a flow of a local endpoint (R278). -/
def pdtSport (d : Device) (loc n : Nat) : Nat :=
  match d.ep? loc with
  | some e => leAt e.block 4 2 + n % 2 ^ (byteAt e.block 6 % 16)
  | none => 0

/-- The TTL or hop limit that an endpoint's packets carry (R300). -/
def pdtTtl (d : Device) (loc : Nat) : Nat :=
  match d.ep? loc with
  | some e => byteAt e.block 2
  | none => 0

/-- The key slot that protects a request and its response (R297). -/
def pdtSlot (d : Device) (loc op grant : Nat) : Nat :=
  if op = 3 then (match d.ep? loc with
    | some e => leAt e.block 8 2 % 4096
    | none => 0)
  else (d.grant (grant % 1048576)).gcmSlot

/-- Replace a receiving flow. -/
def setRx (d : Device) (f : PdtRx) : Device :=
  d.setPdt { d.pdt with rx := d.pdt.rx.map (fun g => if g.loc = f.loc ∧ g.src = f.src then f else g) }

def rx? (d : Device) (loc src : Nat) : Option PdtRx := d.pdt.rx.find? (fun f => f.loc == loc && f.src == src)

def updRx (d : Device) (loc src : Nat) (g : PdtRx → PdtRx) : Device :=
  match d.rx? loc src with
  | some f => d.setRx (g f)
  | none => d

/-- Packets that this device has sent in the flow of a local to a remote endpoint (R278): the sending record counts them when there is one, and
the receiving record of the reverse flow when there is none. -/
def flowSent (d : Device) (loc rem : Nat) : Nat :=
  match d.tx? loc rem, d.rx? loc rem with
  | some t, _ => t.sent
  | none, some f => f.sent
  | none, none => 0

/-- Change a sending flow. -/
def updTx (d : Device) (loc rem : Nat) (g : PdtTx → PdtTx) : Device :=
  match d.tx? loc rem with
  | some f => d.setTx (g f)
  | none => d

/-- One more packet of a flow has been sent; `n`: bytes that count for its limiter (R263, R284). -/
def countSent (d : Device) (loc rem n : Nat) : Device :=
  if (d.tx? loc rem).isSome then d.updTx loc rem (fun f => { f with sent := f.sent + 1, rate := { f.rate with bytes := f.rate.bytes + n } })
  else d.updRx loc rem (fun f => { f with sent := f.sent + 1, rate := { f.rate with bytes := f.rate.bytes + n } })

/-- The limiter of a flow once a packet with ECE has come, which acts at most once per interval (R284). -/
def eceRate (d : Device) (r : Rate) : Rate :=
  let due := match r.hitAt with
    | some t => decide (t + d.fld Fld.NET_CNP_INT_US ≤ d.now)
    | none => true
  if due then d.rateHit r else r

/-- A packet with ECE for the flow that a local endpoint sends to a remote one (R284). -/
def takeEce (d : Device) (loc rem : Nat) : Device :=
  if (d.tx? loc rem).isSome then d.updTx loc rem (fun f => { f with rate := d.eceRate f.rate })
  else d.updRx loc rem (fun f => { f with rate := d.eceRate f.rate })

/-- Send a reply to a packet (R271–R273, R278, R283, R295): on the interface it arrived on, to its source MAC address, with its IP addresses
swapped, to the PDT port, with its priority, DSCP and ATTEMPT. -/
def pdtReply (d : Device) (f : PdtRx) (via : PdtVia) (kind : String) (op psn msn : Nat) (bytes : List Byte) (len : Nat := 0) (off : Nat := 0)
    (flags : Nat := 0) (prot : Option (Nat × Nat) := none) : Device :=
  let n := d.flowSent f.loc f.src
  let h : PdtHead := { op := op, flags := flags + (if prot.isSome then 2 ^ 15 else 0) + via.att, dst := f.src, src := f.loc, psn := psn, msn := msn,
                       len := len, off := off }
  let pkt := d.pdtPacket h [] prot bytes
  let d := d.countSent f.loc f.src (if op = 0x11 then bytes.length else 0)
  let d := if prot.isSome then d.cipherBytes bytes.length else d
  (d.sendFrame via.iface via.prio kind [d.pdt.port, d.pdtSport f.loc n, d.ectOf, via.dscp, d.pdtTtl f.loc, via.mac, via.sip, via.dip] pkt (if via.v6 then 6 else 4)).bumpPdt 2

/-- The 48 B body of an ACK (R275). -/
def ackBody (f : PdtRx) : List Byte :=
  let sack := (List.range 16).map (fun i => BitVec.ofNat 8 ((List.range 8).foldl (fun a j =>
    if f.map.contains ((f.ack + 1 + 8 * i + j) % 4294967296) then a + 2 ^ (7 - j) else a) 0))
  let st := (List.range 32).map (fun j =>
    let m := (f.comp + 4294967296 - 32 + j) % 4294967296
    BitVec.ofNat 8 (match f.done.find? (fun p => p.1 == m) with
      | some p => p.2
      | none => 0))
  sack ++ st

/-- Send an ACK for a flow (R294), with ECE when CE has been seen (R283). -/
def pdtAck (d : Device) (loc src : Nat) : Device :=
  match d.rx? loc src with
  | some f =>
    let d := d.setRx { f with unacked := 0, ece := false }
    let d := if f.ece then d.bumpPdt 14 else d
    d.pdtReply f f.via "PDT_ACK" 0x13 f.ack f.comp (ackBody f) 0 0 (if f.ece then 0x2000 else 0)
  | none => d

/-- Answer a packet NAK (R275, R281); a packet with ACK_NOW draws an ACK as well (R294). -/
def pdtNak (d : Device) (f : PdtRx) (p : PdtIn) (reason : Nat) : Device :=
  let d := (d.pdtReply f (viaOf p) "PDT_NAK" 0x14 p.psn p.msn (BitVec.ofNat 8 reason :: List.replicate 3 0)).bumpPdt 6
  if natBit p.flags 10 then d.pdtAck f.loc f.src else d

/-- COMP_MSN advances over the messages whose outcome is decided; a message of length 0 takes its outcome once every earlier
one has (R290, R294). -/
def compAdvance (loc src : Nat) : Nat → Device → Device
  | 0, d => d
  | n + 1, d =>
    match d.rx? loc src with
    | none => d
    | some f =>
      if f.done.any (fun p => p.1 == f.comp) then
        let c := (f.comp + 1) % 4294967296
        compAdvance loc src n (d.setRx { f with comp := c, done := f.done.filter (fun p => decide (seqDist 32 p.1 c ≤ 32) || !msnBefore p.1 c) })
      else
        match f.runs.find? (fun r => r.msn == f.comp && r.zero) with
        | some r =>
          let d := d.setRx { f with runs := f.runs.filter (fun x => x != r), done := f.done ++ [(r.msn, stOk)] }
          let d := match r.recv with
            | some t => d.complete t.1 t.2.1 t.2.2 stOk 0 (immWord r.imm)
            | none => d
          compAdvance loc src n d
        | none => d

/-- COMP_MSN advances, and an ACK reports the outcomes that it decides on its way (R294). -/
def compAck (d : Device) (loc src : Nat) : Device :=
  let e := compAdvance loc src 4096 d
  if (e.rx? loc src).map (·.comp) = (d.rx? loc src).map (·.comp) then e else e.pdtAck loc src

/-- A message reaches its outcome, which is reported within 1 µs (R294). An outcome once decided stands. -/
def pdtDecide (d : Device) (loc src msn st : Nat) : Device :=
  match d.rx? loc src with
  | none => d
  | some f =>
    if f.done.any (fun p => p.1 == msn) then d
    else
      let d := if st = stStaleGen then d.bumpPdt 5 else d
      let d := d.setRx { f with done := f.done ++ [(msn, st)], hold := if f.hold = some msn then none else f.hold }
      (compAdvance loc src 4096 d).pdtAck loc src

/-- Whether a grant path needs its steps checked: requests with a grant and a length. -/
def pdtNeedsGrant (op len : Nat) : Bool := (pdtWrites op && len != 0) || op == 4 || pdtAtomic op

def pdtAccess (op : Nat) : Access := if op = 4 then .read else if pdtAtomic op then .atomic else .write

/-- The packets of a read's response (R276, R292, R297), at the response PMTU, with the PSN of the READ_REQ. -/
def sendResp (d : Device) (f : PdtRx) (r : PdtRun) (bytes : List Byte) : Device :=
  let own := match d.ep? f.loc with
    | some e => let c := byteAt e.block 7 % 8; if c = 0 then 5 else c
    | none => 5
  let code := match d.tx? f.loc f.src with
    | some t => byteAt t.peer 5 % 8
    | none => own
  let m := pmtuBytes code
  (List.range (packetsOf bytes.length m)).foldl (fun (d : Device) i =>
    d.pdtReply f r.via "PDT_READ_RESP" 0x11 r.psn r.msn ((bytes.drop (m * i)).take m) bytes.length (m * i) 0 r.prot) d

/-- Whether a slot is LOADED for PDT, and not PENDING (R370). -/
def slotReady (d : Device) (slot : Nat) : Bool := d.slotPermits slot 1 && !d.slotPending slot

/-- The response of an atomic (R293); a protected one whose slot no longer permits it is not sent (R370, log 54). -/
def atomResp (d : Device) (f : PdtRx) (r : PdtRun) (v : List Byte) : Device :=
  if r.prot.all (fun p => d.slotReady p.1) then d.pdtReply f r.via "PDT_ATOMIC_RESP" 0x12 r.psn r.msn v v.length 0 0 r.prot else d

/-- What an outcome of a placed part does to its message (R290–R294). The response of a protected atomic waits while its slot is PENDING (R370,
R381). -/
def pdtOutcome (d : Device) (loc src att msn st r0 r1 : Nat) : Device :=
  match d.rx? loc src with
  | none => d
  | some f =>
    match f.runs.find? (fun r => r.msn == msn && r.att == att && r.resp.isNone) with
    | none => d
    | some r =>
      let d := d.setRx { f with runs := f.runs.filter (fun x => x != r) }
      let d := d.releasePkt (d.groupQ loc) (.pdt loc src att msn)
      let d : Device := match r.recv with
        | some t => d.complete t.1 t.2.1 t.2.2 st (if st = stOk then r.len else 0) (if st = stOk then immWord r.imm else 0)
        | none => d
      let d : Device :=
        if pdtAtomic r.op && st == stOk then
          let n := if r.op = 6 then 16 else 8
          let v := beBytes n (r0 + 2 ^ 64 * r1)
          let d := d.updRx loc src (fun f => { f with atoms := (f.atoms ++ [(msn, v)]).drop ((f.atoms.length + 1) - 4) })
          if r.prot.any (fun p => d.slotPending p.1) then
            d.updRx loc src (fun f => { f with runs := f.runs ++ [{ r with resp := some v, recv := none, left := 0 }] })
          else d.atomResp f r v
        else d
      d.pdtDecide loc src msn st

/-- A read of a message whose data is all there: its response leaves and its outcome is ST_OK (R292). -/
def pdtReadDone (d : Device) (f : PdtRx) (r : PdtRun) : Device :=
  let d := d.updRx f.loc f.src (fun f => { f with runs := f.runs.filter (fun x => x != r) })
  let d := d.releasePkt (d.groupQ f.loc) (.pdt f.loc f.src r.att r.msn)
  if r.status ≠ 0 then (if r.dup then d else d.pdtDecide f.loc f.src r.msn r.status)
  else
    let lost := !r.prot.all (fun p => d.slotPermits p.1 1)
    let d := if lost then d else d.sendResp f r ((r.chunks.map (fun (p : Nat × List Byte) => p.2)).flatten)
    if r.dup then d else d.pdtDecide f.loc f.src r.msn (if lost then stProt else stOk)

/-- A message that is being executed. -/
def runOf (d : Device) (f : PdtRx) (e : PdtEntry) (left : Nat) : PdtRun :=
  { msn := e.msn, att := e.att, op := e.op, len := e.len, left := left, status := 0, result := 0, chunks := [], recv := none, imm := none,
    zero := false, dup := false, prot := if e.gcm then some (d.pdtSlot f.loc e.op e.grant, e.nonce) else none, via := e.via, psn := e.psn }

/-- Start a read of a message (R292). -/
def pdtStartRead (d : Device) (f : PdtRx) (e : PdtEntry) (dup : Bool) : Device :=
  let loc := f.loc
  let src := f.src
  let tok := Token.pdt loc src e.att e.msn
  match d.checks (.pdt e.grant src e.gcm) .read 0 e.off e.len with
  | some st =>
    let d := d.noteReject (.pdt e.grant src e.gcm) st
    if dup then (if st = stStaleGen then d.bumpPdt 5 else d) else d.pdtDecide loc src e.msn st
  | none =>
    let d := d.updRx loc src (fun f => { f with
      runs := f.runs ++ [{ d.runOf f e 1 with dup := dup }]
      reads := (f.reads.filter (fun p => p.1 != e.msn)) ++ [(e.msn, e.att)] })
    (d.startRead (.pdt src loc) tok (.pdt e.grant src e.gcm) 0 e.off e.len (fun _ => .pdtResp loc src 0 e.msn e.att)).1

/-- The tokens of a flow's earlier writes (R290): the scope of a PERSIST. -/
def pdtScope (d : Device) (f : PdtRx) (twin : Bool) : List Token :=
  let runs := (f.runs.filter (fun r => !r.dup && (pdtWrites r.op || pdtAtomic r.op || r.op == 3))).map (fun r => Token.pdt f.loc f.src r.att r.msn)
  let recs := d.pst.openRecs ++ d.closed ++ (d.pst.vints.map (fun v => if v.state = .sealed then v.recs else [])).flatten
  runs ++ (if twin then (recs.filter (fun r => r.src == .pdt f.src f.loc)).map (·.tok) else [])

/-- Execute a complete message at EXP_MSN (R290, R291, R292, R293). -/
def pdtExec (d : Device) (f : PdtRx) (e : PdtEntry) : Device :=
  let loc := f.loc
  let src := f.src
  let tok := Token.pdt loc src e.att e.msn
  let src' := Source.pdt src loc
  let out (d : Device) (st : Nat) : Device := (d.releasePkt (d.groupQ loc) tok).pdtDecide loc src e.msn st
  let addRun (d : Device) (r : PdtRun) : Device := d.updRx loc src (fun f => { f with runs := f.runs ++ [r] })
  let send (d : Device) (path : Path) (acc : Access) (cask off : Nat) (op : WriteOp) : Device :=
    d.submit pieceFuel { src := src', tok := tok, path := path, acc := acc, cask := cask, off := off, op := op, more := .data [],
                         policy := .syncRequired, heldAt := d.now }
  let d := d.commitPkt (d.groupQ loc) tok
  let poisoned := d.tokPoisoned tok
  if e.status ≠ 0 then out d e.status
  else if !d.placesWrites then out d stFenced
  else if poisoned && e.op != 3 then out d stPoison                  -- R229
  else
    let path := Path.pdt e.grant src e.gcm
    let takeRecv (d : Device) (k : Device → (Nat × Nat × Nat) → Device) : Device :=
      match d.ep? loc with
      | some ep =>
        match ep.recvs with
        | t :: rest => k (d.setPdt { d.pdt with eps := d.pdt.eps.put (loc % 65536) { ep with recvs := rest } }) t
        | [] => out d stNotReady
      | none => d
    if e.op = 1 then
      if e.len = 0 then (addRun (d.releasePkt (d.groupQ loc) tok) { d.runOf f e 0 with zero := true }).compAck loc src
      else send (addRun d (d.runOf f e 1)) path .write 0 e.off (.data e.data)
    else if e.op = 2 then
      if e.len = 0 then takeRecv d (fun d t =>
        (addRun (d.releasePkt (d.groupQ loc) tok) { d.runOf f e 0 with zero := true, recv := some t, imm := some e.imm }).compAck loc src)
      else
        match d.checks path .write 0 e.off e.len with
        | some st => out (d.noteReject path st) st
        | none => takeRecv d (fun d t => send (addRun d { d.runOf f e 1 with recv := some t, imm := some e.imm }) path .write 0 e.off (.data e.data))
    else if e.op = 3 then
      takeRecv d (fun d t =>
        match d.desc? t.1 t.2.1 t.2.2 with
        | none => out d stNotReady
        | some x =>
          if dLength x.dw < e.len then out (d.complete t.1 t.2.1 t.2.2 stRange 0 0) stRange
          else if dCaskIo x.dw && e.len != 0 then
            send (addRun d { d.runOf f e 1 with recv := some t, imm := some e.imm }) (.ring t.1) .write (dCask x.dw) (dOffset x.dw) (.data e.data)
          else out ((if poisoned then d.armEgress (0x100 + t.1 / 64) else d).answerHost t.1 t.2.1 x e.data e.len (immWord (some e.imm))) stOk)
    else if e.op = 4 then d.pdtStartRead f e false
    else if e.op = 8 then
      let twin := natBit e.flags 12
      let hold := natBit e.flags 11
      let fe : Fence := { tok := tok, doSeal := true, twin := twin, scope := d.pdtScope f twin, sealed := false }
      let d := addRun d (d.runOf f e 1)
      let d := if hold then d.updRx loc src (fun f => { f with hold := some e.msn }) else d
      d.beginFence fe
    else
      let align := if e.op = 6 then 16 else 8
      let bs := e.data ++ List.replicate (32 - e.data.length) 0
      let op : WriteOp := if e.op = 7 then .fadd (beNat (bs.take 8))
        else .cas align (beNat (bs.take align)) (beNat ((bs.drop align).take align))
      if e.off % align ≠ 0 then out d stRange
      else send (addRun d (d.runOf f e 1)) path .atomic 0 e.off op

/-- Whether every message executed so far has been placed, so that the next one may be (R290). -/
def pdtPlaced (d : Device) (f : PdtRx) : Bool := f.runs.all (fun r => !d.unplaced (.pdt f.loc f.src r.att r.msn))

/-- The message at EXP_MSN, when it may be executed now. -/
def pdtNext (d : Device) (f : PdtRx) : Option PdtEntry :=
  if f.hold.isSome || !d.pdtPlaced f then none
  else f.entries.find? (fun e => e.msn == f.exp && (e.status != 0 || e.whole) && !(e.op == 4 && d.gated (.pdt e.grant f.src e.gcm) 0))

/-- Execute the messages of a flow that may be (R290); reads whose data is there are answered. -/
def pdtRun (loc src : Nat) : Nat → Device → Device
  | 0, d => d
  | n + 1, d =>
    match d.rx? loc src with
    | none => d
    | some f =>
      match f.runs.find? (fun r => (r.resp.isSome || (r.op == 4 && (r.status != 0 || (decide (r.len ≤ gotBytes r.chunks) &&
          !d.egressFull r.via.iface r.via.prio)))) && !r.prot.any (fun p => d.slotPending p.1)) with
      | some r =>
        match r.resp with
        | some v => pdtRun loc src n ((d.updRx loc src (fun f => { f with runs := f.runs.filter (fun x => x != r) })).atomResp f r v)
        | none => pdtRun loc src n (d.pdtReadDone f r)
      | none =>
        match d.pdtNext f with
        | some e =>
          let f := { f with entries := f.entries.filter (fun x => x.msn != e.msn), exp := (f.exp + 1) % 4294967296 }
          pdtRun loc src n ((d.setRx f).pdtExec f e)
        | none => d

/-! ### The transports' step -/

/-- The outcome of an atomic evaluated here for another device goes back to it (log 19); a PIECE needs no answer. -/
def trlOutcome (d : Device) (dev req st r0 r1 : Nat) : Device :=
  if req = 0 then d else d.trlSend dev "READ_DATA" (readDataArgs 0 st req) [] (leBytes 8 r0 ++ leBytes 8 r1)

/-- Take the outcomes of what the transports placed. -/
def takeOutcomes (d : Device) : Device :=
  let os := d.pst.outcomes
  os.foldl (fun (d : Device) o => match o.tok with
    | .roce qpn psn => d.roceOutcome qpn psn o.status o.r0
    | .pdt loc src att msn => d.pdtOutcome loc src att msn o.status o.r0 o.r1
    | .trl dev req => d.trlOutcome dev req o.status o.r0 o.r1
    | _ => d) (d.setPst { d.pst with outcomes := [] })

/-- Outcomes are taken and what they let run runs, until nothing is left to do. -/
def transports : Nat → Device → Device
  | 0, d => d
  | n + 1, d =>
    let d := d.takeOutcomes
    let d := d.pst.fences.foldl (fun (d : Device) f => match f.tok with
      | .pdt _ _ _ _ => d.finishFence f
      | _ => d) d
    let d := d.net.qps.foldl (fun (d : Device) p => if p.2.reqs.isEmpty then d else roceRun p.1 4096 d) d
    let d := d.pdt.rx.foldl (fun (d : Device) f => pdtRun f.loc f.src 64 d) d
    if d.pst.outcomes.isEmpty then d else transports n d

/-! ### Request packets -/

/-- The payload of a request packet as its entry stores it, and whether its tag, when it has one, is right (R297). -/
def pdtClear (d : Device) (op : Nat) (p : PdtIn) : List Byte × Bool :=
  if natBit p.flags 15 then d.pdtUnseal (d.pdtSlot p.dst op p.grant) op p else (p.bytes, true)

/-- A duplicate request (R289, R292, R293): suppressed but for a READ_REQ with a higher ATTEMPT, which is executed again. What would draw a
response must pass its tag first (R298); a protected result whose slot is gone is not sent again. -/
def pdtDup (d : Device) (f : PdtRx) (op : Nat) (p : PdtIn) : Device :=
  let loc := f.loc
  let src := f.src
  let gcm := natBit p.flags 15
  let ackNow (d : Device) : Device := if natBit p.flags 10 then d.pdtAck loc src else d
  let tagged (k : Device → Device) : Device := if (d.pdtClear op p).2 then k d else d.authFail.bumpPdt 10
  if op = 4 then
    match f.reads.find? (fun q => q.1 == p.msn) with
    | some q =>
      if q.2 < p.flags % 16 ∧ !d.gated (.pdt p.grant f.src gcm) 0 then
        let e : PdtEntry := { msn := p.msn, op := 4, len := p.msgLen, grant := p.grant, off := p.off, imm := 0, gcm := gcm, flags := p.flags,
                              att := p.flags % 16, status := 0, units := [], parts := [], lastAt := d.now, nonce := p.nonce, via := viaOf p, psn := p.psn }
        tagged (fun d => ackNow (d.pdtStartRead f e true))
      else ackNow (d.bumpPdt 4)
    | none => (d.bumpPdt 4).pdtAck loc src
  else if pdtAtomic op then
    match f.atoms.find? (fun q => q.1 == p.msn) with
    | some q =>
      let slot := d.pdtSlot loc op p.grant
      tagged (fun d => ackNow (if gcm && !d.slotReady slot then d.bumpPdt 4
        else (d.bumpPdt 4).pdtReply f (viaOf p) "PDT_ATOMIC_RESP" 0x12 p.psn p.msn q.2 q.2.length 0 0 (if gcm then some (slot, p.nonce) else none)))
    | none => (d.bumpPdt 4).pdtAck loc src
  else (d.bumpPdt 4).pdtAck loc src

/-- A packet of an entry has come. A read is answered, and recorded as executed, with the ATTEMPT of its latest packet (R292). -/
def touchEntry (e : PdtEntry) (p : PdtIn) (now : Nat) : PdtEntry :=
  { e with lastAt := now, via := viaOf p, psn := p.psn, att := if e.op = 4 then p.flags % 16 else e.att }

/-- Store a packet's payload, decrypted when it was protected, in its entry (R288, R289). -/
def storePart (e : PdtEntry) (p : PdtIn) (bytes : List Byte) (now : Nat) : PdtEntry :=
  let e := touchEntry e p now
  let us := (List.range ((bytes.length + 255) / 256)).map (fun i => p.msgOff / 256 + i)
  { e with parts := e.parts.put p.msgOff bytes, units := us.foldl (fun a u => insertNat u a) e.units }

/-- Record a PSN as received (R285, R289). -/
def takePsn (f : PdtRx) (psn now : Nat) : PdtRx :=
  let m := if f.map.contains psn then f.map else psn :: f.map
  let slide := (List.range 129).foldl (fun (acc : Nat × List Nat) _ =>
    if acc.2.contains acc.1 then ((acc.1 + 1) % 4294967296, acc.2.filter (· != acc.1)) else acc) (f.ack, m)
  { f with ack := slide.1, map := slide.2, unacked := f.unacked + 1, unackedAt := if f.unacked = 0 then now else f.unackedAt }

/-- RECVs that messages without effect had taken are the endpoint's oldest again. -/
def unrecv (d : Device) (loc : Nat) (ts : List (Nat × Nat × Nat)) : Device :=
  match d.ep? loc with
  | some ep => if ts.isEmpty then d else d.setPdt { d.pdt with eps := d.pdt.eps.put (loc % 65536) { ep with recvs := ts ++ ep.recvs } }
  | none => d

/-- LOW_PSN and LOW_MSN of a packet (R287, R293): a message that was not translated leaves no effect, so a RECV that one of length 0 took is
free again. -/
def applyLow (d : Device) (f : PdtRx) (p : PdtIn) : Device :=
  let gone := if msnBefore f.exp p.lowMsn then f.entries.filter (fun e => msnBefore e.msn p.lowMsn) else []
  let d := gone.foldl (fun (d : Device) e => (d.rewindPkt (d.groupQ f.loc) (.pdt f.loc f.src e.att e.msn)).bumpPdt 12) d
  let zeros := if msnBefore f.exp p.lowMsn then f.runs.filter (fun r => r.zero && msnBefore r.msn p.lowMsn) else []
  let d := d.unrecv f.loc (zeros.filterMap (·.recv))
  let f := if msnBefore f.exp p.lowMsn then
      { f with entries := f.entries.filter (fun e => !msnBefore e.msn p.lowMsn), exp := p.lowMsn, comp := p.lowMsn,
               runs := f.runs.filter (fun r => !r.zero || !msnBefore r.msn p.lowMsn) }
    else f
  let f := if msnBefore f.ack p.lowPsn then
      takePsn { f with ack := p.lowPsn, map := f.map.filter (fun s => !msnBefore s p.lowPsn) } ((p.lowPsn + 4294967295) % 4294967296) d.now
      |> fun g => { g with map := g.map.filter (fun s => s != (p.lowPsn + 4294967295) % 4294967296), unacked := f.unacked, unackedAt := f.unackedAt }
    else f
  d.setRx { f with atoms := f.atoms.filter (fun a => !msnBefore a.1 p.lowMsn), reads := f.reads.filter (fun a => decide (seqDist 32 a.1 f.exp ≤ 32) || !msnBefore a.1 f.exp) }

/-- ACKs that a data packet draws (R294). -/
def ackRule (d : Device) (loc src : Nat) (p : PdtIn) : Device :=
  match d.rx? loc src with
  | none => d
  | some f =>
    let gap := f.map.contains p.psn && (match f.gapAt with
      | some t => decide (t < d.now)
      | none => true)
    if natBit p.flags 10 || decide (8 ≤ f.unacked) then d.pdtAck loc src
    else if gap then (d.setRx { f with gapAt := some d.now }).pdtAck loc src
    else d

/-- Steps 1 to 5 of R87 for the first packet of a message (R288 step 1). -/
def pdtGrantSt (d : Device) (f : PdtRx) (op : Nat) (p : PdtIn) : Option Nat :=
  let gcm := natBit p.flags 15
  if pdtNeedsGrant op p.msgLen then
    let len := if op = 6 then 16 else if pdtAtomic op then 8 else p.msgLen
    if 2 ^ 52 ≤ p.off ∨ len = 0 ∨ 2 ^ 52 < p.off + len then some stRange
    else d.grantCheck p.grant (fun g => g.pdtOk && (g.bind == 0 || (g.bind == 2 && g.bindId == f.src)) && (!g.gcmReq || gcm) && (!gcm || d.slotPermits g.gcmSlot 1)) (pdtAccess op) p.off len
  else none

/-- The failing status that the first packet of a message meets (R288 step 1, R291); an atomic whose MSG_LEN is not its
operand's length is malformed. -/
def pdtFirst (d : Device) (f : PdtRx) (op : Nat) (p : PdtIn) : Nat :=
  let gcm := natBit p.flags 15
  let needs := match d.ep? f.loc with
    | some e => natBit (byteAt e.block 0) 7
    | none => false
  let sendBad := (needs && !gcm) || (gcm && !d.slotPermits (d.pdtSlot f.loc 3 0) 1)
  match d.pdtGrantSt f op p with
  | some st => st
  | none =>
    if op == 2 && needs && !gcm then stProt
    else if op == 3 && sendBad then stProt
    else 0

/-- What every PDT packet meets before anything else (R267, R271, R274, R302): counted, checked, its endpoint found. -/
def pdtPkt (d : Device) (op : Nat) (p : PdtIn) (body : Device → Bool → Device) : Device :=
  if !d.hubOn || d.portStopped then d
  else
    match d.popIngress p.iface p.prio with
    | (d, none) => d
    | (d, some (mark, poison)) =>
    let d := d.bumpPdt 1
    if !p.ok || !d.pdt.on || (d.ep? p.dst).isNone then d.bumpPdt 13
    else if poison then d
    else
      let port := p.iface / 8
      let ce := pdtData? op && (p.ce || (mark && d.flag Fld.NET_P_ECN_LOCAL_CE port))
      body (if ce then d.bumpPair Reg.NET_P_CE_LO 1 port else d) ce

/-- The flow record of a request, created when there is none (R285); none: no record is free. -/
def rxFor (d : Device) (p : PdtIn) (ce : Bool) : Option (PdtRx × Device) :=
  match d.rx? p.dst p.src with
  | some f =>
    let f := { f with lastAt := d.now, ece := f.ece || ce, via := viaOf p }
    some (f, d.setRx f)
  | none =>
    if 1048576 ≤ d.pdt.rx.length + d.pdt.tx.length then none
    else
      let f : PdtRx := { src := p.src, loc := p.dst, exp := p.lowMsn, comp := p.lowMsn, ack := p.lowPsn, map := [], done := [], reads := [], atoms := [],
                         entries := [], runs := [], hold := none, lastAt := d.now, gapAt := none, unacked := 0, unackedAt := 0, ece := ce,
                         sent := d.flowSent p.dst p.src, via := viaOf p, rate := rateAt (d.ifRate p.iface) d.now }
      some (f, d.setPdt { d.pdt with rx := d.pdt.rx ++ [f] })

/-- The BUSY status of R295, when the unit answers BUSY; `fresh`: the packet finds no flow record (R320). -/
def pdtBusy (d : Device) (fresh : Bool) : Option Nat :=
  if fresh && decide (d.now < d.drm.quietUntil) then some stNotReady
  else if !d.rst.svcOpen || decide (d.now < d.pdt.quietAt + 64000) then some stNotReady
  else if !d.placesWrites then some stFenced
  else none

/-- A message's tag failed (R298): its entry and cells are rewound, and its outcome is ST_AUTH_FAIL. -/
def pdtTagFail (d : Device) (loc src : Nat) (e : PdtEntry) : Device :=
  let d := (d.rewindPkt (d.groupQ loc) (.pdt loc src e.att e.msn)).authFail.bumpPdt 10
  d.updRx loc src (fun f => { f with entries := f.entries.map (fun x => if x.msn = e.msn then { x with status := stAuthFail, parts := [], units := [] } else x) })

/-- Whether a protected packet waits for its key slot (R297, R370). -/
def pdtKeyPending (d : Device) (op : Nat) (p : PdtIn) : Bool :=
  natBit p.flags 15 && d.slotPending (d.pdtSlot p.dst op p.grant)

/-- What a packet leaves behind once its entry holds it: its PSN is taken, an ACK leaves when one is due, and what may run runs. -/
def pdtTaken (d : Device) (p : PdtIn) : Device :=
  transports 4096 (pdtRun p.dst p.src 64 ((d.updRx p.dst p.src (fun f => takePsn f p.psn d.now)).ackRule p.dst p.src p))

/-- A packet of a message that has an entry (R288, R289, R298). -/
def pdtMore (d : Device) (f : PdtRx) (op : Nat) (p : PdtIn) (e : PdtEntry) : Device :=
  if e.len ≠ p.msgLen ∨ e.op ≠ op ∨ e.grant ≠ p.grant ∨ e.off ≠ p.off ∨ e.imm ≠ p.imm ∨ e.gcm ≠ natBit p.flags 15 then d.pdtNak f p 4
  else
  let qn := d.groupQ p.dst
  let d := if op = 4 then d.retagPkt qn (.pdt p.dst p.src e.att e.msn) (.pdt p.dst p.src (p.flags % 16) e.msn) else d
  let upd (g : PdtEntry → PdtEntry) : Device :=
    d.updRx p.dst p.src (fun f => { f with entries := f.entries.map (fun x => if x.msn = p.msn then g x else x) })
  let e := if op = 4 then { e with att := p.flags % 16 } else e
  if e.status ≠ 0 then (upd (fun x => touchEntry x p d.now)).pdtTaken p
  else if !(d.pdtClear op p).2 then transports 4096 (pdtRun p.dst p.src 64 (d.pdtTagFail p.dst p.src e))
  else (upd (fun x => storePart x p (d.pdtClear op p).1 d.now)).pdtTaken p

/-- The first packet of a message (R288, R289, R298): its entry, with the status that it meets. -/
def pdtFresh (d : Device) (f : PdtRx) (op : Nat) (p : PdtIn) : Device :=
  if 16384 ≤ d.pdt.rx.foldl (fun a f => a + f.entries.length) 0 then d.pdtNak f p 1
  else
    let st := d.pdtFirst f op p
    let e : PdtEntry := { msn := p.msn, op := op, len := p.msgLen, grant := p.grant, off := p.off, imm := p.imm, gcm := natBit p.flags 15,
                          flags := p.flags, att := p.flags % 16, status := st, units := [], parts := [], lastAt := d.now,
                          nonce := p.nonce, via := viaOf p, psn := p.psn }
    let add (d : Device) (e : PdtEntry) : Device := d.updRx p.dst p.src (fun f => { f with entries := f.entries ++ [e] })
    if st ≠ 0 then
      let d := if (d.pdtGrantSt f op p).isSome then d.noteReject (.pdt p.grant p.src e.gcm) st else d
      (add d e).pdtTaken p
    else
      let cells := (p.msgLen + 255) / 256 + 4
      let qn := d.groupQ p.dst
      let owner := (d.queue qn).owner
      if !d.mayReserve qn cells owner then (d.refuseCells qn cells).pdtNak f p 2
      else
        let d := d.addPkt qn { tok := .pdt p.dst p.src e.att p.msn, owner := owner, cells := cells, whole := false, poison := false, void := false,
                               len := p.msgLen }
        if !(d.pdtClear op p).2 then transports 4096 (pdtRun p.dst p.src 64 ((add d e).pdtTagFail p.dst p.src e))
        else (add d (storePart e p (d.pdtClear op p).1 d.now)).pdtTaken p

/-- A request packet at its flow (R285, R288, R289, R294): a QUERY draws an ACK; a PSN beyond the window is dropped; a duplicate is handled as
one. -/
def pdtAt (d : Device) (f : PdtRx) (op : Nat) (p : PdtIn) : Device :=
  if op = 9 then (transports 4096 (pdtRun p.dst p.src 64 d)).pdtAck p.dst p.src
  else if msnBefore ((f.ack + 128) % 4294967296) p.psn then d.bumpPdt 13
  else if msnBefore p.psn f.ack || msnBefore p.msn f.exp || f.done.any (fun q => q.1 == p.msn) then
    transports 4096 (pdtRun p.dst p.src 64 (d.pdtDup f op p))
  else
    let d := if natBit p.flags 15 then d.cipherBytes p.bytes.length else d
    match f.entries.find? (fun e => e.msn == p.msn) with
    | some e => d.pdtMore f op p e
    | none => d.pdtFresh f op p

/-- The flow record that a request finds or makes, and the device that has taken its LOW_PSN and LOW_MSN (R285, R287). -/
def pdtFlow (d : Device) (p : PdtIn) (ce : Bool) : Option (PdtRx × Device) :=
  match d.rxFor p ce with
  | none => none
  | some (f, d) => ((d.applyLow f p).rx? p.dst p.src).map (fun g => (g, d.applyLow f p))

/-- A packet as a flow record that holds nothing, to reply from where no record is. -/
def pdtHere (p : PdtIn) : PdtRx :=
  { src := p.src, loc := p.dst, exp := 0, comp := 0, ack := 0, map := [], done := [], reads := [], atoms := [], entries := [], runs := [], hold := none,
    lastAt := 0, gapAt := none, unacked := 0, unackedAt := 0, ece := false, sent := 0, via := viaOf p,
    rate := rateAt 0 0 }

/-- BUSY with a status (R295). -/
def pdtSayBusy (d : Device) (p : PdtIn) (st : Nat) : Device :=
  (d.pdtReply (pdtHere p) (viaOf p) "PDT_BUSY" 0x15 p.psn p.msn (BitVec.ofNat 8 st :: List.replicate 3 0)).bumpPdt 8

/-- A request at its endpoint: BUSY, the NAK for want of a flow record, or what its flow does. -/
def pdtRequest (d : Device) (op : Nat) (p : PdtIn) (ce : Bool) : Device :=
  match d.pdtBusy (d.rx? p.dst p.src).isNone with
  | some st => d.pdtSayBusy p st
  | none =>
    match d.pdtFlow p ce with
    | none => d.pdtNak (pdtHere p) p 3
    | some (f, d) => (if natBit p.flags 13 then d.takeEce p.dst p.src else d).pdtAt f op p

/-- A packet waits for its PENDING key slot (R370), or for its queue (R230). -/
def pdtHold (d : Device) (op : Nat) (p : PdtIn) : Device := d.setPdt { d.pdt with held := d.pdt.held ++ [(op, p)] }

/-- A request packet that its engine has taken from the ingress queue, or takes up again: it waits while its key slot is PENDING (R370), or the
endpoint-group queue is broken (R230). `ce` of the packet says by now whether it counts as congested. -/
def pdtGo (d : Device) (op : Nat) (p : PdtIn) : Device :=
  if d.pdtKeyPending op p || (op != 9 && (d.queue (d.groupQ p.dst)).state == 3) then d.pdtHold op p else d.pdtRequest op p p.ce

/-- A request packet of a message (R285–R291). -/
def pdtReq (d : Device) (op : Nat) (p : PdtIn) : Device := d.pdtPkt op p (fun d ce => d.pdtGo op { p with ce := ce })

/-- The requests that waited are taken up again, in the order in which they came. -/
def retryHeld (d : Device) : Device :=
  let hs := d.pdt.held.filter (fun h => h.1 != 0x11)
  if hs.isEmpty then d
  else hs.foldl (fun (d : Device) h => d.pdtGo h.1 h.2) (d.setPdt { d.pdt with held := d.pdt.held.filter (fun h => h.1 == 0x11) })

/-! ### Sending -/

/-- Finish a message of a descriptor and take it off its flow; LOW_MSN passes the messages whose outcome is known. -/
def pdtEnd (d : Device) (f : PdtTx) (m : PdtMsg) (st r1 : Nat) : Device :=
  let ms := f.msgs.filter (fun x => x.msn != m.msn)
  let d := d.setTx { f with msgs := ms, lowMsn := match ms with
    | x :: _ => x.msn
    | [] => f.msn }
  d.finish (.desc m.fn m.q m.seq) st 0 r1

/-- Stop a message with ST_TIMEOUT, and every later message of the flow with it (R279–R281). -/
def pdtStop (d : Device) (loc rem msn : Nat) : Device :=
  match d.tx? loc rem with
  | some f =>
    let late := f.msgs.filter (fun m => !msnBefore m.msn msn)
    late.foldl (fun (d : Device) m => match d.tx? loc rem with
      | some f => d.pdtEnd f m stTimeout m.busy
      | none => d) d
  | none => d

/-- Send a packet of a sending flow to its peer (R271, R276, R278, R283, R300): a WRITE, a READ_REQ or a QUERY. `pk`: PSN, MSG_OFF and payload
length. A retransmission repeats the ECE of its original (R276); the next new packet takes an ECE that is due. -/
def pdtWire (d : Device) (loc rem : Nat) (m : PdtMsg) (op : Nat) (pk : Nat × Nat × Nat) (retx ackNow : Bool) : Device :=
  match d.tx? loc rem, d.ep? loc with
  | some f, some e =>
    let low := match (f.msgs.map (fun x => (x.pkts.filter (fun p => !x.rep.contains p.1)).map (fun (p : Nat × Nat × Nat) => p.1))).flatten with
      | p :: _ => p
      | [] => f.psn
    let gcm := m.gcm && op != 9
    let ece := if retx then m.eces.contains pk.1 else f.ece
    let fl := (if gcm then 2 ^ 15 else 0) + (if retx then 2 ^ 14 else 0) + (if ece then 2 ^ 13 else 0) + (if ackNow then 2 ^ 10 else 0) + m.att
    let h : PdtHead := { op := op, flags := fl, dst := f.rem, src := f.loc, psn := pk.1, lowPsn := low, msn := m.msn, lowMsn := f.lowMsn,
                         len := if op = 9 then 0 else m.len, off := pk.2.1 }
    let pkt := d.pdtPacket h (if op = 9 then pdtExt 0 0 0 else pdtExt m.grant m.off 0) (if gcm then some (m.kslot, m.nonce) else none)
      ((m.data.drop pk.2.1).take pk.2.2)
    let d := (d.countSent f.loc f.rem pk.2.2).updTx f.loc f.rem (fun f => { f with
      ece := f.ece && retx
      msgs := if ece && !retx && op != 9 then f.msgs.map (fun x => if x.msn = m.msn then { x with eces := x.eces ++ [pk.1] } else x) else f.msgs })
    let d := if ece then d.bumpPdt 14 else d
    let d := if gcm then d.cipherBytes pk.2.2 else d
    let d := if retx then d.bumpPdt 3 else d
    (d.sendFrame (byteAt f.peer 4) (byteAt e.block 0 % 8) (if op = 9 then "PDT_QUERY" else if op = 4 then "PDT_READ_REQ" else "PDT_WRITE")
      [d.pdt.port, d.pdtSport f.loc f.sent, d.ectOf, byteAt e.block 1, byteAt e.block 2, leAt f.peer 8 6, leAt f.peer 16 16] pkt
      (if natBit (byteAt f.peer 5) 7 then 6 else 4)).bumpPdt 2
  | _, _ => d

/-! ### The cell memory (R222–R224) -/

/-- The bytes of a packet after its header: a descriptor and its data, or the payload of a message; those of a frame stand in its command. -/
def pktBody (d : Device) (p : Pkt) : List Byte :=
  match p.tok with
  | .desc fn q seq =>
    match d.desc? fn q seq with
    | some x => (x.dw.map (fun w => leBytes 4 w.toNat)).flatten ++ x.data
    | none => []
  | .pdt loc src _ msn =>
    match (d.rx? loc src).bind (fun f => f.entries.find? (fun e => e.msn == msn)) with
    | some e => e.data
    | none => []
  | _ => []

/-- The cell memory as far as a queue holds it (R222): each cell with its 32 words and their check bits. -/
def cellMemory (d : Device) (qn : Nat) : List (Nat × List (BitVec 72)) :=
  ((d.queue qn).pkts.map (fun p =>
    let ws := pktWords p (d.pktBody p)
    ((pktCells p).zip (List.range p.cells)).map (fun c => (c.1, (ws.drop (32 * c.2)).take 32)))).flatten

end Device
end Sys2Proof.Machine
end

