-- ==== Sys2Proof/Machine/Casks.lean ====
section
/-! DEFINITION. Cask and grant commands (R70–R75, R82–R84, R93, R216, R217), racking (R79, R80, R89–R92, R148–R150),
streams (R95–R98), the lookup window (R102). -/

namespace Sys2Proof.Machine

namespace Device

/-- Allocated capacity (R72). -/
def allocRacks (d : Device) : Nat := d.csk.casks.foldl (fun a p => a + p.2.size) 0

/-- Racks of PIN_DRAM casks (R93). -/
def pinnedRacks (d : Device) : Nat := d.csk.casks.foldl (fun a p => if p.2.place = .pinDram then a + p.2.size else a) 0

/-- R72 and R93 for a change from `old` to `new` racks, pinned or not. -/
def spaceOk (d : Device) (old : Option CaskEntry) (new : CaskEntry) : Bool :=
  let o := match old with
    | some e => e.size
    | none => 0
  let op := match old with
    | some e => if e.place = .pinDram then e.size else 0
    | none => 0
  let np := if new.place = .pinDram then new.size else 0
  (decide (new.size ≤ o) || decide (d.allocRacks - o + new.size ≤ d.cascadeCap)) &&
    (decide (np ≤ op) || decide ((d.pinnedRacks - op + np) * 100 ≤ d.csk.frames * d.fld Fld.CSK_PIN_LIMIT_PIN_PCT))

/-- Whether a request translated under the entry that a command changes is not placed or served (R75). -/
def jobBlocked (d : Device) (op : MetaOp) : Bool :=
  let w (r : WriteReq) : Bool := d.underJob op r.path r.cask
  let rd (r : ReadReq) : Bool := d.underJob op r.path r.cask
  d.mir.step10.any w || d.adm.held.any w || d.pst.placeWait.any w || d.pst.reads.any rd || d.trl.reads.any (fun p => rd p.2)

/-- Place the metadata record of the command that runs, once R75 allows it (R58, R70). -/
def runJobs (d : Device) : Device :=
  match d.csk.jobs with
  | j :: rest =>
    if j.placed || d.jobBlocked j.op then d
    else
      let d : Device := { d with csk := { d.csk with jobs := { j with placed := true } :: rest } }
      let r : WriteReq := { src := .device, tok := j.tok, path := .device, acc := .write, cask := 0, off := 0, op := .metadata j.op,
                            more := .data [], policy := .syncPreferred, heldAt := d.now }
      if !d.placesWrites then { d with csk := { d.csk with jobs := rest } }.finish j.tok stFenced 0 0
      else if d.step10Waits then { d with mir := { d.mir with step10 := d.mir.step10 ++ [r] } }
      else
        let (d, ok) := d.step11 r
        if ok then d.placeWaiting r else d
  | [] => d

/-- Whether a command that has been started is still to complete: its descriptor stands, or its record is on its way (R60, R70). -/
def jobLive (d : Device) (j : AdminJob) : Bool :=
  let carries (r : VRecord) : Bool := r.wire.metaOp == some j.op
  let w (r : WriteReq) : Bool := r.op == .metadata j.op
  if j.placed then
    d.pst.openRecs.any carries || d.closed.any carries || d.pst.vints.any (fun v => v.state == .sealed && v.recs.any carries) ||
      d.mir.step10.any w || d.adm.held.any w || d.pst.placeWait.any w
  else match j.tok with
    | .desc fn q seq =>
      match d.desc? fn q seq with
      | some x => x.phase != .done
      | none => false
    | _ => false

/-- The writes that waited untranslated come to translation, in their order, as far as they may now: once the cask or grant command has
completed (R75), or the pieces of an earlier request of their source are placed (R34). -/
def openGate (d : Device) : Device :=
  if d.csk.gate.isEmpty then d
  else d.csk.gate.foldl (fun (d : Device) r => d.submit pieceFuel r) { d with csk := { d.csk with gate := [] } }

/-- A generation that no rack refers to any more, nor a pending vintage, is RELEASED (R124, R150). -/
def releaseGen (d : Device) (g : Nat) : Device :=
  let v := d.gen g
  if v.state = .sealed ∧ d.rst.svcOpen ∧ !(d.rst.source = 1 ∧ d.rst.srcGen = g ∧ !d.rst.resolved) ∧ (d.vaultLeft g).isEmpty then
    let d := (d.setGen g v.dropped).beginErases
    let d := if d.rst.older && decide (d.rst.srcGen ≠ g) then d.setRst { d.rst with older := false } else d
    (d.raise Reg.PST_RST_INT_STATUS 2 1).refreshPhase
  else d

/-- The generations to which the last reference has gone (R150), and the worn blocks among those that are RELEASED (R359); none while bottling
runs. -/
def releaseGens (d : Device) : Device := if d.hold.bottle.isSome then d else ((d.releaseGen 0).releaseGen 1).retireWorn

/-- What waited for cells, or for a queue that was broken, goes on (R230, R237): packets, completion entries, frames and PDT requests. -/
def relieve (d : Device) : Device := d.admitWaits.drainCqs.flushEgress.retryHeld

/-- Commands that have completed leave the line, and what waited for them goes on; reads that can be served are; the next command may
place; the restore waves go on. -/
def settle (d : Device) : Device :=
  let d := (transports 4096 (flashGo 100 d.relieve).pumpFetch.serveLuns.retryReads).fenceSeals
  let d := { d with csk := { d.csk with jobs := d.csk.jobs.filter d.jobLive } }
  d.openGate.runJobs.flushGo.releaseGens.runWaves.runLatched

/-- The opcodes of the cask and grant commands of R70. -/
def caskOps : List Nat := [0x90, 0x91, 0x92, 0x98, 0x99]

/-- Whether a fetched command of R70 reached the HUB before the one at the front of this function's queue 0: commands run in the order in
which they reached it, whichever admin-capable function sent them. -/
def caskTurn (d : Device) (fn op : Nat) : Bool :=
  match d.ready? fn 0 op with
  | none => true
  | some x =>
    d.adminPfs.all (fun f => match d.sq? f 0 with
      | some s => s.descs.all (fun y => y.phase != .fetched || !caskOps.contains (dOpcode y.dw) || decide (x.fetchNo ≤ y.fetchNo))
      | none => true)

/-- Start a cask or grant command (R70, R146, R160, R493): one at a time; `check` gives the record or the status. -/
def caskCmd (d : Device) (fn op : Nat) (check : Device → DescState → Except Nat MetaOp) : Device :=
  if !d.csk.jobs.isEmpty || !d.caskTurn fn op then d
  else d.devCmd fn op (fun d x =>
    if !d.rst.svcOpen then d.complete fn 0 x.seq stNotReady 0 0
    else if d.cascadeMember && d.cascadeShared then d.complete fn 0 x.seq stProt 0 0
    else match check d x with
      | .error st => d.complete fn 0 x.seq st 0 0
      | .ok m =>
        if !d.placesWrites then d.complete fn 0 x.seq stFenced 0 0
        else { d with csk := { d.csk with jobs := [{ tok := .desc fn 0 x.seq, op := m, placed := false }] } }.runJobs)

/-- The lowest FREE slot at or above `i` that has not been freed since the format. -/
def freshFrom (d : Device) : Nat → Nat → Option Nat
  | 0, _ => none
  | n + 1, i => if (d.grant i).state = .free ∧ !d.csk.freed.contains i then some i else freshFrom d n (i + 1)

/-- The next FREE slot (R82): the slots never issued since the format in ascending order, then those freed since. A slot leaves the list
when its issue commits. -/
def freeSlot (d : Device) : Option Nat :=
  match d.freshFrom (1048576 - d.csk.fresh) d.csk.fresh with
  | some i => some i
  | none => d.csk.freed.find? (fun i => (d.grant i).state == .free)

/-! ### Checks of the commands -/

def checkCreate (d : Device) (fn : Nat) (x : DescState) : Except Nat MetaOp :=
  let id := dCask x.dw
  let e := caskOf x.dw fn 0
  if (d.csk.casks.find? id).isSome then .error stRange
  else if !caskFieldsOk x.dw then .error stRange
  else if e.mkey ≠ 0 ∧ !(d.keyLoaded e.mkey).any (fun k => k.persist && natBit k.use 3) then .error stProt     -- R370
  else if !d.spaceOk none e then .error stBudget
  else .ok (.caskCreate id e)

def checkModify (d : Device) (x : DescState) : Except Nat MetaOp :=
  let id := dCask x.dw
  let m := (dwAt x.dw 14).toNat
  match d.csk.casks.find? id with
  | none => .error stProt
  | some old =>
    let e := caskOf x.dw old.owner old.rtPtr
    if natBit m 11 then .error stProt
    else if (natBit m 1 && dwF x.dw 8 25 24 == 3) || (natBit m 8 && dwF x.dw 9 19 12 == 0) then .error stRange
    else if !d.spaceOk (some old) (caskMerge old e m) then .error stBudget
    else .ok (.caskModify id e m)

def checkIssue (d : Device) (fn : Nat) (x : DescState) : Except Nat MetaOp :=
  match d.freeSlot with
  | none => .error stBudget
  | some slot =>
    let g := grantOf x.dw fn ((d.grant slot).gen + 1 |> (· % 4096))
    match d.csk.casks.find? g.cask with
    | none => .error stProt
    | some e =>
      if g.bind = 3 then .error stRange
      else if !e.grantable || (g.rd && !e.rd) || (g.wr && !e.wr) || (g.atom && !e.atom) then .error stProt
      else if g.len = 0 ∨ e.size * 65536 < g.base + g.len then .error stRange
      else .ok (.grantIssue slot g)

def checkRevoke (d : Device) (fn : Nat) (x : DescState) : Except Nat MetaOp :=
  let h := (dwAt x.dw 8).toNat
  let g := d.grant (h % 1048576)
  if g.gen ≠ h / 1048576 ∨ g.state ≠ .live then .error stStaleGen
  else if g.owner ≠ fn ∧ !d.isAdmin fn then .error stProt
  else .ok (.grantRevoke (h % 1048576) g.gen)

/-! ### Racking -/

/-- A cellar or vault read of a rack completes (R79, R148): the pages not present take the rack's home data; waves go on. A rack that becomes
resident so begins with ACC 15, also without an access (DESIGN CHOICE, log 41). -/
def fetchDone (d : Device) (cask idx : Nat) : Device :=
  let r := d.rack cask idx
  let new := !r.res
  if !r.fetch then d
  else
    let d := (d.setRack cask idx { r with fetch := false }).ensureFrame cask idx
    let r := d.rack cask idx
    let d := (List.range 16).foldl (fun d p =>
      if page? r.present p then d
      else d.setBytes (dramKey r.frame (p * 4096)) (d.copyPage (rackKey cask idx) p r.cptr)) d
    let d := d.mediaBytes (4096 * (16 - popcount16 r.present))
    -- R229: a poisoned word of the transfer; its page is delivered poisoned (R193, R353)
    let d := match (List.range 0x30).find? (fun n => d.qmg.bad.contains n), (List.range 16).find? (fun p => !page? r.present p) with
      | some n, some p => ((d.passing n).2.raise Reg.CEL_INT_STATUS 2 4).poisonPage cask idx p
      | _, _ => d
    let d : Device := { d with csk := { d.csk with urgent := d.csk.urgent.filter (fun x => decide (x ≠ rackKey cask idx)) } }
    d.setRack cask idx { r with present := allPages, acc := if new then 15 else r.acc }

/-! ### Blocks -/

/-- The native blocks that are not the vault's, of every LUN in use (R344). -/
def nativeBlks (d : Device) : Nat := 8 * d.cel.used.length * (d.nandGeom.blocks - d.cel.vaultBlks)

/-- Blocks in use for native data: neither erased nor waiting for their erase. -/
def busyBlks (d : Device) : Nat :=
  (d.cel.blocks.filter (fun (p : Nat × Blk) => p.2.state != .erased && p.2.state != .vault && !d.blkFree p.2)).length

/-- Whether erased native capacity is below a share of capacity in thousandths (R359). -/
def erasedBelow (d : Device) (pm : Nat) : Bool :=
  d.nativeBlks != 0 && decide ((d.nativeBlks - d.busyBlks) * 1000 < pm * d.nativeBlks)

/-- Whether erased native capacity, with what garbage collection can reclaim, is below a share of capacity in thousandths (R344): a full native
superblock gives back what its valid racks, of 64/15 pages each, do not fill. -/
def spareBelow (d : Device) (pm : Nat) : Bool :=
  let full := (d.cel.blocks.filter (fun (p : Nat × Blk) => p.2.state == .full && !p.2.slc && !d.blkFree p.2)).length
  let isFull (sb : Nat) : Bool := sb != 0 && d.cel.blocks.any (fun p => p.2.sb == sb && p.2.state == .full && !p.2.slc)
  let valid := (d.csk.racks.filter (fun p => p.2.cvalid && p.2.homed && isFull (d.sbOf p.2.cptr))).length
  let kept := (valid * 64 + 15 * d.nandGeom.pages - 1) / (15 * d.nandGeom.pages)
  d.nativeBlks != 0 && decide ((d.nativeBlks - d.busyBlks + (full - kept)) * 1000 < pm * d.nativeBlks)

/-- The valid racks of a superblock. -/
def validRacks (d : Device) (sb : Nat) : Nat := (d.csk.racks.filter (fun p => p.2.cvalid && p.2.homed && d.sbOf p.2.cptr == sb)).length

/-- Whether garbage collection moves the racks of a superblock (R359): erased native capacity is below 2%, and no native superblock that holds
valid racks holds fewer. -/
def gcTurn (d : Device) (sb : Nat) : Bool :=
  d.erasedBelow 20 && sb != 0 && !(d.cel.supers.any (fun p => !p.2.slc && decide (0 < d.validRacks p.1 ∧ d.validRacks p.1 < d.validRacks sb)))

/-- The sixteen pages of a rack as they stand are programmed at a location (R80 step 2, R150). -/
def programRack (d : Device) (cask idx cptr : Nat) : Device :=
  (d.setBytes (cellKey cptr 0) (d.rackBytes cask (idx * 65536) 65536)).mediaBytes 65536

/-- The program of a rack's sixteen pages at its new home is complete: the entry names it (R80 step 4, R150). RDIRTY is then 0: what it holds
after step 4 the rule does not say (DESIGN CHOICE, log 61). -/
def homeRack (d : Device) (cask idx cptr : Nat) : Device :=
  let r := d.rack cask idx
  let k := rackKey cask idx
  let cleared := 4096 * (popcount16 r.dirty - popcount16 r.rdirty)
  let d := d.putCopy cask idx cptr
  let d := d.putRack cask idx { r with cptr := cptr, cvalid := true, homed := true, vault := false, wb := false,
                                       dirty := if r.wb then r.rdirty else r.dirty, rdirty := 0 }
  let d : Device := { d with
      csk := { d.csk with wbJobs := d.csk.wbJobs.del k },
      cel := { d.cel with reloc := d.cel.reloc.filter (fun x => decide (x ≠ k)), isoReloc := d.cel.isoReloc.filter (fun x => decide (x ≠ k)) } }
  let d := d.noteFreed (r.res && decide (r.dirty ≠ 0) && decide ((d.rack cask idx).dirty = 0) && !d.pinned k)      -- R324
  ((d.endJob k cptr).noteCleared (if r.wb then cleared else 0)).releaseGens

/-- A location above every one in use: where the model places a program whose location no command names (log 13). -/
def freshHome (d : Device) : Nat :=
  let top (g : VaultGen) : Nat := g.racks.foldl (fun (a : Nat) (p : Nat × VaultRack) => max a (max p.2.vaddr (p.2.prev.getD 0))) 0
  let a := d.csk.racks.foldl (fun (a : Nat) (p : Nat × Rack) => max a p.2.cptr) 0
  let b := d.csk.wbJobs.foldl (fun (a : Nat) (p : Nat × Nat) => max a p.2) 0
  1 + max (max a b) (max (top d.hold.genE) (top d.hold.genO))

/-- Write every page that emergence has made dirty to its cellar home (R139). -/
def homeDirty (d : Device) : Device :=
  let ks := (d.csk.racks.filter (fun p => decide (p.2.dirty ≠ 0))).map (·.1)
  let d := ks.foldl (fun (d : Device) (k : Nat) =>
    let r := d.rack (k / 2 ^ 36) (k % 2 ^ 36)
    let c := d.freshHome
    ((d.setRack (k / 2 ^ 36) (k % 2 ^ 36) { r with wb := true, rdirty := 0 }).programRack (k / 2 ^ 36) (k % 2 ^ 36) c).homeRack (k / 2 ^ 36) (k % 2 ^ 36) c) d
  { d with adm := { d.adm with metaDirty := [] }, hold := { d.hold with mapNo := d.hold.mapNo + b2n (!d.adm.metaDirty.isEmpty) } }

end Device

/-! ### Commands -/

/-- CASK_CREATE (R73). -/
def execCaskCreate (fn : Nat) (s : State) : Host.Outcome State Fault Refusal :=
  s.run (fun d => d.caskCmd fn 0x90 (fun d x => d.checkCreate fn x))

/-- CASK_MODIFY (R73, R94). -/
def execCaskModify (fn : Nat) (s : State) : Host.Outcome State Fault Refusal :=
  s.run (fun d => d.caskCmd fn 0x91 (fun d x => d.checkModify x))

/-- CASK_DELETE (R73). -/
def execCaskDelete (fn : Nat) (s : State) : Host.Outcome State Fault Refusal :=
  s.run (fun d => d.caskCmd fn 0x92 (fun d x =>
    if (d.csk.casks.find? (dCask x.dw)).isSome then .ok (.caskDelete (dCask x.dw)) else .error stProt))

/-- CASK_QUERY (R216). -/
def execCaskQuery (fn : Nat) (s : State) : Host.Outcome State Fault Refusal :=
  s.run (fun d => d.devCmd fn 0x93 (fun d x =>
    d.answerHost fn 0 x (caskBytes (d.csk.casks.find? (dCask x.dw)))))

/-- GRANT_ISSUE (R82). -/
def execGrantIssue (fn : Nat) (s : State) : Host.Outcome State Fault Refusal :=
  s.run (fun d => d.caskCmd fn 0x98 (fun d x => d.checkIssue fn x))

/-- GRANT_REVOKE (R83): a device command, so its sender is admin-capable. -/
def execGrantRevoke (fn : Nat) (s : State) : Host.Outcome State Fault Refusal :=
  s.run (fun d => d.caskCmd fn 0x99 (fun d x => d.checkRevoke fn x))

/-- GRANT_QUERY (R216). -/
def execGrantQuery (fn : Nat) (s : State) : Host.Outcome State Fault Refusal :=
  s.run (fun d => d.devCmd fn 0x9A (fun d x =>
    d.answerHost fn 0 x (grantBytes (d.grant (dwF x.dw 8 19 0)))))

/-- STREAM_OPEN (R95, R96). The stream gets the lowest ID not in use: which ID it gets the manual does not say (DESIGN CHOICE, log 61). It is
translated as a read of one byte at the rounded offset: step 7 of R87 and the like apply to it, and a failure counts as a rejection (DESIGN
CHOICE, log 43). -/
def execStreamOpen (fn q : Nat) (s : State) : Host.Outcome State Fault Refusal :=
  s.run (fun d => d.ioDesc fn q 0x18 true (fun d x =>
    let off := dOffset x.dw / 65536 * 65536
    match d.checks (.ring fn) .read (dCask x.dw) off 1 with
    | some st => (d.noteReject (.ring fn) st).complete fn q x.seq st 0 0
    | none =>
      match d.csk.casks.find? (dCask x.dw) with
      | none => d.complete fn q x.seq stProt 0 0
      | some e =>
        if e.place ≠ .streamed then d.complete fn q x.seq stRange 0 0
        else if 16384 ≤ d.csk.streams.length then d.complete fn q x.seq stBudget 0 0
        else
          let id := ((List.range 16384).filter (fun i => !d.csk.streams.has i)).headD 0
          let l := dwF x.dw 8 7 0
          let st : Stream := { fn := fn, q := q, cask := dCask x.dw, pos := off / 65536, look := if l = 0 then e.lookahead else l,
                               auto := bitAt (dwAt x.dw 8) 8, late := 0 }
          let d : Device := { d with
              csk := { d.csk with streams := d.csk.streams.put id st,
                                                closedStreams := d.csk.closedStreams.filter (fun c => c != (fn, q, id)) } }
          (d.streamFetch st).complete fn q x.seq stOk id 0))

/-- The stream that STREAM_ADVANCE or STREAM_CLOSE names, or the status: ST_PROT for a stream of another queue (R210), ST_ABORTED for one that
R98 has closed. For an ID that was never open, or that STREAM_CLOSE has ended, the manual gives no status: ST_PROT (DESIGN CHOICE, log 61). -/
def Device.streamFor (d : Device) (fn q id : Nat) : Except Nat Stream :=
  match d.csk.streams.find? id with
  | some st => if st.fn = fn ∧ st.q = q then .ok st else .error stProt
  | none => .error (if d.csk.closedStreams.contains (fn, q, id) then stAborted else stProt)

/-- STREAM_ADVANCE (R66, R96). -/
def execStreamAdvance (fn q : Nat) (s : State) : Host.Outcome State Fault Refusal :=
  s.run (fun d => d.ioDesc fn q 0x19 true (fun d x =>
    let id := dwF x.dw 8 13 0
    match d.streamFor fn q id with
    | .error st => d.complete fn q x.seq st 0 0
    | .ok st =>
      let p := dOffset x.dw / 65536
      if 2 ^ 52 ≤ dOffset x.dw ∨ p < st.pos then d.complete fn q x.seq stRange 0 0
      else
        let st := { st with pos := p }
        (({ d with csk := { d.csk with streams := d.csk.streams.put id st } }).streamFetch st).complete fn q x.seq stOk st.late 0))

/-- STREAM_CLOSE (R95). -/
def execStreamClose (fn q : Nat) (s : State) : Host.Outcome State Fault Refusal :=
  s.run (fun d => d.ioDesc fn q 0x1A true (fun d x =>
    let id := dwF x.dw 8 13 0
    match d.streamFor fn q id with
    | .error st => d.complete fn q x.seq st 0 0
    | .ok st => ({ d with csk := { d.csk with streams := d.csk.streams.del id } }).complete fn q x.seq stOk st.late 0))

/-- Whether the keys are LOADED that the copies of a rack are read under (R376): a media transfer that was using one stops at an E alarm, and
restarts once it is LOADED again (R381). -/
def Device.fetchKeyed (d : Device) (cask rack : Nat) : Bool :=
  let r := d.rack cask rack
  (!r.vault || d.cph.hw1) && (!(r.homed && r.cvalid) || !d.mkeyMissing cask)

/-- A rack's cellar or vault read completes (R79); `rack` is the rack index. -/
def execRackFetchDone (cask rack : Nat) (s : State) : Host.Outcome State Fault Refusal :=
  s.run (fun d => if d.fetchKeyed cask rack then (d.fetchDone cask rack).settle else d)

/-- The DRAM class of write-behind (R118, R324, R405, R425): C3 in NORMAL, C2 in any other supply state, in an orderly shutdown, in a Diapause
entry and while frames are short. -/
def Device.wbClass (d : Device) : Nat :=
  if d.hold.supply ≠ .normal ∨ d.sup.state = .flush ∨ d.sup.state = .lowPower ∨ d.drm.short then 2 else 3

/-- Whether write-behind takes a rack now: while frames are short, those with the fewest dirty pages go first (R324). -/
def Device.wbTurn (d : Device) (r : Rack) : Bool :=
  !d.drm.short || d.csk.racks.all (fun p => p.2.dirty == 0 || !p.2.res || p.2.wb || decide (popcount16 r.dirty ≤ popcount16 p.2.dirty))

/-- Write-behind of a dirty rack starts (R80) toward the home location the cellar controller has chosen: its missing pages are read first.
None starts while MC1 is stopped (R19), while bottling (R122), while spare capacity is below 1% (R344), or while the cask's media key is not
loaded (R377). -/
def execWriteBehindStart (cask rack cptr : Nat) (s : State) : Host.Outcome State Fault Refusal :=
  s.run (fun d =>
    let r := d.rack cask rack
    if !d.coreUp 1 ∨ r.dirty = 0 ∨ !r.res ∨ r.wb ∨ d.hold.bottle.isSome ∨ d.spareBelow 10 ∨ d.mkeyMissing cask ∨ !d.siteOk cptr ∨ !d.wbTurn r then d
    else
      let d := if r.present = allPages then d
               else if r.cvalid && r.homed then (d.setRack cask rack { r with fetch := true }).fetchDone cask rack
               else (List.range 16).foldl (fun (d : Device) p => if page? r.present p then d else d.clearBytes (dramKey r.frame (p * 4096)) 4096) d
      let r := d.rack cask rack
      let d := (d.wakeFrame r.frame).emit (.dram (d.frameCh r.frame) "WB_READ" [d.wbClass, cask, rack])
      let d := (d.setRack cask rack { r with wb := true, rdirty := 0, present := allPages }).programRack cask rack cptr
      { d with csk := { d.csk with wbJobs := d.csk.wbJobs.put (rackKey cask rack) cptr } }.beginJob cptr)

/-- The metadata pages that are dirty are written home: the controller writes them as it writes cask data (R78, log 25), and the
reserved-area map in MRAM follows (R133). -/
def Device.homeMeta (d : Device) : Device :=
  if d.adm.metaDirty.isEmpty then d
  else
    let d := d.noteCleared (4096 * d.adm.metaDirty.length)
    { d with adm := { d.adm with metaDirty := [] }, hold := { d.hold with mapNo := d.hold.mapNo + 1 } }

/-- The cellar program of a rack completes (R80 step 4); metadata pages dirty before it are home too. Once bottling has latched it changes
nothing: a page with WB = 1 is bottled whatever the outcome of its program (R123). -/
def execWriteBehindDone (cask rack : Nat) (s : State) : Host.Outcome State Fault Refusal :=
  s.run (fun d =>
    match d.csk.wbJobs.find? (rackKey cask rack) with
    | some cptr => if (d.rack cask rack).wb ∧ d.hold.bottle.isNone ∧ !d.mkeyMissing cask then (d.homeMeta.homeRack cask rack cptr).reevalAdmit.settle else d
    | none => d)

/-- Whether background eviction goes on (R92), and, while frames are short, with the racks of PIN_DRAM casks until the count is back above the
frame guard (R324). -/
def Device.evictMore (d : Device) (k : Nat) : Bool :=
  decide (d.framesFree < 1024 * d.fld Fld.CSK_FREE_LOW_FREE_LOW_K) || (d.drm.short && d.pinned k && d.guardOn)

/-- Background eviction (R92, R324): from the lowest rank (R91) until free frames reach FREE_LOW. Among equals the lowest key
goes first, which is the model's own choice (log 13). -/
def execBackgroundEvict (s : State) : Host.Outcome State Fault Refusal :=
  s.run (fun d =>
    (d.evictOrder.foldl (fun (d : Device) (p : Nat × Rack) => if d.evictMore p.1 then d.evictRack (p.1 / 2 ^ 36) (p.1 % 2 ^ 36) else d) d).reevalAdmit.settle)

/-- TICK_MS passes: the ACC of every resident rack decreases by one (R91). -/
def execAccAgeTick (s : State) : Host.Outcome State Fault Refusal :=
  s.run (fun d =>
    let d := d.advance (1000 * d.fld Fld.CSK_AGE_TICK_TICK_MS)
    { d with csk := { d.csk with racks := d.csk.racks.map (fun (p : Nat × Rack) => if p.2.res then (p.1, { p.2 with acc := p.2.acc - 1 }) else p) } })

/-- A QUARANTINE slot becomes FREE (R84), 64 ms after REVOKE_US or later. -/
def execGrantQuarantineExpire (slot : Nat) (s : State) : Host.Outcome State Fault Refusal :=
  s.run (fun d =>
    let g := d.grant slot
    if g.state = .quarantine then
      let age := (d.usec + 4294967296 - g.revokeUs) % 4294967296
      let d := if age < 64000 then d.advance (64000 - age) else d
      let d := d.putGrant slot { g with state := .free, revokeUs := 0 }
      { d with csk := { d.csk with freed := d.csk.freed ++ [slot] } }
    else d)

/-- Whether the homing of a rack takes its turn (R150): racks of the older referenced generation go first. -/
def Device.homingTurn (d : Device) (k : Nat) : Bool :=
  let ks := if d.rst.older then d.vaultLeft (1 - d.rst.srcGen) else []
  ks.isEmpty || ks.contains k

/-- A homing program of a rack with VAULT = 1 completes (R150, R152): CPTR takes the new home. Homing goes on with MC1 alone (R514); the
command is the whole of a rack's homing, so it has no effect while MC1 is stopped (DESIGN CHOICE, log 49). -/
def execHomingDone (cask rack cptr : Nat) (s : State) : Host.Outcome State Fault Refusal :=
  s.run (fun d =>
    if (d.rack cask rack).vault ∧ d.rst.svcOpen ∧ !d.rst.wave0 ∧ d.hold.bottle.isNone ∧ d.coreUp 1 ∧ d.homingTurn (rackKey cask rack) ∧ d.siteOk cptr ∧ d.fetchKeyed cask rack ∧ !d.mkeyMissing cask then
      let d := ((d.programRack cask rack cptr).homeRack cask rack cptr).refreshPhase
      let d := if d.targetGen.isNone then
          { d with adm := { d.adm with metaDirty := d.adm.metaDirty.filter (fun m => m != .rackTable cask (rack / 256)) } }
        else d
      d.reevalAdmit.settle
    else d)

end Sys2Proof.Machine
end

