-- ==== Sys2Proof/Machine/Recover.lean ====
section
/-! DEFINITION. Page recovery from the twin (R193) and poisoned pages (R320). -/

namespace Sys2Proof.Machine
namespace Device

/-- ARG0 and ARG1 of the page-fetch frames (R177). -/
def pageArgs (cask rack page tag : Nat) : List Nat := [cask * 2 ^ 36 + rack, page * 2 ^ 60 + tag]

/-- PFETCH_REQ (R193 step 2): A_MIN is the higher of n_max and this unit's own highest applied vintage. -/
def askPage (d : Device) (f : Pfetch) : Device :=
  let a := max f.nMax d.pst.appliedNum
  d.vae "PFETCH_REQ" (pageArgs f.cask f.rack f.page f.tag ++ [a]) [] (beBytes 8 a)

/-- Pages whose request has not been sent are asked for, up to 65,536 outstanding; the limit of R193 runs from the sending (R515). -/
def pumpPages (d : Device) : Device :=
  let todo := d.mir.pfetch.filter (fun f => !f.asked)
  (todo.take (65536 - (d.mir.pfetch.length - todo.length))).foldl (fun (d : Device) f =>
    let g := { f with asked := true, startAt := d.now }
    (d.setMir { d.mir with pfetch := d.mir.pfetch.map (fun x => if x = f then g else x) }).askPage g) d

/-- The page is not recovered (R193). -/
def failFetch (d : Device) (f : Pfetch) : Device := (d.failPage f).pumpPages.settle

/-- Install pages whose A′ this unit's own applies have reached (R193 step 4), or ask again when n_max exceeds A′. -/
def installPages (d : Device) : Device :=
  d.mir.pfetch.foldl (fun d f => match f.got with
    | some (a, bytes) =>
      if a < f.nMax then
        let g := { f with got := none }
        (d.setMir { d.mir with pfetch := d.mir.pfetch.map (fun x => if x = f then g else x) }).askPage g
      else if a ≤ d.pst.appliedNum then
        let r := d.rack f.cask f.rack
        ((d.endFetch f).setBytes (dramKey r.frame (f.page * 4096)) (bytes.take 4096)).pumpPages.bumpPair Reg.MIR_PFETCH_CNT_LO |>.settle
      else d
    | none => d) d

/-- Start the recovery of a page from the twin (R193 steps 1 and 2). -/
def startFetchPage (d : Device) (cask rack page : Nat) (cellar : Bool := false) : Device :=
  let f : Pfetch := { cask := cask, rack := rack, page := page, tag := d.mir.pfTag, nMax := 0, aMin := d.pst.appliedNum, cellar := cellar, got := none,
                      startAt := d.now, asked := decide ((d.mir.pfetch.filter (·.asked)).length < 65536) }
  if !d.mir.attached || d.mir.absent then (d.poisonPage cask rack page).raise Reg.MIR_INT_STATUS 6 4
  else (d.setMir { d.mir with pfetch := d.mir.pfetch ++ [f], pfTag := (d.mir.pfTag + 1) % 4294967296 }).when f.asked (·.askPage f)

/-- After the apply of vintage `num`: pages being recovered that it wrote record it as n_max. -/
def noteApplied (d : Device) (v : Vintage) : Device :=
  let hit (f : Pfetch) : Bool := v.recs.any (fun r => r.wire.metaOp.isNone && r.wire.cask == f.cask &&
    (pagesOf f.rack r.wire.off r.wire.len).contains f.page)
  (d.setMir { d.mir with pfetch := d.mir.pfetch.map (fun f => if hit f then { f with nMax := v.num } else f) }).installPages

end Device
end Sys2Proof.Machine
end

