-- ==== Sys2Proof/Machine/Persist.lean ====
section
/-! DEFINITION. The data descriptors (R52, R55–R58, R76, R210, R213) and the commands that move vintages and admission
(R40, R43, R50, R51, R114–R116, R179). -/

namespace Sys2Proof.Machine
namespace Device

/-- A write of a descriptor (R58). -/
def descWrite (d : Device) (fn q : Nat) (x : DescState) (acc : Access) (op : WriteOp) : Device :=
  (d.submit pieceFuel { src := .sq fn q, tok := .desc fn q x.seq, path := .ring fn, acc := acc, cask := dCask x.dw, off := dOffset x.dw,
                        op := op, more := .data [], policy := .syncRequired, heldAt := d.now }).settle

/-- An atomic of a descriptor: a misaligned target is ST_RANGE (R55). -/
def descAtomic (d : Device) (fn q : Nat) (x : DescState) (align : Nat) (op : WriteOp) : Device :=
  if dOffset x.dw % align = 0 then d.descWrite fn q x .atomic op else d.complete fn q x.seq stRange 0 0

/-- A READ of the stream that its queue opened (R87 step 12, R97): of the pieces that pass their checks, one that reaches a written rack that
is not resident makes it late. It is then counted, once for each stream of the queue that it is a stream read of (DESIGN CHOICE, log 61), and
with the no-wait flag set it is not served. -/
def descRead (d : Device) (fn q : Nat) (x : DescState) : Device :=
  let cask := dCask x.dw
  let off := dOffset x.dw
  let len := dLength x.dw
  let tok := Token.desc fn q x.seq
  let ss := d.streamsOf fn q cask off
  let ok := (d.readReqs (.sq fn q) tok (.ring fn) cask (fun p => .hostBuf p) off [] (piecesOf off len)).1
  let late := !ss.isEmpty && ok.any (fun r => (racksOf r.off r.len).any (fun i => let k := d.rack cask i; k.cvalid && !k.res))
  let d := if late then ss.foldl (fun (d : Device) p => d.noteLate p) d else d
  if late && d.noWait tok then d.complete fn q x.seq stNotReady 0 0
  else
    let (d, st) := d.startRead (.sq fn q) tok (.ring fn) cask off len (fun p => .hostBuf p) (ss.map (·.1))
    d.finish tok st 0 0

/-- Whether a descriptor's opcode makes it a write of a cask (R57, R58): REMOTE_READ with its landing buffer in one is. -/
def isWriteDesc (x : DescState) : Bool :=
  let o := dOpcode x.dw
  (decide (2 ≤ o ∧ o ≤ 6)) || o == 8 || (o == 9 && bitAt (dwAt x.dw 8) 24) || (o == 0x11 && dCaskIo x.dw)

/-- The tokens of the writes within the scope of a fence (R57): descriptors of its SQ earlier in ring order or, with SCOPE, those of every SQ
of the function that were fetched before it, not complete; and, for TWIN, writes already placed whose vintage has not committed. -/
def fenceScope (d : Device) (fn q : Nat) (x : DescState) : List Token :=
  let wide := dFlag x.dw 8
  let sqs := d.hrg.sqs.filter (fun p => p.1 / 256 == fn && (wide || p.1 % 256 == q))
  let descs := (sqs.map (fun (p : Nat × Sq) => (p.2.descs.filter (fun y =>
      isWriteDesc y && y.phase != .done && decide (if p.1 % 256 = q then y.seq < x.seq else y.fetchNo < x.fetchNo))).map
      (fun y => Token.desc fn (p.1 % 256) y.seq))).flatten
  let recs := d.pst.openRecs ++ d.closed ++ (d.pst.vints.map (fun v => if v.state = .sealed then v.recs else [])).flatten
  let placed := (recs.filter (fun r => match r.tok with
    | .desc f p seq => f == fn && (if p = q then decide (seq < x.seq) else wide && decide (r.fetchNo < x.fetchNo))
    | _ => false)).map (·.tok)
  descs ++ (if dFlag x.dw 10 then placed else [])

/-- A fence starts (R56, R57). -/
def startFence (d : Device) (fn q : Nat) (x : DescState) : Device :=
  d.beginFence { tok := .desc fn q x.seq, doSeal := dFlag x.dw 9, twin := dFlag x.dw 10, scope := d.fenceScope fn q x, sealed := false }

/-- COPY (R58): the whole source is read before any of it is written; the reads are those of the SQ, whose earlier writes they return
(R213), and the writes those of the COPY engine (R33). -/
def descCopy (d : Device) (fn q : Nat) (x : DescState) : Device :=
  let (d, st) := d.startRead (.sq fn q) (.desc fn q x.seq) (.ring fn) (dCask x.dw) (dOffset x.dw) (dLength x.dw) (fun p => .copyIn p)
  (if st = stOk then d else d.complete fn q x.seq st 0 0).settle

/-- Whether the target's completion count satisfies a WAIT_COUNT (R213). -/
def countReached (d : Device) (fn : Nat) (x : DescState) : Bool :=
  match d.sq? fn (dwF x.dw 8 7 0) with
  | some t => decide ((t.count + 4294967296 - (dwAt x.dw 9).toNat) % 4294967296 < 2147483648)
  | none => false

/-- The WAIT_COUNT that holds an SQ. -/
def waitingOn (d : Device) (fn q : Nat) : Option DescState :=
  match d.sq? fn q with
  | some t => t.descs.find? (fun x => x.phase == .running && dOpcode x.dw == 0x0A)
  | none => none

/-- The first write that waits for placement and may be placed: no earlier one of its source waits (R34, R43). -/
def nextPlace (d : Device) : List WriteReq → List Source → Option WriteReq
  | [], _ => none
  | r :: rs, seen =>
    if !seen.contains r.src && (d.tryPlace r).isSome then some r else d.nextPlace rs (r.src :: seen)

/-- The image length of a vintage (R177): its records as R44 counts them. -/
def imageLen (v : Vintage) : Nat := recsSize v.recs

/-- The estimate of the twin's free staging (R179), in bytes. -/
def twinRoom (d : Device) : Nat :=
  match d.mir.budget with
  | some b => 1024 * b.freeKib - (d.mir.sentSizes.filter (fun p => decide (d.mir.blockArg0 < p.1))).foldl (fun a p => a + p.2) 0
  | none => 0

def causeNum : SealCause → Nat
  | .period => 1
  | .size => 2
  | .forced => 3

/-- The VDATA frames of an image from byte `off` on, each of at most 4,096 B (R177), with the records that end in it. -/
def sendData (num : Nat) (ws : List WireRec) (image : List Byte) : Nat → Nat → Device → Device
  | 0, _, d => d
  | n + 1, off, d =>
    let k := min 4096 (image.length - off)
    if k = 0 then d else sendData num ws image n (off + k) (d.vae "VDATA" [num, off] (recordsIn ws 0 off (off + k)) ((image.drop off).take k))

/-- Send the frames of a vintage image: VHEAD, the VDATA frames from byte `from_`, VEND (R177, R178). -/
def sendImage (d : Device) (v : Vintage) (from_ : Nat) : Device :=
  let ws := v.recs.map (·.wire)
  let image := imageBytes ws
  let n := v.recs.length
  let rel := b2n (v.recs.any (·.released))
  let d := if from_ = 0 then d.vae "VHEAD" [v.num, v.prev, d.mir.epoch, image.length, n, causeNum v.cause, rel] []
      (vheadBytes d.mir.epoch image.length n (causeNum v.cause) rel) else d
  (sendData v.num ws image (image.length / 4096 + 1) from_ d).vae "VEND" [v.num, image.length, n] [] (beBytes 4 (crc32c image) ++ beBytes 4 n)

end Device

/-- NOP (R210). -/
def execNop (fn q : Nat) (s : State) : Host.Outcome State Fault Refusal :=
  s.run (fun d => if q = 0 then d.fnCmd fn 0x00 (fun d x => d.complete fn 0 x.seq stOk 0 0)
                  else d.ioDesc fn q 0x00 false (fun d x => d.complete fn q x.seq stOk 0 0))

/-- READ (R52, R97). -/
def execRead (fn q : Nat) (s : State) : Host.Outcome State Fault Refusal :=
  s.run (fun d => d.ioDesc fn q 0x01 true (fun d x => (d.descRead fn q x).settle))

/-- WRITE (R58): its data has been read from the host. -/
def execWrite (fn q : Nat) (s : State) : Host.Outcome State Fault Refusal :=
  s.run (fun d => d.ioDesc fn q 0x02 true (fun d x => d.descWrite fn q x .write (.data x.data)))

/-- WRITE_ZERO (R76). -/
def execWriteZero (fn q : Nat) (s : State) : Host.Outcome State Fault Refusal :=
  s.run (fun d => d.ioDesc fn q 0x03 true (fun d x => d.descWrite fn q x .write (.zero (dLength x.dw))))

/-- CAS8 (R55). -/
def execCas8 (fn q : Nat) (s : State) : Host.Outcome State Fault Refusal :=
  s.run (fun d => d.ioDesc fn q 0x04 true (fun d x => d.descAtomic fn q x 8 (.cas 8 (dw64 x.dw 8) (dw64 x.dw 10))))

/-- CAS16 (R55). -/
def execCas16 (fn q : Nat) (s : State) : Host.Outcome State Fault Refusal :=
  s.run (fun d => d.ioDesc fn q 0x05 true (fun d x => d.descAtomic fn q x 16
    (.cas 16 (dw64 x.dw 8 + 2 ^ 64 * dw64 x.dw 10) (dw64 x.dw 12 + 2 ^ 64 * dw64 x.dw 14))))

/-- FADD8 (R55). -/
def execFadd8 (fn q : Nat) (s : State) : Host.Outcome State Fault Refusal :=
  s.run (fun d => d.ioDesc fn q 0x06 true (fun d x => d.descAtomic fn q x 8 (.fadd (dw64 x.dw 8))))

/-- PERSIST_FENCE (R56, R57). -/
def execPersistFence (fn q : Nat) (s : State) : Host.Outcome State Fault Refusal :=
  s.run (fun d => d.ioDesc fn q 0x07 true (fun d x => d.startFence fn q x))

/-- A fence whose condition is met completes (R57). -/
def execPersistFenceDone (fn q seq : Nat) (s : State) : Host.Outcome State Fault Refusal :=
  s.run (fun d => match d.pst.fences.find? (fun f => f.tok == .desc fn q seq) with
    | some f => d.finishFence f
    | none => d)

/-- COPY (R58). -/
def execCopy (fn q : Nat) (s : State) : Host.Outcome State Fault Refusal :=
  s.run (fun d => d.ioDesc fn q 0x08 true (fun d x => d.descCopy fn q x))

/-- WAIT_COUNT (R213). -/
def execWaitCount (fn q : Nat) (s : State) : Host.Outcome State Fault Refusal :=
  s.run (fun d => d.ioDesc fn q 0x0A false (fun d x =>
    if dwF x.dw 8 7 0 = q ∨ (d.sq? fn (dwF x.dw 8 7 0)).isNone then d.complete fn q x.seq stRange 0 0
    else if d.countReached fn x then d.complete fn q x.seq stOk 0 0
    else d))

/-- The target count reaches N (R213). -/
def execWaitCountSatisfied (fn q : Nat) (s : State) : Host.Outcome State Fault Refusal :=
  s.run (fun d => match d.waitingOn fn q with
    | some x => if d.countReached fn x then d.complete fn q x.seq stOk 0 0 else d
    | none => d)

/-- The timeout of a WAIT_COUNT passes first (R213). -/
def execWaitCountTimeout (fn q : Nat) (s : State) : Host.Outcome State Fault Refusal :=
  s.run (fun d => match d.waitingOn fn q with
    | some x =>
      let ms := dwF x.dw 10 15 0
      if ms = 0 ∨ d.countReached fn x then d
      else (d.waitUntil (x.startedAt + 1000 * ms)).complete fn q x.seq stTimeout 0 0
    | none => d)

/-- The write at the head of step 11 is admitted (R115). -/
def execWriteAdmit (s : State) : Host.Outcome State Fault Refusal :=
  s.run (fun d =>
    let d := d.reevalAdmit
    match d.adm.held with
    | r :: rest =>
      let c := chargeOf r.off r.op
      if d.adm.state = .opened then
        (({ d with adm := { d.adm with held := rest } }.takeCharge r).toPlace r Device.placeWaiting).settle
      else if d.adm.state = .throttled ∧ c ≤ d.adm.credit then
        (({ d with adm := { d.adm with held := rest, credit := d.adm.credit - c } }.takeCharge r).toPlace r Device.placeWaiting).settle
      else d
    | [] => d)

/-- WAIT_MS passes for the write at the head of step 11 (R116). -/
def execAdmitWaitTimeout (s : State) : Host.Outcome State Fault Refusal :=
  s.run (fun d => match d.adm.held with
    | r :: rest =>
      let d := (d.waitUntil (r.heldAt + 1000 * d.fld Fld.PST_ADMIT_CTRL_WAIT_MS)).reevalAdmit
      -- R115: a head that the state or the credit, accrued by now, admits is not refused
      if d.adm.state = .opened ∨ (d.adm.state = .throttled ∧ chargeOf r.off r.op ≤ d.adm.credit) then d
      else (({ d with adm := { d.adm with held := rest } }.rejectBudget r).fenceSeals).settle
    | [] => d)

/-- One microsecond of admission (R114, R115): the credit and PST_THROTTLE_US with the clock, then the state and R_ADMIT. -/
def execAdmitRateTick (s : State) : Host.Outcome State Fault Refusal := s.run (fun d => (d.advance 1).reevalAdmit)

/-- A write that waits is placed (R43). -/
def execWritePlace (s : State) : Host.Outcome State Fault Refusal :=
  s.run (fun d =>
    match d.nextPlace d.pst.placeWait [] with
    | some r => ((d.setPst { d.pst with placeWait := removeFirst (fun w => w == r) d.pst.placeWait }).placeWaiting r).settle
    | none => d)

/-- VINT_PERIOD expires (R40, R51); in a cascade the vintage clock sets the boundary (R494). -/
def execVintageSealPeriod (s : State) : Host.Outcome State Fault Refusal :=
  s.run (fun d =>
    if d.cascadeShared then (d.waitUntil (d.pst.openAt + d.pst.openPeriod)).vclkBoundary.settle
    else
      let d := d.waitUntil (d.pst.openAt + d.pst.openPeriod)
      if d.pst.openRecs.isEmpty then d.setPst { d.pst with openAt := d.now }
      else (d.trySeal .period).settle)

/-- Whether this unit ships vintages: it places writes, or is FENCED with vintages SEALED (R179, R181); a DETACHED unit takes no part (R160). -/
def Device.ships (d : Device) : Bool := d.placesWrites || d.mir.role == .fenced

/-- The lowest SEALED vintage not yet shipped is shipped whole once the twin's staging fits it (R179, R181). -/
def execVintageShip (s : State) : Host.Outcome State Fault Refusal :=
  s.run (fun d =>
    match d.pst.vints.find? (fun v => v.own && !v.shipped && v.state == .sealed) with
    | some v =>
      let len := Device.imageLen v
      if !d.ships || d.hold.stopAdm || !d.mir.linkUp || !d.mir.attached || decide (d.twinRoom < len) || !d.mayReserve 0x40 frameMax 0x410 then d
      else
        let v := { v with prev := if d.mir.joinPrev0 then 0 else d.mir.lastShipped }
        let d := d.sendImage v 0
        let d := d.setPst { d.pst with vints := updateFirst (fun x => x.num == v.num) (fun x => { x with shipped := true, prev := v.prev }) d.pst.vints }
        (d.setMir { d.mir with lastShipped := v.num, joinPrev0 := false,
                               markBelow := if d.mir.joinPrev0 ∧ d.mir.markBelow.isNone ∧ d.mir.role = .active then some v.num else d.mir.markBelow,
                               sentSizes := d.mir.sentSizes ++ [(v.num, len)] }).bumpPair Reg.MIR_SHIPPED_LO
    | none => d)

/-- The frames that an apply of a vintage needs beyond those that its racks hold. -/
def Device.framesFor (d : Device) (v : Vintage) : Nat :=
  (nubNat ((v.recs.filter (fun r => r.wire.metaOp.isNone && !(r.wire.resync && v.own))).map (fun r =>
    ((racksOf r.wire.off r.wire.len).filter (fun i => !(d.rack r.wire.cask i).res &&
      !(r.wire.zero && decide (r.wire.off ≤ i * 65536 ∧ i * 65536 + 65536 ≤ r.wire.off + r.wire.len)))).map (rackKey r.wire.cask))).flatten).length

/-- Whether an apply that needs new frames waits until steps 2 and 3 of R324 have freed them: while the count stays below the apply reserve. -/
def Device.applyWaits (d : Device) (v : Vintage) : Bool :=
  d.drm.short && decide (d.framesReady < 524288) && decide (d.drm.freed < d.framesFor v)

/-- The frames that an apply takes of those freed (R324). -/
def Device.takeFreed (d : Device) (n : Nat) : Device := if d.drm.short then d.setDrm { d.drm with freed := d.drm.freed - n } else d

/-- The apply of the lowest COMMITTED vintage finishes (R40, R47, R324, R495). -/
def execVintageApplyDone (s : State) : Host.Outcome State Fault Refusal :=
  s.run (fun d => match d.pst.vints with
    | v :: _ => if d.applyWaits v then d
                else if (!d.cascadeShared || decide (v.num ≤ d.trl.applyM)) && v.state == .committed then
                  (((d.takeFreed (d.framesFor v)).applyVint v.num).noteApplied v).settle else d
    | [] => d)

end Sys2Proof.Machine
end

