-- ==== Sys2Proof/Machine/HostCmds.lean ====
section
/-! DEFINITION. Commands of the host rings and of the queue manager (R196–R207, R213–R219, R225–R234, R237). -/

namespace Sys2Proof.Machine

def hrgBlk : Nat := Reg.HRG_POLL / 65536

/-- The bytes of host data that a descriptor's operation reads. -/
def hostNeed (dw : List Word) : Nat :=
  let op := dOpcode dw
  let data := if op = 0x02 ∨ op = 0xC1 ∨ op = 0xC9 then dLength dw
              else if op = 0xB1 then 128
              else if op = 0xB8 then 16
              else if op = 0xB9 ∨ op = 0xBA ∨ op = 0xBC then 64
              else if (op = 0x09 ∨ op = 0x10) ∧ !dCaskIo dw then dLength dw
              else 0
  data + (if dSgl dw then 16 * dSglCnt dw else 0)

namespace Device

/-- A doorbell that is ignored (R202). -/
def badDoorbell (d : Device) (fn : Nat) : Device :=
  (d.setFld Fld.HRG_FN_STATUS_DB_ERR 1 fn).eventR 3 hrgBlk 202

/-- A new tail becomes known; POLL turns 1 (R207). -/
def newTail (d : Device) (fn q : Nat) (s : Sq) (t : Nat) : Device :=
  let s' := { s with tail := t, poll := s.poll || s.shadow }
  let d := d.putSq fn q s'
  if s.shadow && !s.poll then d.writeShadow fn q s' else d

/-- Whether an SQ holds descriptors not yet fetched. -/
def hasWork (s : Sq) : Bool := decide (s.fetchSeq % 2 ^ s.log2 ≠ s.tail)

/-- Whether the CQ that an SQ posts to may take the entry of one more descriptor (R204). -/
def cqOpen (d : Device) (fn : Nat) (s : Sq) : Bool :=
  match d.cq? fn s.cq with
  | some c => c.wait.isEmpty && cqRoom c
  | none => false

/-- Whether a descriptor of an SQ may be fetched: it holds work, its CQ is not full, and neither it nor its function is stopped (R204,
R216, R219). -/
def mayFetch (d : Device) (fn : Nat) (s : Sq) : Bool := !d.portStopped && !s.stopped && !d.fnStopped fn && hasWork s && d.cqOpen fn s

/-- The entry that comes after `last` in a rising list, going round. -/
def nextAfter (last : Nat) (l : List Nat) : Option Nat :=
  match l.find? (fun x => decide (last < x)) with
  | some x => some x
  | none => l.head?

/-- The SQs of a function that take part in the arbitration of R203: an SQ whose reservation was refused waits for its retry (R237). -/
def fetchable (d : Device) (fn : Nat) : List Nat :=
  (d.hrg.sqs.filter (fun p => decide (p.1 / 256 = fn) && d.mayFetch fn p.2 && !p.2.refused)).map (fun p => p.1 % 256)

/-- The functions with such an SQ, rising. -/
def fetchFns (d : Device) : List Nat :=
  d.hrg.sqs.foldl (fun (a : List Nat) p => if d.mayFetch (p.1 / 256) p.2 && !p.2.refused then insertNat (p.1 / 256) a else a) []

/-- Whose turn it is to have a descriptor fetched (R203): the next function in plain round-robin, and of its SQs the one in hand while its
weight lasts, then the next one. A WEIGHT is taken as the number of fetches of an SQ in one round (DESIGN CHOICE, log 35). -/
def fetchTurn (d : Device) : Option (Nat × Nat) :=
  match nextAfter d.hrg.rrFn d.fetchFns with
  | none => none
  | some fn =>
    let qs := d.fetchable fn
    match d.hrg.rrSq.find? fn with
    | some (q, left) => if left ≠ 0 ∧ qs.contains q then some (fn, q) else (nextAfter q qs).map (fun q => (fn, q))
    | none => qs.head?.map (fun q => (fn, q))

/-- The turn of an SQ is used: the function has been served, and the SQ's weight is one less (R203). -/
def useTurn (d : Device) (fn q : Nat) : Device :=
  let w := match d.sq? fn q with
    | some s => s.weight
    | none => 1
  let left := match d.hrg.rrSq.find? fn with
    | some (q', left) => if q' = q ∧ left ≠ 0 then left - 1 else w - 1
    | none => w - 1
  { d with hrg := { d.hrg with rrFn := fn, rrSq := d.hrg.rrSq.put fn (q, left) } }

/-- Fetch the next descriptor of an SQ (R203, R225, R237): a reservation of cells that is refused leaves it unfetched, and the SQ waits for
its retry. Data of more than one largest packet passes through the cells of one, a piece after another (DEDUCED, log 12). -/
def fetchDesc (d : Device) (fn q : Nat) (words : List Word) : Device :=
  match d.sq? fn q with
  | none => d
  | some s =>
    if !d.mayFetch fn s then d.rereadHead fn s.cq
    else
      let dw := (words ++ List.replicate 16 0).take 16
      let need := hostNeed dw
      let len := min need 1048576
      let cells := cellsFor len
      if !d.mayReserve s.qmq cells fn then (d.refuseCells s.qmq cells).putSq fn q { s with refused := true }
      else
        let d := d.unperch
        let x : DescState := { seq := s.fetchSeq, dw := dw, phase := .fetched, need := need, data := [], hostErr := false, parts := 1,
                               status := 0, r0 := 0, r1 := 0, startedAt := 0, sgl := [], fetchNo := d.hrg.fetches }
        let d := d.addPkt s.qmq { tok := .desc fn q s.fetchSeq, owner := fn, cells := cells, whole := need == 0, poison := false,
                                      void := false, len := 64 + len }
        let d := d.putSq fn q { s with fetchSeq := s.fetchSeq + 1, descs := s.descs ++ [x], refused := false }
        let d : Device := { d with hrg := { d.hrg with fetches := d.hrg.fetches + 1 } }
        let d := if need = 0 ∨ (d.refusedBy fn q dw).isSome then d else d.emit (.hostRead fn (dHaddr dw) need)
        let d := if (d.refusedBy fn q dw).isSome then d.updDesc fn q x.seq (fun y => { y with need := 0 }) else d
        reapRefused fn q 65536 d

/-- A QMQ for a new SQ: MC0 creates the lowest unused queue of 0x0400–0x83FF (R235; which one is the model's own choice, log 64). -/
def newQmq (d : Device) : Nat :=
  (((List.range (min 32768 (d.qmg.queues.length + 1))).find? (fun n => (d.queue (0x400 + n)).state == 0)).getD 0) + 0x400

/-- A new SQ. POLL of an SQ with SHADOW = 1 begins at 1, and is not written to the host then (DESIGN CHOICE, log 37). -/
def newSq (base log2 cq qmq : Nat) (nowait shadow ccwEn : Bool) (ccw weight now : Nat) : Sq :=
  { base := base, log2 := log2, cq := cq, nowait := nowait, shadow := shadow, ccwEn := ccwEn, ccwAddr := ccw, weight := weight, tail := 0,
    fetchSeq := 0, headSeq := 0, count := 0, ccwDue := false, ccwAt := now, poll := shadow, emptyAt := now, descs := [], stopped := false,
    qmq := qmq, deleting := none }

def newCq (base log2 : Nat) (ien : Bool) (vec cnt us : Nat) : Cq :=
  { base := base, log2 := log2, ien := ien, vec := vec, coalCnt := cnt, coalUs := us, posted := 0, released := 0, unsig := 0, unsigAt := 0,
    wait := [] }

/-- A write of HRG_AQ_CFG with its value stored (R201, HRG_AQ_CFG): queue 0 comes up, is refused with Q0_ERR, or is taken
down. At the device's limit of SQs or CQs it does not come up; the manual names no outcome, and the model gives Q0_ERR (DESIGN CHOICE,
log 36). CQ 0 signals every entry by vector 0: queue 0 is given no IEN, vector or coalescing (DESIGN CHOICE, log 62). -/
def aqEnable (d : Device) (fn : Nat) (en : Bool) : Device :=
  let live := (d.sq? fn 0).isSome
  if en then
    if live then d
    else
      let sl := d.fld Fld.HRG_AQ_CFG_SQ_LOG2 fn
      let cl := d.fld Fld.HRG_AQ_CFG_CQ_LOG2 fn
      let sb := d.pair Reg.HRG_ASQ_LO fn
      let cb := d.pair Reg.HRG_ACQ_LO fn
      if sl < 6 ∨ 12 < sl ∨ cl < 6 ∨ 12 < cl ∨ sb % 4096 ≠ 0 ∨ cb % 4096 ≠ 0 ∨ 32768 ≤ d.hrg.sqs.length ∨ 32768 ≤ d.hrg.cqs.length then
        (d.setFld Fld.HRG_AQ_CFG_EN 0 fn).setFld Fld.HRG_FN_STATUS_Q0_ERR 1 fn
      else
        let n := d.newQmq
        let d := d.openQueue n 3 fn
        let d := (d.putCq fn 0 (newCq cb cl true 0 0 0)).putSq fn 0 (newSq sb sl 0 n false false false 0 1 d.now)
        d.setFld Fld.HRG_AQ_CFG_EN 1 fn
  else if live then
    ((d.updSq fn 0 (fun s => { s with stopped := true })).setFld Fld.HRG_AQ_CFG_EN 1 fn).aqDrain fn
  else d

/-- The entries that a head index releases in a CQ (R202); none: the index is not one that the CQ may take. -/
def cqRelease (c : Cq) (value : Nat) : Option Nat :=
  let size := 2 ^ c.log2
  let k := (value + size - c.released % size) % size
  let n := if k = 0 ∧ c.posted = c.released + size then size else k
  if size ≤ value ∨ c.posted - c.released < n then none else some n

/-- A CQ head moves on by `n` entries (R204, R205). -/
def releaseCq (d : Device) (fn q : Nat) (c : Cq) (n : Nat) : Device :=
  let c := { c with released := c.released + n }
  let c := if c.released = c.posted then { c with unsig := 0 } else c
  let d := (d.putCq fn q c).drainCq fn q (c.wait.length)
  if q = 0 then d.aqDrain fn else d

/-- What waits for a descriptor of an SQ, or answers to it, forgets it: a CIPHER that waits for its slot, a RECV, and a request sent to a
remote device, which ends for no descriptor (R216). -/
def disownSq (d : Device) (fn q : Nat) : Device :=
  let keep (t : Nat × Nat × Nat) : Bool := !(t.1 == fn && t.2.1 == q)
  let lose (t : Nat × Nat × Nat) : Nat × Nat × Nat := if keep t then t else (1024, t.2)
  { d with
    cph := { d.cph with wait := d.cph.wait.filter keep }
    net := { d.net with qps := d.net.qps.map (fun (p : Nat × Qp) => (p.1, { p.2 with
      recvs := p.2.recvs.filter keep, reqs := p.2.reqs.map (fun r => { r with recv := r.recv.map lose }), out := p.2.out.map (fun o => if o.fn = fn ∧ o.q = q then { o with fn := 1024 } else o) })) }
    pdt := { d.pdt with
      eps := d.pdt.eps.map (fun (p : Nat × PdtEp) => (p.1, { p.2 with recvs := p.2.recvs.filter keep }))
      rx := d.pdt.rx.map (fun f => { f with runs := f.runs.map (fun r => { r with recv := r.recv.map lose }) })
      tx := d.pdt.tx.map (fun f => { f with msgs := f.msgs.map (fun m => if m.fn = fn ∧ m.q = q then { m with fn := 1024 } else m) }) } }

/-- Abort what an SQ has not placed, with ST_ABORTED (R216, DELETE_SQ); WAIT_COUNTs on it end so too (R213). -/
def abortSq (d : Device) (fn q : Nat) : Device :=
  let mine (t : Token) : Bool := match t with
    | .desc f p _ => f == fn && p == q
    | _ => false
  let ws := d.writesOnWay.filter (fun w => mine w.tok)
  let rs := d.pst.reads.filter (fun r => mine r.tok)
  let fs := d.pst.fences.filter (fun f => mine f.tok)
  let d := d.dropWrites (fun w => mine w.tok)
  let d := d.setPst { d.pst with reads := d.pst.reads.filter (fun r => !mine r.tok), fences := d.pst.fences.filter (fun f => !mine f.tok) }
  let d : Device := (ws.map (·.tok) ++ rs.map (·.tok) ++ fs.map (·.tok)).foldl (fun (d : Device) t => d.finish t stAborted 0 0) d
  let placedTok (seq : Nat) : Bool := (d.pst.openRecs ++ d.closed ++ d.trl.wait.map (·.2)).any (fun r => r.tok == .desc fn q seq) ||
    d.pst.vints.any (fun v => v.recs.any (fun r => r.tok == .desc fn q seq))
  let rest : List Nat := match d.sq? fn q with
    | some s => (s.descs.filter (fun x => x.phase != .done && !placedTok x.seq)).map (·.seq)
    | none => []
  (rest.foldl (fun (d : Device) seq => d.completeOne fn q seq stAborted 0 0) (d.disownSq fn q)).endWaits fn q

/-- A register of a function's window as it reads: only an admin-capable PF has block interrupts (R200, HRG_FN_EVT_CAUSE), and ADMIN of
a VF reads 0. -/
def fnReg (d : Device) (fn off : Nat) : Word :=
  if off = Reg.HRG_FN_EVT_CAUSE ∧ !d.isAdmin fn then 0
  else if off = Reg.HRG_FN_CFG ∧ fn % 64 ≠ 0 then bitsSet (d.reg off fn) 31 31 0
  else if (regSpec? off).isNone then 0
  else d.reg off fn

/-- The 4 KiB image of IDENTIFY (R547): the GEN identity and capability registers in offset order, then the window
registers +0x100–+0x13F of the function. -/
def identifyBytes (d : Device) (fn : Nat) : List Byte :=
  let g := ((List.range 16).map (fun i => leBytes 4 (d.identityReg (4 * i)).toNat)).flatten
  let w := ((List.range 16).map (fun i => leBytes 4 (d.fnReg fn (Reg.HRG_FN_CFG + 4 * i)).toNat)).flatten
  (g ++ List.replicate 192 0 ++ w ++ List.replicate 4096 0).take 4096

end Device

/-- Whether an access of a doorbell slot is the aligned 32-bit or 64-bit write of R202: `byte` is where in the 8 B slot it begins. -/
def doorbellOk (byte width : Nat) : Bool := byte == 0 && (width == 4 || width == 8)

/-- A tail doorbell (R202): `width` in bytes, from byte `byte` of the slot. -/
def execSqDoorbell (fn q byte width value : Nat) (s : State) : Host.Outcome State Fault Refusal :=
  s.run (fun d =>
    if !d.fnExists fn || d.fnStopped fn || d.portStopped then d
    else match d.sq? fn q with
      | some sq => if !doorbellOk byte width ∨ 2 ^ sq.log2 ≤ value then d.badDoorbell fn else d.newTail fn q sq value
      | none => d.badDoorbell fn)

/-- A head doorbell (R202, R205). The index that a full CQ already stands at releases all of its entries: it is the only way to say so
(DEDUCED, log 8). -/
def execCqDoorbell (fn q byte width value : Nat) (s : State) : Host.Outcome State Fault Refusal :=
  s.run (fun d =>
    if !d.fnExists fn || d.fnStopped fn || d.portStopped then d
    else match d.cq? fn q with
      | some c =>
        match if doorbellOk byte width then Device.cqRelease c value else none with
        | some n => d.releaseCq fn q c n
        | none => d.badDoorbell fn
      | none => d.badDoorbell fn)

namespace Device

/-- The shadow head of CQ `q` that was read again because the CQ stands full (R204) takes effect as a head doorbell does; one that would
release what is not posted has no effect (log 37), and one that stands where the head stood releases nothing. -/
def takeShadowHead (d : Device) (fn q head : Nat) : Device :=
  match d.cq? fn q with
  | some c =>
    if c.reread then
      let c := { c with reread := false }
      match cqRelease c (head % 65536) with
      | some n => if head % 65536 = c.released % 2 ^ c.log2 then d.putCq fn q c else d.releaseCq fn q c n
      | none => d.putCq fn q c
    else d
  | none => d

/-- The shadow tail of SQ `q` that was read while POLL was 1 (R207). A tail that is not below the ring size has no effect, and counts as no
doorbell: R202 speaks of doorbells alone (DESIGN CHOICE, log 37). -/
def takeShadowTail (d : Device) (fn q tail : Nat) : Device :=
  match d.sq? fn q with
  | some sq =>
    if sq.shadow && sq.poll && decide (tail % 65536 < 2 ^ sq.log2) then
      (d.emit (.hostRead fn (d.shadowSlot fn q) 8)).newTail fn q sq (tail % 65536)
    else d
  | none => d

end Device

/-- Bytes 0–7 of shadow slot `q` are read: the tail of SQ `q`, while its POLL is 1 (R207), and the head of CQ `q`, while it stands full
(R204). -/
def execShadowTailPoll (fn q tail head : Nat) (s : State) : Host.Outcome State Fault Refusal :=
  s.run (fun d => if d.flag Fld.HRG_SHADOW_LO_EN fn && !d.fnStopped fn then (d.takeShadowHead fn q head).takeShadowTail fn q tail else d)

/-- IDLE_US passes with the SQ empty (R207): POLL = 0 is written, and the shadow tail is read once more. -/
def execShadowPollIdle (fn q tail : Nat) (s : State) : Host.Outcome State Fault Refusal :=
  s.run (fun d => match d.sq? fn q with
    | some sq =>
      if sq.shadow && sq.poll && d.flag Fld.HRG_SHADOW_LO_EN fn && !d.fnStopped fn && sq.descs.isEmpty && !Device.hasWork sq then
        let d := d.waitUntil (sq.emptyAt + d.fld Fld.HRG_POLL_IDLE_US)
        let sq := { sq with poll := false }
        let d := (d.putSq fn q sq).writeShadow fn q sq
        let d := d.emit (.hostRead fn (d.shadowSlot fn q) 8)
        if tail % 65536 < 2 ^ sq.log2 ∧ tail % 65536 ≠ sq.tail then d.newTail fn q sq (tail % 65536) else d
      else d
    | none => d)

/-- The descriptor of an SQ is fetched when it is the SQ's turn (R203); the words are what lies in its slot. An SQ whose turn it is not is
left as it is, but for the shadow head of a CQ that stands full (R204). -/
def execDescriptorFetch (fn q : Nat) (words : List Word) (s : State) : Host.Outcome State Fault Refusal :=
  s.run (fun d =>
    if d.fetchTurn = some (fn, q) then (d.useTurn fn q).fetchDesc fn q words
    else match d.sq? fn q with
      | some sq => d.rereadHead fn sq.cq
      | none => d)

/-- A host-ring engine retries a reservation that was refused, when cells have been freed (R237). -/
def execCellReserveRetry (fn q : Nat) (words : List Word) (s : State) : Host.Outcome State Fault Refusal :=
  s.run (fun d => match d.sq? fn q with
    | some sq => if sq.refused then d.fetchDesc fn q words else d
    | none => d)

/-- Host data for a descriptor arrives and its packet is committed, or its read fails and the packet is rewound (R208, R209, R226, R227). An
entry of its list gives an address, a length and bytes 12–15. -/
def execHostReadCompletion (fn q seq : Nat) (sgl : List (Nat × Nat × Nat)) (data : List Byte) (err : Bool) (s : State) :
    Host.Outcome State Fault Refusal :=
  s.run (fun d =>
    if d.fnStopped fn then d
    else match d.sq? fn q, d.desc? fn q seq with
      | some sq, some x =>
        if x.phase = .fetched ∧ x.need ≠ 0 then
          let d := d.updDesc fn q seq (fun x => { x with need := 0, sgl := sgl.map (fun e => (e.1, e.2.1)), sglBad := sgl.any (fun e => e.2.2 != 0), data := data.take (dLength x.dw), hostErr := err })
          if err then (d.setFld Fld.HRG_FN_STATUS_HOST_ERR 1 fn).rewindPkt sq.qmq (.desc fn q seq)      -- R227
          else d.commitPkt sq.qmq (.desc fn q seq)
        else d
      | _, _ => d)

/-- CREATE_CQ (R216). -/
def execCreateCq (fn : Nat) (s : State) : Host.Outcome State Fault Refusal :=
  s.run (fun d => d.fnCmd fn 0x80 (fun d x =>
    let id := dwF x.dw 8 7 0
    let lg := dwF x.dw 8 20 16
    let held := (d.hrg.cqs.filter (fun p => decide (p.1 / 256 = fn ∧ p.1 % 256 ≠ 0))).length
    if id = 0 ∨ (d.cq? fn id).isSome ∨ lg < 6 ∨ 16 < lg ∨ 256 < dwF x.dw 9 8 0 ∨ dw64 x.dw 10 % 4096 ≠ 0 then
      d.complete fn 0 x.seq stRange 0 0
    else if d.fld Fld.HRG_FN_CFG_MAX_CQ fn ≤ held ∨ 32768 ≤ d.hrg.cqs.length then d.complete fn 0 x.seq stBudget 0 0
    else
      (d.putCq fn id (Device.newCq (dw64 x.dw 10) lg (bitAt (dwAt x.dw 8) 24) (dwF x.dw 9 8 0) (dwF x.dw 9 23 16) (dwF x.dw 9 31 24))).complete
        fn 0 x.seq stOk 0 0))

/-- DELETE_CQ (R216). For an ID that names no CQ of the function's own creation the manual gives no status; ST_RANGE (DESIGN CHOICE, log 38). -/
def execDeleteCq (fn : Nat) (s : State) : Host.Outcome State Fault Refusal :=
  s.run (fun d => d.fnCmd fn 0x81 (fun d x =>
    let id := dwF x.dw 8 7 0
    if id = 0 ∨ (d.cq? fn id).isNone then d.complete fn 0 x.seq stRange 0 0
    else if d.hrg.sqs.any (fun p => p.1 / 256 == fn && p.2.cq == id) then d.complete fn 0 x.seq stProt 0 0
    else (d.delCq fn id).complete fn 0 x.seq stOk 0 0))

/-- CREATE_SQ (R216). -/
def execCreateSq (fn : Nat) (s : State) : Host.Outcome State Fault Refusal :=
  s.run (fun d => d.fnCmd fn 0x82 (fun d x =>
    let id := dwF x.dw 8 7 0
    let cq := dwF x.dw 8 15 8
    let lg := dwF x.dw 8 20 16
    let ccwEn := bitAt (dwAt x.dw 8) 26
    let held := (d.hrg.sqs.filter (fun p => decide (p.1 / 256 = fn ∧ p.1 % 256 ≠ 0))).length
    if id = 0 ∨ (d.sq? fn id).isSome ∨ lg < 6 ∨ 16 < lg ∨ cq = 0 ∨ (d.cq? fn cq).isNone ∨ dw64 x.dw 10 % 4096 ≠ 0 ∨
        (ccwEn ∧ dw64 x.dw 12 % 8 ≠ 0) then d.complete fn 0 x.seq stRange 0 0
    else if d.fld Fld.HRG_FN_CFG_MAX_SQ fn ≤ held ∨ 32768 ≤ d.hrg.sqs.length then d.complete fn 0 x.seq stBudget 0 0
    else
      let n := d.newQmq
      let d := d.openQueue n 3 fn
      (d.putSq fn id (Device.newSq (dw64 x.dw 10) lg cq n (bitAt (dwAt x.dw 8) 24) (bitAt (dwAt x.dw 8) 25) ccwEn (dw64 x.dw 12)
        (max 1 (dwF x.dw 8 31 28)) d.now)).complete fn 0 x.seq stOk 0 0))

/-- DELETE_SQ (R216): it completes when no descriptor of the SQ remains. For an ID that names no such SQ, or one that is being deleted, the
manual gives no status; ST_RANGE (DESIGN CHOICE, log 38). -/
def execDeleteSq (fn : Nat) (s : State) : Host.Outcome State Fault Refusal :=
  s.run (fun d => d.fnCmd fn 0x83 (fun d x =>
    let id := dwF x.dw 8 7 0
    match d.sq? fn id with
    | none => d.complete fn 0 x.seq stRange 0 0
    | some sq =>
      if id = 0 ∨ sq.deleting.isSome then d.complete fn 0 x.seq stRange 0 0
      else ((d.putSq fn id { sq with stopped := true, deleting := some x.seq }).abortSq fn id).finishDelete fn id))

/-- IDENTIFY (R547). -/
def execIdentify (fn : Nat) (s : State) : Host.Outcome State Fault Refusal :=
  s.run (fun d => d.fnCmd fn 0x84 (fun d x => d.answerHost fn 0 x (d.identifyBytes fn)))

/-- FN_RESET (R216, R218): it completes at step 6 of R219; naming the issuing PF itself, it posts no entry. -/
def execFnReset (fn : Nat) (s : State) : Host.Outcome State Fault Refusal :=
  s.run (fun d => d.devCmd fn 0xA0 (fun d x =>
    let f := dwF x.dw 8 9 0
    if !d.fnExists f then d.complete fn 0 x.seq stRange 0 0
    else d.startFnReset (if f = fn then [] else [(fn, 0, x.seq)]) f))

/-- DEVICE_RESET (R216): a warm reset with cause 0x3; no entry is posted. -/
def execDeviceReset (fn : Nat) (s : State) : Host.Outcome State Fault Refusal :=
  s.run (fun d => d.devCmd fn 0xA1 (fun d x =>
    if (dwAt x.dw 8).toNat ≠ 0x5A5A then d.complete fn 0 x.seq stRange 0 0 else d.resetRequest 3 0))

/-- PROFILE_SELECT (R439). -/
def execProfileSelect (fn : Nat) (s : State) : Host.Outcome State Fault Refusal :=
  s.run (fun d => d.devCmd fn 0xA2 (fun d x =>
    (d.setSup { d.sup with profNext := some (dwF x.dw 8 1 0) }).complete fn 0 x.seq stOk 0 0))

/-- FLR (R218). -/
def execFlr (fn : Nat) (s : State) : Host.Outcome State Fault Refusal :=
  s.run (fun d => if d.fnExists fn then d.startFnReset [] fn else d)

/-- VF Enable of a PF is cleared (R218). -/
def execVfDisable (link : Nat) (s : State) : Host.Outcome State Fault Refusal :=
  s.run (fun d => match d.hrg.links.find? link with
    | some l =>
      if l.vfEn then
        let d := ((d.linkFns link).filter (fun f => decide (f % 64 ≠ 0))).foldl (fun d f => d.startFnReset [] f) d
        { d with hrg := { d.hrg with links := d.hrg.links.put link { l with vfEn := false } } }
      else d
    | none => d)

/-- VF Enable of a PF is set with NumVFs (R197). -/
def execVfEnable (link numVfs : Nat) (s : State) : Host.Outcome State Fault Refusal :=
  s.run (fun d => match d.hrg.links.find? link with
    | some l => if l.up then { d with hrg := { d.hrg with links := d.hrg.links.put link { l with vfEn := true, numVfs := min numVfs 63 } } } else d
    | none => d)

/-- A PCIe hot reset of a link (R218). -/
def execPortHotReset (link : Nat) (s : State) : Host.Outcome State Fault Refusal :=
  s.run (fun d => match d.hrg.links.find? link with
    | some l =>
      if l.up then
        let d := (d.linkFns link).foldl (fun d f => d.startFnReset [] f) d
        { d with hrg := { d.hrg with links := d.hrg.links.put link { l with vfEn := false, numVfs := 0 } } }
      else d
    | none => d)

/-- A PCIe link is lost (R199, R218). -/
def execPcieLinkDown (link : Nat) (s : State) : Host.Outcome State Fault Refusal :=
  s.run (fun d => d.linkDown link)

/-- The links that BIFUR in force gives a port (R196). -/
def bifurLinks (b : Nat) : List Nat :=
  match b with
  | 0 => [0]
  | 1 => [0, 2]
  | 2 => [0, 2, 3]
  | _ => [0, 1, 2, 3]

/-- A PCIe link finishes training (R196, R199). -/
def execPcieLinkUp (link : Nat) (s : State) : Host.Outcome State Fault Refusal :=
  s.run (fun d =>
    if d.hubOn && d.hold.bottle.isNone && decide (link < 16) && (bifurLinks (d.hrg.bifur.getD (link / 4) 0)).contains (link % 4) then
      ({ d with hrg := { d.hrg with links := d.hrg.links.put link { up := true, vfEn := false, numVfs := 0 } } }).ensureAdmin
    else d)

/-- 10 ms after a per-function reset began (R219 step 6). -/
def execFnResetReady (fn : Nat) (s : State) : Host.Outcome State Fault Refusal :=
  s.run (fun d => match d.hrg.resets.find? fn with
    | some r => (d.waitUntil (r.startAt + 10000)).finishFnReset fn
    | none => d)

/-- The oldest unsignalled entry is COAL_US old (R205). -/
def execCqCoalesceTimer (fn q : Nat) (s : State) : Host.Outcome State Fault Refusal :=
  s.run (fun d => match d.cq? fn q with
    | some c => if c.ien ∧ c.unsig ≠ 0 then (d.waitUntil (c.unsigAt + c.coalUs)).signalCq fn q c else d
    | none => d)

namespace Device

/-- Whether an entry of SQ `q` still waits for room in the CQ (R204). -/
def entryWaits (d : Device) (fn q : Nat) (sq : Sq) : Bool :=
  match d.cq? fn sq.cq with
  | some c => c.wait.any (fun dw => dwF dw 0 15 0 == q)
  | none => false

end Device

/-- The completion-count word is written, at most once a microsecond, after the entries of the descriptors it counts (R206). -/
def execCcwWrite (fn q : Nat) (s : State) : Host.Outcome State Fault Refusal :=
  s.run (fun d => match d.sq? fn q with
    | some sq =>
      if sq.ccwEn && sq.ccwDue && d.mayWriteWords fn q && !d.fnStopped fn && !d.entryWaits fn q sq then
        let d := d.waitUntil (sq.ccwAt + 1)
        ((d.putSq fn q { sq with ccwDue := false, ccwAt := d.now }).leaving (Device.pcieQ fn)).2.emit (.hostWrite fn sq.ccwAddr (leBytes 4 sq.count ++ leBytes 4 0))
      else d
    | none => d)

/-- An error in a word of the cell memory or of the link memory, `bits` of whose bits are wrong, is met in queue `qmq` (R223): SEC-DED
corrects one (R228) and detects two. An uncorrectable cell word is poisoned (R229); an uncorrectable link word breaks its queue (R230).
The table names this row for the last of these; the others have no row of their own (DESIGN CHOICE, log 31). -/
def execLinkWordUe (qmq cell bits : Nat) (link : Bool) (s : State) : Host.Outcome State Fault Refusal :=
  s.run (fun d =>
    let q := d.queue qmq
    if q.state = 0 ∨ bits = 0 ∨ !((q.pkts ++ q.lost).any (holdsCell cell) || Device.fixedQueue qmq) then d
    else if bits = 1 then d.correctedWord qmq
    else if link then d.brokenWord qmq cell
    else d.poisonedWord qmq cell)

/-- The descriptor, or the message of a PDT flow, whose packet a broken queue has lost: what it had begun and not placed has no effect, and it
ends with ST_ABORTED (R230; for a message, log 64). A frame is lost to its sender, which sends it again. -/
def Device.loseTok (d : Device) (t : Token) : Device :=
  match t with
  | .desc fn q seq => (d.dropUnplacedOf (fun x => x == t)).complete fn q seq stAborted 0 0
  | .pdt loc src _ msn =>
    let fail (e : PdtEntry) : PdtEntry := if e.msn = msn ∧ e.status = 0 then { e with status := stAborted, parts := [], units := [] } else e
    ((d.dropUnplacedOf (fun x => x == t)).updRx loc src (fun f => { f with entries := f.entries.map fail })).finish t stAborted 0 0
  | _ => d

/-- The sweep ends (R230): the cells that nothing reaches are free, what was lost with them ends, and the queue is live again as soon as its
consumer has drained what it still reached. -/
def execLinkSweepDone (qmq : Nat) (s : State) : Host.Outcome State Fault Refusal :=
  s.run (fun d =>
    let q := d.queue qmq
    if q.state = 3 ∧ !q.swept then
      let d := (d.setQueue qmq (Device.relive { q with lost := [], swept := true })).freePkts q.lost
      (q.lost.foldl (fun (d : Device) (p : Pkt) => d.loseTok p.tok) d).settle
    else d)

/-- The last cell of a reclaimed tag is free (R234). -/
def execReclaimDone (tag : Nat) (s : State) : Host.Outcome State Fault Refusal :=
  s.run (fun d => d.reclaimDone tag)

end Sys2Proof.Machine
end

