-- ==== Sys2Proof/Machine/Twin.lean ====
section
/-! DEFINITION. Commands of the pair: arbiter replies, role timers, link events and link frames (R141–R143, R160–R193).
An arbiter reply and a link frame carry, as operands, whether their tag or CRC checks. -/

namespace Sys2Proof.Machine

def mirBlk : Nat := Reg.MIR_CTRL / 65536

/-- The widest usable set of healthy lanes (R172). -/
def bestWidth (lanes : BitVec 16) (minLanes : Nat) : Nat :=
  let n := lanes.toNat
  let w := if n = 65535 then 16
           else if n % 256 = 255 ∨ n / 256 = 255 then 8
           else if n % 16 = 15 ∨ n / 16 % 16 = 15 ∨ n / 256 % 16 = 15 ∨ n / 4096 = 15 then 4
           else 0
  let least := match minLanes with
    | 1 => 8
    | 2 => 16
    | _ => 4
  if w < least then 0 else w

def widthCode (w : Nat) : Nat :=
  match w with
  | 4 => 1
  | 8 => 2
  | 16 => 3
  | _ => 0

/-- The records of an image received over the link (R177, R179). -/
def takenRecs (x : RxImage) : List VRecord :=
  x.recs.map (fun w => { src := .device, tok := .none, wire := w, result := 0, charge := 0, size := wireSize w, released := x.rel })

namespace Device

/-! ### Arbiter replies -/

/-- The mirror engine takes an arbiter message from the queues of R246; a message that was discarded, or that reaches MC2 poisoned, answers
nothing, and the latter is recorded as an event (R229). -/
def takeArb (d : Device) (r : ArbReply) : Device × ArbReply :=
  let n := ((List.range 8).find? (fun n => !((d.net.marks.find? (0x30 + n)).getD []).isEmpty || d.qmg.bad.contains (0x30 + n))).getD 0
  match d.popIn (0x30 + n) with
  | (d, none) => (d, { r with ok := false })
  | (d, some (_, poison)) => if poison then (d.eventR 3 qmgBlk 229, { r with ok := false }) else (d, r)

/-- R170, first case: the reply answers a request not yet answered, be it one sent anew since. The unit takes its EPOCH, and what it says of
RESULT and STALE. With a unit-number conflict the unit takes no part in the pair (R175). -/
def acceptReply (d : Device) (r : ArbReply) (kinds : List Nat) : Option (ArbMsg × Device) :=
  if !r.ok || r.pair != d.pair Reg.MIR_PAIR_LO || decide (r.epoch < d.mir.epoch) || decide (3 ≤ d.hold.phase) || d.mir.unitConflict then none
  else match d.mir.waitArb.find? (fun m => m.seq == r.echo && decide (m.seq < 2 ^ 64) && kinds.contains m.kind) with
    | none => none
    | some m =>
      some (m, d.setMir { d.mir with waitArb := removeFirst (fun x => x.seq == r.echo) d.mir.waitArb, epoch := r.epoch, lastResult := r.result,
                                     stale := natBit r.stale d.unit, staleKnown := true, chainOpen := d.mir.chainOpen || decide (d.mir.epoch < r.epoch) })

/-- Send ROLE JOIN (R188); margins return to nominal first (R409). Not while the unit numbers conflict (R175). A unit that has lost both copies of
a duplexed page joins as one with no image (R320). -/
def sendJoin (d : Device) : Device :=
  if d.mir.unitConflict then d
  else
    let d := if d.drm.fence && !d.rst.noImage then d.setRst { d.rst with noImage := true, phase := 8, svcOpen := false } else d
    let d := if d.rst.noImage then d.formatSpace else d       -- R509
    (d.dropMargins.setMir { d.mir with joinReq := true }).vae "ROLE" [1, d.hNum]

/-- A unit becomes STANDBY (R161 step 4, R190): its handback delay starts (R191). When this is its first role, the first vintage that it
takes may be the first of the epoch (R179). What an active unit has placed since a handback was proposed seals, with no completion (R35,
R40). -/
def becomeStandby (d : Device) : Device :=
  let d := if d.placesWrites then (d.setRole .standby).forceSeal else d.setRole .standby
  d.setMir { d.mir with hbArmedAt := some d.now, serving := true, chainOpen := d.mir.chainOpen || !d.mir.serving }

/-- After a zeroize a unit stays DETACHED until a pair key is loaded (R384); which MKEY slots its casks will name it cannot know before the resync
(DEDUCED, log 66). -/
def keysBack (d : Device) : Bool :=
  d.newestSaid != some .zeroize || (d.slotPermits (d.fld Fld.MIR_ARB_KEY_KSLOT) 2 && !d.slotPending (d.fld Fld.MIR_ARB_KEY_KSLOT))

/-- Whether this unit has resolved and holds every agreed vintage: roles are assigned then (R143, R161). -/
def agreed (d : Device) : Bool := d.rst.resolved && d.rst.awaits.isEmpty

/-- The twin holds the lease (R161 step 4): STANDBY when the arbiter has reported that this unit is not stale, else it joins. The arbiter
reports so in a reply only: a unit that has had none asks with LEASE_REQUEST, unless its twin is SOLO, whose lease made this unit stale
(DEDUCED, log 47). A unit that has not resolved goes on waiting for its twin (R141, R143), and one whose space was cleared stays DETACHED
(R154). -/
def followTwin (d : Device) : Device :=
  if !d.agreed || d.rst.cleared then d
  else if d.mir.staleKnown then (if d.mir.stale then d.sendJoin else d.becomeStandby)
  else if d.mir.twinRole = some .solo then d.sendJoin
  else if d.mir.waitArb.any (fun m => m.kind == arbLeaseRequest) then d
  else d.requestLease d.rst.alone

/-! ### Resolution (R141–R143) -/

/-- Commit a pending vintage at emergence: it is applied, and its pages are written home by consolidation (R139), so they
are clean. `own` says that this unit sealed it: resync records change nothing on the unit that sent them (R189). -/
def commitPending (d : Device) (own : Bool) (p : Pending) : Device :=
  let d := p.recs.foldl (fun d r => match r.wire.metaOp with
    | some m => d.commitMeta m
    | none => d) d
  let d := (p.recs.foldl (fun d r => d.applyRec own false r) d).reserveFor p.num
  d.setPst { d.pst with commitNum := max d.pst.commitNum p.num, appliedNum := max d.pst.appliedNum p.num }

/-- What the other devices of a shared cascade have reported to the master (R501); nothing elsewhere. -/
def reports (d : Device) : List (Nat × List (Nat × Bool)) :=
  if d.cascadeShared && d.cascadeMaster then d.others.filterMap (fun i => (d.trlDev i).report) else []

/-- H of this unit: in a shared cascade the highest vintage that any device committed (R501). -/
def hAll (d : Device) : Nat := d.reports.foldl (fun a r => max a r.1) d.hNum

/-- The unit's pending vintages with REL, merged over the devices of a shared cascade (R501). -/
def pendAll (d : Device) : List (Nat × Bool) :=
  (d.reports.foldl (fun (a : AMap Bool) r => r.2.foldl (fun (a : AMap Bool) (q : Nat × Bool) => a.put q.1 ((a.find? q.1).getD false || q.2)) a)
    (d.rst.pend.foldl (fun (a : AMap Bool) (q : Pending) => a.put q.num q.rel) []))

/-- Which pending vintages stand (R142, R501), given the other unit's H and which numbers it holds as committed. -/
def pendingStands (d : Device) (hTwin : Nat) (held : Nat → Bool) (num : Nat) : Bool :=
  let k := max d.hAll hTwin
  held num || (d.cascadeShared && decide (num ≤ d.hAll)) || (decide (k ≤ num) && d.pendAll.any (fun q => q.2 && decide (num ≤ q.1)))

/-- Resolution ends (R142): every pending vintage commits or is discarded, whole. `k` is K, and `stands` picks those that commit. -/
def endResolve (d : Device) (k hTwin : Nat) (stands : Nat → Bool) (alone : Bool) : Device :=
    let keep := d.rst.pend.filter (fun p => stands p.num)
    let gone := d.rst.pend.length - keep.length
    let d := (d.rst.pend.filter (fun p => !stands p.num)).foldl (fun (d : Device) p => d.freeCharge (chargeSum p.recs)) d     -- R104
    let d := (sortBy (fun (a b : Pending) => decide (a.num ≤ b.num)) keep).foldl (fun d p => d.commitPending true p) d
    let d := if d.rst.phase = 4 then d.homeDirty else d
    let vR := keep.foldl (fun a p => max a p.num) k
    let d := d.setRst { d.rst with pend := [], resolved := true, vR := vR, alone := alone, twinH := some hTwin }
    let d := (d.setPair Reg.PST_RST_RESOLVE_LO vR).setFld Fld.PST_RST_PEND_COMMITTED keep.length
    let d := (d.setFld Fld.PST_RST_PEND_DISCARDED gone).setMir { d.mir with firstAt := d.now }
    if alone then d.raise Reg.PST_RST_INT_STATUS 3 3 else d

/-- Resolution of this unit (R142). In a shared cascade the master resolves for every device, and tells the members which pending
vintages stand (R501). -/
def resolve (d : Device) (hTwin : Nat) (held : Nat → Bool) (alone : Bool) : Device :=
  if d.rst.resolved || (d.cascadeShared && d.cascadeMember) then d
  else
    let k := max d.hAll hTwin
    let nums := (d.pendAll.map (fun (q : Nat × Bool) => q.1)).filter (d.pendingStands hTwin held)
    let d := d.endResolve (nums.foldl max k) hTwin (fun n => nums.contains n) alone
    if d.cascadeShared then d.trlSend 255 "CTRL" [ctlStand, 2 * d.rst.vR + b2n alone] [] (ctlBytes (nums.map (fun n => (n, true)))) else d

/-- Whether this unit is the preferred active one (R161). -/
def preferred (d : Device) : Bool :=
  let own := d.flag Fld.MIR_CTRL_PREF_STANDBY
  match d.mir.twinPref with
  | some p => if p = own then d.unit == 0 else !own
  | none => !own

/-- Step 1 of R161. -/
def firstRole (d : Device) : Device :=
  if d.mir.role = .detached ∧ d.agreed ∧ !d.mir.serving ∧ d.preferred then d.requestLease d.rst.alone else d

/-- The RESOLVE frames of this unit (R141, R177): H, its pair identity, its role at stop-admission and its pending list in the format of R144;
or NO_IMAGE (R509). Of an entry that only another device of a cascade holds, LEN is the least. -/
def resolveFrames (d : Device) : List (List Nat × List Byte × Nat) :=
  let pid := d.pair Reg.MIR_PAIR_LO
  if d.rst.noImage then [([0, 0, pid, 0, 0], resolveHead pid 0 0, 3)]
  else
    let es := d.pendAll.map (fun (q : Nat × Bool) => pendEntry { num := q.1, rel := q.2, recs := match d.rst.pend.find? (fun p => p.num == q.1) with
      | some p => p.recs
      | none => [] })
    (resolveCut (es.length + 1) (resolveHead pid d.rst.roleWas es.length) 0 254 es).map (fun x =>
      ([d.hAll, x.1, pid, d.rst.roleWas, es.length], x.2.1, x.2.2))

def sendFrames (d : Device) (kind : String) (fs : List (List Nat × List Byte × Nat)) : Device :=
  fs.foldl (fun (d : Device) f => d.vae kind f.1 [] f.2.1 f.2.2) d

/-- This unit's RESOLVE frames (R141, R177). In a shared cascade the members report to the master, and the master sends them once
it has every report (R501). -/
def sendResolve (d : Device) : Device :=
  if d.trl.mode ≠ 0 ∧ !d.trl.formed then d
  else if d.cascadeShared && d.cascadeMember then
    d.trlSend 0 "CTRL" [ctlReport, d.hNum] [] (ctlBytes (d.rst.pend.map (fun p => (p.num, p.rel))))
  else if d.cascadeShared && decide (d.reports.length < d.others.length) then d
  else if d.rst.noImage then d.sendFrames "RESOLVE" d.resolveFrames
  else
    let told := d.resolveFrames
    (d.setRst { d.rst with told := told, toldAt := d.now }).sendFrames "RESOLVE" told

/-- A unit that has resolved with its twin and not yet opened service answers a RESOLVE that the twin repeats (R178) with the frame it sent
before, at most once in the 100 µs of a repetition (log 17). -/
def answerResolve (d : Device) : Device :=
  if d.rst.resolved && !d.rst.alone && !d.rst.svcOpen && !d.rst.told.isEmpty && decide (d.rst.toldAt + 100 ≤ d.now) then
    (d.setRst { d.rst with toldAt := d.now }).sendFrames "RESOLVE" d.rst.told
  else d

/-- A pending vintage as it is shipped; its cause, which no spine keeps, is sent as FORCED (log 17). -/
def pendVint (d : Device) (p : Pending) : Vintage :=
  { num := p.num, state := .sealed, cause := .forced, recs := p.recs, sealedAt := d.now, shipped := true, acked := false, own := true }

/-- A pending vintage at or below V_R that the twin lacks is shipped to it (R143). -/
def shipPending (d : Device) (twinH : Nat) (held : Nat → Bool) (twinPend : List Nat) : Device :=
  let ps := d.rst.pend.filter (fun p => !held p.num && !twinPend.contains p.num && d.pendingStands twinH held p.num)
  ps.foldl (fun (d : Device) p => d.sendImage (d.pendVint p) 0) (d.setRst { d.rst with sentPend := ps })

/-- An agreed vintage that the twin shipped is held whole (R143): it commits here. Once every one is here this unit may take its first role,
or the service that its lease brings. -/
def takeAgreed (d : Device) (p : Pending) : Device :=
  let d := d.commitPending false p
  let d := if d.rst.phase = 4 then d.homeDirty else d
  let d := d.setRst { d.rst with awaits := d.rst.awaits.filter (fun n => decide (n ≠ p.num)) }
  match d.rst.awaits, d.rst.owed with
  | [], some solo => if d.placesWrites then ((d.setRst { d.rst with owed := none }).takeService solo).settle else d.setRst { d.rst with owed := none }
  | _, _ => d.firstRole

/-! ### Link frames -/

/-- Whether vintages come to this unit: it is STANDBY or RESYNC, or waits for agreed ones (R143). -/
def vintagesCome (d : Device) : Bool := d.receives || !d.rst.awaits.isEmpty

/-- Ask for a vintage again from its first missing byte (R178): the one in reception, else the one after the last held whole (DEDUCED,
log 9). -/
def askAgain (d : Device) : Device :=
  let w := match d.pst.rx with
    | some x => (x.num, x.got)
    | none => (d.mir.lastWhole + 1, 0)
  (d.setMir { d.mir with rxSkip := true, rxWant := some w }).vae "VNAK" [w.1, w.2]

/-- Take a link frame (R178): none when it is dropped. `starts` says that the frame is a VHEAD, or the VDATA that a VNAK named. A receiver of
vintages drops every frame from one that fails its CRC, or from a gap in LSEQ, until such a frame; a unit to which no vintage comes, and so
neither of them, drops only what fails its CRC (DEDUCED, log 9). The first frame after link-up sets LSEQ. A frame with a poisoned word in its
cells counts as one whose CRC fails (DEDUCED, log 31); one that finds no cells is discarded, and its gap in LSEQ draws the VNAK (R237). -/
def rxFrame (d : Device) (lseq : Nat) (crc starts : Bool) : Device × Bool :=
  if !d.mir.linkUp then (d, false)
  else if !crc || d.qmg.bad.contains 0x41 then
    let d := (d.passing 0x41).2
    (if d.vintagesCome && !d.mir.rxSkip then d.askAgain else d, false)
  else if !d.mayReserve 0x41 frameMax 0x410 then (d.refuseCells 0x41 frameMax, false)
  else
    let gap := !d.mir.rxFirst && lseq != (d.mir.rxLseq + 1) % 4294967296
    let skip := d.mir.rxSkip && d.vintagesCome
    let d := d.setMir { d.mir with lastGoodAt := d.now, rxLseq := lseq, rxFirst := false }
    if starts then (d.setMir { d.mir with rxSkip := false, rxWant := none }, true)
    else if skip then (d, false)
    else if gap && d.vintagesCome then (d.askAgain, false)
    else (d, true)

/-- Acknowledge the vintages held whole, unless no generation is ERASED (R152, R179): they commit here. -/
def ackHeld (d : Device) : Device :=
  if d.targetGen.isNone || !d.receives then d
  else
    let vs := d.pst.vints.filter (fun v => !v.own && v.state == .sealed)
    if vs.isEmpty then d
    else
      let d := vs.foldl (fun d v => d.commitVint v false) d
      let top := d.pst.commitNum
      (d.setMir { d.mir with ackedNum := top }).vaeBudget "VACK" [d.mir.lastWhole, d.pst.appliedNum]

/-- The twin acknowledges every vintage up to `n` (R40, R63, R181). -/
def takeAck (d : Device) (n : Nat) : Device :=
  let news := d.pst.vints.filter (fun v => v.own && !v.acked && v.shipped && decide (v.num ≤ n))
  let d := news.foldl (fun d v =>
    let t := min 65535 ((d.now - v.sealedAt) * 100)
    let d := d.setFld Fld.MIR_RTT_LAST t
    if d.fld Fld.MIR_RTT_MAX < t then d.setFld Fld.MIR_RTT_MAX t else d) d
  let d := d.setPst { d.pst with vints := d.pst.vints.map (fun v => if v.own && v.shipped && decide (v.num ≤ n) then { v with acked := true } else v) }
  (d.setMir { d.mir with twinHeld := max d.mir.twinHeld n, sentSizes := d.mir.sentSizes.filter (fun p => decide (n < p.1)) }).commitAll

/-- A budget block arrives (R180). -/
def takeBudget (d : Device) (arg0 : Nat) (b : Budget) : Device :=
  (d.setMir { d.mir with budget := some b, budgetAt := d.now, blockArg0 := arg0 }).reevalAdmit

/-- The epoch records in vintages that this unit holds and has not applied, as the epoch-start table will have them (R188). -/
def comingEpochs (d : Device) : List (Nat × Nat × Nat) :=
  (d.pst.vints.map (fun v => v.recs.filterMap (fun r => match r.wire.metaOp with
    | some (.epochRec e b) => some (e, b, (d.pst.vints.filter (fun x => decide (x.num < v.num))).foldl (fun a x => max a x.num) d.pst.appliedNum)
    | _ => none))).flatten

/-- P of a JOIN (R188); none: the joiner's epoch is older than every entry of the table. An epoch record that this unit holds and has not
applied bounds P as one of the table does. -/
def joinPoint (d : Device) (h epoch : Nat) : Option Nat :=
  if h = 0 then some 0
  else if epoch = d.mir.epoch then some (max d.pst.commitNum d.pst.sealedNum)
  else
    let later := (d.mir.epochs ++ d.comingEpochs).filter (fun e => decide (epoch < e.1))
    if d.mir.epochs.all (fun e => decide (epoch < e.1)) then none
    else match sortBy (fun (a b : Nat × Nat × Nat) => decide (a.1 ≤ b.1)) later with
      | e :: _ => some e.2.2
      | [] => some (max d.pst.commitNum d.pst.sealedNum)

/-- Every rack with CVALID = 1, every valid cask entry and every grant slot whose GEN is not 0 is marked (R188). -/
def markAll (d : Device) : Device :=
  let ks := (d.csk.racks.filter (fun p => p.2.cvalid)).map (·.1)
  let d := ks.foldl (fun d k => d.markAbsent k) d
  let d := d.csk.casks.foldl (fun (d : Device) c => d.markCask c.1) d
  (d.csk.grants.filter (fun g => decide (g.2.gen ≠ 0))).foldl (fun (d : Device) g => d.markGrant g.1) d

/-- A JOIN is outstanding on a unit that may still join: RESYNC follows its acceptance (R188). -/
def joins (d : Device) : Bool := d.mir.joinReq && (d.mir.role == .detached || d.mir.role == .fenced)

/-- A JOIN was refused (R188, R194): JOIN_REFUSED sets, and each refusal is an event of severity EMERGENCY. -/
def joinRefused (d : Device) : Device :=
  if bitAt (d.reg Reg.MIR_INT_STATUS) 7 then d.eventR 7 mirBlk 188 else d.raise Reg.MIR_INT_STATUS 7 7

/-- Accept or refuse a JOIN (R162, R188). While SOLO confirmation is awaited it is not answered: the joiner repeats it (R178, R182; DEDUCED,
log 47). Vintages applied below the first one shipped to the joiner stay marked (R187). -/
def answerJoin (d : Device) (h epoch : Nat) (pairOk : Bool) : Device :=
  if !d.placesWrites || d.mir.soloPend then d
  else match d.joinPoint h epoch with
    | none => (d.vae "ROLE" [3, 0]).joinRefused
    | some p =>
      if !pairOk || decide (p < h) then (d.vae "ROLE" [3, 0]).joinRefused
      else
        let d := if h = 0 then d.markAll else d
        let d := d.vae "ROLE" [2, p]
        let solo := d.mir.role == .solo
        let d := if solo then d.forceSeal else d           -- R40: a role change seals, and SOLO commits it
        let d := d.setMir { d.mir with joinPrev0 := true, attached := true, absent := false, syncLast := none, marking := true, markBelow := none }
        let d := if solo then (d.setRole .active).setMir { (d.setRole .active).mir with pinsOnCommit := some d.pst.nextNum } else d
        d.reevalAdmit

/-- JOIN_ACCEPT (R153, R188). -/
def joinAccepted (d : Device) (p : Nat) : Device :=
  if d.joins then
    let d := ((d.commitUpTo p).applyCommitted).dropAbove p
    let d := d.rst.pend.foldl (fun (d : Device) q => d.freeCharge (chargeSum q.recs)) d
    let d := d.setRst { d.rst with pend := [], resolved := true, awaits := [] }
    let d := d.setMir { d.mir with joinReq := false, epoch := d.mir.twinEpoch, chainOpen := true, lastWhole := 0, marking := false, stale := true,
                                   serving := true }
    let d := (d.setRole .resync).setDrm { d.drm with fence := false, bad := [] }       -- R320: the resync writes every table anew
    if d.rst.phase = 8 then
      let d := d.openRecord
      d.setRst { d.rst with phase := 0, noImage := false, svcOpen := true }
    else d
  else d

/-- Both copies of a page of a duplexed unit are lost (R320): as if FENCE_IN were asserted, and with the twin active the unit rejoins it as one with
no image. A unit that was STANDBY or in RESYNC is DETACHED then (R153). -/
def loseTables (d : Device) : Device :=
  let d := ((d.setDrm { d.drm with fence := true }).eventR 7 (Reg.DRM_CHSEL / 65536) 320).enterFenced 3
  if d.mir.linkUp && (d.mir.twinRole == some .active || d.mir.twinRole == some .solo) then
    (if d.receives then (d.setMir { d.mir with joinReq := false }).setRole .detached else d).sendJoin
  else d

/-- The target of a handback proposes it (R191 step 1): the send time is its lease start, so nothing starts while the link is down. -/
def startHandback (d : Device) : Device :=
  if d.hbWanted ∧ d.mir.linkUp ∧ !d.mir.unitConflict ∧ d.mir.hbProposed.isNone then
    (d.setMir { d.mir with hbProposed := some d.now }).vae "ROLE" [5, 0]
  else d

def sendHbRequest (d : Device) : Device := d.sendArb arbHandbackRequest 0 d.mir.hbVF (1 - d.unit) (d.altNext arbHandbackRequest)

/-! ### Resync (R189) -/

/-- The resync record of a rack: all sixteen pages, or an unwritten rack. -/
def rackRecord (d : Device) (k : Nat) : WireRec :=
  let cask := k / 2 ^ 36
  let idx := k % 2 ^ 36
  let off := idx * 65536
  let bytes := d.newestBytes cask off 65536
  let unwritten := !(d.rack cask idx).cvalid && bytes.all (fun b => b == 0)
  { cask := cask, off := off, len := 65536, bytes := if unwritten then [] else bytes, zero := unwritten, policy := .syncPreferred,
    metaOp := none, resync := true }

/-- Place a resync record when staging has room for it, as a write does (R43, R189), once `clear` has cleared its bit. -/
def placeSync (d : Device) (w : WireRec) (clear : Device → Device) : Device :=
  let size := wireSize w
  if stageCap < d.stageUsed + size then d
  else
    let d := clear d
    let d := if !d.pst.openRecs.isEmpty && decide (d.pst.openMax < recsSize d.pst.openRecs + size) then d.sealNow .size else d
    (d.placeOwn w 0 size).setMir { d.mir with syncLast := some d.pst.nextNum }

/-- Place one resync record and clear its bit, whose page of the map becomes dirty (R103, R189). A written rack that is not resident is first
read into a frame in class C3. -/
def walkOne (d : Device) : Device :=
  match d.mir.absence, d.mir.absCasks, d.mir.absGrants with
  | k :: ks, _, _ =>
    let r := d.rack (k / 2 ^ 36) (k % 2 ^ 36)
    if r.cvalid && r.homed && !r.res then d.issueFetch (k / 2 ^ 36) (k % 2 ^ 36)
    else d.placeSync (d.rackRecord k) (fun d =>
      ((d.setMir { d.mir with absence := ks }).setPair Reg.MIR_ABSENT_LO ks.length).dirtyMeta (.absence (k / 32768)))
  | [], c :: cs, _ => d.placeSync (metaRec (.caskImage c (d.csk.casks.find? c)) true) (fun d =>
      (d.setMir { d.mir with absCasks := cs }).dirtyMeta (.absCask (c / 32768)))
  | [], [], g :: gs => d.placeSync (metaRec (.grantImage g (d.grant g)) true) (fun d =>
      (d.setMir { d.mir with absGrants := gs }).dirtyMeta (.absGrant (g / 32768)))
  | [], [], [] => d

/-- TWIN_SYNCED when this device's resync is complete (R190). In a cascade a member reports it, and the master waits for every
report (R497). -/
def syncedOut (d : Device) : Device :=
  let done : Bool := match d.mir.syncLast with
    | some n => decide (n ≤ d.pst.commitNum)
    | none => true
  if d.mir.role == .active && d.mir.twinRole == some .resync && d.mir.absence.isEmpty && d.mir.absCasks.isEmpty && d.mir.absGrants.isEmpty && done then
    if d.cascadeMember then d.trlSend 0 "CTRL" [ctlSynced, 0]
    else if d.cascadeMaster && !d.others.all (fun i => (d.trlDev i).synced) then d
    else
      let d := d.others.foldl (fun (d : Device) i => if d.cascadeMaster then d.updDev i (fun x => { x with synced := false }) else d) d
      d.renewLease 2
  else d

/-! ### What MC2 does (R20) -/

/-- The service that a granted role brings (R161 step 3, R184), once every agreed vintage is here (R143). -/
def serveAs (d : Device) (solo : Bool) : Device :=
  if d.agreed then (d.takeService solo).settle else d.setRst { d.rst with owed := some solo }

/-- LEASE_GRANT (R161–R163, R170). A unit that asked with ALONE and is refused keeps waiting for its twin, and stays DETACHED (R141, R154). -/
def takeLease (d : Device) (r : ArbReply) : Device :=
  let (d, r) := d.takeArb r
  match d.acceptReply r [arbLeaseRequest, arbLeaseRenew] with
  | none => d
  | some (m, d) =>
    if m.kind = arbLeaseRenew then
      if !d.placesWrites then d
      else if r.result = 0 then
        let d := (d.startLease m.sentAt).leaseOut
        if natBit m.flags 0 ∧ d.mir.role = .active ∧ d.mir.soloPend then d.becomeSolo.settle
        else if natBit m.flags 1 then (d.vae "ROLE" [4, 0]).raise Reg.MIR_INT_STATUS 4 2
        else d
      else if r.result = 3 ∨ r.result = 4 then d.enterFenced 1
      else d
    else
      let alone := natBit m.flags 2
      if r.result = 0 then
        if d.mir.role ≠ .detached ∧ d.mir.role ≠ .fenced then d
        else if d.noLease then d.arbWaits arbLeaseRequest m.flags false
        else
          let d := if alone && !d.rst.resolved then d.resolve d.mir.twinHeld (fun n => decide (n ≤ d.mir.twinHeld)) true else d
          let d := (d.startLease m.sentAt).setMir { (d.startLease m.sentAt).mir with renewAt := m.sentAt, joinReq := false }
          let d := (d.setRole (if alone then .solo else .active)).setMir
            { (d.setRole (if alone then .solo else .active)).mir with attached := !alone && d.mir.attached, absent := alone }
          d.serveAs alone
      else if r.result = 1 then (if d.mir.role = .detached then d.followTwin else d)
      else if r.result = 2 then
        if d.mir.role = .standby then d.setRole .detached
        else if d.mir.role ≠ .detached ∨ d.rst.cleared then d
        else if d.mir.twinNoImage then d.eventR 7 mirBlk 509
        else d.sendJoin
      else d

/-- PROMOTE_GRANT (R183, R184). -/
def takePromote (d : Device) (r : ArbReply) : Device :=
  let (d, r) := d.takeArb r
  match d.acceptReply r [arbPromoteRequest] with
  | none => d
  | some (m, d) =>
    if d.mir.role ≠ .standby then d
    else if r.result = 0 then
      if d.noLease then d
      else
        let d := { d with pst := { d.pst with rx := none } }.dropAbove 0
        let d := (d.startLease m.sentAt).setMir { (d.startLease m.sentAt).mir with renewAt := m.sentAt, promoteAt := none, absent := true, attached := false }
        (d.setRole .solo).serveAs true
    else if r.result = 1 then d.setMir { d.mir with promoteAt := some (d.now + 1000 * (r.remain + 1)) }
    else if r.result = 2 then (d.setMir { d.mir with stale := true, promoteAt := none }).setRole .detached
    else d

/-- HANDBACK_GRANT (R170, R191), to the holder or to the target. -/
def takeHandback (d : Device) (r : ArbReply) : Device :=
  let (d, r) := d.takeArb r
  match d.acceptReply r [arbHandbackRequest] with
  | some (_, d) =>
    if d.mir.hbHolder = 0 then d
    else if r.result = 0 then
      let d := (d.setMir { d.mir with hbHolder := 0, deadline := none, attached := false }).becomeStandby
      (d.fenceWaiting.fenceFences).raise Reg.MIR_INT_STATUS 5 2
    else
      let d := d.setMir { d.mir with hbHolder := 0, pinsOnCommit := some d.pst.nextNum }
      d.releaseStep10.settle
  | none =>
    if r.ok && r.pair == d.pair Reg.MIR_PAIR_LO && r.result == 0 && r.holder == d.unit && r.epoch == d.mir.epoch + 1 && d.mir.role == .standby
        && decide (d.hold.phase < 3) && !d.mir.unitConflict then
      match d.mir.hbProposed with
      | some t =>
        if d.noLease then d.setMir { d.mir with epoch := r.epoch, lastResult := 0, hbProposed := none }      -- R164
        else
        let d := (d.startLease t).setMir { (d.startLease t).mir with epoch := r.epoch, lastResult := 0, hbProposed := none, renewAt := t, hbArmedAt := none }
        let d := d.setRole .active
        ((d.setMir { d.mir with attached := true, absent := false }).serveAs false).raise Reg.MIR_INT_STATUS 5 2
      | none => d
    else d

/-- ROLE JOIN (R188). A twin that joins reports that it was refused, so the unit of R161 step 2 asks for the lease (log 47). -/
def takeJoin (d : Device) (h epoch : Nat) (samePair : Bool) : Device :=
  if d.mir.role = .detached ∧ d.agreed ∧ !d.mir.serving ∧ !d.preferred ∧ !d.mir.waitArb.any (fun m => m.kind == arbLeaseRequest) then
    d.requestLease d.rst.alone
  else (d.answerJoin h epoch samePair).settle

/-- ROLE HB_PROPOSE (R191 step 2): new writes wait at step 10 and the open vintage force-seals. -/
def takePropose (d : Device) : Device :=
  if d.mir.role == .active && d.mir.hbHolder == 0 then (d.setMir { d.mir with hbHolder := 1 }).forceSeal else d

/-- A write of MIR_CMD (R162, R188, R191). -/
def mirCmd (d : Device) (agent : Nat) (v : Word) : Device :=
  let d := if bitAt v 0 then
      (if d.mir.role = .standby ∨ d.mir.role = .resync ∨ d.mir.role = .fenced then d.setRole .detached else d.eventIgnored Reg.MIR_CMD v agent)
    else d
  let d := if bitAt v 1 then (if d.mir.role = .detached ∨ d.mir.role = .fenced then d.sendJoin else d.eventIgnored Reg.MIR_CMD v agent) else d
  if bitAt v 2 then d.startHandback else d

/-- MC2 does what came for it. -/
def mc2Do (d : Device) : MirJob → Device
  | .lease r => d.takeLease r
  | .promote r => d.takePromote r
  | .handback r => d.takeHandback r
  | .join h epoch samePair => d.takeJoin h epoch samePair
  | .joinAccept p => d.joinAccepted p
  | .joinRefuse => if d.mir.joinReq then (d.setMir { d.mir with joinReq := false }).joinRefused else d
  | .synced => if d.mir.role == .resync then (d.setMir { d.mir with stale := false }).becomeStandby else d
  | .hbPropose => d.takePropose
  | .leave => d.leaveResync
  | .rejoin => if d.mir.role = .detached then d.sendJoin else d
  | .cmd agent v => d.mirCmd agent v

/-- Something comes for MC2: at once, or it waits until that core runs (R20, R23). -/
def mc2 (d : Device) (j : MirJob) : Device := if d.coreUp 2 then d.mc2Do j else d.mc2Wait j

/-- MC2 runs again: what waited for it, in the order in which it came. -/
def mc2Resume (d : Device) : Device := d.mir.inbox.foldl (fun (d : Device) j => d.mc2Do j) (d.setMir { d.mir with inbox := [] })

/-- The lease timer is hardware (R163): while MC2 is stopped, a grant of a renewal still restarts the lease. -/
def leaseTimer (d : Device) (r : ArbReply) : Device :=
  match d.acceptReply r [arbLeaseRenew] with
  | some (m, _) => if !d.coreUp 2 && d.placesWrites && r.result == 0 then d.startLease m.sentAt else d
  | none => d

end Device

/-! ### Commands: the arbiter -/

/-- LEASE_GRANT (R161–R163, R170). -/
def execLeaseGrant (ok : Bool) (pair echo epoch result holder stale lastHolder remain : Nat) (s : State) : Host.Outcome State Fault Refusal :=
  let r : ArbReply := { ok := ok, pair := pair, echo := echo, epoch := epoch, result := result, holder := holder, stale := stale,
                        lastHolder := lastHolder, remain := remain, vf := 0 }
  s.run (fun d => (d.leaseTimer r).mc2 (.lease r))

/-- PROMOTE_GRANT (R183, R184). -/
def execPromoteGrant (ok : Bool) (pair echo epoch result holder stale lastHolder remain : Nat) (s : State) : Host.Outcome State Fault Refusal :=
  s.run (fun d => d.mc2 (.promote { ok := ok, pair := pair, echo := echo, epoch := epoch, result := result, holder := holder, stale := stale,
                                    lastHolder := lastHolder, remain := remain, vf := 0 }))

/-- HANDBACK_GRANT (R170, R191), to the holder or to the target. -/
def execHandbackGrant (ok : Bool) (pair echo epoch result holder stale lastHolder vf : Nat) (s : State) : Host.Outcome State Fault Refusal :=
  s.run (fun d => d.mc2 (.handback { ok := ok, pair := pair, echo := echo, epoch := epoch, result := result, holder := holder, stale := stale,
                                     lastHolder := lastHolder, remain := 0, vf := vf }))

/-- The lease deadline passes (R163). -/
def execLeaseDeadline (s : State) : Host.Outcome State Fault Refusal :=
  s.run (fun d => match d.mir.deadline with
    | some t => if d.placesWrites then (d.waitUntil t).enterFenced 1 else d
    | none => d)

/-- FENCE_NOTICE is sent again after 1 ms (R171). -/
def execFenceNoticeRepeat (s : State) : Host.Outcome State Fault Refusal :=
  s.run (fun d =>
    if d.mir.notices = 0 then d
    else
      let d := d.waitUntil (d.mir.fencedAt + 1000 * (3 - d.mir.notices))
      (d.setMir { d.mir with notices := d.mir.notices - 1 }).sendUnit arbFenceNotice (d.mir.fenceCause * 16))

/-- Every 40 ms the holder renews (R163), while MC2 runs (R20). -/
def execLeaseRenewTimer (s : State) : Host.Outcome State Fault Refusal :=
  s.run (fun d => if d.coreUp 2 ∧ d.placesWrites ∧ d.hold.bottle.isNone then (d.waitUntil (d.mir.renewAt + 40000)).renewLease (b2n d.mir.soloPend) else d)

/-- A message is unanswered after 10 ms: it is sent anew, on the alternate path when that is enabled (R163, R166). The one sent before stays
unanswered, and a reply to it is still taken (R170). MC2 sends it (R20). -/
def execArbRetryTimeout (s : State) : Host.Outcome State Fault Refusal :=
  s.run (fun d => match if d.coreUp 2 then d.mir.waitArb.find? (fun m => !m.tried) else none with
    | some m =>
      let d := d.waitUntil (m.sentAt + 10000)
      let d := d.setMir { d.mir with waitArb := if m.seq < 2 ^ 64 then updateFirst (fun x => x == m) (fun x => { x with tried := true }) d.mir.waitArb
                                                else removeFirst (fun x => x == m) d.mir.waitArb }
      let alt := d.flag Fld.MIR_ARB_PATH_ALT_EN && !m.alt
      let due := (m.kind == arbLeaseRenew && d.placesWrites) || (m.kind == arbPromoteRequest && d.mir.role == .standby) ||
        (m.kind == arbLeaseRequest && (d.mir.role == .detached || d.mir.role == .fenced))
      if due && m.kind == arbLeaseRequest && d.noLease then d.arbWaits m.kind m.flags false
      else if due then d.sendUnit m.kind m.flags alt
      else if m.kind == arbHandbackRequest && d.mir.hbHolder == 2 then d.sendHbRequest
      else d
    | none => d)

/-- FENCE_IN has been asserted for 1 µs, or is released (R164). -/
def execFenceIn (asserted : Bool) (s : State) : Host.Outcome State Fault Refusal :=
  s.run (fun d =>
    let d := d.setMir { d.mir with fenceIn := asserted }
    if asserted then d.enterFenced 3 else d)

/-- 10 ms after entering FENCED the pins drop (R186): to 0b00, or to 0b01 when the unit has since become STANDBY or RESYNC (log 7). A unit
that has gained the active role again still raises them at the commit it waits for. -/
def execPinDropTimer (s : State) : Host.Outcome State Fault Refusal :=
  s.run (fun d => match d.mir.pinsDue with
    | some t =>
      let c := d.mir.pinsOnCommit
      let d := (d.waitUntil t).pinsTo (if d.receives then 1 else 0)
      d.setMir { d.mir with pinsOnCommit := c }
    | none => d)

/-- The other unit has waited 50 ms (R161 step 2). -/
def execFirstRoleWaitExpire (s : State) : Host.Outcome State Fault Refusal :=
  s.run (fun d =>
    if d.coreUp 2 ∧ d.mir.role = .detached ∧ d.agreed ∧ !d.mir.serving ∧ !d.preferred ∧ d.mir.twinRole ≠ some .active ∧ d.mir.twinRole ≠ some .solo then
      (d.waitUntil (d.mir.firstAt + 50000)).requestLease d.rst.alone
    else d)

/-! ### Commands: the link -/

/-- A lane fails (R172); LINK_RETRAIN_DONE ends the retrain that follows. -/
def execLaneFail (lane : Nat) (s : State) : Host.Outcome State Fault Refusal :=
  s.run (fun d =>
    if lane < 16 ∧ page? d.mir.lanes lane then
      (d.setMir { d.mir with lanes := d.mir.lanes &&& (~~~ pageBit lane), retests := insertNat lane d.mir.retests }).bumpSat
        Fld.MIR_LINK_STATUS_RETRAINS
    else d)

/-- A retrain completes on the lanes that are healthy (R172, R174): the link is up at a width, or down. A unit that places no writes
no longer holds its twin absent once the link is up; one that does waits for the twin's JOIN (R162, R173; log 6). -/
def execLinkRetrainDone (lanes : BitVec 16) (s : State) : Host.Outcome State Fault Refusal :=
  s.run (fun d =>
    if !d.hubOn || d.hold.bottle.isSome then d
    else
      let w := bestWidth lanes (d.fld Fld.MIR_LINK_CFG_MIN_LANES)
      let was := d.mir.width
      let widens : Bool := decide (was < w) && was != 0
      let soon := match d.mir.widenAt with
        | some t => decide (d.now < t + 10000000)
        | none => false
      let d := d.setMir { d.mir with lanes := lanes, retests := (List.range 16).filter (fun n => !page? lanes n) }
      if w = 0 then d.vaeDown
      else if widens && soon then d
      else
        let d := if widens then (d.setMir { d.mir with widenAt := some d.now }).bumpSat Fld.MIR_LINK_STATUS_RETRAINS else d
        let d := (d.setMir { d.mir with width := w, linkUp := true, lastGoodAt := d.now, twinOther := d.mir.twinOther && d.mir.linkUp,
                                        rxSkip := false, rxWant := none, rxFirst := d.mir.rxFirst || was == 0 }).endAbsence
        let d := if w < was then d.raise Reg.MIR_INT_STATUS 3 3 else d
        -- R428: a unit that was STANDBY or RESYNC when it entered Diapause joins once the link is up
        if d.sup.joinBack ∧ d.sup.state = .on ∧ d.mir.role = .detached then (d.setSup { d.sup with joinBack := false }).mc2 .rejoin
        else if d.rst.phase = 4 ∨ d.rst.phase = 9 then (d.setRst { d.rst with linkUpAt := d.now }).sendResolve else d)

/-- A failed lane is tested again after 1 s (R172). -/
def execLaneRetest (lane : Nat) (ok : Bool) (s : State) : Host.Outcome State Fault Refusal :=
  s.run (fun d =>
    if d.mir.retests.contains lane then
      let d := d.advance 1000000
      if ok then d.setMir { d.mir with lanes := d.mir.lanes ||| pageBit lane, retests := d.mir.retests.filter (fun l => decide (l ≠ lane)) } else d
    else d)

/-- A STATUS frame is due (R173, R177). -/
def execStatusSendTimer (s : State) : Host.Outcome State Fault Refusal :=
  s.run (fun d =>
    if !d.mir.linkUp then d
    else
      let d := (d.waitUntil (d.mir.statusAt + 10)).ackHeld
      let arg0 := if d.placesWrites then d.hNum else if d.receives then d.mir.lastWhole else d.hNum
      (d.setMir { d.mir with statusAt := d.now }).vaeBudget "STATUS" [arg0, statusWord d.mir.epoch (roleNum d.mir.role)
        (d.fld Fld.MIR_CTRL_PREF_STANDBY) (d.fld Fld.MIR_CTRL_HANDBACK_EN) d.unit d.mir.width])

/-- No frame has passed its CRC for 200 µs (R173). -/
def execLinkDownTimeout (s : State) : Host.Outcome State Fault Refusal :=
  s.run (fun d => if d.mir.linkUp then ((d.waitUntil (d.mir.lastGoodAt + 200)).vaeDown).bumpSat Fld.MIR_LINK_STATUS_RETRAINS else d)

/-- The link has stayed down for ABSENT_TMO (R173, R174): the twin is declared absent. -/
def execTwinAbsent (s : State) : Host.Outcome State Fault Refusal :=
  s.run (fun d =>
    if d.mir.linkUp || d.mir.absent then d
    else
      let d := d.waitUntil (d.mir.linkDownAt + 1000 * d.fld Fld.MIR_TIMERS_ABSENT_TMO_MS)
      d.declareAbsent.absentReport.settle)

/-- 200 ms after first role the twin still reports DETACHED (R173). -/
def execDetachedTwinExpire (s : State) : Host.Outcome State Fault Refusal :=
  s.run (fun d =>
    if d.placesWrites && d.mir.twinRole == some .detached && !d.mir.absent && !d.mir.attached then
      ((d.waitUntil (d.mir.firstAt + 200000)).declareAbsent).settle
    else d)

/-! ### Commands: link frames -/

/-- VHEAD (R177, R179). -/
def execVhead (lseq : Nat) (crc : Bool) (num prev epoch len count cause : Nat) (rel : Bool) (s : State) : Host.Outcome State Fault Refusal :=
  s.run (fun d =>
    let (d, ok) := d.rxFrame lseq crc true
    if !ok then d
    else
      let d := (d.learnEpoch epoch).learnNum num
      if !(d.receives || d.rst.awaits.contains num) || decide (epoch < d.mir.epoch) then { d with pst := { d.pst with rx := none } }
      else
        let x : RxImage := { num := num, prev := prev, epoch := epoch, len := len, count := count, cause := cause, rel := rel, got := 0, recs := [] }
        let d := d.unperch.reserveFor num
        d.setPst { d.pst with rx := some x })

/-- VDATA (R178): `n` bytes of the image from `off`, and the records that end within them. -/
def execVdata (lseq : Nat) (crc : Bool) (num off n : Nat) (recs : List WireRec) (s : State) : Host.Outcome State Fault Refusal :=
  s.run (fun d =>
    let (d, ok) := d.rxFrame lseq crc (d.mir.rxWant == some (num, off))
    match d.pst.rx with
    | some x =>
      if ok && x.num == num && x.got == off then
        { d with pst := { d.pst with rx := some { x with got := off + n, recs := x.recs ++ recs } } }
      else d
    | none => d)

/-- VEND (R179): the vintage is held whole when its image is complete and its chain fits; it is then acknowledged. -/
def execVend (lseq : Nat) (crc : Bool) (num len count : Nat) (imageOk : Bool) (s : State) : Host.Outcome State Fault Refusal :=
  s.run (fun d =>
    let (d, ok) := d.rxFrame lseq crc false
    match d.pst.rx with
    | some x =>
      if !ok || x.num != num then d
      else if x.got != len || x.len != len || x.recs.length != count || !imageOk then
        (d.setMir { d.mir with rxSkip := true, rxWant := some (num, x.got) }).vae "VNAK" [num, x.got]
      else
        let d := { d with pst := { d.pst with rx := none } }
        if d.rst.awaits.contains num then
          d.takeAgreed { num := num, rel := x.rel, recs := takenRecs x }
        else if x.epoch = d.mir.epoch ∧ (x.prev = d.mir.lastWhole ∨ (x.prev = 0 ∧ d.mir.chainOpen)) then
          let v : Vintage := { num := num, state := .sealed, cause := if x.cause = 1 then .period else if x.cause = 2 then .size else .forced,
                               recs := takenRecs x,
                               sealedAt := d.now, shipped := true, acked := true, own := false }
          let d := d.setPst { d.pst with vints := d.pst.vints ++ [v], nextNum := max d.pst.nextNum (num + 1), sealedNum := max d.pst.sealedNum num }
          ((d.setMir { d.mir with lastWhole := num, chainOpen := false }).ackHeld).settle
        else d
    | none => d)

/-- VACK (R177, R179, R180). -/
def execVack (lseq : Nat) (crc : Bool) (num _applied dirtyPages limit high freeKib wbRate admState : Nat) (s : State) : Host.Outcome State Fault Refusal :=
  s.run (fun d =>
    let (d, ok) := d.rxFrame lseq crc false
    if !ok then d
    else
      let d := d.takeBudget num { dirtyPages := dirtyPages, limit := limit, high := high, freeKib := freeKib, wbRate := wbRate, admState := admState }
      (d.takeAck num).settle)

/-- VNAK (R178): the vintage is sent again from the offset; more than 8 for one vintage retrain the link. -/
def execVnak (lseq : Nat) (crc : Bool) (num off : Nat) (s : State) : Host.Outcome State Fault Refusal :=
  s.run (fun d =>
    let (d, ok) := d.rxFrame lseq crc false
    if !ok then d
    else
      let d := d.bumpPair Reg.MIR_VNAK_CNT_LO
      match ((if d.ships then d.pst.vints else []) ++ d.rst.sentPend.map d.pendVint).find? (fun v => v.own && v.shipped && v.num == num) with
      | none => d
      | some v =>
        let n := (AMap.getD (fun _ => 0) d.mir.vnaks num) + 1
        let d := d.setMir { d.mir with vnaks := AMap.setD (fun _ => 0) d.mir.vnaks num n }
        if 8 < n then d.vaeDown.bumpSat Fld.MIR_LINK_STATUS_RETRAINS else d.sendImage v off)

/-- STATUS (R161, R162, R173, R175, R177, R183, R188). -/
def execStatus (lseq : Nat) (crc samePair : Bool) (h epoch role : Nat) (pref hb : Bool) (unit width dirtyPages limit high freeKib wbRate admState : Nat)
    (s : State) : Host.Outcome State Fault Refusal :=
  s.run (fun d =>
    let (d, ok) := d.rxFrame lseq crc false
    if !ok || decide (16 < width) then d
    else
      let r := roleOf role
      let other := d.mir.twinOther
      let d := d.setMir { d.mir with twinRole := some r, twinUnit := some unit, twinPref := some pref, twinHb := hb, twinEpoch := epoch,
                                     twinOther := other || r != .detached, learned := max d.mir.learned h }
      let b : Budget := { dirtyPages := dirtyPages, limit := limit, high := high, freeKib := freeKib, wbRate := wbRate, admState := admState }
      let d := if r = .active ∨ r = .solo then (d.setMir { d.mir with budget := some b, budgetAt := d.now }).reevalAdmit else d.takeBudget h b
      if unit = d.unit then
        if d.mir.unitConflict then d
        else
          let d := if d.placesWrites then d.enterFenced 7 else d.setRole .detached
          (d.setMir { d.mir with unitConflict := true, joinReq := false, hbProposed := none }).eventR 7 mirBlk 175
      else
        let d := d.setMir { d.mir with unitConflict := false }
        let d := d.learnEpoch epoch
        if !samePair then d.declareAbsent.settle
        else if r = .detached ∧ (other || d.mir.twinNoImage) then d.declareAbsent.settle
        else
          let d := d.endAbsence
          let d := if (r = .standby ∨ r = .resync) ∧ d.mir.role = .active then d.attachTwin else d
          let twinServes := r == .active || r == .solo
          if d.mir.role = .standby ∧ r = .fenced then
            if d.mir.waitArb.any (fun m => m.kind == arbPromoteRequest) || d.mir.promoteAt.isSome then d else d.sendUnit arbPromoteRequest 0
          else if !d.coreUp 2 then d.settle                        -- R20, R23: the next STATUS finds MC2 running
          else if twinServes && d.mir.role == .fenced && !d.mir.joinReq then d.sendJoin
          else if twinServes && d.mir.role == .detached && !d.mir.joinReq && (d.rst.cleared || d.rst.noImage) && d.keysBack then d.sendJoin
          else if twinServes && d.mir.role == .detached && d.agreed && !d.mir.serving then d.followTwin.settle
          else d.settle)

/-- RESOLVE, its last frame (R141–R143, R178, R509): the twin's H, pending list and pair identity, or NO_IMAGE. `held`
lists the numbers of this unit's pending vintages that the twin holds as committed, which the frame's fields do not spell (log 17). -/
def execResolve (lseq : Nat) (crc samePair noImage : Bool) (h role : Nat) (pend : List (Nat × Bool)) (held : List Nat) (s : State) : Host.Outcome State Fault Refusal :=
  s.run (fun d =>
    let (d, ok) := d.rxFrame lseq crc false
    if !ok || decide (15 < role) then d
    else if noImage then
      let d := d.setMir { d.mir with twinNoImage := true }
      if (d.rst.phase = 4 ∨ d.rst.phase = 9) ∧ !d.rst.resolved then d.resolve 0 (fun _ => false) false else d   -- R509: roles by step 2 of R161
    else if !samePair then d
    else if d.rst.noImage && d.rst.phase == 8 then d.sendResolve                                 -- R509: NO_IMAGE answers
    else if d.rst.phase ≠ 4 ∧ d.rst.phase ≠ 9 then d
    else if d.rst.resolved then d.answerResolve
    else
      let nums := pend.map (·.1)
      let d := d.learnNum (nums.foldl max h)
      let d := (d.setRst { d.rst with twinH := some h }).shipPending h (fun n => held.contains n) nums
      let k := max d.hAll h
      let twinTop := (pend.filter (fun p => decide (p.1 ≤ d.hAll) || (decide (k ≤ p.1) && pend.any (fun q => q.2 && decide (p.1 ≤ q.1))))).foldl
        (fun a p => max a p.1) 0
      let lacks := (pend.filter (fun p => decide (k ≤ p.1) && decide (d.hAll < p.1) && pend.any (fun q => q.2 && decide (p.1 ≤ q.1)) &&
        !d.pendAll.any (fun (q : Nat × Bool) => q.1 == p.1))).map (fun p => p.1)
      let d := d.resolve h (fun n => held.contains n) false
      let d := d.setRst { d.rst with awaits := if d.cascadeShared then [] else lacks }
      let vR := max d.rst.vR twinTop
      ((d.setRst { d.rst with vR := vR }).setPair Reg.PST_RST_RESOLVE_LO vR).firstRole)

/-- ROLE JOIN (R188): the joiner's epoch is the one that its STATUS frames report. -/
def execJoin (lseq : Nat) (crc samePair : Bool) (h : Nat) (s : State) : Host.Outcome State Fault Refusal :=
  s.run (fun d =>
    let (d, ok) := d.rxFrame lseq crc false
    if ok then (d.learnNum h).mc2 (.join h d.mir.twinEpoch samePair) else d)

/-- ROLE JOIN_ACCEPT (R188). -/
def execJoinAccept (lseq : Nat) (crc : Bool) (p : Nat) (s : State) : Host.Outcome State Fault Refusal :=
  s.run (fun d =>
    let (d, ok) := d.rxFrame lseq crc false
    if ok then (d.learnNum p).mc2 (.joinAccept p) else d)

/-- ROLE JOIN_REFUSE (R188). -/
def execJoinRefuse (lseq : Nat) (crc : Bool) (s : State) : Host.Outcome State Fault Refusal :=
  s.run (fun d =>
    let (d, ok) := d.rxFrame lseq crc false
    if ok then d.mc2 .joinRefuse else d)

/-- ROLE SYNCED (R190). -/
def execSynced (lseq : Nat) (crc : Bool) (s : State) : Host.Outcome State Fault Refusal :=
  s.run (fun d =>
    let (d, ok) := d.rxFrame lseq crc false
    if ok then d.mc2 .synced else d)

/-- ROLE HB_PROPOSE (R191 step 2). -/
def execHbPropose (lseq : Nat) (crc : Bool) (s : State) : Host.Outcome State Fault Refusal :=
  s.run (fun d =>
    let (d, ok) := d.rxFrame lseq crc false
    if ok then d.mc2 .hbPropose else d)

/-- PFETCH_REQ (R193 step 3). An answer NOT_AVAIL has an empty payload: whether A′ goes with it the manual does not say (DESIGN CHOICE, log 63). -/
def execPfetchReq (lseq : Nat) (crc : Bool) (cask rack page tag aMin : Nat) (s : State) : Host.Outcome State Fault Refusal :=
  s.run (fun d =>
    let (d, ok) := d.rxFrame lseq crc false
    if !ok || decide (d.pst.appliedNum < aMin) then d
    else if d.pagePoisoned cask rack page || d.pageRefetch cask rack page then d.vae "PFETCH_DATA" (Device.pageArgs cask rack page tag) [] [] 1
    else d.vae "PFETCH_DATA" (Device.pageArgs cask rack page tag ++ [d.pst.appliedNum]) [] (beBytes 8 d.pst.appliedNum ++ d.rackPage cask rack page))

/-- PFETCH_DATA (R193 step 4). -/
def execPfetchData (lseq : Nat) (crc : Bool) (cask rack page tag : Nat) (notAvail : Bool) (a : Nat) (bytes : List Byte) (s : State) :
    Host.Outcome State Fault Refusal :=
  s.run (fun d =>
    let (d, ok) := d.rxFrame lseq crc false
    match d.mir.pfetch.find? (fun f => f.cask == cask && f.rack == rack && f.page == page && f.tag == tag) with
    | some f =>
      if !ok then d
      else if notAvail then d.failFetch f
      else (d.setMir { d.mir with pfetch := d.mir.pfetch.map (fun x => if x = f then { f with got := some (a, bytes) } else x) }).installPages
    | none => d)

/-- A page is not installed within PFETCH_TMO_MS (R193). -/
def execPfetchTimeout (cask rack page : Nat) (s : State) : Host.Outcome State Fault Refusal :=
  s.run (fun d => match d.mir.pfetch.find? (fun f => f.cask == cask && f.rack == rack && f.page == page) with
    | some f => if f.asked then (d.waitUntil (f.startAt + 1000 * d.fld Fld.MIR_TIMERS_PFETCH_TMO_MS)).failFetch f else d
    | none => d)

/-- The frames that wait for an answer are sent again after 100 µs (R178), ROLE frames while MC2 runs (R20). HB_PROPOSE has no answer of its
own: it is repeated while this unit is STANDBY and the handback has not been granted, after a refusal too (DESIGN CHOICE, log 48). -/
def execFrameRetryTimer (s : State) : Host.Outcome State Fault Refusal :=
  s.run (fun d =>
    let d : Device := d.advance 100
    let d : Device := if d.joins && d.coreUp 2 then d.vae "ROLE" [1, d.hNum] else d
    let d : Device := match d.mir.hbProposed with
      | some _ => if d.mir.role = Role.standby ∧ d.coreUp 2 then d.vae "ROLE" [5, 0] else d
      | none => d
    let d : Device := if (d.rst.phase = 4 ∨ d.rst.phase = 9) ∧ !d.rst.resolved then d.sendResolve else d
    d.mir.pfetch.foldl (fun (d : Device) (f : Pfetch) => if f.got.isNone && f.asked then d.askPage f else d) d)

/-- No budget block for 100 µs (R180). -/
def execTwinBudgetTimeout (s : State) : Host.Outcome State Fault Refusal :=
  s.run (fun d => if d.mir.attached then (d.waitUntil (d.mir.budgetAt + 100)).reevalAdmit else d)

/-- PROMOTE_REQUEST is sent again after REFUSED_HELD (R183). -/
def execPromoteRetry (s : State) : Host.Outcome State Fault Refusal :=
  s.run (fun d => match d.mir.promoteAt with
    | some t =>
      if !d.coreUp 2 then d
      else if d.mir.role = .standby then
        let d := d.waitUntil t
        (d.setMir { d.mir with promoteAt := some (d.now + 5000) }).sendUnit arbPromoteRequest 0 (d.altNext arbPromoteRequest)
      else d.setMir { d.mir with promoteAt := none }
    | none => d)

/-- HANDBACK_DELAY has passed as STANDBY (R191). -/
def execHandbackDelayExpire (s : State) : Host.Outcome State Fault Refusal :=
  s.run (fun d => match d.mir.hbArmedAt with
    | some t => if d.coreUp 2 && d.hbRuns then (d.waitUntil (t + 1000000 * d.fld Fld.MIR_TIMERS_HANDBACK_DELAY_S)).startHandback else d
    | none => d)

/-- Every SEALED vintage has committed (R191 step 3). -/
def execHandbackCommitWaitDone (s : State) : Host.Outcome State Fault Refusal :=
  s.run (fun d =>
    if d.coreUp 2 ∧ d.mir.hbHolder = 1 ∧ d.mir.role = .active ∧ d.pst.openRecs.isEmpty ∧ d.sealedCount = 0 then
      ((d.setMir { d.mir with hbHolder := 2, hbVF := d.pst.commitNum }).dropPinsHb).sendHbRequest
    else d)

/-- HANDBACK_REQUEST is repeated every 2 ms (R191). -/
def execHandbackRequestRepeat (s : State) : Host.Outcome State Fault Refusal :=
  s.run (fun d => if d.coreUp 2 ∧ d.mir.hbHolder = 2 ∧ d.mir.role = .active then (d.advance 2000).sendHbRequest else d)

/-- MC2 places the next resync record (R189). -/
def execResyncWalk (s : State) : Host.Outcome State Fault Refusal :=
  s.run (fun d =>
    let stopped := match d.mir.budget with
      | some b => b.admState != 0
      | none => true
    if d.mir.role = .active ∧ d.mir.twinRole = some .resync ∧ !stopped ∧ d.targetGen.isSome ∧ d.coreUp 2 then d.walkOne else d)

/-- Resync is complete (R190): the active sends TWIN_SYNCED. -/
def execResyncComplete (s : State) : Host.Outcome State Fault Refusal :=
  s.run (fun d => if d.coreUp 2 then d.syncedOut else d)

end Sys2Proof.Machine
end

