-- ==== Sys2Proof/Machine/Dram.lean ====
section
/-! DEFINITION. Commands of the DRAM tier controller (R311–R329): refresh, temperature, errors, scrub, repair, retirement,
timing-set switches. What the DIMMs and the eye checks show comes as operands. -/

namespace Sys2Proof.Machine

/-- 24 hours and one second, in µs. -/
def dayUs : Nat := 86400000000

namespace Device

def drmBlk : Nat := Reg.DRM_CHSEL / 65536

/-- Whether a channel is live, in its switch or in self-refresh. -/
def chLive (d : Device) (c : Nat) : Bool := d.fld Fld.DRM_CH_STATUS_STATE c == 1 || d.fld Fld.DRM_CH_STATUS_STATE c == 2

/-- Scrub and repair pause while the supply state is not NORMAL, during bottling, and while the channel is in a switch
(R321, R322). -/
def chPaused (d : Device) (c : Nat) : Bool :=
  d.hold.supply != .normal || d.hold.bottle.isSome || d.flag Fld.DRM_CH_STATUS_SWITCHING c

/-- The location of the latest error (R319). -/
def noteError (d : Device) (c : Nat) (r : DramRow) (dev : Nat) (ue : Bool) : Device :=
  let w := b2n ue * 2147483648 + r.slot % 2 * 134217728 + r.subch % 2 * 67108864 + r.rank % 16 * 4194304 + dev % 16 * 262144 + r.bank % 32 * 8192
  (d.setReg Reg.DRM_CH_LAST_ERR0 (BitVec.ofNat 32 w) c).setFld Fld.DRM_CH_LAST_ERR1_ROW r.row c

/-- Queue a row for repair (R322). -/
def queueRow (d : Device) (c : Nat) (r : DramRow) : Device :=
  let x := d.dramCh c
  if x.queue.contains r then d else d.setDramCh c { x with queue := x.queue ++ [r] }

/-- A clean page is lost: PRESENT clears, and the next access fetches it again (R320). -/
def dropPage (d : Device) (cask idx page : Nat) : Device :=
  let r := d.rack cask idx
  (d.setRack cask idx { r with present := r.present &&& (allPages ^^^ pageBit page) }).bumpPair Reg.DRM_REFETCH_CNT_LO

/-- The rack that a frame holds. -/
def rackOfFrame (d : Device) (f : Nat) : Option Nat :=
  ((d.csk.racks.filter (fun (p : Nat × Rack) => p.2.res && p.2.frame == f)).map (fun p => p.1)).head?

/-- An uncorrectable error in a data page (R320): a clean page is fetched again, a dirty one is recovered from the twin. -/
def losePage (d : Device) (k page : Nat) : Device :=
  let r := d.rack (k / 2 ^ 36) (k % 2 ^ 36)
  if !page? r.present page then d
  else if page? r.dirty page then
    if d.pageRefetch (k / 2 ^ 36) (k % 2 ^ 36) page then d else d.startFetchPage (k / 2 ^ 36) (k % 2 ^ 36) page
  else d.dropPage (k / 2 ^ 36) (k % 2 ^ 36) page

/-- Flow records in the page are dropped, with their messages, and request packets without a record are answered BUSY for 64 ms (R320). What
a descriptor whose sending flow is dropped, or a RECV that a message of a dropped flow had taken, completes with is left open (log 2). -/
def dropFlows (d : Device) (rx tx : List (Nat × Nat)) : Device :=
  let d := tx.foldl (fun (d : Device) k => match d.tx? k.1 k.2 with
    | some f =>
      let d := f.msgs.foldl (fun (d : Device) m =>
        let (v, d) := d.draw
        d.finish (.desc m.fn m.q m.seq) (v % 256) 0 0) d
      d.setPdt { d.pdt with tx := d.pdt.tx.filter (fun g => !(g.loc == k.1 && g.rem == k.2)) }
    | none => d) d
  let lost := d.pdt.rx.filter (fun f => rx.contains (f.src, f.loc))
  let d := d.setPdt { d.pdt with rx := d.pdt.rx.filter (fun f => !rx.contains (f.src, f.loc)) }
  let d := lost.foldl (fun (d : Device) f =>
    let d := f.entries.foldl (fun (d : Device) e => d.rewindPkt (d.groupQ f.loc) (.pdt f.loc f.src e.att e.msn)) d
    let d := f.runs.foldl (fun (d : Device) r => d.releasePkt (d.groupQ f.loc) (.pdt f.loc f.src r.att r.msn)) d
    (f.runs.filterMap (·.recv)).foldl (fun (d : Device) t =>
      let (v, d) := d.draw
      d.complete t.1 t.2.1 t.2.2 (v % 256) 0 0) d) d
  d.setDrm { d.drm with quietUntil := d.now + 64000 }

/-- A copy of a page of a duplexed unit is uncorrectable (R308, R320): the other copy serves it, and a read that copy 1 serves rewrites copy 0.
With neither copy readable the tables are lost. -/
def loseCopy (d : Device) (p : DupPage) (copy : Nat) : Device :=
  if d.copyLost p (1 - copy) then
    (d.setDrm { d.drm with bad := if d.drm.bad.contains (p, copy) then d.drm.bad else d.drm.bad ++ [(p, copy)] }).loseTables
  else if copy = 0 then
    match d.copyCh p 0 with
    | some c => (d.wakeCh c).emit (.dram c "REWRITE" [p.area, p.cask, p.unit, p.page])
    | none => d
  else if d.drm.bad.contains (p, copy) then d
  else d.setDrm { d.drm with bad := d.drm.bad ++ [(p, copy)] }

/-- What an uncorrectable error does to the page it hit (R320). -/
def ueAct (d : Device) (what : DramPage) : Device :=
  match what with
  | .data f page =>
    match d.rackOfFrame f with
    | some k => d.losePage k page
    | none => d
  | .duplex p copy => d.loseCopy p copy
  | .qpCtx first =>
    (List.range 16).foldl (fun (d : Device) i => if d.net.qps.has (first + i) then d.errQp (first + i) stPoison false else d) d
  | .replay rx tx => d.dropFlows rx tx
  | .firmware core =>
    -- R320: the core restarts through its watchdog, which WATCHDOG_EXPIRE brings
    d.setSup { d.sup with coresDown := insertNat (core % 8) d.sup.coresDown }

/-- Move a dirty rack off a retired channel: it takes another frame, its clean pages are lost, and its dirty pages come from the twin (R320,
R323). -/
def moveRack (d : Device) (k : Nat) : Device :=
  let cask := k / 2 ^ 36
  let idx := k % 2 ^ 36
  let r := d.rack cask idx
  let (f, d) := d.takeFrame
  let d := d.clearBytes (dramKey r.frame 0) 65536
  let d := ((d.setRack cask idx { r with frame := f, present := r.dirty }).bumpPair Reg.DRM_REFETCH_CNT_LO
    (popcount16 (r.present &&& (allPages ^^^ r.dirty)))).wakeFrame f
  (List.range 16).foldl (fun (d : Device) p => if page? r.dirty p then d.startFetchPage cask idx p else d) d

/-- The pages of the areas that are not duplexed (R306) and lie on a retired channel, the `i`-th of `n` live ones (R323): QPs whose contexts they
hold, flow records, and firmware working areas. -/
def losePages (d : Device) (i n : Nat) : Device :=
  let here (area page : Nat) : Bool := Config.areaCh area page % n == i
  let d := (d.net.qps.filter (fun p => here 0 (p.1 / 16))).foldl (fun (d : Device) p => d.errQp p.1 stPoison false) d
  let rx := (d.pdt.rx.filter (fun f => here 1 (f.loc * 2 ^ 24 + f.src))).map (fun f => (f.src, f.loc))
  let tx := (d.pdt.tx.filter (fun f => here 2 (f.loc * 2 ^ 24 + f.rem))).map (fun f => (f.loc, f.rem))
  let d := if rx.isEmpty && tx.isEmpty then d else d.dropFlows rx tx
  let cores := (List.range 8).filter (here 3)
  d.setSup { d.sup with coresDown := cores.foldl (fun (a : List Nat) c => insertNat c a) d.sup.coresDown }

/-- The channel of the walk that is next in its switch (R328): its requests queue and it enters self-refresh. -/
def enterSwitch (d : Device) (c : Nat) : Device :=
  ((d.setFld Fld.DRM_CH_STATUS_SWITCHING 1 c).setFld Fld.DRM_CH_STATUS_STATE 2 c).setFld Fld.DRM_TSET_STATUS_CUR c

/-- The switch goes on after a channel (R328, R329): with the next one, or it is over. `done` says which channels have completed theirs. -/
def walkOn (d : Device) (w : DramWalk) (rest : List Nat) (last : Nat) (done : Nat → Bool) : Device :=
  match rest with
  | n :: _ =>
    if w.stop then d.walkOver.planSwitched (fun x => decide (x ≤ last) && done x) true
    else (d.setDrm { d.drm with walk := some { w with left := rest } }).enterSwitch n
  | [] => (d.walkOver.raise Reg.DRM_INT_STATUS 0 1).planSwitched done true

/-- A retired channel takes no part in a switch (R328): one in its switch leaves it as it is, and the walk goes on. -/
def leaveWalk (d : Device) (c : Nat) : Device :=
  match d.drm.walk with
  | none => d
  | some w =>
    let rest := w.left.filter (fun x => x != c)
    if w.left.head? = some c then (d.setFld Fld.DRM_CH_STATUS_SWITCHING 0 c).walkOn w rest c (fun x => x != c)
    else d.setDrm { d.drm with walk := some { w with left := rest } }

/-- The duplexed units (R306), by area, cask and unit. -/
def dupUnits (d : Device) : List (Nat × Nat × Nat) :=
  let us (a c n : Nat) : List (Nat × Nat × Nat) := (List.range n).map (fun u => (a, c, u))
  (d.csk.casks.map (fun (p : Nat × CaskEntry) => us 1 p.1 ((p.2.size + 4095) / 4096))).flatten ++ us 2 0 16384 ++ us 3 0 512 ++
    us 4 0 (units (d.csk.capRacks / 8 + 2097152 + 147456)) ++ us 5 0 1024 ++ (if d.trl.mode == 1 || d.trl.mode == 2 then us 6 0 256 else [])

/-- Whether a retirement has left a page of a duplexed unit with no copy (R320, R323): both copies of its unit lay on retired channels, or the copy
that is left was uncorrectable. -/
def tablesLost (d : Device) : Bool :=
  d.drm.bad.any (fun b => d.copyGone b.1 (1 - b.2)) ||
    (decide (2 ≤ d.drm.retired.length) || decide (d.drm.chans.length < 2)) &&
      d.dupUnits.any (fun u => let p : DupPage := { area := u.1, cask := u.2.1, unit := u.2.2, page := 0 }
        d.copyGone p 0 && d.copyGone p 1)

/-- A channel is retired (R323, R324, R515). -/
def retireCh (d : Device) (c : Nat) : Device :=
  if d.drm.retired.contains c || !d.chLive c then d
  else
    let n := d.drm.chans.length
    let i := (d.drm.chans.takeWhile (fun x => decide (x ≠ c))).length
    let lost := (d.drm.total + n - 1 - i) / n
    -- in ascending frame order (R515)
    let here := d.csk.racks.foldl (fun (a : List Nat) p => if p.2.res && d.frameCh p.2.frame == c then insertNat p.2.frame a else a) []
    let d := ((d.leaveWalk c).setDrm { (d.leaveWalk c).drm with retired := d.drm.retired ++ [c] }).setFld Fld.DRM_CH_STATUS_STATE 3 c
    let d : Device := { d with csk := { d.csk with frames := d.csk.frames - lost, freeFrames := d.csk.freeFrames.filter (fun f => !d.frameLost f) } }
    let d := here.foldl (fun (d : Device) f => match d.rackOfFrame f with
      | none => d
      | some k =>
        let cask := k / 2 ^ 36
        let idx := k % 2 ^ 36
        let r := d.rack cask idx
        if r.dirty = 0 then
          let d := d.setRack cask idx { r with fetch := false, wb := false }
          let d := if d.rst.wave0 && r.vault then d.setRst { d.rst with again := d.rst.again ++ [k] } else d
          ((d.dropFrame f).setRack cask idx { r with res := false, present := 0, frame := 0, acc := 0, fetch := false }).bumpPair
            Reg.DRM_REFETCH_CNT_LO (popcount16 r.present)
        else d.moveRack k) d
    let d := d.losePages i n
    let d := if !d.drm.fence && d.tablesLost then d.loseTables else d
    let d := d.raise Reg.DRM_INT_STATUS 6 5
    let d : Device := if d.framesReady < 524288 then
        { (d.setDrm { d.drm with short := true }).raise Reg.CSK_INT_STATUS 3 3 with adm := { d.adm with guard := true } } else d
    -- R515: before the open record, emergence begins again at the spine load
    let d := if !d.rst.svcOpen && (d.rst.phase == 3 || d.rst.phase == 4) && d.rst.image.isNone then
        let d : Device := { d with csk := { d.csk with racks := [], nextFrame := 0, freeFrames := [], poison := [], wbJobs := [] }, adm := { d.adm with metaDirty := [] } }.emerge
        if d.rst.phase = 1 then d.setRst { d.rst with phase := 2 } else d
      else d
    d.reevalAdmit.settle

/-- The CFG register of a channel's shadow set. -/
def shadowCfg (d : Device) (c : Nat) : Nat := if d.flag Fld.DRM_CH_STATUS_ACTIVE_SET c then Reg.DRM_TSA_CFG else Reg.DRM_TSB_CFG

/-- Whether the shadow set of a channel may become active (R329). -/
def shadowOk (d : Device) (c : Nat) : Bool :=
  let w := d.reg (d.shadowCfg c) c
  bitAt w 31 && rateFits (d.fld Fld.DRM_POP_TYPE) (bitsGet w 19 16)

/-- A write of DRM_TSET_CMD.GO (R328, R329); the channels that would switch are checked before the first one. -/
def tsetGo (d : Device) (cs : List Nat) : Device :=
  if !cs.all (fun c => d.shadowOk c) then (d.setFld Fld.DRM_TSET_STATUS_FAIL 1).raise Reg.DRM_INT_STATUS 1 4
  else match cs with
    | [] => d
    | c :: _ =>
      let d := (d.setFld Fld.DRM_TSET_STATUS_BUSY 1).setFld Fld.DRM_TSET_STATUS_FAIL 0
      (d.setDrm { d.drm with walk := some { left := cs, stop := false } }).enterSwitch c

/-- The live channels, ascending. -/
def liveChans (d : Device) : List Nat := (List.range 24).filter (fun c => d.chLive c)

/-- tREFI′ of a channel, in nCK (R314). -/
def refInterval (d : Device) (ch : Nat) : Nat :=
  d.fld (if d.flag Fld.DRM_CH_STATUS_ACTIVE_SET ch then Fld.DRM_TSB_REFI_tREFI else Fld.DRM_TSA_REFI_tREFI) ch * 16 / (16 + d.fld Fld.DRM_CH_REF_REF_SCALE ch) /
    (if d.flag Fld.DRM_CH_STATUS_HOT ch then 2 else 1)

/-- The refreshes of a rank that are postponed for a bank index. -/
def postponedOf (d : Device) (ch rank b : Nat) : Nat := ((d.dramCh ch).postponed.find? (4 * rank + b)).getD 0

def setPostponed (d : Device) (ch rank b n : Nat) : Device :=
  let x := d.dramCh ch
  d.setDramCh ch { x with postponed := if n = 0 then x.postponed.del (4 * rank + b) else x.postponed.put (4 * rank + b) n }

/-- A refresh of a bank lowers its activation count (R316). -/
def raaLess (d : Device) (ch rank bank n : Nat) : Device :=
  let x := d.dramCh ch
  match x.raa.find? (32 * rank + bank) with
  | some v => d.setDramCh ch { x with raa := if v ≤ n then x.raa.del (32 * rank + bank) else x.raa.put (32 * rank + bank) (v - n) }
  | none => d

/-- The thresholds of refresh management of a channel's DIMMs: initial and maximum (R316). -/
def raaLimits (d : Device) (ch : Nat) : Nat × Nat :=
  match d.drm.dimms.find? (fun m => m.ch == ch) with
  | some m => (m.raaInit, m.raaMax)
  | none => (0, 0)

/-- Same-bank refresh of a rank (R314): each bank index with no request queued is refreshed, with what was postponed for it, and the others
are postponed; when one reaches POSTPONE_MAX, REFab goes to the rank ahead of every request, and is one refresh of each index: what was postponed
before stays so. -/
def refreshRank (d : Device) (ch rank : Nat) (queued : List Nat) : Device :=
  let t := d.refInterval ch
  let init := (d.raaLimits ch).1
  let busy (b : Nat) : Bool := queued.any (fun q => q % 4 == b)
  if (List.range 4).any (fun b => busy b && decide (d.fld Fld.DRM_CH_REF_POSTPONE_MAX ch ≤ d.postponedOf ch rank b + 1)) then
    let d := (List.range 32).foldl (fun (d : Device) k => d.raaLess ch rank k init) d
    d.emit (.dram ch "REFab" [rank, t])
  else
    (List.range 4).foldl (fun (d : Device) b =>
      let n := d.postponedOf ch rank b
      if busy b then d.setPostponed ch rank b (n + 1)
      else
        let d := (List.range 8).foldl (fun (d : Device) g => d.raaLess ch rank (4 * g + b) ((n + 1) * init)) (d.setPostponed ch rank b 0)
        d.emit (.dram ch "REFsb" [rank, b, t, n + 1])) d

/-- Refresh management of a rank (R316): activations count for each bank; at the initial threshold a bank with no request queued is given RFMsb,
and at the maximum any bank is, ahead of every request. Each RFMsb lowers the count by the initial threshold. -/
def manageRank (d : Device) (ch rank : Nat) (queued : List Nat) (acts : List (Nat × Nat)) : Device :=
  if !d.flag Fld.DRM_CH_STATUS_RFM_ON ch then d
  else
    let (init, most) := d.raaLimits ch
    let d := acts.foldl (fun (d : Device) a =>
      let x := d.dramCh ch
      d.setDramCh ch { x with raa := x.raa.put (32 * rank + a.1) ((x.raa.find? (32 * rank + a.1)).getD 0 + a.2) }) d
    (List.range 32).foldl (fun (d : Device) bank =>
      let v := ((d.dramCh ch).raa.find? (32 * rank + bank)).getD 0
      let forced := decide (most ≤ v)
      if init = 0 ∨ v < init ∨ (!forced ∧ queued.contains bank) then d
      else
        let k := if forced then (v - most) / init + 1 else 1
        (d.raaLess ch rank bank (k * init)).emit (.dram ch "RFMsb" [rank, bank, k, b2n forced])) d

end Device

/-! ### Commands -/

/-- A tREFI′ interval of a rank (R314, R316): `queued`, the banks with requests queued; `acts`, the activations of its banks since the last one.
In self-refresh the channel is given no command. -/
def execRefreshTick (ch rank : Nat) (queued : List Nat) (acts : List (Nat × Nat)) (s : State) : Host.Outcome State Fault Refusal :=
  s.run (fun d =>
    if d.fld Fld.DRM_CH_STATUS_STATE ch ≠ 1 then d
    else (d.refreshRank ch rank queued).manageRank ch rank queued acts)

/-- A request of class `cls` has waited `age` clocks (R311). -/
def execRequestPromote (ch cls age : Nat) (s : State) : Host.Outcome State Fault Refusal :=
  s.run (fun d =>
    let limit := d.fld (match cls with
      | 0 => Fld.DRM_AGE_A_C0
      | 1 => Fld.DRM_AGE_A_C1
      | 2 => Fld.DRM_AGE_B_C2
      | _ => Fld.DRM_AGE_B_C3)
    if d.chLive ch && decide (limit < age) then (d.wakeCh ch).emit (.dram ch "PROMOTE" [cls, age]) else d)

/-- MC5 reads the DIMMs of a channel, a retired one too; `temp` is the highest (R315). -/
def execDimmTempRead (ch temp : Nat) (s : State) : Host.Outcome State Fault Refusal :=
  s.run (fun d =>
    if !d.drm.dimms.any (fun m => m.ch == ch) || !d.hubOn || !d.coreUp 5 then d
    else
      let d := d.setFld Fld.DRM_CH_STATUS_TEMP (min temp 255) ch
      let d := if 85 ≤ temp then d.setFld Fld.DRM_CH_STATUS_HOT 1 ch else if temp < 83 then d.setFld Fld.DRM_CH_STATUS_HOT 0 ch else d
      if d.fld Fld.DRM_CH_REF_TCRIT ch ≤ temp then d.raise Reg.DRM_INT_STATUS 2 3 else d)

/-- A channel has had no request for SR_IDLE_US (R317). -/
def execSrIdleExpire (ch : Nat) (s : State) : Host.Outcome State Fault Refusal :=
  s.run (fun d =>
    let us := d.fld Fld.DRM_CTRL_SR_IDLE_US
    if us = 0 ∨ d.hold.bottle.isSome ∨ d.fld Fld.DRM_CH_STATUS_STATE ch ≠ 1 ∨ d.flag Fld.DRM_CH_STATUS_SWITCHING ch ∨ 1 < d.sup.cur then d
    else (d.advance us).setFld Fld.DRM_CH_STATUS_STATE 2 ch)

/-- A corrected error (R319). -/
def execDramCe (ch slot subch rank dev bank row : Nat) (s : State) : Host.Outcome State Fault Refusal :=
  s.run (fun d =>
    if !d.chLive ch then d
    else
      let r : DramRow := { slot := slot, subch := subch, rank := rank, bank := bank, row := row }
      let d := ((d.bumpSat Fld.DRM_CH_ERR_CE 1 ch).bumpPair Reg.DRM_CE_TOTAL_LO).noteError ch r dev false
      let d : Device := { d with age := { d.age with ceAll := d.age.ceAll.put ch ((d.age.ceAll.find? ch).getD 0 + 1) } }
      let x := d.dramCh ch
      let ces := (x.ces.filter (fun p => decide (d.now < p.2 + dayUs))) ++ [(r, d.now)]
      let hit := (ces.filter (fun p => p.1 == r)).length
      let d := d.setDramCh ch { x with ces := ces }
      if d.fld Fld.DRM_ERR_CFG_ROW_CE_THR ≤ hit then (d.raise Reg.DRM_INT_STATUS 4 2).queueRow ch r else d)

/-- An uncorrectable error in a 4 KiB page (R320, R323). -/
def execDramUe (ch slot subch rank dev bank row : Nat) (what : DramPage) (s : State) : Host.Outcome State Fault Refusal :=
  s.run (fun d =>
    if !d.chLive ch then d
    else
      let r : DramRow := { slot := slot, subch := subch, rank := rank, bank := bank, row := row }
      let d := ((d.bumpSat Fld.DRM_CH_ERR_UE 1 ch).bumpPair Reg.DRM_UE_TOTAL_LO).noteError ch r dev true
      let d := ((d.raise Reg.DRM_INT_STATUS 5 4).queueRow ch r).ueAct what
      let x := d.dramCh ch
      let ues := (x.ues.filter (fun t => decide (d.now < t + 1000000))) ++ [d.now]
      let d := d.setDramCh ch { x with ues := ues }
      (if d.fld Fld.DRM_ERR_CFG_CH_UE_MAX ≤ ues.length then d.retireCh ch else d).settle)

/-- Patrol scrub reads `lines` lines of every live channel on which it does not pause (R321). When every line of every one has been read a
pass ends, and its counts go to R478. -/
def execPatrolScrub (lines : Nat) (s : State) : Host.Outcome State Fault Refusal :=
  s.run (fun d =>
    let cs := d.liveChans.filter (fun c => !d.chPaused c)
    if !d.flag Fld.DRM_SCRUB_EN || !d.hubOn || cs.isEmpty then d
    else
      let d := cs.foldl (fun (d : Device) c => d.wakeCh c) d
      let size := (d.drm.dimms.filter (fun m => d.drm.dimms.head?.any (fun h => h.ch == m.ch))).foldl (fun a m => a + m.gib) 0 * 16777216
      let d := d.setDrm { d.drm with scrub := cs.foldl (fun (m : AMap Nat) c => m.put c (min size ((m.find? c).getD 0 + lines))) d.drm.scrub }
      if d.liveChans.any (fun c => decide ((d.drm.scrub.find? c).getD 0 < size)) then d
      else
        let d := d.setDrm { d.drm with scrub := [] }
        let ce (c : Nat) : Nat := (d.age.ceAll.find? c).getD 0
        let got := d.liveChans.map (fun c => (c, ce c - (d.age.ceMark.find? c).getD 0))
        let thr := d.fld Fld.AGE_DRAM_CFG_CE_THR
        let calm := d.liveChans.map (fun c => (c, if (got.any (fun p => p.1 == c && decide (thr ≤ 4 * p.2))) then d.now else (d.age.calmAt.find? c).getD d.now))
        { d with age := { d.age with passCe := got, ceMark := d.age.ceAll, calmAt := calm } })

/-- MC5 repairs the row at the head of a channel's queue (R322). -/
def execPprRepair (ch : Nat) (s : State) : Host.Outcome State Fault Refusal :=
  s.run (fun d =>
    let x := d.dramCh ch
    match x.queue with
    | [] => d
    | r :: rest =>
      if d.chPaused ch || !d.chLive ch || !d.coreUp 5 then d
      else
        let d := (d.wakeCh ch).setDramCh ch { x with queue := rest }
        let listed := (d.learned.repairs.find? ch).getD []
        if !listed.contains r && decide (32 ≤ listed.length) then d.eventR 4 Device.drmBlk 322
        else
          let listed := if listed.contains r then listed else listed ++ [r]
          let d := (d.setLearned { d.learned with repairs := d.learned.repairs.put ch listed }).learnRec (0x83, ch, 0)
          ((d.bumpSat Fld.DRM_CH_PPR_SPPR 1 ch).setFld Fld.DRM_CH_PPR_LISTED listed.length ch).raise Reg.DRM_INT_STATUS 3 2)

/-- The channel in its switch completes step 4 of R328, or fails its eye check (R329). -/
def execTsetChannelDone (ok : Bool) (s : State) : Host.Outcome State Fault Refusal :=
  s.run (fun d => match d.drm.walk with
    | none => d
    | some w =>
      match w.left with
      | [] => d.walkOver
      | c :: rest =>
        if !ok then
          let d := ((d.setFld Fld.DRM_CH_STATUS_SWITCHING 0 c).setFld Fld.DRM_CH_STATUS_STATE 1 c).walkOver
          (((d.setFld Fld.DRM_TSET_STATUS_FAIL 1).raise Reg.DRM_INT_STATUS 1 4).planSwitched (fun x => decide (x < c)) false).settle
        else
          let d := d.switchDone c
          (d.walkOn w rest c (fun _ => true)).settle)

/-- A channel loses training at run time; `recovered` says that fast training brings it back (R323). -/
def execTrainingLost (ch : Nat) (recovered : Bool) (s : State) : Host.Outcome State Fault Refusal :=
  s.run (fun d => if d.chLive ch && !recovered then d.retireCh ch else d)

/-- 64 ms after flow records were dropped (R320). -/
def execFlowQuietEnd (s : State) : Host.Outcome State Fault Refusal :=
  s.run (fun d => if d.drm.quietUntil = 0 then d else (d.waitUntil d.drm.quietUntil).setDrm { (d.waitUntil d.drm.quietUntil).drm with quietUntil := 0 })

end Sys2Proof.Machine
end

