-- ==== Sys2Proof/Machine/NetCmds.lean ====
section
/-! DEFINITION. Commands of the Ethernet ports and of the RoCEv2 service (R244–R264), with the remote descriptors (R210,
R258, R259, R299) and the QP commands (R261, R262). -/

namespace Sys2Proof.Machine
namespace Device

/-! ### Remote descriptors -/

/-- The status with which a REMOTE_WRITE or REMOTE_READ is refused before anything is sent (R209, R259, R299). -/
def remoteRefuse (d : Device) (fn : Nat) (dw : List Word) : Option Nat :=
  let t := dwF dw 8 31 30
  if 2 ≤ t then some stInvalid
  else if t = 1 ∧ !([12, 13, 14, 15].all (fun i => dwAt dw i == 0)) then some stInvalid
  else if dLength dw = 0 ∨ 2147483648 < dLength dw then some stRange
  else if t = 1 then
    match d.qp? (dwF dw 8 23 0) with
    | some q => if q.owner ≠ fn then some stProt else qpRefuses q
    | none => some stProt
  else
    match d.ep? (dwF dw 12 23 0) with
    | some e => if e.owner ≠ fn then some stProt else if (d.tx? (dwF dw 12 23 0) (dwF dw 8 23 0)).isNone then some stRange
      else if bitAt (dwAt dw 12) 31 && !d.slotPermits (dwF dw 15 11 0) 1 then some stProt else none
    | none => some stProt

/-- REMOTE_WRITE: data from the host is at hand; data from a cask is read first, under one snapshot (R52). -/
def remoteWrite (d : Device) (fn q : Nat) (x : DescState) : Device :=
  match d.remoteRefuse fn x.dw with
  | some st => d.complete fn q x.seq st 0 0
  | none =>
    if dCaskIo x.dw then
      let (d, st) := d.startRead (.sq fn q) (.desc fn q x.seq) (.ring fn) (dCask x.dw) (dOffset x.dw) (dLength x.dw) (fun p => .remoteSrc p)
      if st = stOk then d else d.complete fn q x.seq st 0 0
    else d.remoteGo fn q x.seq x.dw x.data

def remoteRead (d : Device) (fn q : Nat) (x : DescState) : Device :=
  match d.remoteRefuse fn x.dw with
  | some st => d.complete fn q x.seq st 0 0
  | none => d.remoteGo fn q x.seq x.dw []

/-- Land the bytes of a remote read at a position of its buffer. A landing buffer in a cask takes them, once all are there, as one write, which
is cut at the boundaries of its own offset (R45, R58). The descriptor's own part ends with `st`. -/
def landRead (d : Device) (fn q seq pos : Nat) (bytes : List Byte) (st r1 : Nat) : Device :=
  let tok := Token.desc fn q seq
  match d.desc? fn q seq with
  | none => d
  | some x =>
    if st ≠ stOk then d.finish tok st 0 r1
    else if dCaskIo x.dw then
      let data := spliceBytes x.data pos bytes
      if 1 < x.parts then (d.updDesc fn q seq (fun x => { x with data := data })).finish tok stOk 0 0
      else if x.status ≠ 0 then d.finish tok stOk 0 0
      else d.submit pieceFuel { src := .engine 0x11 fn q, tok := tok, path := .ring fn, acc := .write, cask := dCask x.dw, off := dOffset x.dw,
                                op := .data data, more := .data [], policy := .syncRequired, heldAt := d.now }
    else d.landHost fn x tok pos bytes

/-- RECV (R258, R291). -/
def postRecv (d : Device) (fn q : Nat) (x : DescState) : Device :=
  let id := dwF x.dw 8 23 0
  let t := dwF x.dw 8 31 30
  let me := (fn, q, x.seq)
  if 2 ≤ t ∨ (t = 1 ∧ dwAt x.dw 12 ≠ 0) then d.complete fn q x.seq stInvalid 0 0
  else if t = 1 then
    match d.qp? id with
    | some c =>
      if c.owner ≠ fn then d.complete fn q x.seq stProt 0 0
      else if c.state = 4 then d.complete fn q x.seq stAborted 0 0
      else if 4096 ≤ c.recvs.length then d.complete fn q x.seq stBudget 0 0
      else d.updQp (id % 1048576) (fun c => { c with recvs := c.recvs ++ [me] })
    | none => d.complete fn q x.seq stProt 0 0
  else
    match d.ep? id with
    | some e =>
      if e.owner ≠ fn then d.complete fn q x.seq stProt 0 0
      else if 4096 ≤ e.recvs.length then d.complete fn q x.seq stBudget 0 0
      else d.setPdt { d.pdt with eps := d.pdt.eps.put (id % 65536) { e with recvs := e.recvs ++ [me] } }
    | none => d.complete fn q x.seq stProt 0 0

/-! ### QP contexts -/

/-- The lowest free context (log 20). -/
def freeQpc (d : Device) : Option Nat := (List.range (d.net.qps.length + 1)).find? (fun i => !d.net.qps.has i && decide (i < 1048576))

def newQp (inc owner now : Nat) : Qp :=
  { inc := inc, owner := owner, state := 0, attr := List.replicate 6 0 ++ [0xFF, 0xFF] ++ List.replicate 120 0, cause := 0, ePsn := 0, naked := false, reqs := [],
    recvs := [], saved := [], ackDue := false, ackPsn := 0, cnpAt := none, sPsn := 0, out := [], sentAt := 0, tries := 0, rnrs := 0,
    rnrAt := none, rate := rateAt 0 now }

/-- Incarnations: 1 at the first assignment, one more at each later one, from `top` back to 1 (R253, R267). -/
def nextInc (incs : AMap Nat) (i top : Nat) : Nat :=
  match incs.find? i with
  | some n => if n = top then 1 else n + 1
  | none => 1

/-- Take bytes [i, i + n) of a block into the attributes. -/
def takeBytes (new : List Byte) (old : List Byte) (i n : Nat) : List Byte := old.take i ++ (new.drop i).take n ++ old.drop (i + n)

/-- Set the bits of `m` of byte `i`. -/
def takeBits (new old : List Byte) (i m : Nat) : List Byte :=
  old.take i ++ [BitVec.ofNat 8 (Nat.lor (Nat.land (byteAt old i) (255 - m)) (Nat.land (byteAt new i) m))] ++ old.drop (i + 1)

/-- The bytes of the attribute block that R262 does not name, and the bits that its fields leave over. -/
def attrZeros (b : List Byte) : Bool :=
  ([15, 19, 26, 27, 28, 29, 30, 31] ++ (List.range 10).map (38 + ·) ++ (List.range 59).map (69 + ·)).all (fun i => byteAt b i == 0) &&
    (byteAt b 3 / 8 % 16 == 0) && decide (byteAt b 4 < 64) && decide (byteAt b 11 < 8) && (leAt b 64 4 / 1048576 == 0)

/-- The fields that a transition takes, with their ranges (R262); none: a value is out of range. -/
def attrTake (frm tgt : Nat) (b old : List Byte) : Option (List Byte) :=
  if frm = 0 ∧ tgt = 1 then
    if 63 < byteAt b 2 then none else some (takeBytes b (takeBytes b (takeBytes b old 2 1) 6 2) 11 1)
  else if frm = 1 ∧ tgt = 2 then
    if byteAt b 1 < 3 ∨ 5 < byteAt b 1 ∨ byteAt b 23 = 0 ∨ 16 < byteAt b 23 then none
    else some (takeBits b ([(1, 1), (3, 3), (8, 3), (16, 3), (23, 3), (32, 6), (48, 16), (64, 4)].foldl
      (fun o p => takeBytes b o p.1 p.2) old) 21 0x1F)
  else if frm = 2 ∧ tgt = 3 then
    if byteAt b 22 = 0 ∨ 16 < byteAt b 22 ∨ byteAt b 20 % 32 = 0 then none
    else some (takeBits b ([(12, 3), (20, 1), (22, 1)].foldl (fun o p => takeBytes b o p.1 p.2) old) 21 0xE0)
  else if frm = 3 ∧ tgt = 3 then
    if byteAt b 20 % 32 = 0 then none
    else some (takeBits b ([(11, 1), (20, 1)].foldl (fun o p => takeBytes b o p.1 p.2) old) 21 0x1F)
  else if tgt = 0 ∨ tgt = 4 then some old
  else none

/-- QP_MODIFY (R262). -/
def qpModify (d : Device) (fn : Nat) (x : DescState) : Device :=
  let qpn := dwF x.dw 8 23 0
  let i := qpn % 1048576
  let b := x.data
  let tgt := byteAt b 0
  match d.qp? qpn with
  | none => d.complete fn 0 x.seq stRange 0 0
  | some q =>
    if !attrZeros b then d.complete fn 0 x.seq stRange 0 0
    else match attrTake q.state tgt b q.attr with
      | none => d.complete fn 0 x.seq stRange 0 0
      | some a =>
        let d : Device :=
          if tgt = 4 then d.errQp i 0 false
          else if tgt = 0 then
            (d.abortQp i).updQp i (fun c => { newQp c.inc c.owner d.now with recvs := c.recvs, cnpAt := c.cnpAt })
          else d.updQp i (fun c => { c with
            state := tgt, attr := a
            ePsn := if tgt = 2 then leAt b 16 3 else c.ePsn
            ackPsn := if tgt = 2 then (leAt b 16 3 + 16777215) % 16777216 else c.ackPsn
            sPsn := if c.state = 2 ∧ tgt = 3 then leAt b 12 3 else c.sPsn
            rate := if c.state = 2 ∧ tgt = 3 then rateAt (d.ifRate (byteAt a 2)) d.now else c.rate })
        d.complete fn 0 x.seq stOk 0 0

/-- The attribute block as QP_QUERY writes it. -/
def qpBlock (q : Qp) : List Byte :=
  takeBytes (List.replicate 68 0 ++ [BitVec.ofNat 8 q.cause]) (takeBytes [BitVec.ofNat 8 q.state] q.attr 0 1) 68 1

/-! ### The requester's replies -/

/-- IBTA's RNR timer codes, in µs (R256 gives 0x14: 10.24 ms; PRESUMED, log 20). -/
def rnrUs (c : Nat) : Nat :=
  [655360, 10, 20, 30, 40, 60, 80, 120, 160, 240, 320, 480, 640, 960, 1280, 1920, 2560, 3840, 5120, 7680, 10240, 15360, 20480, 30720,
   40960, 61440, 81920, 122880, 163840, 245760, 327680, 491520].getD (c % 32) 655360

/-- Complete, in order, the writes that an ACK of `psn` covers (R259). -/
def roceCover (i psn : Nat) : Nat → Device → Device
  | 0, d => d
  | n + 1, d =>
    match d.net.qps.find? i with
    | some q =>
      match q.out with
      | o :: rest =>
        if o.sent && !o.read && !seqBefore 24 psn o.last then
          let d := d.updQp i (fun q => { q with out := rest, tries := 0, rnrs := 0, sentAt := d.now })
          roceCover i psn n (d.finish (.desc o.fn o.q o.seq) stOk 0 0)
        else d
      | [] => d
    | none => d

/-- Put the requests that are sent and not complete on the wire again. -/
def roceResend (d : Device) (i : Nat) : Device :=
  match d.net.qps.find? i with
  | some q => (q.out.filter (·.sent)).foldl (fun (d : Device) o => d.roceEmit i q o) (d.updQp i (fun q => { q with sentAt := d.now }))
  | none => d

/-- A request fails: its descriptor completes, the QP enters ERROR, the later ones end with ST_ABORTED (R259). -/
def roceDead (d : Device) (i st r1 : Nat) : Device :=
  match d.net.qps.find? i with
  | some q =>
    match q.out with
    | o :: rest => ((d.updQp i (fun q => { q with out := rest })).finish (.desc o.fn o.q o.seq) st 0 r1).errQp i st true
    | [] => d
  | none => d

/-- A retry, or ST_TIMEOUT when the retry count is used up. -/
def roceRetry (d : Device) (i : Nat) : Device :=
  match d.net.qps.find? i with
  | some q =>
    if byteAt q.attr 20 / 32 ≤ q.tries then d.roceDead i stTimeout 0
    else (d.updQp i (fun q => { q with tries := q.tries + 1 })).roceResend i
  | none => d

/-- An ACK or NAK received as requester (R259). -/
def roceReply (d : Device) (i psn syn : Nat) : Device :=
  let kind := syn / 32 % 4
  if kind = 0 then
    let d := roceCover i psn 4096 d
    match d.net.qps.find? i with
    | some q =>
      match q.out with
      | o :: _ => if o.sent && o.read && !seqBefore 24 psn o.last then d.roceRetry i else rocePump i 4096 d
      | [] => d
    | none => d
  else
    let d := roceCover i ((psn + 16777215) % 16777216) 4096 d
    match d.net.qps.find? i with
    | none => d
    | some q =>
      if q.out.isEmpty then d
      else if kind = 1 then
        let lim := byteAt q.attr 21 / 32
        if lim ≠ 7 ∧ lim ≤ q.rnrs then d.roceDead i stTimeout 0
        else d.updQp i (fun q => { q with rnrs := q.rnrs + 1, rnrAt := some (d.now + rnrUs syn) })
      else if syn = 0x60 then d.roceRetry i
      else d.roceDead i stRemote syn

/-- A packet for the requester of a QP in RTS. -/
def roceRsp (d : Device) (p : RoceIn) (body : Device → Nat → Qp → Device) : Device :=
  d.rocePkt p (fun d i q poison => if q.state ≠ 3 ∨ poison then d else body d i q)

/-- The next packet of a read's response lands: data lands in PSN order, and the last of it completes the descriptor (R259). -/
def roceLand (d : Device) (i psn : Nat) (bytes : List Byte) : Device :=
  match d.net.qps.find? i with
  | none => d
  | some q =>
    match q.out with
    | o :: rest =>
      if !o.read || !o.sent || psn != (o.psn + o.got / pmtuBytes (byteAt q.attr 1)) % 16777216 then d
      else
        let o' := { o with got := o.got + bytes.length, bytes := o.bytes ++ bytes }
        if o'.got < o.len then d.updQp i (fun q => { q with out := o' :: rest, sentAt := d.now, tries := 0 })
        else
          let d := d.updQp i (fun q => { q with out := rest, sentAt := d.now, tries := 0, rnrs := 0 })
          rocePump i 4096 (d.landRead o.fn o.q o.seq 0 o'.bytes stOk 0)
    | [] => d

/-! ### Ports -/

/-- Whether a frame is for one of an interface's own addresses (R246, R265). -/
def ifAddr (d : Device) (i : Nat) (f : EthFrame) : Bool :=
  (f.ip == 4 || f.ip == 6) && d.ifIp i f.ip != 0 && f.dstIp == d.ifIp i f.ip

/-- An IP address of a frame in the form of MIR_ARB_ADDR0–3 (R166): IPv4 in IPv4-mapped form. -/
def mappedIp (ver a : Nat) : Nat := if ver = 4 then 0xFFFF * 2 ^ 32 + a else a

/-- Whether an interface accepts a frame (R246). -/
def ifAccepts (d : Device) (i : Nat) (f : EthFrame) : Bool :=
  let vlan := bitsGet (d.reg (Reg.NET_P_IF0_MAC_HI + 32 * (i % 8)) (i / 8)) 27 16
  decide (f.len ≤ 9600) && !f.pause && (f.group || f.dmac == d.ifMac i) && (match f.tag with
    | none => vlan == 0
    | some (vid, _) => vid == vlan)

/-- The opcodes of R274. -/
def pdtOpcode (op : Nat) : Bool := decide (1 ≤ op ∧ op ≤ 9) || decide (0x11 ≤ op ∧ op ≤ 0x15)

/-- Where an accepted frame goes: 1 RoCEv2, 2 PDT, 3 the mirror engine, 4 MC6; none: it is dropped (R246). ICMP and ICMPv6 go to MC6 whatever
address they are for, as neighbour discovery of the link-local address needs; of the rest of IP only what is for the interface. -/
def classify (d : Device) (f : EthFrame) : Option Nat :=
  let i := f.iface
  if f.arp then some 4
  else if f.ip = 0 ∨ !f.plain then none
  else
    let mine := d.ifAddr i f
    if f.udp && mine && f.dport == 4791 then some 1
    else if f.udp && mine && f.dport == d.pdt.port then some 2
    else if f.udp && mappedIp f.ip f.srcIp == d.arbAddr && f.sport == d.fld Fld.MIR_ARB_PORT_DST then some 3
    else if mine || f.icmp then some 4
    else none

/-- The priority a received frame takes (R247). -/
def rxPrio (d : Device) (f : EthFrame) : Nat :=
  if d.flag Fld.NET_P_PRIO_TRUST (f.iface / 8) then (if f.ip = 0 then 0 else f.dscp / 8 % 8)
  else match f.tag with
    | some (_, pcp) => pcp % 8
    | none => 0

/-- The owner tag of a received packet (R231): the function that owns the QP or endpoint that it names, or the port's. -/
def rxOwner (d : Device) (k : Nat) (f : EthFrame) : Nat :=
  (match k with
   | 1 => (d.qp? f.dest).map (fun (q : Qp) => q.owner)
   | 2 => (d.ep? f.dest).map (fun (e : PdtEp) => e.owner)
   | _ => none).getD (0x400 + f.iface / 8)

/-- A frame of `len` bytes is received into a queue whose consumer takes it by a command of its own (R225–R227, R230, R234, R237): it is
discarded when its reservation is refused, rewound when the frame is bad, and waits while the queue is broken. -/
def receive (d : Device) (qn len owner : Nat) (mark bad : Bool) : Device :=
  let cells := (8 + len + 255) / 256
  let p : Pkt := { tok := .none, owner := owner, cells := cells, whole := true, poison := false, void := false, len := len }
  if (d.queue qn).state = 3 then (if bad then d else d.enterQueue qn p mark)
  else if !d.mayReserve qn cells owner then (let e := d.refuseCells qn cells; if bad then e else e.addMark qn none)
  else if bad then d.bumpSat Fld.QMG_Q_DROP_REWOUND 1 qn
  else d.enterQueue qn p mark

/-- A frame of an engine enters its ingress queue, or meets the cap (R237, R247, R248). -/
def enterIngress (d : Device) (n p len owner : Nat) (bad : Bool) : Device :=
  let k := 8 * n + p
  let qn := 0x200 + k
  let lossless := bitAt (d.reg Reg.NET_P_PFC n) (24 + p)
  let capped := (d.queue qn).state == 1 && !d.underCap qn ((8 + len + 255) / 256)
  let d := d.unperch.receive qn len owner (decide (d.fld Fld.NET_P_ECN_THR n ≤ queueCells (d.queue qn))) bad
  if capped then
    let d := d.bumpPair Reg.NET_P_REFUSED_LO 1 n
    if lossless then d.raise Reg.NET_INT_STATUS 2 3 else d
  else if lossless && !d.net.xoff.has k && decide (d.fld Fld.NET_P_XOFF_XOFF n ≤ queueCells (d.queue qn)) then
    (d.setNet { d.net with xoff := d.net.xoff.put k d.now }).sendPfc n p 0xFFFF
  else d

/-- MC6 takes at most 10,000 frames a second from a port (R246), counted over each whole second of the clock (DESIGN CHOICE, log 63). -/
def mc6Room (d : Device) (n : Nat) : Bool :=
  match d.net.mc6.find? n with
  | some (s, k) => s != d.now / 1000000 || decide (k < 10000)
  | none => true

/-- An interface is no longer paused for a priority (R249). -/
def unpause (d : Device) (i p : Nat) : Device :=
  ((d.setNet { d.net with paused := d.net.paused.del (8 * i + p) }).endPause (i / 8) p).drainOf (i / 8) p

/-! ### The limiter of a QP or of a sending flow -/

/-- Change the limiter that a command names: a QP, or the flow of a local to a remote endpoint when `qpn` is 0, which the receiving record of the
reverse flow holds while there is no sending one. -/
def onRate (d : Device) (qpn loc rem : Nat) (g : Device → Rate → Nat → Option Rate) : Device :=
  if qpn ≠ 0 then
    match d.qp? qpn with
    | some q =>
      match g d q.rate (d.ifRate (byteAt q.attr 2)) with
      | some r => if q.state = 3 then d.updQp (qpn % 1048576) (fun q => { q with rate := r }) else d
      | none => d
    | none => d
  else
    match d.tx? loc rem with
    | some f =>
      match g d f.rate (d.ifRate (byteAt f.peer 4)) with
      | some r => d.setTx { f with rate := r }
      | none => d
    | none =>
      match d.rx? loc rem with
      | some f =>
        match g d f.rate (d.ifRate f.via.iface) with
        | some r => d.setRx { f with rate := r }
        | none => d
      | none => d

def rateOf (d : Device) (qpn loc rem : Nat) : Option Rate :=
  if qpn ≠ 0 then (d.qp? qpn).map (·.rate)
  else match d.tx? loc rem with
    | some f => some f.rate
    | none => (d.rx? loc rem).map (·.rate)

end Device

/-! ### Ring and admin commands -/

/-- REMOTE_WRITE (R210, R259, R299). -/
def execRemoteWrite (fn q : Nat) (s : State) : Host.Outcome State Fault Refusal :=
  s.run (fun d => d.ioDesc fn q 0x10 true (fun d x => (d.remoteWrite fn q x).settle))

/-- REMOTE_READ (R210, R259, R299). -/
def execRemoteRead (fn q : Nat) (s : State) : Host.Outcome State Fault Refusal :=
  s.run (fun d => d.ioDesc fn q 0x11 true (fun d x => (d.remoteRead fn q x).settle))

/-- RECV (R258, R291). -/
def execRecv (fn q : Nat) (s : State) : Host.Outcome State Fault Refusal :=
  s.run (fun d => d.ioDesc fn q 0x12 true (fun d x => d.postRecv fn q x))

/-- QP_CREATE (R253, R261). -/
def execQpCreate (fn : Nat) (s : State) : Host.Outcome State Fault Refusal :=
  s.run (fun d => d.coreCmd 6 fn 0xB0 (fun d x =>
    let owner := dwF x.dw 8 9 0
    if !d.fnExists owner then d.complete fn 0 x.seq stRange 0 0
    else match d.freeQpc with
      | none => d.complete fn 0 x.seq stBudget 0 0
      | some i =>
        let inc := Device.nextInc d.net.qpInc i 15
        let d := (d.setNet { d.net with qps := d.net.qps.put i (Device.newQp inc owner d.now), qpInc := d.net.qpInc.put i inc }).countQps
        let d := d.openOnce (0x8800 + owner) 3 owner      -- R235
        d.complete fn 0 x.seq stOk (inc * 1048576 + i) 0))

/-- QP_MODIFY (R262). -/
def execQpModify (fn : Nat) (s : State) : Host.Outcome State Fault Refusal :=
  s.run (fun d => d.coreCmd 6 fn 0xB1 (fun d x => d.qpModify fn x))

/-- QP_DESTROY (R261). -/
def execQpDestroy (fn : Nat) (s : State) : Host.Outcome State Fault Refusal :=
  s.run (fun d => d.coreCmd 6 fn 0xB2 (fun d x =>
    match d.qp? (dwF x.dw 8 23 0) with
    | none => d.complete fn 0 x.seq stRange 0 0
    | some _ => (d.dropQp (dwF x.dw 8 19 0)).complete fn 0 x.seq stOk 0 0))

/-- QP_QUERY (R261). -/
def execQpQuery (fn : Nat) (s : State) : Host.Outcome State Fault Refusal :=
  s.run (fun d => d.devCmd fn 0xB3 (fun d x =>
    match d.qp? (dwF x.dw 8 23 0) with
    | none => d.complete fn 0 x.seq stRange 0 0
    | some q => d.answerHost fn 0 x (Device.qpBlock q)))

/-! ### Ports -/

/-- An Ethernet frame arrives on an interface that is up (R246–R249). -/
def execEthFrameRx (f : EthFrame) (s : State) : Host.Outcome State Fault Refusal :=
  s.run (fun d =>
    let n := f.iface / 8
    if !d.ifUp f.iface ∨ !d.hubOn then d
    else if !d.ifAccepts f.iface f then d.netDrop n
    else match d.classify f with
      | none => d.netDrop n
      | some k =>
        if k = 4 ∧ !d.mc6Room n then d.netDrop n
        else
          let d := d.when (!f.bad) (·.bumpPair Reg.NET_P_RX_FRAMES_LO 1 n)
          -- R252: packets of transports other than RC are dropped; a CNP is no RC packet. R274: so is a PDT packet of another opcode
          if k = 1 ∧ !f.bad ∧ f.bth % 256 / 32 ≠ 0 ∧ f.bth % 256 ≠ 0x81 then d.netDrop n
          else if k = 2 ∧ !f.bad ∧ !Device.pdtOpcode f.bth then (d.bumpPdt 1).bumpPdt 13
          else if k = 1 ∨ k = 2 then d.enterIngress n (d.rxPrio f) f.len (d.rxOwner k f) f.bad
          else if k = 3 then d.receive (0x30 + n) f.len 0x430 false f.bad
          else
            let d := d.receive (0x300 + n) f.len (0x400 + n) false f.bad
            let c := match d.net.mc6.find? n with
              | some (t, c) => if t = d.now / 1000000 then c else 0
              | none => 0
            d.setNet { d.net with mc6 := d.net.mc6.put n (d.now / 1000000, c + 1) })

/-- MC6 takes an exception frame from its queue and handles it (R246): it answers ARP (kind 1), neighbour discovery (2) and ICMP echo (3), and
nothing else; `target`: whether the frame asks for an address of the interface. While MC6 is stopped the frame stays where it is. One that
reaches it poisoned is discarded, with an event (R229). -/
def execExceptionFrame (iface kind : Nat) (target : Bool) (bytes : List Byte) (s : State) : Host.Outcome State Fault Refusal :=
  s.run (fun d =>
    if !d.hubOn || !d.coreUp 6 then d
    else match d.popIn (0x300 + iface / 8) with
    | (d, none) => d
    | (d, some (_, poison)) =>
    if poison then d.eventR 3 Device.qmgBlk 229
    else if !d.ifUp iface || !target then d
    else if kind = 1 then d.sendFrame iface 0 "ARP_REPLY" [] bytes
    else if kind = 2 then d.sendFrame iface 0 "NEIGHBOUR_ADVERTISEMENT" [] bytes
    else if kind = 3 then d.sendFrame iface 0 "ICMP_ECHO_REPLY" [] bytes
    else d)

/-- An interface of a powered port comes up (R244, R264). -/
def execEthLinkUp (iface : Nat) (s : State) : Host.Outcome State Fault Refusal :=
  s.run (fun d =>
    let n := iface / 8
    if !d.hubOn || decide (64 ≤ iface) || !d.flag Fld.NET_P_MODE_EN n || decide (2 ^ d.fld Fld.NET_P_MODE_BRK n ≤ iface % 8) || d.ifUp iface
      || !d.sup.plls.contains 4 then d
    else (d.setReg Reg.NET_P_STATUS (bitsSet (d.reg Reg.NET_P_STATUS n) (iface % 8) (iface % 8) 1) n).raise Reg.NET_INT_STATUS 0 1)

/-- An interface goes down; with the last one of its port, the port's tag is reclaimed (R233). -/
def execEthLinkDown (iface : Nat) (s : State) : Host.Outcome State Fault Refusal :=
  s.run (fun d =>
    let n := iface / 8
    if !d.ifUp iface then d
    else
      let d := d.ifDown iface
      if d.fld Fld.NET_P_STATUS_UP n = 0 then d.npDown n else d)

/-- A PFC frame for a priority (R249, R250). -/
def execPfcFrameRx (iface prio quanta : Nat) (s : State) : Host.Outcome State Fault Refusal :=
  s.run (fun d =>
    let n := iface / 8
    if !d.ifUp iface ∨ 8 ≤ prio then d
    else
      let k := 8 * n + prio
      let d := d.bumpPair Reg.NET_P_PFC_RX_LO 1 n
      if quanta = 0 then (d.unpause iface prio).settle
      else
        d.setNet { d.net with paused := d.net.paused.put (8 * iface + prio) (d.now + d.pauseUs iface (min quanta 65535))
                              pausedAt := if d.net.pausedAt.has k then d.net.pausedAt else d.net.pausedAt.put k d.now
                              storm := d.net.storm.upd k (fun _ => d.now), pauseRx := d.net.pauseRx.put k d.now })

/-- Half the pause time has passed with the queue at or above XON: the pause is sent again (R248). -/
def execPfcRefreshTimer (port prio : Nat) (s : State) : Host.Outcome State Fault Refusal :=
  s.run (fun d =>
    match d.net.xoff.find? (8 * port + prio) with
    | some t =>
      let d := d.waitUntil (t + d.pauseUs (8 * port) 65535 / 2)
      if d.fld Fld.NET_P_XOFF_XON port ≤ Device.queueCells (d.queue (0x200 + 8 * port + prio)) then
        (d.setNet { d.net with xoff := d.net.xoff.put (8 * port + prio) d.now }).sendPfc port prio 0xFFFF
      else d
    | none => d)

/-- A pause time ends (R249). -/
def execPauseExpire (iface prio : Nat) (s : State) : Host.Outcome State Fault Refusal :=
  s.run (fun d => match d.net.paused.find? (8 * iface + prio) with
    | some t => ((d.waitUntil t).unpause iface prio).settle
    | none => d)

/-- The pause watchdog of a priority fires (R250). -/
def execPfcStormExpire (port prio : Nat) (s : State) : Host.Outcome State Fault Refusal :=
  s.run (fun d =>
    let k := 8 * port + prio
    let ms := d.fld Fld.NET_P_PFC_STORM_MS port
    match d.net.pausedAt.find? k with
    | some t =>
      -- without a break: some pause of the priority lasts that long
      if ms = 0 ∨ d.net.storm.has k ∨ !(List.range 8).any (fun s => decide (t + 1000 * ms ≤ (d.net.paused.find? (8 * (8 * port + s) + prio)).getD 0)) then d
      else
        let d := d.waitUntil (t + 1000 * ms)
        ((d.setNet { d.net with storm := d.net.storm.put k ((d.net.pauseRx.find? k).getD t) }).raise Reg.NET_INT_STATUS 3 4).drainOf port prio
    | none => d)

/-- No pause for 100 ms: the priority honours pause again (R250). -/
def execPfcStormClear (port prio : Nat) (s : State) : Host.Outcome State Fault Refusal :=
  s.run (fun d =>
    let k := 8 * port + prio
    match d.net.storm.find? k with
    | some t =>
      let d := d.waitUntil (t + 100000)
      d.setNet { d.net with storm := d.net.storm.del k, pausedAt := d.net.pausedAt.del k
                            paused := d.net.paused.filter (fun p => !(p.1 / 64 == port && p.1 % 8 == prio)) }
    | none => d)

/-! ### RoCEv2 packets -/

/-- A SEND packet (R252, R255, R258). `variant`: 0 plain; any other is SEND with Immediate or with Invalidate, which R252
refuses. -/
def execRoceSend (p : RoceIn) (place variant : Nat) (bytes : List Byte) (s : State) : Host.Outcome State Fault Refusal :=
  s.run (fun d => (d.roceReq p (fun d i _ => d.roceReAck i) (fun d i q =>
    if variant ≠ 0 then d.roceNakAt i p.psn roceInvalid else d.roceData1 i q p.psn place 0 0 0 true false 0 bytes)).settle)

/-- An RDMA WRITE packet, with or without an immediate (R252, R254, R255). -/
def execRoceRdmaWrite (p : RoceIn) (place handle off dmaLen : Nat) (hasImm : Bool) (imm : Nat) (bytes : List Byte) (s : State) :
    Host.Outcome State Fault Refusal :=
  s.run (fun d => (d.roceReq p (fun d i _ => d.roceReAck i) (fun d i q =>
    d.roceData1 i q p.psn place handle off dmaLen false hasImm imm bytes)).settle)

/-- An RDMA READ request (R252, R254, R257). -/
def execRoceRdmaReadReq (p : RoceIn) (handle off len : Nat) (s : State) : Host.Outcome State Fault Refusal :=
  let req (q : Qp) : RoceReq :=
    { RoceReq.blank with psn := p.psn, last := (p.psn + packetsOf len (pmtuBytes (byteAt q.attr 1)) - 1) % 16777216, ans := .read,
                         handle := handle, off := off, len := len }
  s.run (fun d => (d.roceReq p
    (fun d i q => d.updQp i (fun c => { c with reqs := insertReq { req q with dup := true } c.reqs }))
    (fun d i q => if 2147483648 < len then d.roceNakAt i p.psn roceInvalid else d.roceAdd i q (req q))).settle)

/-- Compare & Swap (kind 0), Fetch & Add (kind 1), or an atomic that R252 refuses (R252, R257). -/
def execRoceAtomic (p : RoceIn) (kind handle off a b : Nat) (s : State) : Host.Outcome State Fault Refusal :=
  let op : WriteOp := if kind = 0 then .cas 8 a b else .fadd a
  s.run (fun d => (d.roceReq p
    (fun d i q =>
      match q.saved.find? (fun x => x.1 == p.psn) with
      | some x => d.qpFrame q "ATOMIC_RESP" [p.psn] (leBytes 8 x.2)
      | none => if q.reqs.any (fun r => r.psn == p.psn) then d else d.roceNakAt i p.psn roceInvalid)
    (fun d i q => if 2 ≤ kind then d.roceNakAt i p.psn roceInvalid
      else d.roceAdd i q { RoceReq.blank with psn := p.psn, last := p.psn, ans := .atomic, handle := handle, off := off, len := 8, op := op })).settle)

/-- An ACK or NAK received as requester (R259). -/
def execRoceAcknowledge (p : RoceIn) (syndrome : Nat) (s : State) : Host.Outcome State Fault Refusal :=
  s.run (fun d => (d.roceRsp p (fun d i _ => d.roceReply i p.psn syndrome)).settle)

/-- A READ response received as requester (R259): what came before it is covered, and it lands. -/
def execRoceReadResponse (p : RoceIn) (bytes : List Byte) (s : State) : Host.Outcome State Fault Refusal :=
  s.run (fun d => (d.roceRsp p (fun d i _ => (Device.roceCover i ((p.psn + 16777215) % 16777216) 4096 d).roceLand i p.psn bytes)).settle)

/-- A CNP for a QP (R263). -/
def execRoceCnp (p : RoceIn) (s : State) : Host.Outcome State Fault Refusal :=
  s.run (fun d => d.rocePkt p (fun d i q poison =>
    if poison then d
    else
      let d := d.bumpPair Reg.NET_P_CNP_RX_LO 1 (p.iface / 8)
      if q.state = 3 then d.updQp i (fun q => { q with rate := d.rateHit q.rate }) else d))

/-- The responder sends the ACK that has fallen due (R254). -/
def execRoceAckSend (qpn : Nat) (s : State) : Host.Outcome State Fault Refusal :=
  s.run (fun d => match d.qp? qpn with
    | some q => if q.ackDue && (q.state == 2 || q.state == 3) then
        (d.updQp (qpn % 1048576) (fun q => { q with ackDue := false })).qpFrame q "ACK" [q.ackPsn, 0x1F] else d
    | none => d)

/-- The local ACK timeout expires (R259): 4.096 µs × 2^T. -/
def execRoceAckTimeout (qpn : Nat) (s : State) : Host.Outcome State Fault Refusal :=
  s.run (fun d => match d.qp? qpn with
    | some q =>
      let t := byteAt q.attr 20 % 32
      if q.state ≠ 3 ∨ t = 0 ∨ q.rnrAt.isSome ∨ !(q.out.any (·.sent)) then d
      else ((d.waitUntil (q.sentAt + 4096 * 2 ^ t / 1000)).roceRetry (qpn % 1048576)).settle
    | none => d)

/-- The RNR timer expires (R259): the request is sent again. -/
def execRoceRnrTimer (qpn : Nat) (s : State) : Host.Outcome State Fault Refusal :=
  s.run (fun d => match d.qp? qpn with
    | some q =>
      match q.rnrAt with
      | some t =>
        if q.state ≠ 3 then d
        else Device.rocePump (qpn % 1048576) 4096 (((d.waitUntil t).updQp (qpn % 1048576) (fun q => { q with rnrAt := none })).roceResend (qpn % 1048576))
      | none => d
    | none => d)

/-- ALPHA_US passes with no CNP (R263, R284). -/
def execDcqcnAlphaTimer (qpn loc rem : Nat) (s : State) : Host.Outcome State Fault Refusal :=
  s.run (fun d => match d.rateOf qpn loc rem with
    | some r => (d.waitUntil (r.alphaAt + d.fld Fld.NET_DCQCN_A_ALPHA_US)).onRate qpn loc rem (fun d r _ => some (d.rateAlpha r))
    | none => d)

/-- INC_US passes (R263, R284). -/
def execDcqcnIncTimer (qpn loc rem : Nat) (s : State) : Host.Outcome State Fault Refusal :=
  s.run (fun d => match d.rateOf qpn loc rem with
    | some r => (d.waitUntil (r.incAt + d.fld Fld.NET_DCQCN_A_INC_US)).onRate qpn loc rem (fun d r top =>
        some (d.rateUp { r with t := r.t + 1, incAt := d.now } top))
    | none => d)

/-- BC_MIB have been sent (R263, R284). -/
def execDcqcnByteCounter (qpn loc rem : Nat) (s : State) : Host.Outcome State Fault Refusal :=
  s.run (fun d =>
    let n := d.fld Fld.NET_DCQCN_C_BC_MIB * 1048576
    d.onRate qpn loc rem (fun d r top =>
      if r.bytes < n then none else some (d.rateUp { r with b := r.b + 1, bytes := r.bytes - n } top)))

end Sys2Proof.Machine
end

