-- ==== Sys2Proof/Machine/PdtCmds.lean ====
section
/-! DEFINITION. Commands of the Petasyn Datagram Transport (R267–R302). -/

namespace Sys2Proof.Machine
namespace Device

/-! ### Set-up -/

def zerosIn (b : List Byte) (is : List Nat) : Bool := is.all (fun i => byteAt b i == 0)

/-- The PDT_CONFIG block within range (R301). -/
def cfgOk (d : Device) (b : List Byte) : Bool :=
  let port := leAt b 0 2
  decide (1024 ≤ port) && port != 4791 && port != d.fld Fld.MIR_ARB_PORT_DST && decide (byteAt b 2 < 2) && zerosIn b [3] &&
    decide (10 ≤ leAt b 4 2 ∧ leAt b 4 2 ≤ 5000) && zerosIn b ((List.range 10).map (6 + ·))

/-- An endpoint block within range (R300). -/
def epOk (b : List Byte) : Bool :=
  let spray := byteAt b 6
  (byteAt b 0 / 8 % 16 == 0) && decide (byteAt b 1 < 64) && decide (1 ≤ byteAt b 2) && decide (byteAt b 3 < 16) && decide (spray ≤ 8) &&
    (leAt b 4 2 % 2 ^ spray == 0) && (byteAt b 7 == 0 || decide (3 ≤ byteAt b 7 ∧ byteAt b 7 ≤ 6)) && decide (leAt b 8 2 < 4096) &&
    zerosIn b ((List.range 54).map (10 + ·))

/-- A peer block within range (R300). -/
def peerOk (b : List Byte) : Bool :=
  let m := byteAt b 5 % 128
  (byteAt b 3 == 0) && decide (byteAt b 4 < 64) && decide (3 ≤ m ∧ m ≤ 6) && zerosIn b [6, 7, 14, 15] && zerosIn b ((List.range 24).map (40 + ·))

/-- The lowest free endpoint index (log 20). -/
def freeEp (d : Device) : Option Nat := (List.range (d.pdt.eps.length + 1)).find? (fun i => !d.pdt.eps.has i && decide (i < 65536))

/-- The sixteen counters of PDT_QUERY (R302). -/
def pdtCounters (d : Device) : List Byte :=
  let c (i : Nat) : Nat :=
    if i = 15 then d.pdt.rx.length + d.pdt.tx.length
    else if i = 16 then d.pdt.rx.foldl (fun a f => a + f.entries.length) 0
    else AMap.getD (fun _ => 0) d.pdt.cnt i
  ((List.range 16).map (fun i => leBytes 8 (c (i + 1)))).flatten

/-! ### The sender -/

/-- What a packet for the sender meets at its flow: CE of a data packet falls due as ECE, and ECE acts on the limiter (R283, R284). -/
def pdtRspGo (d : Device) (p : PdtIn) (body : Device → PdtTx → Device) : Device :=
  match d.tx? p.dst p.src with
  | none => d
  | some _ =>
    let d := if p.ce then d.updTx p.dst p.src (fun f => { f with ece := true }) else d
    let d := if natBit p.flags 13 then d.takeEce p.dst p.src else d
    match d.tx? p.dst p.src with
    | some f => body d f
    | none => d

/-- A packet for the sender: its endpoint, its counter of R302 when it has one, and its flow. -/
def pdtRsp (d : Device) (op : Nat) (p : PdtIn) (cnt : Option Nat) (body : Device → PdtTx → Device) : Device :=
  d.pdtPkt op p (fun d ce => (match cnt with
    | some c => d.bumpPdt c
    | none => d).pdtRspGo { p with ce := ce } body)

/-- The next packet that a flow may send for the first time (R276, R277): the first message not wholly sent, within both
windows; a protected one waits for its key slot (R370). -/
def pdtNextPkt (d : Device) (f : PdtTx) : Option PdtMsg :=
  match f.msgs.find? (fun m => !m.allSent) with
  | none => none
  | some m =>
    let psnOk := !(m.gcm && d.slotPending m.kslot) && !seqBefore 32 ((f.ack + 128) % 4294967296) f.psn
    let msnOk := m.next != 0 || decide (seqDist 32 f.lowMsn m.msn < 32)
    if psnOk && msnOk then some m else none

/-- Replace a message of a flow. -/
def updMsg (d : Device) (loc rem msn : Nat) (g : PdtMsg → PdtMsg) : Device :=
  d.updTx loc rem (fun f => { f with msgs := f.msgs.map (fun m => if m.msn = msn then g m else m) })

/-- The opcode of the packets of a message that this device sends (R274, R299). -/
def msgOp (m : PdtMsg) : Nat := if m.read then 4 else 1

/-- Send one new packet of a flow (R276–R279); a message whose key slot no longer permits it ends with ST_PROT (R370, R381). -/
def pdtSendNew (d : Device) (f : PdtTx) (m : PdtMsg) : Device :=
  if m.gcm && !d.slotPermits m.kslot 1 then d.pdtEnd f m stProt 0
  else
  let pmtu := pmtuBytes (byteAt f.peer 5 % 8)
  let len := if m.read then 0 else min pmtu (m.len - m.next)
  let last := m.read || decide (m.len ≤ m.next + len)
  let pk := (f.psn, m.next, len)
  let d := d.updTx f.loc f.rem (fun f => { f with psn := (f.psn + 1) % 4294967296 })
  let d := d.updMsg f.loc f.rem m.msn (fun m => { m with
    next := if m.read then m.len else m.next + len, allSent := last, pkts := m.pkts ++ [pk], timerAt := if last then some (d.now + 16) else m.timerAt })
  d.pdtWire f.loc f.rem m (msgOp m) pk false last

/-- The packets of a message that no ACK has reported. -/
def unreported (m : PdtMsg) : List (Nat × Nat × Nat) := m.pkts.filter (fun p => !m.rep.contains p.1)

/-- A message's retransmit timer expires (R279, R280, R292); it waits while the message's key slot is PENDING (R381). -/
def pdtTimer (d : Device) (loc rem : Nat) (f : PdtTx) (m : PdtMsg) : Device :=
  let limit := match d.ep? loc with
    | some e => if byteAt e.block 3 % 16 = 0 then 7 else byteAt e.block 3 % 16
    | none => 7
  let miss := unreported m
  let again := fun (m : PdtMsg) => { m with rto := min (2 * m.rto) 4000, timerAt := some (d.now + min (2 * m.rto) 4000) }
  if miss.isEmpty && !m.read then (d.updMsg loc rem m.msn again).pdtWire loc rem m 9 (0, 0, 0) false false
  else if m.gcm && d.slotPending m.kslot then d
  else if m.gcm && !d.slotPermits m.kslot 1 then d.pdtEnd f m stProt 0
  else if m.att = limit then d.pdtStop loc rem m.msn
  else
    let m' := { again m with att := m.att + 1, fast := [], got := if m.read then [] else m.got }
    let d := d.updMsg loc rem m.msn (fun _ => m')
    (if m.read then m.pkts else miss).foldl (fun (d : Device) pk => d.pdtWire loc rem m' (msgOp m) pk true true) d

/-- An ACK received as sender (R275, R279, R280). -/
def pdtAckIn (d : Device) (p : PdtIn) (f : PdtTx) : Device :=
  let loc := f.loc
  let rem := f.rem
  let sacked (psn : Nat) : Bool :=
    msnBefore psn p.psn || (let i := seqDist 32 ((p.psn + 1) % 4294967296) psn
      decide (i < 128) && natBit (byteAt p.bytes (i / 8)) (7 - i % 8))
  let d := d.updTx loc rem (fun f => { f with ack := if msnBefore f.ack p.psn then p.psn else f.ack })
  -- packets reported received
  let d := d.updTx loc rem (fun f => { f with msgs := f.msgs.map (fun m =>
    let rep := m.rep ++ ((m.pkts.map (fun (q : Nat × Nat × Nat) => q.1)).filter (fun s => sacked s && !m.rep.contains s))
    let all := m.allSent && m.pkts.all (fun q => rep.contains q.1)
    { m with rep := rep, repAt := if all && m.repAt.isNone then some d.now else m.repAt }) })
  -- outcomes
  let outs := f.msgs.filter (fun m => msnBefore m.msn p.msn && decide (seqDist 32 m.msn p.msn ≤ 32))
  let d := outs.foldl (fun (d : Device) m =>
    let st := byteAt p.bytes (16 + 32 - seqDist 32 m.msn p.msn)
    match d.tx? loc rem with
    | some f =>
      if st ≠ 0 then d.pdtEnd f m stRemote st
      else if m.read then d
      else d.pdtEnd f m stOk 0
    | none => d) d
  -- packets that at least 3 later ones show missing, once per attempt
  match d.tx? loc rem with
  | none => d
  | some f =>
    let repd := (f.msgs.map (fun m => m.rep)).flatten
    let free (m : PdtMsg) : Bool := !m.gcm || d.slotReady m.kslot      -- R297
    let holes := ((f.msgs.filter free).map (fun m => ((unreported m).filter (fun q => !m.fast.contains q.1 &&
      decide (3 ≤ (repd.filter (fun s => msnBefore q.1 s)).length))).map (fun q => (m, q)))).flatten
    holes.foldl (fun (d : Device) (h : PdtMsg × (Nat × Nat × Nat)) =>
      (d.updMsg loc rem h.1.msn (fun m => { m with fast := h.2.1 :: m.fast })).pdtWire loc rem h.1 (msgOp h.1) h.2 true false) d

/-- The message that a response names by its MSN. -/
def msgOf (f : PdtTx) (msn : Nat) : Option PdtMsg := f.msgs.find? (fun m => m.msn == msn)

/-- Whether a read response waits for its key slot (R370). -/
def respPending (d : Device) (p : PdtIn) : Bool :=
  match (d.tx? p.dst p.src).bind (fun f => msgOf f p.msn) with
  | some m => m.gcm && d.slotPending m.kslot
  | none => false

/-- READ_RESP received as requester (R292, R297, R298), once its engine has taken it from the ingress queue. -/
def respGo (d : Device) (p : PdtIn) : Device :=
  if d.respPending p then d.pdtHold 0x11 p
  else d.pdtRspGo p (fun d f =>
    match msgOf f p.msn with
    | none => d
    | some m =>
      if !m.read || m.att != p.flags % 16 then d
      else if m.gcm && !(d.pdtUnseal m.kslot 0x11 p).2 then (d.authFail.bumpPdt 10).pdtEnd f m stAuthFail 0
      else
        let got := m.got.put p.msgOff (if m.gcm then (d.pdtUnseal m.kslot 0x11 p).1 else p.bytes)
        let d := if m.gcm then d.cipherBytes p.bytes.length else d
        if gotBytes got < m.len then d.updMsg f.loc f.rem m.msn (fun m => { m with got := got })
        else
          let bs := got.foldl (fun (acc : List Byte) q => spliceBytes acc q.1 q.2) []
          let ms := f.msgs.filter (fun x => x.msn != m.msn)
          let d := d.setTx { f with msgs := ms, lowMsn := match ms with
            | x :: _ => x.msn
            | [] => f.msn }
          d.landRead m.fn m.q m.seq m.pos (bs.take m.len) stOk 0)

/-- The packets that waited for their key slots are taken, in the order they came (R370, R381). -/
def pdtRetry (d : Device) : Device :=
  let hs := d.pdt.held
  hs.foldl (fun (d : Device) (h : Nat × PdtIn) => if h.1 = 0x11 then d.respGo h.2 else d.pdtGo h.1 h.2) (d.setPdt { d.pdt with held := [] })

end Device

/-- PDT_CONFIG (R301). -/
def execPdtConfig (fn : Nat) (s : State) : Host.Outcome State Fault Refusal :=
  s.run (fun d => d.coreCmd 6 fn 0xB8 (fun d x =>
    if !d.cfgOk x.data then d.complete fn 0 x.seq stRange 0 0
    else (d.setPdt { d.pdt with port := leAt x.data 0 2, on := byteAt x.data 2 == 1, complMs := leAt x.data 4 2 }).complete fn 0 x.seq stOk 0 0))

/-- EP_CREATE (R267, R268, R300). -/
def execEpCreate (fn : Nat) (s : State) : Host.Outcome State Fault Refusal :=
  s.run (fun d => d.coreCmd 6 fn 0xB9 (fun d x =>
    let owner := dwF x.dw 8 9 0
    if !d.fnExists owner || !Device.epOk x.data then d.complete fn 0 x.seq stRange 0 0
    else match d.freeEp with
      | none => d.complete fn 0 x.seq stBudget 0 0
      | some i =>
        let inc := Device.nextInc d.pdt.epInc i 255
        let d := d.setPdt { d.pdt with eps := d.pdt.eps.put i { inc := inc, owner := owner, block := x.data, recvs := [] }, epInc := d.pdt.epInc.put i inc }
        let d := d.openOnce (0x8400 + owner) 3 owner
        d.complete fn 0 x.seq stOk (inc * 65536 + i) 0))

/-- EP_MODIFY (R300). -/
def execEpModify (fn : Nat) (s : State) : Host.Outcome State Fault Refusal :=
  s.run (fun d => d.coreCmd 6 fn 0xBA (fun d x =>
    match d.ep? (dwF x.dw 8 23 0) with
    | none => d.complete fn 0 x.seq stRange 0 0
    | some e =>
      if !Device.epOk x.data then d.complete fn 0 x.seq stRange 0 0
      else (d.setPdt { d.pdt with eps := d.pdt.eps.put (dwF x.dw 8 15 0) { e with block := x.data } }).complete fn 0 x.seq stOk 0 0))

/-- EP_DESTROY (R268, R300). -/
def execEpDestroy (fn : Nat) (s : State) : Host.Outcome State Fault Refusal :=
  s.run (fun d => d.coreCmd 6 fn 0xBB (fun d x =>
    match d.ep? (dwF x.dw 8 23 0) with
    | none => d.complete fn 0 x.seq stRange 0 0
    | some _ => (d.dropEp (dwF x.dw 8 23 0)).complete fn 0 x.seq stOk 0 0))

/-- EP_PEER (R300): the peer entry, held in the sending flow record. A flow that exists keeps its PSN and MSN when its peer entry is replaced
(DESIGN CHOICE, log 63). -/
def execEpPeer (fn : Nat) (s : State) : Host.Outcome State Fault Refusal :=
  s.run (fun d => d.coreCmd 6 fn 0xBC (fun d x =>
    let loc := dwF x.dw 8 23 0
    let rem := leAt x.data 0 3
    match d.ep? loc with
    | none => d.complete fn 0 x.seq stRange 0 0
    | some _ =>
      if !Device.peerOk x.data then d.complete fn 0 x.seq stRange 0 0
      else match d.tx? loc rem with
        | some f => (d.setTx { f with peer := x.data }).complete fn 0 x.seq stOk 0 0
        | none =>
          if 1048576 ≤ d.pdt.rx.length + d.pdt.tx.length then d.complete fn 0 x.seq stBudget 0 0
          else
            let psn := leAt x.data 32 4
            let msn := leAt x.data 36 4
            let f : PdtTx := { loc := loc, rem := rem, peer := x.data, psn := psn, msn := msn, lowMsn := msn, ack := psn, sent := d.flowSent loc rem, ece := false, msgs := [],
                               rate := match d.rx? loc rem with
                                 | some g => g.rate
                                 | none => rateAt (d.ifRate (byteAt x.data 4)) d.now }
            (d.setPdt { d.pdt with tx := d.pdt.tx ++ [f] }).complete fn 0 x.seq stOk 0 0))

/-- PDT_QUERY (R302). -/
def execPdtQuery (fn : Nat) (s : State) : Host.Outcome State Fault Refusal :=
  s.run (fun d => d.devCmd fn 0xBD (fun d x => d.answerHost fn 0 x d.pdtCounters))

/-! ### Requests received -/

/-- WRITE (R274, R288–R290). -/
def execPdtWrite (p : PdtIn) (s : State) : Host.Outcome State Fault Refusal := s.run (fun d => (d.pdtReq 1 p).settle)
/-- WRITE_IMM (R274, R290, R291). -/
def execPdtWriteImm (p : PdtIn) (s : State) : Host.Outcome State Fault Refusal := s.run (fun d => (d.pdtReq 2 p).settle)
/-- SEND (R274, R291). -/
def execPdtSend (p : PdtIn) (s : State) : Host.Outcome State Fault Refusal := s.run (fun d => (d.pdtReq 3 p).settle)
/-- READ_REQ (R292). -/
def execPdtReadReq (p : PdtIn) (s : State) : Host.Outcome State Fault Refusal := s.run (fun d => (d.pdtReq 4 p).settle)
/-- CAS8 (R293). -/
def execPdtCas8 (p : PdtIn) (s : State) : Host.Outcome State Fault Refusal := s.run (fun d => (d.pdtReq 5 p).settle)
/-- CAS16 (R293). -/
def execPdtCas16 (p : PdtIn) (s : State) : Host.Outcome State Fault Refusal := s.run (fun d => (d.pdtReq 6 p).settle)
/-- FADD8 (R293). -/
def execPdtFadd8 (p : PdtIn) (s : State) : Host.Outcome State Fault Refusal := s.run (fun d => (d.pdtReq 7 p).settle)
/-- PERSIST (R290). -/
def execPdtPersist (p : PdtIn) (s : State) : Host.Outcome State Fault Refusal := s.run (fun d => (d.pdtReq 8 p).settle)
/-- QUERY (R274): an immediate ACK. -/
def execPdtQueryPkt (p : PdtIn) (s : State) : Host.Outcome State Fault Refusal := s.run (fun d => (d.pdtReq 9 p).settle)

/-! ### Responses received -/

/-- READ_RESP received as requester (R292, R298). -/
def execPdtReadResp (p : PdtIn) (s : State) : Host.Outcome State Fault Refusal := s.run (fun d => (d.pdtPkt 0x11 p (fun d ce => d.respGo { p with ce := ce })).settle)

/-- ATOMIC_RESP received (R299): the controller issues no PDT atomics, so no message of it waits for one; the packet is
counted and has no other effect. -/
def execPdtAtomicResp (p : PdtIn) (s : State) : Host.Outcome State Fault Refusal :=
  s.run (fun d => (d.pdtRsp 0x12 p none (fun d _ => d)).settle)

/-- ACK received as sender (R279, R280, R299). -/
def execPdtAck (p : PdtIn) (s : State) : Host.Outcome State Fault Refusal :=
  s.run (fun d => (d.pdtRsp 0x13 p none (fun d f => d.pdtAckIn p f)).settle)

/-- NAK received as sender (R281): a loss, or ST_INVALID for MALFORMED (R299). -/
def execPdtNak (p : PdtIn) (s : State) : Host.Outcome State Fault Refusal :=
  s.run (fun d => (d.pdtRsp 0x14 p (some 7) (fun d f =>
    match Device.msgOf f p.msn with
    | some m => if byteAt p.bytes 0 = 4 then d.pdtEnd f m stRemote 2 else d
    | none => d)).settle)

/-- BUSY received as sender (R281): a loss, its status kept. -/
def execPdtBusy (p : PdtIn) (s : State) : Host.Outcome State Fault Refusal :=
  s.run (fun d => (d.pdtRsp 0x15 p (some 9) (fun d f =>
    d.updMsg f.loc f.rem p.msn (fun m => { m with busy := byteAt p.bytes 0 }))).settle)

/-! ### Timers and progress -/

/-- The message at EXP_MSN is complete and may be executed (R290). -/
def execPdtMessageExecute (loc src : Nat) (s : State) : Host.Outcome State Fault Refusal :=
  s.run (fun d => (Device.pdtRun loc src 64 d).settle)

/-- 2 µs after the first unacknowledged data packet (R294). -/
def execPdtAckTimer (loc src : Nat) (s : State) : Host.Outcome State Fault Refusal :=
  s.run (fun d => match d.rx? loc src with
    | some f => if f.unacked = 0 then d else (d.waitUntil (f.unackedAt + 2)).pdtAck loc src
    | none => d)

/-- A new packet of a flow is sent as the windows allow (R276, R277). -/
def execPdtPacketSend (loc rem : Nat) (s : State) : Host.Outcome State Fault Refusal :=
  s.run (fun d => match d.tx? loc rem with
    | some f =>
      match d.pdtNextPkt f with
      | some m => (d.pdtSendNew f m).settle
      | none => d
    | none => d)

/-- A message's retransmit timer expires (R279, R280). -/
def execPdtRetransmitTimer (loc rem msn : Nat) (s : State) : Host.Outcome State Fault Refusal :=
  s.run (fun d => match d.tx? loc rem with
    | some f =>
      match Device.msgOf f msn with
      | some m =>
        match m.timerAt with
        | some t => ((d.waitUntil t).pdtTimer loc rem f m).settle
        | none => d
      | none => d
    | none => d)

/-- No outcome within COMPL_MS (R280). -/
def execPdtComplTimeout (loc rem msn : Nat) (s : State) : Host.Outcome State Fault Refusal :=
  s.run (fun d => match d.tx? loc rem with
    | some f =>
      match Device.msgOf f msn with
      | some m =>
        match m.repAt with
        | some t => ((d.waitUntil (t + 1000 * d.pdt.complMs)).pdtStop loc rem msn).settle
        | none => d
      | none => d
    | none => d)

/-- A message entry has received no packet for 64 ms (R296). -/
def execPdtEntryTimeout (loc src msn : Nat) (s : State) : Host.Outcome State Fault Refusal :=
  s.run (fun d => match d.rx? loc src with
    | some f =>
      match f.entries.find? (fun e => e.msn == msn) with
      | some e =>
        if e.status ≠ 0 then d
        else
          let d := d.waitUntil (e.lastAt + 64000)
          let d := (d.rewindPkt (d.groupQ loc) (.pdt loc src e.att msn)).bumpPdt 11
          let d := d.updRx loc src (fun f => { f with entries := f.entries.map (fun x =>
            if x.msn = msn then { x with status := stAborted, parts := [], units := [] } else x) })
          (Device.pdtRun loc src 64 d).settle
      | none => d
    | none => d)

/-- A flow record whose last packet is 64 ms old is removed, when no message of the flow is open (R285). -/
def execPdtFlowExpire (loc src : Nat) (s : State) : Host.Outcome State Fault Refusal :=
  s.run (fun d => match d.rx? loc src with
    | some f =>
      if !f.entries.isEmpty || !f.runs.isEmpty then d
      else
        let d := d.waitUntil (f.lastAt + 64000)
        d.setPdt { d.pdt with rx := d.pdt.rx.filter (fun g => !(g.loc == loc && g.src == src)) }
    | none => d)

/-- 64 ms after service open, BUSY for the quiet period ends (R295). -/
def execPdtQuietEnd (s : State) : Host.Outcome State Fault Refusal :=
  s.run (fun d => if d.rst.svcOpen then d.waitUntil (d.pdt.quietAt + 64000) else d)

end Sys2Proof.Machine
end

