-- ==== Sys2Proof/Machine/Supply.lean ====
section
/-! DEFINITION. Commands of the supply monitor, the hold-up measurement and bottling (R106–R132, R426, R505). Analogue
readings come as operands: HVIN and HU_SENSE in units of 10 mV, voltages in mV, times in µs. -/

namespace Sys2Proof.Machine

/-- The absolute maximum of HVIN, 80 V, in units of 10 mV (R524). -/
def hvinMax : Nat := 8000

/-- A command that carries an HVIN reading: a reading above the absolute maximum faults (R524). Nothing happens while SUP
does not run. -/
def State.runHvin (s : State) (hvin : Nat) (f : Device → Device) : Host.Outcome State Fault Refusal :=
  if hvinMax < hvin then .fault .absoluteMaximum
  else s.run (fun d => if d.sup.supOn then f d else d)

/-- L of R110 in racks, in exact arithmetic, from C in mF, ESR in µΩ and BW_MEAS in MB/s. -/
def planRacks (level vlow pw eta km tf esrMax c esr bw : Nat) : Nat :=
  let num := 10 * eta * vlow * vlow + 100 * pw * (esr - esrMax)      -- V_LOW′ = num / den volts
  let den := 1000 * eta * vlow
  let x := level * level * (den * den) - 10000 * (num * num)         -- V_BOTTLE² − V_LOW′², times 10⁴ · den²
  let e := c * eta * x * 1000
  let scale := pw * 20000000000 * (den * den)
  km * bw * (e - tf * scale) / scale / 65536

namespace Device

/-- HU_SENSE as SC last sampled it, in units of 10 mV (R106, log 16). -/
def readHu (d : Device) (hu : Nat) : Device := d.setSup { d.sup with hu := hu }

/-- The input as assessed under R117; R127 counts how long it has been good. -/
def takeInput (d : Device) (hvin hu : Nat) (pfi : Bool) : Device :=
  let (bad, good) := d.assess hvin pfi
  let since := if good && !d.hold.inputGood then d.now else d.hold.goodAt
  (d.setSup { d.sup with hvin := hvin, hu := hu }).setHold { d.hold with inputBad := bad, inputGood := good, goodAt := since }

/-- A bad input takes the supply state to WARN (R118); POWER_UP stops (R400). -/
def inputLost (d : Device) : Device :=
  let d := d.enterWarn
  if d.sup.state = .powerUp then d.powerDown .holdoff else d

/-- A BOTTLE trigger in POWER_UP (R118, R120, R400): BOTTLING latches, and the slots enabled go down; HUB has not been released, so nothing is
there to bottle. -/
def bottleEarly (d : Device) : Device :=
  let d := d.setHold { d.hold with supply := .bottling, stopAdm := true, pfDrive := true }
  ((d.pin "PF_SHARE" 0).eventR 5 supBlk 120).leaveNormal.powerDown .holdoff

/-- The rails that stand go off, in Diapause or in a Diapause entry or exit (R426). -/
def dropDiapause (d : Device) : Device :=
  let d := d.setSup { d.sup with dpExit := false, target := 0, joinBack := false }
  (d.setFld Fld.SUP_PWR_TARGET_MODE 0).powerDown .holdoff

/-- A BOTTLE trigger, or PF_SHARE low in a cascade, by supervisor state (R118, R405, R426, R429, R430, R499, R505). -/
def bottleTrigger (d : Device) : Device :=
  if d.hold.bottle.isSome then d
  else match d.sup.state with
    | .on => d.latchBottling false .holdoff
    | .flush => d.latchBottling true (if d.sup.target = 2 then .lowPower else .off)
    | .lowPower =>
      if d.sup.target = 1 then
        if d.sup.cur = 2 ∧ !d.sup.nullSealed then
          ((d.setSup { d.sup with state := .on, cur := 0, target := 0 }).setFld Fld.SUP_PWR_TARGET_MODE 0).latchBottling false .holdoff
        else d.dropDiapause
      else d
    | .powerUp => if d.sup.dpExit then d.dropDiapause else d.bottleEarly
    | .powerDown => d
    | st => d.latchBottling false st                                -- no rail is on (log 45)

/-- GUARD_DWELL in µs. -/
def guardDwell : Nat := 20000

/-- Release PF_SHARE and, once it is high, resume; otherwise wait for it (R127, R499). A bottling that must not resume ends with step 10. -/
def goResume (d : Device) : Device :=
  match d.hold.bottle with
  | none => d
  | some b =>
    if b.noResume then d.stepTenNow
    else
    let d := if d.hold.phase = 7 then d else d.journalPhase 7
    let d := if d.hold.pfDrive then (d.setHold { d.hold with pfDrive := false }).pin "PF_SHARE" 1 else d
    if d.sup.pfLow then d.setSup { d.sup with pfLowAt := d.now }
    else if b.inReset then
      let w : WarmReset := d.sup.warm.getD { cause := d.fld Fld.SUP_RST_STATUS_CAUSE, core := d.fld Fld.SUP_RST_STATUS_CORE, startAt := d.now,
                                             quiesced := true, held := false, overran := true }
      d.warmAfterBottle (fun d => d.warmFromJournal w)
    else d.resumeBottle b

/-- The decision at step 9, and while SC waits (R127, R508): rails off, resume, or wait. -/
def decideNine (d : Device) : Device :=
  match d.hold.bottle with
  | none => d
  | some b =>
    if b.noResume || d.hold.inputBad then d.stepTen
    else if d.hold.inputGood && decide (d.hold.goodAt + guardDwell ≤ d.now) then (d.setHold { d.hold with waitIn := true }).goResume
    else d.setHold { d.hold with waitIn := true }

/-- Write the dirty pages of one rack to the vault at slot `n`, whose CPTR is `va` (R122, R125, R138). -/
def vaultRack (d : Device) (g k n va : Nat) (r : Rack) : Device :=
  let ps := ((List.range 16).filter (fun p => page? r.dirty p)).map (fun p => (p, d.memRun (dramKey r.frame (p * 4096)) 4096))
  let d := (d.putVaultCopy g n (k / 2 ^ 36) (k % 2 ^ 36) ps).mediaBytes (4096 * popcount16 r.dirty)
  let d := (List.range 16).foldl (fun (d : Device) (p : Nat) =>
    if page? r.dirty p then d.copyBytes (dramKey r.frame (p * 4096)) (cellKey va (p * 4096)) 4096
    else d.clearBytes (cellKey va (p * 4096)) 4096) d
  let v := d.gen g
  d.setGen g { v with racks := v.racks.put k { mask := r.dirty, vaddr := va, prev := if r.homed then some r.cptr else none } }

/-- Write a pending vintage whole at slot `n`: its image, in 64 KiB units (R125, R144). -/
def vaultPending (d : Device) (g n : Nat) (p : Pending) : Device :=
  let img := imageBytes (p.recs.map (·.wire))
  (d.putVaultCopy g n 0 p.num ((List.range (16 * p.units)).map (fun i => (i % 16, fitBytes 4096 (img.drop (4096 * i)))))).mediaBytes (65536 * p.units)

/-- Write the dirty metadata pages of one 64 KiB unit at slot `n` (R103, R125). -/
def vaultMeta (d : Device) (g n : Nat) (u : Nat × Nat × Nat) : Device :=
  let ps := d.adm.metaDirty.filter (fun p => (p.place.1, p.place.2.1, p.place.2.2.1) == u)
  let ps := sortBy (fun (a b : Nat × List Byte) => decide (a.1 ≤ b.1)) (ps.map (fun p => (p.place.2.2.2, d.metaPageBytes p)))
  (d.putVaultCopy g n u.2.1 u.2.2 ps).mediaBytes (4096 * ps.length)

/-- An index page of 16 KiB follows each 512 entries, and the last entry (R122 step 6). -/
def vaultIndex (d : Device) (g : Nat) (skipped : List Nat) (n : Nat) : Nat × Device :=
  let n := d.findSlots g skipped 4096 n 1
  let v := d.gen g
  (n + 1, ((d.putVault g n 3 0 0 v.idxAt.length (v.index.drop (512 * v.idxAt.length)).flatten).setGen g { v with idxAt := v.idxAt ++ [d.slotAddr g n] }).mediaBytes
    16384)

/-- One copy goes to the vault, at the next slots that hold its `pages` pages of 4 KiB, and its entry to the index: the next free slot, and the
device. -/
def vaultCopy (g : Nat) (skipped : List Nat) (pages : Nat) (entry : Nat → List Byte) (f : Device → Nat → Nat → Device) (a : Nat × Device) : Nat × Device :=
  let n := a.2.findSlots g skipped 4096 a.1 ((pages + 3) / 4)
  let va := a.2.slotAddr g n
  let d := f a.2 n va
  let v := d.gen g
  let d := d.setGen g { v with index := v.index ++ [entry va] }
  if (d.gen g).index.length % 512 = 0 then d.vaultIndex g skipped (n + (pages + 3) / 4) else (n + (pages + 3) / 4, d)

/-- The generation that a bottling writes (R122, R134, R140): none before the open record, and none when nothing is dirty and nothing
pends. -/
def bottleGen (d : Device) (b : Bottle) : Option Nat :=
  if b.preOpen then none
  else if b.streamDone then b.target
  else if d.dirtyPages = 0 ∧ b.pend.isEmpty then none
  else d.targetGen

/-- Steps 4 and 6 to 8 of R122 into generation `g`: pending vintages whole, dirty metadata pages, dirty data pages, each with its index entry;
then the spine. -/
def streamTo (d : Device) (g : Nat) (b : Bottle) : Device :=
  let dirty := d.csk.racks.filter (fun p => decide (p.2.dirty ≠ 0))
  let a := b.pend.foldl (fun a (p : Pending) =>
    vaultCopy g b.skipped (16 * p.units) (indexEntry 5 0 p.num p.units) (fun d n _ => d.vaultPending g n p) a) (0, d.freshSupers g)
  let a := (metaUnits d.adm.metaDirty).foldl (fun a (u : (Nat × Nat × Nat) × BitVec 16) =>
    vaultCopy g b.skipped (popcount16 u.2) (indexEntry u.1.1 u.1.2.1 u.1.2.2 u.2.toNat) (fun d n _ => d.vaultMeta g n u.1) a) a
  let a := dirty.foldl (fun a (p : Nat × Rack) =>
    vaultCopy g b.skipped (popcount16 p.2.dirty) (indexEntry 0 (p.1 / 2 ^ 36) (p.1 % 2 ^ 36) p.2.dirty.toNat) (fun d n va => d.vaultRack g p.1 n va p.2) a) a
  let a := if (a.2.gen g).index.length % 512 = 0 then a else a.2.vaultIndex g b.skipped a.1
  let d := a.2.fillVault g b.skipped a.1
  d.setGen g { d.gen g with spine := some (d.captureMeta b.pend g (d.hold.bseq + 1)), copyA := false, copyB := false }

/-- Steps 6 to 8 of R122: dirty pages and pending vintages to the target generation, then the spine; nothing when nothing
is dirty and nothing pends (R134), or before the open record (R140). -/
def streamOut (d : Device) : Device :=
  match d.hold.bottle with
  | none => d
  | some b =>
    let d := match d.bottleGen b with
      | some g => d.streamTo g b
      | none => d
    d.setHold { d.hold with bottle := some { b with target := d.bottleGen b } }

/-- The null seal of R134: the reserved-area map leads to the metadata as it stands. -/
def writeNullSeal (d : Device) : Device :=
  let d := d.checkpoint.journalAdd .nullSeal
  d.setHold { d.hold with home := some (d.captureMeta []) }

/-- The seal record, or the null seal (R126, R134, R140). -/
def writeSeal (d : Device) (okA okB : Bool) : Device :=
  match d.hold.bottle with
  | none => d
  | some b =>
    if b.preOpen then d
    else match b.target with
      | none => d.writeNullSeal
      | some g =>
        let d := d.checkpoint                                    -- R359
        let n := d.hold.bseq + 1
        let d := d.setGen g { d.gen g with state := .sealed, copyA := okA, copyB := okB }
        let w := d.spineAt g b.skipped false
        let e := d.spineAt g b.skipped true
        let d := d.journalAdd (.sealRec g n w e (sealCrc g n w e))
        d.setHold { d.hold with bseq := n, lastGen := g }

/-- A bottling that stops before its seal record: the generation it was writing is superseded, and so released; it was the target last (R119,
R124, R509). -/
def cutBottle (d : Device) : Device :=
  match d.hold.bottle with
  | some b => if d.hold.phase < 3 ∨ 4 < d.hold.phase then d
              else match d.bottleGen b with
                | some g => (d.setGen g (d.gen g).dropped).setHold { (d.setGen g (d.gen g).dropped).hold with lastGen := g }
                | none => d
  | none => d

/-- Discard a bank test that failed (R108). -/
def failTest (d : Device) : Device :=
  (((d.setHold { d.hold with testAt := none, setStart := false }).pin "HU_TEST_N" 1).setFld Fld.SUP_HU_STATUS_FAIL 1).eventR 4 supBlk 108

/-- L from the stored measurements (R110); 0 while no C is held. -/
def planNow (d : Device) : Nat :=
  if d.flag Fld.SUP_HU_MEAS_C_VALID then
    planRacks (d.fld Fld.SUP_HV_BOTTLE_LEVEL) (d.fld Fld.PST_PLAN_A_VLOW) (d.fld Fld.PST_PLAN_A_PBOTTLE_W) (d.fld Fld.PST_PLAN_B_ETA_PM)
      (d.fld Fld.PST_PLAN_B_KMARGIN_PM) (d.fld Fld.PST_PLAN_B_TFIXED_MS) (d.fld Fld.PST_PLAN_C_ESRMAX_UOHM) (d.fld Fld.SUP_HU_MEAS_C_C_MF)
      (d.fld Fld.SUP_HU_MEAS_ESR_ESR_UOHM) d.hold.bwMeas
  else 0

/-- A write of a planning input asks for a recomputation (R130). -/
def planWritten (d : Device) : Device := d.setHold { d.hold with replan := true }

/-- The trend of C after a complete set (R474): the rate of fall, rounded toward zero, and the next set brought forward when the L
of the C projected for it falls short of the plan by more than EARLY_PCT per cent. -/
def trend (d : Device) : Device :=
  let c := d.fld Fld.SUP_HU_MEAS_C_C_MF
  let at_ := d.fld Fld.EVR_OPSEC_VALUE
  let was := d.age.setC
  let d : Device := { d with age := { d.age with setC := some (at_, c), early := none } }
  match was with
  | none => d
  | some (t0, c0) =>
    if at_ ≤ t0 then d
    else
      let n := 3600000
      let rate := if c ≤ c0 then (c0 - c) * n / (at_ - t0) else 65536 - ((c - c0) * n / (at_ - t0)) % 65536
      let d := d.setFld Fld.AGE_HU_TREND_C_RATE rate
      let hours := d.fld Fld.SUP_HU_CTRL_PERIOD_H
      let drop := (c0 - c) * (3600 * hours) / (at_ - t0)
      let l := (d.setFld Fld.SUP_HU_MEAS_C_C_MF (c - drop)).planNow
      if hours = 0 ∨ c0 ≤ c ∨ d.fld Fld.PST_DB_PLAN_PLAN_RACKS * (100 - d.fld Fld.AGE_HU_CFG_EARLY_PCT) ≤ 100 * l then d
      else { d with age := { d.age with early := some (d.hold.lastSetAt + max 3600000000 (1800000000 * hours)) } }

/-- A set becomes due and its test starts when it may (R106). -/
def startSet (d : Device) : Device := (d.setHold { d.hold with setStart := true }).tryTest

end Device

/-! ### Commands -/

/-- The input has become bad for its filter time (R117, R118); in R127's wait, step 10 runs. -/
def execInputBad (hvin hu : Nat) (pfi : Bool) (s : State) : Host.Outcome State Fault Refusal :=
  s.runHvin hvin (fun d =>
    let d := d.takeInput hvin hu pfi
    if !d.hold.inputBad then d
    else if d.hold.waitIn then d.stepTenNow
    else if d.hold.supply = .normal ∨ d.hold.supply = .dwell then d.inputLost
    else d)

/-- The input has become good (R117, R118). -/
def execInputGood (hvin hu : Nat) (pfi : Bool) (s : State) : Host.Outcome State Fault Refusal :=
  s.runHvin hvin (fun d =>
    let d := d.takeInput hvin hu pfi
    if d.hold.inputGood ∧ d.hold.supply = .warn then d.setHold { d.hold with supply := .dwell, dwellAt := d.now } else d)

/-- GUARD_DWELL passes (R118): paused work resumes. -/
def execGuardDwellExpire (s : State) : Host.Outcome State Fault Refusal :=
  s.run (fun d =>
    if d.sup.supOn ∧ d.hold.supply = .dwell then
      let d := d.waitUntil (d.hold.dwellAt + Device.guardDwell)
      ((d.setHold { d.hold with supply := .normal }).reevalAdmit).supplyNormal.settle
    else d)

/-- The BOTTLE trigger (R117, R120). -/
def execBottleTrigger (hvin hu : Nat) (pfi : Bool) (s : State) : Host.Outcome State Fault Refusal :=
  s.runHvin hvin (fun d =>
    let d := d.takeInput hvin hu pfi
    if hvin < d.fld Fld.SUP_HV_BOTTLE_LEVEL ∨ (pfi ∧ d.fld Fld.PST_ADMIT_CTRL_PFI_MODE = 2) then d.bottleTrigger else d)

/-- The last dirty page and index entry are programmed and the spine is written (R122 steps 7 and 8). In a warm reset the
in-place spine has been loaded first (R157). -/
def execBottleStreamDone (s : State) : Host.Outcome State Fault Refusal :=
  s.run (fun d => match d.hold.bottle with
    | some b =>
      if b.streamDone || d.hold.phase != 3 then d
      else
        let d := d.needVaultKey.streamOut                     -- R381
        (d.setHold { d.hold with bottle := d.hold.bottle.map (fun b => { b with streamDone := true }) }).journalPhase 4
    | none => d)

/-- A LUN has not completed a vault program within 2 ms (R123): it is skipped for the rest of the bottling. -/
def execVaultProgramTimeout (ch lun : Nat) (s : State) : Host.Outcome State Fault Refusal :=
  s.run (fun d => match d.hold.bottle with
    | some b => if d.hold.phase = 3 ∨ d.hold.phase = 4 then
        (d.advance 2000).setHold { (d.advance 2000).hold with bottle := some { b with skipped := insertNat (Device.lunKey ch lun) b.skipped } } else d
    | none => d)

/-- The seal record is written (R122 step 9, R127); the operands say which spine copies pass their CRC checks. -/
def execSpineSealed (okA okB : Bool) (s : State) : Host.Outcome State Fault Refusal :=
  s.run (fun d => match d.hold.bottle with
    | some b =>
      if b.streamDone && d.hold.phase == 4 then
        let d := (d.writeSeal okA okB).journalPhase 5
        (d.setHold { d.hold with supply := .bottled }).decideNine
      else d
    | none => d)

/-- The dwell completes while SC waits at step 9 (R127, R128). -/
def execBottleResume (s : State) : Host.Outcome State Fault Refusal :=
  s.run (fun d =>
    if d.hold.waitIn && d.hold.inputGood then (d.waitUntil (d.hold.goodAt + Device.guardDwell)).goResume else d)

/-- HVIN falls below UVLO (R119, R391, R404): SUP stops, every rail goes off and what only its supply kept is lost. -/
def execHvinUvlo (hvin : Nat) (s : State) : Host.Outcome State Fault Refusal :=
  s.runHvin hvin (fun d =>
    if hvin < 750 then
      let d := d.flashCut.cutBottle.hubOff false
      let d := d.setCph { d.cph with keys := false }
      let d := d.setSup { d.sup with capsule := d.sup.capsule.map (fun c => if c.done then c else { c with lost := true }) }
      let d := d.setSup { d.sup with supOn := false, hvin := hvin, state := .init, step := 0, phase := .prestart, rails := [], plls := [],
                                     cur := 0, target := 0, nullSealed := false, dpExit := false, joinBack := false, resetWake := false,
                                     pressOff := false, latched := none, warm := none, flushing := false, dnKeep := false,
                                     saved := [], coresDown := [], scWait := [], gated := [], wdtAt := [], recFails := [], offAt := d.now }
      let d := d.setHold { d.hold with supply := .warn, inputBad := true, inputGood := false, stopAdm := false, pfDrive := false, bottle := none,
                                       phase := 0, waitIn := false, setStart := false, testAt := none, probing := false, replan := false }
      let d := d.setRst { d.rst with svcOpen := false }
      let d : Device := { d with evr := { d.evr with fifo := [] } }
      -- R521, R522: the balls float to the levels the board holds, and the clamp holds PF_SHARE low
      (d.startDetached.pinsTo 0).driveFenceOut.pin "PF_SHARE" 0
    else d)

/-- PERIOD_H hours have passed since the previous complete set (R106), or the moment to which R474 brought the next one forward has come. -/
def execHuMeasPeriod (hu : Nat) (s : State) : Host.Outcome State Fault Refusal :=
  s.run (fun d =>
    if d.sup.supOn ∧ d.fld Fld.SUP_HU_CTRL_PERIOD_H ≠ 0 then
      let t := d.hold.lastSetAt + 3600000000 * d.fld Fld.SUP_HU_CTRL_PERIOD_H
      ((d.waitUntil (min t (d.age.early.getD t))).readHu hu).startSet
    else d)

/-- A bank test whose conditions were not met is tried again after 60 s (R106). -/
def execHuTestRetry (hu : Nat) (s : State) : Host.Outcome State Fault Refusal :=
  s.run (fun d => if d.hold.setStart && d.hold.testAt.isNone && !d.hold.probing then ((d.advance 60000000).readHu hu).tryTest else d)

/-- The bank test ends (R107, R108). `v0` is the last sample before assertion, `vm` the mean of those 40–60 µs after it,
`v60` and `vend` the values at 60 µs and at the end, in mV; `sum` is the sum of the 100 kHz samples from 60 µs on, in mV;
`us` is the time since assertion; `inRange` says that HU_SENSE stayed within its range. C and ESR are rounded down, and
V of the load current is `vm` (DEDUCED, log 16). -/
def execBankTestEnd (v0 vm v60 vend sum us : Nat) (inRange : Bool) (s : State) : Host.Outcome State Fault Refusal :=
  s.run (fun d => match d.hold.testAt with
    | none => d
    | some t =>
      let dv := v60 - vend
      if dv < 10 * d.fld Fld.SUP_HU_CTRL_DV ∧ us < 4000000 ∧ inRange ∧ vm ≤ v0 then d
      else
        let d := d.waitUntil (t + us)
        if dv < 100 ∨ v0 < vm ∨ !inRange then d.failTest
        else
          let rl := d.fld Fld.SUP_HU_CTRL_RLOAD
          let d := (d.setFld Fld.SUP_HU_MEAS_C_C_MF (sum / (10 * rl * dv))).setFld Fld.SUP_HU_MEAS_C_VALID 1
          let d := (d.setFld Fld.SUP_HU_MEAS_ESR_ESR_UOHM (min 65535 ((v0 - vm) * rl * 100000 / vm))).setFld Fld.SUP_HU_MEAS_ESR_VALID 1
          (d.setHold { d.hold with testAt := none, probing := true }).pin "HU_TEST_N" 1)

/-- The flush probe completes (R109–R111): `us` from its first transfer to its last program. -/
def execFlushProbeDone (us : Nat) (s : State) : Host.Outcome State Fault Refusal :=
  s.run (fun d =>
    if d.hold.probing ∧ us ≠ 0 then
      let bw := 1073741824 / us
      let d := (d.probeBlocks.setHold { d.probeBlocks.hold with probing := false, setStart := false, setDone := true, lastSetAt := d.now, bwMeas := bw }).setFld Fld.PST_FLUSH_BW_VALUE bw
      let d := d.setHold { d.hold with planPrev := d.hold.planL, planL := some d.planNow }
      (d.setPlan d.planFrom).trend
    else d)

/-- L is computed again after a write of a planning input (R130, R111). -/
def execPlanRecompute (s : State) : Host.Outcome State Fault Refusal :=
  s.run (fun d =>
    if d.hold.replan then
      let d := d.setHold { d.hold with replan := false, planL := if d.flag Fld.SUP_HU_MEAS_C_VALID then some d.planNow else none, planPrev := none }
      d.setPlan d.planFrom
    else d)

end Sys2Proof.Machine
end

