-- ==== Sys2Proof/Machine/RestoreCmds.lean ====
section
/-! DEFINITION. Commands of emergence and of the warm reset (R133–R157, R407, R439, R513). -/

namespace Sys2Proof.Machine
namespace Device

/-- The logic reset of a warm reset (R155, R156, R439, R513): recovery in place when service had opened, otherwise emergence
begins again at the spine load. The device waits while RESET_N or MRST_N is asserted (R407). DRAM leaves self-refresh at its end. -/
def warmGo (d : Device) : Device :=
  match d.sup.warm with
  | none => d
  | some w =>
    if d.sup.rstN || d.sup.mrstN then d.setSup { d.sup with warm := some { w with quiesced := true, held := true } }
    else if d.rst.svcOpen then (d.warmLogic w).selfRefresh false
    else
      let d := (d.warmFromJournal w).selfRefresh false
      if d.rst.phase = 1 then d.setRst { d.rst with phase := 2 } else d

/-- PST_RST_CLEAR with its key and GO, in a unit without an image (R154). -/
def rstClear (d : Device) : Device :=
  let d := d.formatSpace
  let d := d.setRst { d.rst with noImage := false, resolved := true, awaits := [], alone := true, cleared := true, phase := 4, pend := [], image := none }
  ((d.openService.setMir { d.openService.mir with firstAt := d.now }).requestLease true).settle

end Device

/-! ### Commands -/

/-- In PHASE 0b0001 training is complete, and the load of the spine begins; in 0b0010 the spine and the vault index are loaded, and
consolidation begins (R136, R137, R156). MC1 runs the phases of emergence; a phase whose core is restarted begins again, so it has no effect
while MC1 is stopped (R513, log 50). -/
def execSpineLoadDone (s : State) : Host.Outcome State Fault Refusal :=
  s.run (fun d =>
    if !d.hubOn || d.hold.bottle.isSome then d
    else if d.rst.phase = 1 ∧ d.coreUp 1 then d.setRst { d.rst with phase := 2 }
    else if d.rst.phase = 2 ∧ d.coreUp 1 then
      let d := match d.rst.image with
        | some m => d.loadImage m (if d.rst.source = 1 then some (d.gen d.rst.srcGen) else none)
        | none => d
      let d := if d.rst.source = 1 then d.loadDir d.rst.srcGen else d
      d.setRst { d.rst with phase := 3 }
    else if d.rst.phase = 9 then
      match d.rst.image with
      | some m => (d.setRst { d.rst with pend := m.pend, image := none, linkUpAt := d.now }).sendResolve
      | none => d
    else d)

/-- Consolidation is complete (R139): the handshake with the twin begins. -/
def execConsolidationDone (s : State) : Host.Outcome State Fault Refusal :=
  s.run (fun d =>
    if d.rst.phase = 3 ∧ d.hold.bottle.isNone ∧ d.coreUp 1 then
      let d : Device := { d with adm := { d.adm with metaDirty := [] } }
      (d.setRst { d.rst with phase := 4, linkUpAt := d.now }).sendResolve
    else d)

/-- The twin has not answered within TWIN_WAIT_MS (R141): the unit asks for the lease alone. -/
def execTwinWaitExpire (s : State) : Host.Outcome State Fault Refusal :=
  s.run (fun d =>
    if (d.rst.phase = 4 ∨ d.rst.phase = 9) ∧ !d.rst.resolved ∧ d.rst.image.isNone ∧ d.hold.bottle.isNone then
      (d.waitUntil (d.rst.linkUpAt + 1000 * d.fld Fld.PST_RST_CTRL_TWIN_WAIT_MS)).requestLease true
    else d)

/-- Service opens (R136, R145) on a unit that has resolved: numbering resumes and the open record is written. -/
def execServiceOpen (s : State) : Host.Outcome State Fault Refusal :=
  s.run (fun d =>
    if (d.rst.phase = 4 ∨ d.rst.phase = 9) ∧ d.rst.resolved ∧ d.rst.awaits.isEmpty ∧ d.hold.bottle.isNone then
      d.openService.settle.runLatched
    else d)

/-- The quiesce of a warm reset has not completed in 5 ms (R155): bottling runs with the rails kept up. -/
def execQuiesceTimeout (s : State) : Host.Outcome State Fault Refusal :=
  s.run (fun d => match d.sup.warm with
    | some w =>
      if w.quiesced || w.overran then d
      else
        let d := d.waitUntil (w.startAt + 5000)
        (d.setSup { d.sup with warm := some { w with overran := true } }).latchBottling false .holdoff
    | none => d)

/-- The quiesce completes (R155): every COMMITTED vintage has been applied and DRAM is in self-refresh; the logic reset follows, unless a
reset input is still asserted (R407). -/
def execQuiesceDone (s : State) : Host.Outcome State Fault Refusal :=
  s.run (fun d => match d.sup.warm with
    | some w => if w.quiesced || w.overran || d.hold.bottle.isSome then d
                else ((d.setSup { d.sup with warm := some { w with quiesced := true } }).applyCommitted.selfRefresh true).warmGo
    | none => d)

/-- RESET_N and MRST_N are both deasserted (R407). -/
def execResetInputRelease (s : State) : Host.Outcome State Fault Refusal :=
  s.run (fun d =>
    let d := d.setSup { d.sup with rstN := false, mrstN := false }
    match d.sup.warm with
    | some w => if w.held then (d.setSup { d.sup with warm := some { w with held := false } }).warmGo else d
    | none => d)

/-- A cleared unit whose request with ALONE was refused repeats it every 1 s while DETACHED (R154). -/
def execAloneRequestRetry (s : State) : Host.Outcome State Fault Refusal :=
  s.run (fun d => if d.rst.cleared ∧ d.mir.role = .detached then (d.advance 1000000).requestLease true else d)

end Sys2Proof.Machine
end

