-- ==== Sys2Proof/Machine/PowerCmds.lean ====
section
/-! DEFINITION. Commands of the supervisor: rails, clocks, buttons, reset inputs, PMBus, watchdogs, wakes, PF_SHARE
(R28, R391–R437, R499, R507, R508). Rail readings come as operands, in mV. -/

namespace Sys2Proof.Machine
namespace Device

/-- Store a reading of a slot. -/
def noteRail (d : Device) (n mv : Nat) (pg : Bool) : Device := d.setRail n { d.rail n with mv := mv, pg := pg }

/-- The slots of the power-up step in progress. -/
def stepSlots (d : Device) : List Nat := (d.workSlots d.sup.dpExit).filter (fun n => d.fld Fld.SUP_R_CFG_UP_STEP n == d.sup.step)

/-- The reference that feeds a PLL: 1 REFCLK100, 2 the 156.25 MHz reference. -/
def pllRef (p : Nat) : Nat := if p < 4 then 1 else 2

/-- POWER_UP completes once its last step has ended and every PLL has locked (R397 step 5, R428). A press held over from
Diapause then acts as in ON (R406). -/
def clocksDone (d : Device) : Device :=
  if d.sup.state = .powerUp ∧ d.sup.phase = .clocks ∧ d.sup.plls.length = 6 then
    if d.sup.dpExit then
      let d := d.diapauseDone
      if d.sup.pressOff then (d.setSup { d.sup with pressOff := false }).latchBottling true .off else d.runLatched
    else d.powerUpDone.runLatched
  else d

/-- The trigger of R413 for a slot that faults while it runs: OV, UV or PG. -/
def faultTrig (d : Device) (n mv : Nat) (pg : Bool) : Option Nat :=
  if d.needsSense n && decide (d.ovOf n < mv) then some 6
  else if d.needsSense n && decide (mv < d.uvOf n) then some 5
  else if d.needsPg n && !pg then some 7
  else none

/-- The UV and OV counts of a slot. -/
def countFault (d : Device) (n trig : Nat) : Device :=
  if trig = 6 then d.bumpSat Fld.SUP_R_FAULT_OV 1 n else if trig = 5 then d.bumpSat Fld.SUP_R_FAULT_UV 1 n else d

/-- The slot has faulted: above OV_MV its EN is deasserted at once (R401). -/
def markFault (d : Device) (n trig : Nat) : Device :=
  let d := d.setRail n { d.rail n with state := .fault }
  if trig = 6 then (d.setRail n { d.rail n with en := false }).driveEn n false else d

/-- A running fault within 60 s of reaching ON counts as a failed attempt (R399): where POWER_DOWN then ends. -/
def countAttempt (d : Device) (endIn : SupState) : Device × SupState :=
  if d.now < d.sup.onAt + 60000000 then
    let n := d.fld Fld.SUP_SEQ_STATUS_ATTEMPT + 1
    let d := d.setFld Fld.SUP_SEQ_STATUS_ATTEMPT n
    if d.fld Fld.SUP_SEQ_CTRL_RETRIES < n then (d, .lockout) else (d, endIn)
  else (d, endIn)

/-- A fault of a slot needed by bottling (R401): the rail-fault record, and POWER_DOWN at once. -/
def railFaultDown (d : Device) (endIn : SupState) : Device :=
  let d := (d.setHold { d.hold with stopAdm := true, pfDrive := true }).pin "PF_SHARE" 0
  let d := d.noteStop.dropMargins.enterFenced 2
  (d.journalAdd .railFault).powerDown endIn

/-- A running fault (R401, R426, R508). -/
def runFault (d : Device) (n trig : Nat) : Device :=
  let d := (((d.countFault n trig).markFault n trig).noteTrigger trig (some n)).raise Reg.SUP_SEQ_INT_STATUS 2 5
  let need := d.flag Fld.SUP_R_CFG_BNEED n
  match d.hold.bottle with
  | some _ =>
    if !need then d.barResume
    else if d.hold.phase < 5 then d.cutBottle.railFaultDown d.sup.endIn
    else (d.eventR 5 supBlk 508).stepTen
  | none =>
    if d.sup.state = .lowPower ∧ (d.sup.nullSealed ∨ d.sup.cur ≠ 2) then d.dropDiapause
    else
      let normal : SupState := if d.sup.state = .flush then (if d.sup.target = 2 then .lowPower else .off) else .holdoff
      let (d, fin) := d.countAttempt normal
      let d := if d.sup.state = .lowPower then
          (d.setSup { d.sup with state := .on, cur := 0, target := 0 }).setFld Fld.SUP_PWR_TARGET_MODE 0
        else d
      if need then d.railFaultDown fin else d.latchBottling true fin

/-- A case of R403 is recorded: an event each time. -/
def downCase (d : Device) (trig n : Nat) : Device :=
  let d := d.noteTrigger trig (some n)
  if bitAt (d.reg Reg.SUP_SEQ_INT_STATUS) 3 then d.eventR 4 supBlk 403 else d.raise Reg.SUP_SEQ_INT_STATUS 3 4

/-- Whether a request to enter a low-power state is being carried out, up to WAIT (R433). -/
def entering (d : Device) : Bool := d.sup.cur == 2

/-- A wake (R432, R433): latched from the acceptance of a request until WAIT returns; in Diapause or Chrysalis the exit begins. -/
def wake (d : Device) (src : Nat) : Device :=
  let en := match src with
    | 0 => d.flag Fld.SUP_WAKE_EN_RTC
    | 2 => d.flag Fld.SUP_WAKE_EN_WAKE_N
    | 4 => d.flag Fld.SUP_WAKE_EN_TRELLIS
    | _ => true
  if !en || decide (4 < src) then d
  else if d.entering then d.setFld Fld.SUP_PWR_STATUS_WAKE_PEND (Nat.lor (d.fld Fld.SUP_PWR_STATUS_WAKE_PEND) (2 ^ src))
  else if d.sup.state = .lowPower ∧ (d.sup.cur = 3 ∨ d.sup.cur = 4) then
    let d := d.setFld Fld.SUP_PWR_STATUS_WAKE_PEND (Nat.lor (d.fld Fld.SUP_PWR_STATUS_WAKE_PEND) (2 ^ src))
    let d := if d.cascadeMaster || (d.cascadeMember && src != 4) then (List.range 4).foldl (fun (d : Device) (p : Nat) => d.pin ("TP" ++ toString p ++ "_SB") 0) d else d
    d.beginExit
  else d

/-- A reset input wakes the device (R440): in Diapause the exit is also a warm reset, with its cause. -/
def wokenBy (d : Device) (cause : Nat) : Device :=
  (d.setSup { d.sup with resetWake := true }).when (d.sup.target == 1) (·.setFld Fld.SUP_RST_STATUS_CAUSE cause)

/-- An event that a press without an action records (R406). -/
def pressEvent (d : Device) : Device := d.eventR 1 supBlk 406


end Device

/-- A command of the supervisor: nothing happens while SUP does not run. -/
def State.runSup (s : State) (f : Device → Device) : Host.Outcome State Fault Refusal := s.run (fun d => if d.sup.supOn then f d else d)

/-! ### Rails and clocks -/

/-- A slot is still not below OFF after its discharge (R397 step 1): the attempt fails with PRESTART. -/
def execPrestartTimeout (slot : Nat) (s : State) : Host.Outcome State Fault Refusal :=
  s.runSup (fun d =>
    if d.sup.state = .powerUp ∧ d.sup.phase = .prestart ∧ (d.workSlots d.sup.dpExit).contains slot ∧ !d.belowOff slot (d.rail slot).mv then
      (d.waitUntil (d.sup.stepAt + 1000 * d.fld Fld.SUP_R_TIME_DIS_TMO_MS slot)).failAttempt 3 (some slot)
    else d)

/-- A slot has been in regulation for 100 µs (R396, R397 step 3). -/
def execRailInRegulation (slot mv : Nat) (pg : Bool) (s : State) : Host.Outcome State Fault Refusal :=
  s.runSup (fun d =>
    if !d.inRegulation slot mv pg || !d.slotUsed slot then d
    else
      let d := d.noteRail slot mv pg
      if (d.rail slot).state ≠ .rising then d
      else
        let d := d.setRail slot { d.rail slot with state := .inReg }
        if d.sup.state = .powerUp ∧ d.sup.phase = .rising ∧ d.stepSlots.all (fun n => (d.rail n).state == .inReg) then
          d.setSup { d.sup with phase := .delay, stepAt := d.now }
        else d)

/-- The greatest DELAY_MS of the step has passed (R397 step 3): the next step starts, or only the clocks are left. -/
def execRailStepDelay (s : State) : Host.Outcome State Fault Refusal :=
  s.runSup (fun d =>
    if d.sup.state = .powerUp ∧ d.sup.phase = .delay then
      let ms := d.stepSlots.foldl (fun a n => max a (d.fld Fld.SUP_R_TIME_DELAY_MS n)) 0
      ((d.waitUntil (d.sup.stepAt + 1000 * ms)).upFrom (d.sup.step + 1)).clocksDone
    else d)

/-- A slot is not in regulation within its UP_TMO_MS (R399). -/
def execRailUpTimeout (slot : Nat) (s : State) : Host.Outcome State Fault Refusal :=
  s.runSup (fun d =>
    if d.sup.state = .powerUp ∧ d.sup.phase = .rising ∧ d.stepSlots.contains slot ∧ (d.rail slot).state = .rising then
      (d.waitUntil (d.sup.stepAt + 1000 * d.fld Fld.SUP_R_TIME_UP_TMO_MS slot)).failAttempt 1 (some slot)
    else d)

/-- A PLL locks: 0 HUB, 1 EDGE, 2 PCIe, 3 Trellis, 4 Ethernet, 5 Vaelaune (R25–R27, R397). -/
def execPllLock (pll : Nat) (s : State) : Host.Outcome State Fault Refusal :=
  s.runSup (fun d =>
    if d.sup.state = .powerUp ∧ pll < 6 ∧ d.refEnabled (Device.pllRef pll) then
      (d.setSup { d.sup with plls := insertNat pll d.sup.plls }).clocksDone
    else d)

/-- A PLL has not locked within 1 ms of its reference being enabled (R27). -/
def execPllLockTimeout (pll : Nat) (s : State) : Host.Outcome State Fault Refusal :=
  s.runSup (fun d =>
    if d.sup.state = .powerUp ∧ pll < 6 ∧ !d.sup.plls.contains pll ∧ d.refEnabled (Device.pllRef pll) then
      (d.waitUntil ((d.sup.refAt.find? (Device.pllRef pll)).getD d.sup.stepAt + 1000)).failAttempt 4 none
    else d)

/-- A slot faults under R396: by supervisor state (R399, R401, R403, R426, R508). -/
def execRailFault (slot mv : Nat) (pg : Bool) (s : State) : Host.Outcome State Fault Refusal :=
  s.runSup (fun d =>
    if !d.slotUsed slot then d
    else
      let r := d.rail slot
      let d := d.noteRail slot mv pg
      match d.faultTrig slot mv pg with
      | none => d
      | some t =>
        match d.sup.state with
        | .powerUp =>
          if r.state = .rising ∧ t = 6 then ((d.countFault slot 6).markFault slot 6).failAttempt 2 (some slot)
          else if r.state = .inReg then
            if d.sup.dpExit ∧ d.flag Fld.SUP_R_CFG_KEEP_DP slot then
              (((d.countFault slot t).markFault slot t).noteTrigger t (some slot) |>.raise Reg.SUP_SEQ_INT_STATUS 2 5).dropDiapause
            else ((d.countFault slot t).markFault slot t).failAttempt t (some slot)
          else d
        | .on => if r.state = .inReg then d.runFault slot t else d
        | .flush => if r.state = .inReg then d.runFault slot t else d
        | .lowPower => if r.state = .inReg then d.runFault slot t else d
        | .powerDown => if r.en ∧ r.state = .inReg then
            (((d.setRail slot { d.rail slot with state := .fault }).bumpSat Fld.SUP_R_FAULT_EARLY 1 slot).downCase 9 slot) else d
        | _ => d)

/-- A slot reads below OFF (R396, R397, R402). -/
def execRailBelowOff (slot mv : Nat) (s : State) : Host.Outcome State Fault Refusal :=
  s.runSup (fun d =>
    if !d.slotUsed slot || !d.belowOff slot mv then d
    else
      let d := d.setRail slot { d.rail slot with mv := mv, state := if (d.rail slot).en then (d.rail slot).state else .off }
      if d.sup.state = .powerUp ∧ d.sup.phase = .prestart then
        if (d.workSlots d.sup.dpExit).all (fun n => d.belowOff n (d.rail n).mv) then d.upFrom 0 else d
      else d.downGoOn)

/-- A slot is not below OFF DN_TMO_MS after its step began (R403). -/
def execRailDnTimeout (slot : Nat) (s : State) : Host.Outcome State Fault Refusal :=
  s.runSup (fun d =>
    let r := d.rail slot
    if d.sup.state = .powerDown ∧ (d.workSlots d.sup.dnKeep).contains slot ∧ d.fld Fld.SUP_R_CFG_DN_STEP slot = d.sup.step ∧ !r.en ∧
        r.state ≠ .off ∧ !r.dnTmo then
      let d := d.waitUntil (d.sup.stepAt + 1000 * d.fld Fld.SUP_R_TIME_DN_TMO_MS slot)
      let d := (d.bumpSat Fld.SUP_R_FAULT_DN_TMO 1 slot).downCase 8 slot
      (d.setRail slot { d.rail slot with dnTmo := true, disAt := d.now }).discharge slot
    else d)

/-- DIS_TMO_MS has passed after that (R403): the slot no longer holds its step. -/
def execDischargeTimeout (slot : Nat) (s : State) : Host.Outcome State Fault Refusal :=
  s.runSup (fun d =>
    let r := d.rail slot
    if d.sup.state = .powerDown ∧ r.dnTmo ∧ !r.handled ∧ r.state ≠ .off then
      let d := d.waitUntil (r.disAt + 1000 * d.fld Fld.SUP_R_TIME_DIS_TMO_MS slot)
      (d.setRail slot { d.rail slot with handled := true }).downGoOn
    else d)

/-- RESTART_HOLDOFF has passed since the last rail went off (R393, R404, R428, R431). -/
def execRestartHoldoffExpire (s : State) : Host.Outcome State Fault Refusal :=
  s.runSup (fun d =>
    if d.sup.state = .holdoff ∨ (d.sup.state = .lowPower ∧ d.sup.cur = 5) then
      (d.waitUntil (d.sup.offAt + 1000 * d.fld Fld.SUP_SEQ_CTRL_HOLDOFF_MS)).supplyNormal
    else d)

/-- SC moves VDD_HUB by one step of at most 5 mV toward its target (R398); UV_MV and OV_MV move with it. -/
def execAvsStep (s : State) : Host.Outcome State Fault Refusal :=
  s.runSup (fun d => match d.avsSlot with
    | some n =>
      if d.sup.state = .on ∧ !d.flag Fld.SUP_PMB_STATUS_DEAD ∧ d.fld Fld.SUP_R_MARGIN_STEPS n = 0 ∧ d.sup.avsMv ≠ 1000 * d.sup.avsTarget then
        let d := d.waitUntil (d.sup.avsAt + 100)
        let old := d.sup.avsMv
        let goal := 1000 * d.sup.avsTarget
        let new := if old < goal then min goal (old + 5000) else max goal (old - 5000)
        let d := d.avsMove n new
        (d.setSup { d.sup with avsAt := d.now }).emit
          (.pmbus (d.fld Fld.SUP_R_PMB_ADDR n) (d.fld Fld.SUP_R_PMB_PAGE n) 0x21 (new / 1000))
      else d
    | none => d)

/-- ATTEMPT returns to 0 after 60 s in ON or LOW_POWER without a running fault (R399). -/
def execAttemptClear (s : State) : Host.Outcome State Fault Refusal :=
  s.runSup (fun d =>
    if d.seqState = .on ∨ d.seqState = .lowPower then (d.waitUntil (d.sup.upAt + 60000000)).setFld Fld.SUP_SEQ_STATUS_ATTEMPT 0 else d)

/-- The 156.25 MHz reference is lost (R28): the Ethernet ports and the Vaelaune Link go down. -/
def execRefclk156Loss (s : State) : Host.Outcome State Fault Refusal :=
  s.runSup (fun d => d.vaeDown.ethDown)

/-- VBAT is read (R391): 1.0–2.6 V sets VBAT_LOW. -/
def execVbatLow (mv : Nat) (s : State) : Host.Outcome State Fault Refusal :=
  s.runSup (fun d =>
    let d := d.setSup { d.sup with vbat := mv }
    if 1000 ≤ mv ∧ mv ≤ 2600 then d.raise Reg.SUP_SEQ_INT_STATUS 0 3 else d)

/-- The capsule capture ends (R412). -/
def execCapsuleComplete (s : State) : Host.Outcome State Fault Refusal :=
  s.runSup (fun d => match d.sup.capsule with
    | some c => if c.done || c.lost then d else (d.setSup { d.sup with capsule := some { c with done := true } }).raise Reg.SUP_SEQ_INT_STATUS 5 4
    | none => d)

/-! ### Buttons and reset inputs -/

/-- A short press (R406, R433). -/
def execShortPress (s : State) : Host.Outcome State Fault Refusal :=
  s.runSup (fun d =>
    let d := d.setSup { d.sup with btn := false }
    if d.entering then d.wake 1
    else match d.seqState with
      | .off => (d.setSup { d.sup with state := .holdoff }).supplyNormal
      | .on => if d.flag Fld.SUP_BTN_SHORT_EN && d.hold.bottle.isNone then d.startFlush false else d.pressEvent
      | .lowPower => d.wake 1
      | .lockout => if d.hold.bottle.isSome then d.pressEvent else ((d.setFld Fld.SUP_SEQ_STATUS_ATTEMPT 0).setSup { (d.setFld Fld.SUP_SEQ_STATUS_ATTEMPT 0).sup with cold := false }).powerUp
      | _ => d.pressEvent)

/-- A long press, LONG_S after it began (R406, R429, R430): PWRBTN_N is still asserted, and SUP_BTN.BTN shows it until the next press has been
recognised as released (DESIGN CHOICE, log 67: no command says when the button is let go). -/
def execLongPress (s : State) : Host.Outcome State Fault Refusal :=
  s.runSup (fun d =>
    let d := d.setSup { d.sup with btn := true }
    match d.seqState with
    | .holdoff => d.setSup { d.sup with state := .off }
    | .powerUp => d.powerDown .off
    | .on => d.latchBottling true .off
    | .flush => d.latchBottling true .off
    | .lowPower =>
      if d.sup.target = 1 then
        let d := d.setSup { d.sup with pressOff := true }
        if d.sup.cur = 3 then d.beginExit else d
      else (d.setSup { d.sup with state := .off, cur := 0, target := 0 }).setFld Fld.SUP_PWR_TARGET_MODE 0
    | _ => d.pressEvent)

/-- A press released between 2 s and LONG_S (R406). -/
def execOtherPress (s : State) : Host.Outcome State Fault Refusal := s.runSup (fun d => (d.setSup { d.sup with btn := false }).pressEvent)

/-- RESET_N (false) or MRST_N (true) is asserted (R407, R440). -/
def execResetInput (mrst : Bool) (s : State) : Host.Outcome State Fault Refusal :=
  s.runSup (fun d =>
    let d := if mrst then d.setSup { d.sup with mrstN := true } else d.setSup { d.sup with rstN := true }
    let cause := if mrst then 2 else 1
    if d.hold.bottle.isSome then d.resetRequest cause 0
    else if d.sup.cur = 2 then
      d.wokenBy cause |>.setFld Fld.SUP_PWR_STATUS_RST_PEND 1
    else if d.sup.cur = 3 ∨ d.sup.cur = 4 then (d.wokenBy cause).beginExit
    else if d.sup.cur = 5 then (if d.sup.latched.isNone then d.setSup { d.sup with latched := some (cause, 0) } else d)
    else d.resetRequest cause 0)

/-! ### PMBus -/

/-- The PMBus has been low for 25 ms (R411): a recovery, which the operand says whether it succeeds. -/
def execPmbusStuck (sclLow ok : Bool) (s : State) : Host.Outcome State Fault Refusal :=
  s.runSup (fun d =>
    let d := d.bumpSat Fld.SUP_PMB_STATUS_RECOVERIES
    let d := if sclLow then (d.pin "PMB_RST_N" 0).pin "PMB_RST_N" 1 else d
    if ok then d.setSup { d.sup with recFails := [] }
    else
      let fs := (d.now :: d.sup.recFails).filter (fun t => decide (d.now < t + 1000000))
      let d := d.setSup { d.sup with recFails := fs }
      if 3 ≤ fs.length ∧ !d.flag Fld.SUP_PMB_STATUS_DEAD then
        ((d.setFld Fld.SUP_PMB_STATUS_DEAD 1).noteTrigger 10 none).raise Reg.SUP_SEQ_INT_STATUS 4 5
      else d)

/-- A dead PMBus is tried again every 10 s (R411). -/
def execPmbusRecoveryRetry (ok : Bool) (s : State) : Host.Outcome State Fault Refusal :=
  s.runSup (fun d =>
    if d.flag Fld.SUP_PMB_STATUS_DEAD then
      let d := (d.advance 10000000).bumpSat Fld.SUP_PMB_STATUS_RECOVERIES
      if ok then (d.setSup { d.sup with recFails := [] }).setFld Fld.SUP_PMB_STATUS_DEAD 0 else d
    else d)

/-- Telemetry of a PMBus slot (R410): three reads; `nack` says that one was not acknowledged or failed its PEC. -/
def execPmbusTelemetry (slot : Nat) (nack : Bool) (s : State) : Host.Outcome State Fault Refusal :=
  s.runSup (fun d =>
    if d.flag Fld.SUP_R_CFG_PMB slot && d.slotUsed slot && !d.flag Fld.SUP_PMB_STATUS_DEAD then
      let d := [0x8B, 0x8C, 0x8D].foldl (fun (d : Device) (c : Nat) =>
        d.emit (.pmbus (d.fld Fld.SUP_R_PMB_ADDR slot) (d.fld Fld.SUP_R_PMB_PAGE slot) c 0)) d
      if nack then d.bumpSat Fld.SUP_PMB_STATUS_NACKS else d
    else d)

/-! ### Perch, wakes and alarms of the RTC -/

/-- An engine has been idle for PERCH_US (R419); engines are numbered 0–15, and with all gated CUR reads PERCH. -/
def execPerchGate (engine : Nat) (s : State) : Host.Outcome State Fault Refusal :=
  s.runSup (fun d =>
    if d.flag Fld.SUP_PWR_CFG_PERCH_EN ∧ d.sup.state = .on ∧ engine < 16 ∧ d.sup.cur ≤ 1 then
      let g := insertNat engine d.sup.gated
      d.setSup { d.sup with gated := g, cur := if g.length = 16 then 1 else 0 }
    else d)

/-- A wake from source 0 RTC, 1 button, 2 WAKE_N, 3 I3C or 4 Trellis reaches the always-on logic (R433). -/
def execLowPowerWake (src : Nat) (s : State) : Host.Outcome State Fault Refusal := s.runSup (fun d => d.wake src)

/-- WAKE_N has been held asserted for 100 µs (R432). -/
def execWakeN (s : State) : Host.Outcome State Fault Refusal := s.runSup (fun d => (d.advance 100).wake 2)

/-- A pulse of at least 100 µs on a TPn_SB wire (R502). -/
def execTrellisWake (port : Nat) (s : State) : Host.Outcome State Fault Refusal :=
  s.runSup (fun d => if port < 4 then d.wake 4 else d)

/-- The second tick at which SUP_RTC_SEC equals SUP_RTC_WAKE with WAKE_EN set (R434). -/
def execRtcWakeAlarm (s : State) : Host.Outcome State Fault Refusal :=
  s.runSup (fun d =>
    if d.flag Fld.SUP_RTC_SCHED_WAKE_EN ∧ d.fld Fld.SUP_RTC_SEC_SEC ≤ d.fld Fld.SUP_RTC_WAKE_SEC then
      let d := d.advance ((d.fld Fld.SUP_RTC_WAKE_SEC - d.fld Fld.SUP_RTC_SEC_SEC) * 1000000)
      (d.setFld Fld.SUP_RTC_SCHED_WAKE_EN 0).wake 0
    else d)

/-! ### Watchdogs -/

/-- A core's watchdog expires (R436, R437, R507): cores 0–7 are MC0–MC7, 8 is SC. -/
def execWatchdogExpire (core : Nat) (s : State) : Host.Outcome State Fault Refusal :=
  s.runSup (fun d =>
    if 8 < core ∨ (core < 8 ∧ (!d.hubOn ∨ (d.hold.bottle.isSome ∧ 3 ≤ d.hold.phase))) then d
    else
      let d := d.setFld Fld.SUP_WDT_STATUS_EXPIRED (Nat.lor (d.fld Fld.SUP_WDT_STATUS_EXPIRED) (2 ^ core))
      let d := (d.raise Reg.SUP_PWR_INT_STATUS 3 4).noteWatchdog.testStop
      let again : Bool := match d.sup.wdtAt.find? core with
        | some t => decide (d.now ≤ t + 1000000 * d.fld Fld.SUP_WDT_CFG_WINDOW_S)
        | none => false
      if again && d.hold.bottle.isNone && d.sup.state != .powerDown then
        (d.bumpSat Fld.SUP_WDT_STATUS_STAGE2).resetRequest 4 core
      else
        (d.bumpSat Fld.SUP_WDT_STATUS_STAGE1).setSup { d.sup with
          wdtAt := d.sup.wdtAt.put core d.now, coresDown := insertNat core d.sup.coresDown } |>.when (core == 8) (·.scStart))

/-! ### PF_SHARE -/

/-- PF_SHARE has been low for 4 µs (R499): in INIT and HOLDOFF it only keeps POWER_UP from beginning. -/
def execPfShareLow (s : State) : Host.Outcome State Fault Refusal :=
  s.runSup (fun d =>
    let d := d.setSup { d.sup with pfLow := true, pfLowAt := d.now }
    if d.sup.state = .init ∨ d.sup.state = .holdoff then d else d.bottleTrigger)

/-- PF_SHARE returns high (R499): a device that released it resumes; INIT and HOLDOFF may begin POWER_UP. -/
def execPfShareHigh (s : State) : Host.Outcome State Fault Refusal :=
  s.runSup (fun d =>
    let d := d.setSup { d.sup with pfLow := false }
    if d.hold.waitIn && !d.hold.pfDrive then d.goResume else d.supplyNormal)

/-- PF_SHARE is still low 500 ms after this device released it (R499): step 10 runs. -/
def execPfShareReleaseTimeout (s : State) : Host.Outcome State Fault Refusal :=
  s.runSup (fun d =>
    if d.hold.waitIn && !d.hold.pfDrive && d.sup.pfLow then
      let d := d.waitUntil (d.sup.pfLowAt + 500000)
      d.stepTenNow
    else d)

end Sys2Proof.Machine
end

