-- ==== Sys2Proof/Machine/KeyCmds.lean ====
section
/-! DEFINITION. Commands of the cipher engine: CIPHER (R214), the key window (R371), environmental and tamper alarms
(R379–R386, R554). -/

namespace Sys2Proof.Machine
namespace Device

/-- Start a CIPHER descriptor (R214, R367, R369, R370). A form that R367 bars is checked before the slot's permission. -/
def cipherStart (d : Device) (fn q : Nat) (x : DescState) : Device :=
  let dw := x.dw
  let usesCask := dCaskIo dw || cipToCask dw
  if !cipherForm dw then d.complete fn q x.seq stRange 0 0
  else if !d.flag Fld.CPH_CTRL_HOST_EN || !d.slotPermits (cipSlot dw) 0 then d.complete fn q x.seq stProt 0 0
  else if usesCask && !d.placesWrites then d.complete fn q x.seq stFenced 0 0
  else if dCaskIo dw then
    let (d, st) := d.startRead (.sq fn q) (.desc fn q x.seq) (.ring fn) (dCask dw) (dOffset dw) (dLength dw) (fun p => .cipherIn p)
    if st = stOk then d else d.complete fn q x.seq st 0 0
  else d.cipherGo fn q x

/-! ### The key window -/

/-- RESULT of CPH_K_CMD. -/
def keyResult (d : Device) (agent r : Nat) : Device := d.setFld Fld.CPH_K_CMD_RESULT r agent

/-- The data registers of an agent, and their clearing by every command (R371). -/
def keyData (d : Device) (agent : Nat) : List Word := (List.range 16).map (fun k => d.reg (Reg.CPH_K_DATA0 + 4 * k) agent)

def clearKeyData (d : Device) (agent : Nat) : Device :=
  (List.range 16).foldl (fun d k => d.setReg (Reg.CPH_K_DATA0 + 4 * k) 0 agent) d

/-- PERSIST_USED: the persistent slots that are LOADED. -/
def persistUsed (d : Device) : Nat := (d.cph.slots.filter (fun p => p.2.persist && !p.2.pending)).length

def notePersist (d : Device) : Device := d.setFld Fld.CPH_STATE_PERSIST_USED d.persistUsed

/-- The first cause of R371 that refuses an operation (0 LOAD, 1 GENERATE, 2 ERASE) on a slot. -/
def keyRefuse (d : Device) (op slot : Nat) : Nat :=
  let installs := decide (op < 2)
  let use := d.fld Fld.CPH_K_ATTR_USE slot
  let persist := d.flag Fld.CPH_K_ATTR_PERSIST slot
  if slot < 16 then 1
  else if op = 2 ∧ (d.csk.casks.any (fun p => p.2.mkey == slot) ∨ d.fld Fld.MIR_ARB_KEY_KSLOT = slot) then 2
  else if installs && persist && decide (512 ≤ d.persistUsed) then 3
  else if op = 0 ∧ !d.flag Fld.CPH_CTRL_LOAD_EN then 4
  else if op = 3 ∨ (installs && (use == 0 || (natBit use 3 && !persist))) then 5
  else if !d.flag Fld.CPH_STATE_READY then 6
  else 0

/-- Install a key in a slot under its attributes; the slot table follows (R370, R374). -/
def keyInstall (d : Device) (slot : Nat) (key : List Word) : Device :=
  let k : KeySlot := { pending := false, persist := d.flag Fld.CPH_K_ATTR_PERSIST slot, len256 := d.flag Fld.CPH_K_ATTR_LEN256 slot,
                       use := d.fld Fld.CPH_K_ATTR_USE slot, key := key }
  (d.setCph { d.cph with slots := d.cph.slots.put slot k }).tableSet slot (if k.persist then some k else none)

/-- 512 bits from the DRBG (R371). -/
def drbgKey (n : Nat) : List Word :=
  (List.range 16).map (fun i => BitVec.ofNat 32 (leNat ((List.range 4).map (fun j => Config.drbg n (4 * i + j)))))

/-- A command of the key window on the slot that the agent's CPH_KSEL selects (R371): it is refused, or takes effect; the
data registers clear. -/
def keyCmd (d : Device) (agent op : Nat) : Device :=
  if !d.hubOn then d
  else
    let slot := d.fld Fld.CPH_KSEL_SLOT agent
    let key := d.keyData agent
    let d := (d.clearKeyData agent).setFld Fld.CPH_K_CMD_OP op agent
    let r := d.keyRefuse op slot
    if r ≠ 0 then d.keyResult agent r
    else
      let d := if op = 0 then d.keyInstall slot key
        else if op = 1 then d.draw.2.keyInstall slot (drbgKey d.freeCtr)
        else (d.setCph { d.cph with slots := d.cph.slots.del slot }).tableSet slot none
      (d.notePersist.keyResult agent 0).reevalAdmit

/-! ### Alarms -/

/-- An E alarm (R379, R380): HUB keys are zeroed, slots turn PENDING or EMPTY, re-derivation begins. -/
def eAlarm (d : Device) (source : Nat) : Device :=
  let d := (d.setFld Fld.SUP_ALARM_E_LAST source).bumpSat Fld.SUP_ALARM_E_COUNT
  let lost := d.cph.slots.any (fun p => !p.2.persist)
  let d := d.setCph { d.cph with slots := (d.cph.slots.filter (fun p => p.2.persist)).map (fun (p : Nat × KeySlot) => (p.1, { p.2 with pending := true })),
                                 hw0 := false, hw1 := false, alarmAt := some d.now, quiet := d.cph.quiet.put source d.now }
  let d := ((d.setFld Fld.CPH_STATE_READY 0).setFld Fld.CPH_STATE_REDERIVE 1).notePersist
  let d := d.raise Reg.CPH_INT_STATUS 0 5
  let d := if lost then d.raise Reg.CPH_INT_STATUS 2 3 else d
  d.cipherRetry                                              -- work that needs a slot now EMPTY completes as R370 gives

/-- Loss of REFCLK100 starts bottling as loss of input does in the state the device is in, and every rail goes off after it (R28): a
bottling that it starts, like one that runs, does not resume in place. -/
def refclkBottle (d : Device) : Device :=
  match d.hold.bottle with
  | some _ => (d.setSup { d.sup with endIn := .holdoff }).barResume
  | none => if d.sup.state = .on then d.latchBottling true .holdoff else d.bottleTrigger.barResume

/-- Steps 2 to 5 of R383. -/
def zeroize (d : Device) : Device :=
  let d := d.cutBottle.setCph { d.cph with slots := [], hw0 := false, hw1 := false, keys := false, alarmAt := none, wait := [], erased := false }
  let d := ((d.setFld Fld.CPH_STATE_READY 0).setFld Fld.CPH_STATE_REDERIVE 0).notePersist
  let d := if d.hold.bottle.isSome then (d.setHold { d.hold with bottle := none, phase := 0, waitIn := false }).eventR 7 cphBlk 120 else d
  let d := d.setHold { d.hold with stopAdm := true }
  let d := if d.placesWrites then (d.enterFenced 2).setMir { (d.enterFenced 2).mir with notices := 0 } else d
  let d := d.journalAdd .zeroize
  let d := d.wipeKeys
  let d := (d.setFld Fld.SUP_TAMPER_STATUS_ZEROIZED 1).eventR 7 cphBlk 383
  match d.sup.state with
  | .on => d.powerDown .holdoff
  | .flush => d.powerDown .holdoff
  | .powerUp => d.powerDown .holdoff
  | .lowPower => d.powerDown .holdoff
  | .powerDown => d.setSup { d.sup with endIn := .holdoff }
  | _ => d

/-- What a T alarm does, by policy, once its latch bits are set while HVIN is present (R383, R386). -/
def tamperAct (d : Device) : Device :=
  if d.flag Fld.SUP_TAMPER_CFG_POLICY then (d.raiseQuiet Reg.CPH_INT_STATUS 1).zeroize else d.raise Reg.CPH_INT_STATUS 1 6

end Device

/-! ### Commands -/

/-- CIPHER (R214). -/
def execCipher (fn q : Nat) (s : State) : Host.Outcome State Fault Refusal :=
  s.run (fun d => d.ioDesc fn q 0x09 false (fun d x => (d.cipherStart fn q x).settle))

/-- An E alarm from a source of R379, 1 to 5. A source that acted less than 1 ms ago cannot have been clear for 1 ms. Loss of
REFCLK100 also starts bottling (R28). -/
def execEAlarm (source : Nat) (s : State) : Host.Outcome State Fault Refusal :=
  s.runSup (fun d =>
    let soon : Bool := match d.cph.quiet.find? source with
      | some t => decide (d.now < t + 1000)
      | none => false
    if source = 0 ∨ 5 < source ∨ !d.hubOn ∨ soon then d
    else
      let d := d.eAlarm source
      if source = 4 then d.refclkBottle.settle else d.settle)

/-- The restoration after an E alarm ends (R380): within 5 ms, slots 0 and 1 before it. -/
def execKeyRestoreDone (s : State) : Host.Outcome State Fault Refusal :=
  s.runSup (fun d => match d.cph.alarmAt with
    | some t =>
      let d := d.waitUntil (t + 100)
      let d := d.setCph { d.cph with slots := d.cph.slots.map (fun (p : Nat × KeySlot) => (p.1, { p.2 with pending := false })), hw0 := true, hw1 := true, alarmAt := none }
      let d := ((d.setFld Fld.CPH_STATE_READY 1).setFld Fld.CPH_STATE_REDERIVE 0).notePersist
      d.cipherRetry.pdtRetry.reevalAdmit.settle
    | none => d)

/-- The levels of TAMPER3_N–TAMPER0_N after their 20 µs filter (R382): an input that is low and enabled latches. The alarm acts
now while HVIN is present (R383, R386), and at the next power-up while only VBAT is (R385, R554). -/
def execTAlarm (levels : Nat) (s : State) : Host.Outcome State Fault Refusal :=
  s.run (fun d =>
    if !d.sup.supOn && decide (d.sup.vbat < 1000) then d
    else
      let old := d.fld Fld.SUP_TAMPER_STATUS_LATCH
      let en := d.fld Fld.SUP_TAMPER_CFG_EN
      let hit := Nat.land (15 - levels % 16) en
      let d := (d.setFld Fld.SUP_TAMPER_STATUS_PIN levels).setFld Fld.SUP_TAMPER_STATUS_LATCH (Nat.lor old hit)
      let new := Nat.land hit (15 - old)
      if new = 0 then d
      else if d.sup.supOn then d.tamperAct
      else (d.setFld Fld.SUP_TAMPER_STATUS_VBAT_EVT 1).setCph { d.cph with vbatLatch := Nat.lor d.cph.vbatLatch new })

end Sys2Proof.Machine
end

