-- ==== Sys2Proof/Machine/EvtCmds.lean ====
section
/-! DEFINITION. The event ring and the archive (R462–R467), and the event commands of R468. -/

namespace Sys2Proof.Machine

/-- The 32 B of an event record (R462); `none` is a slot whose VALID is 0. -/
def evtBytes : Option EventRec → List Byte
  | none => List.replicate 32 0
  | some r =>
    leBytes 4 r.opsec ++ leBytes 3 r.cycles
      ++ [BitVec.ofNat 8 (r.ev.sev * 32 + 16 + 8 * b2n r.archived + 4 * b2n r.saturated + 2 * b2n r.deferred + b2n r.ev.host)]
      ++ leBytes 1 r.ev.src ++ leBytes 2 r.ev.code ++ leBytes 2 r.repeats ++ leBytes 3 r.seq ++ fitBytes 16 r.ev.data

/-- Whether record `a` is older than `b` (R465). -/
def evtOlder (a b : EventRec) : Bool :=
  decide (a.opsec < b.opsec) || (a.opsec == b.opsec && decide (0 < (b.seq + 16777216 - a.seq) % 16777216 ∧ (b.seq + 16777216 - a.seq) % 16777216 < 8388608))

/-- The oldest of some slots. -/
def oldestSlot : List (Nat × EventRec) → Option (Nat × EventRec)
  | [] => none
  | p :: ps =>
    match oldestSlot ps with
    | some q => if evtOlder q.2 p.2 then some q else some p
    | none => some p

/-- The newest record of a list. -/
def newestRec : List EventRec → Option EventRec
  | [] => none
  | r :: rs =>
    match newestRec rs with
    | some q => if evtOlder q r then some r else some q
    | none => some r

/-- The lowest ring slot with VALID = 0. -/
def freeRing : Nat → Nat → AMap EventRec → Option Nat
  | 0, _, _ => none
  | n + 1, i, m => if AMap.has m i then freeRing n (i + 1) m else some i

namespace Device

def setEvr (d : Device) (x : Evr) : Device := { d with evr := x }

/-- DROPPED of a severity rises. -/
def bumpDropped (d : Device) (sev : Nat) : Device :=
  let o := Reg.EVR_DROPPED0 + 4 * sev
  d.setReg o (BitVec.ofNat 32 (min ((d.reg o).toNat + 1) 4294967295))

/-- Write a new record into a ring slot (R466); one of severity ERROR or above is to be archived (R467). -/
def putRecord (d : Device) (slot : Nat) (e : EventIn) : Device :=
  let r : EventRec := { opsec := d.fld Fld.EVR_OPSEC_VALUE, cycles := d.fld Fld.EVR_CYCLES_VALUE, ev := e, archived := false, saturated := false,
                        deferred := false, repeats := 0, seq := d.fld Fld.EVR_SEQ_VALUE }
  let todo := d.evr.todo.filter (fun i => decide (i ≠ slot))
  let d := if 5 ≤ e.sev then d.raiseQuiet Reg.EVR_INT_STATUS 1 else d
  (d.bump Fld.EVR_SEQ_VALUE).setEvr { d.evr with ring := d.evr.ring.put slot r, last := some slot, todo := if 4 ≤ e.sev then todo ++ [slot] else todo }

/-- The recorder handles the oldest record of the input queue (R466). -/
def recordEvent (d : Device) : Device :=
  match d.evr.fifo with
  | [] => d
  | e :: rest =>
    let d := d.setEvr { d.evr with fifo := rest }
    let same : Option (Nat × EventRec) := match d.evr.last with
      | some i =>
        match d.evr.ring.find? i with
        | some r => if r.ev.src = e.src ∧ r.ev.code = e.code ∧ fitBytes 16 r.ev.data = fitBytes 16 e.data ∧ r.ev.sev = e.sev then some (i, r) else none
        | none => none
      | none => none
    match same with
    | some (i, r) =>
      let r := { r with opsec := d.fld Fld.EVR_OPSEC_VALUE, cycles := d.fld Fld.EVR_CYCLES_VALUE,
                        repeats := min (r.repeats + 1) 65535, saturated := r.saturated || r.repeats == 65535 }
      d.setEvr { d.evr with ring := d.evr.ring.put i r }
    | none =>
      match freeRing 6144 0 d.evr.ring with
      | some i => d.putRecord i e
      | none =>
        match oldestSlot (d.evr.ring.filter (fun p => decide (p.2.ev.sev ≤ e.sev) && !p.2.deferred)) with
        | some (i, _) => d.putRecord i e
        | none => (d.bumpDropped e.sev).raiseQuiet Reg.EVR_INT_STATUS 0

/-- The records of an archive block. -/
def archBlock (d : Device) (b : Nat) : List EventRec := (d.evr.archive.find? b).getD []

/-- Whether archive programs are forbidden (R451): from the latch of bottling until POWER_DOWN ends. -/
def flashBarred (d : Device) : Bool := d.hold.bottle.isSome || (d.sup.state == .powerDown && d.hold.stopAdm)

/-- The archive block to make room in (R467 step 1): that whose newest record is oldest. -/
def archVictim (d : Device) : Option Nat :=
  (oldestSlot ((List.range 16).filterMap (fun b => (newestRec (d.archBlock b)).map (fun r => (b, r))))).map (·.1)

def putArch (d : Device) (b : Nat) (rs : List EventRec) : Device := d.setEvr { d.evr with archive := d.evr.archive.put b rs }

/-- Copy a record to the archive (R467): into the lowest block with an erased unit, or into room made. False: it is dropped. -/
def archive (d : Device) (r : EventRec) : Device × Bool :=
  match ((List.range 16).filter (fun b => decide ((d.archBlock b).length < 2048))).head? with
  | some b => (d.putArch b (d.archBlock b ++ [r]), true)
  | none =>
    match d.archVictim with
    | none => (d, false)
    | some b =>
      let keep := (d.archBlock b).filter (fun x => decide (r.ev.sev < x.ev.sev))
      if keep.length = (d.archBlock b).length then (d.bumpDropped r.ev.sev, false)
      else ((d.eraseBlock (208 + b)).putArch b (keep ++ [r]), true)

/-- SC archives the oldest record that waits, or defers it (R467). -/
def archiveNext (d : Device) : Device :=
  match d.evr.todo with
  | [] => d
  | i :: rest =>
    match d.evr.ring.find? i with
    | none => d.setEvr { d.evr with todo := rest }
    | some r =>
      if d.flashBarred then
        d.setEvr { d.evr with ring := (d.evr.todo.foldl (fun (m : AMap EventRec) (k : Nat) => m.upd k (fun r => { r with deferred := true })) d.evr.ring) }
      else
        let (d, ok) := ({ d with evr := { d.evr with todo := rest } }).archive { r with deferred := false }
        d.setEvr { d.evr with ring := d.evr.ring.put i { r with archived := ok, deferred := false } }

end Device

/-! ### Commands -/

/-- EVT_READ (R468): the ring in slot order. -/
def execEvtRead (fn : Nat) (s : State) : Host.Outcome State Fault Refusal :=
  s.run (fun d => d.devCmd fn 0xCC (fun d x =>
    d.answerHost fn 0 x ((List.range 6144).map (fun i => evtBytes (d.evr.ring.find? i))).flatten))

/-- EVT_ARCH_READ (R468): one archive block; an erased unit reads 0xFF. -/
def execEvtArchRead (fn : Nat) (s : State) : Host.Outcome State Fault Refusal :=
  s.run (fun d => d.devCmd fn 0xCD (fun d x =>
    let rs := (d.archBlock (dwF x.dw 8 3 0)).map (fun r => evtBytes (some r))
    d.answerHost fn 0 x (rs ++ List.replicate (2048 - rs.length) blankUnit).flatten))

/-- EVT_POST (R468). -/
def execEvtPost (fn : Nat) (s : State) : Host.Outcome State Fault Refusal :=
  s.run (fun d => d.devCmd fn 0xCE (fun d x =>
    let sev := dwF x.dw 8 2 0
    let code := dwF x.dw 9 15 0
    if 4 < sev ∨ code < 0xF000 then d.complete fn 0 x.seq stRange 0 0
    else
      let data := leBytes 4 (dwAt x.dw 10).toNat ++ leBytes 4 (dwAt x.dw 11).toNat ++ leBytes 4 (dwAt x.dw 12).toNat ++ leBytes 2 fn ++ [0, 0]
      (d.event { sev := sev, host := true, src := 0x20, code := code, data := data }).complete fn 0 x.seq stOk 0 0))

/-- The recorder takes a record from its input queue (R466). -/
def execEventRecord (s : State) : Host.Outcome State Fault Refusal := s.runSup (fun d => d.recordEvent)

/-- SC copies a record to the archive, or defers it (R467). -/
def execEventArchive (s : State) : Host.Outcome State Fault Refusal := s.runSup (fun d => d.archiveNext)

end Sys2Proof.Machine
end

