-- ==== Sys2Proof/Machine/FwCmds.lean ====
section
/-! DEFINITION. Firmware, profile and flash commands (R445–R461, R468). -/

namespace Sys2Proof.Machine

/-- Flash results of FWS_CMD.RESULT. -/
def flOk : Nat := 0
def flNotErased : Nat := 1
def flProtected : Nat := 2
def flEccUe : Nat := 3
def flAborted : Nat := 4
def flVerify : Nat := 5

/-- The instances of a register that a window gives (R13, R537); none: the block has no select register for it. -/
def winSize : Win → Option Nat
  | .dev => none
  | .agent => none
  | .fn => some 1024
  | .qmq => some 65536
  | .port => some 16
  | .dch => some 24
  | .cch => some 64
  | .lun => some 8192
  | .kslot => some 4096
  | .rail => some 32

namespace Device

/-! ### Reading the array -/

/-- Whether a block lies in an execute-only region (R448). -/
def xoBlock (d : Device) (b : Nat) : Bool :=
  (List.range 8).any (fun k =>
    let w := d.reg (Reg.FWS_XO0 + 4 * k)
    bitAt w 31 && decide (bitsGet w 7 0 ≤ b ∧ b ≤ bitsGet w 23 16))

/-- What a unit holds: the archive's records stand in the ring format; the records of a learned area hold bytes that the manual does not lay out
whole, so they are free (log 2). -/
def unitBytes (d : Device) (u : Nat) : List Byte :=
  let b := u / 2048
  if 208 ≤ b ∧ b < 224 then
    match (d.archBlock (b - 208))[u % 2048]? with
    | some r => evtBytes (some r)
    | none => blankUnit
  else if 192 ≤ b ∧ b < 208 ∧ 2 ≤ (b - 192) % 4 then
    let a := (d.fws.areas.find? ((b - 192) / 4)).getD LearnArea.blank
    if a.block = (b - 192) % 4 - 2 ∧ u % 2048 < a.used then fitBytes 32 ((List.range 32).map (fun i => Config.freeByte u i)) else blankUnit
  else d.flashUnit u

/-- A data read met an execute-only region (R448). -/
def noteXo (d : Device) : Device := (d.setFld Fld.FWS_STATUS_XO_READ 1).raise Reg.FWS_INT_STATUS 0 2

/-- What the check bits of a read find (R446): 0 nothing, 1 an error that is corrected, 2 an uncorrectable one. -/
def flashEcc (d : Device) (ecc : Nat) : Device :=
  if ecc = 2 then (d.bumpSat Fld.FWS_STATUS_UE).raise Reg.FWS_INT_STATUS 1 4 else if ecc = 1 then d.bumpSat Fld.FWS_STATUS_CE else d

/-- A data read of `len` bytes from an address: zeros in an execute-only region (R448). -/
def flashRead (d : Device) (addr len : Nat) : List Byte × Device :=
  let u0 := addr / 32
  let n := (addr + len + 31) / 32 - u0
  let us := (List.range n).map (fun i => u0 + i)
  let bs := (us.map (fun u => if d.xoBlock (u / 2048) then List.replicate 32 (0 : Byte) else d.unitBytes u)).flatten
  let d := if us.any (fun u => d.xoBlock (u / 2048)) then d.noteXo else d
  ((bs.drop (addr % 32)).take len, d)

/-! ### Slots -/

/-- The slot that SC does not run from (R454). -/
def updSlot (d : Device) : Nat := 1 - d.fws.run

/-- One above the highest SEQ of either slot (R453). -/
def nextSeq (d : Device) : Nat :=
  let q (s : Nat) : Nat := if d.marker s mkSeq then d.slotSeq s else 0
  max (q 0) (q 1) + 1

/-- Program SEQ, then VALID, of a slot that verifies. False: SEQ is already programmed. -/
def markValid (d : Device) (s : Nat) : Device × Bool :=
  if d.marker s mkSeq then (d, false)
  else
    let d := d.putUnit (slotUnit s + mkSeq / 32) (leBytes 4 d.nextSeq ++ List.replicate 28 0xA5)
    (d.setMarker s mkValid, true)

/-- An update or profile command: it waits while an FW_BEGIN erases, and is ST_ABORTED while bottling is latched (R451). -/
def flashCmd (d : Device) (fn op : Nat) (body : Device → DescState → Device) : Device :=
  if d.fws.job.isSome then d
  else d.devCmd fn op (fun d x => if d.flashBarred then d.complete fn 0 x.seq stAborted 0 0 else body d x)

/-- A profile command that only reads (R451). -/
def profileCmd (d : Device) (fn op : Nat) (body : Device → DescState → Device) : Device :=
  d.devCmd fn op (fun d x => if d.flashBarred then d.complete fn 0 x.seq stAborted 0 0 else body d x)

/-- Whether FW_WRITE may name a range of its slot (R454, R468). -/
def fwRange (off len : Nat) : Bool :=
  off % 32 == 0 && len % 32 == 0 && decide (1 ≤ len ∧ len ≤ 1048576) &&
    ((off == 0 && decide (len ≤ 512)) || decide (4096 ≤ off ∧ off + len ≤ 6291456))

/-- Program whole units at a flash address: 0, or the flash result that refuses it. -/
def programAt (d : Device) (addr : Nat) (bs : List Byte) (p : FlashPath) : Device × Nat :=
  if !d.flashOk (addr / 65536) p then (d, flProtected)
  else
    let (d, ok) := d.programUnits (addr / 32) (bs.length / 32) bs
    (d, if ok then flOk else flNotErased)

/-! ### Profiles -/

/-- The units of a compiled image: its bytes, padded to a whole unit as an erase leaves them. -/
def padUnit (bs : List Byte) : List Byte := bs ++ List.replicate (roundUp bs.length 32 - bs.length) 0xFF

/-- Store a compiled image (R459): its blocks are erased first, and VALID is set once header and CRC check. -/
def storeProfile (d : Device) (p : Nat) (bs : List Byte) (clear : Bool) : Device × Bool :=
  let b := 192 + 4 * p
  let d := (d.eraseBlock b).eraseBlock (b + 1)
  let d := if clear then
      let d := (d.eraseBlock (b + 2)).eraseBlock (b + 3)
      d.setFws { d.fws with learned := d.fws.learned.del p, areas := d.fws.areas.del p }
    else d
  let img := padUnit bs
  let d := (d.programUnits (2048 * b) (img.length / 32) img).1
  let full := img ++ List.replicate (131040 - img.length) 0xFF ++ markUnit
  let ok := (parseProfile full).valid
  ((if ok then d.putUnit (2048 * b + 4095) markUnit else d).refreshProfile p, ok)

/-- A TYPE 0x0001 section of every running RWP field (R460, R468). -/
def captureSection (d : Device) : List Byte :=
  let regs := ((List.range 15).map (fun b => (blockRegs b).map (fun (r : RegSpec) => (b, r)))).flatten.filter (fun (p : Nat × RegSpec) => decide (rwpMask p.2 ≠ 0))
  let entry (b sel : Nat) (r : RegSpec) (inst : Nat) : List Byte :=
    [BitVec.ofNat 8 b, 0] ++ leBytes 2 sel ++ leBytes 2 r.off ++ [0, 0]
      ++ leBytes 4 (Nat.land (d.reg (b * 65536 + r.off) inst).toNat (rwpMask r))
  let body := (regs.map (fun (p : Nat × RegSpec) => match winSize p.2.win with
    | none => entry p.1 0xFFFF p.2 0
    | some n => ((List.range n).map (fun i => entry p.1 i p.2 i)).flatten)).flatten
  leBytes 2 1 ++ [0, 0] ++ leBytes 4 body.length ++ body ++ List.replicate (roundUp body.length 8 - body.length) 0

/-! ### FWS_CMD -/

def fwsUnit (d : Device) (agent : Nat) : Nat := d.fld Fld.FWS_ADDR_ADDR agent

def fwsResult (d : Device) (agent op r : Nat) : Device := (d.setFld Fld.FWS_CMD_OP op agent).setFld Fld.FWS_CMD_RESULT r agent

def fwsData (d : Device) (agent : Nat) : List Byte :=
  ((List.range 8).map (fun k => leBytes 4 (d.reg (Reg.FWS_DATA0 + 4 * k) agent).toNat)).flatten

def setFwsData (d : Device) (agent : Nat) (bs : List Byte) : Device :=
  (List.range 8).foldl (fun (d : Device) k => d.setReg (Reg.FWS_DATA0 + 4 * k) (BitVec.ofNat 32 (leField bs (4 * k) 4)) agent) d

/-- FWS_CMD with an OP of R448–R455. `ecc`: what the check bits of the unit read find: 0 nothing, 1 an error that is corrected, 2
an uncorrectable one, whose bytes are then free (R446, log 2). -/
def fwsGo (d : Device) (agent op ecc : Nat) : Device :=
  let u := d.fwsUnit agent
  let b := u / 2048
  let res (d : Device) (r : Nat) : Device := d.fwsResult agent op r
  if op = 0 then
    if d.xoBlock b then res (d.noteXo.setFwsData agent (List.replicate 32 0)) flOk
    else if ecc = 2 then
      let n := d.freeCtr
      let d := d.draw.2.flashEcc 2
      res (d.setFwsData agent (fitBytes 32 ((List.range 32).map (fun i => Config.freeByte n i)))) flEccUe
    else
      res ((d.flashEcc ecc).setFwsData agent (d.unitBytes u)) flOk
  else if d.flashBarred then res d flAborted
  else if op = 3 then
    if d.fws.run ≠ 2 ∨ 192 ≤ b then res d flProtected
    else if !d.verifies (b / 96) then res d flVerify
    else
      let (d, ok) := d.markValid (b / 96)
      if !ok then res d flNotErased
      else ((res (d.setMarker (b / 96) mkArmed) flOk).scStart).supplyNormal
  else if !d.flashOk b .command then res d flProtected
  else if op = 1 then
    let (d, ok) := d.programUnit u (d.fwsData agent)
    res d (if ok then flOk else flNotErased)
  else res (d.eraseBlock b) flOk

/-- GOOD_S seconds of a trial in ON or LOW_POWER without a watchdog expiry (R456). -/
def goodNow (d : Device) : Device :=
  if d.fws.trial ∧ d.fws.run < 2 ∧ (d.seqState = .on ∨ d.seqState = .lowPower) then
    let d := d.waitUntil (max d.fws.goodAt d.sup.upAt + 1000000 * d.fld Fld.FWS_BOOT_CFG_GOOD_S)
    let d := d.setMarker d.fws.run mkGood
    d.setFws { d.fws with trial := false }
  else d

end Device

/-! ### Commands -/

/-- FW_BEGIN (R454, R468): each block of the update slot that is not blank is erased, header block first; it completes once the last is. -/
def execFwBegin (fn : Nat) (s : State) : Host.Outcome State Fault Refusal :=
  s.run (fun d => d.flashCmd fn 0xC0 (fun d x =>
    if d.fws.trial then d.complete fn 0 x.seq stNotReady 0 0
    else
      let todo := ((List.range 96).map (fun i => 96 * d.updSlot + i)).filter (fun b => !d.blockBlank b)
      Device.flashGo 1 (d.setFws { d.fws with begun := false, job := some { fn := fn, seq := x.seq, left := todo, at_ := d.now } })))

/-- FW_WRITE (R454, R468). -/
def execFwWrite (fn : Nat) (s : State) : Host.Outcome State Fault Refusal :=
  s.run (fun d => d.flashCmd fn 0xC1 (fun d x =>
    let off := (dwAt x.dw 8).toNat
    if !Device.fwRange off (dLength x.dw) then d.complete fn 0 x.seq stRange 0 0
    else if !d.fws.begun then d.complete fn 0 x.seq stNotReady 0 0
    else
      let (d, r) := d.programAt (6291456 * d.updSlot + off) (x.data.take (dLength x.dw)) .update
      if r = flOk then d.complete fn 0 x.seq stOk 0 0 else d.complete fn 0 x.seq stRange 0 r))

/-- FW_COMMIT (R452–R454, R468). -/
def execFwCommit (fn : Nat) (s : State) : Host.Outcome State Fault Refusal :=
  s.run (fun d => d.flashCmd fn 0xC2 (fun d x =>
    let u := d.updSlot
    if !d.fws.begun then d.complete fn 0 x.seq stNotReady 0 0
    else if !d.verifies u then d.complete fn 0 x.seq stAuthFail 0 0
    else
      let (d, ok) := d.markValid u
      if ok then d.complete fn 0 x.seq stOk 0 0 else d.complete fn 0 x.seq stRange 0 flNotErased))

/-- FW_ACTIVATE (R454, R468). -/
def execFwActivate (fn : Nat) (s : State) : Host.Outcome State Fault Refusal :=
  s.run (fun d => d.flashCmd fn 0xC3 (fun d x =>
    if !d.fws.begun || !d.marker d.updSlot Device.mkValid then d.complete fn 0 x.seq stNotReady 0 0
    else (d.setMarker d.updSlot Device.mkArmed).complete fn 0 x.seq stOk 0 0))

/-- FW_READ (R448, R468); `ecc` is what the check bits find: a unit that is uncorrectable ends it with ST_RANGE and ECC_UE. -/
def execFwRead (fn ecc : Nat) (s : State) : Host.Outcome State Fault Refusal :=
  s.run (fun d => d.devCmd fn 0xC4 (fun d x =>
    let off := (dwAt x.dw 9).toNat
    if dLength x.dw = 0 ∨ 6291456 < off + dLength x.dw then d.complete fn 0 x.seq stRange 0 0
    else
      let (bs, d) := (d.flashEcc ecc).flashRead (6291456 * dwF x.dw 8 0 0 + off) (dLength x.dw)
      if ecc = 2 then d.complete fn 0 x.seq stRange 0 flEccUe else d.answerHost fn 0 x bs))

/-- PROFILE_READ (R468): the image, then the governing learned records, whose bytes the manual does not lay out whole (log 2);
`ecc` as for FW_READ. -/
def execProfileRead (fn ecc : Nat) (s : State) : Host.Outcome State Fault Refusal :=
  s.run (fun d => d.profileCmd fn 0xC8 (fun d x =>
    let p := dwF x.dw 8 1 0
    let a := 65536 * (192 + 4 * p)
    let len := min (leField (d.flashBytes (a / 32) 1) 8 4) 131040
    let (bs, d) := (d.flashEcc ecc).flashRead a len
    let n := d.freeCtr
    let rec' := if (d.fws.learned.find? p).isSome then Config.learnedBytes p n else []
    if ecc = 2 then d.complete fn 0 x.seq stRange 0 flEccUe else d.draw.2.answerHost fn 0 x (bs ++ rec')))

/-- PROFILE_WRITE (R459, R468). -/
def execProfileWrite (fn : Nat) (s : State) : Host.Outcome State Fault Refusal :=
  s.run (fun d => d.flashCmd fn 0xC9 (fun d x =>
    if dLength x.dw = 0 ∨ 131040 < dLength x.dw then d.complete fn 0 x.seq stRange 0 0
    else if d.flag Fld.FWS_CTRL_PROF_WP then d.complete fn 0 x.seq stProt 0 0
    else
      let (d, ok) := d.storeProfile (dwF x.dw 8 1 0) (x.data.take (dLength x.dw)) (bitAt (dwAt x.dw 8) 8)
      d.complete fn 0 x.seq (if ok then stOk else stAuthFail) 0 0))

/-- PROFILE_CAPTURE (R468). -/
def execProfileCapture (fn : Nat) (s : State) : Host.Outcome State Fault Refusal :=
  s.run (fun d => d.profileCmd fn 0xCA (fun d x =>
    let bs := d.captureSection
    if dLength x.dw < bs.length then d.complete fn 0 x.seq stBudget 0 0
    else d.answerHost fn 0 x bs))

/-- A trial image has proved itself (R456). -/
def execGoodTimerExpire (s : State) : Host.Outcome State Fault Refusal := s.runSup (fun d => d.goodNow)

end Sys2Proof.Machine
end

