-- ==== Sys2Proof/Machine/EntryCmds.lean ====
section
/-! DEFINITION. Requests to enter Diapause and Chrysalis (R421–R429, R434, R442), orderly shutdown (R405, R415), the capsule's
bytes (R412, R413), margining (R408, R409), and the start of SUP's regulator (R390). -/

namespace Sys2Proof.Machine

/-- One entry of the rail snapshot (R413). The lowest and highest of the last 64 samples are not followed by the model: their
bytes are free (log 2). -/
def railEntry (n i : Nat) (r : List Nat) : List Byte :=
  leBytes 2 (r.getD 0 0) ++ fitBytes 4 ((List.range 4).map (fun j => Config.freeByte n (4 * i + j))) ++ leBytes 1 (r.getD 1 0) ++ leBytes 1 (r.getD 2 0)
    ++ leBytes 2 (r.getD 3 0) ++ leBytes 2 (r.getD 4 0) ++ leBytes 2 (r.getD 5 0) ++ [0, 0]

/-- The header of a capsule (R413), with its CRC field given. -/
def capHeader (c : Capsule) (crc : Nat) : List Byte :=
  leBytes 2 0xCA95 ++ [1, if c.done then 2 else 1] ++ leBytes 1 c.trig ++ leBytes 1 c.slot ++ leBytes 1 c.supState ++ leBytes 1 c.attempt
    ++ leBytes 4 c.opsec ++ leBytes 3 c.cycles ++ [0] ++ leBytes 8 c.rtc ++ leBytes 4 c.evtSeq ++ leBytes 2 c.hvin ++ leBytes 2 c.hu ++ leBytes 2 c.vbat
    ++ leBytes 1 (c.phase % 16) ++ List.replicate 25 0 ++ leBytes 4 crc

/-- Bytes 0x0040–0x73FF of a capsule: the traces are free bytes. -/
def capBody (c : Capsule) : List Byte :=
  let free (base n : Nat) : List Byte := (List.range n).map (fun j => Config.freeByte c.draw (base + j))
  (c.rails.zip (List.range 32)).foldl (fun (a : List Byte) p => a ++ railEntry c.draw p.2 p.1) []
    ++ List.replicate 448 0 ++ free 256 12288 ++ free 12544 4096
    ++ fitBytes 8192 ((c.events.map (fun r => evtBytes (some r))).flatten) ++ (c.regs.map (fun w => leBytes 4 w.toNat)).flatten

/-- The 64 KiB of the capsule area as CAPSULE_READ and SUP_CAP_DATA give them: the state-record area reads zero (R413); an EMPTY
capsule reads zero. The CRC is written when the capture ends; until then its bytes are free. -/
def capsuleBytes : Option Capsule → List Byte
  | none => List.replicate 65536 0
  | some c =>
    let body := capBody c
    let crc := if c.done then crc32c (capHeader c 0 ++ body) else Config.freeValue c.draw
    capHeader c crc ++ body ++ List.replicate 35840 0

namespace Device

/-! ### Requests -/

/-- What makes a request meet cause BUSY (R422): a measurement set, a timing-set switch, a flash operation, or margining. -/
def pwrBusy (d : Device) : Bool :=
  d.fws.job.isSome || d.hold.testAt.isSome || d.hold.probing || d.drm.walk.isSome || (List.range 32).any (fun n => decide (d.fld Fld.SUP_R_MARGIN_STEPS n ≠ 0))

/-- The cause of R422 that refuses a mode (1 Diapause, 2 Chrysalis) on this device; 0: none does. -/
def pwrCheck (d : Device) (mode : Nat) : Nat :=
  if mode = 0 ∨ 2 < mode ∨ d.sup.state ≠ .on ∨ d.sup.cur = 2 ∨ d.sup.cur = 5 ∨ d.sup.warm.isSome ∨ d.trl.ask.isSome then 1
  else if d.hold.supply ≠ .normal then 2
  else if mode = 1 ∧ d.placesWrites then 3
  else if d.rst.phase ≠ 0 then 4
  else if d.pwrBusy then 5
  else 0

/-- The cause that refuses a request of this device's own: R422, and CASCADE on a member (R421). -/
def pwrRefuse (d : Device) (mode : Nat) : Nat :=
  let c := d.pwrCheck mode
  if c = 0 ∧ d.cascadeMember then 6 else c

/-- Whether an entry or exit is in progress (R422, R423). -/
def pwrMoving (d : Device) : Bool := d.sup.cur == 2 || d.sup.cur == 5

/-- A request is refused (R422). -/
def pwrRefused (d : Device) (cause : Nat) : Device :=
  let d := if cause = 1 ∧ d.pwrMoving then d.setFld Fld.SUP_PWR_TARGET_MODE d.sup.target else d.setFld Fld.SUP_PWR_TARGET_MODE 0
  (d.setFld Fld.SUP_PWR_STATUS_REFUSE cause).raise Reg.SUP_PWR_INT_STATUS 1 3

/-- Step 1 of R425, or the start of R429. -/
def pwrBegin (d : Device) (mode : Nat) : Device :=
  let d := d.setFld Fld.SUP_PWR_TARGET_MODE mode
  if mode = 2 then d.startFlush true
  else
    let d := d.noteStop
    let d := d.setSup { d.sup with cur := 2, target := 1, nullSealed := false, state := .lowPower, flushAt := d.now, flushing := true,
                                   joinBack := d.mir.role == .standby || d.mir.role == .resync }
    if d.mir.role = .detached then d else d.setRole .detached

/-- Whether a request is put to the members first (R502). -/
def pwrAsks (d : Device) : Bool := d.cascadeMaster && d.trl.formed && !d.others.isEmpty

/-- The master puts its request to every member (R502). -/
def pwrAsk (d : Device) (mode : Nat) (tok : Option (Nat × Nat)) : Device :=
  let d := d.setTrl { d.trl with ask := some (mode, tok), askFrom := d.others }
  d.others.foldl (fun (d : Device) i => d.trlSend i "CTRL" [ctlAsk, mode]) d

/-- A request under R421. -/
def pwrRequest (d : Device) (mode : Nat) : Device :=
  let c := d.pwrRefuse mode
  if c ≠ 0 then d.pwrRefused c
  else if d.pwrAsks then d.pwrAsk mode none
  else d.pwrBegin mode

/-- The answers of the members: one that refuses makes the master refuse with its cause; once every member has accepted, each
device enters (R502). -/
def pwrAnswer (d : Device) (dev cause : Nat) : Device :=
  match d.trl.ask with
  | none => d
  | some (mode, tok) =>
    let fin (d : Device) (st c : Nat) : Device := match tok with
      | some (fn, seq) => d.complete fn 0 seq st c 0
      | none => d
    if cause ≠ 0 then fin ((d.setTrl { d.trl with ask := none, askFrom := [] }).pwrRefused cause) stNotReady cause
    else
      let left := d.trl.askFrom.filter (fun i => decide (i ≠ dev))
      let d := d.setTrl { d.trl with askFrom := left }
      if !left.isEmpty then d
      else
        let d := d.setTrl { d.trl with ask := none }
        let d := d.others.foldl (fun (d : Device) i => d.trlSend i "CTRL" [ctlEnter, mode]) d
        (fin d stOk 0).pwrBegin mode

/-! ### Draining -/

/-- No rack is dirty and nothing pends: the command claims that write-behind has ended, metadata pages included (log 25). -/
def drained (d : Device) : Bool := d.csk.racks.all (fun p => p.2.dirty == 0) && d.adm.pend == 0

/-- Steps 4 and 5 of R405 (R429). Before the open record the newest record stands, as in a bottling (R140, DEDUCED; log 17): a null seal
would give up the image that has not been restored. -/
def flushEnd (d : Device) : Device :=
  if d.sup.state = .flush ∧ d.sup.flushing ∧ d.drained ∧ d.hold.bottle.isNone then
    (if d.rst.svcOpen then d.homeMeta.writeNullSeal else d).serdesOff.powerDown (if d.sup.target = 2 then .lowPower else .off)
  else d

/-- Steps 3 to 6 of R425. -/
def diapauseDown (d : Device) : Device :=
  if d.sup.state = .lowPower ∧ d.sup.cur = 2 ∧ d.sup.target = 1 ∧ !d.sup.nullSealed ∧ d.drained then
    let d := d.homeMeta.writeNullSeal.serdesOff
    let d := (d.setSup { d.sup with nullSealed := true }).saveRegs.haltCores
    d.powerDown .lowPower true
  else d

/-! ### Margining -/

/-- Whether a nonzero margin of a slot is accepted (R408). -/
def marginOk (d : Device) (slot steps : Nat) : Bool :=
  d.flag Fld.SUP_R_CFG_PMB slot && d.sup.state == .on && !d.flag Fld.SUP_PMB_STATUS_DEAD && (d.prof.test || d.flag Fld.SUP_MARGIN_UNLOCK_UNLOCKED) && d.mir.role == .detached
    && d.dirtyPages == 0 && d.adm.pend == 0 && (decide (steps ≤ 10) || decide (22 ≤ steps))

/-- A write of SUP_R_MARGIN.STEPS (R408): a five-bit two's complement number of half per cents. The output is set over the PMBus. -/
def marginWrite (d : Device) (agent slot steps : Nat) : Device :=
  if steps ≠ 0 ∧ !d.marginOk slot steps then d.eventIgnored Reg.SUP_R_MARGIN (BitVec.ofNat 32 steps) agent
  else
    ((d.setFld Fld.SUP_R_MARGIN_STEPS steps slot).setFld Fld.SUP_R_MARGIN_ACTIVE (b2n (decide (steps ≠ 0))) slot).setOutput slot

/-! ### The regulator -/

/-- The straps as SUP takes them (R523): PROF_SEL, CASCADE_ID, and the straps whose second set of samples split four to four. `again`: none when
the eight samples of every strap agree; else, for PROF_SEL0, PROF_SEL1 and CASCADE_ID0–2, the samples of the second set that read 1. -/
def straps (prof cid : Nat) (again : Option (List Nat)) : Nat × Nat × List Nat :=
  match again with
  | none => (prof % 4, cid % 8, [])
  | some ones =>
    let bit (i : Nat) : Nat := b2n (decide (5 ≤ ones.getD i 0))
    (bit 0 + 2 * bit 1, bit 2 + 2 * bit 3 + 4 * bit 4, (List.range 5).filter (fun i => ones.getD i 0 == 4))

/-- SUP's regulator starts (R390): the classes F to A are reset, the active profile is chosen, SC boots and enters INIT. VBAT keeps
the RTC and the tamper latch (R434, R554); a T alarm latched on VBAT alone is acted on (R385). With TEST_EN high, or a strap that gives no
value, SC stays in INIT (R520, R523). -/
def regStart (d : Device) (hvin hu vbat prof cid : Nat) (testEn : Bool) (again : Option (List Nat)) : Device :=
  let (prof, cid, split) := straps prof cid again
  let kept := d.sup.vbat
  let held := decide (1000 ≤ kept)
  let latch := d.fld Fld.SUP_TAMPER_STATUS_LATCH
  let evt := d.fld Fld.SUP_TAMPER_STATUS_VBAT_EVT
  let rtc := d.reg Reg.SUP_RTC_SEC
  let sub := d.reg Reg.SUP_RTC_SUB
  let d := d.setSup { d.sup with supOn := true, cold := true, state := .init, hvin := hvin, hu := hu, vbat := vbat, profile := prof, profNext := none, latched := none, avsMv := 0,
                                 stuck := testEn || !split.isEmpty }
  let d := d.setHold { d.hold with coldSet := true, setDone := false, supply := .warn, inputBad := false, inputGood := false }
  let d : Device := { d with usecBase := d.now, i3cPtr := 0, i3cForm := 0, i3cIbi := false }   -- R551, R541, R542
  let d := d.clearClasses [.f, .w, .c, .a]
  -- no profile is named when PROF_SEL gives no value
  let d := if split.any (fun i => decide (i < 2)) then d.setSup { d.sup with running := Profile.blank } else (d.selectProfile prof).loadProfile [.f, .w, .c, .a]
  let d := if held then ((d.setReg Reg.SUP_RTC_SEC rtc).setReg Reg.SUP_RTC_SUB sub).setFld Fld.SUP_TAMPER_STATUS_LATCH latch
    |>.setFld Fld.SUP_TAMPER_STATUS_VBAT_EVT evt else d
  let d := d.bumpSat Fld.EVR_CYCLES_VALUE
  let d := if d.flag Fld.SUP_RTC_SUB_VALID then d else d.raise Reg.SUP_PWR_INT_STATUS 2 3
  let d := (d.setSup { d.sup with wdtAt := [], coresDown := [] }).scStart
  let d := d.setCph { d.cph with quiet := [] }
  let d := if held && decide (d.cph.vbatLatch ≠ 0) then d.tamperAct else d
  let d := d.setCph { d.cph with vbatLatch := 0 }
  let d := if again.isSome then d.eventR 4 0x18 523 else d
  let d := split.foldl (fun (d : Device) i => d.event { sev := 7, host := false, src := 0x18, code := Config.eventCode 523, data := leBytes 1 i ++ List.replicate 15 0 }) d
  let d := if testEn then d.eventR 7 0x18 520 else d
  let d := d.pin "PF_SHARE" 1                                                        -- R521: the clamp releases the ball
  d.trlReset.setTrl { d.trlReset.trl with id := cid }                                -- R486

end Device

/-! ### Commands -/

/-- PWR_ENTER (R442). -/
def execPwrEnter (fn : Nat) (s : State) : Host.Outcome State Fault Refusal :=
  s.run (fun d => d.devCmd fn 0xD0 (fun d x =>
    let mode := dwF x.dw 8 1 0
    if mode = 0 ∨ mode = 3 then d.complete fn 0 x.seq stRange 0 0
    else
      let c := d.pwrRefuse mode
      if c ≠ 0 then (d.pwrRefused c).complete fn 0 x.seq stNotReady c 0
      else if d.pwrAsks then d.pwrAsk mode (some (fn, x.seq))
      else (d.complete fn 0 x.seq stOk 0 0).pwrBegin mode))

/-- SHUTDOWN (R415): an accepted one posts no entry. -/
def execShutdown (fn : Nat) (s : State) : Host.Outcome State Fault Refusal :=
  s.run (fun d => d.devCmd fn 0xD8 (fun d x =>
    if (dwAt x.dw 8).toNat ≠ 0xA5A5 then d.complete fn 0 x.seq stRange 0 0
    else if d.sup.state ≠ .on then d.complete fn 0 x.seq stNotReady 0 0
    else d.startFlush false))

/-- CAPSULE_READ (R415). -/
def execCapsuleRead (fn : Nat) (s : State) : Host.Outcome State Fault Refusal :=
  s.run (fun d => d.devCmd fn 0xD9 (fun d x => d.answerHost fn 0 x (capsuleBytes d.sup.capsule)))

/-- CAPSULE_CLEAR (R415). -/
def execCapsuleClear (fn : Nat) (s : State) : Host.Outcome State Fault Refusal :=
  s.run (fun d => d.devCmd fn 0xDA (fun d x => (d.setSup { d.sup with capsule := none }).complete fn 0 x.seq stOk 0 0))

/-- SUP's regulator starts as HVIN rises above 7.8 V (R390); `vbat`: VBAT in mV; `prof`: PROF_SEL1..0; `cid`: CASCADE_ID2..0. -/
def execRegulatorStart (hvin hu vbat prof cid : Nat) (testEn : Bool) (again : Option (List Nat)) (s : State) : Host.Outcome State Fault Refusal :=
  if hvinMax < hvin then .fault .absoluteMaximum
  else s.run (fun d => if !d.sup.supOn && decide (780 < hvin) then d.regStart hvin hu vbat prof cid testEn again else d)

/-- Dirty bytes are 0 in FLUSH (R405 steps 4 and 5). -/
def execFlushDrained (s : State) : Host.Outcome State Fault Refusal := s.runSup (fun d => d.flushGo.flushEnd)

/-- ORD_TMO_S passes before step 4 of R405: bottling. -/
def execOrderlyShutdownTimeout (s : State) : Host.Outcome State Fault Refusal :=
  s.runSup (fun d =>
    if d.sup.state = .flush ∧ d.hold.bottle.isNone then
      (d.waitUntil (d.sup.flushAt + 1000000 * d.fld Fld.SUP_SEQ_CTRL_ORD_TMO_S)).bottleTrigger
    else d)

/-- Dirty bytes and the pending charge are 0 in a Diapause entry (R425). -/
def execDiapauseDrained (s : State) : Host.Outcome State Fault Refusal := s.runSup (fun d => d.diapauseDown)

/-- The second tick at which SUP_RTC_SEC equals SUP_RTC_SLEEP with SLEEP_EN set (R434). -/
def execRtcSleepAlarm (s : State) : Host.Outcome State Fault Refusal :=
  s.runSup (fun d =>
    if d.flag Fld.SUP_RTC_SCHED_SLEEP_EN ∧ d.fld Fld.SUP_RTC_SEC_SEC ≤ d.fld Fld.SUP_RTC_SLEEP_SEC then
      let d := d.advance ((d.fld Fld.SUP_RTC_SLEEP_SEC - d.fld Fld.SUP_RTC_SEC_SEC) * 1000000)
      (d.setFld Fld.SUP_RTC_SCHED_SLEEP_EN 0).pwrRequest (d.fld Fld.SUP_RTC_SCHED_SLEEP_MODE)
    else d)

end Sys2Proof.Machine
end

