-- ==== Sys2Proof/Machine/AgeCmds.lean ====
section
/-! DEFINITION. The re-plan of MC7 and the ageing commands (R472–R482). Monitor readings come as operands: eye margins in PHY
steps, slack in ps, voltages in mV. -/

namespace Sys2Proof.Machine
namespace Device

/-- Whether a re-plan may start (R473); MC7 must run. -/
def planMay (d : Device) : Bool :=
  d.hubOn && d.hold.supply == .normal && d.hold.bottle.isNone && d.rst.phase == 0 && d.sup.warm.isNone
    && d.coreUp 7

/-- The core-voltage target of R475: the value it calls for, in mV, before the clamp. -/
def wantMv (d : Device) : Nat :=
  let v := d.sup.avsMv / 1000
  let s := d.fld Fld.AGE_PATH_HUB_PS
  let req := d.fld Fld.AGE_PATH_SLACK_REQ
  let vt := if s < req then v + 5 * ((req - s + 3) / 4) else if s ≤ req + 12 then v else v - 5
  max vt (d.age.canary + d.fld Fld.AGE_VCORE_SRAM_GUARD_MV)

/-- T set to `mv`, clamped to 0.65–0.85 V (R475). -/
def aimAt (d : Device) (mv : Nat) : Device :=
  let d := if 850 < mv then d.raise Reg.AGE_INT_STATUS 4 5 else d
  d.setTarget (max 650 (min 850 mv))

/-- The core voltage of a re-plan (R475): a rise at once; a fall when three re-plans in a row called for one, by at most 5 mV. -/
def planCore (d : Device) : Device × Bool :=
  if !d.flag Fld.AGE_CTRL_AVS_EN || d.sup.avsMv == 0 then (d, false)
  else
    let v := d.sup.avsMv / 1000
    let old := d.sup.avsTarget
    let want := d.wantMv
    let t := max 650 (min 850 want)
    let falls := if t < v then d.age.falls + 1 else 0
    let d : Device := { d with age := { d.age with falls := falls } }
    let d := if v ≤ t then d.aimAt want
      else if 3 ≤ falls then d.setTarget (max t (v - 5))
      else d.setTarget v
    (d, d.sup.avsTarget != old)

/-- The registers of a channel's timing set. -/
def setBase (a : Bool) : Nat := if a then Reg.DRM_TSA_CFG else Reg.DRM_TSB_CFG

/-- Raise CL, CWL, tRCD, tRP and tWR of the set at `base` by 1 nCK (R477). -/
def slower (d : Device) (base c : Nat) : Device :=
  let up (d : Device) (f : Fld) : Device :=
    let g : Fld := { f with reg := f.reg - Reg.DRM_TSA_CFG + base }
    d.setFld g (d.fld g c + 1) c
  [Fld.DRM_TSA_CFG_CL, Fld.DRM_TSA_CFG_CWL, Fld.DRM_TSA_ROW_tRCD, Fld.DRM_TSA_ROW_tRP, Fld.DRM_TSA_WR_tWR].foldl up d

/-- Write the shadow set of a channel for a level (R477): a channel that keeps its level, and level 1, keep the timings. -/
def planShadow (d : Device) (c old new : Nat) : Device :=
  let shadow := d.shadowCfg c
  let live := if shadow = Reg.DRM_TSA_CFG then Reg.DRM_TSB_CFG else Reg.DRM_TSA_CFG
  if new = 3 ∧ old ≠ 3 then (loadSet c shadow (d.levelRate 3) d).slower shadow c
  else
    let d := (List.range 8).foldl (fun (d : Device) i => d.setReg (shadow + 4 * i) (d.reg (live + 4 * i) c) c) d
    if new = 2 ∧ old ≠ 2 then d.slower shadow c else d

/-- The DRAM levels of a re-plan (R477, R480): the channels whose eye is too small go up by one level, and the walk that switches them starts. -/
def planDram (d : Device) : Device :=
  if !d.flag Fld.AGE_CTRL_DRAM_EN || d.drm.walk.isSome then d
  else
    let thr := d.fld Fld.AGE_DRAM_CFG_EYE_THR
    let small := d.liveChans.filter (fun c => match d.age.eyes.find? c with
      | some (w, h) => decide (w < thr ∨ h < thr)
      | none => false)
    let lower := d.prof.rates.any (fun r => decide (r < d.dramRate))
    let up (c : Nat) : Nat := if d.levelOf c < 2 then d.levelOf c + 1 else if lower then 3 else 2
    let d := if small.any (fun c => d.levelOf c == 2 && !lower) then d.raise Reg.AGE_INT_STATUS 3 4 else d
    let want := (small.map (fun c => (c, up c))).filter (fun (p : Nat × Nat) => p.2 != d.levelOf p.1)
    if want.isEmpty then d
    else
      let new (c : Nat) : Nat := match want.find? (fun p => p.1 == c) with
        | some p => p.2
        | none => d.levelOf c
      let d := d.liveChans.foldl (fun (d : Device) c => d.planShadow c (d.levelOf c) (new c)) d
      let d : Device := { d with age := { d.age with swLevels := want } }
      let d := d.tsetGo d.liveChans
      if d.drm.walk.isSome then d
      else
        let d : Device := { d with age := { d.age with swLevels := [] } }
        d.raise Reg.AGE_INT_STATUS 2 4

/-- The REF_SCALE that the profile gives a channel (R478). -/
def profScale (d : Device) (c : Nat) : Nat :=
  bitsGet ((d.profileRegs.find? (rkey c Reg.DRM_CH_REF)).getD (regDflt (rkey c Reg.DRM_CH_REF))) 15 12

/-- 30 days, in µs. -/
def calmUs : Nat := 2592000000000

/-- REF_SCALE of a re-plan (R478). A pass acts once. -/
def planRef (d : Device) : Device × Bool :=
  if !d.flag Fld.AGE_CTRL_REF_EN then (d, false)
  else d.liveChans.foldl (fun (a : Device × Bool) c =>
    let d := a.1
    let old := d.fld Fld.DRM_CH_REF_REF_SCALE c
    let hot := decide (d.fld Fld.AGE_DRAM_CFG_CE_THR ≤ (d.age.passCe.find? c).getD 0)
    let calm : Bool := match d.age.calmAt.find? c with
      | some t => decide (t + calmUs ≤ d.now)
      | none => false
    let new := if hot then max old (min 15 (old + 2)) else if calm && decide (d.profScale c < old) then old - 1 else old
    let d := if hot then { d with age := { d.age with passCe := d.age.passCe.del c } } else d
    (d.setFld Fld.DRM_CH_REF_REF_SCALE new c, a.2 || new != old)) (d, false)

/-- The retry entry that most often succeeded; the lowest of several (R479). -/
def bestHit (hits : AMap Nat) : Option Nat :=
  match (hits.foldl (fun (b : Nat × Nat) (p : Nat × Nat) => if b.2 < p.2 then p else b) (0, 0)) with
  | (_, 0) => none
  | (e, _) => some e

/-- The read offsets of a re-plan (R479). One step in the direction of the error trend is left open (log 2). -/
def planNand (d : Device) : Device × Bool :=
  if !d.flag Fld.AGE_CTRL_NAND_EN then (d, false)
  else
    let (d, ch) := d.age.nand.foldl (fun (a : Device × Bool) (p : Nat × NandStat) =>
      let d := a.1
      let x := p.2
      if x.words * d.fld Fld.AGE_NAND_CFG_BITS_THR < x.bits ∨ (0 < x.words ∧ x.words ≤ 100 * x.step2) then
        let (v, d) : Nat × Device := match bestHit x.hits with
          | some e => ((d.cel.mseq.retry.find? (fun (q : Nat × Nat) => q.1 == 32 * (p.1 / 32768) + e)).elim 0 (fun q => q.2), d)
          | none => (d.draw.1 % 4294967296, d.draw.2)
        ({ d with age := { d.age with offsets := d.age.offsets.put p.1 v } }, true)
      else a) (d, false)
    ({ d with age := { d.age with nand := [] } }, ch)

/-- A re-plan (R473–R482): it waits until it may start, and ends when the switch it started has ended. -/
def replan (d : Device) : Device :=
  if d.age.changed.isSome then d
  else if !d.planMay then d.setFld Fld.AGE_STATUS_WAITING 1
  else
    let d := (d.setFld Fld.AGE_STATUS_WAITING 0).setFld Fld.AGE_STATUS_BUSY 1
    let d : Device := { d with age := { d.age with planAt := d.now } }
    let (d, core) := d.planCore
    let (d, ref) := d.planRef
    let (d, nand) := d.planNand
    let d : Device := { d with age := { d.age with changed := some (2 * b2n core + 8 * b2n ref + 16 * b2n nand) } }
    let d := d.planDram
    if d.age.swLevels.isEmpty then d.planEnd else d

/-- Start the re-plan that waits, once it may (R473). -/
def planWaiting (d : Device) : Device := if d.flag Fld.AGE_STATUS_WAITING && d.planMay then d.replan else d

end Device

/-! ### Commands -/

/-- PLAN_H hours have passed since the last re-plan, or since the device came up (R473). -/
def execReplanTimer (s : State) : Host.Outcome State Fault Refusal :=
  s.run (fun d => if d.hubOn then (d.waitUntil (max d.age.planAt d.sup.upAt + 3600000000 * d.fld Fld.AGE_PERIOD_PLAN_H)).replan else d)

/-- The eye probe of a channel ends: its worst eye width and height over its ranks (R472). -/
def execEyeProbe (ch width height : Nat) (s : State) : Host.Outcome State Fault Refusal :=
  s.run (fun d => if d.hubOn && d.chLive ch then { d with age := { d.age with eyes := d.age.eyes.put ch (width, height) } } else d)

/-- What the 1 ms sample records beside the slack that registers show: the PORT slack and the junction temperature (R472). No command brings
their values, so they are free (log 2). -/
def Device.notePath (d : Device) : Device :=
  let (n, d) := d.draw
  let (m, d) := d.draw
  { d with age := { d.age with portPs := n, tj := m } }

/-- The 1 ms slack check: the worst HUB and EDGE slack, and the fast raise (R472, R476); the PORT slack is reported only. -/
def execSlackCheck (hub edge : Nat) (s : State) : Host.Outcome State Fault Refusal :=
  s.run (fun d =>
    if !d.hubOn then d
    else
      let d := ((d.notePath).setFld Fld.AGE_PATH_HUB_PS (min hub 255)).setFld Fld.AGE_PATH_EDGE_PS (min edge 255)
      let free : Bool := match d.age.fastAt with
        | some t => decide (t + 100000 ≤ d.now)
        | none => true
      if d.flag Fld.AGE_CTRL_AVS_EN && decide (min hub 255 < d.fld Fld.AGE_PATH_FAST_THR) && free && d.sup.avsMv != 0 && d.hold.bottle.isNone then
        let d : Device := { d with age := { d.age with fastAt := some d.now } }
        (d.aimAt (d.sup.avsTarget + 10)).raise Reg.AGE_INT_STATUS 1 3
      else d)

/-- The SRAM canaries have found their failure voltage (R472). -/
def execCanaryCheck (mv : Nat) (s : State) : Host.Outcome State Fault Refusal :=
  s.run (fun d => if d.hubOn then { d with age := { d.age with canary := mv } }.setFld Fld.AGE_VCORE_CANARY_10MV (mv / 10) else d)

end Sys2Proof.Machine
end

