-- ==== Sys2Proof/Machine/Cellar.lean ====
section
/-! DEFINITION. Commands of the cellar flash controller (R338–R362): programs, reads, erases, wear, hung LUNs and the raw
interface. What the NAND answers comes as operands. -/

namespace Sys2Proof.Machine

/-- What the LUN answers while a microsequence runs (R357): status bytes, ready bits, LDPC results and data, in order. -/
structure RawEnv where
  status : List Nat
  ready  : List Bool
  ldpc   : List Bool
  din    : List Byte
  deriving DecidableEq, Repr

namespace Device

def celBlk : Nat := Reg.CEL_CHSEL / 65536

/-- The write-behinds with a page or a parity page in a row fail (R354). -/
def failRow (d : Device) (sb row : Nat) : Device :=
  d.failWriteBehind (fun c =>
    let m := c / 2 ^ 32 % 16
    let r := c % 2 ^ 25 % 2 ^ d.ppbLog2
    let slot := 15 * r + (if m < r % 16 then m else m - 1)
    sb != 0 && d.sbOf c == sb && decide (slot / 15 ≤ row ∧ row ≤ (slot + 3) / 15))

/-- Whether R348 lets a program of a page go. -/
def programOk (d : Device) (ch lun b page : Nat) (slc : Bool) : Bool :=
  let x := d.blk ch lun b
  page == x.wp && (match x.state with
    | .erased => true
    | .opened => x.slc == slc
    | .vault => slc && decide (x.wp < d.nandGeom.slcPages)
    | _ => false)

/-- A refused program (R348): PGM_REFUSED, and an event with the cellar address and WP. -/
def refuseProgram (d : Device) (ch lun b page : Nat) : Device :=
  let a := ((ch * 128 + lun) * 2 ^ 25 + b * 2 ^ d.ppbLog2 + page) * 16384
  (d.raise Reg.CEL_INT_STATUS 4 4).event
    { sev := 4, host := false, src := celBlk, code := Config.eventCode 348, data := leBytes 8 a ++ leBytes 8 (d.blk ch lun b).wp }

/-- A page of a block has been programmed (R347). -/
def programmed (d : Device) (ch lun b sb : Nat) (slc : Bool) : Device :=
  let x := d.blk ch lun b
  let d := d.openSuper sb slc
  let st := if x.state = .vault then BlkState.vault else if x.wp + 1 = d.blkPages slc then .full else .opened
  let d := d.setBlk ch lun b { x with state := st, slc := slc, wp := x.wp + 1, sb := if x.state = .vault then x.sb else sb, member := ch % 16 }
  let d := d.setCel { d.cel with supers := d.cel.supers.upd sb (fun s => { s with rackAt := d.now }) }
  let d := d.bumpPair Reg.CEL_PROG_CNT_LO
  if d.spareBelow 10 then d.raise Reg.CEL_INT_STATUS 3 3 else d

/-- Whether a block may be erased (R349). -/
def erasable (d : Device) (ch lun b : Nat) : Bool := d.blkFree (d.blk ch lun b)

/-- The erased block of a LUN that a generation takes (R346): the one with the lowest erase count, of those that the table does not list, which have
none, the lowest-numbered. -/
def drawBlk (d : Device) (ch lun : Nat) : Option Nat :=
  let here := d.cel.blocks.filter (fun (p : Nat × Blk) => p.1 / 1048576 == lunKey ch lun)
  let new := if here.length < d.nandGeom.blocks - d.cel.vaultBlks then
      ((List.range (here.length + 1)).map (· + d.cel.vaultBlks)).find? (fun b => !here.any (fun p => p.1 % 1048576 == b)) else none
  match new with
  | some b => some b
  | none =>
    let free := sortBy (fun (a b : Nat × Blk) => decide (a.2.erases ≤ b.2.erases)) (here.filter (fun p => p.2.state == .erased))
    free.head?.map (fun p => p.1 % 1048576)

/-- Static wear levelling (R359): when the erase counts of a LUN's FULL and ERASED blocks differ by more than WL_DELTA, the racks of the FULL block
with the lowest count are queued for a move. Blocks that the table does not list are ERASED, with none. -/
def levelWear (d : Device) (ch lun : Nat) : Device :=
  let here := d.cel.blocks.filter (fun (p : Nat × Blk) => p.1 / 1048576 == lunKey ch lun)
  let cs := (here.filter (fun p => p.2.state == .full || p.2.state == .erased)).map (fun p => p.2.erases)
  let hi := cs.foldl max 0
  let lo := if here.length + d.cel.vaultBlks < d.nandGeom.blocks then 0 else cs.foldl min hi
  if hi - lo ≤ d.fld Fld.CEL_WEAR_WL_DELTA then d
  else
    match sortBy (fun (a b : Nat × Blk) => decide (a.2.erases ≤ b.2.erases)) (here.filter (fun p => p.2.state == .full)) with
    | (_, x) :: _ =>
      let ks := (d.csk.racks.filter (fun p => p.2.cvalid && p.2.homed && x.sb != 0 && d.sbOf p.2.cptr == x.sb && (d.rackChans p.2.cptr).contains ch)).map (·.1)
      d.setCel { d.cel with reloc := nubNat (d.cel.reloc ++ ks) }
    | [] => d

/-- A block has been erased: its pages are no more, and the superblock that it was the last of is none (R343); `g` is the generation it is
formed from, if any: it takes the erased block of the LUN with the lowest count (R346, R349). -/
def erased (d : Device) (ch lun b : Nat) (g : Option Nat) : Device :=
  let x := d.blk ch lun b
  let at_ := (lunKey ch lun * 2 ^ 25 + b * 2 ^ d.ppbLog2) / 2 ^ d.ppbLog2
  let d := d.setCel { d.cel with heads := d.cel.heads.filter (fun p => decide (p.1 / 2 ^ d.ppbLog2 ≠ at_))
                                 supers := if (d.setBlk ch lun b Blk.blank).cel.blocks.any (fun p => p.2.sb == x.sb) then d.cel.supers else d.cel.supers.del x.sb }
  if d.wearLimit x ≤ x.erases then d.retireBlk ch lun b
  else
    let d := (d.bumpPair Reg.CEL_ERASE_CNT_LO).setBlk ch lun b { Blk.blank with erases := min (x.erases + 1) 4294967295 }
    match g, d.drawBlk ch lun with
    | some g, some c =>
      if (d.gen g).state = .released then
        let d := d.setBlk ch lun c { d.blk ch lun c with state := .vault, slc := true, gen := g }
        let e := (d.gen g).erased + 1
        let all := d.genBlocks d.cel.genGib * d.lunsLive
        let d := d.setGen g { d.gen g with erased := e, state := if all ≤ e then .erased else .released }
        (d.levelWear ch lun).reevalAdmit
      else d.levelWear ch lun
    | _, _ => d.levelWear ch lun

/-- Count the codewords of a LUN and bin (R472). -/
def noteNand (d : Device) (key bits : Nat) (entry : Nat) : Device :=
  let x := (d.age.nand.find? key).getD { words := 0, bits := 0, step2 := 0, hits := [] }
  let x : NandStat := { words := x.words + 1, bits := x.bits + bits, step2 := x.step2 + (if entry = 0 then 0 else 1),
                        hits := if entry = 0 then x.hits else x.hits.put entry ((x.hits.find? entry).getD 0 + 1) }
  { d with age := { d.age with nand := d.age.nand.put key x } }

/-! ### The raw interface -/

/-- The result of a microsequence: its result code, the last status byte, and the device with the steps sent. `i` is the
step, `ldpc` the last DIN's failure (R357). -/
def seqRun (ch lun : Nat) : Nat → Device → RawEnv → Nat → Nat → Bool → Nat × Nat × List Byte × Device
  | 0, d, _, _, nand, _ => (6, nand, [], d)
  | n + 1, d, e, i, nand, bad =>
    let w := ((AMap.find? d.cel.mseq.steps (4096 * (ch / 32) + i)).getD 0)
    let a := w / 2 ^ 48 % 256
    let b := w / 2 ^ 32 % 65536
    let c := w % 2 ^ 32
    let say (name : String) (args : List Nat) : Device := d.emit (.nand ch lun name args)
    match w / 2 ^ 60 % 16 with
    | 0 => (a, nand, [], d)
    | 1 => seqRun ch lun n (say "CMD" [a]) e (i + 1) nand bad
    | 2 => seqRun ch lun n (say "ADDR" [a, b % 16, c]) e (i + 1) nand bad
    | 3 => seqRun ch lun n (say "DOUT" [b]) e (i + 1) nand bad
    | 4 =>
      let (r, s, bs, d) := seqRun ch lun n (say "DIN" [b]) { e with ldpc := e.ldpc.tail } (i + 1) nand (!(e.ldpc.headD true))
      (r, s, if bs.isEmpty then e.din else bs, d)
    | 5 => if e.ready.headD true then seqRun ch lun n (say "WAITRDY" [b]) { e with ready := e.ready.tail } (i + 1) nand bad else (3, nand, [], say "WAITRDY" [b])
    | 6 => seqRun ch lun n (say "DELAY" [b]) e (i + 1) nand bad
    | 7 =>
      let st := e.status.headD 0 % 256
      if Nat.land st (c % 256) ≠ c / 256 % 256 then (c / 65536 % 256, st, [], say "STATUS" [a])
      else seqRun ch lun n (say "STATUS" [a]) { e with status := e.status.tail } (i + 1) st bad
    | 8 => seqRun ch lun n (say "SETFEAT" [a, c]) e (i + 1) nand bad
    | 9 => seqRun ch lun n (say "PARAM" [b]) e (i + 1) nand bad
    | 10 =>
      let take : Bool := match w / 2 ^ 56 % 16 with
        | 0 => true
        | 1 => decide (0 < d.fld Fld.CEL_RETRY_MAX)
        | 2 => bad
        | _ => false
      seqRun ch lun n d e (if take then b else i + 1) nand bad
    | _ => (6, nand, [], d)

/-- CEL_L_RAW_STATUS of an agent. -/
def rawResult (d : Device) (agent res nand : Nat) : Device :=
  d.setReg Reg.CEL_L_RAW_STATUS (BitVec.ofNat 32 (nand % 256 * 256 + res % 256)) agent

/-- Fill the raw buffer of an agent. -/
def rawFill (d : Device) (agent : Nat) : Nat → List Byte → Device
  | 0, _ => d
  | n + 1, bs =>
    if bs.isEmpty then d
    else rawFill (d.setReg (Reg.CEL_L_RAW_BUF + 4 * (4096 - (n + 1))) (BitVec.ofNat 32 (leNat (bs.take 4))) agent) agent n (bs.drop 4)

/-- A write of CEL_L_RAW_CMD.GO (R348, R349, R357, R363); a raw program sends the page buffer. -/
def rawGo (d : Device) (agent : Nat) (e : RawEnv) : Device :=
  let ch := d.fld Fld.CEL_CHSEL_CH agent
  let lun := d.fld Fld.CEL_LUNSEL_LUN agent
  let seq := d.fld Fld.CEL_L_RAW_CMD_SEQ agent
  let b := d.fld Fld.CEL_L_RAW_CMD_BLOCK agent
  let page := d.fld Fld.CEL_L_RAW_PAGE_PAGE agent
  let ent := (AMap.find? d.cel.mseq.dir (64 * (ch / 32) + seq)).getD 0
  let prog := seq == 4 || seq == 7 || seq == 0x11 || seq == 0x12 || natBit ent 19
  let slc := seq == 7 || seq == 0x12 || (seq != 4 && seq != 0x11 && (d.blk ch lun b).slc)
  if d.lunState ch lun = 0 then d
  else if !d.flag Fld.CEL_CTRL_RAW_EN then d.rawResult agent 5 0
  else if d.lunState ch lun = 3 then d.rawResult agent 7 0
  else if ent = 0 then d.rawResult agent 6 0
  else if prog && !d.programOk ch lun b page slc then (d.refuseProgram ch lun b page).rawResult agent 1 0
  else if natBit ent 18 && !d.erasable ch lun b then d.rawResult agent 2 0
  else
    let (res, nand, bs, d) := seqRun ch lun 4096 d e (ent / 2 ^ 20) 0 false
    let d := d.rawFill agent 4096 bs
    let d := if prog && res == 0 then
        d.emit (.media (ch * 2 ^ 32 + lun * 2 ^ 25 + b * 2 ^ d.ppbLog2 + page) []
          ((List.range 4096).map (fun i => leBytes 4 (d.reg (Reg.CEL_L_RAW_BUF + 4 * i) agent).toNat)).flatten)
      else d
    let d := if prog then (if res = 0 then d.programmed ch lun b (d.blk ch lun b).sb slc else if res = 4 then d.retireBlk ch lun b else d) else d
    let d := if natBit ent 18 then (if res = 0 then d.erased ch lun b none else if res = 4 then d.retireBlk ch lun b else d) else d
    d.rawResult agent res nand

/-- Whether a member of a page's row other than the page's own cannot be read (R362): its volume is isolated. -/
def rowCut (d : Device) (ch lun : Nat) : Bool := (List.range 16).any (fun i => 16 * (ch / 16) + i != ch && d.lunState (16 * (ch / 16) + i) lun == 3)

/-- Whether a block may be opened: a free block is taken lowest erase count first within its LUN (R359); blocks that the table does not list have
none. -/
def freeFirst (d : Device) (ch lun b : Nat) : Bool :=
  let x := d.blk ch lun b
  let here := d.cel.blocks.filter (fun (p : Nat × Blk) => p.1 / 1048576 == lunKey ch lun)
  decide (x.state ≠ .erased) || x.erases == 0 ||
    (decide (d.nandGeom.blocks ≤ here.length) && here.all (fun p => decide (p.2.state ≠ .erased) || decide (x.erases ≤ p.2.erases)))

end Device

/-! ### Commands -/

/-- A NAND program of page `page` completes for superblock `sb`, or fails (R341, R347, R348, R354). -/
def execCellarProgramDone (ch lun block page sb : Nat) (slc ok : Bool) (s : State) : Host.Outcome State Fault Refusal :=
  s.run (fun d =>
    if d.lunState ch lun ≠ 1 ∨ !d.freeFirst ch lun block then d
    else if !d.programOk ch lun block page slc then ((d.refuseProgram ch lun block page).failRow sb page).reevalAdmit
    else if ok then ((d.programmed ch lun block sb slc).notePage ch lun block page sb).endOp ch lun
    else (((d.failRow sb page).retireBlk ch lun block).endOp ch lun).reevalAdmit)

/-- An open row of a superblock has had no new rack for 100 µs (R341): its free slots are programmed as pad pages,
then its parity page. -/
def execRowPadTimeout (sb : Nat) (s : State) : Host.Outcome State Fault Refusal :=
  s.run (fun d => match d.cel.supers.find? sb with
    | none => d
    | some x =>
      let ms := d.cel.blocks.filter (fun (p : Nat × Blk) => p.2.sb == sb && (p.2.state == .opened || p.2.state == .full))
      let top := ms.foldl (fun (a : Nat) (p : Nat × Blk) => max a p.2.wp) 0
      let low := ms.filter (fun (p : Nat × Blk) => decide (p.2.wp < top))
      if low.isEmpty then d
      else
        let d := d.waitUntil (x.rackAt + 100)
        let left := (low.map (fun (p : Nat × Blk) => (List.range (top - p.2.wp)).map (fun i => (p.1, p.2.wp + i)))).flatten
        let parity (w : Nat × Nat) : Bool := w.1 / 134217728 % 16 == w.2 % 16
        let d := (left.filter (fun w => !parity w) ++ left.filter parity).foldl (fun (d : Device) (w : Nat × Nat) =>
          let ch := w.1 / 134217728
          let lun := w.1 / 1048576 % 128
          (if parity w then d.putParity ch lun (w.1 % 1048576) w.2 sb
           else d.putPad (ch * 2 ^ 32 + lun * 2 ^ 25 + w.1 % 1048576 * 2 ^ d.ppbLog2 + w.2) sb).bumpPair Reg.CEL_PROG_CNT_LO) d
        low.foldl (fun (d : Device) (p : Nat × Blk) =>
          d.setCel { d.cel with blocks := d.cel.blocks.put p.1 { p.2 with wp := top, state := if top = d.blkPages p.2.slc then .full else .opened } }) d)

/-- A NAND read completes (R353): what each step of the ladder would give. `retry` is the lowest retry entry under which the page
decodes, 0 when none does; `bits` the corrected bits, `bin` the erase-count bin. `isRack`: the page is page `page` of a rack; one
whose header disagrees with the rack entry no step but the twin's recovers (R342). A page of an isolated volume is read by rebuild alone (R361),
and a row with another member that cannot be read is not rebuilt (R362). -/
def execCellarReadDone (ch lun bin bits : Nat) (hard offset : Bool) (retry : Nat) (soft rebuild isRack : Bool) (cask rack page : Nat) (s : State) :
    Host.Outcome State Fault Refusal :=
  s.run (fun d =>
    if d.lunState ch lun = 0 then d
    else
      let d := d.bumpPair Reg.CEL_READ_CNT_LO
      let key := 8 * Device.lunKey ch lun + bin % 8
      let k := rackKey cask rack
      let reloc (d : Device) : Device := if isRack then d.setCel { d.cel with reloc := nubNat (d.cel.reloc ++ [k]) } else d
      let two := decide (1 ≤ retry ∧ retry ≤ d.fld Fld.CEL_RETRY_MAX)
      let none := isRack && d.headBad cask rack page
      let bad := none || d.lunState ch lun != 1
      if !bad && (hard || offset) then d.noteNand key bits 0
      else if !bad && two then
        let d := (d.noteNand key bits retry).bumpSat Fld.CEL_C_ERR_RETRIES 1 ch
        if d.fld Fld.CEL_RETRY_RELOC ≤ retry then reloc d else d
      else if !bad && d.flag Fld.CEL_RETRY_SOFT_EN && soft then reloc ((d.noteNand key bits 0).bumpSat Fld.CEL_C_ERR_RETRIES 1 ch)
      else if !none && rebuild && !d.rowCut ch lun then reloc ((((d.noteNand key bits 0).bumpSat Fld.CEL_C_ERR_REBUILDS 1 ch).bumpPair Reg.CEL_REBUILD_CNT_LO).bumpPair Reg.CEL_READ_CNT_LO 15)
      else if !isRack then d.raise Reg.CEL_INT_STATUS 2 4
      else if d.mir.attached && !d.mir.absent then reloc ((d.ensureFrame cask rack).startFetchPage cask rack page true)
      else ((d.poisonPage cask rack page).raise Reg.CEL_INT_STATUS 2 4).settle)

/-- A block erase completes or fails (R349, R354). `vault`: 1 or 2 draws the block into the even or the odd generation. -/
def execBlockEraseDone (ch lun block vault : Nat) (ok : Bool) (s : State) : Host.Outcome State Fault Refusal :=
  s.run (fun d =>
    if d.lunState ch lun ≠ 1 ∨ !d.erasable ch lun block then d
    else (if ok then d.erased ch lun block (if vault = 1 ∨ vault = 2 then some (vault - 1) else none) else d.retireBlk ch lun block).endOp ch lun)

/-- An operation of level 4–6 has waited 20 ms (R351): it is raised to level 3. -/
def execOpAgeRaise (ch lun level : Nat) (s : State) : Host.Outcome State Fault Refusal :=
  s.run (fun d => if 4 ≤ level ∧ level ≤ 6 ∧ d.lunState ch lun = 1 ∧ d.hold.bottle.isNone then d.emit (.nand ch lun "RAISE" [level, 3]) else d)

/-- The core that manages the channels of a location's EDGE die: MC3 for EDGE-W, MC4 for EDGE-E (R17, R20). -/
def edgeCore (cptr : Nat) : Nat := if cptr / 2 ^ 32 % 64 < 32 then 3 else 4

/-- Whether a rack is moved now: it is queued for relocation or wear levelling, or garbage collection takes its superblock (R359). -/
def Device.moveTurn (d : Device) (k read : Nat) : Bool := d.cel.reloc.contains k || d.gcTurn (d.sbOf read)

/-- A move of a rack ends (R359): CPTR takes the new location when it still holds what the move read. The cores of both dies carry it
(R20). -/
def execGarbageCollect (cask rack read new : Nat) (s : State) : Host.Outcome State Fault Refusal :=
  s.run (fun d =>
    let r := d.rack cask rack
    let k := rackKey cask rack
    if !d.coreUp (edgeCore read) || !d.coreUp (edgeCore new) || r.wb || r.fetch || r.vault || !r.cvalid || !r.homed || decide (r.cptr ≠ read) || d.hold.bottle.isSome || d.mkeyMissing cask || !d.siteOk new || !d.moveTurn k read then d
    else
      let d := (((d.copyBytes (cellKey read 0) (cellKey new 0) 65536).mediaBytes 131072).putCopy cask rack new).putRack cask rack { r with cptr := new }
      (d.setCel { d.cel with reloc := d.cel.reloc.filter (fun x => decide (x ≠ k)), isoReloc := d.cel.isoReloc.filter (fun x => decide (x ≠ k)) }).bumpPair
        Reg.CEL_MOVE_CNT_LO)

/-- Scan reads of written pages (R359); what they find comes with CELLAR_READ_DONE. -/
def execCellarScan (ch lun pages : Nat) (s : State) : Host.Outcome State Fault Refusal :=
  s.run (fun d =>
    if d.lunState ch lun ≠ 1 ∨ d.hold.bottle.isSome ∨ !d.coreUp (if ch < 32 then 3 else 4) then d
    else (d.setCel { d.cel with scanned := d.cel.scanned + pages }).bumpPair Reg.CEL_READ_CNT_LO pages)

/-- The erase counters, and the offset table with them, are written to the cellar (R359, R482). -/
def execEraseCountCheckpoint (s : State) : Host.Outcome State Fault Refusal :=
  s.run (fun d => if d.hubOn then d.checkpoint else d)

/-- A WAITRDY step times out (R360): whether the LUN is ready after its reset, whether every LUN of the volume is after the
volume's, and whether any LUN of the channel answers. -/
def execWaitrdyTimeout (ch lun : Nat) (lunReady volReady allDead : Bool) (s : State) : Host.Outcome State Fault Refusal :=
  s.run (fun d =>
    if d.lunState ch lun ≠ 1 then d
    else
      let d := (d.bumpSat Fld.CEL_C_ERR_HANGS 1 ch).raise Reg.CEL_INT_STATUS 0 3
      if allDead then (((d.cel.pop.filter (fun v => v.ch == ch)).map (·.vol))).foldl (fun (d : Device) v => d.isolateVol ch v) d
      else
        let again : Bool := match d.cel.hungAt.find? (Device.lunKey ch lun) with
          | some t => decide (d.now < t + 1000000)
          | none => false
        let d := (d.setCel { d.cel with hungAt := d.cel.hungAt.put (Device.lunKey ch lun) d.now }).bumpSat Fld.CEL_L_STATUS_RESETS 1 (Device.lunKey ch lun)
        let d := d.emit (.nand ch lun "RESET_LUN" [])
        if lunReady && !again then d.emit (.nand ch lun "REISSUE" [])
        else
          let d := (d.emit (.nand ch lun "RESET_VOLUME" [lun / 8])).bumpSat Fld.CEL_L_STATUS_RESETS 1 (Device.lunKey ch lun)
          if volReady then d.emit (.nand ch lun "REISSUE" []) else d.isolateVol ch (lun / 8))

end Sys2Proof.Machine
end

