-- ==== Sys2Proof/Machine/TrlCmds.lean ====
section
/-! DEFINITION. The Trellis commands: arriving frames, the timers of a port, formation and loss of a device (R486–R502). -/

namespace Sys2Proof.Machine
namespace Device

def trlBlk : Nat := Reg.TRL_CFG / 65536

/-- Whether the Trellis ports have power (R486). -/
def trlOn (d : Device) : Bool := d.hubOn && d.trl.mode != 0

def trlPortUp (d : Device) (p : Nat) : Bool :=
  match d.trl.ports.find? p with
  | some x => x.up && !x.held
  | none => false

/-- Send every frame again that no ACK covers, in PSEQ order, to the devices that `p` picks (R490). -/
def trlResend (d : Device) (p : Nat → Bool) : Device :=
  let own := ((d.others.filter p).map (fun i => (d.trlDev i).unacked)).flatten
  let fs := own ++ d.trl.bcSent.map (fun (q : TrlFrame × List Nat) => q.1)
  fs.foldl (fun (d : Device) f => (d.trlDrive f).bumpPair Reg.TRL_RESENT_LO) d

/-- What a frame carries behind its route header. -/
structure TrlBody where
  kind : String
  args : List Nat
  recs : List WireRec := []
  bytes : List Byte := []

/-- A frame that is not for this device, or not for it alone, goes on around the ring with HOPS less by one (R489, R490). -/
def trlForward (d : Device) (f : TrlIn) (b : TrlBody) : Device :=
  let p := f.port / 2 * 2 + (1 - f.port % 2)
  if f.hops = 0 ∨ f.dest = d.trl.id ∨ !d.trlPortUp p then d else d.trlOut p b.kind f.dest f.src (f.hops - 1) f.pseq b.args b.recs b.bytes

/-- ARG0 and ARG1 of STATUS (R489): dirty bytes in pages; C and ESR. -/
def statusArgs (dirty cMf esr : Nat) : List Nat := [4096 * dirty, cMf * 2 ^ 32 + esr]

/-- READ (R489, R495): a request or the data that answers one. -/
def readBody (snap tag : Nat) : TrlReadBody → TrlBody
  | .ask cask off len source => { kind := "READ", args := [snap, tag], bytes := readAsk cask off len source }
  | .data pos status bytes => { kind := "READ_DATA", args := readDataArgs pos status tag, bytes := bytes }

/-- The port of a frame has been heard (R491). -/
def heardPort (d : Device) (p : Nat) : Device :=
  match d.trl.ports.find? p with
  | some x => d.setTrl { d.trl with ports := d.trl.ports.put p { x with lastAt := d.now } }
  | none => d

/-- The port and the sender of a frame have been heard, and the frame goes on around the ring (R489–R491). -/
def trlHeard (d : Device) (f : TrlIn) (b : TrlBody) : Device :=
  ((d.heardPort f.port).trlForward f b).updDev f.src (fun x => { x with lastAt := d.now, lost := false })

/-- Whether a frame reaches this cascade device at all: power, its port, its CRC and its sender. -/
def trlReaches (d : Device) (f : TrlIn) : Bool := d.trlOn && d.trlPortUp f.port && f.crc && f.src != d.trl.id && decide (f.src < d.trl.n)

/-- The device that takes a frame, once it has been heard (R490): one already delivered is dropped, and one that comes before its predecessors
waits for them to be sent again. -/
def trlNext (d : Device) (f : TrlIn) (kind : String) : Option Device :=
  if trlFresh kind then some d
  else if f.dest = 255 then
    if f.pseq = (d.trl.bcRx.find? f.src).getD 0 + 1 then some (d.setTrl { d.trl with bcRx := d.trl.bcRx.put f.src f.pseq }) else none
  else if f.pseq = (d.trlDev f.src).rxSeq + 1 then some (d.updDev f.src (fun x => { x with rxSeq := f.pseq }))
  else none

/-- A frame arrives (R489–R491): one whose CRC fails, or with a poisoned word in its cells (log 31), is not taken, and one that finds no cells
is discarded (R237); the port and the sender have been heard; a frame for another device goes on; `act` runs on one that is taken. -/
def trlTake (d : Device) (f : TrlIn) (b : TrlBody) (act : Device → Device) : Device :=
  let qn := 0x43 + 2 * f.port
  if !d.trlReaches f then d
  else if d.qmg.bad.contains qn then (d.passing qn).2
  else if !d.mayReserve qn frameMax (0x420 + f.port) then d.refuseCells qn frameMax
  else if f.dest ≠ d.trl.id ∧ f.dest ≠ 255 then (d.heardPort f.port).trlForward f b
  else match (d.trlHeard f b).trlNext f b.kind with
    | some e => act e
    | none => d.trlHeard f b

/-- A port goes down and retrains (R491): what it carried is sent again on the other path (R490). -/
def trlFail (d : Device) (p : Nat) : Device :=
  let before (i : Nat) : Bool := d.trlPort i == some p
  let hit := d.others.filter before
  let d := (d.trlPortDown p).raise Reg.TRL_INT_STATUS 1 3
  let d := d.bumpSat { Fld.TRL_PORT0_RETRAINS with reg := Fld.TRL_PORT0_RETRAINS.reg + 4 * p }
  d.trlResend (fun i => hit.contains i)

/-- A HELLO disagreed: the port is held down (R488). -/
def trlMismatch (d : Device) (p : Nat) : Device :=
  let d := d.trlFail p
  let d := match d.trl.ports.find? p with
    | some x => d.setTrl { d.trl with ports := d.trl.ports.put p { x with held := true } }
    | none => d
  d.raise Reg.TRL_INT_STATUS 3 7

/-- The device is formed once an agreeing HELLO has come from every other one (R488); resolution begins (R501). -/
def formGo (d : Device) : Device :=
  if d.trl.formed || !d.others.all (fun i => (d.trlDev i).seen) then d
  else
    let d := (d.setTrl { d.trl with formed := true }).raise Reg.TRL_INT_STATUS 0 2
    let d := d.trl.ports.foldl (fun (d : Device) (p : Nat × TrlPort) => d.openOnce (0x8C00 + p.1) 3 (0x420 + p.1)) d      -- R235
    if (d.rst.phase = 4 ∨ d.rst.phase = 9) ∧ !d.rst.resolved then d.sendResolve else d

/-- A record that another device sent joins this device's part of vintage `n` (R493, R494): the open one, or one that is
closing here or not open yet. -/
def takePart (d : Device) (n : Nat) (r : VRecord) : Device :=
  let d : Device := { d with adm := { d.adm with pend := d.adm.pend + r.charge } }
  if n = d.pst.nextNum ∧ d.pst.numValid then d.appendRec r
  else d.setTrl { d.trl with closing := d.trl.closing.put n (((d.trl.closing.find? n).getD []) ++ [r]) }

/-- The role of the cascade as LEASE gives it (R497, R498). -/
def takeRole (d : Device) (r : Role) (start : Nat) : Device :=
  let at_ := (start + 2 ^ 64 - d.trl.timeOff) % 2 ^ 64 / 1000
  match r with
  | .fenced => d.enterFenced 5
  | .active | .solo =>
    let solo : Bool := r == .solo
    if d.noLease then d
    else if d.mir.role = r then d.startLease at_
    else if d.placesWrites then
      if solo then (d.startLease at_).becomeSolo else ((d.startLease at_).setRole .active).setMir { ((d.startLease at_).setRole .active).mir with attached := true, absent := false }
    else
      let d := (d.startLease at_).setRole r
      (d.setMir { d.mir with absent := solo || d.mir.absent, attached := !solo && d.mir.attached }).takeService solo
  | .standby => if d.placesWrites then (d.becomeStandby.fenceWaiting).fenceFences else if d.mir.role = .standby then d else d.becomeStandby
  | r => if d.placesWrites then d else d.setRole r

/-- A CTRL frame (R494, R497, R498, R501, R502); the manual does not number its actions (log 19). -/
def takeCtrl (d : Device) (src action arg : Nat) (nums : List (Nat × Bool)) : Device :=
  let atMaster := d.cascadeMaster
  let fromMaster := src == 0
  if action = ctlBoundary ∧ atMaster then d.vclkBoundary
  else if action = ctlAbsent ∧ atMaster then d.declareAbsent
  else if action = ctlAsk ∧ fromMaster then d.trlSend 0 "CTRL" [ctlAnswer, d.pwrCheck arg]
  else if action = ctlAnswer ∧ atMaster then d.pwrAnswer src arg
  else if action = ctlEnter ∧ fromMaster then d.pwrBegin arg
  else if action = ctlReset ∧ fromMaster then d.resetRequest (arg % 16) (arg / 16)
  else if action = ctlSynced ∧ atMaster then (d.updDev src (fun x => { x with synced := true })).syncedOut
  else if action = ctlFenced ∧ atMaster then d.enterFenced 5
  else if action = ctlReport ∧ atMaster then
    let d := d.updDev src (fun x => { x with report := some (arg, nums) })
    if (d.rst.phase = 4 ∨ d.rst.phase = 9) ∧ !d.rst.resolved then d.sendResolve else d
  else if action = ctlStand ∧ fromMaster ∧ !d.rst.resolved then
    d.endResolve (arg / 2) (arg / 2) (fun n => nums.any (fun q => q.1 == n)) (arg % 2 == 1)
  else d

end Device

/-! ### Frames -/

/-- TRL_HELLO (R488): the fields that R486 requires to agree, and the sender's capacity (log 19). -/
def execTrlHello (f : TrlIn) (mode n stripe : Nat) (shared : Bool) (pair cap : Nat) (s : State) : Host.Outcome State Fault Refusal :=
  s.run (fun d =>
    let agrees := mode == d.trl.mode && n == d.trl.n && stripe == d.trl.stripe && shared == d.flag Fld.TRL_CFG_SHARED_BANK
      && pair == d.pair Reg.MIR_PAIR_LO && decide (f.src < d.trl.n) && f.src != d.trl.id
    if d.trlOn && d.trlPortUp f.port && f.crc && !agrees then d.trlMismatch f.port
    else d.trlTake f { kind := "HELLO", args := helloArgs mode n stripe shared pair cap } (fun d => ((d.updDev f.src (fun x => { x with seen := true, cap := cap })).formGo).settle))

/-- TRL_ACK (R490): frames to the sender up to `upTo` are released; a broadcast once every other device has sent an ACK (log 19). -/
def execTrlAck (f : TrlIn) (upTo : Nat) (s : State) : Host.Outcome State Fault Refusal :=
  s.run (fun d => d.trlTake f { kind := "ACK", args := [upTo, 0] } (fun d =>
    let d := d.updDev f.src (fun x => { x with unacked := x.unacked.filter (fun y => decide (upTo < y.pseq)) })
    let left := d.trl.bcSent.map (fun (p : TrlFrame × List Nat) => (p.1, p.2.filter (fun i => decide (i ≠ f.src))))
    d.setTrl { d.trl with bcSent := left.filter (fun (p : TrlFrame × List Nat) => !p.2.isEmpty) }))

/-- TRL_TIME (R491): the master's cascade time in ns, and the offset from it that the hardware measured before it aligned. -/
def execTrlTime (f : TrlIn) (t err : Nat) (s : State) : Host.Outcome State Fault Refusal :=
  s.run (fun d => d.trlTake f { kind := "TIME", args := [t, 0] } (fun d =>
    if f.src ≠ 0 then d
    else
      let d := d.setTrl { d.trl with timeOff := (t + 2 ^ 64 - 1000 * d.now % 2 ^ 64) % 2 ^ 64 }
      let d := d.setFld Fld.TRL_TIME_ERR_NS (max (d.fld Fld.TRL_TIME_ERR_NS) (min err 65535))
      if 50 < err then d.raise Reg.TRL_INT_STATUS 4 4 else d))

/-- TRL_VCLK (R494). -/
def execTrlVclk (f : TrlIn) (n : Nat) (s : State) : Host.Outcome State Fault Refusal :=
  s.run (fun d => d.trlTake f { kind := "VCLK", args := [n, 0] } (fun d => if f.src = 0 ∧ d.cascadeShared then (d.closeVint n).settle else d))

/-- TRL_MARK (R494 step 3). -/
def execTrlMark (f : TrlIn) (n : Nat) (s : State) : Host.Outcome State Fault Refusal :=
  s.run (fun d => d.trlTake f { kind := "MARK", args := [n, 0] } (fun d =>
    let d := d.updDev f.src (fun x => { x with markN := max x.markN n })
    if d.cascadeShared then (Device.sealClosed (d.trl.closing.length + 1) d).settle else d))

/-- TRL_SEALED (R495): the highest vintage sealed there, the highest its twin acknowledged, and how far the COMMIT it received lies below. -/
def execTrlSealed (f : TrlIn) (n acked dist : Nat) (s : State) : Host.Outcome State Fault Refusal :=
  s.run (fun d => d.trlTake f { kind := "SEALED", args := [n, acked * 2 ^ 32 + dist] } (fun d =>
    let d := d.updDev f.src (fun x => { x with sealedN := max x.sealedN n, ackedN := max x.ackedN acked, commitN := max x.commitN (n - dist) })
    if d.cascadeShared && d.cascadeMaster then d.decideCommit.settle else d))

/-- TRL_COMMIT (R495). -/
def execTrlCommit (f : TrlIn) (n m : Nat) (s : State) : Host.Outcome State Fault Refusal :=
  s.run (fun d => d.trlTake f { kind := "COMMIT", args := [n, m] } (fun d =>
    if f.src = 0 ∧ d.cascadeShared then ((d.takeCommit n m).reportSealed).settle else d))

/-- TRL_PIECE (R493): a record of vintage `n` for this device; an atomic is evaluated here and answered (log 19). -/
def execTrlPiece (f : TrlIn) (n source : Nat) (rec : WireRec) (atom : Option TrlAtomic) (s : State) : Host.Outcome State Fault Refusal :=
  s.run (fun d => d.trlTake f { kind := "PIECE", args := [n, source], recs := [rec], bytes := recordBytes rec ++ atomBytes atom } (fun d =>
    if !d.cascadeShared then d
    else
      let op : WriteOp := match atom with
        | some a => if a.cas then .cas a.width a.arg a.swap else .fadd a.arg
        | none => if rec.zero then .zero rec.len else .data rec.bytes
      let r : WriteReq := { src := .remote f.src source, tok := .none, path := .device, acc := .write, cask := rec.cask, off := rec.off, op := op, more := .data [],
                            policy := rec.policy, heldAt := d.now }
      let v := d.recordOf r
      let d := d.takePart n v
      (match atom with
        | some a => d.trlSend f.src "READ_DATA" (readDataArgs 0 stOk a.tag) [] (leBytes 16 v.result)
        | none => d).settle))

/-- TRL_READ (R493, R495): a part of a read at snapshot `snap`, or data for a part asked for with `tag`. -/
def execTrlRead (f : TrlIn) (snap tag : Nat) (body : TrlReadBody) (s : State) : Host.Outcome State Fault Refusal :=
  s.run (fun d => d.trlTake f (Device.readBody snap tag body) (fun d =>
    match body with
    | .ask cask off len source =>
      let r : ReadReq := { src := .remote f.src source, tok := .trl f.src tag, cask := cask, off := off, len := len, snap := snap, use := .trlResp f.src tag,
                           data := d.readBytes (.remote f.src source) snap cask off len,
                           redo := (List.range len).filter (fun i => d.pageRefetch cask ((off + i) / 65536) ((off + i) % 65536 / 4096)) }
      if d.cascadeShared then (d.tryRead r).settle else d
    | .data pos st bytes =>
      match d.trl.atoms.find? tag with
      | some (_, tok) =>
        let d := d.setTrl { d.trl with atoms := d.trl.atoms.del tag, wait := d.trl.wait.map (fun (p : Nat × VRecord) =>
          if p.2.tok = tok then (p.1, { p.2 with result := leNat bytes }) else p) }
        d.releaseRemote.settle
      | none => match d.trl.reads.find? tag with
        | none => d
        | some r =>
          let got := Device.spliceBytes r.data pos bytes
          if st ≠ stOk then ((d.setTrl { d.trl with reads := d.trl.reads.del tag }).deliverBytes r [] true).settle
          else if got.length < r.len then d.setTrl { d.trl with reads := d.trl.reads.put tag { r with data := got } }
          else ((d.setTrl { d.trl with reads := d.trl.reads.del tag }).deliverBytes r got false).settle))

/-- TRL_LEASE (R497, R498): the lease's start in cascade time, the epoch and the cascade's role. -/
def execTrlLease (f : TrlIn) (start epoch role : Nat) (s : State) : Host.Outcome State Fault Refusal :=
  s.run (fun d => d.trlTake f { kind := "LEASE", args := [start, epoch * 2 ^ 32 + role] } (fun d =>
    if f.src ≠ 0 ∨ epoch < d.mir.epoch then d
    else
      let d := d.setMir { d.mir with epoch := epoch, chainOpen := d.mir.chainOpen || decide (d.mir.epoch < epoch) }
      (d.takeRole (roleOf role) start).settle))

/-- TRL_STATUS (R496, R500): the sender's dirty pages, C in mF, ESR in µΩ and budget block. -/
def execTrlStatus (f : TrlIn) (dirty cMf esr dirtyPages limit high freeKib wbRate admState : Nat) (s : State) : Host.Outcome State Fault Refusal :=
  let b : Budget := { dirtyPages := dirtyPages, limit := limit, high := high, freeKib := freeKib, wbRate := wbRate, admState := admState }
  s.run (fun d => d.trlTake f { kind := "STATUS", args := Device.statusArgs dirty cMf esr, bytes := budgetBytes b } (fun d =>
    let d := d.updDev f.src (fun x => { x with dirty := dirty, cMf := cMf, esr := esr, budget := some b, statusAt := d.now })
    let d := if f.src = 0 ∧ d.flag Fld.TRL_CFG_SHARED_BANK ∧ cMf ≠ 0 then
        let d := (d.setFld Fld.SUP_HU_MEAS_C_C_MF cMf).setFld Fld.SUP_HU_MEAS_C_VALID 1
        (d.setFld Fld.SUP_HU_MEAS_ESR_ESR_UOHM esr).setFld Fld.SUP_HU_MEAS_ESR_VALID 1
      else d
    d.reevalAdmit.settle))

/-- TRL_META (R493): a metadata record of vintage `n`; `home` is the home of a cask that it creates (R492). -/
def execTrlMeta (f : TrlIn) (n : Nat) (op : MetaOp) (home : Nat) (s : State) : Host.Outcome State Fault Refusal :=
  s.run (fun d => d.trlTake f { kind := "META", args := [n, home], recs := [metaRec op false], bytes := recordBytes (metaRec op false) } (fun d =>
    if f.src ≠ 0 ∨ !d.cascadeShared then d
    else
      let d := match op with
        | .caskCreate id _ => if d.trl.mode = 2 then d.putHome id home else d
        | _ => d
      (d.takePart n { src := .device, tok := .none, wire := metaRec op false, result := 0, charge := 0, size := 64, released := false }).settle))

/-- TRL_CTRL (R494, R497, R498, R501, R502): an action, its argument, and a list of vintages for the actions that carry one (log 19). -/
def execTrlCtrl (f : TrlIn) (action arg : Nat) (nums : List (Nat × Bool)) (s : State) : Host.Outcome State Fault Refusal :=
  s.run (fun d => d.trlTake f { kind := "CTRL", args := [action, arg], bytes := ctlBytes nums } (fun d => (d.takeCtrl f.src action arg nums).settle))

/-! ### Timers and ports -/

/-- Every 1 ms a trained port sends HELLO (R488). -/
def execTrlHelloTimer (port : Nat) (s : State) : Host.Outcome State Fault Refusal :=
  s.run (fun d =>
    if d.trlOn && d.trlPortUp port then
      d.trlOut port "HELLO" 255 d.trl.id (d.trl.n - 1) d.trl.bcSeq
        (helloArgs d.trl.mode d.trl.n d.trl.stripe (d.flag Fld.TRL_CFG_SHARED_BANK) (d.pair Reg.MIR_PAIR_LO) d.csk.capRacks) [] []
    else d)

/-- Every 2 µs an ACK goes to each device (R490); the STATUS of R496 goes with it (log 19). -/
def execTrlAckTimer (s : State) : Host.Outcome State Fault Refusal :=
  s.run (fun d =>
    if !d.trlOn then d
    else
      let d := d.others.foldl (fun (d : Device) i => if (d.trlDev i).seen then d.trlSend i "ACK" [(d.trlDev i).rxSeq, 0] else d) d
      if d.trl.formed then
        d.trlSend 255 "STATUS" (Device.statusArgs d.dirtyPages (d.fld Fld.SUP_HU_MEAS_C_C_MF) (d.fld Fld.SUP_HU_MEAS_ESR_ESR_UOHM)) []
          (budgetBytes d.budgetBlock)
      else d)

/-- Every 100 µs the master broadcasts TIME (R491). -/
def execTrlTimeTimer (s : State) : Host.Outcome State Fault Refusal :=
  s.run (fun d => if d.trlOn && d.cascadeMaster then d.trlSend 255 "TIME" [d.cascadeTime, 0] else d)

/-- FORM_S has passed and the device has not formed (R488). -/
def execTrlFormTimeout (s : State) : Host.Outcome State Fault Refusal :=
  s.run (fun d =>
    if d.trlOn && !d.trl.formed && !d.trl.late then
      let d := d.waitUntil (d.trl.startAt + 1000000 * d.fld Fld.TRL_TIMERS_FORM_S)
      (d.setTrl { d.trl with late := true }).eventR 5 Device.trlBlk 488
    else d)

/-- No frame has passed its CRC on a port for 200 µs (R491). -/
def execTrlPortDown (port : Nat) (s : State) : Host.Outcome State Fault Refusal :=
  s.run (fun d => match d.trl.ports.find? port with
    | some p => if d.trlOn && p.up then (d.waitUntil (p.lastAt + 200)).trlFail port else d
    | none => d)

/-- No frame has arrived from a device on any path for LOST_US (R491, R498). -/
def execTrlDeviceLost (dev : Nat) (s : State) : Host.Outcome State Fault Refusal :=
  s.run (fun d =>
    let x := d.trlDev dev
    if d.trlOn && d.trl.formed && d.others.contains dev && !x.lost then
      let d := d.waitUntil (x.lastAt + d.fld Fld.TRL_TIMERS_LOST_US)
      let d := (d.updDev dev (fun x => { x with lost := true })).raise Reg.TRL_INT_STATUS 2 5
      (if d.cascadeMaster then d.enterFenced 5 else d).reevalAdmit.settle
    else d)

/-- A port finishes training (R491); `peer`: the far device. Frames that had no path are sent again. A port held down stays down
(R488). -/
def execTrlPortUp (port peer : Nat) (s : State) : Host.Outcome State Fault Refusal :=
  s.run (fun d =>
    let held : Bool := match d.trl.ports.find? port with
      | some p => p.held || p.up
      | none => false
    if !d.trlOn || decide (4 ≤ port) || held || !d.sup.plls.contains 3 then d
    else
      let cut := d.others.filter (fun i => (d.trlPort i).isNone)
      let d := d.setTrl { d.trl with ports := d.trl.ports.put port { up := true, peer := peer % 8, lastAt := d.now, held := false, txLseq := (d.trl.ports.find? port).elim 0 (·.txLseq) } }
      d.trlResend (fun i => cut.contains i))

end Sys2Proof.Machine
end

