-- ==== Sys2Proof/Machine/RegRead.lean ====
section
/-! DEFINITION. Reading the registers (R8–R10, R64, R220, R241, R330, R363, R387, R416, R533–R540, R545, R550): which instance an
access reaches, the live value of a field that reports state, and what a read changes. -/

namespace Sys2Proof.Machine
namespace Device

/-! ### Agents and windows (R534–R537) -/

/-- The registers that SUP serves while HUB is unpowered (R534, last column). -/
def servedBySup (off : Nat) : Bool :=
  staysPowered off || off == Reg.GEN_ID0 || off == Reg.GEN_ID1 || off == Reg.GEN_SERIAL_LO || off == Reg.GEN_SERIAL_HI || off == Reg.GEN_STATUS
    || off == Reg.DRM_POP || off == Reg.CEL_POP || off == Reg.CEL_MSEQ_STATUS

/-- Whether an offset lies in the register blocks (R533). -/
def inBlocks (off : Nat) : Bool := decide (off < 0xF0000)

/-- What stands between an agent and a register: 0 nothing; 1 UNREACHABLE and 2 ALIGN of R543; 4 not an agent at all. Agent 1,024 is the
I3C/SMBus port; the others are admin-capable PFs (R535). -/
def reach (d : Device) (agent off : Nat) : Nat :=
  if agent = 1024 then
    if !d.sup.supOn then 4
    else if off % 4 ≠ 0 ∨ 67108864 ≤ off ∨ !inBlocks off then 2
    else if !d.hubOn && !servedBySup off then 1
    else 0
  else if d.hubOn && d.isAdmin agent then 0 else 4

/-- Whether a DRAM channel has a module (R330). -/
def dramPopulated (d : Device) (c : Nat) : Bool := d.drm.dimms.any (fun m => m.ch == c)

/-- The LUN that an agent's cellar selects name (R363). -/
def lunSel (d : Device) (agent : Nat) : Nat := lunKey (d.fld Fld.CEL_CHSEL_CH agent) (d.fld Fld.CEL_LUNSEL_LUN agent)

/-- The instance that an agent's access to a register reaches; none: it does not exist, is unpopulated or is retired, so that it reads
zero and takes no write (R220, R241, R330, R363, R537). The retired DRAM channel shows its status (DRM_CH_STATUS, log 28). `own`: a
function's own page (R198, R535). -/
def winInst (d : Device) (agent off : Nat) (r : RegSpec) (own : Bool) : Option Nat :=
  match r.win with
  | .dev => some 0
  | .agent =>
    if off / 256 = 0x802 ∨ 0x84000 ≤ off ∧ off < 0x88000 then
      (if d.lunState (d.fld Fld.CEL_CHSEL_CH agent) (d.fld Fld.CEL_LUNSEL_LUN agent) = 0 then none else some agent)
    else some agent
  | .fn =>
    let f := if own then agent else d.fld Fld.HRG_FSEL_FN agent
    if d.fnExists f then some f else none
  | .qmq =>
    let q := d.fld Fld.QMG_QSEL_QMQ agent
    if (d.queue q).state = 0 then none else some q
  | .port => some (d.fld Fld.NET_PSEL_PORT agent)
  | .dch =>
    let c := d.fld Fld.DRM_CHSEL_CH agent
    if !d.dramPopulated c then none
    else if d.fld Fld.DRM_CH_STATUS_STATE c = 3 ∧ off ≠ Reg.DRM_CH_STATUS then none
    else some c
  | .cch =>
    let c := d.fld Fld.CEL_CHSEL_CH agent
    if d.celChState c = 0 then none else some c
  | .lun => if d.lunState (d.fld Fld.CEL_CHSEL_CH agent) (d.fld Fld.CEL_LUNSEL_LUN agent) = 0 then none else some (d.lunSel agent)
  | .kslot => some (d.fld Fld.CPH_KSEL_SLOT agent)
  | .rail => some (d.fld Fld.SUP_RAILSEL_SLOT agent)

/-! ### Live values (R545) -/

/-- Fields laid over a word, each with its value. -/
def overlay (w : Word) (fs : List (Fld × Nat)) : Word := fs.foldl (fun (w : Word) (p : Fld × Nat) => bitsSet w p.1.hi p.1.lo p.2) w

/-- The 64-bit values that report live state, by the offset of their _LO word (R64, R129, R158). -/
def livePair (d : Device) (lo : Nat) : Option Nat :=
  if lo = Reg.CSK_CAP_RACKS_LO then some d.cascadeCap
  else if lo = Reg.CSK_ALLOC_RACKS_LO then some d.allocRacks
  else if lo = Reg.CSK_FRAMES_DATA_LO then some d.csk.frames
  else if lo = Reg.CSK_FRAMES_FREE_LO then some d.framesFree
  else if lo = Reg.CSK_FRAMES_PINNED_LO then some d.pinnedRacks
  else if lo = Reg.PST_VINT_OPEN_LO then some d.pst.nextNum
  else if lo = Reg.PST_VINT_SEALED_LO then some d.pst.sealedNum
  else if lo = Reg.PST_VINT_COMMIT_LO then some d.pst.commitNum
  else if lo = Reg.PST_VINT_APPLIED_LO then some d.pst.appliedNum
  else if lo = Reg.PST_VINT_RESV_LO then some d.pst.resv
  else if lo = Reg.PST_DB_USED_LO then some d.dirtyPages
  else if lo = Reg.PST_RST_RESOLVE_LO then some d.rst.vR
  else if lo = Reg.PST_RST_FILL_LEFT_LO then some d.fillLeftCount
  else if lo = Reg.PST_RST_VAULT_LEFT_E_LO then some (d.vaultLeft 0).length
  else if lo = Reg.PST_RST_VAULT_LEFT_O_LO then some (d.vaultLeft 1).length
  else none

/-- GEN_STATUS (R550). -/
def genStatus (d : Device) : Word :=
  overlay 0 [(Fld.GEN_STATUS_ROLE, if d.hubOn then roleNum d.mir.role else 0), (Fld.GEN_STATUS_ADMIT, if d.hubOn then admitNum d.adm.state else 2),
    (Fld.GEN_STATUS_SUPPLY, supplyNum d.hold.supply), (Fld.GEN_STATUS_RST_PHASE, if d.hubOn then d.rst.phase else 1),
    (Fld.GEN_STATUS_PWR, d.sup.cur), (Fld.GEN_STATUS_SVC_OK, b2n d.mir.svcOk), (Fld.GEN_STATUS_FW_TRIAL, b2n d.fws.trial),
    (Fld.GEN_STATUS_HUB_ON, b2n d.hubOn)]

/-- Live registers of QMG, HRG and CSK. -/
def liveHost (d : Device) (off inst : Nat) (w : Word) : Word :=
  let q := d.queue inst
  if off = Reg.QMG_FREE then BitVec.ofNat 32 d.freeCells
  else if Reg.QMG_USED0 ≤ off ∧ off ≤ Reg.QMG_USED4 then BitVec.ofNat 32 (d.classUsed ((off - Reg.QMG_USED0) / 4))
  else if off = Reg.QMG_RECLAIM then overlay w [(Fld.QMG_RECLAIM_BUSY, b2n (!d.qmg.reclaims.isEmpty))]
  else if off = Reg.QMG_Q_CFG then
    overlay 0 [(Fld.QMG_Q_CFG_STATE, if q.state = 1 ∧ d.qmg.reclaims.any (fun r => r.tag == q.owner) then 2 else q.state), (Fld.QMG_Q_CFG_CLASS, q.cls),
               (Fld.QMG_Q_CFG_OWNER, q.owner)]
  else if off = Reg.QMG_Q_CAP then BitVec.ofNat 32 (d.queueCap inst)
  else if off = Reg.QMG_Q_CELLS then BitVec.ofNat 32 (queueCells q)
  else if off = Reg.QMG_Q_PKTS then BitVec.ofNat 32 (queuePkts q)
  else if off = Reg.HRG_Q_TOTAL then overlay 0 [(Fld.HRG_Q_TOTAL_CQS, d.hrg.cqs.length), (Fld.HRG_Q_TOTAL_SQS, d.hrg.sqs.length)]
  else if off = Reg.HRG_FN_EVT_CAUSE ∨ off = Reg.HRG_FN_CFG then d.fnReg inst off
  else if off = Reg.CSK_GRANT_LIVE then BitVec.ofNat 32 (d.csk.grants.filter (fun p => p.2.state == .live)).length
  else if off = Reg.CSK_GRANT_QUAR then BitVec.ofNat 32 (d.csk.grants.filter (fun p => p.2.state == .quarantine)).length
  else if off = Reg.CSK_STREAMS then BitVec.ofNat 32 d.csk.streams.length
  else w

/-- Live registers of PST. -/
def livePst (d : Device) (off : Nat) (w : Word) : Word :=
  if off = Reg.PST_VINT_STATUS then
    overlay 0 [(Fld.PST_VINT_STATUS_NUM_VALID, b2n d.pst.numValid), (Fld.PST_VINT_STATUS_TWIN_ATTACHED, b2n (d.mir.role == .active && d.mir.attached)),
               (Fld.PST_VINT_STATUS_STAGE_WAIT, b2n (d.pst.placeWait.any (fun w => decide (stageCap < d.stageUsed + d.ownSize w)))), (Fld.PST_VINT_STATUS_PENDING, min d.sealedCount 65535)]
  else if off = Reg.PST_STAGE_USED then BitVec.ofNat 32 ((d.stageUsed + 1023) / 1024)
  else if off = Reg.PST_DB_LIMIT then BitVec.ofNat 32 d.dbLimit
  else if off = Reg.PST_ADMIT_STATUS then
    let stopped := d.adm.state == .stopped
    overlay 0 [(Fld.PST_ADMIT_STATUS_NO_PLAN_C, b2n (stopped && d.dbLimit == 0)), (Fld.PST_ADMIT_STATUS_VAULT_C, b2n (d.dbLimit == d.vaultCap)),
      (Fld.PST_ADMIT_STATUS_BOTTLE_C, b2n (stopped && d.hold.bottle.isSome)),
      (Fld.PST_ADMIT_STATUS_WARN_C, b2n (stopped && (d.hold.supply == .warn || d.hold.supply == .dwell))),
      (Fld.PST_ADMIT_STATUS_GUARD_C, b2n (stopped && d.guardOn)), (Fld.PST_ADMIT_STATUS_LIMIT_C, b2n (stopped && decide (d.dbLimit * 65536 ≤ d.dirtyD))),
      (Fld.PST_ADMIT_STATUS_STATE, admitNum d.adm.state)]
  else if off = Reg.PST_DB_PEND then BitVec.ofNat 32 (d.adm.pend / 4096)
  else if off = Reg.PST_WB_RATE then BitVec.ofNat 32 (d.wbRate / 1000)
  else if off = Reg.PST_RST_STATUS then
    overlay 0 [(Fld.PST_RST_STATUS_PHASE, d.rst.phase), (Fld.PST_RST_STATUS_SOURCE, d.rst.source), (Fld.PST_RST_STATUS_SRC_GEN, d.rst.srcGen),
      (Fld.PST_RST_STATUS_OLDER_REF, b2n d.rst.older), (Fld.PST_RST_STATUS_ALONE, b2n d.rst.alone), (Fld.PST_RST_STATUS_NO_ERASED, b2n d.targetGen.isNone),
      (Fld.PST_RST_STATUS_WAVE_PRI, d.rst.wavePri)]
  else w

/-- Live registers of MIR and TRL. MIR_ROLE.TWIN reads 0xF, unknown, until a STATUS has arrived, though its Reset column gives 0x0 (DESIGN
CHOICE, log 46). -/
def liveLinks (d : Device) (off : Nat) (w : Word) : Word :=
  if off = Reg.MIR_ROLE then
    overlay w [(Fld.MIR_ROLE_STATE, roleNum d.mir.role), (Fld.MIR_ROLE_TWIN, (d.mir.twinRole.map roleNum).getD 15), (Fld.MIR_ROLE_SOLO_PEND, b2n d.mir.soloPend),
      (Fld.MIR_ROLE_STALE, b2n d.mir.stale), (Fld.MIR_ROLE_FENCE_CAUSE, d.mir.fenceCause), (Fld.MIR_ROLE_HB_ARMED, b2n d.hbRuns)]
  else if off = Reg.MIR_EPOCH then BitVec.ofNat 32 d.mir.epoch
  else if off = Reg.MIR_LEASE then
    overlay 0 [(Fld.MIR_LEASE_RESULT, d.mir.lastResult), (Fld.MIR_LEASE_AGE_MS, if d.mir.leaseStart = 0 then 65535 else min ((d.now - d.mir.leaseStart) / 1000) 65535)]
  else if off = Reg.MIR_LINK_STATUS then
    overlay w [(Fld.MIR_LINK_STATUS_UP, b2n d.mir.linkUp), (Fld.MIR_LINK_STATUS_WIDTH, if d.mir.linkUp then widthCode d.mir.width else 0),
      (Fld.MIR_LINK_STATUS_LANE_OK, d.mir.lanes.toNat)]
  else if off = Reg.TRL_STATUS then
    let mask (p : TrlDev → Bool) : Nat := d.trl.devs.foldl (fun a (x : Nat × TrlDev) => if p x.2 then Nat.lor a (2 ^ x.1) else a) 0
    overlay 0 [(Fld.TRL_STATUS_FORMED, b2n d.trl.formed), (Fld.TRL_STATUS_MASTER, b2n d.cascadeMaster), (Fld.TRL_STATUS_ID, d.trl.id),
      (Fld.TRL_STATUS_SEEN, mask (·.seen)), (Fld.TRL_STATUS_LOST, mask (·.lost))]
  else if Reg.TRL_PORT0 ≤ off ∧ off ≤ Reg.TRL_PORT3 then
    match d.trl.ports.find? ((off - Reg.TRL_PORT0) / 4) with
    | some p => bitsSet (bitsSet w 31 31 (b2n p.up)) 30 28 p.peer
    | none => w
  else w

/-- Live registers of CEL and CPH. -/
def liveMedia (d : Device) (agent off inst : Nat) (w : Word) : Word :=
  let ofLun (p : Blk → Bool) : Nat := (d.cel.blocks.filter (fun (x : Nat × Blk) => x.1 / 1048576 == inst && p x.2)).length
  let b := d.blk (inst / 128) (inst % 128) (d.fld Fld.CEL_L_BLKSEL_BLOCK agent)
  if off = Reg.CEL_C_STATUS then
    overlay w [(Fld.CEL_C_STATUS_STATE, d.celChState inst),
      (Fld.CEL_C_STATUS_RELOC_PEND, b2n (d.cel.isoReloc.any (fun k => (d.rackChans ((d.csk.racks.find? k).getD Rack.blank).cptr).any (fun c => groupOf c == groupOf inst))))]
  else if off = Reg.CEL_L_STATUS then
    overlay w [(Fld.CEL_L_STATUS_STATE, d.lunState (inst / 128) (inst % 128)),
      (Fld.CEL_L_STATUS_BAD, min (ofLun (fun x => x.state == .retired || x.state == .bad)) 4095),
      (Fld.CEL_L_STATUS_FREE, min (d.fld Fld.CEL_GEOM2_BLOCKS - ofLun (fun x => x.state != .erased)) 4095)]
  else if off = Reg.CEL_L_BLK then
    let code := match (if d.blkFree b && b.state != .vault then BlkState.released else b.state) with
      | .erased => 0
      | .opened => 1
      | .full => 2
      | .released => 3
      | .vault => 4
      | .retired => 5
      | .bad => 6
    overlay 0 [(Fld.CEL_L_BLK_STATE, code), (Fld.CEL_L_BLK_SLC, b2n b.slc), (Fld.CEL_L_BLK_WP, b.wp)]
  else if off = Reg.CEL_L_BLK_ERASE then BitVec.ofNat 32 b.erases
  else if off = Reg.CPH_K_ATTR then
    if inst < 16 then overlay 0 [(Fld.CPH_K_ATTR_STATE, 3)]
    else overlay w [(Fld.CPH_K_ATTR_STATE, match d.cph.slots.find? inst with
      | some k => if k.pending then 2 else 1
      | none => 0)]
  else if off = Reg.CPH_K_KCV then
    if inst < 16 then 0
    else match d.keyLoaded inst with
      | some k => BitVec.ofNat 32 (Config.kcv (keyBytes k modeCmac)).toNat
      | none => 0
  else w

/-- Live registers of SUP. -/
def liveSup (d : Device) (agent off inst : Nat) (w : Word) : Word :=
  let r := d.rail inst
  if off = Reg.SUP_SEQ_STATUS then overlay w [(Fld.SUP_SEQ_STATUS_STATE, supStateNum d.seqState)]
  else if off = Reg.SUP_BTN then overlay w [(Fld.SUP_BTN_BTN, b2n d.sup.btn), (Fld.SUP_BTN_MRST, b2n d.sup.mrstN), (Fld.SUP_BTN_RST, b2n d.sup.rstN)]
  else if off = Reg.SUP_HV_MEAS then overlay 0 [(Fld.SUP_HV_MEAS_HVIN, d.sup.hvin), (Fld.SUP_HV_MEAS_VBAT, d.sup.vbat)]
  else if off = Reg.SUP_CAP_CTRL then
    overlay 0 [(Fld.SUP_CAP_CTRL_STATE, match d.sup.capsule with
      | none => 0
      | some c => if c.done then 2 else if c.lost then 3 else 1)]
  else if off = Reg.SUP_CAP_DATA then BitVec.ofNat 32 (leField (capsuleBytes d.sup.capsule) (d.fld Fld.SUP_CAP_ADDR_OFFSET agent) 4)
  else if off = Reg.SUP_R_MEAS then
    if !d.slotUsed inst then overlay 0 [(Fld.SUP_R_MEAS_STATE, 5)]
    else overlay 0 [(Fld.SUP_R_MEAS_STATE, railStateNum r.state), (Fld.SUP_R_MEAS_EN, b2n r.en), (Fld.SUP_R_MEAS_PG, b2n r.pg), (Fld.SUP_R_MEAS_DIS, b2n r.dis),
      (Fld.SUP_R_MEAS_V_MV, r.mv)]
  else if (off = Reg.SUP_R_MARGIN ∨ off = Reg.SUP_R_FAULT) ∧ !d.slotUsed inst then 0
  else if off = Reg.SUP_PWR_STATUS then overlay w [(Fld.SUP_PWR_STATUS_CUR, d.sup.cur)]
  else if off = Reg.SUP_HU_STATUS then
    overlay w [(Fld.SUP_HU_STATUS_PHASE, d.hold.phase), (Fld.SUP_HU_STATUS_BUSY, b2n (d.hold.testAt.isSome || d.hold.probing)),
      (Fld.SUP_HU_STATUS_AGE_H, if !d.hold.setDone then 255 else min ((d.now - d.hold.lastSetAt) / 3600000000) 255)]
  else w

/-- Live registers of EVR and FWS. -/
def liveStore (d : Device) (agent off : Nat) (w : Word) : Word :=
  let slot (s : Nat) : Word := overlay 0 [(Fld.FWS_SLOT_A_STATE, d.slotState s), (Fld.FWS_SLOT_A_ARMED, b2n (d.onArm s)), (Fld.FWS_SLOT_A_TRIALS, min (d.trialsUsed s) 15),
      (Fld.FWS_SLOT_A_RELEASE, d.slotRelease s)]
  if off = Reg.EVR_RING_USED then BitVec.ofNat 32 d.evr.ring.length
  else if off = Reg.EVR_ARCH_USED then BitVec.ofNat 32 (d.evr.archive.foldl (fun a (p : Nat × List EventRec) => a + p.2.length) 0)
  else if Reg.EVR_RD_DATA0 ≤ off ∧ off ≤ Reg.EVR_RD_DATA7 then
    BitVec.ofNat 32 (leField (evtBytes (d.evr.ring.find? (d.fld Fld.EVR_RD_IDX_IDX agent))) (off - Reg.EVR_RD_DATA0) 4)
  else if off = Reg.FWS_BOOT then overlay 0 [(Fld.FWS_BOOT_RUN, d.fws.run), (Fld.FWS_BOOT_TRIAL, b2n d.fws.trial), (Fld.FWS_BOOT_PEND, b2n d.armed)]
  else if off = Reg.FWS_SLOT_A then slot 0
  else if off = Reg.FWS_SLOT_B then slot 1
  else if off = Reg.FWS_CMD then overlay w [(Fld.FWS_CMD_BUSY, b2n (d.sup.scWait.any (fun p => p.1 == agent && p.2.1 == off)))]
  else if off = Reg.FWS_BLK_ERASE then BitVec.ofNat 32 ((d.fws.erases.find? (d.fld Fld.FWS_BLKSEL_BLOCK agent)).getD 0)
  else if off = Reg.FWS_PROF then
    let mask (p : Profile → Bool) : Nat := d.profiles.foldl (fun a (x : Nat × Profile) => if p x.2 then Nat.lor a (2 ^ x.1) else a) 0
    overlay 0 [(Fld.FWS_PROF_ACTIVE, d.sup.profile), (Fld.FWS_PROF_PEND, b2n d.sup.profNext.isSome), (Fld.FWS_PROF_PEND_SEL, d.sup.profNext.getD 0),
      (Fld.FWS_PROF_TEST, mask (fun p => p.valid && p.test)), (Fld.FWS_PROF_VALID, mask (·.valid))]
  else w

/-- A register as it reads now, before the rules of R10 on WO fields. -/
def liveReg (d : Device) (agent off inst : Nat) : Word :=
  let w := d.reg off inst
  match d.livePair off, d.livePair (off - 4) with
  | some v, _ => BitVec.ofNat 32 v
  | _, some v => BitVec.ofNat 32 (v / 4294967296)
  | none, none =>
    match off / 65536 with
    | 0 => if off = Reg.GEN_STATUS then d.genStatus else if off = Reg.GEN_USEC then BitVec.ofNat 32 d.usec else d.identityReg off
    | 1 => d.liveHost off inst w
    | 2 => d.liveHost off inst w
    | 3 => d.liveHost off inst w
    | 4 => d.livePst off w
    | 5 => d.liveLinks off w
    | 8 => d.liveMedia agent off inst w
    | 9 => d.liveMedia agent off inst w
    | 10 => d.liveSup agent off inst w
    | 12 => d.liveLinks off w
    | 13 => d.liveStore agent off w
    | 14 => d.liveStore agent off w
    | _ => w

/-! ### Reads -/

/-- The bits of a register whose access code is one of some. -/
def accMask (r : RegSpec) (p : Acc → Bool) : Nat :=
  (r.fields.filter (fun f => p f.acc)).foldl (fun a f => a + (2 ^ (f.hi + 1 - f.lo) - 1) * 2 ^ f.lo) 0

/-- The _LO words of the 64-bit pairs read under R64. -/
def isPairLo (off : Nat) : Bool :=
  off == Reg.GEN_SERIAL_LO
    || (off % 8 == 0 && (decide (0x30020 ≤ off ∧ off ≤ 0x30068) || decide (0x40010 ≤ off ∧ off ≤ 0x40030) || off == Reg.PST_DB_USED_LO
      || decide (0x40218 ≤ off ∧ off ≤ 0x40238) || decide (0x50080 ≤ off ∧ off ≤ 0x50098) || decide (0x60050 ≤ off ∧ off ≤ 0x60058)
      || decide (0x60180 ≤ off ∧ off ≤ 0x601C0) || decide (0x70060 ≤ off ∧ off ≤ 0x70070) || decide (0x80060 ≤ off ∧ off ≤ 0x80080)
      || decide (0x90060 ≤ off ∧ off ≤ 0x90070) || decide (0xC0060 ≤ off ∧ off ≤ 0xC0068)))

/-- A read of an instance of a register: the value, and the device after it. RC fields clear (R10); a _LO word, and GEN_LAST_ERR0, latches
its partner for the agent, whose next read of the partner takes the latch (R64, GEN_LAST_ERR1); OFFSET rises after SUP_CAP_DATA (R412). -/
def readInst (d : Device) (agent off inst : Nat) (r : RegSpec) : Word × Device :=
  let w := d.liveReg agent off inst
  let v := BitVec.ofNat 32 (Nat.land w.toNat (4294967295 - accMask r (· == .wo)))
  match d.latches.find? (rkey agent off) with
  | some h => (h, { d with latches := d.latches.del (rkey agent off) })
  | none =>
    let d := if isPairLo off || off == Reg.GEN_LAST_ERR0 then
        { d with latches := d.latches.put (rkey agent (off + 4)) (d.liveReg agent (off + 4) inst) }
      else d
    let rc := accMask r (· == .rc)
    let d := if rc = 0 then d else d.setReg off (BitVec.ofNat 32 (Nat.land (d.reg off inst).toNat (4294967295 - rc))) inst
    let d := if off = Reg.SUP_CAP_DATA then d.setFld Fld.SUP_CAP_ADDR_OFFSET (d.fld Fld.SUP_CAP_ADDR_OFFSET agent + 4) agent else d
    (v, d)

/-- A read by an agent that reaches the register (R8–R10, R533, R537). `own`: the offset lies in the function's own page. A window of a
function that does not exist also records an event (R220). -/
def readReg (d : Device) (agent off : Nat) (own : Bool) : Word × Device :=
  if !inBlocks off then (0, d)
  else match regSpec? off with
    | none => (0, d)
    | some r => match d.winInst agent off r own with
      | some inst => d.readInst agent off inst r
      | none => (0, if r.win = .fn then d.eventR 3 hrgBlk 220 else d)

end Device
end Sys2Proof.Machine
end

