-- ==== Sys2Proof/Machine/RegWrite.lean ====
section
/-! DEFINITION. Writing the registers (R8–R13, R533–R546): the access codes, the locks, the ranges that each register's table gives, and
what a write starts. -/

namespace Sys2Proof.Machine

/-- No answers from a medium. -/
def MediaAns.none : MediaAns := { status := [], ready := [], ldpc := [], din := [], ecc := 0 }

namespace Device

/-! ### Refused accesses -/

/-- GEN_LAST_ERR0 and GEN_LAST_ERR1 of an access that set bit `n` of GEN_INT_STATUS; KIND is n + 1 in the order of GEN_LAST_ERR1. -/
def noteAccess (d : Device) (n kind agent off : Nat) (write : Bool) : Device :=
  let d := d.raiseQuiet Reg.GEN_INT_STATUS n
  let d := d.setFld Fld.GEN_LAST_ERR0_OFFSET off
  d.setReg Reg.GEN_LAST_ERR1 (overlay 0 [(Fld.GEN_LAST_ERR1_KIND, kind), (Fld.GEN_LAST_ERR1_WRITE, b2n write), (Fld.GEN_LAST_ERR1_AGENT, agent)])

/-- The event of a refused access: CODE 0x0001 or 0x0002, its SOURCE, and the DATA of R464. -/
def accessEvent (d : Device) (sev code src agent off : Nat) (v : Word) : Device :=
  d.event { sev := sev, host := false, src := src, code := code, data := leBytes 4 off ++ leBytes 4 v.toNat ++ leBytes 2 agent ++ List.replicate 6 0 }

/-- An access of a width or alignment that R8 refuses. GEN_INT_STATUS and GEN_LAST_ERR stand on HUB (R534). -/
def badWidth (d : Device) (agent off : Nat) (write : Bool) (v : Word) : Device :=
  (if d.hubOn then d.noteAccess 1 1 agent off write else d).accessEvent 3 2 0 agent off v

/-- A write to a Reserved offset (R533): the event's source is GEN outside the blocks, and the block inside one. -/
def reservedWrite (d : Device) (agent off : Nat) (v : Word) : Device :=
  (d.noteAccess 0 2 agent off true).accessEvent 3 1 (if inBlocks off then off / 65536 else 0) agent off v

/-- A bridge access that SUP does not answer (R540, R552). -/
def bridgeTimeout (d : Device) (agent off : Nat) (write : Bool) (v : Word) : Device :=
  (d.noteAccess 2 3 agent off write).accessEvent 4 1 0 agent off v

/-! ### Locks and access codes -/

/-- Whether the lock that governs a register's RWL fields is set (R11, R534). -/
def rwlLocked (d : Device) (off : Nat) : Bool :=
  match off / 65536 with
  | 1 => d.flag Fld.QMG_CTRL_LOCK
  | 5 => d.flag Fld.MIR_CTRL_LOCK
  | 6 => d.flag Fld.NET_CTRL_LOCK
  | 7 => d.flag Fld.DRM_CTRL_LOCK
  | 8 => d.flag Fld.CEL_CTRL_LOCK
  | 9 => d.flag Fld.CPH_CTRL_LOCK
  | 10 => d.flag (if off = Reg.SUP_TAMPER_CFG then Fld.SUP_TAMPER_LOCK_LOCK else Fld.SUP_SEQ_CTRL_LOCK)
  | 11 => d.flag Fld.AGE_CTRL_LOCK
  | 12 => d.flag Fld.TRL_CFG_LOCK
  | 13 => d.flag Fld.EVR_CTRL_LOCK
  | 14 => d.flag Fld.FWS_CTRL_LOCK
  | _ => false

/-- LOCK_ALL (R546): every lock bit of R534 but SUP_TAMPER_LOCK and XO_LOCK. -/
def lockAll (d : Device) : Device :=
  [Fld.QMG_CTRL_LOCK, Fld.MIR_CTRL_LOCK, Fld.NET_CTRL_LOCK, Fld.DRM_CTRL_LOCK, Fld.CEL_CTRL_LOCK, Fld.CPH_CTRL_LOCK, Fld.SUP_SEQ_CTRL_LOCK, Fld.AGE_CTRL_LOCK,
   Fld.TRL_CFG_LOCK, Fld.EVR_CTRL_LOCK, Fld.FWS_CTRL_LOCK].foldl (fun (d : Device) f => d.setFld f 1) d

/-- Whether a WO field holds what is written: the key words (R371). -/
def keepsWo (off : Nat) : Bool := decide (Reg.CPH_K_DATA0 ≤ off ∧ off ≤ Reg.CPH_K_DATA15)

/-- The register after a write of `v` under the access codes (R9, R10, R11). -/
def written (r : RegSpec) (locked keepWo : Bool) (old v : Word) : Word :=
  r.fields.foldl (fun (w : Word) (f : FieldSpec) =>
    let o := bitsGet old f.hi f.lo
    let n := bitsGet v f.hi f.lo
    let x : Nat := match f.acc with
      | .rw => n
      | .rwp => n
      | .rwl => if locked then o else n
      | .w1c => Nat.land o (4294967295 - n)
      | .w1s => Nat.lor o n
      | .wo => if keepWo then n else 0
      | .ro => o
      | .rc => o
    bitsSet w f.hi f.lo x) 0

/-- Whether a write differs in a locked RWL field (R11). -/
def lockedDiffers (r : RegSpec) (locked : Bool) (old v : Word) : Bool :=
  locked && r.fields.any (fun f => f.acc == .rwl && bitsGet old f.hi f.lo != bitsGet v f.hi f.lo)

/-! ### Writes that are ignored -/

/-- Writes ignored without an event: queue 0's registers while it is live or in reset (R201, R221), and the execute-only regions once
XO_LOCK is set (FWS_XO0–FWS_XO7). The key window of a hardware slot (R387) and a function's own HRG_FN_CFG (R198) are so too. -/
def quietIgnored (d : Device) (off inst : Nat) (own : Bool) (v : Word) : Bool :=
  if off = Reg.HRG_FN_CFG then own
  else if Reg.HRG_ASQ_LO ≤ off ∧ off ≤ Reg.HRG_ACQ_HI then d.flag Fld.HRG_AQ_CFG_EN inst
  else if off = Reg.HRG_AQ_CFG then d.fnStopped inst || (d.flag Fld.HRG_AQ_CFG_EN inst && bitAt v 31)
  else if Reg.FWS_XO0 ≤ off ∧ off ≤ Reg.FWS_XO7 then d.flag Fld.FWS_CTRL_XO_LOCK
  else if off = Reg.CPH_K_ATTR then decide (inst < 16)
  else false

/-- A field of a word within a range. -/
def inRange (w : Word) (f : Fld) (a b : Nat) : Bool := decide (a ≤ bitsGet w f.hi f.lo ∧ bitsGet w f.hi f.lo ≤ b)

/-- Ranges that the tables of CSK, PST, QMG, HRG, MIR and NET give; false: the write is ignored with an event of severity WARNING. A write that
clears ADMIN while no link is up is taken: R199 speaks of links that are up (DESIGN CHOICE, log 62). -/
def hostRangeOk (d : Device) (off inst : Nat) (w : Word) : Bool :=
  let g (f : Fld) : Nat := bitsGet w f.hi f.lo
  if Reg.QMG_RES0 ≤ off ∧ off ≤ Reg.QMG_RES3 then
    let rs := (List.range 4).map (fun i => if Reg.QMG_RES0 + 4 * i = off then g Fld.QMG_RES0_RES else bitsGet (d.reg (Reg.QMG_RES0 + 4 * i)) 17 0)
    rs.all (fun r => decide (4100 ≤ r)) && decide (rs.sum ≤ 131072)
  else if off = Reg.QMG_Q_CAP then
    let q := d.queue inst
    decide ((if q.cls = 3 then 4100 else q.pkts.foldl (fun a p => max a p.cells) 0) ≤ g Fld.QMG_Q_CAP_CAP)
  else if off = Reg.HRG_POLL then inRange w Fld.HRG_POLL_IDLE_US 1 1000
  else if off = Reg.HRG_FN_EVT then inRange w Fld.HRG_FN_EVT_VEC 0 256
  else if off = Reg.HRG_FN_CFG then
    let up := d.hrg.links.filter (fun p => p.2.up)
    up.isEmpty || bitAt w 31 || d.adminPfs.any (fun f => f != inst)
  else if off = Reg.CSK_PIN_LIMIT then inRange w Fld.CSK_PIN_LIMIT_PIN_PCT 0 90
  else if off = Reg.CSK_AGE_TICK then inRange w Fld.CSK_AGE_TICK_TICK_MS 1 10000
  else if off = Reg.PST_VINT_PERIOD then inRange w Fld.PST_VINT_PERIOD_PERIOD_US 1 64
  else if off = Reg.PST_VINT_MAX then inRange w Fld.PST_VINT_MAX_MAX_KIB 256 8192
  else if off = Reg.PST_DB_HIGH then inRange w Fld.PST_DB_HIGH_HIGH_PCT 50 99
  else if off = Reg.PST_ADMIT_CTRL then inRange w Fld.PST_ADMIT_CTRL_WAIT_MS 1 1000
  else if off = Reg.PST_PLAN_A then inRange w Fld.PST_PLAN_A_VLOW 100 7499 && inRange w Fld.PST_PLAN_A_PBOTTLE_W 1 65535
  else if off = Reg.PST_PLAN_B then
    inRange w Fld.PST_PLAN_B_ETA_PM 500 1000 && inRange w Fld.PST_PLAN_B_KMARGIN_PM 100 900 && inRange w Fld.PST_PLAN_B_TFIXED_MS 100 4095
  else if off = Reg.PST_RST_CTRL then inRange w Fld.PST_RST_CTRL_TWIN_WAIT_MS 100 60000 && inRange w Fld.PST_RST_CTRL_WAVE_DEPTH 1 15
  else if off = Reg.MIR_TIMERS then
    inRange w Fld.MIR_TIMERS_HANDBACK_DELAY_S 10 3600 && inRange w Fld.MIR_TIMERS_ABSENT_TMO_MS 2 100 && inRange w Fld.MIR_TIMERS_PFETCH_TMO_MS 1 50
  else if off = Reg.NET_CNP then inRange w Fld.NET_CNP_INT_US 1 1000 && inRange w Fld.NET_CNP_DSCP 1 63 && inRange w Fld.NET_CNP_PRIO 1 7
  else if off = Reg.NET_DCQCN_A then
    inRange w Fld.NET_DCQCN_A_ALPHA_US 1 4095 && inRange w Fld.NET_DCQCN_A_INC_US 1 4095 && inRange w Fld.NET_DCQCN_A_F 1 15 && inRange w Fld.NET_DCQCN_A_G_LOG2 1 15
  else if off = Reg.NET_DCQCN_B then inRange w Fld.NET_DCQCN_B_RAI 1 65535 && inRange w Fld.NET_DCQCN_B_RHAI 1 65535
  else if off = Reg.NET_DCQCN_C then inRange w Fld.NET_DCQCN_C_RMIN 1 65535 && inRange w Fld.NET_DCQCN_C_BC_MIB 1 65535
  else if off = Reg.NET_P_MODE then inRange w Fld.NET_P_MODE_MEDIA 0 2 && inRange w Fld.NET_P_MODE_BRK 0 3
  else if off = Reg.NET_P_XOFF then decide (g Fld.NET_P_XOFF_XON < g Fld.NET_P_XOFF_XOFF)
  else true

/-- Ranges that the tables of DRM, CEL, AGE and TRL give. -/
def mediaRangeOk (d : Device) (off inst : Nat) (w : Word) : Bool :=
  let g (f : Fld) : Nat := bitsGet w f.hi f.lo
  let age (a b : Word) : Bool :=
    let c0 := bitsGet a 31 16; let c1 := bitsGet a 15 0; let c2 := bitsGet b 31 16; let c3 := bitsGet b 15 0
    decide (16 ≤ c0 ∧ c0 ≤ c1 ∧ c1 ≤ c2 ∧ c2 ≤ c3)
  if off = Reg.DRM_CHSEL then inRange w Fld.DRM_CHSEL_CH 0 23
  else if off = Reg.DRM_AGE_A then age w (d.reg Reg.DRM_AGE_B)
  else if off = Reg.DRM_AGE_B then age (d.reg Reg.DRM_AGE_A) w
  else if off = Reg.DRM_SCRUB then inRange w Fld.DRM_SCRUB_PERIOD_H 1 255
  else if off = Reg.DRM_ERR_CFG then inRange w Fld.DRM_ERR_CFG_CH_UE_MAX 1 255 && inRange w Fld.DRM_ERR_CFG_ROW_CE_THR 1 255
  else if off = Reg.DRM_CH_REF then inRange w Fld.DRM_CH_REF_POSTPONE_MAX 1 4
  else if Reg.DRM_TSA_CFG ≤ off ∧ off ≤ Reg.DRM_TSA_TURN then d.flag Fld.DRM_CH_STATUS_ACTIVE_SET inst
  else if Reg.DRM_TSB_CFG ≤ off ∧ off ≤ Reg.DRM_TSB_TURN then !d.flag Fld.DRM_CH_STATUS_ACTIVE_SET inst
  else if off = Reg.CEL_OP then inRange w Fld.CEL_OP_OP_PM 50 500
  else if off = Reg.CEL_WEAR then
    inRange w Fld.CEL_WEAR_NATIVE_K 1 255 && inRange w Fld.CEL_WEAR_SLC_K 1 255 && inRange w Fld.CEL_WEAR_WL_DELTA 1 255 && inRange w Fld.CEL_WEAR_SCAN_D 1 255
  else if off = Reg.CEL_L_BLKSEL then decide (g Fld.CEL_L_BLKSEL_BLOCK < d.fld Fld.CEL_GEOM2_BLOCKS)
  else if off = Reg.AGE_PERIOD then inRange w Fld.AGE_PERIOD_PLAN_H 1 255 && inRange w Fld.AGE_PERIOD_PROBE_H 1 255
  else if off = Reg.AGE_PATH then
    inRange w Fld.AGE_PATH_SLACK_REQ 20 100 && inRange w Fld.AGE_PATH_FAST_THR 5 (g Fld.AGE_PATH_SLACK_REQ - 10)
  else if off = Reg.AGE_DRAM_CFG then inRange w Fld.AGE_DRAM_CFG_EYE_THR 1 255 && inRange w Fld.AGE_DRAM_CFG_CE_THR 1 255
  else if off = Reg.AGE_NAND_CFG then inRange w Fld.AGE_NAND_CFG_BITS_THR 1 255
  else if off = Reg.TRL_CFG then inRange w Fld.TRL_CFG_STRIPE_LOG2 0 8
  else if off = Reg.TRL_TIMERS then inRange w Fld.TRL_TIMERS_FORM_S 1 255 && inRange w Fld.TRL_TIMERS_LOST_US 200 10000
  else true

/-- Ranges and conditions that the tables of SUP, EVR and FWS give (R132, R392, R416). -/
def supRangeOk (d : Device) (off : Nat) (w : Word) : Bool :=
  let levels (warn bottle : Word) : Bool :=
    let rise := bitsGet warn 31 16; let fall := bitsGet warn 15 0; let lvl := bitsGet bottle 15 0
    decide (800 ≤ lvl ∧ lvl < fall ∧ fall < rise ∧ rise ≤ 7500) && d.hold.supply != .bottling && d.hold.supply != .bottled
  if off = Reg.SUP_HV_WARN then levels w (d.reg Reg.SUP_HV_BOTTLE)
  else if off = Reg.SUP_HV_BOTTLE then levels (d.reg Reg.SUP_HV_WARN) w
  else if off = Reg.SUP_ALARM_E then inRange w Fld.SUP_ALARM_E_TEMP_C 106 125
  else if off = Reg.SUP_SEQ_CTRL then
    inRange w Fld.SUP_SEQ_CTRL_RETRIES 1 15 && inRange w Fld.SUP_SEQ_CTRL_ORD_TMO_S 1 255 && inRange w Fld.SUP_SEQ_CTRL_HOLDOFF_MS 100 5000
  else if off = Reg.SUP_BTN then inRange w Fld.SUP_BTN_LONG_S 4 15
  else if off = Reg.SUP_PWR_CFG then inRange w Fld.SUP_PWR_CFG_PERCH_US 1 1000
  else if off = Reg.SUP_RTC_SCHED then bitsGet w 30 30 == 0 || inRange w Fld.SUP_RTC_SCHED_SLEEP_MODE 1 2
  else if off = Reg.SUP_WDT_CFG then
    inRange w Fld.SUP_WDT_CFG_MC_MS 100 10000 && inRange w Fld.SUP_WDT_CFG_SC_MS 10 255 && inRange w Fld.SUP_WDT_CFG_WINDOW_S 1 255
  else if Reg.SUP_R_CFG ≤ off ∧ off ≤ Reg.SUP_R_PMB then
    (d.sup.state == .off || d.sup.state == .holdoff || d.sup.state == .lockout) && !d.flag Fld.SUP_SEQ_CTRL_LOCK
  else if off = Reg.FWS_BOOT_CFG then inRange w Fld.FWS_BOOT_CFG_GOOD_S 10 3600 && inRange w Fld.FWS_BOOT_CFG_TRIALS 1 15
  else if off = Reg.EVR_RD_IDX then inRange w Fld.EVR_RD_IDX_IDX 0 6143
  else true

/-- Whether the table of a register allows the value that a write would leave. -/
def rangeOk (d : Device) (off inst : Nat) (w : Word) : Bool :=
  match off / 65536 with
  | 7 => d.mediaRangeOk off inst w
  | 8 => d.mediaRangeOk off inst w
  | 10 => d.supRangeOk off w
  | 11 => d.mediaRangeOk off inst w
  | 12 => d.mediaRangeOk off inst w
  | 13 => d.supRangeOk off w
  | 14 => d.supRangeOk off w
  | _ => d.hostRangeOk off inst w

/-! ### What a write starts -/

/-- A lookup (R102): the entry at that instant. -/
def lookup (d : Device) (agent : Nat) : Device :=
  let cask := d.fld Fld.CSK_LK_CASK_CASK_ID agent
  let off := d.fld Fld.CSK_LK_OFF_LO_OFF_LO agent + 4294967296 * d.fld Fld.CSK_LK_OFF_HI_OFF_HI agent
  let done (d : Device) (res : Nat) : Device :=
    d.setReg Reg.CSK_LK_CTRL (overlay 0 [(Fld.CSK_LK_CTRL_DONE, 1), (Fld.CSK_LK_CTRL_RESULT, res)]) agent
  let ents (d : Device) (n : Nat) : Device :=
    (List.range 4).foldl (fun (d : Device) i => d.setReg (Reg.CSK_LK_ENT0 + 4 * i) (BitVec.ofNat 32 (n / 2 ^ (32 * i))) agent) d
  match d.csk.casks.find? cask with
  | none => done (ents d 0) 1
  | some c => if c.size * 65536 ≤ off then done (ents d 0) 2 else done (ents d (rackBits (d.rack cask (off / 65536)))) 0

/-- DONE and the entry words clear (R102). -/
def lookupClear (d : Device) (agent : Nat) : Device :=
  (List.range 5).foldl (fun (d : Device) i => d.setReg (Reg.CSK_LK_CTRL + 4 * i) 0 agent) d

/-- A write of SUP_PWR_CMD (R393, R405). -/
def pwrCmd (d : Device) (agent : Nat) (v : Word) : Device :=
  let d := if bitAt v 0 then
      (if agent = 1024 ∧ d.sup.state = .off then (d.setSup { d.sup with state := .holdoff }).supplyNormal else d.eventIgnored Reg.SUP_PWR_CMD v agent)
    else d
  if bitAt v 1 then
    (if bitsGet v 31 16 = 0xA5A5 ∧ d.sup.state = .on ∧ d.hold.bottle.isNone then d.startFlush false
     else d.eventIgnored Reg.SUP_PWR_CMD v agent)
  else d

/-- A write of SUP_PWR_TARGET (R421, R432): a wake only over the I3C/SMBus port, a request only from a PF. -/
def pwrTarget (d : Device) (agent : Nat) (v : Word) : Device :=
  let mode := bitsGet v 1 0
  if agent = 1024 then
    let d := if mode = 0 then d else d.eventIgnored Reg.SUP_PWR_TARGET v agent
    if bitAt v 8 then d.wake 3 else d
  else if mode = 0 then d
  else d.pwrRequest mode

/-- A write of DRM_TSET_CMD with GO (R328, R329). -/
def tsetCmd (d : Device) (agent : Nat) (v : Word) : Device :=
  if d.hold.supply ≠ .normal ∨ d.hold.bottle.isSome ∨ d.drm.walk.isSome then d.eventIgnored Reg.DRM_TSET_CMD v agent
  else
    let c := d.fld Fld.DRM_CHSEL_CH agent
    d.tsetGo (if bitAt v 30 then d.liveChans else if d.chLive c then [c] else [])

/-- A write of PST_RST_CLEAR (R154). -/
def clearCmd (d : Device) (agent : Nat) (v : Word) : Device :=
  if bitsGet v 31 16 ≠ 0xD15C ∨ d.rst.phase ≠ 8 then d.eventIgnored Reg.PST_RST_CLEAR v agent
  else if bitAt v 0 then d.rstClear
  else d

/-- What a write of a register of GEN, QMG, HRG, CSK, PST, MIR or NET starts. `was`: the register before it. QMG_RECLAIM.GO for a tag whose
reclaim runs changes nothing (DESIGN CHOICE, log 62). -/
def hostEffect (d : Device) (agent off inst : Nat) (was v : Word) : Device :=
  if off = Reg.GEN_CTRL then (if bitAt v 31 then d.lockAll else d)
  else if off = Reg.QMG_RECLAIM then
    let t := bitsGet v 11 0
    if bitAt v 30 && !d.qmg.reclaims.any (fun r => r.tag == t) then d.reclaim t else d
  else if off = Reg.HRG_FN_CFG then
    let d := if inst % 64 = 0 then d else d.setFld Fld.HRG_FN_CFG_ADMIN 0 inst
    if bitAt was 31 && !bitAt v 31 then d.dropAgent inst else d
  else if off = Reg.HRG_FN_RESET then (if bitAt v 0 then d.startFnReset [] inst else d)
  else if off = Reg.HRG_AQ_CFG then d.aqEnable inst (bitAt v 31)
  else if off = Reg.CSK_LK_CASK ∨ off = Reg.CSK_LK_OFF_LO ∨ off = Reg.CSK_LK_OFF_HI then d.lookupClear agent
  else if off = Reg.CSK_LK_CTRL then (if bitAt v 0 then d.lookup agent else d)
  else if off = Reg.PST_VINT_CTRL then (if bitAt v 0 then (d.trySeal .forced).settle else d)
  else if off = Reg.PST_DB_CAP ∨ off = Reg.PST_DB_HIGH ∨ off = Reg.PST_ADMIT_CTRL then d.reevalAdmit.settle
  else if off = Reg.PST_PLAN_A ∨ off = Reg.PST_PLAN_B ∨ off = Reg.PST_PLAN_C then d.planWritten
  else if off = Reg.PST_RST_CTRL then d.runWaves
  else if off = Reg.PST_RST_CLEAR then d.clearCmd agent v
  else if off = Reg.MIR_CMD then d.mc2 (.cmd agent v)
  else if off = Reg.NET_P_MODE then d.npDown inst
  else d

/-- What a write of a register of DRM, CEL, CPH or AGE starts. -/
def mediaEffect (d : Device) (agent off inst : Nat) (v : Word) (m : MediaAns) : Device :=
  if off = Reg.DRM_TSET_CMD then (if bitAt v 31 then d.tsetCmd agent v else d)
  else if off = Reg.DRM_CH_REF then
    d.setFld Fld.DRM_CH_STATUS_RFM_ON (b2n (d.flag Fld.DRM_CH_REF_RFM_FORCE inst || d.drm.dimms.any (fun x => x.ch == inst && x.rfm))) inst
  else if off = Reg.DRM_TSA_CFG ∨ off = Reg.DRM_TSB_CFG then
    -- R326: TRAINED says whether the channel holds trained values for RATE
    let ms := d.drm.dimms.filter (fun x => x.ch == inst)
    let ok := !ms.isEmpty && ms.all (fun x => (Device.valuesOf d.learned x.serial (bitsGet v 19 16)).isSome)
    d.setReg off (bitsSet (d.reg off inst) 31 31 (b2n ok)) inst
  else if off = Reg.CEL_L_RAW_CMD then
    (if bitAt v 31 then d.rawGo agent { status := m.status, ready := m.ready, ldpc := m.ldpc, din := m.din } else d)
  else if off = Reg.CPH_K_CMD then (if bitAt v 31 then d.keyCmd agent (bitsGet v 1 0) else d)
  else if off = Reg.AGE_CTRL then (if bitAt v 30 then d.replan else d)
  else d

/-- What a write of a register of SUP, EVR or FWS starts. -/
def supEffect (d : Device) (agent off inst : Nat) (was v : Word) (m : MediaAns) : Device :=
  if off = Reg.SUP_PWR_CMD then d.pwrCmd agent v
  else if off = Reg.SUP_MARGIN_UNLOCK then
    (if bitsGet v 31 16 = 0x3A5C ∧ !d.flag Fld.SUP_SEQ_CTRL_LOCK then d.setFld Fld.SUP_MARGIN_UNLOCK_UNLOCKED 1 else d.eventIgnored off v agent)
  else if off = Reg.SUP_CAP_CTRL then
    (if bitAt v 0 then (if bitsGet v 31 16 = 0xCA95 then d.setSup { d.sup with capsule := none } else d.eventIgnored off v agent) else d)
  else if off = Reg.SUP_R_MARGIN then (d.setReg off was inst).marginWrite agent inst (bitsGet v 4 0)
  else if off = Reg.SUP_PWR_TARGET then (d.setReg off was).pwrTarget agent v
  else if off = Reg.SUP_RTC_SEC then (d.setSup { d.sup with rtcFrac := 0 }).setReg Reg.SUP_RTC_SUB (overlay 0 [(Fld.SUP_RTC_SUB_VALID, 1)])
  else if off = Reg.SUP_HV_BOTTLE then d.planWritten
  else if off = Reg.SUP_HU_CTRL then (if bitAt v 0 then d.startSet else d)
  else if off = Reg.SUP_TAMPER_STATUS then (if d.fld Fld.SUP_TAMPER_STATUS_LATCH = 0 then d.setFld Fld.SUP_TAMPER_STATUS_VBAT_EVT 0 else d)
  else if off = Reg.FWS_CMD then (if bitAt v 31 then d.fwsGo agent (bitsGet v 1 0) m.ecc else d)
  else d

/-- The registers whose action SC performs, when the value written asks for one (R540). -/
def scActs (off : Nat) (v : Word) : Bool :=
  off == Reg.SUP_PWR_CMD || off == Reg.SUP_R_MARGIN || off == Reg.SUP_PWR_TARGET || (off == Reg.SUP_HU_CTRL && bitAt v 0) ||
    (off == Reg.SUP_CAP_CTRL && bitAt v 0) || (off == Reg.FWS_CMD && bitAt v 31)

/-- What a write of a register of SUP, EVR or FWS starts, now or when SC resumes (R540); a GO while the agent's own command waits is ignored
(R538). -/
def supStart (d : Device) (agent off inst : Nat) (was v : Word) (m : MediaAns) : Device :=
  if d.coreUp 8 || !scActs off v then d.supEffect agent off inst was v m
  else if off = Reg.FWS_CMD && d.sup.scWait.any (fun p => p.1 == agent && p.2.1 == off) then d.eventIgnored off v agent
  else
    let d := if off = Reg.SUP_R_MARGIN ∨ off = Reg.SUP_PWR_TARGET then d.setReg off was inst else d
    d.setSup { d.sup with scWait := d.sup.scWait ++ [(agent, off, inst, v, m.ecc)] }

/-- SC resumes: the actions that waited for it, in their order (R540). -/
def scResume (d : Device) : Device :=
  d.sup.scWait.foldl (fun (d : Device) p => d.supEffect p.1 p.2.1 p.2.2.1 (d.reg p.2.1 p.2.2.1) p.2.2.2.1 { MediaAns.none with ecc := p.2.2.2.2 })
    (d.setSup { d.sup with scWait := [] })

/-- What a write that a register has taken starts. -/
def writeEffect (d : Device) (agent off inst : Nat) (was v : Word) (m : MediaAns) : Device :=
  match off / 65536 with
  | 7 => d.mediaEffect agent off inst v m
  | 8 => d.mediaEffect agent off inst v m
  | 9 => d.mediaEffect agent off inst v m
  | 10 => d.supStart agent off inst was v m
  | 11 => d.mediaEffect agent off inst v m
  | 13 => d.supStart agent off inst was v m
  | 14 => d.supStart agent off inst was v m
  | _ => d.hostEffect agent off inst was v

/-- A write by an agent that reaches the register (R8–R13, R533, R537). `own`: the offset lies in the function's own page (R198). -/
def writeReg (d : Device) (agent off : Nat) (own : Bool) (v : Word) (m : MediaAns) : Device :=
  match (if inBlocks off then regSpec? off else none) with
  | none => d.reservedWrite agent off v
  | some r => match d.winInst agent off r own with
    | none => if r.win = .fn then d.eventIgnored off v agent else d
    | some inst =>
      let was := d.reg off inst
      let locked := d.rwlLocked off
      let w := written r locked (keepsWo off) was v
      if d.quietIgnored off inst own v then d
      else if !d.rangeOk off inst w then d.eventIgnored off v agent
      else
        let alert := d.alertOn
        let e := d.setReg off w inst
        let e := if lockedDiffers r locked was v then e.eventIgnored off v agent else e
        (e.writeEffect agent off inst was v m).noteAlert alert

end Device
end Sys2Proof.Machine
end

