-- ==== Sys2Proof/Machine/RegCmds.lean ====
section
/-! DEFINITION. Commands that are accesses of registers: by an admin-capable PF through BAR0, by any other function through its page, and
over the I3C/SMBus port (R8–R11, R64, R198, R533–R546); and the crossbar's promotion (R24). `agent` is a function number, or 1,024 for
the I3C/SMBus port. -/

namespace Sys2Proof.Machine

namespace Device

/-- Whether an access by a function that is not admin-capable falls in its own page (R198, R535). -/
def ownPage (d : Device) (agent off : Nat) : Bool :=
  d.hubOn && decide (agent < 1024) && d.fnExists agent && !d.isAdmin agent && decide (off < 256)

/-! The MSI-X table and the PBA lie in BAR4 of every function (R198): an access names it by an offset from `bar4` on. Their layout is that of
the MSI-X rules, the table at 0 and the PBA at 0x1800 (PRESUMED, log 30). -/

def bar4 : Nat := 4 * 2 ^ 32

/-- The word at an offset of a function's BAR4: an entry's address, data and vector control, or 32 pending bits. -/
def msixWord (d : Device) (fn x : Nat) : Word :=
  if x < 16 * 257 then
    let e := d.msixEntry fn (x / 16)
    match x / 4 % 4 with
    | 0 => BitVec.ofNat 32 e.addr
    | 1 => BitVec.ofNat 32 (e.addr / 4294967296)
    | 2 => BitVec.ofNat 32 e.data
    | _ => BitVec.ofNat 32 (b2n e.masked)
  else if 0x1800 ≤ x ∧ x < 0x1800 + 40 then
    BitVec.ofNat 32 ((List.range 32).foldl (fun a b => a + b2n (d.hrg.msixPend.contains (512 * fn + (8 * (x - 0x1800) + b))) * 2 ^ b) 0)
  else 0

/-- A write of a word of a function's BAR4 (R198, R200): the table takes it, the PBA and the rest do not. -/
def writeMsix (d : Device) (fn x : Nat) (v : Word) : Device :=
  if x < 16 * 257 then
    let e := d.msixEntry fn (x / 16)
    d.setMsix fn (x / 16) (match x / 4 % 4 with
      | 0 => { e with addr := v.toNat / 4 * 4 + e.addr / 4294967296 * 4294967296 }
      | 1 => { e with addr := e.addr % 4294967296 + v.toNat * 4294967296 }
      | 2 => { e with data := v.toNat }
      | _ => { e with masked := bitAt v 0 })
  else d

/-! The IDs of a function stand in its PCI configuration space, where an access of four bytes finds them from `pciCfg` on: the vendor and device
ID at offset 0x00, the subsystem IDs at 0x2C (R198; the offsets are PCI's, PRESUMED, log 30). -/

def pciCfg : Nat := 5 * 2 ^ 32

/-- The vendor and device ID of a function, as GEN_ID gives them: a VF has the device ID of the VFs. -/
def pciId (d : Device) (fn : Nat) : Word :=
  if fn % 64 = 0 then d.identityReg Reg.GEN_ID0
  else bitsSet (d.identityReg Reg.GEN_ID0) 31 16 (bitsGet (d.identityReg Reg.GEN_ID1) 31 16)

/-- The subsystem IDs of every function, from the active profile; a profile without the section leaves them open (log 30). -/
def pciSub (d : Device) : Word :=
  match d.prof.subsys with
  | some s => BitVec.ofNat 32 (s.1 + 65536 * s.2)
  | none => Config.subsysIds

/-- A read of the configuration space of a function: the words that the manual gives. -/
def cfgWord (d : Device) (fn x : Nat) : Option Word :=
  if x = 0 then some (d.pciId fn) else if x = 0x2C then some d.pciSub else none

/-- Whether an agent reaches its BAR4 with an aligned 32-bit access. -/
def atBar4 (d : Device) (agent off width : Nat) : Bool := d.hubOn && d.fnExists agent && width == 4 && off % 4 == 0 && decide (off < bar4 + 8192)

/-- A write by an agent, of a width in bytes. At the I3C/SMBus port, an access that READ would refuse is ignored (R543); one that is not
aligned is refused under R8 as well, and its one event is that of R8. -/
def writeCmd (d : Device) (agent off width : Nat) (v : Word) (m : MediaAns) : Device :=
  if pciCfg ≤ off ∧ agent < 1024 then d
  else if bar4 ≤ off ∧ agent < 1024 then (if d.atBar4 agent off width then d.writeMsix agent (off - bar4) v else d)
  else match d.reach agent off with
  | 0 => if width = 4 ∧ off % 4 = 0 then d.writeReg agent off false v m else d.badWidth agent off true v
  | 4 =>
    if !d.ownPage agent (off - off % 4) then d
    else if width = 4 ∧ off % 4 = 0 then d.writeReg agent (Reg.HRG_FN_CFG + off) true v m
    else d.badWidth agent off true v
  | _ => if off % 4 ≠ 0 then d.badWidth agent off true v else d.accessEvent 3 1 (if inBlocks off then off / 65536 else 0) agent off v

/-- A read by an agent, of a width in bytes. -/
def readCmd (d : Device) (agent off width : Nat) : Device :=
  let reply (p : Word × Device) : Device := p.2.emit (.regRead agent off p.1)
  if pciCfg ≤ off ∧ agent < 1024 then
    (match if d.hubOn && d.fnExists agent && width == 4 then d.cfgWord agent (off - pciCfg) else none with
      | some v => reply (v, d)
      | none => d)
  else if bar4 ≤ off ∧ agent < 1024 then (if d.atBar4 agent off width then reply (d.msixWord agent (off - bar4), d) else d)
  else match d.reach agent off with
  | 0 => if width = 4 ∧ off % 4 = 0 then reply (d.readReg agent off false) else reply (0, d.badWidth agent off false 0)
  | 4 =>
    if !d.ownPage agent (off - off % 4) then d
    else if width = 4 ∧ off % 4 = 0 then reply (d.readReg agent (Reg.HRG_FN_CFG + off) true)
    else reply (0, d.badWidth agent off false 0)
  | _ => reply (0, if off % 4 ≠ 0 then d.badWidth agent off false 0 else d)   -- R8, R543: the data is 0

/-- Where an agent finds a register of the function window: in BAR0's window, or in the function's own page (R198). -/
def fnWindow (d : Device) (agent off : Nat) : Nat := if agent = 1024 ∨ d.isAdmin agent then off else off - Reg.HRG_FN_CFG

/-- A write of a whole register. -/
def writeWord (d : Device) (agent off : Nat) (v : Word) : Device := d.writeCmd agent off 4 v MediaAns.none

/-- A transaction on the management port (R541): the target answers SMBus until an I3C broadcast address arrives, and I3C from then on; a
wrong PEC, count or code has no effect, and SMBus NACKs it (R542). -/
def mgt (d : Device) (m : MgtIn) (f : Device → Device) : Device :=
  if !d.sup.supOn || (d.i3cForm == 2 && !m.i3c) then d
  else
    let d : Device := { d with i3cForm := if m.i3c then 2 else 1, i3cIbi := m.i3c && m.ibi }
    if m.ok then f d else if m.i3c then d else d.emit .i3cNack

/-- The pointer after a READ or a WRITE (R542). -/
def nextPtr (d : Device) : Device := { d with i3cPtr := (d.i3cPtr + 4) % 4294967296 }

end Device

/-! ### The access rules -/

/-- A write to a register that has no row of its own (R10). -/
def execRegisterWrite (agent off width : Nat) (value : Word) (ans : MediaAns) (s : State) : Host.Outcome State Fault Refusal :=
  s.run (fun d => d.writeCmd agent off width value ans)

/-- A read, which clears the RC fields of the register (R10). -/
def execRcRead (agent off width : Nat) (s : State) : Host.Outcome State Fault Refusal := s.run (fun d => d.readCmd agent off width)

/-- A read of a _LO word (R64). -/
def execLoReadLatch (agent off : Nat) (s : State) : Host.Outcome State Fault Refusal := s.run (fun d => d.readCmd agent off 4)

/-- A write of 1 to GEN_CTRL.LOCK_ALL (R546). -/
def execLockAll (agent : Nat) (s : State) : Host.Outcome State Fault Refusal := s.run (fun d => d.writeWord agent Reg.GEN_CTRL 0x80000000)

/-- A bridge access that SUP has not answered within 10 µs (R540); over the I3C/SMBus port, at the pointer, with status BRIDGE (R543). -/
def execBridgeTimeout (agent off : Nat) (write : Bool) (value : Word) (s : State) : Host.Outcome State Fault Refusal :=
  s.run (fun d =>
    if agent = 1024 then
      if d.reach 1024 d.i3cPtr ≠ 0 ∨ !d.hubOn then d
      else
        let d := d.bridgeTimeout 1024 d.i3cPtr write value
        if write then (d.accessEvent 3 1 (d.i3cPtr / 65536) 1024 d.i3cPtr value).nextPtr else (d.emit (.i3cRead 3 0)).nextPtr
    else if d.reach agent off ≠ 0 ∨ !Device.inBlocks off ∨ !Device.staysPowered off then d
    else
      let d := d.bridgeTimeout agent off write value
      if write then d else d.emit (.regRead agent off 0))

/-- ADDR (R542). -/
def execI3cAddr (m : MgtIn) (value : Word) (s : State) : Host.Outcome State Fault Refusal :=
  s.run (fun d => d.mgt m (fun d => { d with i3cPtr := value.toNat }))

/-- WRITE (R542, R543). -/
def execI3cWrite (m : MgtIn) (value : Word) (ans : MediaAns) (s : State) : Host.Outcome State Fault Refusal :=
  s.run (fun d => d.mgt m (fun d => (d.writeCmd 1024 d.i3cPtr 4 value ans).nextPtr))

/-- READ (R542, R543). -/
def execI3cRead (m : MgtIn) (s : State) : Host.Outcome State Fault Refusal :=
  s.run (fun d => d.mgt m (fun d =>
    let st := d.reach 1024 d.i3cPtr
    let p : Word × Device := if st = 0 then d.readReg 1024 d.i3cPtr false
      else if d.i3cPtr % 4 ≠ 0 then (0, d.badWidth 1024 d.i3cPtr false 0) else (0, d)
    (p.2.emit (.i3cRead st p.1)).nextPtr))

/-! ### Writes that have a row of their own -/

/-- PST_VINT_CTRL.SEAL_NOW (R40). -/
def execSealNow (agent : Nat) (s : State) : Host.Outcome State Fault Refusal := s.run (fun d => d.writeWord agent Reg.PST_VINT_CTRL 1)

/-- CSK_LK_CTRL.GO (R102). -/
def execCskLkGo (agent : Nat) (s : State) : Host.Outcome State Fault Refusal := s.run (fun d => d.writeWord agent Reg.CSK_LK_CTRL 1)

/-- SUP_HU_CTRL with GO (R106); `value` gives its other fields. -/
def execSupHuGo (agent : Nat) (value : Word) (s : State) : Host.Outcome State Fault Refusal :=
  s.run (fun d => d.writeWord agent Reg.SUP_HU_CTRL (value ||| 1#32))

/-- PST_PLAN_A, PST_PLAN_B, PST_PLAN_C or SUP_HV_BOTTLE, by `which` from 0 to 3 (R130). -/
def execPstPlanWrite (agent which : Nat) (value : Word) (s : State) : Host.Outcome State Fault Refusal :=
  s.run (fun d => match which with
    | 0 => d.writeWord agent Reg.PST_PLAN_A value
    | 1 => d.writeWord agent Reg.PST_PLAN_B value
    | 2 => d.writeWord agent Reg.PST_PLAN_C value
    | 3 => d.writeWord agent Reg.SUP_HV_BOTTLE value
    | _ => d)

/-- PST_RST_CTRL, whose FILL_EN pauses or resumes the fill waves (R149). -/
def execFillEnWrite (agent : Nat) (value : Word) (s : State) : Host.Outcome State Fault Refusal :=
  s.run (fun d => d.writeWord agent Reg.PST_RST_CTRL value)

/-- PST_RST_CLEAR (R154). -/
def execRstClear (agent key : Nat) (s : State) : Host.Outcome State Fault Refusal :=
  s.run (fun d => d.writeWord agent Reg.PST_RST_CLEAR (BitVec.ofNat 32 (key % 65536 * 65536 + 1)))

/-- MIR_CMD.HANDBACK_NOW (R191). -/
def execHandbackNow (agent : Nat) (s : State) : Host.Outcome State Fault Refusal := s.run (fun d => d.writeWord agent Reg.MIR_CMD 4)

/-- MIR_CMD.DETACH (R162). -/
def execMirDetach (agent : Nat) (s : State) : Host.Outcome State Fault Refusal := s.run (fun d => d.writeWord agent Reg.MIR_CMD 1)

/-- MIR_CMD.JOIN (R188). -/
def execMirJoin (agent : Nat) (s : State) : Host.Outcome State Fault Refusal := s.run (fun d => d.writeWord agent Reg.MIR_CMD 2)

/-- HRG_FN_RESET.GO in the selected function's window, or in a function's own page (R198, R218). -/
def execHrgFnResetGo (agent : Nat) (s : State) : Host.Outcome State Fault Refusal :=
  s.run (fun d => d.writeWord agent (d.fnWindow agent Reg.HRG_FN_RESET) 1)

/-- HRG_AQ_CFG (R201), in the selected function's window or in a function's own page (R198). -/
def execAqEnable (agent : Nat) (value : Word) (s : State) : Host.Outcome State Fault Refusal :=
  s.run (fun d => d.writeWord agent (d.fnWindow agent Reg.HRG_AQ_CFG) value)

/-- QMG_RECLAIM.GO (R233). -/
def execQmgReclaimGo (agent owner : Nat) (s : State) : Host.Outcome State Fault Refusal :=
  s.run (fun d => d.writeWord agent Reg.QMG_RECLAIM (BitVec.ofNat 32 (1073741824 + owner % 4096)))

/-- NET_P_MODE of the selected port (R245). -/
def execNetPModeWrite (agent : Nat) (value : Word) (s : State) : Host.Outcome State Fault Refusal :=
  s.run (fun d => d.writeWord agent Reg.NET_P_MODE value)

/-- DRM_TSET_CMD.GO (R328, R329). -/
def execDrmTsetGo (agent : Nat) (all : Bool) (s : State) : Host.Outcome State Fault Refusal :=
  s.run (fun d => d.writeWord agent Reg.DRM_TSET_CMD (BitVec.ofNat 32 (2147483648 + b2n all * 1073741824)))

/-- CEL_L_RAW_CMD.GO (R363); the LUN's answers are operands. -/
def execCelRawGo (agent seq block : Nat) (ans : MediaAns) (s : State) : Host.Outcome State Fault Refusal :=
  s.run (fun d => d.writeCmd agent Reg.CEL_L_RAW_CMD 4 (BitVec.ofNat 32 (2147483648 + seq % 64 * 1048576 + block % 1048576)) ans)

/-- CPH_K_CMD.GO with OP = LOAD (R371). -/
def execKeyLoad (agent : Nat) (s : State) : Host.Outcome State Fault Refusal := s.run (fun d => d.writeWord agent Reg.CPH_K_CMD 0x80000000)

/-- CPH_K_CMD.GO with OP = GENERATE (R371). -/
def execKeyGenerate (agent : Nat) (s : State) : Host.Outcome State Fault Refusal := s.run (fun d => d.writeWord agent Reg.CPH_K_CMD 0x80000001)

/-- CPH_K_CMD.GO with OP = ERASE (R371). -/
def execKeyErase (agent : Nat) (s : State) : Host.Outcome State Fault Refusal := s.run (fun d => d.writeWord agent Reg.CPH_K_CMD 0x80000002)

/-- AGE_CTRL with PLAN_NOW (R473); `value` gives its other fields. -/
def execAgePlanNow (agent : Nat) (value : Word) (s : State) : Host.Outcome State Fault Refusal :=
  s.run (fun d => d.writeWord agent Reg.AGE_CTRL (value ||| 0x40000000#32))

/-- SUP_PWR_CMD.ON (R393). -/
def execPwrCmdOn (agent : Nat) (s : State) : Host.Outcome State Fault Refusal := s.run (fun d => d.writeWord agent Reg.SUP_PWR_CMD 1)

/-- SUP_PWR_CMD.OFF with a KEY (R405). -/
def execPwrCmdOff (agent key : Nat) (s : State) : Host.Outcome State Fault Refusal :=
  s.run (fun d => d.writeWord agent Reg.SUP_PWR_CMD (BitVec.ofNat 32 (key % 65536 * 65536 + 2)))

/-- SUP_R_MARGIN.STEPS of the selected slot (R408). -/
def execMarginWrite (agent steps : Nat) (s : State) : Host.Outcome State Fault Refusal :=
  s.run (fun d => d.writeWord agent Reg.SUP_R_MARGIN (BitVec.ofNat 32 (steps % 32)))

/-- SUP_MARGIN_UNLOCK.KEY (R409). -/
def execMarginUnlockWrite (agent key : Nat) (s : State) : Host.Outcome State Fault Refusal :=
  s.run (fun d => d.writeWord agent Reg.SUP_MARGIN_UNLOCK (BitVec.ofNat 32 (key % 65536 * 65536)))

/-- SUP_CAP_CTRL.CLEAR with a KEY (R412). -/
def execCapClearWrite (agent key : Nat) (s : State) : Host.Outcome State Fault Refusal :=
  s.run (fun d => d.writeWord agent Reg.SUP_CAP_CTRL (BitVec.ofNat 32 (key % 65536 * 65536 + 1)))

/-- A read of SUP_CAP_DATA (R412). -/
def execCapDataRead (agent : Nat) (s : State) : Host.Outcome State Fault Refusal := s.run (fun d => d.readCmd agent Reg.SUP_CAP_DATA 4)

/-- SUP_PWR_TARGET.MODE (R421). -/
def execPwrTargetMode (agent mode : Nat) (s : State) : Host.Outcome State Fault Refusal :=
  s.run (fun d => d.writeWord agent Reg.SUP_PWR_TARGET (BitVec.ofNat 32 (mode % 4)))

/-- SUP_PWR_TARGET.WAKE (R432). -/
def execPwrTargetWake (agent : Nat) (s : State) : Host.Outcome State Fault Refusal := s.run (fun d => d.writeWord agent Reg.SUP_PWR_TARGET 256)

/-- FWS_CMD READ (R446, R448); `ecc` is what the check bits find. -/
def execFwsRead (agent ecc : Nat) (s : State) : Host.Outcome State Fault Refusal :=
  s.run (fun d => d.writeCmd agent Reg.FWS_CMD 4 0x80000000 { MediaAns.none with ecc := ecc })

/-- FWS_CMD PROGRAM (R446, R449). -/
def execFwsProgram (agent : Nat) (s : State) : Host.Outcome State Fault Refusal := s.run (fun d => d.writeWord agent Reg.FWS_CMD 0x80000001)

/-- FWS_CMD ERASE (R449, R450). -/
def execFwsErase (agent : Nat) (s : State) : Host.Outcome State Fault Refusal := s.run (fun d => d.writeWord agent Reg.FWS_CMD 0x80000002)

/-- FWS_CMD COMMIT (R455). -/
def execFwsCommit (agent : Nat) (s : State) : Host.Outcome State Fault Refusal := s.run (fun d => d.writeWord agent Reg.FWS_CMD 0x80000003)

/-- The class at which a crossbar request competes: Q0 once it has waited 4,096 HUB clocks (R24). -/
def xbarClass (r : XbarReq) : Nat := if 4096 ≤ r.waited then 0 else r.cls

/-- The crossbar grants `n` lanes: each to the oldest of the waiting requests whose class comes first, so that requests of one source and
class are granted in arrival order (R24). -/
def Device.xbarGrants : Nat → Device → Device
  | 0, d => d
  | n + 1, d =>
    let best := d.qmg.xbar.foldl (fun a r => min a (xbarClass r)) 4
    match d.qmg.xbar.find? (fun r => xbarClass r == best) with
    | some r =>
      Device.xbarGrants n ({ d with qmg := { d.qmg with xbar := removeFirst (fun x => xbarClass x == best) d.qmg.xbar } }.emit (.xbarGrant r.src best))
    | none => d

/-- Requests of a source and class arrive at the crossbar, `clocks` HUB clocks pass, and `lanes` of its eight lanes fall free and are
granted; a request that has waited 4,096 clocks competes as Q0 for that grant (R24). -/
def execCrossbarPromote (arrivals : List (Nat × Nat)) (clocks lanes : Nat) (s : State) : Host.Outcome State Fault Refusal :=
  s.run (fun d =>
    if d.hubOn then
      let new := (arrivals.filter (fun a => decide (a.2 ≤ 4))).map (fun a => { src := a.1, cls := a.2, waited := 0 : XbarReq })
      let x := (d.qmg.xbar ++ new).map (fun (r : XbarReq) => { r with waited := r.waited + clocks })
      Device.xbarGrants (min lanes 8) { d with qmg := { d.qmg with xbar := x } }
    else d)

/-- A restarted core has rebuilt its state (R436, R514): its duties resume, SC acts on the registers written meanwhile (R540), and MC2 on what
came for it (R23). MC0–MC7 stay halted from step 5 of R122 on, and while HUB is unpowered. -/
def execMcStateRebuilt (core : Nat) (s : State) : Host.Outcome State Fault Refusal :=
  s.runSup (fun d =>
    if core < 8 ∧ (!d.hubOn ∨ (d.hold.bottle.isSome ∧ 3 ≤ d.hold.phase)) then d
    else
      let d := d.setSup { d.sup with coresDown := d.sup.coresDown.filter (fun c => decide (c ≠ core)) }
      (if core = 8 then d.scResume else if core = 2 then d.mc2Resume else d).settle)

end Sys2Proof.Machine
end

