-- ==== Sys2Proof/Machine/Dispatch.lean ====
section
/-! DEFINITION. The meaning of every command: one arm for each row of the operation table. -/

namespace Sys2Proof.Machine

def exec (i : Instr) (s : State) : Host.Outcome State Fault Refusal :=
  match i with
  | .registerWrite agent off width value ans => Sys2Proof.Machine.execRegisterWrite agent off width value ans s
  | .rcRead agent off width => Sys2Proof.Machine.execRcRead agent off width s
  | .loReadLatch agent off => Sys2Proof.Machine.execLoReadLatch agent off s
  | .lockAll agent => Sys2Proof.Machine.execLockAll agent s
  | .bridgeTimeout agent off write value => Sys2Proof.Machine.execBridgeTimeout agent off write value s
  | .i3cAddr m value => Sys2Proof.Machine.execI3cAddr m value s
  | .i3cWrite m value ans => Sys2Proof.Machine.execI3cWrite m value ans s
  | .i3cRead m => Sys2Proof.Machine.execI3cRead m s
  | .sqDoorbell fn q byte width value => Sys2Proof.Machine.execSqDoorbell fn q byte width value s
  | .cqDoorbell fn q byte width value => Sys2Proof.Machine.execCqDoorbell fn q byte width value s
  | .shadowTailPoll fn q tail head => Sys2Proof.Machine.execShadowTailPoll fn q tail head s
  | .shadowPollIdle fn q tail => Sys2Proof.Machine.execShadowPollIdle fn q tail s
  | .descriptorFetch fn q words => Sys2Proof.Machine.execDescriptorFetch fn q words s
  | .cellReserveRetry fn q words => Sys2Proof.Machine.execCellReserveRetry fn q words s
  | .nop fn q => Sys2Proof.Machine.execNop fn q s
  | .read fn q => Sys2Proof.Machine.execRead fn q s
  | .write fn q => Sys2Proof.Machine.execWrite fn q s
  | .writeZero fn q => Sys2Proof.Machine.execWriteZero fn q s
  | .cas8 fn q => Sys2Proof.Machine.execCas8 fn q s
  | .cas16 fn q => Sys2Proof.Machine.execCas16 fn q s
  | .fadd8 fn q => Sys2Proof.Machine.execFadd8 fn q s
  | .persistFence fn q => Sys2Proof.Machine.execPersistFence fn q s
  | .persistFenceDone fn q seq => Sys2Proof.Machine.execPersistFenceDone fn q seq s
  | .copy fn q => Sys2Proof.Machine.execCopy fn q s
  | .cipher fn q => Sys2Proof.Machine.execCipher fn q s
  | .waitCount fn q => Sys2Proof.Machine.execWaitCount fn q s
  | .waitCountSatisfied fn q => Sys2Proof.Machine.execWaitCountSatisfied fn q s
  | .waitCountTimeout fn q => Sys2Proof.Machine.execWaitCountTimeout fn q s
  | .remoteWrite fn q => Sys2Proof.Machine.execRemoteWrite fn q s
  | .remoteRead fn q => Sys2Proof.Machine.execRemoteRead fn q s
  | .recv fn q => Sys2Proof.Machine.execRecv fn q s
  | .streamOpen fn q => Sys2Proof.Machine.execStreamOpen fn q s
  | .streamAdvance fn q => Sys2Proof.Machine.execStreamAdvance fn q s
  | .streamClose fn q => Sys2Proof.Machine.execStreamClose fn q s
  | .createCq fn => Sys2Proof.Machine.execCreateCq fn s
  | .deleteCq fn => Sys2Proof.Machine.execDeleteCq fn s
  | .createSq fn => Sys2Proof.Machine.execCreateSq fn s
  | .deleteSq fn => Sys2Proof.Machine.execDeleteSq fn s
  | .identify fn => Sys2Proof.Machine.execIdentify fn s
  | .caskCreate fn => Sys2Proof.Machine.execCaskCreate fn s
  | .caskModify fn => Sys2Proof.Machine.execCaskModify fn s
  | .caskDelete fn => Sys2Proof.Machine.execCaskDelete fn s
  | .caskQuery fn => Sys2Proof.Machine.execCaskQuery fn s
  | .grantIssue fn => Sys2Proof.Machine.execGrantIssue fn s
  | .grantRevoke fn => Sys2Proof.Machine.execGrantRevoke fn s
  | .grantQuery fn => Sys2Proof.Machine.execGrantQuery fn s
  | .fnReset fn => Sys2Proof.Machine.execFnReset fn s
  | .deviceReset fn => Sys2Proof.Machine.execDeviceReset fn s
  | .profileSelect fn => Sys2Proof.Machine.execProfileSelect fn s
  | .qpCreate fn => Sys2Proof.Machine.execQpCreate fn s
  | .qpModify fn => Sys2Proof.Machine.execQpModify fn s
  | .qpDestroy fn => Sys2Proof.Machine.execQpDestroy fn s
  | .qpQuery fn => Sys2Proof.Machine.execQpQuery fn s
  | .pdtConfig fn => Sys2Proof.Machine.execPdtConfig fn s
  | .epCreate fn => Sys2Proof.Machine.execEpCreate fn s
  | .epModify fn => Sys2Proof.Machine.execEpModify fn s
  | .epDestroy fn => Sys2Proof.Machine.execEpDestroy fn s
  | .epPeer fn => Sys2Proof.Machine.execEpPeer fn s
  | .pdtQuery fn => Sys2Proof.Machine.execPdtQuery fn s
  | .fwBegin fn => Sys2Proof.Machine.execFwBegin fn s
  | .fwWrite fn => Sys2Proof.Machine.execFwWrite fn s
  | .fwCommit fn => Sys2Proof.Machine.execFwCommit fn s
  | .fwActivate fn => Sys2Proof.Machine.execFwActivate fn s
  | .fwRead fn ecc => Sys2Proof.Machine.execFwRead fn ecc s
  | .profileRead fn ecc => Sys2Proof.Machine.execProfileRead fn ecc s
  | .profileWrite fn => Sys2Proof.Machine.execProfileWrite fn s
  | .profileCapture fn => Sys2Proof.Machine.execProfileCapture fn s
  | .evtRead fn => Sys2Proof.Machine.execEvtRead fn s
  | .evtArchRead fn => Sys2Proof.Machine.execEvtArchRead fn s
  | .evtPost fn => Sys2Proof.Machine.execEvtPost fn s
  | .pwrEnter fn => Sys2Proof.Machine.execPwrEnter fn s
  | .shutdown fn => Sys2Proof.Machine.execShutdown fn s
  | .capsuleRead fn => Sys2Proof.Machine.execCapsuleRead fn s
  | .capsuleClear fn => Sys2Proof.Machine.execCapsuleClear fn s
  | .writeAdmit => Sys2Proof.Machine.execWriteAdmit s
  | .admitWaitTimeout => Sys2Proof.Machine.execAdmitWaitTimeout s
  | .admitRateTick => Sys2Proof.Machine.execAdmitRateTick s
  | .writePlace => Sys2Proof.Machine.execWritePlace s
  | .vintageSealPeriod => Sys2Proof.Machine.execVintageSealPeriod s
  | .sealNow agent => Sys2Proof.Machine.execSealNow agent s
  | .vintageShip => Sys2Proof.Machine.execVintageShip s
  | .vintageApplyDone => Sys2Proof.Machine.execVintageApplyDone s
  | .rackFetchDone cask rack => Sys2Proof.Machine.execRackFetchDone cask rack s
  | .writeBehindStart cask rack cptr => Sys2Proof.Machine.execWriteBehindStart cask rack cptr s
  | .writeBehindDone cask rack => Sys2Proof.Machine.execWriteBehindDone cask rack s
  | .backgroundEvict => Sys2Proof.Machine.execBackgroundEvict s
  | .accAgeTick => Sys2Proof.Machine.execAccAgeTick s
  | .grantQuarantineExpire slot => Sys2Proof.Machine.execGrantQuarantineExpire slot s
  | .cskLkGo agent => Sys2Proof.Machine.execCskLkGo agent s
  | .inputBad hvin hu pfi => Sys2Proof.Machine.execInputBad hvin hu pfi s
  | .inputGood hvin hu pfi => Sys2Proof.Machine.execInputGood hvin hu pfi s
  | .guardDwellExpire => Sys2Proof.Machine.execGuardDwellExpire s
  | .bottleTrigger hvin hu pfi => Sys2Proof.Machine.execBottleTrigger hvin hu pfi s
  | .bottleStreamDone => Sys2Proof.Machine.execBottleStreamDone s
  | .vaultProgramTimeout ch lun => Sys2Proof.Machine.execVaultProgramTimeout ch lun s
  | .spineSealed okA okB => Sys2Proof.Machine.execSpineSealed okA okB s
  | .bottleResume => Sys2Proof.Machine.execBottleResume s
  | .hvinUvlo hvin => Sys2Proof.Machine.execHvinUvlo hvin s
  | .huMeasPeriod hu => Sys2Proof.Machine.execHuMeasPeriod hu s
  | .supHuGo agent value => Sys2Proof.Machine.execSupHuGo agent value s
  | .huTestRetry hu => Sys2Proof.Machine.execHuTestRetry hu s
  | .bankTestEnd v0 vm v60 vend sum us inRange => Sys2Proof.Machine.execBankTestEnd v0 vm v60 vend sum us inRange s
  | .flushProbeDone us => Sys2Proof.Machine.execFlushProbeDone us s
  | .pstPlanWrite agent which value => Sys2Proof.Machine.execPstPlanWrite agent which value s
  | .planRecompute => Sys2Proof.Machine.execPlanRecompute s
  | .spineLoadDone => Sys2Proof.Machine.execSpineLoadDone s
  | .consolidationDone => Sys2Proof.Machine.execConsolidationDone s
  | .twinWaitExpire => Sys2Proof.Machine.execTwinWaitExpire s
  | .serviceOpen => Sys2Proof.Machine.execServiceOpen s
  | .homingDone cask rack cptr => Sys2Proof.Machine.execHomingDone cask rack cptr s
  | .fillEnWrite agent value => Sys2Proof.Machine.execFillEnWrite agent value s
  | .rstClear agent key => Sys2Proof.Machine.execRstClear agent key s
  | .quiesceTimeout => Sys2Proof.Machine.execQuiesceTimeout s
  | .leaseGrant ok pair echo epoch result holder stale lastHolder remain => Sys2Proof.Machine.execLeaseGrant ok pair echo epoch result holder stale lastHolder remain s
  | .promoteGrant ok pair echo epoch result holder stale lastHolder remain => Sys2Proof.Machine.execPromoteGrant ok pair echo epoch result holder stale lastHolder remain s
  | .handbackGrant ok pair echo epoch result holder stale lastHolder vf => Sys2Proof.Machine.execHandbackGrant ok pair echo epoch result holder stale lastHolder vf s
  | .leaseDeadline => Sys2Proof.Machine.execLeaseDeadline s
  | .fenceNoticeRepeat => Sys2Proof.Machine.execFenceNoticeRepeat s
  | .leaseRenewTimer => Sys2Proof.Machine.execLeaseRenewTimer s
  | .arbRetryTimeout => Sys2Proof.Machine.execArbRetryTimeout s
  | .fenceIn asserted => Sys2Proof.Machine.execFenceIn asserted s
  | .pinDropTimer => Sys2Proof.Machine.execPinDropTimer s
  | .firstRoleWaitExpire => Sys2Proof.Machine.execFirstRoleWaitExpire s
  | .laneFail lane => Sys2Proof.Machine.execLaneFail lane s
  | .linkRetrainDone lanes => Sys2Proof.Machine.execLinkRetrainDone lanes s
  | .laneRetest lane ok => Sys2Proof.Machine.execLaneRetest lane ok s
  | .statusSendTimer => Sys2Proof.Machine.execStatusSendTimer s
  | .linkDownTimeout => Sys2Proof.Machine.execLinkDownTimeout s
  | .twinAbsent => Sys2Proof.Machine.execTwinAbsent s
  | .detachedTwinExpire => Sys2Proof.Machine.execDetachedTwinExpire s
  | .vhead lseq crc num prev epoch len count cause rel => Sys2Proof.Machine.execVhead lseq crc num prev epoch len count cause rel s
  | .vdata lseq crc num off n recs => Sys2Proof.Machine.execVdata lseq crc num off n recs s
  | .vend lseq crc num len count imageOk => Sys2Proof.Machine.execVend lseq crc num len count imageOk s
  | .vack lseq crc num applied dirtyPages limit high freeKib wbRate admState => Sys2Proof.Machine.execVack lseq crc num applied dirtyPages limit high freeKib wbRate admState s
  | .vnak lseq crc num off => Sys2Proof.Machine.execVnak lseq crc num off s
  | .status lseq crc samePair h epoch role pref hb unit width dirtyPages limit high freeKib wbRate admState => Sys2Proof.Machine.execStatus lseq crc samePair h epoch role pref hb unit width dirtyPages limit high freeKib wbRate admState s
  | .resolve lseq crc samePair noImage h role pend held => Sys2Proof.Machine.execResolve lseq crc samePair noImage h role pend held s
  | .join lseq crc samePair h => Sys2Proof.Machine.execJoin lseq crc samePair h s
  | .joinAccept lseq crc p => Sys2Proof.Machine.execJoinAccept lseq crc p s
  | .joinRefuse lseq crc => Sys2Proof.Machine.execJoinRefuse lseq crc s
  | .synced lseq crc => Sys2Proof.Machine.execSynced lseq crc s
  | .hbPropose lseq crc => Sys2Proof.Machine.execHbPropose lseq crc s
  | .pfetchReq lseq crc cask rack page tag aMin => Sys2Proof.Machine.execPfetchReq lseq crc cask rack page tag aMin s
  | .pfetchData lseq crc cask rack page tag notAvail a bytes => Sys2Proof.Machine.execPfetchData lseq crc cask rack page tag notAvail a bytes s
  | .pfetchTimeout cask rack page => Sys2Proof.Machine.execPfetchTimeout cask rack page s
  | .frameRetryTimer => Sys2Proof.Machine.execFrameRetryTimer s
  | .twinBudgetTimeout => Sys2Proof.Machine.execTwinBudgetTimeout s
  | .promoteRetry => Sys2Proof.Machine.execPromoteRetry s
  | .handbackDelayExpire => Sys2Proof.Machine.execHandbackDelayExpire s
  | .handbackNow agent => Sys2Proof.Machine.execHandbackNow agent s
  | .handbackCommitWaitDone => Sys2Proof.Machine.execHandbackCommitWaitDone s
  | .handbackRequestRepeat => Sys2Proof.Machine.execHandbackRequestRepeat s
  | .resyncWalk => Sys2Proof.Machine.execResyncWalk s
  | .resyncComplete => Sys2Proof.Machine.execResyncComplete s
  | .mirDetach agent => Sys2Proof.Machine.execMirDetach agent s
  | .mirJoin agent => Sys2Proof.Machine.execMirJoin agent s
  | .flr fn => Sys2Proof.Machine.execFlr fn s
  | .hrgFnResetGo agent => Sys2Proof.Machine.execHrgFnResetGo agent s
  | .vfDisable link => Sys2Proof.Machine.execVfDisable link s
  | .portHotReset link => Sys2Proof.Machine.execPortHotReset link s
  | .pcieLinkDown link => Sys2Proof.Machine.execPcieLinkDown link s
  | .pcieLinkUp link => Sys2Proof.Machine.execPcieLinkUp link s
  | .aqEnable agent value => Sys2Proof.Machine.execAqEnable agent value s
  | .cqCoalesceTimer fn q => Sys2Proof.Machine.execCqCoalesceTimer fn q s
  | .ccwWrite fn q => Sys2Proof.Machine.execCcwWrite fn q s
  | .linkWordUe qmq cell bits link => Sys2Proof.Machine.execLinkWordUe qmq cell bits link s
  | .linkSweepDone qmq => Sys2Proof.Machine.execLinkSweepDone qmq s
  | .qmgReclaimGo agent owner => Sys2Proof.Machine.execQmgReclaimGo agent owner s
  | .reclaimDone tag => Sys2Proof.Machine.execReclaimDone tag s
  | .ethFrameRx f => Sys2Proof.Machine.execEthFrameRx f s
  | .exceptionFrame iface kind target bytes => Sys2Proof.Machine.execExceptionFrame iface kind target bytes s
  | .ethLinkUp iface => Sys2Proof.Machine.execEthLinkUp iface s
  | .ethLinkDown iface => Sys2Proof.Machine.execEthLinkDown iface s
  | .netPModeWrite agent value => Sys2Proof.Machine.execNetPModeWrite agent value s
  | .pfcFrameRx iface prio quanta => Sys2Proof.Machine.execPfcFrameRx iface prio quanta s
  | .pfcRefreshTimer port prio => Sys2Proof.Machine.execPfcRefreshTimer port prio s
  | .pauseExpire iface prio => Sys2Proof.Machine.execPauseExpire iface prio s
  | .pfcStormExpire port prio => Sys2Proof.Machine.execPfcStormExpire port prio s
  | .pfcStormClear port prio => Sys2Proof.Machine.execPfcStormClear port prio s
  | .roceSend p place variant bytes => Sys2Proof.Machine.execRoceSend p place variant bytes s
  | .roceRdmaWrite p place handle off dmaLen hasImm imm bytes => Sys2Proof.Machine.execRoceRdmaWrite p place handle off dmaLen hasImm imm bytes s
  | .roceRdmaReadReq p handle off len => Sys2Proof.Machine.execRoceRdmaReadReq p handle off len s
  | .roceAtomic p kind handle off a b => Sys2Proof.Machine.execRoceAtomic p kind handle off a b s
  | .roceAcknowledge p syndrome => Sys2Proof.Machine.execRoceAcknowledge p syndrome s
  | .roceReadResponse p bytes => Sys2Proof.Machine.execRoceReadResponse p bytes s
  | .roceCnp p => Sys2Proof.Machine.execRoceCnp p s
  | .roceAckSend qpn => Sys2Proof.Machine.execRoceAckSend qpn s
  | .roceAckTimeout qpn => Sys2Proof.Machine.execRoceAckTimeout qpn s
  | .roceRnrTimer qpn => Sys2Proof.Machine.execRoceRnrTimer qpn s
  | .dcqcnAlphaTimer qpn loc rem => Sys2Proof.Machine.execDcqcnAlphaTimer qpn loc rem s
  | .dcqcnIncTimer qpn loc rem => Sys2Proof.Machine.execDcqcnIncTimer qpn loc rem s
  | .dcqcnByteCounter qpn loc rem => Sys2Proof.Machine.execDcqcnByteCounter qpn loc rem s
  | .pdtWrite p => Sys2Proof.Machine.execPdtWrite p s
  | .pdtWriteImm p => Sys2Proof.Machine.execPdtWriteImm p s
  | .pdtSend p => Sys2Proof.Machine.execPdtSend p s
  | .pdtReadReq p => Sys2Proof.Machine.execPdtReadReq p s
  | .pdtCas8 p => Sys2Proof.Machine.execPdtCas8 p s
  | .pdtCas16 p => Sys2Proof.Machine.execPdtCas16 p s
  | .pdtFadd8 p => Sys2Proof.Machine.execPdtFadd8 p s
  | .pdtPersist p => Sys2Proof.Machine.execPdtPersist p s
  | .pdtQueryPkt p => Sys2Proof.Machine.execPdtQueryPkt p s
  | .pdtReadResp p => Sys2Proof.Machine.execPdtReadResp p s
  | .pdtAtomicResp p => Sys2Proof.Machine.execPdtAtomicResp p s
  | .pdtAck p => Sys2Proof.Machine.execPdtAck p s
  | .pdtNak p => Sys2Proof.Machine.execPdtNak p s
  | .pdtBusy p => Sys2Proof.Machine.execPdtBusy p s
  | .pdtMessageExecute loc src => Sys2Proof.Machine.execPdtMessageExecute loc src s
  | .pdtAckTimer loc src => Sys2Proof.Machine.execPdtAckTimer loc src s
  | .pdtPacketSend loc rem => Sys2Proof.Machine.execPdtPacketSend loc rem s
  | .pdtRetransmitTimer loc rem msn => Sys2Proof.Machine.execPdtRetransmitTimer loc rem msn s
  | .pdtComplTimeout loc rem msn => Sys2Proof.Machine.execPdtComplTimeout loc rem msn s
  | .pdtEntryTimeout loc src msn => Sys2Proof.Machine.execPdtEntryTimeout loc src msn s
  | .pdtFlowExpire loc src => Sys2Proof.Machine.execPdtFlowExpire loc src s
  | .pdtQuietEnd => Sys2Proof.Machine.execPdtQuietEnd s
  | .refreshTick ch rank queued acts => Sys2Proof.Machine.execRefreshTick ch rank queued acts s
  | .requestPromote ch cls age => Sys2Proof.Machine.execRequestPromote ch cls age s
  | .dimmTempRead ch temp => Sys2Proof.Machine.execDimmTempRead ch temp s
  | .srIdleExpire ch => Sys2Proof.Machine.execSrIdleExpire ch s
  | .dramCe ch slot subch rank dev bank row => Sys2Proof.Machine.execDramCe ch slot subch rank dev bank row s
  | .dramUe ch slot subch rank dev bank row what => Sys2Proof.Machine.execDramUe ch slot subch rank dev bank row what s
  | .patrolScrub lines => Sys2Proof.Machine.execPatrolScrub lines s
  | .pprRepair ch => Sys2Proof.Machine.execPprRepair ch s
  | .drmTsetGo agent all => Sys2Proof.Machine.execDrmTsetGo agent all s
  | .tsetChannelDone ok => Sys2Proof.Machine.execTsetChannelDone ok s
  | .cellarProgramDone ch lun block page sb slc ok => Sys2Proof.Machine.execCellarProgramDone ch lun block page sb slc ok s
  | .rowPadTimeout sb => Sys2Proof.Machine.execRowPadTimeout sb s
  | .cellarReadDone ch lun bin bits hard offset retry soft rebuild isRack cask rack page => Sys2Proof.Machine.execCellarReadDone ch lun bin bits hard offset retry soft rebuild isRack cask rack page s
  | .blockEraseDone ch lun block vault ok => Sys2Proof.Machine.execBlockEraseDone ch lun block vault ok s
  | .opAgeRaise ch lun level => Sys2Proof.Machine.execOpAgeRaise ch lun level s
  | .garbageCollect cask rack read new => Sys2Proof.Machine.execGarbageCollect cask rack read new s
  | .cellarScan ch lun pages => Sys2Proof.Machine.execCellarScan ch lun pages s
  | .eraseCountCheckpoint => Sys2Proof.Machine.execEraseCountCheckpoint s
  | .waitrdyTimeout ch lun lunReady volReady allDead => Sys2Proof.Machine.execWaitrdyTimeout ch lun lunReady volReady allDead s
  | .celRawGo agent seq block ans => Sys2Proof.Machine.execCelRawGo agent seq block ans s
  | .keyLoad agent => Sys2Proof.Machine.execKeyLoad agent s
  | .keyGenerate agent => Sys2Proof.Machine.execKeyGenerate agent s
  | .keyErase agent => Sys2Proof.Machine.execKeyErase agent s
  | .eAlarm source => Sys2Proof.Machine.execEAlarm source s
  | .tAlarm levels => Sys2Proof.Machine.execTAlarm levels s
  | .regulatorStart hvin hu vbat prof cid testEn again => Sys2Proof.Machine.execRegulatorStart hvin hu vbat prof cid testEn again s
  | .prestartTimeout slot => Sys2Proof.Machine.execPrestartTimeout slot s
  | .railInRegulation slot mv pg => Sys2Proof.Machine.execRailInRegulation slot mv pg s
  | .railStepDelay => Sys2Proof.Machine.execRailStepDelay s
  | .railUpTimeout slot => Sys2Proof.Machine.execRailUpTimeout slot s
  | .pllLock pll => Sys2Proof.Machine.execPllLock pll s
  | .pllLockTimeout pll => Sys2Proof.Machine.execPllLockTimeout pll s
  | .railFault slot mv pg => Sys2Proof.Machine.execRailFault slot mv pg s
  | .railBelowOff slot mv => Sys2Proof.Machine.execRailBelowOff slot mv s
  | .railDnTimeout slot => Sys2Proof.Machine.execRailDnTimeout slot s
  | .dischargeTimeout slot => Sys2Proof.Machine.execDischargeTimeout slot s
  | .restartHoldoffExpire => Sys2Proof.Machine.execRestartHoldoffExpire s
  | .avsStep => Sys2Proof.Machine.execAvsStep s
  | .shortPress => Sys2Proof.Machine.execShortPress s
  | .longPress => Sys2Proof.Machine.execLongPress s
  | .otherPress => Sys2Proof.Machine.execOtherPress s
  | .resetInput mrst => Sys2Proof.Machine.execResetInput mrst s
  | .pwrCmdOn agent => Sys2Proof.Machine.execPwrCmdOn agent s
  | .pwrCmdOff agent key => Sys2Proof.Machine.execPwrCmdOff agent key s
  | .flushDrained => Sys2Proof.Machine.execFlushDrained s
  | .orderlyShutdownTimeout => Sys2Proof.Machine.execOrderlyShutdownTimeout s
  | .marginWrite agent steps => Sys2Proof.Machine.execMarginWrite agent steps s
  | .marginUnlockWrite agent key => Sys2Proof.Machine.execMarginUnlockWrite agent key s
  | .pmbusStuck sclLow ok => Sys2Proof.Machine.execPmbusStuck sclLow ok s
  | .pmbusRecoveryRetry ok => Sys2Proof.Machine.execPmbusRecoveryRetry ok s
  | .pmbusTelemetry slot nack => Sys2Proof.Machine.execPmbusTelemetry slot nack s
  | .capClearWrite agent key => Sys2Proof.Machine.execCapClearWrite agent key s
  | .capDataRead agent => Sys2Proof.Machine.execCapDataRead agent s
  | .perchGate engine => Sys2Proof.Machine.execPerchGate engine s
  | .pwrTargetMode agent mode => Sys2Proof.Machine.execPwrTargetMode agent mode s
  | .diapauseDrained => Sys2Proof.Machine.execDiapauseDrained s
  | .lowPowerWake src => Sys2Proof.Machine.execLowPowerWake src s
  | .wakeN => Sys2Proof.Machine.execWakeN s
  | .pwrTargetWake agent => Sys2Proof.Machine.execPwrTargetWake agent s
  | .rtcWakeAlarm => Sys2Proof.Machine.execRtcWakeAlarm s
  | .rtcSleepAlarm => Sys2Proof.Machine.execRtcSleepAlarm s
  | .watchdogExpire core => Sys2Proof.Machine.execWatchdogExpire core s
  | .fwsRead agent ecc => Sys2Proof.Machine.execFwsRead agent ecc s
  | .fwsProgram agent => Sys2Proof.Machine.execFwsProgram agent s
  | .fwsErase agent => Sys2Proof.Machine.execFwsErase agent s
  | .fwsCommit agent => Sys2Proof.Machine.execFwsCommit agent s
  | .goodTimerExpire => Sys2Proof.Machine.execGoodTimerExpire s
  | .eventRecord => Sys2Proof.Machine.execEventRecord s
  | .eventArchive => Sys2Proof.Machine.execEventArchive s
  | .replanTimer => Sys2Proof.Machine.execReplanTimer s
  | .agePlanNow agent value => Sys2Proof.Machine.execAgePlanNow agent value s
  | .eyeProbe ch width height => Sys2Proof.Machine.execEyeProbe ch width height s
  | .slackCheck hub edge => Sys2Proof.Machine.execSlackCheck hub edge s
  | .canaryCheck mv => Sys2Proof.Machine.execCanaryCheck mv s
  | .trlHello f mode n stripe shared pair cap => Sys2Proof.Machine.execTrlHello f mode n stripe shared pair cap s
  | .trlAck f upTo => Sys2Proof.Machine.execTrlAck f upTo s
  | .trlTime f t err => Sys2Proof.Machine.execTrlTime f t err s
  | .trlVclk f n => Sys2Proof.Machine.execTrlVclk f n s
  | .trlMark f n => Sys2Proof.Machine.execTrlMark f n s
  | .trlSealed f n acked dist => Sys2Proof.Machine.execTrlSealed f n acked dist s
  | .trlCommit f n m => Sys2Proof.Machine.execTrlCommit f n m s
  | .trlPiece f n source rec atom => Sys2Proof.Machine.execTrlPiece f n source rec atom s
  | .trlRead f snap tag body => Sys2Proof.Machine.execTrlRead f snap tag body s
  | .trlLease f start epoch role => Sys2Proof.Machine.execTrlLease f start epoch role s
  | .trlStatus f dirty cMf esr dirtyPages limit high freeKib wbRate admState => Sys2Proof.Machine.execTrlStatus f dirty cMf esr dirtyPages limit high freeKib wbRate admState s
  | .trlMeta f n op home => Sys2Proof.Machine.execTrlMeta f n op home s
  | .trlCtrl f action arg nums => Sys2Proof.Machine.execTrlCtrl f action arg nums s
  | .trlHelloTimer port => Sys2Proof.Machine.execTrlHelloTimer port s
  | .trlAckTimer => Sys2Proof.Machine.execTrlAckTimer s
  | .trlTimeTimer => Sys2Proof.Machine.execTrlTimeTimer s
  | .trlFormTimeout => Sys2Proof.Machine.execTrlFormTimeout s
  | .trlPortDown port => Sys2Proof.Machine.execTrlPortDown port s
  | .trlDeviceLost dev => Sys2Proof.Machine.execTrlDeviceLost dev s
  | .trellisWake port => Sys2Proof.Machine.execTrellisWake port s
  | .pfShareLow => Sys2Proof.Machine.execPfShareLow s
  | .pfShareReleaseTimeout => Sys2Proof.Machine.execPfShareReleaseTimeout s
  | .refclk156Loss => Sys2Proof.Machine.execRefclk156Loss s
  | .vbatLow mv => Sys2Proof.Machine.execVbatLow mv s
  | .resetInputRelease => Sys2Proof.Machine.execResetInputRelease s
  | .quiesceDone => Sys2Proof.Machine.execQuiesceDone s
  | .attemptClear => Sys2Proof.Machine.execAttemptClear s
  | .pfShareHigh => Sys2Proof.Machine.execPfShareHigh s
  | .trlPortUp port peer => Sys2Proof.Machine.execTrlPortUp port peer s
  | .keyRestoreDone => Sys2Proof.Machine.execKeyRestoreDone s
  | .capsuleComplete => Sys2Proof.Machine.execCapsuleComplete s
  | .flowQuietEnd => Sys2Proof.Machine.execFlowQuietEnd s
  | .aloneRequestRetry => Sys2Proof.Machine.execAloneRequestRetry s
  | .crossbarPromote arrivals clocks lanes => Sys2Proof.Machine.execCrossbarPromote arrivals clocks lanes s
  | .trainingLost ch recovered => Sys2Proof.Machine.execTrainingLost ch recovered s
  | .hostReadCompletion fn q seq sgl data err => Sys2Proof.Machine.execHostReadCompletion fn q seq sgl data err s
  | .fnResetReady fn => Sys2Proof.Machine.execFnResetReady fn s
  | .mcStateRebuilt core => Sys2Proof.Machine.execMcStateRebuilt core s
  | .vfEnable link numVfs => Sys2Proof.Machine.execVfEnable link numVfs s

end Sys2Proof.Machine
end

