-- ==== Sys2Proof/Machine/Idle.lean ====
section
/-! DEFINITION. What the block does by itself when no command waits (assumption log 5). -/

namespace Sys2Proof.Machine
namespace Device

/-- One microsecond passes: the clocks advance and the admission state is recomputed (R114), the erases of an FW_BEGIN go on (R454), a seal
that waited for its 100 ns spacing is made (R50), a re-plan that waits starts once it may (R473), and the training of DRAM, which the release
of HUB has done, gives way to the spine load (R136, log 50). -/
def tick (d : Device) : Device :=
  let d := flashGo 100 ((d.advance 1).when d.hubOn (·.reevalAdmit))
  let d := match d.pst.sealDue with
    | some c => if d.maySeal && !d.pst.openRecs.isEmpty then (d.sealNow c).settle else d
    | none => d
  let d := if d.rst.phase = 1 ∧ d.hubOn ∧ d.hold.bottle.isNone then d.setRst { d.rst with phase := 2 } else d
  d.planWaiting

end Device
end Sys2Proof.Machine
end

