-- ==== Sys2Proof/Safety.lean ====
section
/-! DEFINITION. What a run may rely on, in the terms that the statements use: the canonical form of the maps that State holds, a command
that gives a device, a descriptor that a queue takes, a register write that is accepted. -/

namespace Sys2Proof.Machine

/-- The memory lists its cells in rising order, and none that holds what an unlisted cell reads as (assumption log 3). -/
def State.memWf (s : State) : Bool := AMap.wf memDflt s.dev.mem

/-- The register file is in the same form over the Reset values. -/
def State.regsWf (s : State) : Bool := AMap.wf regDflt s.dev.regs

/-- A step that answers a next state. -/
def State.runs (s : State) : Prop := ∃ t, step s = .next t

/-- The HVIN reading that a command carries, 0 for a command that carries none (R117, R390). -/
def hvinOf : Instr → Nat
  | .inputBad hvin _ _ => hvin
  | .inputGood hvin _ _ => hvin
  | .bottleTrigger hvin _ _ => hvin
  | .hvinUvlo hvin => hvin
  | .regulatorStart hvin _ _ _ _ _ _ => hvin
  | _ => 0

/-- The command answers the state whose device is `d`, the queue of waiting commands as it was. -/
def Gives (i : Instr) (s : State) (d : Device) : Prop := exec i s = .next { s with dev := d }

/-- The command answers some next state, its queue as it was, whose device has a property. -/
def Reaches (i : Instr) (s : State) (p : Device → Prop) : Prop := ∃ d, Gives i s d ∧ p d

namespace Device

/-- Descriptor `x` is the next that SQ `q` may start, its opcode is `op`, it passes the checks of R209, and a management command or a WRITE has
no poisoned data (R229). -/
def takes (d : Device) (fn q op : Nat) (x : DescState) : Bool :=
  d.ready? fn q op == some x &&
    (match opUsed op with
      | some u => descZeros x.dw u
      | none => false) && sglOk x && !x.hostErr && !((d.startDesc fn q x).descPoisoned fn q x.seq && (decide (0x80 ≤ op) || op == 0x02))

/-- `takes` on queue 0 for a device command: service or not, its function is admin-capable (R215). -/
def takesDev (d : Device) (fn op : Nat) (x : DescState) : Bool := d.takes fn 0 op x && d.isAdmin fn

/-- `takes` for a descriptor of an I/O queue that acts on casks, or on a QP: no shrink or deletion of the cask it names is placed (R75), service
has opened (R146), and this unit places writes when `role` asks for it (R160). -/
def takesIo (d : Device) (fn q op : Nat) (x : DescState) (role : Bool := true) : Bool :=
  !d.descGated fn q op && d.takes fn q op x && d.rst.svcOpen && (!role || d.placesWrites)

/-- `takes` on queue 0 for a function command: once service is open, or from an admin-capable PF (R146). -/
def takesFn (d : Device) (fn op : Nat) (x : DescState) : Bool := d.takes fn 0 op x && (d.rst.svcOpen || d.isAdmin fn)

/-- `takesDev` for a command whose work is the duty of a management core that runs (R20). -/
def takesCore (d : Device) (core fn op : Nat) (x : DescState) : Bool := d.coreUp core && d.takesDev fn op x

/-- `takesDev` for a cask or grant command: none is in progress, none reached the HUB before it, service is open, the device is no member of a
shared cascade and this unit places writes (R70, R146, R160, R493). -/
def takesCask (d : Device) (fn op : Nat) (x : DescState) : Bool :=
  d.csk.jobs.isEmpty && d.caskTurn fn op && d.takesDev fn op x && d.rst.svcOpen && !(d.cascadeMember && d.cascadeShared) && d.placesWrites

/-- The device in which the cask or grant command of descriptor `seq` runs with its record (R70). -/
def withJob (d : Device) (fn seq : Nat) (m : MetaOp) : Device :=
  { d with csk := { d.csk with jobs := [{ tok := .desc fn 0 seq, op := m, placed := false }] } }.runJobs

/-- The next frame of the link sequence, or the first since link-up, arrives with a right CRC on a link that is up, finds cells, and nothing is to
be skipped; a unit to which no vintage comes takes any frame (R178, R229, R237). -/
def hears (d : Device) (lseq : Nat) : Bool :=
  d.mir.linkUp && !d.qmg.bad.contains 0x41 && d.mayReserve 0x41 frameMax 0x410 &&
    (!d.vintagesCome || ((d.mir.rxFirst || lseq == (d.mir.rxLseq + 1) % 4294967296) && !d.mir.rxSkip))

/-- The device that has taken such a frame. -/
def heard (d : Device) (lseq : Nat) : Device := d.setMir { d.mir with lastGoodAt := d.now, rxLseq := lseq, rxFirst := false }

/-- The device that has taken a RoCEv2 packet from its ingress queue, its QP's context read and a congestion mark noted (R246, R253, R260). -/
def heardRoce (d : Device) (p : RoceIn) : Device :=
  let e := (d.popIngress p.iface p.prio).1.touchQpc (p.qpn % 1048576)
  let mark := (d.popIngress p.iface p.prio).2.elim false (·.1)
  if p.ce || (mark && e.flag Fld.NET_P_ECN_LOCAL_CE (p.iface / 8)) then e.noteCongested (p.qpn % 1048576) (p.iface / 8) else e

/-- A RoCEv2 packet reaches the QP `q` that it names: the hub runs and takes requests, the packet leaves its ingress queue whole, and its ICRC, QPN
and P_Key are right (R246, R251). -/
def hearsRoce (d : Device) (p : RoceIn) (q : Qp) : Bool :=
  let e := d.popIngress p.iface p.prio
  d.hubOn && !d.portStopped && p.icrc && e.2.any (fun x => !x.2) && (e.1.qp? p.qpn).any (fun x => leAt x.attr 6 2 == p.pkey) &&
    (d.heardRoce p).net.qps.find? (p.qpn % 1048576) == some q

/-- Whether a PDT packet counts as congested: a data packet with CE, or one that its port has marked (R283). -/
def pdtCe (d : Device) (op : Nat) (p : PdtIn) : Bool :=
  let e := d.popIngress p.iface p.prio
  pdtData? op && (p.ce || (e.2.elim false (·.1) && (e.1.bumpPdt 1).flag Fld.NET_P_ECN_LOCAL_CE (p.iface / 8)))

/-- The packet as its engine takes it: CE says whether it counts as congested. -/
def seenPdt (d : Device) (op : Nat) (p : PdtIn) : PdtIn := { p with ce := d.pdtCe op p }

/-- The device that has taken a PDT packet from its ingress queue and counted it. -/
def heardPdt (d : Device) (op : Nat) (p : PdtIn) : Device :=
  let e := (d.popIngress p.iface p.prio).1.bumpPdt 1
  if d.pdtCe op p then e.bumpPair Reg.NET_P_CE_LO 1 (p.iface / 8) else e

/-- A PDT packet reaches the endpoint that it names: the hub runs and takes requests, PDT is on, and the packet is right and without a poisoned
word (R229, R271, R274). -/
def hearsPdt (d : Device) (p : PdtIn) : Bool :=
  let e := d.popIngress p.iface p.prio
  d.hubOn && !d.portStopped && p.ok && e.2.any (fun x => !x.2) && (e.1.bumpPdt 1).pdt.on && ((e.1.bumpPdt 1).ep? p.dst).isSome

/-- A PDT request reaches flow `f` in a unit that serves: its key slot is ready and its queue is not broken, and no BUSY answers it (R230, R285,
R295, R297); `e` is the device then, an ECE of the packet taken (R284). -/
def takesPdt (d : Device) (op : Nat) (p : PdtIn) (f : PdtRx) (e : Device) : Bool :=
  let h := d.heardPdt op p
  d.hearsPdt p && !h.pdtKeyPending op (d.seenPdt op p) && !(op != 9 && (h.queue (h.groupQ p.dst)).state == 3) &&
    h.pdtBusy (h.rx? p.dst p.src).isNone == none &&
    (h.pdtFlow (d.seenPdt op p) (d.pdtCe op p)).map (fun x => (x.1, if natBit p.flags 13 then x.2.takeEce p.dst p.src else x.2)) == some (f, e)

/-- A Trellis frame is taken, and `e` is the device that has taken it: another device of the cascade sent it, to this one or to all, it finds cells
and has no poisoned word, and it is the next of its sender, or of a kind that carries no sequence (R229, R237, R489–R491). -/
def takesTrl (d : Device) (f : TrlIn) (b : TrlBody) (e : Device) : Bool :=
  d.trlReaches f && !d.qmg.bad.contains (0x43 + 2 * f.port) && d.mayReserve (0x43 + 2 * f.port) frameMax (0x420 + f.port) && (f.dest == d.trl.id || f.dest == 255) && (d.trlHeard f b).trlNext f b.kind == some e

/-- An update or profile command that its queue takes, with no FW_BEGIN erasing and no bottling latched (R451). -/
def takesFlash (d : Device) (fn op : Nat) (x : DescState) : Bool := d.fws.job.isNone && d.takesDev fn op x && !(d.beginDesc fn 0 op x).flashBarred

/-- A write of `v` by an agent reaches instance `inst` of the register at `off`, no lock or rule of its table stands against it, and its
alignment is right. -/
def accepts (d : Device) (agent off inst : Nat) (v : Word) : Bool :=
  d.reach agent off == 0 && off % 4 == 0 && inBlocks off &&
    (match regSpec? off with
      | some r => d.winInst agent off r false == some inst && !d.quietIgnored off inst false v &&
          d.rangeOk off inst (written r (d.rwlLocked off) (keepsWo off) (d.reg off inst) v) &&
          !lockedDiffers r (d.rwlLocked off) (d.reg off inst) v
      | none => false)

/-- The device with the register holding what its access codes make of a write of `v` (R9, R10). -/
def stored (d : Device) (off inst : Nat) (v : Word) : Device :=
  match regSpec? off with
  | some r => d.setReg off (written r (d.rwlLocked off) (keepsWo off) (d.reg off inst) v) inst
  | none => d

end Device
end Sys2Proof.Machine
end

