-- ==== Sys2Proof/Certificates/Slice0/Obligations.lean ====
section
/-! DEFINITION. The statements for the provers. `Gives c s d`: command `c` at state `s` answers the next state whose device is `d`, with the
queue of waiting commands as it was; so a statement in that form says the whole next state, what changes and what does not. -/

open Sys2Proof Sys2Proof.Machine Sys2Proof.Machine.Device

/-! ### The machine as a whole -/

/-- A step takes the command at the front of the queue and answers what `exec` answers for it with the queue's rest. -/
def Obligations.StepRunsTheFrontCommand : Prop :=
  ∀ (c : Instr) (s : State), step { s with pending := c :: s.pending } = exec c s

/-- On an empty queue one microsecond passes and the admission state is recomputed while HUB is powered (R114); nothing else happens while no
erase of an FW_BEGIN is due, no seal waits for its spacing (R50), no re-plan may start (R473) and no DRAM training has ended (R136), which
leads to the spine load. The idle step is the model's choice (log 5). -/
def Obligations.AnEmptyQueueIdles : Prop :=
  ∀ s : State, s.pending = [] →
    let d := if s.dev.hubOn then (s.dev.advance 1).reevalAdmit else s.dev.advance 1
    d.fws.job = none → d.pst.sealDue = none →
    (¬(d.rst.phase = 1 ∧ d.hubOn = true ∧ d.hold.bottle = none) → d.planWaiting = d → step s = .next { s with dev := d }) ∧
    (d.rst.phase = 1 → d.hubOn = true → d.hold.bottle = none →
      step s = .next { s with dev := (d.setRst { d.rst with phase := 2 }).planWaiting })

/-- After reset memory lists nothing and reads 0 at every address, no register is away from its Reset value, the two maps are in their
canonical form, and no command waits. What memory reads as is the model's choice (log 3). -/
def Obligations.ResetIsCanonical : Prop :=
  State.reset.memWf = true ∧ State.reset.regsWf = true ∧ State.reset.pending = [] ∧ (∀ k, State.reset.dev.memByte k = 0) ∧
  (∀ off r inst, off ≠ Reg.HRG_FN_CFG → off < 67108864 → regSpec? off = some r → State.reset.dev.reg off inst = specReset r)

/-- Every step keeps the canonical forms: whatever the state and the command, memory lists its cells in strictly rising order and none that
holds what an unlisted cell reads as, and so does the register file over the Reset values; the clock and the record of what the device has
driven never go back. -/
def Obligations.EveryStepKeepsTheForm : Prop :=
  ∀ s t : State, s.memWf = true → s.regsWf = true → step s = .next t →
    t.memWf = true ∧ t.regsWf = true ∧ s.dev.now ≤ t.dev.now ∧ ∃ l, t.dev.out = l ++ s.dev.out

/-! ### Registers and the management port -/

/-- A register write that is accepted (R8–R13): the register takes what its access codes make of the value, the effect that its table gives
follows, and MGT_ALERT_N follows its causes (R544). Another width or alignment has no effect but bit 1 of GEN_INT_STATUS, the record of the
access and its event (R8); a write that a rule of its table refuses changes nothing and is recorded (R9). A write in BAR4 changes the MSI-X
table (R198); a masked vector sets its pending bit, and is sent when it is unmasked (R200). A write in a function's configuration space
changes nothing (R198). -/
def Obligations.RegisterWrites : Prop :=
  (∀ (agent off inst : Nat) (v : Word) (m : MediaAns) (s : State), s.dev.accepts agent off inst v = true →
    Gives (.registerWrite agent off 4 v m) s
      (((s.dev.stored off inst v).writeEffect agent off inst (s.dev.reg off inst) v m).noteAlert s.dev.alertOn)) ∧
  (∀ (agent off width : Nat) (v : Word) (m : MediaAns) (s : State), s.dev.reach agent off = 0 → off < bar4 → (width ≠ 4 ∨ off % 4 ≠ 0) →
    Gives (.registerWrite agent off width v m) s (s.dev.badWidth agent off true v)) ∧
  (∀ (agent off inst : Nat) (r : RegSpec) (v : Word) (m : MediaAns) (s : State), s.dev.reach agent off = 0 → off % 4 = 0 → inBlocks off = true →
    regSpec? off = some r → s.dev.winInst agent off r false = some inst → s.dev.quietIgnored off inst false v = false →
    s.dev.rangeOk off inst (written r (s.dev.rwlLocked off) (keepsWo off) (s.dev.reg off inst) v) = false →
    Gives (.registerWrite agent off 4 v m) s (s.dev.eventIgnored off v agent)) ∧
  (∀ (agent off : Nat) (v : Word) (m : MediaAns) (s : State), s.dev.reach agent off = 0 → off < bar4 → off % 4 = 0 →
    (inBlocks off = false ∨ regSpec? off = none) → Gives (.registerWrite agent off 4 v m) s (s.dev.reservedWrite agent off v)) ∧
  (∀ (fn x : Nat) (v : Word) (m : MediaAns) (s : State), fn < 1024 → s.dev.hubOn = true → s.dev.fnExists fn = true → x < 8192 → x % 4 = 0 →
    Gives (.registerWrite fn (bar4 + x) 4 v m) s (s.dev.writeMsix fn x v)) ∧
  (∀ (fn x width : Nat) (v : Word) (m : MediaAns) (s : State), fn < 1024 → Gives (.registerWrite fn (pciCfg + x) width v m) s s.dev) ∧
  (∀ (d : Device) (fn vec : Nat) (e : MsixEntry), AMap.wf (fun _ => MsixEntry.blank) d.hrg.msix = true → d.fnStopped fn = false →
    (d.setMsix fn vec e).msixEntry fn vec = e ∧
    (d.hrg.msixPend.contains (512 * fn + vec) = true → e.masked = false → (d.setMsix fn vec e).out = .msix fn vec :: d.out) ∧
    (e.masked = true → (d.setMsix fn vec e).out = d.out ∧
      (((d.setMsix fn vec e).msix fn vec).hrg.msixPend.contains (512 * fn + vec) = true ∧ ((d.setMsix fn vec e).msix fn vec).out = d.out)))

/-- A read by an agent: the value is driven; a read of a _LO word latches its partner, which the agent's next read of it takes (R64); RC
fields clear (R10); a read of SUP_CAP_DATA moves OFFSET on by 4 (R412); a read in BAR4 gives a word of the MSI-X table or of the pending bits
(R198), and two words of a function's configuration space give its IDs (R198). -/
def Obligations.RegisterReads : Prop :=
  (∀ (agent off inst : Nat) (r : RegSpec) (s : State), s.dev.reach agent off = 0 → off % 4 = 0 → inBlocks off = true → regSpec? off = some r →
    s.dev.winInst agent off r false = some inst →
    Gives (.rcRead agent off 4) s ((s.dev.readInst agent off inst r).2.emit (.regRead agent off (s.dev.readInst agent off inst r).1))) ∧
  (∀ (agent off inst : Nat) (r : RegSpec) (s : State), s.dev.reach agent off = 0 → off % 4 = 0 → inBlocks off = true → regSpec? off = some r →
    s.dev.winInst agent off r false = some inst → isPairLo off = true → s.dev.latches.find? (rkey agent off) = none →
    Reaches (.loReadLatch agent off) s (fun d =>
      d.latches.find? (rkey agent (off + 4)) = some (s.dev.liveReg agent (off + 4) inst) ∧
      d.out.head? = some (.regRead agent off (BitVec.ofNat 32 (Nat.land (s.dev.liveReg agent off inst).toNat (4294967295 - accMask r (· == .wo))))))) ∧
  (∀ (agent off inst : Nat) (r : RegSpec) (h : Word) (s : State), s.dev.reach agent off = 0 → off % 4 = 0 → inBlocks off = true →
    regSpec? off = some r → s.dev.winInst agent off r false = some inst → s.dev.latches.find? (rkey agent off) = some h →
    Gives (.rcRead agent off 4) s
      ({ s.dev with latches := s.dev.latches.del (rkey agent off) }.emit (.regRead agent off h))) ∧
  (∀ (fn x : Nat) (s : State), fn < 1024 → s.dev.hubOn = true → s.dev.fnExists fn = true → x < 8192 → x % 4 = 0 →
    Gives (.rcRead fn (bar4 + x) 4) s (s.dev.emit (.regRead fn (bar4 + x) (s.dev.msixWord fn x)))) ∧
  (∀ (fn : Nat) (s : State), fn < 1024 → s.dev.hubOn = true → s.dev.fnExists fn = true →
    Gives (.rcRead fn pciCfg 4) s (s.dev.emit (.regRead fn pciCfg (s.dev.pciId fn))) ∧
    Gives (.rcRead fn (pciCfg + 0x2C) 4) s (s.dev.emit (.regRead fn (pciCfg + 0x2C) s.dev.pciSub))) ∧
  (∀ (agent : Nat) (s : State), s.regsWf = true → s.dev.reach agent Reg.SUP_CAP_DATA = 0 → s.dev.latches.find? (rkey agent Reg.SUP_CAP_DATA) = none →
    Reaches (.capDataRead agent) s (fun d =>
      d.fld Fld.SUP_CAP_ADDR_OFFSET agent = (s.dev.fld Fld.SUP_CAP_ADDR_OFFSET agent + 4) % 2 ^ (Fld.SUP_CAP_ADDR_OFFSET.hi + 1 - Fld.SUP_CAP_ADDR_OFFSET.lo)))

/-- The transactions of the management port (R542, R543): ADDR sets the pointer; WRITE writes the register at the pointer, READ answers its
status and data, and both move the pointer on by 4. A bridge access that SUP does not answer (R540): a read gives zero, a write has no effect
on the register; bit 2 of GEN_INT_STATUS and the record of the access are set, with an event. Over the I3C/SMBus port the read's status is
BRIDGE (R543). -/
def Obligations.ManagementPort : Prop :=
  ((∀ (m : MgtIn) (v : Word) (s : State), s.dev.sup.supOn = true → m.ok = true → (s.dev.i3cForm ≠ 2 ∨ m.i3c = true) →
    Gives (.i3cAddr m v) s { s.dev with i3cForm := if m.i3c then 2 else 1, i3cIbi := m.i3c && m.ibi, i3cPtr := v.toNat }) ∧
  (∀ (m : MgtIn) (v : Word) (a : MediaAns) (s : State), s.dev.sup.supOn = true → m.ok = true → (s.dev.i3cForm ≠ 2 ∨ m.i3c = true) →
    Gives (.i3cWrite m v a) s
      ((({ s.dev with i3cForm := if m.i3c then 2 else 1, i3cIbi := m.i3c && m.ibi } : Device).writeCmd 1024 s.dev.i3cPtr 4 v a).nextPtr)) ∧
  (∀ (m : MgtIn) (s : State), s.dev.sup.supOn = true → m.ok = true → (s.dev.i3cForm ≠ 2 ∨ m.i3c = true) → s.dev.reach 1024 s.dev.i3cPtr ≠ 0 →
    s.dev.i3cPtr % 4 ≠ 0 → Gives (.i3cRead m) s
      (((({ s.dev with i3cForm := if m.i3c then 2 else 1, i3cIbi := m.i3c && m.ibi } : Device).badWidth 1024 s.dev.i3cPtr false 0).emit
        (.i3cRead (s.dev.reach 1024 s.dev.i3cPtr) 0)).nextPtr)) ∧
  (∀ (m : MgtIn) (s : State), s.dev.sup.supOn = true → m.ok = true → (s.dev.i3cForm ≠ 2 ∨ m.i3c = true) → s.dev.reach 1024 s.dev.i3cPtr ≠ 0 →
    s.dev.i3cPtr % 4 = 0 → Gives (.i3cRead m) s
      { s.dev with i3cForm := if m.i3c then 2 else 1, i3cIbi := m.i3c && m.ibi, i3cPtr := (s.dev.i3cPtr + 4) % 4294967296
                   out := .i3cRead (s.dev.reach 1024 s.dev.i3cPtr) 0 :: s.dev.out }) ∧
  (∀ (m : MgtIn) (v : Word) (s : State), s.dev.sup.supOn = true → m.ok = false → m.i3c = false → s.dev.i3cForm ≠ 2 →
    Gives (.i3cAddr m v) s { s.dev with i3cForm := 1, i3cIbi := false, out := .i3cNack :: s.dev.out }) ∧
  (∀ (m : MgtIn) (s : State), s.dev.sup.supOn = true → m.ok = true → (s.dev.i3cForm ≠ 2 ∨ m.i3c = true) → s.dev.reach 1024 s.dev.i3cPtr = 0 →
    Gives (.i3cRead m) s
      (let d : Device := { s.dev with i3cForm := if m.i3c then 2 else 1, i3cIbi := m.i3c && m.ibi }
       ((d.readReg 1024 s.dev.i3cPtr false).2.emit (.i3cRead 0 (d.readReg 1024 s.dev.i3cPtr false).1)).nextPtr))) ∧
  ((∀ (agent off : Nat) (v : Word) (s : State), agent ≠ 1024 → s.dev.reach agent off = 0 → inBlocks off = true → staysPowered off = true →
    Gives (.bridgeTimeout agent off true v) s (s.dev.bridgeTimeout agent off true v) ∧
    Gives (.bridgeTimeout agent off false v) s ((s.dev.bridgeTimeout agent off false v).emit (.regRead agent off 0))) ∧
  (∀ (off : Nat) (v : Word) (s : State), s.dev.reach 1024 s.dev.i3cPtr = 0 → s.dev.hubOn = true →
    Gives (.bridgeTimeout 1024 off false v) s (((s.dev.bridgeTimeout 1024 s.dev.i3cPtr false v).emit (.i3cRead 3 0)).nextPtr) ∧
    Gives (.bridgeTimeout 1024 off true v) s
      (((s.dev.bridgeTimeout 1024 s.dev.i3cPtr true v).accessEvent 3 1 (s.dev.i3cPtr / 65536) 1024 s.dev.i3cPtr v).nextPtr)))

/-- A bridge access of a function that SUP has not answered (R540): a read returns zero; a write is dropped, so that no register of the bridge
window is written, the count of lost events aside (R466); GEN_INT_STATUS.BRIDGE sets; the access is recorded in GEN_LAST_ERR0 and
GEN_LAST_ERR1; memory is not touched. -/
def Obligations.UnansweredBridgeAccess : Prop :=
  ∀ (agent off : Nat) (write : Bool) (v : Word) (s : State), agent < 1024 → off < 67108864 → s.dev.reach agent off = 0 → inBlocks off = true →
    staysPowered off = true → s.regsWf = true →
    Reaches (.bridgeTimeout agent off write v) s (fun d =>
      (write = false → d.out.head? = some (.regRead agent off 0)) ∧
      (∀ o i, staysPowered o = true → o < 67108864 → o ≠ Reg.EVR_FIFO_LOST → d.reg o i = s.dev.reg o i) ∧
      d.flag Fld.GEN_INT_STATUS_BRIDGE = true ∧
      d.fld Fld.GEN_LAST_ERR0_OFFSET = off ∧ d.fld Fld.GEN_LAST_ERR1_KIND = 3 ∧ d.fld Fld.GEN_LAST_ERR1_WRITE = b2n write ∧
      d.fld Fld.GEN_LAST_ERR1_AGENT = agent ∧ d.mem = s.dev.mem)


/-! ### Commands that are writes of registers -/

/-- The register commands of GEN, PST, CSK, MIR, QMG, NET and the host rings, when their write is accepted: LOCK_ALL (R546), SEAL_NOW (R40),
CSK_LK_GO (R102), PST_PLAN_WRITE (R130), FILL_EN_WRITE (R149), RST_CLEAR (R154), HANDBACK_NOW (R191), MIR_DETACH (R162), MIR_JOIN (R188), each
of which waits while MC2 is stopped (R20), HRG_FN_RESET_GO (R218), AQ_ENABLE (R201), QMG_RECLAIM_GO (R233), NET_P_MODE_WRITE (R245). The
register commands that a function writes in its own page (R198): its reset (R218), and the creation of its queue 0 (R201). -/
def Obligations.HostAndOwnRegisterCommands : Prop :=
  (∀ (agent inst : Nat) (s : State),
    (s.dev.accepts agent Reg.GEN_CTRL inst 0x80000000 = true →
      Gives (.lockAll agent) s (((s.dev.stored Reg.GEN_CTRL inst 0x80000000).lockAll).noteAlert s.dev.alertOn)) ∧
    (s.dev.accepts agent Reg.PST_VINT_CTRL inst 1 = true →
      Gives (.sealNow agent) s ((((s.dev.stored Reg.PST_VINT_CTRL inst 1).trySeal .forced).settle).noteAlert s.dev.alertOn)) ∧
    (s.dev.accepts agent Reg.CSK_LK_CTRL inst 1 = true →
      Gives (.cskLkGo agent) s (((s.dev.stored Reg.CSK_LK_CTRL inst 1).lookup agent).noteAlert s.dev.alertOn)) ∧
    (∀ value : Word, s.dev.accepts agent Reg.PST_PLAN_A inst value = true →
      Gives (.pstPlanWrite agent 0 value) s (((s.dev.stored Reg.PST_PLAN_A inst value).planWritten).noteAlert s.dev.alertOn)) ∧
    (∀ value : Word, s.dev.accepts agent Reg.PST_PLAN_B inst value = true →
      Gives (.pstPlanWrite agent 1 value) s (((s.dev.stored Reg.PST_PLAN_B inst value).planWritten).noteAlert s.dev.alertOn)) ∧
    (∀ value : Word, s.dev.accepts agent Reg.PST_PLAN_C inst value = true →
      Gives (.pstPlanWrite agent 2 value) s (((s.dev.stored Reg.PST_PLAN_C inst value).planWritten).noteAlert s.dev.alertOn)) ∧
    (∀ value : Word, s.dev.accepts agent Reg.SUP_HV_BOTTLE inst value = true →
      Gives (.pstPlanWrite agent 3 value) s (((s.dev.stored Reg.SUP_HV_BOTTLE inst value).planWritten).noteAlert s.dev.alertOn)) ∧
    (∀ value : Word, s.dev.accepts agent Reg.PST_RST_CTRL inst value = true →
      Gives (.fillEnWrite agent value) s (((s.dev.stored Reg.PST_RST_CTRL inst value).runWaves).noteAlert s.dev.alertOn)) ∧
    (s.dev.accepts agent Reg.PST_RST_CLEAR inst 0xD15C0001 = true → s.dev.rst.phase = 8 →
      Gives (.rstClear agent 0xD15C) s (((s.dev.stored Reg.PST_RST_CLEAR inst 0xD15C0001).rstClear).noteAlert s.dev.alertOn)) ∧
    (s.dev.accepts agent Reg.MIR_CMD inst 4 = true → s.dev.coreUp 2 = true →
      Gives (.handbackNow agent) s (((s.dev.stored Reg.MIR_CMD inst 4).startHandback).noteAlert s.dev.alertOn)) ∧
    (s.dev.accepts agent Reg.MIR_CMD inst 1 = true → s.dev.coreUp 2 = true → s.dev.mir.role = .standby ∨ s.dev.mir.role = .resync ∨ s.dev.mir.role = .fenced →
      Gives (.mirDetach agent) s (((s.dev.stored Reg.MIR_CMD inst 1).setRole .detached).noteAlert s.dev.alertOn)) ∧
    (s.dev.accepts agent Reg.MIR_CMD inst 2 = true → s.dev.coreUp 2 = true → s.dev.mir.role = .detached ∨ s.dev.mir.role = .fenced →
      Gives (.mirJoin agent) s (((s.dev.stored Reg.MIR_CMD inst 2).sendJoin).noteAlert s.dev.alertOn)) ∧
    (s.dev.coreUp 2 = false →
      (s.dev.accepts agent Reg.MIR_CMD inst 4 = true →
        Gives (.handbackNow agent) s (((s.dev.stored Reg.MIR_CMD inst 4).mc2Wait (.cmd agent 4)).noteAlert s.dev.alertOn)) ∧
      (s.dev.accepts agent Reg.MIR_CMD inst 1 = true →
        Gives (.mirDetach agent) s (((s.dev.stored Reg.MIR_CMD inst 1).mc2Wait (.cmd agent 1)).noteAlert s.dev.alertOn)) ∧
      (s.dev.accepts agent Reg.MIR_CMD inst 2 = true →
        Gives (.mirJoin agent) s (((s.dev.stored Reg.MIR_CMD inst 2).mc2Wait (.cmd agent 2)).noteAlert s.dev.alertOn))) ∧
    (agent = 1024 ∨ s.dev.isAdmin agent = true → s.dev.accepts agent Reg.HRG_FN_RESET inst 1 = true →
      Gives (.hrgFnResetGo agent) s (((s.dev.stored Reg.HRG_FN_RESET inst 1).startFnReset [] inst).noteAlert s.dev.alertOn)) ∧
    (∀ value : Word, agent = 1024 ∨ s.dev.isAdmin agent = true → s.dev.accepts agent Reg.HRG_AQ_CFG inst value = true →
      Gives (.aqEnable agent value) s (((s.dev.stored Reg.HRG_AQ_CFG inst value).aqEnable inst (bitAt value 31)).noteAlert s.dev.alertOn)) ∧
    (∀ owner, owner < 4096 → s.dev.accepts agent Reg.QMG_RECLAIM inst (BitVec.ofNat 32 (1073741824 + owner)) = true →
      s.dev.qmg.reclaims.any (fun r => r.tag == owner) = false →
      Gives (.qmgReclaimGo agent owner) s
        (((s.dev.stored Reg.QMG_RECLAIM inst (BitVec.ofNat 32 (1073741824 + owner))).reclaim owner).noteAlert s.dev.alertOn)) ∧
    (∀ value : Word, s.dev.accepts agent Reg.NET_P_MODE inst value = true →
      Gives (.netPModeWrite agent value) s (((s.dev.stored Reg.NET_P_MODE inst value).npDown inst).noteAlert s.dev.alertOn))) ∧
  ((∀ (fn : Nat) (s : State), fn ≠ 1024 → s.dev.isAdmin fn = false → s.dev.ownPage fn (Reg.HRG_FN_RESET - Reg.HRG_FN_CFG) = true →
    Gives (.hrgFnResetGo fn) s (((s.dev.stored Reg.HRG_FN_RESET fn 1).startFnReset [] fn).noteAlert s.dev.alertOn)) ∧
  (∀ (fn : Nat) (value : Word) (s : State), fn ≠ 1024 → s.dev.isAdmin fn = false →
    s.dev.ownPage fn (Reg.HRG_AQ_CFG - Reg.HRG_FN_CFG) = true → s.dev.quietIgnored Reg.HRG_AQ_CFG fn true value = false →
    Gives (.aqEnable fn value) s (((s.dev.stored Reg.HRG_AQ_CFG fn value).aqEnable fn (bitAt value 31)).noteAlert s.dev.alertOn)))

/-- The register commands of DRM, CEL, CPH, AGE and FWS, when their write is accepted: DRM_TSET_GO on the selected channel or on all (R328,
R329), CEL_RAW_GO (R348), KEY_LOAD, KEY_GENERATE and KEY_ERASE (R371), AGE_PLAN_NOW (R473), FWS_READ (R448), FWS_PROGRAM and FWS_ERASE (R449),
FWS_COMMIT (R455). The register commands of SUP, when their write is accepted: SUP_HU_GO (R106), PWR_CMD_ON (R393), PWR_CMD_OFF (R405),
MARGIN_WRITE (R408), MARGIN_UNLOCK_WRITE (R409), CAP_CLEAR_WRITE (R412), PWR_TARGET_MODE (R421), PWR_TARGET_WAKE (R432). Those that SC
performs act at once while SC runs; while it is stopped they wait for it in the order of the writes (R540). -/
def Obligations.MediaAndSupplyRegisterCommands : Prop :=
  (∀ (agent inst : Nat) (s : State),
    (∀ all : Bool, s.dev.accepts agent Reg.DRM_TSET_CMD inst (BitVec.ofNat 32 (2147483648 + b2n all * 1073741824)) = true →
      s.dev.hold.supply = .normal → s.dev.hold.bottle = none → s.dev.drm.walk = none →
      Gives (.drmTsetGo agent all) s
        (let d := s.dev.stored Reg.DRM_TSET_CMD inst (BitVec.ofNat 32 (2147483648 + b2n all * 1073741824))
         let c := d.fld Fld.DRM_CHSEL_CH agent
         (d.tsetGo (if all then d.liveChans else if d.chLive c then [c] else [])).noteAlert s.dev.alertOn)) ∧
    (∀ (sq block : Nat) (m : MediaAns), s.dev.accepts agent Reg.CEL_L_RAW_CMD inst (BitVec.ofNat 32 (2147483648 + sq % 64 * 1048576 + block % 1048576)) = true →
      Gives (.celRawGo agent sq block m) s
        (((s.dev.stored Reg.CEL_L_RAW_CMD inst (BitVec.ofNat 32 (2147483648 + sq % 64 * 1048576 + block % 1048576))).rawGo agent
          { status := m.status, ready := m.ready, ldpc := m.ldpc, din := m.din }).noteAlert s.dev.alertOn)) ∧
    (s.dev.accepts agent Reg.CPH_K_CMD inst 0x80000000 = true →
      Gives (.keyLoad agent) s (((s.dev.stored Reg.CPH_K_CMD inst 0x80000000).keyCmd agent 0).noteAlert s.dev.alertOn)) ∧
    (s.dev.accepts agent Reg.CPH_K_CMD inst 0x80000001 = true →
      Gives (.keyGenerate agent) s (((s.dev.stored Reg.CPH_K_CMD inst 0x80000001).keyCmd agent 1).noteAlert s.dev.alertOn)) ∧
    (s.dev.accepts agent Reg.CPH_K_CMD inst 0x80000002 = true →
      Gives (.keyErase agent) s (((s.dev.stored Reg.CPH_K_CMD inst 0x80000002).keyCmd agent 2).noteAlert s.dev.alertOn)) ∧
    (∀ value : Word, bitAt value 30 = true → s.dev.accepts agent Reg.AGE_CTRL inst value = true →
      Gives (.agePlanNow agent value) s (((s.dev.stored Reg.AGE_CTRL inst value).replan).noteAlert s.dev.alertOn)) ∧
    (∀ ecc, s.dev.coreUp 8 = true → s.dev.accepts agent Reg.FWS_CMD inst 0x80000000 = true →
      Gives (.fwsRead agent ecc) s (((s.dev.stored Reg.FWS_CMD inst 0x80000000).fwsGo agent 0 ecc).noteAlert s.dev.alertOn)) ∧
    (s.dev.coreUp 8 = true → s.dev.accepts agent Reg.FWS_CMD inst 0x80000001 = true →
      Gives (.fwsProgram agent) s (((s.dev.stored Reg.FWS_CMD inst 0x80000001).fwsGo agent 1 0).noteAlert s.dev.alertOn)) ∧
    (s.dev.coreUp 8 = true → s.dev.accepts agent Reg.FWS_CMD inst 0x80000002 = true →
      Gives (.fwsErase agent) s (((s.dev.stored Reg.FWS_CMD inst 0x80000002).fwsGo agent 2 0).noteAlert s.dev.alertOn)) ∧
    (s.dev.coreUp 8 = true → s.dev.accepts agent Reg.FWS_CMD inst 0x80000003 = true →
      Gives (.fwsCommit agent) s (((s.dev.stored Reg.FWS_CMD inst 0x80000003).fwsGo agent 3 0).noteAlert s.dev.alertOn))) ∧
  (∀ (agent inst key : Nat) (s : State), s.dev.coreUp 8 = false →
    s.dev.accepts agent Reg.SUP_PWR_CMD inst (BitVec.ofNat 32 (key % 65536 * 65536 + 2)) = true →
    Gives (.pwrCmdOff agent key) s
      (((s.dev.stored Reg.SUP_PWR_CMD inst (BitVec.ofNat 32 (key % 65536 * 65536 + 2))).setSup
        { s.dev.sup with scWait := s.dev.sup.scWait ++ [(agent, Reg.SUP_PWR_CMD, inst, BitVec.ofNat 32 (key % 65536 * 65536 + 2), 0)] }).noteAlert
          s.dev.alertOn)) ∧
  (∀ (agent inst : Nat) (s : State), s.dev.coreUp 8 = true →
    (∀ value : Word, bitAt value 0 = true → s.dev.accepts agent Reg.SUP_HU_CTRL inst value = true →
      Gives (.supHuGo agent value) s (((s.dev.stored Reg.SUP_HU_CTRL inst value).startSet).noteAlert s.dev.alertOn)) ∧
    (agent = 1024 → s.dev.accepts agent Reg.SUP_PWR_CMD inst 1 = true → s.dev.sup.state = .off →
      Gives (.pwrCmdOn agent) s
        ((((s.dev.stored Reg.SUP_PWR_CMD inst 1).setSup { s.dev.sup with state := .holdoff }).supplyNormal).noteAlert s.dev.alertOn)) ∧
    (s.dev.accepts agent Reg.SUP_PWR_CMD inst 0xA5A50002 = true → s.dev.sup.state = .on → s.dev.hold.bottle = none →
      Gives (.pwrCmdOff agent 0xA5A5) s (((s.dev.stored Reg.SUP_PWR_CMD inst 0xA5A50002).startFlush false).noteAlert s.dev.alertOn)) ∧
    (∀ steps, steps < 32 → s.dev.accepts agent Reg.SUP_R_MARGIN inst (BitVec.ofNat 32 steps) = true →
      Gives (.marginWrite agent steps) s
        ((((s.dev.stored Reg.SUP_R_MARGIN inst (BitVec.ofNat 32 steps)).setReg Reg.SUP_R_MARGIN (s.dev.reg Reg.SUP_R_MARGIN inst) inst).marginWrite
          agent inst steps).noteAlert s.dev.alertOn)) ∧
    (s.dev.accepts agent Reg.SUP_MARGIN_UNLOCK inst 0x3A5C0000 = true → (s.dev.stored Reg.SUP_MARGIN_UNLOCK inst 0x3A5C0000).flag Fld.SUP_SEQ_CTRL_LOCK = false →
      Gives (.marginUnlockWrite agent 0x3A5C) s
        (((s.dev.stored Reg.SUP_MARGIN_UNLOCK inst 0x3A5C0000).setFld Fld.SUP_MARGIN_UNLOCK_UNLOCKED 1).noteAlert s.dev.alertOn)) ∧
    (s.dev.accepts agent Reg.SUP_CAP_CTRL inst 0xCA950001 = true →
      Gives (.capClearWrite agent 0xCA95) s
        (((s.dev.stored Reg.SUP_CAP_CTRL inst 0xCA950001).setSup { s.dev.sup with capsule := none }).noteAlert s.dev.alertOn)) ∧
    (∀ mode, 0 < mode → mode < 4 → agent ≠ 1024 → s.dev.accepts agent Reg.SUP_PWR_TARGET inst (BitVec.ofNat 32 mode) = true →
      Gives (.pwrTargetMode agent mode) s
        ((((s.dev.stored Reg.SUP_PWR_TARGET inst (BitVec.ofNat 32 mode)).setReg Reg.SUP_PWR_TARGET (s.dev.reg Reg.SUP_PWR_TARGET inst)).pwrRequest
          mode).noteAlert s.dev.alertOn)) ∧
    (s.dev.accepts 1024 Reg.SUP_PWR_TARGET inst 256 = true →
      Gives (.pwrTargetWake 1024) s
        ((((s.dev.stored Reg.SUP_PWR_TARGET inst 256).setReg Reg.SUP_PWR_TARGET (s.dev.reg Reg.SUP_PWR_TARGET inst)).wake 3).noteAlert s.dev.alertOn)))


/-! ### Host rings -/

/-- Doorbells and shadow tails (R202, R205, R207). An aligned tail doorbell of 4 or 8 bytes within the ring becomes the tail; one of another
width or alignment, beyond the ring, or of a queue that does not exist changes nothing but DB_ERR and its event; a head doorbell releases the
entries up to its index, and one beyond the entries posted is refused the same way; a poll takes the shadow tail as a doorbell, and the shadow
head of a CQ that stood full (R204). -/
def Obligations.Doorbells : Prop :=
  (∀ (fn q width value : Nat) (sq : Sq) (s : State), s.dev.fnExists fn = true → s.dev.fnStopped fn = false → s.dev.portStopped = false →
    s.dev.sq? fn q = some sq → width = 4 ∨ width = 8 → value < 2 ^ sq.log2 →
    Reaches (.sqDoorbell fn q 0 width value) s (fun d =>
      d.sq? fn q = some { sq with tail := value, poll := sq.poll || sq.shadow } ∧ d.regs = s.dev.regs ∧ d.mem = s.dev.mem)) ∧
  (∀ (fn q byte width value : Nat) (s : State), s.dev.fnExists fn = true → s.dev.fnStopped fn = false → s.dev.portStopped = false →
    (∀ sq, s.dev.sq? fn q = some sq → byte ≠ 0 ∨ (width ≠ 4 ∧ width ≠ 8) ∨ 2 ^ sq.log2 ≤ value) →
    Gives (.sqDoorbell fn q byte width value) s (s.dev.badDoorbell fn)) ∧
  (∀ (fn q width value n : Nat) (cq : Cq) (s : State), s.dev.fnExists fn = true → s.dev.fnStopped fn = false → s.dev.portStopped = false →
    s.dev.cq? fn q = some cq → width = 4 ∨ width = 8 → cqRelease cq value = some n →
    Gives (.cqDoorbell fn q 0 width value) s
      (let c := { cq with released := cq.released + n, unsig := if cq.released + n = cq.posted then 0 else cq.unsig }
       let d := (s.dev.putCq fn q c).drainCq fn q cq.wait.length
       if q = 0 then d.aqDrain fn else d)) ∧
  (∀ (fn q byte width value : Nat) (s : State), s.dev.fnExists fn = true → s.dev.fnStopped fn = false → s.dev.portStopped = false →
    (∀ cq, s.dev.cq? fn q = some cq → byte ≠ 0 ∨ (width ≠ 4 ∧ width ≠ 8) ∨ cqRelease cq value = none) →
    Gives (.cqDoorbell fn q byte width value) s (s.dev.badDoorbell fn)) ∧
  (∀ (cq : Cq) (value n : Nat), cqRelease cq value = some n →
    value < 2 ^ cq.log2 ∧ n ≤ cq.posted - cq.released ∧ (cq.released + n) % 2 ^ cq.log2 = value) ∧
  (∀ (cq : Cq) (value : Nat), 2 ^ cq.log2 ≤ value ∨
    cq.posted - cq.released < (value + 2 ^ cq.log2 - cq.released % 2 ^ cq.log2) % 2 ^ cq.log2 → cqRelease cq value = none) ∧
  (∀ (fn q tail head : Nat) (sq : Sq) (s : State), s.dev.sq? fn q = some sq → sq.shadow = true → sq.poll = true →
    s.dev.flag Fld.HRG_SHADOW_LO_EN fn = true → s.dev.fnStopped fn = false → tail % 65536 < 2 ^ sq.log2 →
    (∀ cq, s.dev.cq? fn q = some cq → cq.reread = false) →
    Reaches (.shadowTailPoll fn q tail head) s (fun d =>
      d.sq? fn q = some { sq with tail := tail % 65536 } ∧ d.out = .hostRead fn (s.dev.shadowSlot fn q) 8 :: s.dev.out ∧ d.regs = s.dev.regs)) ∧
  (∀ (fn q tail head n : Nat) (cq : Cq) (s : State), s.dev.cq? fn q = some cq → cq.reread = true → s.dev.flag Fld.HRG_SHADOW_LO_EN fn = true →
    s.dev.fnStopped fn = false → cqRelease { cq with reread := false } (head % 65536) = some n →
    Gives (.shadowTailPoll fn q tail head) s
      ((if head % 65536 = cq.released % 2 ^ cq.log2 then s.dev.putCq fn q { cq with reread := false }
        else s.dev.releaseCq fn q { cq with reread := false } n).takeShadowTail fn q tail)) ∧
  (∀ (fn q : Nat) (sq : Sq) (s : State), s.dev.sq? fn q = some sq → sq.shadow = true → sq.poll = true →
    s.dev.flag Fld.HRG_SHADOW_LO_EN fn = true → s.dev.fnStopped fn = false → sq.descs = [] → Device.hasWork sq = false → sq.tail < 65536 →
    Gives (.shadowPollIdle fn q sq.tail) s
      (let d := s.dev.waitUntil (sq.emptyAt + s.dev.fld Fld.HRG_POLL_IDLE_US)
       let d := (d.putSq fn q { sq with poll := false }).writeShadow fn q { sq with poll := false }
       d.emit (.hostRead fn (d.shadowSlot fn q) 8)))

/-- The fetch of a descriptor (R203, R204, R208, R237): DESCRIPTOR_FETCH fetches the next descriptor of the SQ whose turn the arbitration gives,
and only reads the shadow head of a full CQ again for another SQ; CELL_RESERVE_RETRY fetches it for an SQ whose cells were refused. A fetch with
work, room in the completion queue and cells for its host data takes the descriptor into the queue, reserves its cells and asks for its host
data; refused cells leave the queue as it is, waiting for the retry. Host data that arrives makes the descriptor ready; a failed read marks it,
sets HOST_ERR (R209) and rewinds its cells (R227). -/
def Obligations.DescriptorFetches : Prop :=
  (∀ (fn q : Nat) (words : List Word) (sq : Sq) (s : State), s.dev.sq? fn q = some sq →
    (s.dev.fetchTurn = some (fn, q) → Gives (.descriptorFetch fn q words) s ((s.dev.useTurn fn q).fetchDesc fn q words)) ∧
    (s.dev.fetchTurn ≠ some (fn, q) → Gives (.descriptorFetch fn q words) s (s.dev.rereadHead fn sq.cq)) ∧
    (sq.refused = true → Gives (.cellReserveRetry fn q words) s (s.dev.fetchDesc fn q words)) ∧
    (sq.refused = false → Gives (.cellReserveRetry fn q words) s s.dev)) ∧
  (∀ (fn q : Nat) (words : List Word) (sq : Sq) (d : Device), d.sq? fn q = some sq → d.mayFetch fn sq = true →
    let dw := (words ++ List.replicate 16 0).take 16
    (d.mayReserve sq.qmq (cellsFor (min (hostNeed dw) 1048576)) fn = true → d.refusedBy fn q dw = none →
      (∀ x ∈ sq.descs, d.refusedBy fn q x.dw = none) →
      let e := d.fetchDesc fn q words
      (∃ x, e.sq? fn q = some { sq with fetchSeq := sq.fetchSeq + 1, descs := sq.descs ++ [x], refused := false } ∧ x.seq = sq.fetchSeq ∧ x.dw = dw ∧
        x.phase = .fetched ∧ x.need = hostNeed dw ∧ x.hostErr = false) ∧
      e.out = (if hostNeed dw = 0 then d.out else .hostRead fn (dHaddr dw) (hostNeed dw) :: d.out) ∧ e.mem = d.mem) ∧
    (d.mayReserve sq.qmq (cellsFor (min (hostNeed dw) 1048576)) fn = false →
      d.fetchDesc fn q words = (d.refuseCells sq.qmq (cellsFor (min (hostNeed dw) 1048576))).putSq fn q { sq with refused := true })) ∧
  (∀ (d : Device) (fn q : Nat), d.fetchTurn = some (fn, q) → ∃ sq, ((256 * fn + q, sq) ∈ d.hrg.sqs ∧ q < 256) ∧ d.mayFetch fn sq = true ∧
    sq.refused = false) ∧
  (∀ (fn q seq : Nat) (sgl : List (Nat × Nat × Nat)) (data : List Byte) (err : Bool) (sq : Sq) (x : DescState) (s : State),
    s.dev.fnStopped fn = false → s.dev.sq? fn q = some sq → s.dev.desc? fn q seq = some x → x.phase = .fetched → x.need ≠ 0 →
    Gives (.hostReadCompletion fn q seq sgl data err) s
      (let d := s.dev.updDesc fn q seq (fun x => { x with need := 0, sgl := sgl.map (fun e => (e.1, e.2.1)), sglBad := sgl.any (fun e => e.2.2 != 0),
                                                          data := data.take (dLength x.dw), hostErr := err })
       if err then (d.setFld Fld.HRG_FN_STATUS_HOST_ERR 1 fn).rewindPkt sq.qmq (.desc fn q seq) else d.commitPkt sq.qmq (.desc fn q seq)))

/-- The completion side (R205, R206, R211): a coalescing timer signals the queue's vector; the completion-count word is written with the
count, at most once a microsecond. -/
def Obligations.CompletionWords : Prop :=
  (∀ (fn q : Nat) (cq : Cq) (s : State), s.dev.cq? fn q = some cq → cq.ien = true → cq.unsig ≠ 0 →
    Gives (.cqCoalesceTimer fn q) s ((s.dev.waitUntil (cq.unsigAt + cq.coalUs)).signalCq fn q cq)) ∧
  (∀ (fn q : Nat) (sq : Sq) (s : State), s.dev.sq? fn q = some sq → sq.ccwEn = true → sq.ccwDue = true → s.dev.mayWriteWords fn q = true →
    s.dev.fnStopped fn = false → s.dev.entryWaits fn q sq = false →
    Reaches (.ccwWrite fn q) s (fun d =>
      d.out = .hostWrite fn sq.ccwAddr (leBytes 4 sq.count ++ leBytes 4 0) :: s.dev.out ∧
      d.sq? fn q = some { sq with ccwDue := false, ccwAt := d.now } ∧ sq.ccwAt + 1 ≤ d.now ∧ d.mem = s.dev.mem))

/-- A descriptor that completes posts its entry with the words of R211 in the next slot of a queue that has room, unless QUIET withholds it
and its status is ST_OK (R208); the head passes it when every earlier one has completed. The words have the layout of R211: CID, SQ_ID, STATUS,
SQ_HEAD, the two results, zeros where R211 has Reserved, and PHASE in bit 0 of DW7, which is 1 on the first pass through the ring and inverts on
each wrap. -/
def Obligations.CompletionEntries : Prop :=
  (∀ (d : Device) (fn q status r0 r1 : Nat) (sq : Sq) (cq : Cq) (x : DescState) (rest : List DescState),
    d.sq? fn q = some sq → sq.descs = x :: rest → rest.all (fun y => y.phase != .done) = true → x.phase = .running → d.fnStopped fn = false →
    d.cq? fn sq.cq = some cq → cq.wait = [] → cqRoom cq = true → cq.ien = false → (dQuiet x.dw = false ∨ status ≠ 0) → sq.shadow = false →
    (d.completeOne fn q x.seq status r0 r1).out.head? =
      some (.cqe fn sq.cq (cq.posted % 2 ^ cq.log2)
        ((cqeWords (dCid x.dw) q status ((sq.headSeq + 1) % 2 ^ sq.log2) r0 r1).take 7 ++
          [if cq.posted / 2 ^ cq.log2 % 2 = 0 then 1 else 0])) ∧
    (d.completeOne fn q x.seq status r0 r1).sq? fn q = some { sq with
      descs := rest, headSeq := sq.headSeq + 1, count := (sq.count + 1) % 4294967296, ccwDue := sq.ccwDue || sq.ccwEn
      emptyAt := if rest.isEmpty ∧ sq.tail = sq.fetchSeq % 2 ^ sq.log2 then d.now else sq.emptyAt } ∧
    (d.completeOne fn q x.seq status r0 r1).cq? fn sq.cq = some { cq with
      posted := cq.posted + 1, unsig := cq.unsig + 1, unsigAt := if cq.unsig = 0 then d.now else cq.unsigAt } ∧
    (d.completeOne fn q x.seq status r0 r1).mem = d.mem) ∧
  (∀ cid q status head r0 r1 : Nat, cid < 65536 → q < 256 → status < 256 → head < 65536 → r0 < 2 ^ 64 → r1 < 2 ^ 64 →
    let w : Nat → Word := fun i => (cqeWords cid q status head r0 r1).getD i 0
    (cqeWords cid q status head r0 r1).length = 8 ∧
    bitsGet (w 0) 31 16 = cid ∧ bitsGet (w 0) 15 8 = 0 ∧ bitsGet (w 0) 7 0 = q ∧
    bitsGet (w 1) 31 24 = status ∧ bitsGet (w 1) 23 16 = 0 ∧ bitsGet (w 1) 15 0 = head ∧
    (w 2).toNat + 2 ^ 32 * (w 3).toNat = r0 ∧ (w 4).toNat + 2 ^ 32 * (w 5).toNat = r1 ∧ w 6 = 0 ∧ bitsGet (w 7) 31 1 = 0)

/-- Functions and links (R196–R199, R218, R219): a link comes up where BIFUR in force gives it, VF Enable counts its VFs, a reset of a function
starts with RESETTING and ends 10 ms later at the earliest with READY, a lost link resets its functions. -/
def Obligations.FunctionsAndLinks : Prop :=
  (∀ (fn : Nat) (s : State), s.dev.fnExists fn = true → s.dev.hrg.resets.find? fn = none →
    Reaches (.flr fn) s (fun d => d.fnStopped fn = true ∧ d.mem = s.dev.mem)) ∧
  (∀ (fn : Nat) (r : FnReset) (s : State), s.dev.hrg.resets.find? fn = some r → r.toks = [] → AMap.sorted s.dev.hrg.resets = true →
    Reaches (.fnResetReady fn) s (fun d => d.fnStopped fn = false ∧ r.startAt + 10000 ≤ d.now ∧ d.sq? fn 0 = none ∧ d.cq? fn 0 = none ∧ d.mem = s.dev.mem)) ∧
  (∀ (link numVfs : Nat) (l : Link) (s : State), s.dev.hrg.links.find? link = some l → l.up = true →
    Gives (.vfEnable link numVfs) s
      { s.dev with hrg := { s.dev.hrg with links := s.dev.hrg.links.put link { l with vfEn := true, numVfs := min numVfs 63 } } }) ∧
  (∀ (link : Nat) (l : Link) (s : State), s.dev.hrg.links.find? link = some l → l.vfEn = true →
    Reaches (.vfDisable link) s (fun d => d.hrg.links.find? link = some { l with vfEn := false } ∧ d.mem = s.dev.mem)) ∧
  (∀ (link : Nat) (l : Link) (s : State), s.dev.hrg.links.find? link = some l → l.up = true →
    Reaches (.portHotReset link) s (fun d => d.hrg.links.find? link = some { l with vfEn := false, numVfs := 0 } ∧ d.mem = s.dev.mem)) ∧
  (∀ (link : Nat) (l : Link) (s : State), s.dev.hrg.links.find? link = some l → l.up = true →
    Reaches (.pcieLinkDown link) s (fun d => d.hrg.links.find? link = some { up := false, vfEn := false, numVfs := 0 } ∧ d.mem = s.dev.mem)) ∧
  (∀ (link : Nat) (s : State), s.dev.hubOn = true → s.dev.hold.bottle = none → link < 16 →
    (bifurLinks (s.dev.hrg.bifur.getD (link / 4) 0)).contains (link % 4) = true →
    Reaches (.pcieLinkUp link) s (fun d => d.hrg.links.find? link = some { up := true, vfEn := false, numVfs := 0 } ∧ d.mem = s.dev.mem))

/-- The queue manager (R223, R226, R228–R230, R234): one wrong bit in a word is corrected and counted; an uncorrectable cell word poisons the
packet that holds it; an uncorrectable link word breaks a live queue, whose packets beyond it are lost; the sweep frees those, ends their
descriptors with ST_ABORTED and brings the queue back once its consumer has drained the rest; the link words of a chain are those of R223; the
last cell of a reclaimed tag clears BUSY and leaves the count of cells. The queue commands (R216): the range checks end a command with
ST_RANGE, the budgets of HRG_FN_CFG with ST_BUDGET; a CQ that an SQ uses is not deleted (ST_PROT); otherwise the queue is made or goes, and
the command completes with ST_OK; IDENTIFY writes its 4 KiB (R547). -/
def Obligations.QueueManagerCommands : Prop :=
  ((∀ (qmq cell bits : Nat) (link : Bool) (s : State), let q := s.dev.queue qmq
    (q.state ≠ 0 → (q.pkts ++ q.lost).any (holdsCell cell) = true ∨ qmq < 0x400 →
      (bits = 1 → Gives (.linkWordUe qmq cell bits link) s (s.dev.correctedWord qmq)) ∧
      (2 ≤ bits → link = false → Gives (.linkWordUe qmq cell bits link) s (s.dev.poisonedWord qmq cell)) ∧
      (2 ≤ bits → link = true → Gives (.linkWordUe qmq cell bits link) s (s.dev.brokenWord qmq cell))) ∧
    (q.state = 0 ∨ bits = 0 ∨ ((q.pkts ++ q.lost).any (holdsCell cell) = false ∧ 0x400 ≤ qmq) → Gives (.linkWordUe qmq cell bits link) s s.dev)) ∧
  (∀ (d : Device) (qmq cell : Nat), (d.queue qmq).pkts.any (holdsCell cell) = true →
    let q := d.queue qmq
    d.poisonedWord qmq cell =
      (((d.setQueue qmq { q with pkts := q.pkts.map (fun p => if holdsCell cell p then { p with poison := true } else p) }).bumpSat
        Fld.QMG_Q_ECC_UE 1 qmq).bump Fld.QMG_ECC_UE_TOTAL_VALUE).raise Reg.QMG_INT_STATUS 3 4 ∧
    (let e := d.brokenWord qmq cell
     (e.queue qmq).state = 3 ∧ (e.queue qmq).swept = false ∧ (e.queue qmq).pkts = reached cell q.pkts ∧
     (e.queue qmq).lost = q.lost ++ q.pkts.filter (fun p => !(reached cell q.pkts).contains p) ∧
     e.qmg.free = d.qmg.free ∧ e.hrg = d.hrg ∧ e.mem = d.mem)) ∧
  (∀ (d : Device) (qn : Nat), AMap.wf regDflt d.regs = true → d.fld Fld.QMG_Q_ECC_CE qn < 65535 →
    (d.correctedWord qn).fld Fld.QMG_Q_ECC_CE qn = d.fld Fld.QMG_Q_ECC_CE qn + 1 ∧ (d.correctedWord qn).mem = d.mem ∧
    (d.correctedWord qn).qmg = d.qmg ∧ (d.fld Fld.QMG_CE_THR_THR = d.fld Fld.QMG_Q_ECC_CE qn + 1 →
      (d.correctedWord qn).flag Fld.QMG_INT_STATUS_CE_THR = true)) ∧
  (∀ (qmq : Nat) (s : State), (s.dev.queue qmq).state = 3 → (s.dev.queue qmq).swept = false →
    Gives (.linkSweepDone qmq) s
      (((s.dev.queue qmq).lost.foldl (fun (d : Device) (p : Pkt) => d.loseTok p.tok)
        ((s.dev.setQueue qmq (relive { s.dev.queue qmq with lost := [], swept := true })).freePkts (s.dev.queue qmq).lost)).settle)) ∧
  (∀ (d : Device) (fn q seq : Nat),
    d.loseTok (.desc fn q seq) = (d.dropUnplacedOf (fun x => x == .desc fn q seq)).complete fn q seq stAborted 0 0) ∧
  (∀ q : QmQueue, q.state = 3 → q.swept = true →
    (q.pkts.any (·.whole) = true → relive q = q) ∧ (q.pkts.any (·.whole) = false → relive q = { q with state := 1, swept := false })) ∧
  (∀ (c n o : Nat) (sop eop : Bool) (x : Bool × Bool × Nat) (rest : List (Nat × Bool × Bool × Nat)),
    chainWords ((c, sop, eop, o) :: (n, x) :: rest) = (c, linkWord sop eop o (BitVec.ofNat 18 n)) :: chainWords ((n, x) :: rest) ∧
    (n < 262144 → o < 4096 → let w := (linkWord sop eop o (BitVec.ofNat 18 n)).toNat
      w % 262144 = n ∧ w / 262144 % 4096 = o ∧ w / 2 ^ 30 % 2 = b2n eop ∧ w / 2 ^ 31 % 2 = b2n sop)) ∧
  (∀ (tag : Nat) (r : Reclaim) (s : State), s.dev.qmg.reclaims.find? (fun r => r.tag == tag) = some r →
    Reaches (.reclaimDone tag) s (fun d =>
      d.qmg.reclaims = removeFirst (fun r => r.tag == tag) s.dev.qmg.reclaims ∧
      (∀ q, (d.queue q).pkts.any (fun x => x.owner == tag && x.void) = false) ∧ d.hrg.sqs = s.dev.hrg.sqs ∧ d.mem = s.dev.mem))) ∧
  (∀ (fn : Nat) (x : DescState) (s : State),
    let d := s.dev.takenDesc fn 0 x
    let id := dwF x.dw 8 7 0
    let lg := dwF x.dw 8 20 16
    let cqs := (d.hrg.cqs.filter (fun p => decide (p.1 / 256 = fn ∧ p.1 % 256 ≠ 0))).length
    let sqs := (d.hrg.sqs.filter (fun p => decide (p.1 / 256 = fn ∧ p.1 % 256 ≠ 0))).length
    (s.dev.takesFn fn 0x80 x = true →
      (id ≠ 0 → d.cq? fn id = none → 6 ≤ lg → lg ≤ 16 → dwF x.dw 9 8 0 ≤ 256 → dw64 x.dw 10 % 4096 = 0 →
        cqs < d.fld Fld.HRG_FN_CFG_MAX_CQ fn → d.hrg.cqs.length < 32768 →
        Gives (.createCq fn) s ((d.putCq fn id (Device.newCq (dw64 x.dw 10) lg (bitAt (dwAt x.dw 8) 24) (dwF x.dw 9 8 0) (dwF x.dw 9 23 16)
          (dwF x.dw 9 31 24))).complete fn 0 x.seq stOk 0 0)) ∧
      ((id = 0 ∨ (d.cq? fn id).isSome ∨ lg < 6 ∨ 16 < lg ∨ 256 < dwF x.dw 9 8 0 ∨ dw64 x.dw 10 % 4096 ≠ 0) →
        Gives (.createCq fn) s (d.complete fn 0 x.seq stRange 0 0)) ∧
      (id ≠ 0 → d.cq? fn id = none → 6 ≤ lg → lg ≤ 16 → dwF x.dw 9 8 0 ≤ 256 → dw64 x.dw 10 % 4096 = 0 →
        d.fld Fld.HRG_FN_CFG_MAX_CQ fn ≤ cqs ∨ 32768 ≤ d.hrg.cqs.length → Gives (.createCq fn) s (d.complete fn 0 x.seq stBudget 0 0))) ∧
    (s.dev.takesFn fn 0x81 x = true →
      (id ≠ 0 → (d.cq? fn id).isSome → d.hrg.sqs.any (fun p => p.1 / 256 == fn && p.2.cq == id) = false →
        Gives (.deleteCq fn) s ((d.delCq fn id).complete fn 0 x.seq stOk 0 0)) ∧
      (id ≠ 0 → (d.cq? fn id).isSome → d.hrg.sqs.any (fun p => p.1 / 256 == fn && p.2.cq == id) = true →
        Gives (.deleteCq fn) s (d.complete fn 0 x.seq stProt 0 0)) ∧
      (id = 0 ∨ d.cq? fn id = none → Gives (.deleteCq fn) s (d.complete fn 0 x.seq stRange 0 0))) ∧
    (s.dev.takesFn fn 0x82 x = true →
      let cq := dwF x.dw 8 15 8
      let ccw := bitAt (dwAt x.dw 8) 26
      (id ≠ 0 → d.sq? fn id = none → 6 ≤ lg → lg ≤ 16 → cq ≠ 0 → (d.cq? fn cq).isSome → dw64 x.dw 10 % 4096 = 0 →
        (ccw = false ∨ dw64 x.dw 12 % 8 = 0) → sqs < d.fld Fld.HRG_FN_CFG_MAX_SQ fn → d.hrg.sqs.length < 32768 →
        Gives (.createSq fn) s
          (((d.setQueue d.newQmq { state := 1, cls := 3, owner := fn, pkts := [] }).putSq fn id
            (Device.newSq (dw64 x.dw 10) lg cq d.newQmq (bitAt (dwAt x.dw 8) 24) (bitAt (dwAt x.dw 8) 25) ccw (dw64 x.dw 12)
              (max 1 (dwF x.dw 8 31 28)) d.now)).complete fn 0 x.seq stOk 0 0)) ∧
      ((id = 0 ∨ (d.sq? fn id).isSome ∨ lg < 6 ∨ 16 < lg ∨ cq = 0 ∨ d.cq? fn cq = none ∨ dw64 x.dw 10 % 4096 ≠ 0 ∨
          (ccw = true ∧ dw64 x.dw 12 % 8 ≠ 0)) → Gives (.createSq fn) s (d.complete fn 0 x.seq stRange 0 0))) ∧
    (s.dev.takesFn fn 0x83 x = true →
      (∀ sq, d.sq? fn id = some sq → id ≠ 0 → sq.deleting = none →
        Gives (.deleteSq fn) s (((d.putSq fn id { sq with stopped := true, deleting := some x.seq }).abortSq fn id).finishDelete fn id)) ∧
      (d.sq? fn id = none → Gives (.deleteSq fn) s (d.complete fn 0 x.seq stRange 0 0))) ∧
    (s.dev.takesFn fn 0x84 x = true →
      (d.identifyBytes fn).length = 4096 ∧
      Gives (.identify fn) s (d.answerHost fn 0 x (d.identifyBytes fn))))

/-- The reset and query commands of an admin-capable function: FN_RESET (R218) ends with ST_RANGE for a function that does not exist and starts
the reset otherwise; DEVICE_RESET (R216) asks for the key 0x5A5A; PROFILE_SELECT (R439) names the next profile; CASK_QUERY and GRANT_QUERY
write the entry's bytes (R71, R81). -/
def Obligations.AdminCommands : Prop :=
  ∀ (fn : Nat) (x : DescState) (s : State),
    let d := s.dev.takenDesc fn 0 x
    (s.dev.takesDev fn 0xA0 x = true →
      (d.fnExists (dwF x.dw 8 9 0) = false → Gives (.fnReset fn) s (d.complete fn 0 x.seq stRange 0 0)) ∧
      (d.fnExists (dwF x.dw 8 9 0) = true → dwF x.dw 8 9 0 ≠ fn →
        Gives (.fnReset fn) s (d.startFnReset [(fn, 0, x.seq)] (dwF x.dw 8 9 0))) ∧
      (d.fnExists fn = true → dwF x.dw 8 9 0 = fn → Gives (.fnReset fn) s (d.startFnReset [] fn))) ∧
    (s.dev.takesDev fn 0xA1 x = true →
      (dwAt x.dw 8 = 0x5A5A → Gives (.deviceReset fn) s (d.resetRequest 3 0)) ∧
      (dwAt x.dw 8 ≠ 0x5A5A → Gives (.deviceReset fn) s (d.complete fn 0 x.seq stRange 0 0))) ∧
    (s.dev.takesDev fn 0xA2 x = true →
      Gives (.profileSelect fn) s ((d.setSup { d.sup with profNext := some (dwF x.dw 8 1 0) }).complete fn 0 x.seq stOk 0 0)) ∧
    (s.dev.takesDev fn 0x93 x = true →
      Gives (.caskQuery fn) s (d.answerHost fn 0 x (caskBytes (d.csk.casks.find? (dCask x.dw))))) ∧
    (s.dev.takesDev fn 0x9A x = true →
      Gives (.grantQuery fn) s (d.answerHost fn 0 x (grantBytes (d.grant (dwF x.dw 8 19 0)))))

/-- What stops a descriptor before its operation: fields that must be zero (ST_INVALID, R209), a failed host read (ST_HOST_ERR), a bad scatter
list that was read (ST_INVALID), data that a UE reached (ST_POISON, R229), service not yet open (ST_NOT_READY, R146), and a unit that does not
place writes (ST_FENCED, R160); a device command of a function that is not admin-capable is ST_PROT (R215), and a management core that meets
poisoned data records an event too (R229). A WRITE whose cask's shrink or deletion is placed does not start (R75). -/
def Obligations.DescriptorGates : Prop :=
  ∀ (fn q : Nat) (x : DescState) (s : State),
    let d := s.dev.startDesc fn q x
    let e := s.dev.takenDesc fn q x
    let zeros := descZeros x.dw (mCask ++ mOffset ++ mLength ++ mHaddr)
    (s.dev.ready? fn q 0x02 = some x → s.dev.gated (.ring fn) (dCask x.dw) = true → Gives (.write fn q) s s.dev) ∧
    (s.dev.ready? fn q 0x02 = some x → s.dev.gated (.ring fn) (dCask x.dw) = false →
      (zeros = false → Gives (.write fn q) s (d.complete fn q x.seq stInvalid 0 0)) ∧
      (zeros = true → x.hostErr = true →
        Gives (.write fn q) s ((d.setFld Fld.HRG_FN_STATUS_HOST_ERR 1 fn).complete fn q x.seq stHostErr 0 0)) ∧
      (zeros = true → x.hostErr = false → sglOk x = false → Gives (.write fn q) s (d.complete fn q x.seq stInvalid 0 0)) ∧
      (zeros = true → x.hostErr = false → sglOk x = true → d.descPoisoned fn q x.seq = true →
        Gives (.write fn q) s (d.complete fn q x.seq stPoison 0 0)) ∧
      (s.dev.takes fn q 0x02 x = true → s.dev.rst.svcOpen = false → Gives (.write fn q) s (d.complete fn q x.seq stNotReady 0 0)) ∧
      (s.dev.takes fn q 0x02 x = true → s.dev.rst.svcOpen = true → s.dev.placesWrites = false →
        Gives (.write fn q) s (d.complete fn q x.seq stFenced 0 0))) ∧
    (q = 0 → s.dev.takes fn q 0x93 x = true → s.dev.isAdmin fn = false → Gives (.caskQuery fn) s (e.complete fn 0 x.seq stProt 0 0)) ∧
    (q = 0 → s.dev.ready? fn q 0x93 = some x → descZeros x.dw (mCask ++ mHaddr) = true → x.hostErr = false → sglOk x = true →
      d.descPoisoned fn 0 x.seq = true → Gives (.caskQuery fn) s ((d.eventR 3 qmgBlk 229).complete fn 0 x.seq stPoison 0 0)) ∧
    (q = 0 → s.dev.takes fn q 0x84 x = true → s.dev.isAdmin fn = false → s.dev.rst.svcOpen = false →
      Gives (.identify fn) s (e.complete fn 0 x.seq stNotReady 0 0))

/-! ### Data descriptors -/

/-- The data descriptors of an I/O queue on a unit that serves (R52, R55–R58, R76, R210): NOP completes; READ, COPY and the fence start; a write,
a zeroing and an atomic are submitted with their operands, and an atomic whose target is not aligned to its width ends with ST_RANGE. -/
def Obligations.DataDescriptors : Prop :=
  ∀ (fn q : Nat) (x : DescState) (s : State),
    let d := s.dev.startDesc fn q x
    let e := s.dev.takenDesc fn q x
    let req : Access → WriteOp → WriteReq := fun acc op =>
      { src := .sq fn q, tok := .desc fn q x.seq, path := .ring fn, acc := acc, cask := dCask x.dw, off := dOffset x.dw, op := op,
        more := .data [], policy := .syncRequired, heldAt := d.now }
    (q ≠ 0 → s.dev.takes fn q 0x00 x = true → s.dev.rst.svcOpen = true → Gives (.nop fn q) s (e.complete fn q x.seq stOk 0 0)) ∧
    (s.dev.takesFn fn 0x00 x = true → q = 0 → Gives (.nop fn q) s (e.complete fn 0 x.seq stOk 0 0)) ∧
    (s.dev.takesIo fn q 0x01 x = true → Gives (.read fn q) s ((e.descRead fn q x).settle)) ∧
    (s.dev.takesIo fn q 0x02 x = true → Gives (.write fn q) s ((d.submit pieceFuel (req .write (.data x.data))).settle)) ∧
    (s.dev.takesIo fn q 0x03 x = true → Gives (.writeZero fn q) s ((d.submit pieceFuel (req .write (.zero (dLength x.dw)))).settle)) ∧
    (s.dev.takesIo fn q 0x04 x = true →
      (dOffset x.dw % 8 = 0 → Gives (.cas8 fn q) s ((d.submit pieceFuel (req .atomic (.cas 8 (dw64 x.dw 8) (dw64 x.dw 10)))).settle)) ∧
      (dOffset x.dw % 8 ≠ 0 → Gives (.cas8 fn q) s (d.complete fn q x.seq stRange 0 0))) ∧
    (s.dev.takesIo fn q 0x05 x = true →
      (dOffset x.dw % 16 = 0 → Gives (.cas16 fn q) s ((d.submit pieceFuel (req .atomic
        (.cas 16 (dw64 x.dw 8 + 2 ^ 64 * dw64 x.dw 10) (dw64 x.dw 12 + 2 ^ 64 * dw64 x.dw 14)))).settle)) ∧
      (dOffset x.dw % 16 ≠ 0 → Gives (.cas16 fn q) s (d.complete fn q x.seq stRange 0 0))) ∧
    (s.dev.takesIo fn q 0x06 x = true →
      (dOffset x.dw % 8 = 0 → Gives (.fadd8 fn q) s ((d.submit pieceFuel (req .atomic (.fadd (dw64 x.dw 8)))).settle)) ∧
      (dOffset x.dw % 8 ≠ 0 → Gives (.fadd8 fn q) s (d.complete fn q x.seq stRange 0 0))) ∧
    (s.dev.takesIo fn q 0x07 x = true → Gives (.persistFence fn q) s (e.startFence fn q x)) ∧
    (s.dev.takesIo fn q 0x08 x = true → Gives (.copy fn q) s (e.descCopy fn q x)) ∧
    (∀ (seq : Nat) (f : Fence), s.dev.pst.fences.find? (fun f => f.tok == .desc fn q seq) = some f →
      Gives (.persistFenceDone fn q seq) s (s.dev.finishFence f))

/-- The scope of a fence (R57) holds the writes of its SQ that come before it in ring order and are not complete and, with SCOPE set, those of
another SQ of its function that were fetched before it; a fence without TWIN is met when every write in its scope is complete. WAIT_COUNT
(R213): a wait on its own queue or on none is ST_RANGE; one whose count has been reached completes at once, another when the count is reached,
or with ST_TIMEOUT when its time has passed first. -/
def Obligations.FenceScopeAndWaitCounts : Prop :=
  ((∀ (d : Device) (fn q seq : Nat) (x : DescState) (sq : Sq), dFlag x.dw 10 = false → AMap.sorted d.hrg.sqs = true → q < 256 →
    d.sq? fn q = some sq →
    (Token.desc fn q seq ∈ d.fenceScope fn q x ↔ ∃ z ∈ sq.descs, z.seq = seq ∧ isWriteDesc z = true ∧ z.phase ≠ .done ∧ z.seq < x.seq)) ∧
  (∀ (d : Device) (fn q p seq : Nat) (x : DescState) (sq : Sq), dFlag x.dw 10 = false → AMap.sorted d.hrg.sqs = true → p < 256 → p ≠ q →
    d.sq? fn p = some sq →
    (Token.desc fn p seq ∈ d.fenceScope fn q x ↔
      dFlag x.dw 8 = true ∧ ∃ z ∈ sq.descs, z.seq = seq ∧ isWriteDesc z = true ∧ z.phase ≠ .done ∧ z.fetchNo < x.fetchNo)) ∧
  (∀ (d : Device) (fn q seq : Nat) (doSeal sealed : Bool) (scope : List Nat),
    d.fenceMet { tok := .desc fn q seq, doSeal := doSeal, twin := false, scope := scope.map (Token.desc fn q), sealed := sealed } = true ↔
      ∀ n ∈ scope, ∀ y, d.desc? fn q n = some y → y.phase = .done)) ∧
  (∀ (fn q : Nat) (x : DescState) (s : State),
    (s.dev.takes fn q 0x0A x = true → s.dev.rst.svcOpen = true →
      let d := s.dev.takenDesc fn q x
      (dwF x.dw 8 7 0 = q ∨ d.sq? fn (dwF x.dw 8 7 0) = none → Gives (.waitCount fn q) s (d.complete fn q x.seq stRange 0 0)) ∧
      (∀ t, dwF x.dw 8 7 0 ≠ q → d.sq? fn (dwF x.dw 8 7 0) = some t →
        (t.count + 4294967296 - (dwAt x.dw 9).toNat) % 4294967296 < 2147483648 → Gives (.waitCount fn q) s (d.complete fn q x.seq stOk 0 0)) ∧
      (∀ t, dwF x.dw 8 7 0 ≠ q → d.sq? fn (dwF x.dw 8 7 0) = some t →
        2147483648 ≤ (t.count + 4294967296 - (dwAt x.dw 9).toNat) % 4294967296 → Gives (.waitCount fn q) s d)) ∧
    (∀ t, s.dev.waitingOn fn q = some x → s.dev.sq? fn (dwF x.dw 8 7 0) = some t →
      ((t.count + 4294967296 - (dwAt x.dw 9).toNat) % 4294967296 < 2147483648 →
        Gives (.waitCountSatisfied fn q) s (s.dev.complete fn q x.seq stOk 0 0)) ∧
      (2147483648 ≤ (t.count + 4294967296 - (dwAt x.dw 9).toNat) % 4294967296 → dwF x.dw 10 15 0 ≠ 0 →
        Gives (.waitCountTimeout fn q) s ((s.dev.waitUntil (x.startedAt + 1000 * dwF x.dw 10 15 0)).complete fn q x.seq stTimeout 0 0))))

/-- Streams (R95–R98, R210): OPEN checks the cask as a read, asks for PLACE = STREAMED and a free stream, and answers the stream's number;
ADVANCE moves the position forward, never back nor past 2^52 (R66), and fetches the window; CLOSE ends the stream; both answer the count of
late reads; a stream of another queue is ST_PROT, one that an event closed ST_ABORTED. -/
def Obligations.Streams : Prop :=
  ∀ (fn q : Nat) (x : DescState) (s : State),
    let d := s.dev.takenDesc fn q x
    (s.dev.takesIo fn q 0x18 x = true →
      (∀ e, d.checks (.ring fn) .read (dCask x.dw) (dOffset x.dw / 65536 * 65536) 1 = none → d.csk.casks.find? (dCask x.dw) = some e →
        (e.place ≠ .streamed → Gives (.streamOpen fn q) s (d.complete fn q x.seq stRange 0 0)) ∧
        (e.place = .streamed → 16384 ≤ d.csk.streams.length → Gives (.streamOpen fn q) s (d.complete fn q x.seq stBudget 0 0)) ∧
        (e.place = .streamed → d.csk.streams.length < 16384 →
          let id := ((List.range 16384).filter (fun i => !d.csk.streams.has i)).headD 0
          let l := dwF x.dw 8 7 0
          let st : Stream := { fn := fn, q := q, cask := dCask x.dw, pos := dOffset x.dw / 65536 * 65536 / 65536,
                               look := if l = 0 then e.lookahead else l, auto := bitAt (dwAt x.dw 8) 8, late := 0 }
          let d' : Device := { d with csk := { d.csk with streams := d.csk.streams.put id st,
                                                          closedStreams := d.csk.closedStreams.filter (fun c => c != (fn, q, id)) } }
          Gives (.streamOpen fn q) s ((d'.streamFetch st).complete fn q x.seq stOk id 0))) ∧
      (∀ st, d.checks (.ring fn) .read (dCask x.dw) (dOffset x.dw / 65536 * 65536) 1 = some st →
        Gives (.streamOpen fn q) s ((d.noteReject (.ring fn) st).complete fn q x.seq st 0 0))) ∧
    (s.dev.takesIo fn q 0x19 x = true →
      (∀ st, d.streamFor fn q (dwF x.dw 8 13 0) = .ok st → st.pos ≤ dOffset x.dw / 65536 → dOffset x.dw < 2 ^ 52 →
        let d' : Device := { d with csk := { d.csk with streams := d.csk.streams.put (dwF x.dw 8 13 0) { st with pos := dOffset x.dw / 65536 } } }
        Gives (.streamAdvance fn q) s ((d'.streamFetch { st with pos := dOffset x.dw / 65536 }).complete fn q x.seq stOk st.late 0)) ∧
      (∀ st, d.streamFor fn q (dwF x.dw 8 13 0) = .ok st → dOffset x.dw / 65536 < st.pos ∨ 2 ^ 52 ≤ dOffset x.dw →
        Gives (.streamAdvance fn q) s (d.complete fn q x.seq stRange 0 0)) ∧
      (∀ st, d.csk.streams.find? (dwF x.dw 8 13 0) = some st → (st.fn ≠ fn ∨ st.q ≠ q) →
        Gives (.streamAdvance fn q) s (d.complete fn q x.seq stProt 0 0))) ∧
    (s.dev.takesIo fn q 0x1A x = true →
      (∀ st, d.streamFor fn q (dwF x.dw 8 13 0) = .ok st →
        let d' : Device := { d with csk := { d.csk with streams := d.csk.streams.del (dwF x.dw 8 13 0) } }
        Gives (.streamClose fn q) s (d'.complete fn q x.seq stOk st.late 0)) ∧
      (d.csk.streams.find? (dwF x.dw 8 13 0) = none → d.csk.closedStreams.contains (fn, q, dwF x.dw 8 13 0) = true →
        Gives (.streamClose fn q) s (d.complete fn q x.seq stAborted 0 0)))

/-! ### Casks, grants and racks -/

/-- Cask and grant commands that a serving unit takes (R70, R73, R81–R83, R216, R217, R370): each ends with the status of the first rule it
breaks, or runs with its record; one that finds another in progress, or one that reached the HUB before it, waits. -/
def Obligations.CaskCommands : Prop :=
  ∀ (fn : Nat) (x : DescState) (s : State),
    let d := s.dev.takenDesc fn 0 x
    (s.dev.takesCask fn 0x90 x = true →
      let e := caskOf x.dw fn 0
      let keyOk := dwF x.dw 9 11 0 = 0 ∨ (d.keyLoaded (dwF x.dw 9 11 0)).any (fun k => k.persist && natBit k.use 3) = true
      ((d.csk.casks.find? (dCask x.dw)).isSome ∨ caskFieldsOk x.dw = false → Gives (.caskCreate fn) s (d.complete fn 0 x.seq stRange 0 0)) ∧
      (d.csk.casks.find? (dCask x.dw) = none → caskFieldsOk x.dw = true →
        (¬ keyOk → Gives (.caskCreate fn) s (d.complete fn 0 x.seq stProt 0 0)) ∧
        (keyOk → d.spaceOk none e = false → Gives (.caskCreate fn) s (d.complete fn 0 x.seq stBudget 0 0)) ∧
        (keyOk → d.spaceOk none e = true → Gives (.caskCreate fn) s (d.withJob fn x.seq (.caskCreate (dCask x.dw) e))))) ∧
    (s.dev.takesCask fn 0x91 x = true →
      (d.csk.casks.find? (dCask x.dw) = none → Gives (.caskModify fn) s (d.complete fn 0 x.seq stProt 0 0)) ∧
      (∀ old, d.csk.casks.find? (dCask x.dw) = some old →
        let m := (dwAt x.dw 14).toNat
        let e := caskMerge old (caskOf x.dw old.owner old.rtPtr) m
        let badField := (natBit m 1 = true ∧ dwF x.dw 8 25 24 = 3) ∨ (natBit m 8 = true ∧ dwF x.dw 9 19 12 = 0)
        (natBit m 11 = true → Gives (.caskModify fn) s (d.complete fn 0 x.seq stProt 0 0)) ∧
        (natBit m 11 = false → badField → Gives (.caskModify fn) s (d.complete fn 0 x.seq stRange 0 0)) ∧
        (natBit m 11 = false → ¬ badField → d.spaceOk (some old) e = false →
          Gives (.caskModify fn) s (d.complete fn 0 x.seq stBudget 0 0)) ∧
        (natBit m 11 = false → ¬ badField → d.spaceOk (some old) e = true →
          Gives (.caskModify fn) s (d.withJob fn x.seq (.caskModify (dCask x.dw) (caskOf x.dw old.owner old.rtPtr) m))))) ∧
    (s.dev.takesCask fn 0x92 x = true →
      (d.csk.casks.find? (dCask x.dw) = none → Gives (.caskDelete fn) s (d.complete fn 0 x.seq stProt 0 0)) ∧
      ((d.csk.casks.find? (dCask x.dw)).isSome → Gives (.caskDelete fn) s (d.withJob fn x.seq (.caskDelete (dCask x.dw))))) ∧
    (s.dev.takesCask fn 0x98 x = true →
      (d.freeSlot = none → Gives (.grantIssue fn) s (d.complete fn 0 x.seq stBudget 0 0)) ∧
      (∀ slot, d.freeSlot = some slot →
        let g := grantOf x.dw fn (((d.grant slot).gen + 1) % 4096)
        (d.csk.casks.find? g.cask = none → Gives (.grantIssue fn) s (d.complete fn 0 x.seq stProt 0 0)) ∧
        (∀ e, d.csk.casks.find? g.cask = some e →
          let rights := e.grantable = true ∧ (g.rd = false ∨ e.rd = true) ∧ (g.wr = false ∨ e.wr = true) ∧ (g.atom = false ∨ e.atom = true)
          let inside := g.len ≠ 0 ∧ g.base + g.len ≤ e.size * 65536
          (g.bind = 3 → Gives (.grantIssue fn) s (d.complete fn 0 x.seq stRange 0 0)) ∧
          (g.bind ≠ 3 → ¬ rights → Gives (.grantIssue fn) s (d.complete fn 0 x.seq stProt 0 0)) ∧
          (g.bind ≠ 3 → rights → ¬ inside → Gives (.grantIssue fn) s (d.complete fn 0 x.seq stRange 0 0)) ∧
          (g.bind ≠ 3 → rights → inside → Gives (.grantIssue fn) s (d.withJob fn x.seq (.grantIssue slot g)))))) ∧
    (s.dev.takesCask fn 0x99 x = true →
      let h := (dwAt x.dw 8).toNat
      let g := d.grant (h % 1048576)
      (g.gen ≠ h / 1048576 ∨ g.state ≠ .live → Gives (.grantRevoke fn) s (d.complete fn 0 x.seq stStaleGen 0 0)) ∧
      (g.gen = h / 1048576 → g.state = .live → Gives (.grantRevoke fn) s (d.withJob fn x.seq (.grantRevoke (h % 1048576) g.gen)))) ∧
    (s.dev.csk.jobs ≠ [] →
      Gives (.caskCreate fn) s s.dev ∧ Gives (.caskModify fn) s s.dev ∧ Gives (.caskDelete fn) s s.dev ∧ Gives (.grantIssue fn) s s.dev ∧
        Gives (.grantRevoke fn) s s.dev) ∧
    (s.dev.caskTurn fn 0x92 = false → Gives (.caskDelete fn) s s.dev)

/-- What a metadata record does when its vintage commits (R73, R81–R83, R98, R217): a cask's entry appears, with a place in this unit's own rack
tables or the place that it had, changes in the fields its mask names, or goes with its live grants in quarantine and its streams closed; a
grant's entry appears and leaves the free list, or enters quarantine with the time of its revocation; memory stays as it was. -/
def Obligations.MetadataCommits : Prop :=
  (∀ (d : Device) (id : Nat) (e : CaskEntry), let t := d.commitMeta (.caskCreate id e)
    (d.csk.casks.find? id = none → ∃ rt, rt < 2 ^ 33 ∧ t.csk.casks.find? id = some { e with rtPtr := rt }) ∧
    (∀ old, d.csk.casks.find? id = some old → t.csk.casks.find? id = some { e with rtPtr := old.rtPtr }) ∧
    t.mem = d.mem ∧ ∀ i, i ≠ id → t.csk.casks.find? i = d.csk.casks.find? i) ∧
  (∀ (d : Device) (id m : Nat) (old e : CaskEntry), d.csk.casks.find? id = some old →
    (d.commitMeta (.caskModify id e m)).csk.casks.find? id = some (caskMerge old e m) ∧ (d.commitMeta (.caskModify id e m)).mem = d.mem ∧
    (caskMerge old e m).owner = old.owner ∧ (caskMerge old e m).mkey = old.mkey ∧ (caskMerge old e m).rtPtr = old.rtPtr ∧
    (natBit m 9 = false → (caskMerge old e m).size = old.size)) ∧
  (∀ (d : Device) (id : Nat), AMap.sorted d.csk.casks = true → AMap.sorted d.csk.grants = true →
    (d.commitMeta (.caskDelete id)).csk.casks.find? id = none ∧ (d.commitMeta (.caskDelete id)).mem = d.mem ∧
    (∀ st ∈ (d.commitMeta (.caskDelete id)).csk.streams, st.2.cask ≠ id) ∧
    (∀ slot, (d.grant slot).cask = id → (d.grant slot).state = .live →
      (d.commitMeta (.caskDelete id)).grant slot = { d.grant slot with state := .quarantine, revokeUs := d.usec })) ∧
  (∀ (d : Device) (slot : Nat) (g : GrantEntry), AMap.sorted d.csk.grants = true →
    (d.commitMeta (.grantIssue slot g)).grant slot = g ∧ (d.commitMeta (.grantIssue slot g)).csk.freed.contains slot = false ∧
    (d.commitMeta (.grantIssue slot g)).mem = d.mem) ∧
  (∀ (d : Device) (slot n : Nat), AMap.sorted d.csk.grants = true →
    (d.commitMeta (.grantRevoke slot n)).grant slot = { d.grant slot with state := .quarantine, revokeUs := d.usec } ∧
    (d.commitMeta (.grantRevoke slot n)).mem = d.mem)

/-- The checks of a request in the order of R87 (steps 1 to 9): an offset beyond 2^52 or a length of 0 is ST_RANGE before anything else. A grant
that is not live or of another generation stops a request of the grant path with ST_STALE_GEN, one of another transport, binding, GCM condition or
right with ST_PROT, one outside its range with ST_RANGE. The ring path then looks at the cask and its protection domain, both at the cask's right
and size. -/
def Obligations.RequestChecks : Prop :=
  (∀ (d : Device) (p : Path) (acc : Access) (cask off len : Nat), 2 ^ 52 ≤ off ∨ len = 0 ∨ 2 ^ 52 < off + len →
    d.checks p acc cask off len = some stRange) ∧
  (∀ (d : Device) (fn : Nat) (acc : Access) (cask off len : Nat), off < 2 ^ 52 → len ≠ 0 → off + len ≤ 2 ^ 52 →
    (d.csk.casks.find? cask = none → d.checks (.ring fn) acc cask off len = some stProt) ∧
    (∀ e, d.csk.casks.find? cask = some e → d.fld Fld.HRG_FN_CFG_PDOM fn ≠ e.pdom → d.checks (.ring fn) acc cask off len = some stProt) ∧
    (∀ e, d.csk.casks.find? cask = some e → d.fld Fld.HRG_FN_CFG_PDOM fn = e.pdom →
      (match acc with
        | .read => e.rd
        | .write => e.wr
        | .atomic => e.atom) = false → d.checks (.ring fn) acc cask off len = some stProt) ∧
    (∀ e, d.csk.casks.find? cask = some e → d.fld Fld.HRG_FN_CFG_PDOM fn = e.pdom →
      (match acc with
        | .read => e.rd
        | .write => e.wr
        | .atomic => e.atom) = true →
      d.checks (.ring fn) acc cask off len = if e.size * 65536 < off + len then some stRange else none)) ∧
  (∀ (d : Device) (p : Path) (h : Nat) (acc : Access) (cask off len : Nat), off < 2 ^ 52 → len ≠ 0 → off + len ≤ 2 ^ 52 →
    let g := d.grant (h % 1048576)
    let live := g.state = .live ∧ g.gen = h / 1048576 % 4096
    let may := match acc with
      | .read => g.rd
      | .write => g.wr
      | .atomic => g.atom
    let fits := match p with
      | .roce _ q => g.roceOk && (g.bind == 0 || (g.bind == 1 && g.bindId == q)) && !g.gcmReq
      | .pdt _ e gcm => g.pdtOk && (g.bind == 0 || (g.bind == 2 && g.bindId == e)) && (!g.gcmReq || gcm) && (!gcm || d.slotPermits g.gcmSlot 1)
      | _ => false
    ((∃ q, p = .roce h q) ∨ ∃ e gcm, p = .pdt h e gcm) →
    (¬live → d.checks p acc cask off len = some stStaleGen) ∧
    (live → fits = false ∨ may = false → d.checks p acc cask off len = some stProt) ∧
    (live → fits = true → may = true → off < g.base ∨ g.base + g.len < off + len → d.checks p acc cask off len = some stRange) ∧
    (live → fits = true → may = true → g.base ≤ off → off + len ≤ g.base + g.len →
      (d.csk.casks.find? g.cask = none → d.checks p acc cask off len = some stStaleGen) ∧
      (∀ c, d.csk.casks.find? g.cask = some c →
        let right := match acc with
          | .read => c.rd
          | .write => c.wr
          | .atomic => c.atom
        (right = false → d.checks p acc cask off len = some stProt) ∧
        (right = true → d.checks p acc cask off len = if c.size * 65536 < off + len then some stRange else none))))

/-- Racking (R79, R80, R89–R92, R84, R148, R150): a completed fetch makes every page of the rack present and leaves the pages that were;
write-behind of a whole rack on a running MC1 programs its pages and starts with WB set and RDIRTY clear, and ends with the dirty bits taken
over from RDIRTY; background eviction takes the evictable racks in the order of R91 until free frames reach FREE_LOW, and an evicted rack gives
its frame back; ageing takes one from ACC; a quarantined slot is FREE again 64 ms after its revocation. A homing programs the rack's bytes as
a reader sees them at the new location and CPTR names it. -/
def Obligations.Racking : Prop :=
  ((∀ (cask rack : Nat) (s : State),
    (s.dev.fetchKeyed cask rack = true → Gives (.rackFetchDone cask rack) s (s.dev.fetchDone cask rack).settle) ∧
    (s.dev.fetchKeyed cask rack = false → Gives (.rackFetchDone cask rack) s s.dev)) ∧
  (∀ (d : Device) (cask rack : Nat), (d.rack cask rack).fetch = true → AMap.sorted d.csk.racks = true →
    ((d.fetchDone cask rack).rack cask rack).present = allPages ∧ ((d.fetchDone cask rack).rack cask rack).fetch = false ∧
    ((d.fetchDone cask rack).rack cask rack).res = true ∧ ((d.fetchDone cask rack).rack cask rack).dirty = (d.rack cask rack).dirty ∧
    ((d.fetchDone cask rack).rack cask rack).acc = (if (d.rack cask rack).res then (d.rack cask rack).acc else 15) ∧
    ((d.rack cask rack).res = true → AMap.wf memDflt d.mem = true →
      ∀ k, (k < dramKey (d.rack cask rack).frame 0 ∨ dramKey (d.rack cask rack).frame 65536 ≤ k) → (d.fetchDone cask rack).memByte k = d.memByte k)) ∧
  (∀ (cask rack cptr : Nat) (s : State), let r := s.dev.rack cask rack
    s.dev.coreUp 1 = true → r.dirty ≠ 0 → r.res = true → r.wb = false → r.present = allPages → s.dev.hold.bottle = none →
    s.dev.spareBelow 10 = false → s.dev.mkeyMissing cask = false → s.dev.siteOk cptr = true → s.dev.wbTurn r = true →
    Gives (.writeBehindStart cask rack cptr) s
      (let d := ((s.dev.wakeFrame r.frame).emit (.dram (s.dev.frameCh r.frame) "WB_READ" [s.dev.wbClass, cask, rack]))
       let d := (d.setRack cask rack { r with wb := true, rdirty := 0, present := allPages }).programRack cask rack cptr
       { d with csk := { d.csk with wbJobs := d.csk.wbJobs.put (rackKey cask rack) cptr } }.beginJob cptr)) ∧
  (∀ (cask rack cptr : Nat) (s : State), s.dev.csk.wbJobs.find? (rackKey cask rack) = some cptr → (s.dev.rack cask rack).wb = true →
    s.dev.hold.bottle = none → s.dev.mkeyMissing cask = false →
    Gives (.writeBehindDone cask rack) s ((s.dev.homeMeta.homeRack cask rack cptr).reevalAdmit.settle)) ∧
  (∀ s : State, Gives .backgroundEvict s
    ((s.dev.evictOrder.foldl (fun (d : Device) (p : Nat × Rack) => if d.evictMore p.1 then d.evictRack (p.1 / 2 ^ 36) (p.1 % 2 ^ 36) else d)
      s.dev).reevalAdmit.settle)) ∧
  (∀ d : Device, (∀ p, p ∈ d.evictOrder ↔ p ∈ d.csk.racks ∧ d.evictable p.1 p.2 = true) ∧
    d.evictOrder.Pairwise (fun a b => d.evictRank a.1 a.2 ≤ d.evictRank b.1 b.2)) ∧
  (∀ (d : Device) (k : Nat), d.drm.short = false →
    (d.evictMore k = true ↔ d.framesFree < 1024 * d.fld Fld.CSK_FREE_LOW_FREE_LOW_K)) ∧
  (∀ (d : Device) (cask rack : Nat), (d.rack cask rack).res = true → AMap.sorted d.csk.racks = true → AMap.wf memDflt d.mem = true →
    let e := d.evictRack cask rack
    e.rack cask rack = { d.rack cask rack with res := false, present := 0, frame := 0, acc := 0 } ∧
    (∀ k, k ≠ rackKey cask rack → e.csk.racks.find? k = d.csk.racks.find? k) ∧
    (∀ k, (k < dramKey (d.rack cask rack).frame 0 ∨ dramKey (d.rack cask rack).frame 65536 ≤ k) → e.memByte k = d.memByte k)) ∧
  (∀ s : State, s.dev.csk.racks.filter (fun p => s.dev.evictable p.1 p.2) = [] → Gives .backgroundEvict s s.dev.reevalAdmit.settle) ∧
  (∀ s : State, 1024 * s.dev.fld Fld.CSK_FREE_LOW_FREE_LOW_K ≤ s.dev.framesFree → s.dev.drm.short = false →
    Gives .backgroundEvict s s.dev.reevalAdmit.settle) ∧
  (∀ s : State, Reaches .accAgeTick s (fun d =>
    d.now = s.dev.now + 1000 * s.dev.fld Fld.CSK_AGE_TICK_TICK_MS ∧ d.mem = s.dev.mem ∧
    ∀ cask rack, d.rack cask rack = (let r := s.dev.rack cask rack
      if r.res then { r with acc := r.acc - 1 } else r))) ∧
  (∀ (slot : Nat) (s : State), (s.dev.grant slot).state = .quarantine → AMap.sorted s.dev.csk.grants = true →
    Reaches (.grantQuarantineExpire slot) s (fun d =>
      d.grant slot = { s.dev.grant slot with state := .free, revokeUs := 0 } ∧ d.csk.freed = s.dev.csk.freed ++ [slot] ∧ d.mem = s.dev.mem ∧
      (64000 ≤ (s.dev.usec + 4294967296 - (s.dev.grant slot).revokeUs) % 4294967296 → d.now = s.dev.now))) ∧
  (∀ (cask rack cptr : Nat) (s : State), let e := ((s.dev.programRack cask rack cptr).homeRack cask rack cptr).refreshPhase
    (s.dev.rack cask rack).vault = true → s.dev.rst.svcOpen = true → s.dev.rst.wave0 = false → s.dev.hold.bottle = none →
    s.dev.coreUp 1 = true → s.dev.homingTurn (rackKey cask rack) = true → s.dev.siteOk cptr = true → s.dev.fetchKeyed cask rack = true →
    s.dev.mkeyMissing cask = false → e.targetGen.isSome = true →
    Gives (.homingDone cask rack cptr) s e.reevalAdmit.settle)) ∧
  (∀ (d : Device) (cask rack cptr : Nat), AMap.sorted d.csk.racks = true →
    (let e := d.homeRack cask rack cptr
     (e.rack cask rack).cptr = cptr ∧ (e.rack cask rack).cvalid = true ∧ (e.rack cask rack).vault = false ∧ (e.rack cask rack).wb = false ∧
     (e.rack cask rack).rdirty = 0 ∧ ((d.rack cask rack).wb = true → (e.rack cask rack).dirty = (d.rack cask rack).rdirty) ∧
     (∀ k, k ≠ rackKey cask rack → e.csk.racks.find? k = d.csk.racks.find? k) ∧ e.mem = d.mem) ∧
    (AMap.wf memDflt d.mem = true → (d.rackBytes cask (rack * 65536) 65536).length = 65536 →
     let e := d.programRack cask rack cptr
     (∀ i, i < 65536 → e.memByte (cellKey cptr i) = (d.rackBytes cask (rack * 65536) 65536).getD i 0) ∧
     (∀ k, (k < cellKey cptr 0 ∨ cellKey cptr 65536 ≤ k) → e.memByte k = d.memByte k)))

/-! ### Admission and vintages -/

/-- The admission rule (R114): STOPPED while the stop wire is active or D has reached the limit, OPEN below the high mark, THROTTLED between, with
a rate that falls linearly from twice the write-behind rate to zero at the limit; DB_LIMIT is the least of the plan, the cap when it is not zero,
and 98% of the vault (R112), DB_HIGH its share HIGH_PCT (R113). -/
def Obligations.AdmissionRule : Prop :=
  (∀ (dd limit high rwb : Nat) (stop : Bool),
    ((admitEval dd limit high rwb stop).1 = .stopped ↔ stop = true ∨ limit ≤ dd ∨ limit = 0) ∧
    ((admitEval dd limit high rwb stop).1 = .opened ↔ stop = false ∧ dd < limit ∧ dd < high) ∧
    (stop = false → dd < limit → high ≤ dd → admitEval dd limit high rwb stop = (.throttled, 2 * rwb * (limit - dd) / (limit - high) / 1000)) ∧
    (admitEval dd limit high rwb stop).2 ≤ 2 * rwb / 1000) ∧
  (∀ d : Device, d.dbLimit ≤ d.fld Fld.PST_DB_PLAN_PLAN_RACKS ∧ d.dbLimit ≤ d.vaultCap ∧
    (d.fld Fld.PST_DB_CAP_CAP_RACKS ≠ 0 → d.dbLimit ≤ d.fld Fld.PST_DB_CAP_CAP_RACKS) ∧
    (d.dbLimit = d.fld Fld.PST_DB_PLAN_PLAN_RACKS ∨ d.dbLimit = d.fld Fld.PST_DB_CAP_CAP_RACKS ∨ d.dbLimit = d.vaultCap) ∧
    d.dbHigh = d.dbLimit * d.fld Fld.PST_DB_HIGH_HIGH_PCT / 100 ∧
    (d.targetGen = none → d.dbLimit = 0) ∧
    (∀ g, d.targetGen = some g → d.vaultCap = d.genRacks (d.gen g).erased * 98 / 100))

/-- Admission events (R114–R116), each from the state alone: the head of step 11 is admitted when the evaluation gives OPEN, or THROTTLED with
credit for its charge, which it takes; otherwise it waits; WAIT_MS turns it away with ST_BUDGET unless the state or the credit admits it by then; a
microsecond of admission moves the clock, adds R_ADMIT to the credit up to the greatest credit while THROTTLED, and evaluates again; a change of
the state sets the credit to 0. -/
def Obligations.AdmissionEvents : Prop :=
  (∀ s : State, s.dev.adm.held = [] → Gives .writeAdmit s s.dev.reevalAdmit ∧ Gives .admitWaitTimeout s s.dev) ∧
  (∀ (s : State) (r : WriteReq) (rest : List WriteReq), s.dev.adm.held = r :: rest →
    let d := s.dev.reevalAdmit
    (s.dev.admitNow.1 = .opened →
      Gives .writeAdmit s ((({ d with adm := { d.adm with held := rest } }.takeCharge r).toPlace r placeWaiting).settle)) ∧
    (s.dev.admitNow.1 = .throttled → s.dev.adm.state = .throttled → chargeOf r.off r.op ≤ s.dev.adm.credit →
      Gives .writeAdmit s ((({ d with adm := { d.adm with held := rest, credit := s.dev.adm.credit - chargeOf r.off r.op } }.takeCharge r).toPlace r
        placeWaiting).settle)) ∧
    (s.dev.admitNow.1 = .throttled → s.dev.adm.state = .throttled → s.dev.adm.credit < chargeOf r.off r.op → Gives .writeAdmit s d) ∧
    (s.dev.admitNow.1 = .stopped → Gives .writeAdmit s d)) ∧
  (∀ (s : State) (r : WriteReq) (rest : List WriteReq), s.dev.adm.held = r :: rest →
    let e := s.dev.waitUntil (r.heldAt + 1000 * s.dev.fld Fld.PST_ADMIT_CTRL_WAIT_MS)
    let d := e.reevalAdmit
    (d.adm.state = .opened ∨ (d.adm.state = .throttled ∧ chargeOf r.off r.op ≤ d.adm.credit) → Gives .admitWaitTimeout s d) ∧
    (d.adm.state = .stopped ∨ (d.adm.state = .throttled ∧ d.adm.credit < chargeOf r.off r.op) →
      Gives .admitWaitTimeout s ((({ d with adm := { d.adm with held := rest } }.rejectBudget r).fenceSeals).settle))) ∧
  (∀ s : State, Gives .admitRateTick s (s.dev.advance 1).reevalAdmit) ∧
  (∀ s : State, s.dev.hubOn = true → Reaches .admitRateTick s (fun d =>
    d.now = s.dev.now + 1 ∧ d.adm.state = (s.dev.advance 1).admitNow.1 ∧ d.adm.rate = (s.dev.advance 1).admitNow.2 ∧
    (s.dev.adm.state = .throttled → d.adm.state = .throttled → d.adm.credit = min creditCap (s.dev.adm.credit + s.dev.adm.rate)) ∧
    (d.adm.state ≠ s.dev.adm.state → d.adm.credit = 0) ∧ d.adm.held = s.dev.adm.held ∧ d.mem = s.dev.mem ∧ d.pst = s.dev.pst))

/-- Placement, seal, shipping and apply (R40, R43, R50, R51, R177, R179): a write that may be placed is; the period closes a vintage that
holds a write and restarts for an empty one; the lowest sealed vintage is shipped whole when the twin has room; the lowest committed one is
applied. A seal closes the open vintage, gives it its number and opens the next (R40, R49); on an active unit it waits for the twin's
acknowledgement, SEALED. -/
def Obligations.VintageEvents : Prop :=
  ((∀ (s : State) (r : WriteReq), s.dev.nextPlace s.dev.pst.placeWait [] = some r →
    Gives .writePlace s
      (((s.dev.setPst { s.dev.pst with placeWait := removeFirst (fun w => w == r) s.dev.pst.placeWait }).placeWaiting r).settle)) ∧
  (∀ s : State, s.dev.cascadeShared = false →
    let d := s.dev.waitUntil (s.dev.pst.openAt + s.dev.pst.openPeriod)
    (d.pst.openRecs = [] → Gives .vintageSealPeriod s (d.setPst { d.pst with openAt := d.now })) ∧
    (d.pst.openRecs ≠ [] → Gives .vintageSealPeriod s ((d.trySeal .period).settle))) ∧
  (∀ (s : State) (v : Vintage), s.dev.pst.vints.find? (fun v => v.own && !v.shipped && v.state == .sealed) = some v →
    s.dev.ships = true → s.dev.hold.stopAdm = false → s.dev.mir.linkUp = true → s.dev.mir.attached = true → imageLen v ≤ s.dev.twinRoom →
    s.dev.mayReserve 0x40 frameMax 0x410 = true → s.dev.mir.joinPrev0 = false →
    Reaches .vintageShip s (fun d =>
      d.mir.lastShipped = v.num ∧ d.mir.sentSizes = s.dev.mir.sentSizes ++ [(v.num, imageLen v)] ∧
      d.pst.vints = updateFirst (fun x => x.num == v.num) (fun x => { x with shipped := true, prev := s.dev.mir.lastShipped }) s.dev.pst.vints ∧
      d.pst.openRecs = s.dev.pst.openRecs ∧ d.csk = s.dev.csk ∧ d.mem = s.dev.mem)) ∧
  (∀ (s : State) (v : Vintage) (rest : List Vintage), s.dev.pst.vints = v :: rest → v.state = .committed → s.dev.cascadeShared = false →
    (s.dev.applyWaits v = false →
      Gives .vintageApplyDone s ((((s.dev.takeFreed (s.dev.framesFor v)).applyVint v.num).noteApplied v).settle)) ∧
    (s.dev.applyWaits v = true → Gives .vintageApplyDone s s.dev))) ∧
  (∀ (d : Device) (c : SealCause), d.pst.openRecs ≠ [] → d.cascadeShared = false → d.mir.role = .active → d.pst.vints = [] →
    (∀ r ∈ d.pst.openRecs, r.wire.policy ≠ .locally) →
    let e := d.sealNow c
    e.pst.openRecs = [] ∧ e.pst.nextNum = d.pst.nextNum + 1 ∧ e.pst.sealedNum = d.pst.nextNum ∧ e.pst.commitNum = d.pst.commitNum ∧
    e.pst.vints.map (fun v => (v.num, v.state, v.cause, v.own, v.shipped)) = [(d.pst.nextNum, .sealed, c, true, false)] ∧
    e.pst.vints.map (fun v => v.recs.map (·.wire)) = [d.pst.openRecs.map (·.wire)] ∧ e.mem = d.mem ∧ e.csk = d.csk)

/-- An apply stores a record's bytes in the frame of each rack that it covers, marks the pages dirty, and stores nothing else (R46, R47, R80). -/
def Obligations.ApplyStoresTheBytes : Prop :=
  ∀ (d : Device) (w : WireRec) (clean : Bool) (idx : Nat), (d.rack w.cask idx).res = true → (d.rack w.cask idx).present = allPages →
    w.off < idx * 65536 + 65536 → idx * 65536 < w.off + w.len → w.zero = false → w.bytes.length = w.len → AMap.sorted d.csk.racks = true →
    AMap.wf memDflt d.mem = true →
    let r := d.rack w.cask idx
    let e := d.applyRack w clean idx
    let lo := max w.off (idx * 65536)
    let hi := min (w.off + w.len) (idx * 65536 + 65536)
    (∀ a, lo ≤ a → a < hi → e.memByte (dramKey r.frame (a - idx * 65536)) = w.bytes.getD (a - w.off) 0) ∧
    (∀ k, k < dramKey r.frame (lo - idx * 65536) ∨ dramKey r.frame (hi - idx * 65536) ≤ k → e.memByte k = d.memByte k) ∧
    (e.rack w.cask idx).present = allPages ∧
    (e.rack w.cask idx).dirty = (if clean then r.dirty else r.dirty ||| maskOf (pagesOf idx w.off w.len)) ∧
    (e.rack w.cask idx).frame = r.frame ∧
    (∀ c i, rackKey c i ≠ rackKey w.cask idx → e.rack c i = d.rack c i)

/-- A reader sees its own placed records and everyone's committed ones up to its snapshot, the newest first (R21, R46, R52): the newest record that
covers a byte gives it, and memory gives it where none does. -/
def Obligations.ReadsSeeTheNewest : Prop :=
  (∀ (d : Device) (rs : List VRecord) (cask off len i : Nat), i < (d.rackBytes cask off len).length →
    (d.seenBytes rs cask off len).getD i 0 = ((newestByte rs cask (off + i)).getD ((d.rackBytes cask off len).getD i 0))) ∧
  (∀ (r : VRecord) (rs : List VRecord) (cask a : Nat), r.wire.metaOp = none → r.wire.cask = cask → r.wire.off ≤ a → a < r.wire.off + r.wire.len →
    newestByte (r :: rs) cask a = some (if r.wire.zero then 0 else r.wire.bytes.getD (a - r.wire.off) 0)) ∧
  (∀ (r : VRecord) (rs : List VRecord) (cask a : Nat), r.wire.metaOp = none → (r.wire.cask ≠ cask ∨ a < r.wire.off ∨ r.wire.off + r.wire.len ≤ a) →
    newestByte (r :: rs) cask a = newestByte rs cask a) ∧
  (∀ (d : Device) (x : Source) (snap : Nat) (r : VRecord), d.trl.mode = 0 → r ∈ d.visible x snap →
    r.src = x ∨ ∃ v ∈ d.pst.vints, r ∈ v.recs ∧ v.state = .committed ∧ v.num ≤ snap) ∧
  (∀ (d : Device) (x : Source) (snap : Nat) (r : VRecord), r ∈ d.pst.openRecs → r.src = x → r ∈ d.visible x snap)

/-! ### Supply, bottling and emergence -/

/-- Every command answers a next state, its queue as it was, for every state and all operands, but for one that carries an HVIN reading above the
absolute maximum rating: that reading stops the machine (R524), the manual giving it no effect. -/
def Obligations.AboveTheAbsoluteMaximum : Prop :=
  ∀ (i : Instr) (s : State),
    (hvinOf i ≤ 8000 → ∃ d, Gives i s d) ∧
    (8000 < hvinOf i → exec i s = .fault .absoluteMaximum)

/-- The supply monitor (R117, R118): a bad input in NORMAL or DWELL enters WARN, a good one in WARN starts the dwell, the dwell ends in
NORMAL, and the BOTTLE trigger acts by the supervisor's state; a bad input while SC waits at step 9 of a bottling switches the rails off. The
BOTTLE trigger by state (R118, R405, R426): in ON it latches a bottling, in the flush one that ends where the flush would; while one runs, and
in POWER_DOWN, it does nothing; from Diapause the rails go off, and in a Diapause entry before the null seal it latches one; in POWER_UP it
latches BOTTLING and the rails go down; where no rail stands it latches BOTTLING with nothing to write (log 45); in Chrysalis it does nothing. -/
def Obligations.SupplyMonitor : Prop :=
  (∀ (hvin hu : Nat) (pfi : Bool) (s : State), hvin ≤ 8000 → s.dev.sup.supOn = true →
    let d := s.dev.takeInput hvin hu pfi
    (d.hold.inputBad = true → d.hold.waitIn = false → d.hold.supply = .normal ∨ d.hold.supply = .dwell → Gives (.inputBad hvin hu pfi) s d.inputLost) ∧
    (d.hold.inputBad = false → Gives (.inputBad hvin hu pfi) s d) ∧
    (d.hold.inputBad = true → d.hold.waitIn = true → d.hold.pfDrive = true → Gives (.inputBad hvin hu pfi) s d.stepTen) ∧
    (d.hold.inputBad = true → d.hold.waitIn = true → d.hold.pfDrive = false →
      Gives (.inputBad hvin hu pfi) s (((d.setHold { d.hold with pfDrive := true }).pin "PF_SHARE" 0).stepTen)) ∧
    (d.hold.inputGood = true → d.hold.supply = .warn →
      Gives (.inputGood hvin hu pfi) s (d.setHold { d.hold with supply := .dwell, dwellAt := d.now })) ∧
    (d.hold.inputGood = false ∨ d.hold.supply ≠ .warn → Gives (.inputGood hvin hu pfi) s d) ∧
    (hvin < d.fld Fld.SUP_HV_BOTTLE_LEVEL → Gives (.bottleTrigger hvin hu pfi) s d.bottleTrigger) ∧
    (pfi = true → d.fld Fld.PST_ADMIT_CTRL_PFI_MODE = 2 → Gives (.bottleTrigger hvin hu pfi) s d.bottleTrigger) ∧
    (d.fld Fld.SUP_HV_BOTTLE_LEVEL ≤ hvin → pfi = false ∨ d.fld Fld.PST_ADMIT_CTRL_PFI_MODE ≠ 2 → Gives (.bottleTrigger hvin hu pfi) s d) ∧
    (s.dev.hold.supply = .dwell →
      let e := s.dev.waitUntil (s.dev.hold.dwellAt + 20000)
      Gives .guardDwellExpire s (((e.setHold { e.hold with supply := .normal }).reevalAdmit).supplyNormal).settle) ∧
    (s.dev.hold.supply ≠ .dwell → Gives .guardDwellExpire s s.dev)) ∧
  (∀ d : Device,
    (d.hold.bottle.isSome → d.bottleTrigger = d) ∧
    (d.hold.bottle = none → d.sup.state = .on → d.bottleTrigger = d.latchBottling false .holdoff) ∧
    (d.hold.bottle = none → d.sup.state = .flush → d.bottleTrigger = d.latchBottling true (if d.sup.target = 2 then .lowPower else .off)) ∧
    (d.hold.bottle = none → d.sup.state = .lowPower → d.sup.target = 1 → d.sup.cur ≠ 2 → d.bottleTrigger = d.dropDiapause) ∧
    (d.hold.bottle = none → d.sup.state = .lowPower → d.sup.target = 1 → d.sup.cur = 2 → d.sup.nullSealed = false →
      d.bottleTrigger = ((d.setSup { d.sup with state := .on, cur := 0, target := 0 }).setFld Fld.SUP_PWR_TARGET_MODE 0).latchBottling false .holdoff) ∧
    (d.hold.bottle = none → d.sup.state = .powerUp → d.bottleTrigger = if d.sup.dpExit then d.dropDiapause else d.bottleEarly) ∧
    (d.hold.bottle = none → d.sup.state = .powerDown → d.bottleTrigger = d) ∧
    (d.hold.bottle = none → d.sup.state = .lowPower → d.sup.target ≠ 1 → d.bottleTrigger = d) ∧
    (d.hold.bottle = none → d.sup.state = .init ∨ d.sup.state = .off ∨ d.sup.state = .holdoff ∨ d.sup.state = .lockout →
      d.bottleTrigger = d.latchBottling false d.sup.state))

/-- The steps of a bottling (R119, R122, R123, R126, R127): the dirty pages and the spine are written, a LUN that does not answer is skipped, the
seal record ends the bottling, and the device switches its rails off, waits for the input or resumes; below UVLO everything that SUP's supply
kept is lost. -/
def Obligations.BottlingSteps : Prop :=
  (∀ (b : Bottle) (s : State), s.dev.hold.bottle = some b → b.streamDone = false → s.dev.hold.phase = 3 →
    Gives .bottleStreamDone s
      (let d := s.dev.needVaultKey.streamOut
       (d.setHold { d.hold with bottle := d.hold.bottle.map (fun b => { b with streamDone := true }) }).journalPhase 4)) ∧
  (∀ (ch lun : Nat) (b : Bottle) (s : State), s.dev.hold.bottle = some b → s.dev.hold.phase = 3 ∨ s.dev.hold.phase = 4 →
    Reaches (.vaultProgramTimeout ch lun) s (fun d =>
      d.hold.bottle = some { b with skipped := insertNat (lunKey ch lun) b.skipped } ∧ d.now = s.dev.now + 2000 ∧ d.csk = s.dev.csk ∧ d.mem = s.dev.mem)) ∧
  (∀ (okA okB : Bool) (b : Bottle) (s : State), s.dev.hold.bottle = some b → b.streamDone = true → s.dev.hold.phase = 4 →
    Gives (.spineSealed okA okB) s
      (let d := (s.dev.writeSeal okA okB).journalPhase 5
       (d.setHold { d.hold with supply := .bottled }).decideNine)) ∧
  (∀ (d : Device) (okA okB : Bool) (b : Bottle) (g : Nat), d.hold.bottle = some b → b.preOpen = false → b.target = some g →
    (let w := d.spineAt g b.skipped false
     let e := d.spineAt g b.skipped true
     (d.writeSeal okA okB).newestSaid = some (.sealRec g (d.hold.bseq + 1) w e (sealCrc g (d.hold.bseq + 1) w e))) ∧
    (d.writeSeal okA okB).hold.bseq = d.hold.bseq + 1 ∧ (d.writeSeal okA okB).hold.lastGen = g ∧
    (g < 2 → ((d.writeSeal okA okB).gen g).state = .sealed ∧ ((d.writeSeal okA okB).gen g).copyA = okA ∧ ((d.writeSeal okA okB).gen g).copyB = okB)) ∧
  (∀ (d : Device) (okA okB : Bool) (b : Bottle), d.hold.bottle = some b → b.preOpen = true → d.writeSeal okA okB = d) ∧
  (∀ s : State, s.dev.hold.waitIn = true → s.dev.hold.inputGood = true →
    Gives .bottleResume s ((s.dev.waitUntil (s.dev.hold.goodAt + 20000)).goResume)) ∧
  (∀ (d : Device) (b : Bottle), d.hold.bottle = some b →
    (b.noResume = true ∨ d.hold.inputBad = true → d.decideNine = d.stepTen) ∧
    (b.noResume = false → d.hold.inputBad = false → d.hold.inputGood = true → d.hold.goodAt + 20000 ≤ d.now →
      d.decideNine = (d.setHold { d.hold with waitIn := true }).goResume) ∧
    (b.noResume = false → d.hold.inputBad = false → d.hold.inputGood = false → d.decideNine = d.setHold { d.hold with waitIn := true })) ∧
  (∀ (hvin : Nat) (s : State), s.dev.sup.supOn = true → hvin < 750 →
    Reaches (.hvinUvlo hvin) s (fun d =>
      d.sup.supOn = false ∧ d.sup.state = .init ∧ d.sup.rails = [] ∧ d.hold.supply = .warn ∧ d.hold.bottle = none ∧ d.hold.stopAdm = false ∧
      d.rst.svcOpen = false ∧ d.mir.role = .detached ∧ d.evr.fifo = [])) ∧
  (∀ (hvin : Nat) (s : State), s.dev.sup.supOn = true → 750 ≤ hvin → hvin ≤ 8000 → Gives (.hvinUvlo hvin) s s.dev)

/-- The hold-up measurement (R106–R111, R130): a set starts when its period has passed, a test that could not start is tried again after 60 s, a
bank test that stays in range gives C and ESR and starts the probe, one that does not is discarded, the probe gives the bandwidth and a new plan,
and a written planning input makes the plan afresh. -/
def Obligations.HoldUpMeasurement : Prop :=
  (∀ (hu : Nat) (s : State), s.dev.sup.supOn = true → s.dev.fld Fld.SUP_HU_CTRL_PERIOD_H ≠ 0 →
    let t := s.dev.hold.lastSetAt + 3600000000 * s.dev.fld Fld.SUP_HU_CTRL_PERIOD_H
    Gives (.huMeasPeriod hu) s (((s.dev.waitUntil (min t (s.dev.age.early.getD t))).readHu hu).startSet)) ∧
  (∀ (hu : Nat) (s : State), s.dev.hold.setStart = true → s.dev.hold.testAt = none → s.dev.hold.probing = false →
    Gives (.huTestRetry hu) s (((s.dev.advance 60000000).readHu hu).tryTest)) ∧
  (∀ (v0 vm v60 vend sum us t : Nat) (s : State), s.dev.hold.testAt = some t → 10 * s.dev.fld Fld.SUP_HU_CTRL_DV ≤ v60 - vend →
    100 ≤ v60 - vend → vm ≤ v0 →
    let d := s.dev.waitUntil (t + us)
    let rl := d.fld Fld.SUP_HU_CTRL_RLOAD
    Reaches (.bankTestEnd v0 vm v60 vend sum us true) s (fun e =>
      e.hold.testAt = none ∧ e.hold.probing = true ∧ e.out.head? = some (.pin "HU_TEST_N" 1) ∧ e.mem = s.dev.mem ∧
      (s.regsWf = true → d.regs = s.dev.regs → e.fld Fld.SUP_HU_MEAS_C_C_MF = sum / (10 * rl * (v60 - vend)) % 2 ^ (Fld.SUP_HU_MEAS_C_C_MF.hi + 1 - Fld.SUP_HU_MEAS_C_C_MF.lo)))) ∧
  (∀ (v0 vm v60 vend sum us t : Nat) (inRange : Bool) (s : State), s.dev.hold.testAt = some t → (4000000 ≤ us ∨ inRange = false ∨ v0 < vm) →
    (v60 - vend < 100 ∨ v0 < vm ∨ inRange = false) →
    Gives (.bankTestEnd v0 vm v60 vend sum us inRange) s ((s.dev.waitUntil (t + us)).failTest)) ∧
  (∀ (us : Nat) (s : State), s.dev.hold.probing = true → us ≠ 0 → s.dev.drm.short = false →
    Reaches (.flushProbeDone us) s (fun d =>
      d.hold.probing = false ∧ d.hold.bwMeas = 1073741824 / us ∧ d.hold.planPrev = s.dev.hold.planL ∧ d.hold.lastSetAt = s.dev.now ∧
      d.mem = s.dev.mem ∧ d.csk = s.dev.csk)) ∧
  (∀ s : State, s.dev.hold.replan = true → s.dev.drm.short = false →
    Reaches .planRecompute s (fun d =>
      d.hold.replan = false ∧ d.hold.planPrev = none ∧
      d.hold.planL = (if s.dev.flag Fld.SUP_HU_MEAS_C_VALID then some s.dev.planNow else none) ∧ d.mem = s.dev.mem ∧ d.csk = s.dev.csk)) ∧
  (∀ level vlow pw eta km tf esrMax c c' esr bw : Nat, c ≤ c' →
    planRacks level vlow pw eta km tf esrMax c esr bw ≤ planRacks level vlow pw eta km tf esrMax c' esr bw)

/-- Emergence and the warm reset (R137, R139, R141, R145, R155, R156, R407): with MC1 running the spine load leads to consolidation,
consolidation to resolution, a twin that does not answer to a request alone, resolution to service; the quiesce of a warm reset ends in the
logic reset, or in a bottling when it overruns; releasing the reset inputs lets a held reset go on. -/
def Obligations.EmergenceSteps : Prop :=
  (∀ s : State, s.dev.hubOn = true → s.dev.hold.bottle = none → s.dev.coreUp 1 = true → s.dev.rst.phase = 1 →
    Gives .spineLoadDone s (s.dev.setRst { s.dev.rst with phase := 2 })) ∧
  (∀ s : State, s.dev.hubOn = true → s.dev.hold.bottle = none → s.dev.coreUp 1 = true → s.dev.rst.phase = 2 →
    Gives .spineLoadDone s
      (let d := match s.dev.rst.image with
        | some m => s.dev.loadImage m (if s.dev.rst.source = 1 then some (s.dev.gen s.dev.rst.srcGen) else none)
        | none => s.dev
       let d := if d.rst.source = 1 then d.loadDir d.rst.srcGen else d
       d.setRst { d.rst with phase := 3 })) ∧
  (∀ (m : MetaImage) (s : State), s.dev.hubOn = true → s.dev.hold.bottle = none → s.dev.rst.phase = 9 → s.dev.rst.image = some m →
    Gives .spineLoadDone s ((s.dev.setRst { s.dev.rst with pend := m.pend, image := none, linkUpAt := s.dev.now }).sendResolve)) ∧
  (∀ s : State, s.dev.rst.phase = 3 → s.dev.hold.bottle = none → s.dev.coreUp 1 = true →
    Gives .consolidationDone s
      (let d : Device := { s.dev with adm := { s.dev.adm with metaDirty := [] } }
       (d.setRst { d.rst with phase := 4, linkUpAt := d.now }).sendResolve)) ∧
  (∀ s : State, s.dev.rst.phase = 4 ∨ s.dev.rst.phase = 9 → s.dev.rst.resolved = false → s.dev.rst.image = none → s.dev.hold.bottle = none →
    Gives .twinWaitExpire s ((s.dev.waitUntil (s.dev.rst.linkUpAt + 1000 * s.dev.fld Fld.PST_RST_CTRL_TWIN_WAIT_MS)).requestLease true)) ∧
  (∀ s : State, s.dev.rst.phase = 4 ∨ s.dev.rst.phase = 9 → s.dev.rst.resolved = true → s.dev.rst.awaits = [] → s.dev.hold.bottle = none →
    Gives .serviceOpen s (s.dev.openService.settle.runLatched)) ∧
  (∀ s : State, s.dev.rst.resolved = false ∨ s.dev.rst.awaits ≠ [] → Gives .serviceOpen s s.dev) ∧
  (∀ (w : WarmReset) (s : State), s.dev.sup.warm = some w → w.quiesced = false → w.overran = false →
    Gives .quiesceTimeout s
      (let d := s.dev.waitUntil (w.startAt + 5000)
       (d.setSup { d.sup with warm := some { w with overran := true } }).latchBottling false .holdoff)) ∧
  (∀ (w : WarmReset) (s : State), s.dev.sup.warm = some w → w.quiesced = false → w.overran = false → s.dev.hold.bottle = none →
    Gives .quiesceDone s (((s.dev.setSup { s.dev.sup with warm := some { w with quiesced := true } }).applyCommitted.selfRefresh true).warmGo)) ∧
  (∀ s : State, s.dev.sup.warm = none → Gives .resetInputRelease s (s.dev.setSup { s.dev.sup with rstN := false, mrstN := false })) ∧
  (∀ (w : WarmReset) (s : State), s.dev.sup.warm = some w → w.held = true →
    Gives .resetInputRelease s
      ((s.dev.setSup { s.dev.sup with rstN := false, mrstN := false, warm := some { w with held := false } }).warmGo)) ∧
  (∀ s : State, s.dev.rst.cleared = true → s.dev.mir.role = .detached →
    Gives .aloneRequestRetry s ((s.dev.advance 1000000).requestLease true)) ∧
  (∀ s : State, s.dev.rst.cleared = false ∨ s.dev.mir.role ≠ .detached → Gives .aloneRequestRetry s s.dev)

/-! ### The pair: arbiter, roles, link -/

/-- What a granted reply does (R161–R164, R170, R183, R190, R191): a reply that fails its tag, names another pair, or carries an older epoch is
only taken off its queue; a granted renewal restarts the lease from the moment its request left, and one that said TWIN_SYNCED tells the twin; a
refused one fences the unit; a granted request gives the role and service; one refused as stale leads to a JOIN; a promotion refused while the
lease is held is tried again after its REMAIN, one refused as stale makes the unit DETACHED; a handback makes the holder STANDBY and the target
ACTIVE. While MC2 is stopped a reply waits for it; the lease timer, which is hardware, still takes a granted renewal (R20, R23, R163). -/
def Obligations.ArbiterReplies : Prop :=
  (∀ (ok : Bool) (pair echo epoch result holder stale last remain vf : Nat) (s : State),
    let r : ArbReply := { ok := ok, pair := pair, echo := echo, epoch := epoch, result := result, holder := holder, stale := stale,
                          lastHolder := last, remain := remain, vf := 0 }
    let rh : ArbReply := { r with remain := 0, vf := vf }
    (s.dev.coreUp 2 = true →
      ((s.dev.takeArb r).2.ok = false ∨ pair ≠ (s.dev.takeArb r).1.pair Reg.MIR_PAIR_LO ∨ epoch < (s.dev.takeArb r).1.mir.epoch →
        Gives (.leaseGrant ok pair echo epoch result holder stale last remain) s (s.dev.takeArb r).1 ∧
        Gives (.promoteGrant ok pair echo epoch result holder stale last remain) s (s.dev.takeArb r).1) ∧
      ((s.dev.takeArb rh).2.ok = false ∨ pair ≠ (s.dev.takeArb rh).1.pair Reg.MIR_PAIR_LO ∨ epoch < (s.dev.takeArb rh).1.mir.epoch →
        Gives (.handbackGrant ok pair echo epoch result holder stale last vf) s (s.dev.takeArb rh).1)) ∧
    (s.dev.coreUp 2 = false →
      Gives (.leaseGrant ok pair echo epoch result holder stale last remain) s ((s.dev.leaseTimer r).mc2Wait (.lease r)) ∧
      Gives (.promoteGrant ok pair echo epoch result holder stale last remain) s (s.dev.mc2Wait (.promote r)) ∧
      Gives (.handbackGrant ok pair echo epoch result holder stale last vf) s (s.dev.mc2Wait (.handback rh)))) ∧
  (∀ (m : ArbMsg) (rest : List ArbMsg) (pair echo epoch result holder stale last remain : Nat) (s : State),
    let r : ArbReply := { ok := true, pair := pair, echo := echo, epoch := epoch, result := result, holder := holder, stale := stale,
                          lastHolder := last, remain := remain, vf := 0 }
    let d0 := (s.dev.takeArb r).1
    let d := d0.setMir { d0.mir with waitArb := rest, epoch := epoch, lastResult := result, stale := natBit stale d0.unit, staleKnown := true,
                                     chainOpen := d0.mir.chainOpen || decide (d0.mir.epoch < epoch) }
    let won : Device → Device := fun d => (d.startLease m.sentAt).setMir { (d.startLease m.sentAt).mir with renewAt := m.sentAt, joinReq := false }
    s.dev.coreUp 2 = true → (s.dev.takeArb r).2 = r → pair = d0.pair Reg.MIR_PAIR_LO → d0.mir.waitArb = m :: rest → m.seq = echo → echo < 2 ^ 64 →
    d0.mir.epoch ≤ epoch → d0.hold.phase < 3 → d0.mir.unitConflict = false →
    (m.kind = arbLeaseRenew → result = 0 → m.flags = 0 → d.placesWrites = true →
      Gives (.leaseGrant true pair echo epoch result holder stale last remain) s (d.startLease m.sentAt).leaseOut) ∧
    (m.kind = arbLeaseRenew → result = 0 → m.flags = 2 → d.placesWrites = true →
      Gives (.leaseGrant true pair echo epoch result holder stale last remain) s
        (((d.startLease m.sentAt).leaseOut.vae "ROLE" [4, 0]).raise Reg.MIR_INT_STATUS 4 2)) ∧
    (m.kind = arbLeaseRenew → result = 3 ∨ result = 4 → d.placesWrites = true →
      Gives (.leaseGrant true pair echo epoch result holder stale last remain) s (d.enterFenced 1)) ∧
    (m.kind = arbLeaseRenew → d.placesWrites = false → Gives (.leaseGrant true pair echo epoch result holder stale last remain) s d) ∧
    (m.kind = arbLeaseRequest → result = 0 → m.flags = 8 → d.mir.role = .detached → d.noLease = false →
      Gives (.leaseGrant true pair echo epoch result holder stale last remain) s
        ((((won d).setRole .active).setMir { ((won d).setRole .active).mir with attached := (won d).mir.attached, absent := false }).serveAs false)) ∧
    (m.kind = arbLeaseRequest → result = 0 → m.flags = 4 → d.mir.role = .detached → d.noLease = false → d.rst.resolved = true →
      Gives (.leaseGrant true pair echo epoch result holder stale last remain) s
        ((((won d).setRole .solo).setMir { ((won d).setRole .solo).mir with attached := false, absent := true }).serveAs true)) ∧
    (m.kind = arbLeaseRequest → result = 0 → d.mir.role = .detached → d.noLease = true →
      Gives (.leaseGrant true pair echo epoch result holder stale last remain) s (d.arbWaits arbLeaseRequest m.flags false)) ∧
    (m.kind = arbLeaseRequest → result = 1 → d.mir.role = .detached →
      Gives (.leaseGrant true pair echo epoch result holder stale last remain) s d.followTwin) ∧
    (m.kind = arbLeaseRequest → result = 2 → d.mir.role = .detached → d.rst.cleared = false → d.mir.twinNoImage = false →
      Gives (.leaseGrant true pair echo epoch result holder stale last remain) s d.sendJoin) ∧
    (m.kind = arbLeaseRequest → result = 2 → d.mir.role = .detached → d.rst.cleared = true →
      Gives (.leaseGrant true pair echo epoch result holder stale last remain) s d) ∧
    (m.kind = arbLeaseRequest → result = 2 → d.mir.role = .standby →
      Gives (.leaseGrant true pair echo epoch result holder stale last remain) s (d.setRole .detached)) ∧
    (m.kind = arbPromoteRequest → result = 1 → d.mir.role = .standby →
      Gives (.promoteGrant true pair echo epoch result holder stale last remain) s
        (d.setMir { d.mir with promoteAt := some (d.now + 1000 * (remain + 1)) })) ∧
    (m.kind = arbPromoteRequest → result = 2 → d.mir.role = .standby →
      Gives (.promoteGrant true pair echo epoch result holder stale last remain) s
        ((d.setMir { d.mir with stale := true, promoteAt := none }).setRole .detached)) ∧
    (m.kind = arbPromoteRequest → result = 0 → d.mir.role = .standby → d.noLease = true →
      Gives (.promoteGrant true pair echo epoch result holder stale last remain) s d) ∧
    (m.kind = arbPromoteRequest → result = 0 → d.mir.role = .standby → d.noLease = false →
      Gives (.promoteGrant true pair echo epoch result holder stale last remain) s
        (let e := ({ d with pst := { d.pst with rx := none } } : Device).dropAbove 0
         let e := (e.startLease m.sentAt).setMir { (e.startLease m.sentAt).mir with renewAt := m.sentAt, promoteAt := none, absent := true,
                                                                                     attached := false }
         (e.setRole .solo).serveAs true))) ∧
  (∀ (m : ArbMsg) (rest : List ArbMsg) (pair echo epoch result holder stale last vf : Nat) (s : State),
    let r : ArbReply := { ok := true, pair := pair, echo := echo, epoch := epoch, result := result, holder := holder, stale := stale,
                          lastHolder := last, remain := 0, vf := vf }
    let d0 := (s.dev.takeArb r).1
    let d := d0.setMir { d0.mir with waitArb := rest, epoch := epoch, lastResult := result, stale := natBit stale d0.unit, staleKnown := true,
                                     chainOpen := d0.mir.chainOpen || decide (d0.mir.epoch < epoch) }
    s.dev.coreUp 2 = true → (s.dev.takeArb r).2 = r → pair = d0.pair Reg.MIR_PAIR_LO → d0.hold.phase < 3 → d0.mir.unitConflict = false →
    (d0.mir.waitArb = m :: rest → m.seq = echo → echo < 2 ^ 64 → d0.mir.epoch ≤ epoch → m.kind = arbHandbackRequest → result = 0 →
      d.mir.hbHolder ≠ 0 →
      Gives (.handbackGrant true pair echo epoch result holder stale last vf) s
        ((((d.setMir { d.mir with hbHolder := 0, deadline := none, attached := false }).becomeStandby).fenceWaiting.fenceFences).raise
          Reg.MIR_INT_STATUS 5 2)) ∧
    (d0.mir.waitArb = m :: rest → m.seq = echo → echo < 2 ^ 64 → d0.mir.epoch ≤ epoch → m.kind = arbHandbackRequest → result ≠ 0 →
      d.mir.hbHolder ≠ 0 →
      Gives (.handbackGrant true pair echo epoch result holder stale last vf) s
        ((d.setMir { d.mir with hbHolder := 0, pinsOnCommit := some d.pst.nextNum }).releaseStep10.settle)) ∧
    (∀ t : Nat, d0.mir.waitArb = [] → d0.mir.role = .standby → d0.mir.hbProposed = some t → d0.noLease = false → epoch = d0.mir.epoch + 1 →
      result = 0 → holder = d0.unit →
      Gives (.handbackGrant true pair echo epoch result holder stale last vf) s
        (let e := (d0.startLease t).setMir { (d0.startLease t).mir with epoch := epoch, lastResult := 0, hbProposed := none, renewAt := t,
                                                                        hbArmedAt := none }
         (((e.setRole .active).setMir { (e.setRole .active).mir with attached := true, absent := false }).serveAs false).raise
           Reg.MIR_INT_STATUS 5 2)))

/-- The lease runs for 100 ms from the send time of the request it answers (R163). The timers and pins of the pair (R161, R163, R164, R166,
R171, R183, R186, R191): the deadline fences a unit that places writes; FENCE_IN fences it too; FENCE_NOTICE repeats while notices are left;
the holder renews; an unanswered message is sent anew; the pins drop; the other unit asks for the first role after 50 ms. Fencing, its notices
and the pins are hardware; what MC2 does waits while that core is stopped (R20, R23). -/
def Obligations.LeaseAndRoleTimers : Prop :=
  (∀ (d : Device) (t : Nat), (d.startLease t).mir.deadline = some (t + 100000) ∧ (d.startLease t).mir.role = d.mir.role ∧
    (d.startLease t).regs = d.regs ∧ (d.startLease t).mem = d.mem ∧ (d.startLease t).out = d.out) ∧
  ((∀ (t : Nat) (s : State), s.dev.mir.deadline = some t → s.dev.placesWrites = true → Gives .leaseDeadline s ((s.dev.waitUntil t).enterFenced 1)) ∧
  (∀ s : State, s.dev.mir.deadline = none ∨ s.dev.placesWrites = false → Gives .leaseDeadline s s.dev) ∧
  (∀ s : State, s.dev.mir.notices ≠ 0 →
    Gives .fenceNoticeRepeat s
      (let d := s.dev.waitUntil (s.dev.mir.fencedAt + 1000 * (3 - s.dev.mir.notices))
       (d.setMir { d.mir with notices := d.mir.notices - 1 }).sendUnit arbFenceNotice (d.mir.fenceCause * 16))) ∧
  (∀ s : State, s.dev.mir.notices = 0 → Gives .fenceNoticeRepeat s s.dev) ∧
  (∀ s : State, s.dev.coreUp 2 = false → Gives .leaseRenewTimer s s.dev ∧ Gives .arbRetryTimeout s s.dev ∧ Gives .firstRoleWaitExpire s s.dev ∧
    Gives .promoteRetry s s.dev ∧ Gives .handbackDelayExpire s s.dev ∧ Gives .handbackCommitWaitDone s s.dev ∧
    Gives .handbackRequestRepeat s s.dev ∧ Gives .resyncComplete s s.dev) ∧
  (∀ s : State, s.dev.coreUp 2 = true → s.dev.placesWrites = true → s.dev.hold.bottle = none →
    Gives .leaseRenewTimer s ((s.dev.waitUntil (s.dev.mir.renewAt + 40000)).renewLease (b2n s.dev.mir.soloPend))) ∧
  (∀ (m : ArbMsg) (rest : List ArbMsg) (s : State), s.dev.coreUp 2 = true → s.dev.mir.waitArb = m :: rest → m.tried = false →
    let d := s.dev.waitUntil (m.sentAt + 10000)
    let e := d.setMir { d.mir with waitArb := if m.seq < 2 ^ 64 then { m with tried := true } :: rest else rest }
    let alt := e.flag Fld.MIR_ARB_PATH_ALT_EN && !m.alt
    (m.kind = arbLeaseRenew → e.placesWrites = true → Gives .arbRetryTimeout s (e.sendUnit m.kind m.flags alt)) ∧
    (m.kind = arbPromoteRequest → e.mir.role = .standby → Gives .arbRetryTimeout s (e.sendUnit m.kind m.flags alt)) ∧
    (m.kind = arbLeaseRequest → e.mir.role = .detached ∨ e.mir.role = .fenced →
      Gives .arbRetryTimeout s (if e.noLease then e.arbWaits m.kind m.flags false else e.sendUnit m.kind m.flags alt)) ∧
    (m.kind = arbHandbackRequest → Gives .arbRetryTimeout s (if e.mir.hbHolder = 2 then e.sendHbRequest else e))) ∧
  (∀ s : State, s.dev.mir.waitArb = [] → Gives .arbRetryTimeout s s.dev) ∧
  (∀ s : State, Gives (.fenceIn true) s ((s.dev.setMir { s.dev.mir with fenceIn := true }).enterFenced 3) ∧
    Gives (.fenceIn false) s (s.dev.setMir { s.dev.mir with fenceIn := false })) ∧
  (∀ (t : Nat) (s : State), s.dev.mir.pinsDue = some t →
    Reaches .pinDropTimer s (fun d => d.mir.rolePins = (if s.dev.receives then 1 else 0) ∧ d.mir.svcOk = false ∧ d.mir.pinsDue = none ∧
      d.mir.pinsOnCommit = s.dev.mir.pinsOnCommit ∧ d.mir.role = s.dev.mir.role ∧ d.mem = s.dev.mem)) ∧
  (∀ s : State, s.dev.coreUp 2 = true → s.dev.mir.role = .detached → s.dev.rst.resolved = true → s.dev.rst.awaits = [] → s.dev.mir.serving = false →
    s.dev.preferred = false → s.dev.mir.twinRole ≠ some .active → s.dev.mir.twinRole ≠ some .solo →
    Gives .firstRoleWaitExpire s ((s.dev.waitUntil (s.dev.mir.firstAt + 50000)).requestLease s.dev.rst.alone)) ∧
  (∀ (t : Nat) (s : State), s.dev.coreUp 2 = true → s.dev.mir.promoteAt = some t → s.dev.mir.role ≠ .standby →
    Gives .promoteRetry s (s.dev.setMir { s.dev.mir with promoteAt := none })) ∧
  (∀ (t : Nat) (s : State), s.dev.coreUp 2 = true → s.dev.mir.promoteAt = some t → s.dev.mir.role = .standby →
    Gives .promoteRetry s
      (let d := s.dev.waitUntil t
       let e := d.setMir { d.mir with promoteAt := some (d.now + 5000) }
       e.sendUnit arbPromoteRequest 0 (e.altNext arbPromoteRequest))) ∧
  (∀ (t : Nat) (s : State), s.dev.coreUp 2 = true → s.dev.mir.hbArmedAt = some t → s.dev.hbRuns = true →
    Gives .handbackDelayExpire s ((s.dev.waitUntil (t + 1000000 * s.dev.fld Fld.MIR_TIMERS_HANDBACK_DELAY_S)).startHandback)) ∧
  (∀ s : State, s.dev.coreUp 2 = true → s.dev.mir.hbHolder = 1 → s.dev.mir.role = .active → s.dev.pst.openRecs = [] → s.dev.sealedCount = 0 →
    Gives .handbackCommitWaitDone s (((s.dev.setMir { s.dev.mir with hbHolder := 2, hbVF := s.dev.pst.commitNum }).dropPinsHb).sendHbRequest)) ∧
  (∀ s : State, s.dev.coreUp 2 = true → s.dev.mir.hbHolder = 2 → s.dev.mir.role = .active → Gives .handbackRequestRepeat s ((s.dev.advance 2000).sendHbRequest)))

/-- A unit that places writes and is fenced (R57, R160, R162, R163, R186) is FENCED, places none, has no lease deadline, keeps its pins for 10 ms
and has two FENCE_NOTICEs left to send, or none for a unit-number conflict; nothing it sealed is lost and memory stays. One that places none is
not changed. -/
def Obligations.FencingStopsWrites : Prop :=
  (∀ (d : Device) (cause : Nat), d.placesWrites = false → d.enterFenced cause = d) ∧
  (∀ (d : Device) (cause : Nat), d.placesWrites = true → d.mir.step10 = [] → d.adm.held = [] → d.pst.placeWait = [] → d.pst.fences = [] →
    d.csk.gate = [] → d.pst.openRecs = [] → d.cascadeShared = false → d.cascadeMember = false → d.cascadeMaster = false →
    let e := d.enterFenced cause
    e.mir.role = .fenced ∧ e.placesWrites = false ∧ e.mir.deadline = none ∧ e.mir.fencedAt = d.now ∧ e.mir.fenceCause = cause ∧
    e.mir.pinsDue = some (d.now + 10000) ∧ e.mir.notices = (if cause = 7 then 0 else 2) ∧ e.pst.vints = d.pst.vints ∧
    e.csk.streams = [] ∧ e.csk.casks = d.csk.casks ∧ e.csk.racks = d.csk.racks ∧ e.mem = d.mem)

/-- Link events (R172, R173, R177, R180): a failed lane leaves the set of healthy lanes; a retrain ends with the link down when no width is
left, and tests again the lanes that it did not find; a lane that passes its test is healthy again; STATUS goes out every 10 µs; silence for
200 µs takes the link down; a link down for ABSENT_TMO declares the twin absent, and so does a twin that stays DETACHED. The width of the link
is the widest that whole groups of healthy lanes give, and none below the least that is configured (R172). -/
def Obligations.LinkEvents : Prop :=
  ((∀ (lane : Nat) (s : State), lane < 16 → page? s.dev.mir.lanes lane = true →
    Reaches (.laneFail lane) s (fun d => d.mir.lanes = s.dev.mir.lanes &&& ~~~ pageBit lane ∧ d.mir.retests = insertNat lane s.dev.mir.retests ∧
      d.mir.linkUp = s.dev.mir.linkUp ∧ d.mem = s.dev.mem ∧ d.out = s.dev.out)) ∧
  (∀ (lane : Nat) (s : State),
    (lane < 16 → page? s.dev.mir.lanes lane = true →
      Gives (.laneFail lane) s
        ((s.dev.setMir { s.dev.mir with lanes := s.dev.mir.lanes &&& ~~~ pageBit lane, retests := insertNat lane s.dev.mir.retests }).bumpSat
          Fld.MIR_LINK_STATUS_RETRAINS)) ∧
    (16 ≤ lane ∨ page? s.dev.mir.lanes lane = false → Gives (.laneFail lane) s s.dev)) ∧
  (∀ (lanes : BitVec 16) (s : State), s.dev.hubOn = true → s.dev.hold.bottle = none →
    bestWidth lanes (s.dev.fld Fld.MIR_LINK_CFG_MIN_LANES) = 0 →
    Gives (.linkRetrainDone lanes) s
      ((s.dev.setMir { s.dev.mir with lanes := lanes, retests := (List.range 16).filter (fun n => !page? lanes n) }).vaeDown)) ∧
  (∀ (lanes : BitVec 16) (s : State), s.dev.hubOn = false ∨ s.dev.hold.bottle ≠ none → Gives (.linkRetrainDone lanes) s s.dev) ∧
  (∀ (lanes : BitVec 16) (s : State), s.dev.hubOn = true → s.dev.hold.bottle = none →
    let w := bestWidth lanes (s.dev.fld Fld.MIR_LINK_CFG_MIN_LANES)
    let was := s.dev.mir.width
    let d := s.dev.setMir { s.dev.mir with lanes := lanes, retests := (List.range 16).filter (fun n => !page? lanes n) }
    w ≠ 0 →
    (∀ t, s.dev.mir.widenAt = some t → s.dev.now < t + 10000000 → was < w → was ≠ 0 → Gives (.linkRetrainDone lanes) s d) ∧
    ((∀ t, s.dev.mir.widenAt = some t → was < w → was ≠ 0 → t + 10000000 ≤ s.dev.now) →
      let d : Device := if was < w ∧ was ≠ 0 then (d.setMir { d.mir with widenAt := some d.now }).bumpSat Fld.MIR_LINK_STATUS_RETRAINS else d
      let d := (d.setMir { d.mir with width := w, linkUp := true, lastGoodAt := d.now, twinOther := d.mir.twinOther && d.mir.linkUp,
                                      rxSkip := false, rxWant := none, rxFirst := d.mir.rxFirst || was == 0 }).endAbsence
      let d : Device := if w < was then d.raise Reg.MIR_INT_STATUS 3 3 else d
      (d.sup.joinBack = true → d.sup.state = .on → d.mir.role = .detached →
        Gives (.linkRetrainDone lanes) s ((d.setSup { d.sup with joinBack := false }).mc2 .rejoin)) ∧
      (d.sup.joinBack = false ∨ d.sup.state ≠ .on ∨ d.mir.role ≠ .detached →
        (d.rst.phase = 4 ∨ d.rst.phase = 9 → Gives (.linkRetrainDone lanes) s ((d.setRst { d.rst with linkUpAt := d.now }).sendResolve)) ∧
        (d.rst.phase ≠ 4 → d.rst.phase ≠ 9 → Gives (.linkRetrainDone lanes) s d)))) ∧
  (∀ (lanes : BitVec 16) (s : State), s.dev.hubOn = true → s.dev.hold.bottle = none → s.dev.mir.width = 0 →
    bestWidth lanes (s.dev.fld Fld.MIR_LINK_CFG_MIN_LANES) ≠ 0 → s.dev.sup.joinBack = false → s.dev.rst.phase ≠ 4 → s.dev.rst.phase ≠ 9 →
    Reaches (.linkRetrainDone lanes) s (fun d =>
      d.mir.linkUp = true ∧ d.mir.width = bestWidth lanes (s.dev.fld Fld.MIR_LINK_CFG_MIN_LANES) ∧ d.mir.lanes = lanes ∧ d.mir.lastGoodAt = s.dev.now ∧
      d.mir.role = s.dev.mir.role ∧ d.mem = s.dev.mem)) ∧
  (∀ (lane : Nat) (s : State), s.dev.mir.retests.contains lane = true →
    Reaches (.laneRetest lane true) s (fun d => d.mir.lanes = s.dev.mir.lanes ||| pageBit lane ∧ d.mir.retests.contains lane = false ∧
      d.now = s.dev.now + 1000000 ∧ d.mem = s.dev.mem)) ∧
  (∀ (lane : Nat) (ok : Bool) (s : State),
    (s.dev.mir.retests.contains lane = true →
      let d := s.dev.advance 1000000
      Gives (.laneRetest lane ok) s
        (if ok then d.setMir { d.mir with lanes := d.mir.lanes ||| pageBit lane, retests := d.mir.retests.filter (fun l => decide (l ≠ lane)) }
         else d)) ∧
    (s.dev.mir.retests.contains lane = false → Gives (.laneRetest lane ok) s s.dev)) ∧
  (∀ s : State, s.dev.mir.linkUp = true →
    let d := (s.dev.waitUntil (s.dev.mir.statusAt + 10)).ackHeld
    let h := if d.placesWrites then d.hNum else if d.receives then d.mir.lastWhole else d.hNum
    Gives .statusSendTimer s
      ((d.setMir { d.mir with statusAt := d.now }).vaeBudget "STATUS" [h, statusWord d.mir.epoch (roleNum d.mir.role)
        (d.fld Fld.MIR_CTRL_PREF_STANDBY) (d.fld Fld.MIR_CTRL_HANDBACK_EN) d.unit d.mir.width])) ∧
  (∀ s : State, s.dev.mir.linkUp = true → s.dev.receives = false →
    Reaches .statusSendTimer s (fun d => d.mir.statusAt = d.now ∧ s.dev.mir.statusAt + 10 ≤ d.now ∧
      (∃ args bytes, d.out.head? = some (.vae "STATUS" args [] bytes)) ∧ d.pst = s.dev.pst ∧ d.mem = s.dev.mem)) ∧
  (∀ s : State, s.dev.mir.linkUp = true →
    Gives .linkDownTimeout s (((s.dev.waitUntil (s.dev.mir.lastGoodAt + 200)).vaeDown).bumpSat Fld.MIR_LINK_STATUS_RETRAINS)) ∧
  (∀ s : State, s.dev.mir.linkUp = false → s.dev.mir.absent = false →
    Gives .twinAbsent s (((s.dev.waitUntil (s.dev.mir.linkDownAt + 1000 * s.dev.fld Fld.MIR_TIMERS_ABSENT_TMO_MS)).declareAbsent).absentReport.settle)) ∧
  (∀ s : State, s.dev.mir.linkUp = true ∨ s.dev.mir.absent = true → Gives .twinAbsent s s.dev) ∧
  (∀ s : State, s.dev.placesWrites = false ∨ s.dev.mir.twinRole ≠ some .detached ∨ s.dev.mir.absent = true ∨ s.dev.mir.attached = true →
    Gives .detachedTwinExpire s s.dev) ∧
  (∀ s : State, s.dev.mir.attached = false → Gives .twinBudgetTimeout s s.dev) ∧
  (∀ s : State, s.dev.placesWrites = true → s.dev.mir.twinRole = some .detached → s.dev.mir.absent = false → s.dev.mir.attached = false →
    Gives .detachedTwinExpire s (((s.dev.waitUntil (s.dev.mir.firstAt + 200000)).declareAbsent).settle)) ∧
  (∀ s : State, s.dev.mir.attached = true → Gives .twinBudgetTimeout s ((s.dev.waitUntil (s.dev.mir.budgetAt + 100)).reevalAdmit)) ∧
  (∀ s : State, s.dev.mir.linkUp = false → Gives .linkDownTimeout s s.dev ∧ Gives .statusSendTimer s s.dev)) ∧
  (∀ (lanes : BitVec 16) (m : Nat),
    bestWidth lanes m ∈ [0, 4, 8, 16] ∧ (bestWidth lanes m = 16 → lanes = BitVec.allOnes 16) ∧
    (m = 1 → bestWidth lanes m ≠ 4) ∧ (m = 2 → bestWidth lanes m = 0 ∨ lanes = BitVec.allOnes 16) ∧
    (lanes.toNat % 16 = 15 → m = 0 → bestWidth lanes m ≠ 0) ∧ (lanes = 0 → bestWidth lanes m = 0))


/-- Frames of a vintage (R176–R179): VHEAD opens the reception of an image on a unit that receives, VDATA adds its bytes in order, VEND ends
it with a VNAK when it is not whole; VACK acknowledges and carries the twin's budget; VNAK sends the image again from the offset, and more
than eight retrain the link. A link that is down takes no frame. A frame that fails its CRC, or whose cells hold a poisoned word, is dropped: a
unit to which vintages come asks for the one that it lacks from its first missing byte, and skips what follows (R178; that a poisoned frame counts
so is the model's reading, log 31); one that finds no cells is discarded (R237). -/
def Obligations.VintageFrames : Prop :=
  ((∀ (lseq num prev epoch len count cause : Nat) (rel : Bool) (s : State), s.dev.mir.linkUp = true → s.dev.qmg.bad.contains 0x41 = false →
    s.dev.mayReserve 0x41 frameMax 0x410 = true → s.dev.receives = true → epoch = s.dev.mir.epoch →
    Reaches (.vhead lseq true num prev epoch len count cause rel) s (fun d =>
      d.pst.rx = some { num := num, prev := prev, epoch := epoch, len := len, count := count, cause := cause, rel := rel, got := 0, recs := [] } ∧
      d.mir.rxLseq = lseq ∧ d.mir.learned = max s.dev.mir.learned num ∧ d.pst.resv = max s.dev.pst.resv (num / 2 ^ 24 * 2 ^ 24) ∧
      d.csk = s.dev.csk ∧ d.mem = s.dev.mem ∧ d.out = s.dev.out)) ∧
  (∀ (lseq num prev epoch len count cause : Nat) (rel : Bool) (s : State), s.dev.mir.linkUp = true → s.dev.qmg.bad.contains 0x41 = false →
    s.dev.mayReserve 0x41 frameMax 0x410 = true → s.dev.receives = false → s.dev.rst.awaits.contains num = false → s.dev.placesWrites = false →
    Reaches (.vhead lseq true num prev epoch len count cause rel) s (fun d =>
      d.pst.rx = none ∧ d.mir.epoch = max s.dev.mir.epoch epoch ∧ d.mir.learned = max s.dev.mir.learned num ∧ d.mem = s.dev.mem)) ∧
  (∀ (lseq num off n : Nat) (recs : List WireRec) (x : RxImage) (s : State), s.dev.hears lseq = true → s.dev.mir.rxWant = none → s.dev.pst.rx = some x →
    x.num = num → x.got = off →
    Gives (.vdata lseq true num off n recs) s
      { s.dev.heard lseq with pst := { s.dev.pst with rx := some { x with got := off + n, recs := x.recs ++ recs } } }) ∧
  (∀ (lseq num len count : Nat) (imageOk : Bool) (x : RxImage) (s : State), s.dev.hears lseq = true → s.dev.pst.rx = some x → x.num = num →
    (x.got ≠ len ∨ x.len ≠ len ∨ x.recs.length ≠ count ∨ imageOk = false) →
    Gives (.vend lseq true num len count imageOk) s
      (let d := s.dev.heard lseq
       (d.setMir { d.mir with rxSkip := true, rxWant := some (num, x.got) }).vae "VNAK" [num, x.got])) ∧
  (∀ (lseq num len count : Nat) (x : RxImage) (s : State), s.dev.hears lseq = true → s.dev.pst.rx = some x → x.num = num → x.got = len → x.len = len →
    x.recs.length = count → s.dev.rst.awaits = [] → x.epoch = s.dev.mir.epoch → x.prev = s.dev.mir.lastWhole →
    Gives (.vend lseq true num len count true) s
      (let d : Device := { s.dev.heard lseq with pst := { s.dev.pst with rx := none } }
       let v : Vintage := { num := num, state := .sealed, cause := if x.cause = 1 then .period else if x.cause = 2 then .size else .forced,
                            recs := takenRecs x, sealedAt := d.now, shipped := true, acked := true, own := false }
       let d := d.setPst { d.pst with vints := d.pst.vints ++ [v], nextNum := max d.pst.nextNum (num + 1), sealedNum := max d.pst.sealedNum num }
       ((d.setMir { d.mir with lastWhole := num, chainOpen := false }).ackHeld).settle)) ∧
  (∀ (lseq num applied dirtyPages limit high freeKib wbRate admState : Nat) (s : State), s.dev.hears lseq = true →
    Gives (.vack lseq true num applied dirtyPages limit high freeKib wbRate admState) s
      ((((s.dev.heard lseq).takeBudget num { dirtyPages := dirtyPages, limit := limit, high := high, freeKib := freeKib, wbRate := wbRate,
                                             admState := admState }).takeAck num).settle)) ∧
  (∀ (lseq num off : Nat) (v : Vintage) (s : State), s.dev.hears lseq = true →
    let sent := (if s.dev.ships then s.dev.pst.vints else []) ++ s.dev.rst.sentPend.map s.dev.pendVint
    sent.find? (fun v => v.own && v.shipped && v.num == num) = some v →
    let n := AMap.getD (fun _ => 0) s.dev.mir.vnaks num + 1
    let d := (s.dev.heard lseq).bumpPair Reg.MIR_VNAK_CNT_LO
    let d := d.setMir { d.mir with vnaks := AMap.setD (fun _ => 0) d.mir.vnaks num n }
    (n ≤ 8 → Gives (.vnak lseq true num off) s (d.sendImage v off)) ∧
    (8 < n → Gives (.vnak lseq true num off) s (d.vaeDown.bumpSat Fld.MIR_LINK_STATUS_RETRAINS)))) ∧
  ((∀ (lseq num off n h p : Nat) (recs : List WireRec) (crc same : Bool) (s : State), s.dev.mir.linkUp = false →
    Gives (.vdata lseq crc num off n recs) s s.dev ∧ Gives (.vnak lseq crc num off) s s.dev ∧ Gives (.join lseq crc same h) s s.dev ∧
    Gives (.joinAccept lseq crc p) s s.dev ∧ Gives (.joinRefuse lseq crc) s s.dev ∧ Gives (.synced lseq crc) s s.dev ∧
    Gives (.hbPropose lseq crc) s s.dev) ∧
  (∀ (lseq h : Nat) (crc same : Bool) (s : State), s.dev.mir.linkUp = true → crc = false ∨ s.dev.qmg.bad.contains 0x41 = true →
    let d := (s.dev.passing 0x41).2
    (d.vintagesCome = false ∨ d.mir.rxSkip = true → Gives (.join lseq crc same h) s d) ∧
    (d.vintagesCome = true → d.mir.rxSkip = false → Gives (.join lseq crc same h) s d.askAgain)) ∧
  (∀ (lseq h : Nat) (same : Bool) (s : State), s.dev.mir.linkUp = true → s.dev.qmg.bad.contains 0x41 = false →
    s.dev.mayReserve 0x41 frameMax 0x410 = false → Gives (.join lseq true same h) s (s.dev.refuseCells 0x41 frameMax)) ∧
  (∀ (x : RxImage) (d : Device), d.pst.rx = some x →
    d.askAgain = (d.setMir { d.mir with rxSkip := true, rxWant := some (x.num, x.got) }).vae "VNAK" [x.num, x.got]) ∧
  (∀ d : Device, d.pst.rx = none →
    d.askAgain = (d.setMir { d.mir with rxSkip := true, rxWant := some (d.mir.lastWhole + 1, 0) }).vae "VNAK" [d.mir.lastWhole + 1, 0]))

/-- Frames of the roles and of resolution (R161, R162, R175, R183, R188, R190, R191): each acts on the device that has taken it; what MC2 does
with a ROLE frame waits while that core is stopped (R20, R23). -/
def Obligations.RoleFrames : Prop :=
  ∀ (lseq : Nat) (s : State), s.dev.hears lseq = true →
    let d := s.dev.heard lseq
    (s.dev.coreUp 2 = false →
      (∀ (h : Nat) (same : Bool), Gives (.join lseq true same h) s ((d.learnNum h).mc2Wait (.join h d.mir.twinEpoch same))) ∧
      (∀ p : Nat, Gives (.joinAccept lseq true p) s ((d.learnNum p).mc2Wait (.joinAccept p))) ∧
      Gives (.joinRefuse lseq true) s (d.mc2Wait .joinRefuse) ∧ Gives (.synced lseq true) s (d.mc2Wait .synced) ∧
      Gives (.hbPropose lseq true) s (d.mc2Wait .hbPropose)) ∧
    (∀ (h : Nat) (same : Bool), s.dev.coreUp 2 = true → s.dev.mir.role ≠ .detached →
      Gives (.join lseq true same h) s (((d.learnNum h).answerJoin h d.mir.twinEpoch same).settle)) ∧
    (∀ (h : Nat) (same : Bool), s.dev.coreUp 2 = true → s.dev.mir.role = .detached → s.dev.rst.resolved = true → s.dev.rst.awaits = [] → s.dev.mir.serving = false →
      s.dev.preferred = false → s.dev.mir.waitArb = [] →
      Gives (.join lseq true same h) s ((d.learnNum h).requestLease s.dev.rst.alone)) ∧
    (∀ p : Nat, s.dev.coreUp 2 = true → Gives (.joinAccept lseq true p) s ((d.learnNum p).joinAccepted p)) ∧
    (s.dev.coreUp 2 = true → s.dev.mir.joinReq = true → Gives (.joinRefuse lseq true) s ((d.setMir { d.mir with joinReq := false }).joinRefused)) ∧
    (s.dev.coreUp 2 = true → s.dev.mir.joinReq = false → Gives (.joinRefuse lseq true) s d) ∧
    (s.dev.coreUp 2 = true → s.dev.mir.role ≠ .resync → Gives (.synced lseq true) s d) ∧
    (s.dev.coreUp 2 = true → s.dev.mir.role ≠ .active ∨ s.dev.mir.hbHolder ≠ 0 → Gives (.hbPropose lseq true) s d) ∧
    (s.dev.coreUp 2 = true → s.dev.mir.role = .resync → Gives (.synced lseq true) s ((d.setMir { d.mir with stale := false }).becomeStandby)) ∧
    (s.dev.coreUp 2 = true → s.dev.mir.role = .active → s.dev.mir.hbHolder = 0 →
      Gives (.hbPropose lseq true) s ((d.setMir { d.mir with hbHolder := 1 }).forceSeal)) ∧
    (∀ (h epoch role width dp limit high freeKib wbRate admState : Nat) (pref hb same : Bool), s.dev.placesWrites = true →
      s.dev.mir.unitConflict = false → width ≤ 16 → s.dev.csk.gate = [] → s.dev.mir.step10 = [] → s.dev.adm.held = [] → s.dev.pst.placeWait = [] →
      s.dev.pst.fences = [] → s.dev.pst.openRecs = [] → s.dev.trl.mode = 0 →
      Reaches (.status lseq true same h epoch role pref hb s.dev.unit width dp limit high freeKib wbRate admState) s (fun e =>
        e.mir.unitConflict = true ∧ e.mir.role = .fenced ∧ e.mir.fenceCause = 7 ∧ e.mir.twinRole = some (roleOf role) ∧
        e.mir.twinUnit = some s.dev.unit ∧ e.mir.joinReq = false ∧ e.mir.hbProposed = none)) ∧
    (∀ (h epoch role unit width dp limit high freeKib wbRate admState : Nat) (pref hb same : Bool), width ≤ 16 → unit ≠ s.dev.unit →
      let i : Instr := .status lseq true same h epoch role pref hb unit width dp limit high freeKib wbRate admState
      let r := roleOf role
      let e := d.setMir { d.mir with twinRole := some r, twinUnit := some unit, twinPref := some pref, twinHb := hb, twinEpoch := epoch,
                                     twinOther := d.mir.twinOther || r != .detached, learned := max d.mir.learned h }
      let b : Budget := { dirtyPages := dp, limit := limit, high := high, freeKib := freeKib, wbRate := wbRate, admState := admState }
      let e := if r = .active ∨ r = .solo then (e.setMir { e.mir with budget := some b, budgetAt := e.now }).reevalAdmit else e.takeBudget h b
      let e := (e.setMir { e.mir with unitConflict := false }).learnEpoch epoch
      (same = false → Gives i s e.declareAbsent.settle) ∧
      (same = true → r = .detached → s.dev.mir.twinOther = true → Gives i s e.declareAbsent.settle) ∧
      (same = true → r ≠ .detached →
        let e := e.endAbsence
        let e := if (r = .standby ∨ r = .resync) ∧ e.mir.role = .active then e.attachTwin else e
        (e.mir.role = .standby → r = .fenced →
          Gives i s (if e.mir.waitArb.any (fun m => m.kind == arbPromoteRequest) || e.mir.promoteAt.isSome then e else e.sendUnit arbPromoteRequest 0)) ∧
        (r = .standby ∨ r = .resync → Gives i s e.settle) ∧
        (r = .active ∨ r = .solo → e.coreUp 2 = false → Gives i s e.settle) ∧
        (r = .active ∨ r = .solo → e.coreUp 2 = true → e.mir.role = .fenced → e.mir.joinReq = false → Gives i s e.sendJoin) ∧
        (r = .active ∨ r = .solo → e.coreUp 2 = true → e.mir.role = .detached → e.rst.cleared = false → e.rst.noImage = false → e.agreed = true →
          e.mir.serving = false → Gives i s e.followTwin.settle))) ∧
    (∀ (h epoch role unit dp limit high freeKib wbRate admState width : Nat) (pref hb same : Bool), 16 < width →
      Gives (.status lseq true same h epoch role pref hb unit width dp limit high freeKib wbRate admState) s d) ∧
    (∀ (h role : Nat) (noImage : Bool) (pend : List (Nat × Bool)) (held : List Nat), role ≤ 15 → noImage = false →
      Gives (.resolve lseq true false noImage h role pend held) s d) ∧
    (∀ (h role : Nat) (pend : List (Nat × Bool)) (held : List Nat), role ≤ 15 → s.dev.rst.phase = 4 → s.dev.rst.resolved = true →
      s.dev.rst.noImage = false → Gives (.resolve lseq true true false h role pend held) s d.answerResolve) ∧
    (∀ (h role : Nat) (same : Bool) (pend : List (Nat × Bool)) (held : List Nat), role ≤ 15 → s.dev.rst.phase = 4 ∨ s.dev.rst.phase = 9 →
      s.dev.rst.resolved = false →
      Gives (.resolve lseq true same true h role pend held) s ((d.setMir { d.mir with twinNoImage := true }).resolve 0 (fun _ => false) false)) ∧
    (∀ (h role : Nat) (held : List Nat), role ≤ 15 → s.dev.rst.phase = 4 ∨ s.dev.rst.phase = 9 → s.dev.rst.resolved = false →
      let e := d.learnNum h
      let e := ((e.setRst { e.rst with twinH := some h }).shipPending h (fun n => held.contains n) []).resolve h (fun n => held.contains n) false
      let e := e.setRst { e.rst with awaits := [] }
      Gives (.resolve lseq true true false h role [] held) s (e.setPair Reg.PST_RST_RESOLVE_LO e.rst.vR).firstRole)

/-- The first role is decided with the twin's RESOLVE (R142): a pending vintage stands when the twin holds it as committed, or when it lies at
or above K = max(H, H') and a pending vintage at or above it carries REL; a resolution ends once, with no vintage pending. A JOIN (R188): it
is refused when the pair differs, when the joiner holds more than P, or when its epoch is older than every entry of the table; P is 0 for a
unit that holds nothing; an accepted one attaches the twin. -/
def Obligations.ResolutionAndJoins : Prop :=
  ((∀ (d : Device) (hTwin num : Nat) (held : Nat → Bool), d.cascadeShared = false →
    (d.pendingStands hTwin held num = true ↔
      held num = true ∨ (max d.hNum hTwin ≤ num ∧ ∃ q ∈ d.pendAll, q.2 = true ∧ num ≤ q.1))) ∧
  (∀ (d : Device) (hTwin : Nat) (held : Nat → Bool) (alone : Bool), d.rst.resolved = true → d.resolve hTwin held alone = d) ∧
  (∀ (d : Device) (hTwin : Nat) (held : Nat → Bool) (alone : Bool), d.rst.resolved = false → d.cascadeShared = false → d.rst.pend = [] →
    d.rst.phase ≠ 4 →
    let e := d.resolve hTwin held alone
    e.rst.resolved = true ∧ e.rst.pend = [] ∧ e.rst.vR = max d.hNum hTwin ∧ e.rst.alone = alone ∧ e.pst = d.pst ∧ e.mem = d.mem)) ∧
  ((∀ (d : Device) (h epoch : Nat), d.placesWrites = true → d.mir.soloPend = false →
    (d.answerJoin h epoch false = (d.vae "ROLE" [3, 0]).joinRefused) ∧
    (∀ p, d.joinPoint h epoch = some p → p < h → d.answerJoin h epoch true = (d.vae "ROLE" [3, 0]).joinRefused) ∧
    (d.joinPoint h epoch = none → d.answerJoin h epoch true = (d.vae "ROLE" [3, 0]).joinRefused)) ∧
  (∀ d : Device, bitAt (d.reg Reg.MIR_INT_STATUS) 7 = false → d.joinRefused = d.raise Reg.MIR_INT_STATUS 7 7) ∧
  (∀ (d : Device) (h epoch : Nat) (ok : Bool), d.placesWrites = false ∨ d.mir.soloPend = true → d.answerJoin h epoch ok = d) ∧
  (∀ (d : Device) (epoch : Nat), d.joinPoint 0 epoch = some 0) ∧
  (∀ (d : Device) (h : Nat), h ≠ 0 → d.joinPoint h d.mir.epoch = some (max d.pst.commitNum d.pst.sealedNum)) ∧
  (∀ (d : Device) (h epoch p : Nat), d.mir.role = .active → d.mir.soloPend = false → d.drm.short = false → h ≠ 0 →
    d.joinPoint h epoch = some p → h ≤ p →
    let e := d.answerJoin h epoch true
    e.mir.attached = true ∧ e.mir.absent = false ∧ e.mir.joinPrev0 = true ∧ e.mir.role = .active ∧ e.mem = d.mem ∧ e.csk = d.csk))

/-- Page recovery and resync (R189, R190, R193): a request for a page below A' waits, a poisoned page is not available, another is answered with its
bytes; data is installed, a failure poisons the page; the walk places one record when the twin takes it; frames that wait are sent again. -/
def Obligations.RecoveryAndResync : Prop :=
  (∀ (lseq cask rack page tag aMin : Nat) (s : State), s.dev.hears lseq = true →
    let d := s.dev.heard lseq
    (d.pst.appliedNum < aMin → Gives (.pfetchReq lseq true cask rack page tag aMin) s d) ∧
    (aMin ≤ d.pst.appliedNum → d.pagePoisoned cask rack page = true ∨ d.pageRefetch cask rack page = true →
      Gives (.pfetchReq lseq true cask rack page tag aMin) s (d.vae "PFETCH_DATA" [cask * 2 ^ 36 + rack, page * 2 ^ 60 + tag] [] [] 1)) ∧
    (aMin ≤ d.pst.appliedNum → d.pagePoisoned cask rack page = false → d.pageRefetch cask rack page = false →
      Gives (.pfetchReq lseq true cask rack page tag aMin) s
        (d.vae "PFETCH_DATA" [cask * 2 ^ 36 + rack, page * 2 ^ 60 + tag, d.pst.appliedNum] []
          (beBytes 8 d.pst.appliedNum ++ d.rackPage cask rack page)))) ∧
  (∀ (lseq cask rack page tag a : Nat) (bytes : List Byte) (f : Pfetch) (s : State), s.dev.hears lseq = true →
    s.dev.mir.pfetch.find? (fun f => f.cask == cask && f.rack == rack && f.page == page && f.tag == tag) = some f →
    let d := s.dev.heard lseq
    Gives (.pfetchData lseq true cask rack page tag true a bytes) s (d.failFetch f) ∧
    Gives (.pfetchData lseq true cask rack page tag false a bytes) s
      ((d.setMir { d.mir with pfetch := d.mir.pfetch.map (fun x => if x = f then { f with got := some (a, bytes) } else x) }).installPages)) ∧
  (∀ (cask rack page : Nat) (f : Pfetch) (s : State),
    s.dev.mir.pfetch.find? (fun f => f.cask == cask && f.rack == rack && f.page == page) = some f →
    Gives (.pfetchTimeout cask rack page) s
      (if f.asked then (s.dev.waitUntil (f.startAt + 1000 * s.dev.fld Fld.MIR_TIMERS_PFETCH_TMO_MS)).failFetch f else s.dev)) ∧
  (∀ (b : Budget) (s : State), s.dev.mir.role = .active → s.dev.mir.twinRole = some .resync → s.dev.mir.budget = some b → b.admState = 0 →
    s.dev.targetGen.isSome → s.dev.coreUp 2 = true → Gives .resyncWalk s s.dev.walkOne) ∧
  (∀ s : State, s.dev.mir.role ≠ .active → Gives .resyncWalk s s.dev ∧ Gives .resyncComplete s s.dev) ∧
  (∀ s : State, s.dev.mir.role = .active → s.dev.mir.twinRole = some .resync → s.dev.mir.absence = [] → s.dev.mir.absCasks = [] →
    s.dev.mir.absGrants = [] → s.dev.mir.syncLast = none → s.dev.trl.mode = 0 → s.dev.others = [] → s.dev.coreUp 2 = true → Gives .resyncComplete s (s.dev.renewLease 2)) ∧
  (∀ s : State, s.dev.mir.joinReq = false → s.dev.mir.hbProposed = none → s.dev.rst.phase ≠ 4 → s.dev.rst.phase ≠ 9 → s.dev.mir.pfetch = [] →
    Gives .frameRetryTimer s (s.dev.advance 100)) ∧
  (∀ s : State, s.dev.joins = true → s.dev.coreUp 2 = true → s.dev.mir.hbProposed = none → s.dev.rst.phase ≠ 4 → s.dev.rst.phase ≠ 9 →
    s.dev.mir.pfetch = [] → Gives .frameRetryTimer s ((s.dev.advance 100).vae "ROLE" [1, s.dev.hNum])) ∧
  (∀ (t : Nat) (s : State), s.dev.mir.joinReq = false → s.dev.mir.hbProposed = some t → s.dev.mir.role = .standby → s.dev.rst.phase ≠ 4 →
    s.dev.rst.phase ≠ 9 → s.dev.mir.pfetch = [] →
    Gives .frameRetryTimer s (if s.dev.coreUp 2 then (s.dev.advance 100).vae "ROLE" [5, 0] else s.dev.advance 100)) ∧
  (∀ s : State, s.dev.mir.joinReq = false → s.dev.mir.hbProposed = none → s.dev.rst.phase = 4 ∨ s.dev.rst.phase = 9 → s.dev.rst.resolved = false →
    s.dev.mir.pfetch = [] → Gives .frameRetryTimer s (s.dev.advance 100).sendResolve) ∧
  (∀ (f : Pfetch) (s : State), s.dev.mir.joinReq = false → s.dev.mir.hbProposed = none → s.dev.rst.phase ≠ 4 → s.dev.rst.phase ≠ 9 →
    s.dev.mir.pfetch = [f] → f.got = none → f.asked = true → Gives .frameRetryTimer s ((s.dev.advance 100).askPage f))
/-! ### Ethernet, RoCEv2 and PDT -/

/-- The remote descriptors and the QP commands that a serving unit takes (R258, R259, R261, R262, R299): a remote request goes to its transport, or
ends with the status of the rule it breaks; a RECV joins its QP or endpoint; a QP is made in the lowest free context with the next incarnation,
changed, written to the host and destroyed; the first of a function opens the function's initiator queue (R235). -/
def Obligations.ConverseDescriptors : Prop :=
  ∀ (fn q : Nat) (x : DescState) (s : State),
    let d := s.dev.startDesc fn q x
    let t := s.dev.takenDesc fn q x
    let e := s.dev.takenDesc fn 0 x
    (s.dev.takesIo fn q 0x10 x = true →
      (∀ st, d.remoteRefuse fn x.dw = some st → Gives (.remoteWrite fn q) s (d.complete fn q x.seq st 0 0).settle) ∧
      (d.remoteRefuse fn x.dw = none → dCaskIo x.dw = false → Gives (.remoteWrite fn q) s (d.remoteGo fn q x.seq x.dw x.data).settle) ∧
      (d.remoteRefuse fn x.dw = none → dCaskIo x.dw = true →
        let r := d.startRead (.sq fn q) (.desc fn q x.seq) (.ring fn) (dCask x.dw) (dOffset x.dw) (dLength x.dw) (fun p => .remoteSrc p)
        Gives (.remoteWrite fn q) s (if r.2 = stOk then r.1 else r.1.complete fn q x.seq r.2 0 0).settle)) ∧
    (s.dev.takesIo fn q 0x11 x = true →
      (∀ st, t.remoteRefuse fn x.dw = some st → Gives (.remoteRead fn q) s (t.complete fn q x.seq st 0 0).settle) ∧
      (t.remoteRefuse fn x.dw = none → Gives (.remoteRead fn q) s (t.remoteGo fn q x.seq x.dw []).settle)) ∧
    (s.dev.takesIo fn q 0x12 x = true →
      (2 ≤ dwF x.dw 8 31 30 ∨ (dwF x.dw 8 31 30 = 1 ∧ dwAt x.dw 12 ≠ 0) → Gives (.recv fn q) s (t.complete fn q x.seq stInvalid 0 0)) ∧
      ((dwF x.dw 8 31 30 = 1 ∧ dwAt x.dw 12 = 0 ∧ t.qp? (dwF x.dw 8 23 0) = none) ∨ (dwF x.dw 8 31 30 = 0 ∧ t.ep? (dwF x.dw 8 23 0) = none) →
        Gives (.recv fn q) s (t.complete fn q x.seq stProt 0 0)) ∧
      (∀ c, dwF x.dw 8 31 30 = 1 → dwAt x.dw 12 = 0 → t.qp? (dwF x.dw 8 23 0) = some c →
        (c.owner ≠ fn → Gives (.recv fn q) s (t.complete fn q x.seq stProt 0 0)) ∧
        (c.owner = fn → c.state = 4 → Gives (.recv fn q) s (t.complete fn q x.seq stAborted 0 0)) ∧
        (c.owner = fn → c.state ≠ 4 → 4096 ≤ c.recvs.length → Gives (.recv fn q) s (t.complete fn q x.seq stBudget 0 0)) ∧
        (c.owner = fn → c.state ≠ 4 → c.recvs.length < 4096 →
          Gives (.recv fn q) s (t.updQp (dwF x.dw 8 23 0 % 1048576) (fun c => { c with recvs := c.recvs ++ [(fn, q, x.seq)] })))) ∧
      (∀ g, dwF x.dw 8 31 30 = 0 → t.ep? (dwF x.dw 8 23 0) = some g →
        (g.owner ≠ fn → Gives (.recv fn q) s (t.complete fn q x.seq stProt 0 0)) ∧
        (g.owner = fn → 4096 ≤ g.recvs.length → Gives (.recv fn q) s (t.complete fn q x.seq stBudget 0 0)) ∧
        (g.owner = fn → g.recvs.length < 4096 →
          Gives (.recv fn q) s
            (t.setPdt { t.pdt with eps := t.pdt.eps.put (dwF x.dw 8 23 0 % 65536) { g with recvs := g.recvs ++ [(fn, q, x.seq)] } })))) ∧
    (s.dev.takesCore 6 fn 0xB0 x = true →
      (e.fnExists (dwF x.dw 8 9 0) = false → Gives (.qpCreate fn) s (e.complete fn 0 x.seq stRange 0 0)) ∧
      (e.fnExists (dwF x.dw 8 9 0) = true → e.freeQpc = none → Gives (.qpCreate fn) s (e.complete fn 0 x.seq stBudget 0 0)) ∧
      (∀ i, e.fnExists (dwF x.dw 8 9 0) = true → e.freeQpc = some i →
        let inc := nextInc e.net.qpInc i 15
        let g := e.setNet { e.net with qps := e.net.qps.put i (newQp inc (dwF x.dw 8 9 0) e.now), qpInc := e.net.qpInc.put i inc }
        let g := (g.setFld Fld.NET_QP_LIVE_COUNT g.net.qps.length).openOnce (0x8800 + dwF x.dw 8 9 0) 3 (dwF x.dw 8 9 0)
        Gives (.qpCreate fn) s (g.complete fn 0 x.seq stOk (inc * 1048576 + i) 0))) ∧
    (s.dev.takesCore 6 fn 0xB1 x = true →
      (e.qp? (dwF x.dw 8 23 0) = none → Gives (.qpModify fn) s (e.complete fn 0 x.seq stRange 0 0)) ∧
      (∀ c, e.qp? (dwF x.dw 8 23 0) = some c →
        (attrZeros x.data = false ∨ attrTake c.state (byteAt x.data 0) x.data c.attr = none →
          Gives (.qpModify fn) s (e.complete fn 0 x.seq stRange 0 0)) ∧
        (∀ a, attrZeros x.data = true → attrTake c.state (byteAt x.data 0) x.data c.attr = some a →
          (byteAt x.data 0 = 4 →
            Gives (.qpModify fn) s ((e.errQp (dwF x.dw 8 23 0 % 1048576) 0 false).complete fn 0 x.seq stOk 0 0)) ∧
          (byteAt x.data 0 = 0 →
            Gives (.qpModify fn) s (((e.abortQp (dwF x.dw 8 23 0 % 1048576)).updQp (dwF x.dw 8 23 0 % 1048576)
              (fun c => { newQp c.inc c.owner e.now with recvs := c.recvs, cnpAt := c.cnpAt })).complete fn 0 x.seq stOk 0 0)) ∧
          (byteAt x.data 0 = 1 →
            Gives (.qpModify fn) s ((e.updQp (dwF x.dw 8 23 0 % 1048576) (fun c => { c with state := 1, attr := a })).complete
              fn 0 x.seq stOk 0 0)) ∧
          (byteAt x.data 0 = 2 →
            Gives (.qpModify fn) s ((e.updQp (dwF x.dw 8 23 0 % 1048576) (fun c => { c with
              state := 2, attr := a, ePsn := leAt x.data 16 3, ackPsn := (leAt x.data 16 3 + 16777215) % 16777216 })).complete fn 0 x.seq stOk 0 0)) ∧
          (byteAt x.data 0 = 3 →
            Gives (.qpModify fn) s ((e.updQp (dwF x.dw 8 23 0 % 1048576) (fun c => { c with
              state := 3, attr := a, sPsn := if c.state = 2 then leAt x.data 12 3 else c.sPsn,
              rate := if c.state = 2 then rateAt (e.ifRate (byteAt a 2)) e.now else c.rate })).complete fn 0 x.seq stOk 0 0))))) ∧
    (s.dev.takesCore 6 fn 0xB2 x = true →
      (e.qp? (dwF x.dw 8 23 0) = none → Gives (.qpDestroy fn) s (e.complete fn 0 x.seq stRange 0 0)) ∧
      ((e.qp? (dwF x.dw 8 23 0)).isSome → Gives (.qpDestroy fn) s ((e.dropQp (dwF x.dw 8 19 0)).complete fn 0 x.seq stOk 0 0))) ∧
    (s.dev.takesDev fn 0xB3 x = true →
      (e.qp? (dwF x.dw 8 23 0) = none → Gives (.qpQuery fn) s (e.complete fn 0 x.seq stRange 0 0)) ∧
      (∀ c, e.qp? (dwF x.dw 8 23 0) = some c →
        Gives (.qpQuery fn) s (e.answerHost fn 0 x (qpBlock c))))

/-- Frames and links of the Ethernet ports (R244, R246–R250, R252, R264): a frame that its interface does not accept is dropped and counted,
and so is a packet of a transport other than RC, or a PDT packet of another opcode; a RoCEv2 or PDT frame enters the ingress queue of its
priority, an arbiter message that of its port and an exception frame that of MC6; MC6 answers what it answers; a link comes up or goes down; a
pause holds its priority for its time, and the watchdog ends one that holds too long. -/
def Obligations.EthernetPorts : Prop :=
  (∀ (f : EthFrame) (s : State), s.dev.ifUp f.iface = true → s.dev.hubOn = true →
    let n := f.iface / 8
    let d := if f.bad then s.dev else s.dev.bumpPair Reg.NET_P_RX_FRAMES_LO 1 n
    (9600 < f.len ∨ f.pause = true → Gives (.ethFrameRx f) s (s.dev.netDrop n)) ∧
    (s.dev.ifAccepts f.iface f = false ∨ s.dev.classify f = none → Gives (.ethFrameRx f) s (s.dev.netDrop n)) ∧
    (s.dev.ifAccepts f.iface f = true → s.dev.classify f = some 1 →
      (f.bad = true ∨ f.bth % 256 / 32 = 0 ∨ f.bth % 256 = 0x81 →
        Gives (.ethFrameRx f) s (d.enterIngress n (d.rxPrio f) f.len (d.rxOwner 1 f) f.bad)) ∧
      (f.bad = false → f.bth % 256 / 32 ≠ 0 → f.bth % 256 ≠ 0x81 → Gives (.ethFrameRx f) s (d.netDrop n))) ∧
    (s.dev.ifAccepts f.iface f = true → s.dev.classify f = some 2 →
      (f.bad = true ∨ Device.pdtOpcode f.bth = true →
        Gives (.ethFrameRx f) s (d.enterIngress n (d.rxPrio f) f.len (d.rxOwner 2 f) f.bad)) ∧
      (f.bad = false → Device.pdtOpcode f.bth = false → Gives (.ethFrameRx f) s ((d.bumpPdt 1).bumpPdt 13))) ∧
    (s.dev.ifAccepts f.iface f = true → s.dev.classify f = some 3 → Gives (.ethFrameRx f) s (d.receive (0x30 + n) f.len 0x430 false f.bad)) ∧
    (s.dev.ifAccepts f.iface f = true → s.dev.classify f = some 4 →
      (s.dev.mc6Room n = false → Gives (.ethFrameRx f) s (s.dev.netDrop n)) ∧
      (s.dev.mc6Room n = true → ∃ c, Reaches (.ethFrameRx f) s (fun e =>
        let g := d.receive (0x300 + n) f.len (0x400 + n) false f.bad
        e = g.setNet { g.net with mc6 := g.net.mc6.put n (g.now / 1000000, c) })))) ∧
  (∀ (f : EthFrame) (s : State), s.dev.ifUp f.iface = false → Gives (.ethFrameRx f) s s.dev) ∧
  (∀ (d : Device) (qn len owner : Nat) (mark : Bool), let cells := (8 + len + 255) / 256
    (d.queue qn).state ≠ 3 →
    (d.mayReserve qn cells owner = false → d.receive qn len owner mark true = d.refuseCells qn cells ∧
      d.receive qn len owner mark false = (d.refuseCells qn cells).addMark qn none) ∧
    (d.mayReserve qn cells owner = true → d.receive qn len owner mark true = d.bumpSat Fld.QMG_Q_DROP_REWOUND 1 qn ∧
      d.receive qn len owner mark false = d.enterQueue qn
        { tok := .none, owner := owner, cells := cells, whole := true, poison := false, void := false, len := len } mark)) ∧
  (∀ (iface : Nat) (bytes : List Byte) (s : State), s.dev.hubOn = true → s.dev.coreUp 6 = true →
    let e := s.dev.popIn (0x300 + iface / 8)
    (e.2 = none → ∀ kind target, Gives (.exceptionFrame iface kind target bytes) s e.1) ∧
    (∀ mark, e.2 = some (mark, true) → ∀ kind target, Gives (.exceptionFrame iface kind target bytes) s (e.1.eventR 3 Device.qmgBlk 229)) ∧
    (∀ mark, e.2 = some (mark, false) → e.1.ifUp iface = true →
      Gives (.exceptionFrame iface 1 true bytes) s (e.1.sendFrame iface 0 "ARP_REPLY" [] bytes) ∧
      Gives (.exceptionFrame iface 2 true bytes) s (e.1.sendFrame iface 0 "NEIGHBOUR_ADVERTISEMENT" [] bytes) ∧
      Gives (.exceptionFrame iface 3 true bytes) s (e.1.sendFrame iface 0 "ICMP_ECHO_REPLY" [] bytes)) ∧
    (∀ mark, e.2 = some (mark, false) → ∀ kind, Gives (.exceptionFrame iface kind false bytes) s e.1)) ∧
  (∀ (iface kind : Nat) (target : Bool) (bytes : List Byte) (s : State), s.dev.hubOn = false ∨ s.dev.coreUp 6 = false →
    Gives (.exceptionFrame iface kind target bytes) s s.dev) ∧
  (∀ (iface : Nat) (s : State), s.dev.hubOn = true → iface < 64 → s.dev.flag Fld.NET_P_MODE_EN (iface / 8) = true →
    iface % 8 < 2 ^ s.dev.fld Fld.NET_P_MODE_BRK (iface / 8) → s.dev.ifUp iface = false → s.dev.sup.plls.contains 4 = true →
    Gives (.ethLinkUp iface) s
      ((s.dev.setReg Reg.NET_P_STATUS (bitsSet (s.dev.reg Reg.NET_P_STATUS (iface / 8)) (iface % 8) (iface % 8) 1) (iface / 8)).raise
        Reg.NET_INT_STATUS 0 1)) ∧
  (∀ (iface : Nat) (s : State), s.dev.ifUp iface = true →
    ((s.dev.ifDown iface).fld Fld.NET_P_STATUS_UP (iface / 8) ≠ 0 → Gives (.ethLinkDown iface) s (s.dev.ifDown iface)) ∧
    ((s.dev.ifDown iface).fld Fld.NET_P_STATUS_UP (iface / 8) = 0 → Gives (.ethLinkDown iface) s ((s.dev.ifDown iface).npDown (iface / 8)))) ∧
  (∀ (iface prio quanta : Nat) (s : State), s.dev.ifUp iface = true → prio < 8 →
    let d := s.dev.bumpPair Reg.NET_P_PFC_RX_LO 1 (iface / 8)
    (quanta = 0 → Gives (.pfcFrameRx iface prio quanta) s (d.unpause iface prio).settle) ∧
    (quanta ≠ 0 → Reaches (.pfcFrameRx iface prio quanta) s (fun e =>
      e.net.paused.find? (8 * iface + prio) = some (s.dev.now + d.pauseUs iface (min quanta 65535)) ∧
      (s.dev.net.pausedAt.has (8 * (iface / 8) + prio) = true → e.net.pausedAt = s.dev.net.pausedAt) ∧
      e.net.pauseRx.find? (8 * (iface / 8) + prio) = some s.dev.now ∧ e.net.egress = s.dev.net.egress ∧
      e.out = s.dev.out ∧ e.mem = s.dev.mem))) ∧
  (∀ (port prio t : Nat) (s : State), s.dev.net.xoff.find? (8 * port + prio) = some t →
    let d := s.dev.waitUntil (t + s.dev.pauseUs (8 * port) 65535 / 2)
    (d.fld Fld.NET_P_XOFF_XON port ≤ queueCells (d.queue (0x200 + 8 * port + prio)) →
      Gives (.pfcRefreshTimer port prio) s ((d.setNet { d.net with xoff := d.net.xoff.put (8 * port + prio) d.now }).sendPfc port prio 0xFFFF)) ∧
    (queueCells (d.queue (0x200 + 8 * port + prio)) < d.fld Fld.NET_P_XOFF_XON port → Gives (.pfcRefreshTimer port prio) s d)) ∧
  (∀ (iface prio t : Nat) (s : State), s.dev.net.paused.find? (8 * iface + prio) = some t →
    Gives (.pauseExpire iface prio) s ((s.dev.waitUntil t).unpause iface prio).settle) ∧
  (∀ (port prio t : Nat) (s : State), s.dev.net.pausedAt.find? (8 * port + prio) = some t →
    (s.dev.fld Fld.NET_P_PFC_STORM_MS port = 0 → Gives (.pfcStormExpire port prio) s s.dev) ∧
    (s.dev.fld Fld.NET_P_PFC_STORM_MS port ≠ 0 → s.dev.net.storm.has (8 * port + prio) = false →
      (∃ i, i < 8 ∧ t + 1000 * s.dev.fld Fld.NET_P_PFC_STORM_MS port ≤ (s.dev.net.paused.find? (8 * (8 * port + i) + prio)).getD 0) →
      let d := s.dev.waitUntil (t + 1000 * s.dev.fld Fld.NET_P_PFC_STORM_MS port)
      let e := (d.setNet { d.net with storm := d.net.storm.put (8 * port + prio) ((d.net.pauseRx.find? (8 * port + prio)).getD t) }).raise
        Reg.NET_INT_STATUS 3 4
      Gives (.pfcStormExpire port prio) s
        (drainEgress (8 * port + prio) (((e.net.egress.find? (8 * port + prio)).getD []).length + 1) e))) ∧
  (∀ (port prio t : Nat) (s : State), s.dev.net.storm.find? (8 * port + prio) = some t →
    Reaches (.pfcStormClear port prio) s (fun e => e.net.storm = s.dev.net.storm.del (8 * port + prio) ∧
      e.net.pausedAt = s.dev.net.pausedAt.del (8 * port + prio) ∧ e.now = max s.dev.now (t + 100000) ∧ e.mem = s.dev.mem ∧
      ∀ k v, (k, v) ∈ e.net.paused → ¬(k / 64 = port ∧ k % 8 = prio)))

/-- RoCEv2 requests at a QP that receives and has no NAK outstanding (R252, R254, R256, R257): at the expected PSN each enters the QP's requests, or
is an invalid request; one below it is a duplicate; one above it draws the PSN sequence error; then what may run runs, and what is done is
answered. Before service opens, and at a unit that places no writes, the answer is an RNR NAK for the PSN that the QP expects. -/
def Obligations.RoceRequests : Prop :=
  ∀ (p : RoceIn) (q : Qp) (s : State), s.dev.hearsRoce p q = true → q.state = 2 ∨ q.state = 3 → q.naked = false →
    let e := s.dev.heardRoce p
    let i := p.qpn % 1048576
    let d := e.updQp i (fun q => { q with naked := false })
    let go (d : Device) : Device := (roceRun i 4096 d).settle
    let read (handle off len : Nat) : RoceReq :=
      { RoceReq.blank with psn := p.psn, last := (p.psn + packetsOf len (pmtuBytes (byteAt q.attr 1)) - 1) % 16777216, ans := .read,
                           handle := handle, off := off, len := len }
    (e.rst.svcOpen = true → e.placesWrites = true → p.psn = q.ePsn →
      (∀ (place : Nat) (bytes : List Byte),
        Gives (.roceSend p place 0 bytes) s (go (d.roceData1 i q p.psn place 0 0 0 true false 0 bytes))) ∧
      (∀ (place variant : Nat) (bytes : List Byte), variant ≠ 0 →
        Gives (.roceSend p place variant bytes) s (go (d.roceNakAt i p.psn roceInvalid))) ∧
      (∀ (place handle off dmaLen imm : Nat) (hasImm : Bool) (bytes : List Byte),
        Gives (.roceRdmaWrite p place handle off dmaLen hasImm imm bytes) s
          (go (d.roceData1 i q p.psn place handle off dmaLen false hasImm imm bytes))) ∧
      (∀ handle off len : Nat,
        (2147483648 < len → Gives (.roceRdmaReadReq p handle off len) s (go (d.roceNakAt i p.psn roceInvalid))) ∧
        (len ≤ 2147483648 → Gives (.roceRdmaReadReq p handle off len) s (go (d.roceAdd i q (read handle off len))))) ∧
      (∀ kind handle off a b : Nat,
        (2 ≤ kind → Gives (.roceAtomic p kind handle off a b) s (go (d.roceNakAt i p.psn roceInvalid))) ∧
        (kind < 2 → Gives (.roceAtomic p kind handle off a b) s
          (go (d.roceAdd i q { RoceReq.blank with psn := p.psn, last := p.psn, ans := .atomic, handle := handle, off := off, len := 8,
                                                  op := if kind = 0 then .cas 8 a b else .fadd a }))))) ∧
    (e.rst.svcOpen = true → e.placesWrites = true → p.psn ≠ q.ePsn → seqBefore 24 p.psn q.ePsn = false →
      ∀ (place handle off n a b : Nat) (hasImm : Bool) (bytes : List Byte),
        Gives (.roceSend p place n bytes) s (go (e.roceNakAt i q.ePsn rocePsnErr)) ∧
        Gives (.roceRdmaWrite p place handle off n hasImm a bytes) s (go (e.roceNakAt i q.ePsn rocePsnErr)) ∧
        Gives (.roceRdmaReadReq p handle off n) s (go (e.roceNakAt i q.ePsn rocePsnErr)) ∧
        Gives (.roceAtomic p n handle off a b) s (go (e.roceNakAt i q.ePsn rocePsnErr))) ∧
    (e.rst.svcOpen = true → e.placesWrites = true → p.psn ≠ q.ePsn → seqBefore 24 p.psn q.ePsn = true →
      ∀ (place handle off n a : Nat) (hasImm : Bool) (bytes : List Byte),
        Gives (.roceSend p place n bytes) s (go (e.roceReAck i)) ∧
        Gives (.roceRdmaWrite p place handle off n hasImm a bytes) s (go (e.roceReAck i)) ∧
        Gives (.roceRdmaReadReq p handle off n) s
          (go (e.updQp i (fun c => { c with reqs := insertReq { read handle off n with dup := true } c.reqs }))) ∧
        (∀ kind b x, q.saved.find? (fun x => x.1 == p.psn) = some x →
          Gives (.roceAtomic p kind handle off a b) s (go (e.qpFrame q "ATOMIC_RESP" [p.psn] (leBytes 8 x.2)))) ∧
        (∀ kind b, q.saved.find? (fun x => x.1 == p.psn) = none →
          Gives (.roceAtomic p kind handle off a b) s
            (go (if q.reqs.any (fun r => r.psn == p.psn) then e else e.roceNakAt i p.psn roceInvalid)))) ∧
    (e.rst.svcOpen = false ∨ e.placesWrites = false → ∀ (place handle off n a b : Nat) (hasImm : Bool) (bytes : List Byte),
      let nak := ((e.updQp i (fun q => { q with naked := true })).qpFrame q "NAK" [q.ePsn, 0x20 + e.fld Fld.NET_CTRL_RNR_FENCE]).settle
      Gives (.roceSend p place n bytes) s nak ∧ Gives (.roceRdmaWrite p place handle off n hasImm a bytes) s nak ∧
      Gives (.roceRdmaReadReq p handle off n) s nak ∧ Gives (.roceAtomic p n handle off a b) s nak)

/-- What a QP sends and hears as requester, and its timers (R254, R259, R263): replies reach the requests of a QP in RTS, a read's last response
lands its bytes, an ACK that is due is sent, a request without an answer is sent again, the rate falls to no less than RMIN and recovers to no more
than the interface rate; the limiter of a PDT flow has the same timers (R284). -/
def Obligations.RoceRequester : Prop :=
  (∀ (p : RoceIn) (q : Qp) (s : State), s.dev.hearsRoce p q = true →
    let e := s.dev.heardRoce p
    let i := p.qpn % 1048576
    (∀ syndrome, q.state = 3 → Gives (.roceAcknowledge p syndrome) s (e.roceReply i p.psn syndrome).settle) ∧
    (∀ syndrome, q.state ≠ 3 → Gives (.roceAcknowledge p syndrome) s e.settle) ∧
    (∀ bytes, q.state = 3 →
      Gives (.roceReadResponse p bytes) s ((roceCover i ((p.psn + 16777215) % 16777216) 4096 e).roceLand i p.psn bytes).settle) ∧
    (∀ bytes, q.state ≠ 3 → Gives (.roceReadResponse p bytes) s e.settle) ∧
    (let c := e.bumpPair Reg.NET_P_CNP_RX_LO 1 (p.iface / 8)
     (q.state = 3 → Gives (.roceCnp p) s (c.updQp i (fun q => { q with rate := c.rateHit q.rate }))) ∧
     (q.state ≠ 3 → Gives (.roceCnp p) s c))) ∧
  (∀ (d : Device) (i psn : Nat) (bytes : List Byte) (c : Qp) (o : RoceOut) (rest : List RoceOut),
    d.net.qps.find? i = some c → c.out = o :: rest → o.read = true → o.sent = true →
    (psn ≠ (o.psn + o.got / pmtuBytes (byteAt c.attr 1)) % 16777216 → d.roceLand i psn bytes = d) ∧
    (psn = (o.psn + o.got / pmtuBytes (byteAt c.attr 1)) % 16777216 →
      (o.got + bytes.length < o.len → d.roceLand i psn bytes =
        d.updQp i (fun q => { q with out := { o with got := o.got + bytes.length, bytes := o.bytes ++ bytes } :: rest, sentAt := d.now, tries := 0 })) ∧
      (o.len ≤ o.got + bytes.length → d.roceLand i psn bytes =
        rocePump i 4096 ((d.updQp i (fun q => { q with out := rest, sentAt := d.now, tries := 0, rnrs := 0 })).landRead o.fn o.q o.seq 0
          (o.bytes ++ bytes) stOk 0)))) ∧
  (∀ (qpn : Nat) (q : Qp) (s : State), s.dev.qp? qpn = some q →
    (q.ackDue = true → q.state = 2 ∨ q.state = 3 →
      Gives (.roceAckSend qpn) s
        ((s.dev.updQp (qpn % 1048576) (fun q => { q with ackDue := false })).qpFrame q "ACK" [q.ackPsn, 0x1F])) ∧
    (q.ackDue = false → Gives (.roceAckSend qpn) s s.dev) ∧
    (q.state = 3 → byteAt q.attr 20 % 32 ≠ 0 → q.rnrAt = none → q.out.any (·.sent) = true →
      Gives (.roceAckTimeout qpn) s
        ((s.dev.waitUntil (q.sentAt + 4096 * 2 ^ (byteAt q.attr 20 % 32) / 1000)).roceRetry (qpn % 1048576)).settle) ∧
    (byteAt q.attr 20 % 32 = 0 → Gives (.roceAckTimeout qpn) s s.dev) ∧
    (∀ t, q.rnrAt = some t → q.state = 3 →
      Gives (.roceRnrTimer qpn) s
        (rocePump (qpn % 1048576) 4096
          (((s.dev.waitUntil t).updQp (qpn % 1048576) (fun q => { q with rnrAt := none })).roceResend (qpn % 1048576)))) ∧
    (q.rnrAt = none → Gives (.roceRnrTimer qpn) s s.dev) ∧
    (qpn ≠ 0 → q.state = 3 →
      (let d := s.dev.waitUntil (q.rate.alphaAt + s.dev.fld Fld.NET_DCQCN_A_ALPHA_US)
       Gives (.dcqcnAlphaTimer qpn 0 0) s (d.updQp (qpn % 1048576) (fun c => { c with rate := d.rateAlpha q.rate }))) ∧
      (let d := s.dev.waitUntil (q.rate.incAt + s.dev.fld Fld.NET_DCQCN_A_INC_US)
       Gives (.dcqcnIncTimer qpn 0 0) s (d.updQp (qpn % 1048576) (fun c => { c with
         rate := d.rateUp { q.rate with t := q.rate.t + 1, incAt := d.now } (d.ifRate (byteAt q.attr 2)) }))) ∧
      (let n := s.dev.fld Fld.NET_DCQCN_C_BC_MIB * 1048576
       (n ≤ q.rate.bytes → Gives (.dcqcnByteCounter qpn 0 0) s (s.dev.updQp (qpn % 1048576) (fun c => { c with
         rate := s.dev.rateUp { q.rate with b := q.rate.b + 1, bytes := q.rate.bytes - n } (s.dev.ifRate (byteAt q.attr 2)) }))) ∧
       (q.rate.bytes < n → Gives (.dcqcnByteCounter qpn 0 0) s s.dev)))) ∧
  (∀ (loc rem : Nat) (s : State),
    let n := s.dev.fld Fld.NET_DCQCN_C_BC_MIB * 1048576
    (∀ f, s.dev.tx? loc rem = some f →
      (let d := s.dev.waitUntil (f.rate.alphaAt + s.dev.fld Fld.NET_DCQCN_A_ALPHA_US)
       Gives (.dcqcnAlphaTimer 0 loc rem) s (d.setTx { f with rate := d.rateAlpha f.rate })) ∧
      (let d := s.dev.waitUntil (f.rate.incAt + s.dev.fld Fld.NET_DCQCN_A_INC_US)
       Gives (.dcqcnIncTimer 0 loc rem) s
         (d.setTx { f with rate := d.rateUp { f.rate with t := f.rate.t + 1, incAt := d.now } (d.ifRate (byteAt f.peer 4)) })) ∧
      (n ≤ f.rate.bytes → Gives (.dcqcnByteCounter 0 loc rem) s
        (s.dev.setTx { f with rate := s.dev.rateUp { f.rate with b := f.rate.b + 1, bytes := f.rate.bytes - n } (s.dev.ifRate (byteAt f.peer 4)) }))) ∧
    (∀ f, s.dev.tx? loc rem = none → s.dev.rx? loc rem = some f →
      (let d := s.dev.waitUntil (f.rate.alphaAt + s.dev.fld Fld.NET_DCQCN_A_ALPHA_US)
       Gives (.dcqcnAlphaTimer 0 loc rem) s (d.setRx { f with rate := d.rateAlpha f.rate })) ∧
      (let d := s.dev.waitUntil (f.rate.incAt + s.dev.fld Fld.NET_DCQCN_A_INC_US)
       Gives (.dcqcnIncTimer 0 loc rem) s
         (d.setRx { f with rate := d.rateUp { f.rate with t := f.rate.t + 1, incAt := d.now } (d.ifRate f.via.iface) })) ∧
      (n ≤ f.rate.bytes → Gives (.dcqcnByteCounter 0 loc rem) s
        (s.dev.setRx { f with rate := s.dev.rateUp { f.rate with b := f.rate.b + 1, bytes := f.rate.bytes - n } (s.dev.ifRate f.via.iface) })))) ∧
  (∀ (d : Device) (r : Rate) (top : Nat), dyLe (d.rateUp r top).rc (dyOf top) = true ∧ dyLe (d.rateUp r top).rt (dyOf top) = true ∧
    dyLe (dyOf (d.fld Fld.NET_DCQCN_C_RMIN)) (d.rateHit r).rc = true ∧ (d.rateHit r).rt = r.rc ∧ dyLe (d.rateAlpha r).alpha r.alpha = true)

/-- PDT set-up by the device commands (R267, R268, R300–R302): the port and the switch, endpoints made with the next incarnation, changed and closed,
peers, and the counters; a block out of range is ST_RANGE. -/
def Obligations.PdtEndpoints : Prop :=
  ∀ (fn : Nat) (x : DescState) (s : State),
    let d := s.dev.takenDesc fn 0 x
    let loc := dwF x.dw 8 23 0
    (s.dev.takesCore 6 fn 0xB8 x = true →
      (d.cfgOk x.data = false → Gives (.pdtConfig fn) s (d.complete fn 0 x.seq stRange 0 0)) ∧
      (d.cfgOk x.data = true → Gives (.pdtConfig fn) s
        ((d.setPdt { d.pdt with port := leAt x.data 0 2, on := byteAt x.data 2 == 1, complMs := leAt x.data 4 2 }).complete fn 0 x.seq stOk 0 0))) ∧
    (s.dev.takesCore 6 fn 0xB9 x = true →
      let owner := dwF x.dw 8 9 0
      (d.fnExists owner = false ∨ epOk x.data = false → Gives (.epCreate fn) s (d.complete fn 0 x.seq stRange 0 0)) ∧
      (d.fnExists owner = true → epOk x.data = true → d.freeEp = none → Gives (.epCreate fn) s (d.complete fn 0 x.seq stBudget 0 0)) ∧
      (∀ i, d.fnExists owner = true → epOk x.data = true → d.freeEp = some i →
        let inc := nextInc d.pdt.epInc i 255
        let e := d.setPdt { d.pdt with eps := d.pdt.eps.put i { inc := inc, owner := owner, block := x.data, recvs := [] }, epInc := d.pdt.epInc.put i inc }
        Gives (.epCreate fn) s ((e.openOnce (0x8400 + owner) 3 owner).complete fn 0 x.seq stOk (inc * 65536 + i) 0))) ∧
    (s.dev.takesCore 6 fn 0xBA x = true →
      (d.ep? loc = none → Gives (.epModify fn) s (d.complete fn 0 x.seq stRange 0 0)) ∧
      (∀ e, d.ep? loc = some e →
        (epOk x.data = false → Gives (.epModify fn) s (d.complete fn 0 x.seq stRange 0 0)) ∧
        (epOk x.data = true → Gives (.epModify fn) s
          ((d.setPdt { d.pdt with eps := d.pdt.eps.put (dwF x.dw 8 15 0) { e with block := x.data } }).complete fn 0 x.seq stOk 0 0)))) ∧
    (s.dev.takesCore 6 fn 0xBB x = true →
      (d.ep? loc = none → Gives (.epDestroy fn) s (d.complete fn 0 x.seq stRange 0 0)) ∧
      ((d.ep? loc).isSome → Gives (.epDestroy fn) s ((d.dropEp loc).complete fn 0 x.seq stOk 0 0))) ∧
    (s.dev.takesCore 6 fn 0xBC x = true →
      (d.ep? loc = none ∨ peerOk x.data = false → Gives (.epPeer fn) s (d.complete fn 0 x.seq stRange 0 0)) ∧
      ((d.ep? loc).isSome → peerOk x.data = true →
        (∀ f, d.tx? loc (leAt x.data 0 3) = some f → Gives (.epPeer fn) s ((d.setTx { f with peer := x.data }).complete fn 0 x.seq stOk 0 0)) ∧
        (d.tx? loc (leAt x.data 0 3) = none → 1048576 ≤ d.pdt.rx.length + d.pdt.tx.length →
          Gives (.epPeer fn) s (d.complete fn 0 x.seq stBudget 0 0)) ∧
        (d.tx? loc (leAt x.data 0 3) = none → d.pdt.rx.length + d.pdt.tx.length < 1048576 →
          let f : PdtTx := { loc := loc, rem := leAt x.data 0 3, peer := x.data, psn := leAt x.data 32 4, msn := leAt x.data 36 4,
                             lowMsn := leAt x.data 36 4, ack := leAt x.data 32 4, sent := d.flowSent loc (leAt x.data 0 3), ece := false, msgs := [],
                             rate := ((d.rx? loc (leAt x.data 0 3)).map (·.rate)).getD (rateAt (d.ifRate (byteAt x.data 4)) d.now) }
          Gives (.epPeer fn) s ((d.setPdt { d.pdt with tx := d.pdt.tx ++ [f] }).complete fn 0 x.seq stOk 0 0)))) ∧
    (s.dev.takesDev fn 0xBD x = true → Gives (.pdtQuery fn) s (d.answerHost fn 0 x d.pdtCounters))

/-- PDT requests (R267, R274, R285, R287–R291, R293–R295, R297, R298, R370). A request that reaches a flow of a serving unit is taken by it: a
QUERY draws an ACK at once; of any other, a PSN beyond the window is dropped, one below it or of a decided message is a duplicate; the first packet
of a message that its checks refuse makes an entry that holds the status, one that they pass reserves its cells and is stored, or is answered by a
NAK when no entry or no cells are left; a later packet joins its entry, or is answered by a NAK when it contradicts it; a tag that is wrong ends its
message. A packet whose key slot is PENDING waits, and so does one whose queue is broken (R230). A packet of a unit that does not serve is answered
by BUSY, one that finds no flow record by a NAK; one that is not right, or names no endpoint, is dropped and counted; one with a poisoned word is
only counted (R229). -/
def Obligations.PdtRequests : Prop :=
  (∀ (p : PdtIn) (s : State) (x : Nat × Instr),
    x ∈ [(1, .pdtWrite p), (2, .pdtWriteImm p), (3, .pdtSend p), (4, .pdtReadReq p), (5, .pdtCas8 p), (6, .pdtCas16 p), (7, .pdtFadd8 p),
         (8, .pdtPersist p), (9, .pdtQueryPkt p)] →
    let h := s.dev.heardPdt x.1 p
    let r := s.dev.seenPdt x.1 p
    let broken : Bool := x.1 != 9 && (h.queue (h.groupQ p.dst)).state == 3
    (∀ (f : PdtRx) (d : Device), s.dev.takesPdt x.1 p f d = true → Gives x.2 s (d.pdtAt f x.1 r).settle) ∧
    (s.dev.hearsPdt p = true → h.pdtKeyPending x.1 r = true ∨ broken = true → Gives x.2 s (h.pdtHold x.1 r).settle) ∧
    (s.dev.hearsPdt p = true → h.pdtKeyPending x.1 r = false → broken = false →
      (∀ st, h.pdtBusy (h.rx? p.dst p.src).isNone = some st → Gives x.2 s (h.pdtSayBusy r st).settle) ∧
      (h.pdtBusy (h.rx? p.dst p.src).isNone = none → h.pdtFlow r (s.dev.pdtCe x.1 p) = none → Gives x.2 s (h.pdtNak (pdtHere r) r 3).settle)) ∧
    (s.dev.hubOn = true → s.dev.portStopped = false →
      let e := s.dev.popIngress p.iface p.prio
      (e.2 = none → Gives x.2 s e.1.settle) ∧
      (∀ m, e.2 = some m → p.ok = false ∨ e.1.pdt.on = false ∨ e.1.ep? p.dst = none → Gives x.2 s ((e.1.bumpPdt 1).bumpPdt 13).settle) ∧
      (∀ mark, e.2 = some (mark, true) → p.ok = true → e.1.pdt.on = true → (e.1.ep? p.dst).isSome → Gives x.2 s (e.1.bumpPdt 1).settle)) ∧
    (s.dev.hubOn = false ∨ s.dev.portStopped = true → Gives x.2 s s.dev.settle)) ∧
  (∀ (d : Device) (f : PdtRx) (p : PdtIn),
    d.pdtAt f 9 p = (transports 4096 (pdtRun p.dst p.src 64 d)).pdtAck p.dst p.src ∧
    ∀ op, op ≠ 9 →
      (msnBefore ((f.ack + 128) % 4294967296) p.psn = true → d.pdtAt f op p = d.bumpPdt 13) ∧
      (msnBefore ((f.ack + 128) % 4294967296) p.psn = false →
        msnBefore p.psn f.ack = true ∨ msnBefore p.msn f.exp = true ∨ f.done.any (fun q => q.1 == p.msn) = true →
        d.pdtAt f op p = transports 4096 (pdtRun p.dst p.src 64 (d.pdtDup f op p))) ∧
      (msnBefore ((f.ack + 128) % 4294967296) p.psn = false → msnBefore p.psn f.ack = false → msnBefore p.msn f.exp = false →
        f.done.any (fun q => q.1 == p.msn) = false →
        let c := if natBit p.flags 15 then d.cipherBytes p.bytes.length else d
        (∀ e, f.entries.find? (fun e => e.msn == p.msn) = some e →
          (e.len ≠ p.msgLen ∨ e.op ≠ op ∨ e.grant ≠ p.grant ∨ e.off ≠ p.off ∨ e.imm ≠ p.imm ∨ e.gcm ≠ natBit p.flags 15 →
            d.pdtAt f op p = c.pdtNak f p 4) ∧
          (e.len = p.msgLen → e.op = op → e.grant = p.grant → e.off = p.off → e.imm = p.imm → e.gcm = natBit p.flags 15 →
            let c := if op = 4 then c.retagPkt (c.groupQ p.dst) (.pdt p.dst p.src e.att e.msn) (.pdt p.dst p.src (p.flags % 16) e.msn) else c
            let e := if op = 4 then { e with att := p.flags % 16 } else e
            (e.status ≠ 0 → d.pdtAt f op p =
              (c.updRx p.dst p.src (fun f => { f with
                entries := f.entries.map (fun x => if x.msn = p.msn then touchEntry x p c.now else x) })).pdtTaken p) ∧
            (e.status = 0 → (c.pdtClear op p).2 = true → d.pdtAt f op p =
              (c.updRx p.dst p.src (fun f => { f with
                entries := f.entries.map (fun x => if x.msn = p.msn then storePart x p (c.pdtClear op p).1 c.now else x) })).pdtTaken p) ∧
            (e.status = 0 → (c.pdtClear op p).2 = false → d.pdtAt f op p =
              transports 4096 (pdtRun p.dst p.src 64 (c.pdtTagFail p.dst p.src e))))) ∧
        (f.entries.find? (fun e => e.msn == p.msn) = none →
          let st := c.pdtFirst f op p
          let e : PdtEntry := { msn := p.msn, op := op, len := p.msgLen, grant := p.grant, off := p.off, imm := p.imm, gcm := natBit p.flags 15,
                                flags := p.flags, att := p.flags % 16, status := st, units := [], parts := [], lastAt := c.now, nonce := p.nonce,
                                via := viaOf p, psn := p.psn }
          let held := c.pdt.rx.foldl (fun a f => a + f.entries.length) 0
          let put (d : Device) (e : PdtEntry) : Device := d.updRx p.dst p.src (fun f => { f with entries := f.entries ++ [e] })
          let qn := c.groupQ p.dst
          let cells := (p.msgLen + 255) / 256 + 4
          (16384 ≤ held → d.pdtAt f op p = c.pdtNak f p 1) ∧
          (held < 16384 → st ≠ 0 → c.pdtGrantSt f op p = some st → d.pdtAt f op p = (put (c.noteReject (.pdt p.grant p.src e.gcm) st) e).pdtTaken p) ∧
          (held < 16384 → st ≠ 0 → c.pdtGrantSt f op p = none → d.pdtAt f op p = (put c e).pdtTaken p) ∧
          (held < 16384 → st = 0 → c.mayReserve qn cells (c.queue qn).owner = false → d.pdtAt f op p = (c.refuseCells qn cells).pdtNak f p 2) ∧
          (held < 16384 → st = 0 → c.mayReserve qn cells (c.queue qn).owner = true →
            let d' := c.addPkt qn { tok := .pdt p.dst p.src e.att p.msn, owner := (c.queue qn).owner, cells := cells, whole := false, poison := false,
                                    void := false, len := p.msgLen }
            ((d'.pdtClear op p).2 = true → d.pdtAt f op p = (put d' (storePart e p (d'.pdtClear op p).1 d'.now)).pdtTaken p) ∧
            ((d'.pdtClear op p).2 = false → d.pdtAt f op p =
              transports 4096 (pdtRun p.dst p.src 64 ((put d' e).pdtTagFail p.dst p.src e)))))))

/-- The PDT sender (R276, R277, R279–R281, R283, R284, R292, R299): responses reach the flow that sent the request, which notes a congestion
mark and slows at ECE, the one effect that an ATOMIC_RESP has on a unit that sends no atomics; the last bytes of a read land; a new packet
leaves as the windows allow; the timers send again, ask, stop a message, drop an entry or a flow record, and end the quiet period. -/
def Obligations.PdtSender : Prop :=
  (∀ (p : PdtIn) (g f : PdtTx) (s : State), s.dev.hearsPdt p = true →
    let note (op : Nat) (d : Device) : Device :=
      let d := if s.dev.pdtCe op p then d.updTx p.dst p.src (fun f => { f with ece := true }) else d;
      if natBit p.flags 13 then d.takeEce p.dst p.src else d
    (let h := s.dev.heardPdt 0x12 p
     h.tx? p.dst p.src = some g → (note 0x12 h).tx? p.dst p.src = some f → Gives (.pdtAtomicResp p) s (note 0x12 h).settle) ∧
    (let h := s.dev.heardPdt 0x13 p
     h.tx? p.dst p.src = some g → (note 0x13 h).tx? p.dst p.src = some f → Gives (.pdtAck p) s ((note 0x13 h).pdtAckIn p f).settle) ∧
    (let h := (s.dev.heardPdt 0x14 p).bumpPdt 7
     let d := note 0x14 h
     h.tx? p.dst p.src = some g → d.tx? p.dst p.src = some f →
      (msgOf f p.msn = none → Gives (.pdtNak p) s d.settle) ∧
      (∀ m, msgOf f p.msn = some m → byteAt p.bytes 0 = 4 → Gives (.pdtNak p) s (d.pdtEnd f m stRemote 2).settle) ∧
      (∀ m, msgOf f p.msn = some m → byteAt p.bytes 0 ≠ 4 → Gives (.pdtNak p) s d.settle)) ∧
    (let h := (s.dev.heardPdt 0x15 p).bumpPdt 9
     h.tx? p.dst p.src = some g → (note 0x15 h).tx? p.dst p.src = some f →
      Gives (.pdtBusy p) s ((note 0x15 h).updMsg f.loc f.rem p.msn (fun m => { m with busy := byteAt p.bytes 0 })).settle) ∧
    (let h := s.dev.heardPdt 0x11 p
     let r := s.dev.seenPdt 0x11 p
     let d := note 0x11 h
     (h.respPending r = true → Gives (.pdtReadResp p) s (h.pdtHold 0x11 r).settle) ∧
     (h.respPending r = false → h.tx? p.dst p.src = some g → d.tx? p.dst p.src = some f →
      (msgOf f p.msn = none → Gives (.pdtReadResp p) s d.settle) ∧
      (∀ m, msgOf f p.msn = some m →
        (m.read = false ∨ m.att ≠ p.flags % 16 → Gives (.pdtReadResp p) s d.settle) ∧
        (m.read = true → m.att = p.flags % 16 →
          (m.gcm = true → (d.pdtUnseal m.kslot 0x11 r).2 = false →
            Gives (.pdtReadResp p) s ((d.authFail.bumpPdt 10).pdtEnd f m stAuthFail 0).settle) ∧
          (m.gcm = false ∨ (d.pdtUnseal m.kslot 0x11 r).2 = true →
            let got := m.got.put p.msgOff (if m.gcm then (d.pdtUnseal m.kslot 0x11 r).1 else p.bytes)
            let e := if m.gcm then d.cipherBytes p.bytes.length else d
            (gotBytes got < m.len → Gives (.pdtReadResp p) s (e.updMsg f.loc f.rem m.msn (fun x => { x with got := got })).settle) ∧
            (m.len ≤ gotBytes got →
              let ms := f.msgs.filter (fun x => x.msn != m.msn)
              let e := e.setTx { f with msgs := ms, lowMsn := (ms.head?.map (·.msn)).getD f.msn }
              Gives (.pdtReadResp p) s
                (e.landRead m.fn m.q m.seq m.pos ((got.foldl (fun (a : List Byte) q => spliceBytes a q.1 q.2) []).take m.len) stOk 0).settle))))))) ∧
  (∀ (loc src : Nat) (f : PdtRx) (s : State), s.dev.rx? loc src = some f →
    Gives (.pdtMessageExecute loc src) s (pdtRun loc src 64 s.dev).settle ∧
    (f.unacked = 0 → Gives (.pdtAckTimer loc src) s s.dev) ∧
    (f.unacked ≠ 0 → Gives (.pdtAckTimer loc src) s ((s.dev.waitUntil (f.unackedAt + 2)).pdtAck loc src)) ∧
    (∀ msn e, f.entries.find? (fun e => e.msn == msn) = some e →
      (e.status ≠ 0 → Gives (.pdtEntryTimeout loc src msn) s s.dev) ∧
      (e.status = 0 →
        let d := s.dev.waitUntil (e.lastAt + 64000)
        Gives (.pdtEntryTimeout loc src msn) s
          (pdtRun loc src 64 (((d.rewindPkt (d.groupQ loc) (.pdt loc src e.att msn)).bumpPdt 11).updRx loc src (fun f => { f with
            entries := f.entries.map (fun x => if x.msn = msn then { x with status := stAborted, parts := [], units := [] } else x) }))).settle)) ∧
    (f.entries ≠ [] ∨ f.runs ≠ [] → Gives (.pdtFlowExpire loc src) s s.dev) ∧
    (f.entries = [] → f.runs = [] → Reaches (.pdtFlowExpire loc src) s (fun d =>
      d.rx? loc src = none ∧ d.pdt.eps = s.dev.pdt.eps ∧ d.pdt.tx = s.dev.pdt.tx ∧ d.now = max s.dev.now (f.lastAt + 64000) ∧ d.mem = s.dev.mem))) ∧
  (∀ (loc rem : Nat) (f : PdtTx) (s : State), s.dev.tx? loc rem = some f →
    (s.dev.pdtNextPkt f = none → Gives (.pdtPacketSend loc rem) s s.dev) ∧
    (∀ m, s.dev.pdtNextPkt f = some m → Gives (.pdtPacketSend loc rem) s (s.dev.pdtSendNew f m).settle) ∧
    (∀ m t, msgOf f m.msn = some m → m.timerAt = some t →
      Gives (.pdtRetransmitTimer loc rem m.msn) s ((s.dev.waitUntil t).pdtTimer loc rem f m).settle) ∧
    (∀ m t, msgOf f m.msn = some m → m.repAt = some t →
      Gives (.pdtComplTimeout loc rem m.msn) s ((s.dev.waitUntil (t + 1000 * s.dev.pdt.complMs)).pdtStop loc rem m.msn).settle)) ∧
  (∀ s : State, (s.dev.rst.svcOpen = true → Gives .pdtQuietEnd s (s.dev.waitUntil (s.dev.pdt.quietAt + 64000))) ∧
    (s.dev.rst.svcOpen = false → Gives .pdtQuietEnd s s.dev)) ∧
  (∀ (d : Device) (f : PdtTx) (m : PdtMsg), d.pdtNextPkt f = some m →
    m ∈ f.msgs ∧ m.allSent = false ∧ seqBefore 32 ((f.ack + 128) % 4294967296) f.psn = false ∧ (m.next = 0 → seqDist 32 f.lowMsn m.msn < 32))

/-! ### DRAM, the cellar and the cipher engine -/

/-- Refresh, age, temperature, self-refresh and timing sets of the DRAM channels (R311, R314–R317, R328, R329): an idle bank is refreshed by
REFsb with what was postponed, a busy one is postponed, and at POSTPONE_MAX the rank is refreshed by REFab, which leaves what was postponed before
(R314; the model's reading, log 66); below the initial threshold no RFM
command leaves; a channel in self-refresh is given none; a request beyond its class's age goes first; a channel at 85 °C is HOT and below 83
°C not; an idle channel enters self-refresh; the walk of a timing-set switch goes from channel to channel and ends, or fails. DRAM errors
(R319–R323): a corrected error is counted and, at ROW_CE_THR in 24 hours, queues its row for repair; an uncorrectable one is counted, queues
its row, acts on the page it hit and, at CH_UE_MAX in a second, retires the channel; scrub passes; a repair takes the row at the head of the
queue and lists it; a channel that loses its training for good is retired; of a duplexed unit the other copy serves, and copy 0 is written again
from copy 1 (R308); the quiet period of dropped flows ends. -/
def Obligations.DramCommands : Prop :=
  ((∀ (ch rank : Nat) (queued : List Nat) (acts : List (Nat × Nat)) (s : State),
    (s.dev.fld Fld.DRM_CH_STATUS_STATE ch ≠ 1 → Gives (.refreshTick ch rank queued acts) s s.dev) ∧
    (s.dev.fld Fld.DRM_CH_STATUS_STATE ch = 1 → s.dev.flag Fld.DRM_CH_STATUS_RFM_ON ch = true →
      Gives (.refreshTick ch rank queued acts) s ((s.dev.refreshRank ch rank queued).manageRank ch rank queued acts)) ∧
    (s.dev.fld Fld.DRM_CH_STATUS_STATE ch = 1 → s.dev.flag Fld.DRM_CH_STATUS_RFM_ON ch = false →
      AMap.sorted (s.dev.dramCh ch).postponed = true →
      let t := s.dev.fld (if s.dev.flag Fld.DRM_CH_STATUS_ACTIVE_SET ch then Fld.DRM_TSB_REFI_tREFI else Fld.DRM_TSA_REFI_tREFI) ch * 16 /
        (16 + s.dev.fld Fld.DRM_CH_REF_REF_SCALE ch) / (if s.dev.flag Fld.DRM_CH_STATUS_HOT ch then 2 else 1)
      let busy (b : Nat) : Bool := queued.any (fun q => q % 4 == b)
      let late := (List.range 4).any (fun b => busy b && decide (s.dev.fld Fld.DRM_CH_REF_POSTPONE_MAX ch ≤ s.dev.postponedOf ch rank b + 1))
      (late = true → Reaches (.refreshTick ch rank queued acts) s (fun d => (∀ b, d.postponedOf ch rank b = s.dev.postponedOf ch rank b) ∧
        d.out = .dram ch "REFab" [rank, t] :: s.dev.out ∧ d.regs = s.dev.regs ∧ d.mem = s.dev.mem ∧ d.csk = s.dev.csk)) ∧
      (late = false → Reaches (.refreshTick ch rank queued acts) s (fun d =>
        (∀ b, b < 4 → d.postponedOf ch rank b = if busy b then s.dev.postponedOf ch rank b + 1 else 0) ∧
        d.out = (((List.range 4).filter (fun b => !busy b)).map (fun b => Out.dram ch "REFsb" [rank, b, t, s.dev.postponedOf ch rank b + 1])).reverse ++
          s.dev.out ∧ d.regs = s.dev.regs ∧ d.mem = s.dev.mem ∧ d.csk = s.dev.csk)))) ∧
  (∀ (d : Device) (ch rank : Nat) (queued : List Nat),
    (∀ bank, bank < 32 → ((d.dramCh ch).raa.find? (32 * rank + bank)).getD 0 < (d.raaLimits ch).1) → d.manageRank ch rank queued [] = d) ∧
  (∀ (ch cls age : Nat) (s : State), s.dev.chLive ch = true →
    let limit := s.dev.fld (match cls with
      | 0 => Fld.DRM_AGE_A_C0
      | 1 => Fld.DRM_AGE_A_C1
      | 2 => Fld.DRM_AGE_B_C2
      | _ => Fld.DRM_AGE_B_C3)
    (limit < age → Gives (.requestPromote ch cls age) s ((s.dev.wakeCh ch).emit (.dram ch "PROMOTE" [cls, age]))) ∧
    (age ≤ limit → Gives (.requestPromote ch cls age) s s.dev)) ∧
  (∀ (ch temp : Nat) (s : State), s.dev.drm.dimms.any (fun m => m.ch == ch) = false ∨ s.dev.hubOn = false ∨ s.dev.coreUp 5 = false →
    Gives (.dimmTempRead ch temp) s s.dev) ∧
  (∀ (ch temp : Nat) (s : State), s.dev.drm.dimms.any (fun m => m.ch == ch) = true → s.dev.hubOn = true → s.dev.coreUp 5 = true →
    let d := s.dev.setFld Fld.DRM_CH_STATUS_TEMP (min temp 255) ch
    (85 ≤ temp → temp < (d.setFld Fld.DRM_CH_STATUS_HOT 1 ch).fld Fld.DRM_CH_REF_TCRIT ch →
      Gives (.dimmTempRead ch temp) s (d.setFld Fld.DRM_CH_STATUS_HOT 1 ch)) ∧
    (85 ≤ temp → (d.setFld Fld.DRM_CH_STATUS_HOT 1 ch).fld Fld.DRM_CH_REF_TCRIT ch ≤ temp →
      Gives (.dimmTempRead ch temp) s ((d.setFld Fld.DRM_CH_STATUS_HOT 1 ch).raise Reg.DRM_INT_STATUS 2 3)) ∧
    (temp < 83 → temp < (d.setFld Fld.DRM_CH_STATUS_HOT 0 ch).fld Fld.DRM_CH_REF_TCRIT ch →
      Gives (.dimmTempRead ch temp) s (d.setFld Fld.DRM_CH_STATUS_HOT 0 ch)) ∧
    (83 ≤ temp → temp < 85 → temp < d.fld Fld.DRM_CH_REF_TCRIT ch → Gives (.dimmTempRead ch temp) s d)) ∧
  (∀ (ch : Nat) (s : State), s.dev.fld Fld.DRM_CTRL_SR_IDLE_US ≠ 0 → s.dev.hold.bottle = none → s.dev.fld Fld.DRM_CH_STATUS_STATE ch = 1 →
    s.dev.flag Fld.DRM_CH_STATUS_SWITCHING ch = false → s.dev.sup.cur ≤ 1 →
    Gives (.srIdleExpire ch) s ((s.dev.advance (s.dev.fld Fld.DRM_CTRL_SR_IDLE_US)).setFld Fld.DRM_CH_STATUS_STATE 2 ch)) ∧
  (∀ (ch : Nat) (s : State), s.dev.fld Fld.DRM_CTRL_SR_IDLE_US = 0 → Gives (.srIdleExpire ch) s s.dev) ∧
  (∀ (w : DramWalk) (c : Nat) (rest : List Nat) (s : State), s.dev.drm.walk = some w → w.left = c :: rest →
    (let d := ((s.dev.setFld Fld.DRM_CH_STATUS_SWITCHING 0 c).setFld Fld.DRM_CH_STATUS_STATE 1 c).walkOver
     Gives (.tsetChannelDone false) s (((d.setFld Fld.DRM_TSET_STATUS_FAIL 1).raise Reg.DRM_INT_STATUS 1 4).planSwitched (fun x => decide (x < c)) false).settle) ∧
    (let d := s.dev.switchDone c
     (rest = [] → Gives (.tsetChannelDone true) s ((d.walkOver.raise Reg.DRM_INT_STATUS 0 1).planSwitched (fun _ => true) true).settle) ∧
     (∀ n l, rest = n :: l → w.stop = true → Gives (.tsetChannelDone true) s (d.walkOver.planSwitched (fun x => decide (x ≤ c)) true).settle) ∧
     (∀ n l, rest = n :: l → w.stop = false →
       Gives (.tsetChannelDone true) s ((d.setDrm { d.drm with walk := some { w with left := n :: l } }).enterSwitch n).settle))) ∧
  (∀ (ok : Bool) (s : State), s.dev.drm.walk = none → Gives (.tsetChannelDone ok) s s.dev)) ∧
  ((∀ (ch slot subch rank dev bank row : Nat) (s : State), s.dev.chLive ch = true →
    let r : DramRow := { slot := slot, subch := subch, rank := rank, bank := bank, row := row }
    (let d := ((s.dev.bumpSat Fld.DRM_CH_ERR_CE 1 ch).bumpPair Reg.DRM_CE_TOTAL_LO).noteError ch r dev false
     let d : Device := { d with age := { d.age with ceAll := d.age.ceAll.put ch ((d.age.ceAll.find? ch).getD 0 + 1) } }
     let ces := ((d.dramCh ch).ces.filter (fun p => decide (d.now < p.2 + dayUs))) ++ [(r, d.now)]
     let e := d.setDramCh ch { d.dramCh ch with ces := ces }
     (e.fld Fld.DRM_ERR_CFG_ROW_CE_THR ≤ (ces.filter (fun p => p.1 == r)).length →
       Gives (.dramCe ch slot subch rank dev bank row) s ((e.raise Reg.DRM_INT_STATUS 4 2).queueRow ch r)) ∧
     ((ces.filter (fun p => p.1 == r)).length < e.fld Fld.DRM_ERR_CFG_ROW_CE_THR → Gives (.dramCe ch slot subch rank dev bank row) s e)) ∧
    (∀ what : DramPage,
      let d := ((s.dev.bumpSat Fld.DRM_CH_ERR_UE 1 ch).bumpPair Reg.DRM_UE_TOTAL_LO).noteError ch r dev true
      let d := ((d.raise Reg.DRM_INT_STATUS 5 4).queueRow ch r).ueAct what
      let ues := ((d.dramCh ch).ues.filter (fun t => decide (d.now < t + 1000000))) ++ [d.now]
      let e := d.setDramCh ch { d.dramCh ch with ues := ues }
      (e.fld Fld.DRM_ERR_CFG_CH_UE_MAX ≤ ues.length → Gives (.dramUe ch slot subch rank dev bank row what) s (e.retireCh ch).settle) ∧
      (ues.length < e.fld Fld.DRM_ERR_CFG_CH_UE_MAX → Gives (.dramUe ch slot subch rank dev bank row what) s e.settle))) ∧
  (∀ (lines : Nat) (s : State), s.dev.flag Fld.DRM_SCRUB_EN = true → s.dev.hubOn = true →
    let cs := s.dev.liveChans.filter (fun c => !s.dev.chPaused c)
    let size := (s.dev.drm.dimms.filter (fun m => s.dev.drm.dimms.head?.any (fun h => h.ch == m.ch))).foldl (fun a m => a + m.gib) 0 * 16777216
    let scrub := cs.foldl (fun (m : AMap Nat) c => m.put c (min size ((m.find? c).getD 0 + lines))) s.dev.drm.scrub
    (cs = [] → Gives (.patrolScrub lines) s s.dev) ∧
    (cs ≠ [] → s.dev.liveChans.any (fun c => decide ((scrub.find? c).getD 0 < size)) = true →
      Reaches (.patrolScrub lines) s (fun d => d.drm.scrub = scrub ∧ d.age = s.dev.age ∧ d.mem = s.dev.mem)) ∧
    (cs ≠ [] → s.dev.liveChans.any (fun c => decide ((scrub.find? c).getD 0 < size)) = false →
      Reaches (.patrolScrub lines) s (fun d => d.drm.scrub = [] ∧ d.age.ceMark = s.dev.age.ceAll ∧ d.age.ceAll = s.dev.age.ceAll ∧
        d.mem = s.dev.mem))) ∧
  (∀ (lines : Nat) (s : State), s.dev.hold.bottle.isSome → Gives (.patrolScrub lines) s s.dev) ∧
  (∀ (ch : Nat) (r : DramRow) (rest : List DramRow) (s : State), (s.dev.dramCh ch).queue = r :: rest → s.dev.chPaused ch = false →
    s.dev.chLive ch = true → s.dev.coreUp 5 = true →
    let d := (s.dev.wakeCh ch).setDramCh ch { s.dev.dramCh ch with queue := rest }
    let listed := (d.learned.repairs.find? ch).getD []
    (listed.contains r = false → 32 ≤ listed.length → Gives (.pprRepair ch) s (d.eventR 4 drmBlk 322)) ∧
    (listed.contains r = false → listed.length < 32 → Gives (.pprRepair ch) s
      (((((d.setLearned { d.learned with repairs := d.learned.repairs.put ch (listed ++ [r]) }).learnRec (0x83, ch, 0)).bumpSat
        Fld.DRM_CH_PPR_SPPR 1 ch).setFld Fld.DRM_CH_PPR_LISTED (listed ++ [r]).length ch).raise Reg.DRM_INT_STATUS 3 2)) ∧
    (listed.contains r = true → Gives (.pprRepair ch) s
      (((((d.setLearned { d.learned with repairs := d.learned.repairs.put ch listed }).learnRec (0x83, ch, 0)).bumpSat
        Fld.DRM_CH_PPR_SPPR 1 ch).setFld Fld.DRM_CH_PPR_LISTED listed.length ch).raise Reg.DRM_INT_STATUS 3 2))) ∧
  (∀ (ch : Nat) (s : State), (s.dev.dramCh ch).queue = [] → Gives (.pprRepair ch) s s.dev) ∧
  (∀ (ch : Nat) (s : State), (s.dev.chLive ch = true → Gives (.trainingLost ch false) s (s.dev.retireCh ch)) ∧ Gives (.trainingLost ch true) s s.dev) ∧
  (∀ (ch : Nat) (d : Device), d.drm.retired.contains ch = true ∨ d.chLive ch = false → d.retireCh ch = d) ∧
  (∀ (d : Device) (p : DupPage),
    (∀ c, d.copyLost p 1 = false → d.copyCh p 0 = some c →
      d.ueAct (.duplex p 0) = (d.wakeCh c).emit (.dram c "REWRITE" [p.area, p.cask, p.unit, p.page])) ∧
    (d.copyLost p 0 = false → d.drm.bad.contains (p, 1) = false →
      d.ueAct (.duplex p 1) = d.setDrm { d.drm with bad := d.drm.bad ++ [(p, 1)] }) ∧
    (∀ copy, d.copyLost p (1 - copy) = true → d.drm.bad.contains (p, copy) = true → d.ueAct (.duplex p copy) = d.loseTables)) ∧
  (∀ s : State, (s.dev.drm.quietUntil = 0 → Gives .flowQuietEnd s s.dev) ∧
    (s.dev.drm.quietUntil ≠ 0 → Reaches .flowQuietEnd s (fun d => d.drm.quietUntil = 0 ∧ d.now = max s.dev.now s.dev.drm.quietUntil ∧
      d.pdt = s.dev.pdt ∧ d.mem = s.dev.mem))))

/-- The cellar (R341, R346–R349, R351, R353, R354, R359, R360): a program at the block's write position is done, one elsewhere is refused; erases,
pads, reads by the rung of the ladder that decodes, moves, scans and checkpoints; a page whose header disagrees with its rack entry is recovered from
the twin or poisoned (R342); a LUN that hangs is reset and its operation issued again, its volume after it, and isolated. -/
def Obligations.CellarCommands : Prop :=
  (∀ (ch lun block page sb : Nat) (slc ok : Bool) (s : State), s.dev.lunState ch lun = 1 →
    (s.dev.freeFirst ch lun block = false → Gives (.cellarProgramDone ch lun block page sb slc ok) s s.dev) ∧
    (s.dev.freeFirst ch lun block = true → s.dev.programOk ch lun block page slc = false →
      Gives (.cellarProgramDone ch lun block page sb slc ok) s ((s.dev.refuseProgram ch lun block page).failRow sb page).reevalAdmit) ∧
    (s.dev.freeFirst ch lun block = true → s.dev.programOk ch lun block page slc = true →
      Gives (.cellarProgramDone ch lun block page sb slc true) s
        (((s.dev.programmed ch lun block sb slc).notePage ch lun block page sb).endOp ch lun) ∧
      Gives (.cellarProgramDone ch lun block page sb slc false) s
        (((s.dev.failRow sb page).retireBlk ch lun block).endOp ch lun).reevalAdmit) ∧
    (page ≠ (s.dev.blk ch lun block).wp → s.dev.programOk ch lun block page slc = false)) ∧
  (∀ (ch lun block vault : Nat) (ok : Bool) (s : State), s.dev.lunState ch lun = 1 →
    (s.dev.erasable ch lun block = false → Gives (.blockEraseDone ch lun block vault ok) s s.dev) ∧
    (s.dev.erasable ch lun block = true →
      Gives (.blockEraseDone ch lun block vault false) s ((s.dev.retireBlk ch lun block).endOp ch lun) ∧
      (vault = 1 ∨ vault = 2 → Gives (.blockEraseDone ch lun block vault true) s ((s.dev.erased ch lun block (some (vault - 1))).endOp ch lun)) ∧
      (vault = 0 → Gives (.blockEraseDone ch lun block vault true) s ((s.dev.erased ch lun block none).endOp ch lun)))) ∧
  (∀ (sb : Nat) (x : Super) (s : State), s.dev.cel.supers.find? sb = some x →
    let ms := s.dev.cel.blocks.filter (fun (p : Nat × Blk) => p.2.sb == sb && (p.2.state == .opened || p.2.state == .full))
    let top := ms.foldl (fun (a : Nat) (p : Nat × Blk) => max a p.2.wp) 0
    let low := ms.filter (fun (p : Nat × Blk) => decide (p.2.wp < top))
    (low = [] → Gives (.rowPadTimeout sb) s s.dev) ∧
    (low ≠ [] → Reaches (.rowPadTimeout sb) s (fun d => d.now = max s.dev.now (x.rackAt + 100) ∧ d.mem = s.dev.mem ∧ d.csk = s.dev.csk ∧
      d.cel.supers = s.dev.cel.supers ∧ (∀ p ∈ low, (d.cel.blocks.find? p.1).map (·.wp) = some top) ∧
      d.out.length = s.dev.out.length + (low.map (fun p => top - p.2.wp)).sum))) ∧
  (∀ sb : Nat, ∀ s : State, s.dev.cel.supers.find? sb = none → Gives (.rowPadTimeout sb) s s.dev) ∧
  (∀ (ch lun bin bits retry cask rack page : Nat) (hard offset soft rebuild isRack : Bool) (s : State), s.dev.lunState ch lun ≠ 0 →
    let d := s.dev.bumpPair Reg.CEL_READ_CNT_LO
    let key := 8 * lunKey ch lun + bin % 8
    let moved (e : Device) : Device := e.setCel { e.cel with reloc := nubNat (e.cel.reloc ++ [rackKey cask rack]) }
    let rebuilt := moved ((((d.noteNand key bits 0).bumpSat Fld.CEL_C_ERR_REBUILDS 1 ch).bumpPair Reg.CEL_REBUILD_CNT_LO).bumpPair Reg.CEL_READ_CNT_LO 15)
    (s.dev.lunState ch lun = 1 → (isRack = true → d.headBad cask rack page = false) →
      Gives (.cellarReadDone ch lun bin bits true offset retry soft rebuild isRack cask rack page) s (d.noteNand key bits 0) ∧
      Gives (.cellarReadDone ch lun bin bits hard true retry soft rebuild isRack cask rack page) s (d.noteNand key bits 0) ∧
      (1 ≤ retry → retry ≤ d.fld Fld.CEL_RETRY_MAX →
        let e := (d.noteNand key bits retry).bumpSat Fld.CEL_C_ERR_RETRIES 1 ch
        (e.fld Fld.CEL_RETRY_RELOC ≤ retry → isRack = true →
          Gives (.cellarReadDone ch lun bin bits false false retry soft rebuild isRack cask rack page) s (moved e)) ∧
        (retry < e.fld Fld.CEL_RETRY_RELOC →
          Gives (.cellarReadDone ch lun bin bits false false retry soft rebuild isRack cask rack page) s e)) ∧
      (retry = 0 → d.flag Fld.CEL_RETRY_SOFT_EN = true → isRack = true →
        Gives (.cellarReadDone ch lun bin bits false false retry true rebuild isRack cask rack page) s
          (moved ((d.noteNand key bits 0).bumpSat Fld.CEL_C_ERR_RETRIES 1 ch))) ∧
      (retry = 0 → isRack = true → d.rowCut ch lun = false →
        Gives (.cellarReadDone ch lun bin bits false false retry false true isRack cask rack page) s rebuilt)) ∧
    (s.dev.lunState ch lun ≠ 1 → isRack = true → d.headBad cask rack page = false → d.rowCut ch lun = false →
      Gives (.cellarReadDone ch lun bin bits hard offset retry soft true isRack cask rack page) s rebuilt) ∧
    (retry = 0 → Gives (.cellarReadDone ch lun bin bits false false retry false false false cask rack page) s (d.raise Reg.CEL_INT_STATUS 2 4)) ∧
    (d.headBad cask rack page = true ∨ (hard = false ∧ offset = false ∧ retry = 0 ∧ soft = false ∧ rebuild = false) →
      (d.mir.attached = true → d.mir.absent = false →
        Gives (.cellarReadDone ch lun bin bits hard offset retry soft rebuild true cask rack page) s
          (moved ((d.ensureFrame cask rack).startFetchPage cask rack page true))) ∧
      (d.mir.attached = false →
        Gives (.cellarReadDone ch lun bin bits hard offset retry soft rebuild true cask rack page) s
          ((d.poisonPage cask rack page).raise Reg.CEL_INT_STATUS 2 4).settle))) ∧
  (∀ (ch lun level : Nat) (s : State), 4 ≤ level → level ≤ 6 → s.dev.lunState ch lun = 1 → s.dev.hold.bottle = none →
    Gives (.opAgeRaise ch lun level) s (s.dev.emit (.nand ch lun "RAISE" [level, 3]))) ∧
  (∀ (cask rack read new : Nat) (s : State), let r := s.dev.rack cask rack
    (r.cptr ≠ read → Gives (.garbageCollect cask rack read new) s s.dev) ∧
    (s.dev.siteOk new = false ∨ s.dev.moveTurn (rackKey cask rack) read = false → Gives (.garbageCollect cask rack read new) s s.dev) ∧
    (r.wb = false → r.fetch = false → r.vault = false → r.cvalid = true → r.homed = true → r.cptr = read → s.dev.hold.bottle = none →
      s.dev.mkeyMissing cask = false → s.dev.siteOk new = true → s.dev.moveTurn (rackKey cask rack) read = true →
      s.dev.coreUp (edgeCore read) = true → s.dev.coreUp (edgeCore new) = true → AMap.sorted s.dev.csk.racks = true → Reaches (.garbageCollect cask rack read new) s (fun d =>
        d.rack cask rack = { r with cptr := new } ∧ rackKey cask rack ∉ d.cel.reloc ∧ rackKey cask rack ∉ d.cel.isoReloc ∧ d.now = s.dev.now ∧
        (s.memWf = true → ∀ i, i < 65536 →
          d.memByte (cellKey new i) = s.dev.memByte (cellKey read i))))) ∧
  (∀ (ch lun pages : Nat) (s : State), s.dev.lunState ch lun = 1 → s.dev.hold.bottle = none →
    s.dev.coreUp (if ch < 32 then 3 else 4) = true →
    Gives (.cellarScan ch lun pages) s
      ((s.dev.setCel { s.dev.cel with scanned := s.dev.cel.scanned + pages }).bumpPair Reg.CEL_READ_CNT_LO pages)) ∧
  (∀ s : State, (s.dev.hubOn = true → Gives .eraseCountCheckpoint s s.dev.checkpoint) ∧ (s.dev.hubOn = false → Gives .eraseCountCheckpoint s s.dev)) ∧
  (∀ (ch lun : Nat) (volReady : Bool) (s : State), s.dev.lunState ch lun = 1 → s.dev.cel.hungAt.find? (lunKey ch lun) = none →
    let d := (s.dev.bumpSat Fld.CEL_C_ERR_HANGS 1 ch).raise Reg.CEL_INT_STATUS 0 3
    let e := ((d.setCel { d.cel with hungAt := d.cel.hungAt.put (lunKey ch lun) d.now }).bumpSat Fld.CEL_L_STATUS_RESETS 1 (lunKey ch lun)).emit
      (.nand ch lun "RESET_LUN" [])
    let g := (e.emit (.nand ch lun "RESET_VOLUME" [lun / 8])).bumpSat Fld.CEL_L_STATUS_RESETS 1 (lunKey ch lun)
    Gives (.waitrdyTimeout ch lun true volReady false) s (e.emit (.nand ch lun "REISSUE" [])) ∧
    Gives (.waitrdyTimeout ch lun false true false) s (g.emit (.nand ch lun "REISSUE" [])) ∧
    Gives (.waitrdyTimeout ch lun false false false) s (g.isolateVol ch (lun / 8)) ∧
    Gives (.waitrdyTimeout ch lun false volReady true) s
      (((d.cel.pop.filter (fun v => v.ch == ch)).map (·.vol)).foldl (fun (d : Device) v => d.isolateVol ch v) d))

/-- The cipher engine (R214, R367, R369, R370, R379, R380, R382, R383, R386, R28, R554): a CIPHER descriptor runs, or ends with the status of the rule
it breaks; an E alarm zeroes the keys and its restoration brings them back; a tamper input that is low and enabled latches and acts by policy. -/
def Obligations.CipherAndAlarms : Prop :=
  (∀ (fn q : Nat) (x : DescState) (s : State), s.dev.takesIo fn q 0x09 x false = true →
    let d := s.dev.startDesc fn q x
    (cipherForm x.dw = false → Gives (.cipher fn q) s (d.complete fn q x.seq stRange 0 0).settle) ∧
    (cipherForm x.dw = true → d.flag Fld.CPH_CTRL_HOST_EN = false ∨ d.slotPermits (cipSlot x.dw) 0 = false →
      Gives (.cipher fn q) s (d.complete fn q x.seq stProt 0 0).settle) ∧
    (cipherForm x.dw = true → d.flag Fld.CPH_CTRL_HOST_EN = true → d.slotPermits (cipSlot x.dw) 0 = true →
      (dCaskIo x.dw = true ∨ cipToCask x.dw = true → s.dev.placesWrites = false → Gives (.cipher fn q) s (d.complete fn q x.seq stFenced 0 0).settle) ∧
      (dCaskIo x.dw = false → cipToCask x.dw = false ∨ s.dev.placesWrites = true → Gives (.cipher fn q) s (d.cipherGo fn q x).settle) ∧
      (dCaskIo x.dw = true → s.dev.placesWrites = true →
        let r := d.startRead (.sq fn q) (.desc fn q x.seq) (.ring fn) (dCask x.dw) (dOffset x.dw) (dLength x.dw) (fun p => .cipherIn p)
        Gives (.cipher fn q) s (if r.2 = stOk then r.1 else r.1.complete fn q x.seq r.2 0 0).settle))) ∧
  (∀ (source : Nat) (s : State), s.dev.sup.supOn = true → s.dev.hubOn = true → 1 ≤ source → source ≤ 5 → s.dev.cph.quiet.find? source = none →
    (source ≠ 4 → Gives (.eAlarm source) s (s.dev.eAlarm source).settle) ∧
    (source = 4 → Gives (.eAlarm source) s (s.dev.eAlarm source).refclkBottle.settle)) ∧
  (∀ (source t : Nat) (s : State), s.dev.sup.supOn = true → s.dev.cph.quiet.find? source = some t → s.dev.now < t + 1000 →
    Gives (.eAlarm source) s s.dev) ∧
  (∀ (t : Nat) (s : State), s.dev.sup.supOn = true → s.dev.cph.alarmAt = some t →
    let d := s.dev.waitUntil (t + 100)
    let d := d.setCph { d.cph with slots := d.cph.slots.map (fun (p : Nat × KeySlot) => (p.1, { p.2 with pending := false })), hw0 := true, hw1 := true,
                                   alarmAt := none }
    let d := ((d.setFld Fld.CPH_STATE_READY 1).setFld Fld.CPH_STATE_REDERIVE 0).notePersist
    Gives .keyRestoreDone s d.cipherRetry.pdtRetry.reevalAdmit.settle) ∧
  (∀ s : State, s.dev.sup.supOn = true → s.dev.cph.alarmAt = none → Gives .keyRestoreDone s s.dev) ∧
  (∀ (levels : Nat) (s : State),
    let old := s.dev.fld Fld.SUP_TAMPER_STATUS_LATCH
    let hit := Nat.land (15 - levels % 16) (s.dev.fld Fld.SUP_TAMPER_CFG_EN)
    let d := (s.dev.setFld Fld.SUP_TAMPER_STATUS_PIN levels).setFld Fld.SUP_TAMPER_STATUS_LATCH (Nat.lor old hit)
    (s.dev.sup.supOn = true → Nat.land hit (15 - old) = 0 → Gives (.tAlarm levels) s d) ∧
    (s.dev.sup.supOn = true → Nat.land hit (15 - old) ≠ 0 → d.flag Fld.SUP_TAMPER_CFG_POLICY = true →
      Gives (.tAlarm levels) s (d.raiseQuiet Reg.CPH_INT_STATUS 1).zeroize) ∧
    (s.dev.sup.supOn = true → Nat.land hit (15 - old) ≠ 0 → d.flag Fld.SUP_TAMPER_CFG_POLICY = false →
      Gives (.tAlarm levels) s (d.raise Reg.CPH_INT_STATUS 1 6)) ∧
    (s.dev.sup.supOn = false → 1000 ≤ s.dev.sup.vbat → Nat.land hit (15 - old) ≠ 0 →
      Gives (.tAlarm levels) s ((d.setFld Fld.SUP_TAMPER_STATUS_VBAT_EVT 1).setCph { d.cph with vbatLatch := Nat.lor d.cph.vbatLatch (Nat.land hit (15 - old)) })) ∧
    (s.dev.sup.supOn = false → s.dev.sup.vbat < 1000 → Gives (.tAlarm levels) s s.dev))

/-! ### The supervisor -/

/-- Rails and clocks (R27, R396, R397, R399, R401–R403, R428): a slot in regulation ends its step, the delay starts the next, a slot that is late
fails the attempt, a slot below OFF lets the power-up begin or the power-down go on, a fault acts by the supervisor's state, a slot that does not
fall is discharged and then passed over, and the hold-off ends. -/
def Obligations.RailCommands : Prop :=
  ∀ s : State, s.dev.sup.supOn = true →
    (∀ slot : Nat, s.dev.sup.state = .powerUp → s.dev.sup.phase = .prestart → (s.dev.workSlots s.dev.sup.dpExit).contains slot = true →
      s.dev.belowOff slot (s.dev.rail slot).mv = false →
      Gives (.prestartTimeout slot) s
        ((s.dev.waitUntil (s.dev.sup.stepAt + 1000 * s.dev.fld Fld.SUP_R_TIME_DIS_TMO_MS slot)).failAttempt 3 (some slot))) ∧
    (∀ (slot mv : Nat) (pg : Bool), s.dev.inRegulation slot mv pg = true → s.dev.slotUsed slot = true →
      let d := s.dev.noteRail slot mv pg
      ((d.rail slot).state ≠ .rising → Gives (.railInRegulation slot mv pg) s d) ∧
      ((d.rail slot).state = .rising →
        let e := d.setRail slot { d.rail slot with state := .inReg }
        (e.sup.state = .powerUp → e.sup.phase = .rising → e.stepSlots.all (fun n => (e.rail n).state == .inReg) = true →
          Gives (.railInRegulation slot mv pg) s (e.setSup { e.sup with phase := .delay, stepAt := e.now })) ∧
        (e.sup.state ≠ .powerUp → Gives (.railInRegulation slot mv pg) s e))) ∧
    (∀ (slot mv : Nat) (pg : Bool), s.dev.inRegulation slot mv pg = false → Gives (.railInRegulation slot mv pg) s s.dev) ∧
    (s.dev.sup.state = .powerUp → s.dev.sup.phase = .delay →
      let ms := s.dev.stepSlots.foldl (fun a n => max a (s.dev.fld Fld.SUP_R_TIME_DELAY_MS n)) 0
      Gives .railStepDelay s ((s.dev.waitUntil (s.dev.sup.stepAt + 1000 * ms)).upFrom (s.dev.sup.step + 1)).clocksDone) ∧
    (s.dev.sup.state ≠ .powerUp → Gives .railStepDelay s s.dev) ∧
    (∀ slot : Nat, s.dev.sup.state = .powerUp → s.dev.sup.phase = .rising → s.dev.stepSlots.contains slot = true → (s.dev.rail slot).state = .rising →
      Gives (.railUpTimeout slot) s
        ((s.dev.waitUntil (s.dev.sup.stepAt + 1000 * s.dev.fld Fld.SUP_R_TIME_UP_TMO_MS slot)).failAttempt 1 (some slot))) ∧
    (∀ pll : Nat, pll < 6 → s.dev.sup.state = .powerUp →
      (s.dev.refEnabled (pllRef pll) = true →
        Gives (.pllLock pll) s (s.dev.setSup { s.dev.sup with plls := insertNat pll s.dev.sup.plls }).clocksDone) ∧
      (s.dev.refEnabled (pllRef pll) = false → Gives (.pllLock pll) s s.dev) ∧
      (s.dev.sup.plls.contains pll = false → s.dev.refEnabled (pllRef pll) = true →
        Gives (.pllLockTimeout pll) s
          ((s.dev.waitUntil ((s.dev.sup.refAt.find? (pllRef pll)).getD s.dev.sup.stepAt + 1000)).failAttempt 4 none)) ∧
      (s.dev.sup.plls.contains pll = true → Gives (.pllLockTimeout pll) s s.dev)) ∧
    (∀ (slot mv : Nat) (pg : Bool), s.dev.slotUsed slot = true →
      let d := s.dev.noteRail slot mv pg
      (d.faultTrig slot mv pg = none → Gives (.railFault slot mv pg) s d) ∧
      (∀ t, d.faultTrig slot mv pg = some t →
        (d.sup.state = .on ∨ d.sup.state = .flush ∨ d.sup.state = .lowPower →
          ((s.dev.rail slot).state = .inReg → Gives (.railFault slot mv pg) s (d.runFault slot t)) ∧
          ((s.dev.rail slot).state ≠ .inReg → Gives (.railFault slot mv pg) s d)) ∧
        (d.sup.state = .powerUp → (s.dev.rail slot).state = .rising → t = 6 →
          Gives (.railFault slot mv pg) s (((d.countFault slot 6).markFault slot 6).failAttempt 2 (some slot))) ∧
        (d.sup.state = .powerUp → (s.dev.rail slot).state = .inReg →
          let e := (d.countFault slot t).markFault slot t;
          (d.sup.dpExit = true → d.flag Fld.SUP_R_CFG_KEEP_DP slot = true →
            Gives (.railFault slot mv pg) s ((e.noteTrigger t (some slot)).raise Reg.SUP_SEQ_INT_STATUS 2 5).dropDiapause) ∧
          (d.sup.dpExit = false ∨ d.flag Fld.SUP_R_CFG_KEEP_DP slot = false →
            Gives (.railFault slot mv pg) s (e.failAttempt t (some slot)))) ∧
        (d.sup.state = .powerDown → (s.dev.rail slot).en = true → (s.dev.rail slot).state = .inReg →
          Gives (.railFault slot mv pg) s
            (((d.setRail slot { d.rail slot with state := .fault }).bumpSat Fld.SUP_R_FAULT_EARLY 1 slot).downCase 9 slot)))) ∧
    (∀ slot mv : Nat, s.dev.slotUsed slot = true → s.dev.belowOff slot mv = true →
      let d := s.dev.setRail slot { s.dev.rail slot with mv := mv, state := if (s.dev.rail slot).en then (s.dev.rail slot).state else .off }
      (d.sup.state = .powerUp → d.sup.phase = .prestart →
        ((d.workSlots d.sup.dpExit).all (fun n => d.belowOff n (d.rail n).mv) = true → Gives (.railBelowOff slot mv) s (d.upFrom 0)) ∧
        ((d.workSlots d.sup.dpExit).all (fun n => d.belowOff n (d.rail n).mv) = false → Gives (.railBelowOff slot mv) s d)) ∧
      (d.sup.state ≠ .powerUp → Gives (.railBelowOff slot mv) s d.downGoOn)) ∧
    (∀ slot : Nat, s.dev.sup.state = .powerDown → (s.dev.workSlots s.dev.sup.dnKeep).contains slot = true →
      s.dev.fld Fld.SUP_R_CFG_DN_STEP slot = s.dev.sup.step → (s.dev.rail slot).en = false → (s.dev.rail slot).state ≠ .off →
      (s.dev.rail slot).dnTmo = false →
      let d := s.dev.waitUntil (s.dev.sup.stepAt + 1000 * s.dev.fld Fld.SUP_R_TIME_DN_TMO_MS slot)
      let e := (d.bumpSat Fld.SUP_R_FAULT_DN_TMO 1 slot).downCase 8 slot
      Gives (.railDnTimeout slot) s ((e.setRail slot { e.rail slot with dnTmo := true, disAt := e.now }).discharge slot)) ∧
    (∀ slot : Nat, s.dev.sup.state = .powerDown → (s.dev.rail slot).dnTmo = true → (s.dev.rail slot).handled = false →
      (s.dev.rail slot).state ≠ .off →
      let d := s.dev.waitUntil ((s.dev.rail slot).disAt + 1000 * s.dev.fld Fld.SUP_R_TIME_DIS_TMO_MS slot)
      Gives (.dischargeTimeout slot) s (d.setRail slot { d.rail slot with handled := true }).downGoOn) ∧
    (s.dev.sup.state = .holdoff →
      Gives .restartHoldoffExpire s (s.dev.waitUntil (s.dev.sup.offAt + 1000 * s.dev.fld Fld.SUP_SEQ_CTRL_HOLDOFF_MS)).supplyNormal) ∧
    (s.dev.sup.state = .on → Gives .restartHoldoffExpire s s.dev) ∧
    (s.dev.seqState = .on ∨ s.dev.seqState = .lowPower →
      Gives .attemptClear s ((s.dev.waitUntil (s.dev.sup.upAt + 60000000)).setFld Fld.SUP_SEQ_STATUS_ATTEMPT 0)) ∧
    (s.dev.seqState = .holdoff → Gives .attemptClear s s.dev) ∧
    (∀ n : Nat, s.dev.avsSlot = some n → s.dev.sup.state = .on → s.dev.flag Fld.SUP_PMB_STATUS_DEAD = false →
      s.dev.fld Fld.SUP_R_MARGIN_STEPS n = 0 → s.dev.sup.avsMv ≠ 1000 * s.dev.sup.avsTarget →
      let d := s.dev.waitUntil (s.dev.sup.avsAt + 100)
      let new := if s.dev.sup.avsMv < 1000 * s.dev.sup.avsTarget then min (1000 * s.dev.sup.avsTarget) (s.dev.sup.avsMv + 5000)
        else max (1000 * s.dev.sup.avsTarget) (s.dev.sup.avsMv - 5000)
      let e := (d.avsMove n new).setSup { (d.avsMove n new).sup with avsAt := (d.avsMove n new).now }
      Gives .avsStep s (e.emit (.pmbus (e.fld Fld.SUP_R_PMB_ADDR n) (e.fld Fld.SUP_R_PMB_PAGE n) 0x21 (new / 1000)))) ∧
    (s.dev.avsSlot = none → Gives .avsStep s s.dev)

/-- The panel, the reset inputs, the PMBus, watchdogs, wakes and PF_SHARE (R28, R391, R406, R407, R410–R412, R419, R432–R437, R499, R507):
each acts by the supervisor's state. -/
def Obligations.SupervisorCommands : Prop :=
  ∀ s : State, s.dev.sup.supOn = true →
    let d := s.dev
    Gives .refclk156Loss s d.vaeDown.ethDown ∧
    (∀ mv : Nat,
      (1000 ≤ mv → mv ≤ 2600 → Gives (.vbatLow mv) s ((d.setSup { d.sup with vbat := mv }).raise Reg.SUP_SEQ_INT_STATUS 0 3)) ∧
      (mv < 1000 ∨ 2600 < mv → Gives (.vbatLow mv) s (d.setSup { d.sup with vbat := mv }))) ∧
    (∀ c, d.sup.capsule = some c → c.done = false → c.lost = false →
      Gives .capsuleComplete s ((d.setSup { d.sup with capsule := some { c with done := true } }).raise Reg.SUP_SEQ_INT_STATUS 5 4)) ∧
    (d.sup.capsule = none → Gives .capsuleComplete s d) ∧
    (let b := d.setSup { d.sup with btn := false };
      (b.entering = true → Gives .shortPress s (b.wake 1)) ∧
      (b.entering = false →
        (b.seqState = .off → Gives .shortPress s (b.setSup { b.sup with state := .holdoff }).supplyNormal) ∧
        (b.seqState = .on → b.flag Fld.SUP_BTN_SHORT_EN = true → b.hold.bottle = none → Gives .shortPress s (b.startFlush false)) ∧
        (b.seqState = .on → b.flag Fld.SUP_BTN_SHORT_EN = false ∨ b.hold.bottle.isSome → Gives .shortPress s (b.eventR 1 supBlk 406)) ∧
        (b.seqState = .lowPower → Gives .shortPress s (b.wake 1)) ∧
        (b.seqState = .lockout → b.hold.bottle = none → let e := b.setFld Fld.SUP_SEQ_STATUS_ATTEMPT 0
          Gives .shortPress s (e.setSup { e.sup with cold := false }).powerUp) ∧
        (b.seqState = .lockout → b.hold.bottle.isSome → Gives .shortPress s (b.eventR 1 supBlk 406)) ∧
        (b.seqState = .powerDown → Gives .shortPress s (b.eventR 1 supBlk 406))) ∧
      Gives .otherPress s (b.eventR 1 supBlk 406)) ∧
    (let b := d.setSup { d.sup with btn := true };
      (b.seqState = .holdoff → Gives .longPress s (b.setSup { b.sup with state := .off })) ∧
      (b.seqState = .powerUp → Gives .longPress s (b.powerDown .off)) ∧
      (b.seqState = .lockout → Gives .longPress s (b.eventR 1 supBlk 406)) ∧
      (b.seqState = .on ∨ b.seqState = .flush → Gives .longPress s (b.latchBottling true .off)) ∧
      (b.seqState = .lowPower → b.sup.target = 1 → b.sup.cur = 3 → Gives .longPress s (b.setSup { b.sup with pressOff := true }).beginExit) ∧
      (b.seqState = .lowPower → b.sup.target = 1 → b.sup.cur ≠ 3 → Gives .longPress s (b.setSup { b.sup with pressOff := true })) ∧
      (b.seqState = .lowPower → b.sup.target ≠ 1 →
        Gives .longPress s ((b.setSup { b.sup with state := .off, cur := 0, target := 0 }).setFld Fld.SUP_PWR_TARGET_MODE 0))) ∧
    (∀ mrst : Bool,
      let e := if mrst then d.setSup { d.sup with mrstN := true } else d.setSup { d.sup with rstN := true }
      let cause := if mrst then 2 else 1
      (d.hold.bottle.isSome → Gives (.resetInput mrst) s (e.resetRequest cause 0)) ∧
      (d.hold.bottle = none → d.sup.cur < 2 → Gives (.resetInput mrst) s (e.resetRequest cause 0)) ∧
      (let w := e.setSup { e.sup with resetWake := true }
        let w := if w.sup.target = 1 then w.setFld Fld.SUP_RST_STATUS_CAUSE cause else w;
        (d.hold.bottle = none → d.sup.cur = 2 → Gives (.resetInput mrst) s (w.setFld Fld.SUP_PWR_STATUS_RST_PEND 1)) ∧
        (d.hold.bottle = none → d.sup.cur = 3 ∨ d.sup.cur = 4 → Gives (.resetInput mrst) s w.beginExit)) ∧
      (d.hold.bottle = none → d.sup.cur = 5 →
        (d.sup.latched = none → Gives (.resetInput mrst) s (e.setSup { e.sup with latched := some (cause, 0) })) ∧
        (d.sup.latched.isSome → Gives (.resetInput mrst) s e)) ∧
      (d.hold.bottle = none → 5 < d.sup.cur → Gives (.resetInput mrst) s (e.resetRequest cause 0))) ∧
    (∀ sclLow : Bool,
      let e := d.bumpSat Fld.SUP_PMB_STATUS_RECOVERIES
      let e := if sclLow then (e.pin "PMB_RST_N" 0).pin "PMB_RST_N" 1 else e
      let fs := (e.now :: e.sup.recFails).filter (fun t => decide (e.now < t + 1000000))
      let g := e.setSup { e.sup with recFails := fs }
      Gives (.pmbusStuck sclLow true) s (e.setSup { e.sup with recFails := [] }) ∧
      (fs.length < 3 → Gives (.pmbusStuck sclLow false) s g) ∧
      (3 ≤ fs.length → g.flag Fld.SUP_PMB_STATUS_DEAD = false →
        Gives (.pmbusStuck sclLow false) s (((g.setFld Fld.SUP_PMB_STATUS_DEAD 1).noteTrigger 10 none).raise Reg.SUP_SEQ_INT_STATUS 4 5))) ∧
    (d.flag Fld.SUP_PMB_STATUS_DEAD = true →
      let e := (d.advance 10000000).bumpSat Fld.SUP_PMB_STATUS_RECOVERIES
      Gives (.pmbusRecoveryRetry false) s e ∧
      Gives (.pmbusRecoveryRetry true) s ((e.setSup { e.sup with recFails := [] }).setFld Fld.SUP_PMB_STATUS_DEAD 0)) ∧
    (d.flag Fld.SUP_PMB_STATUS_DEAD = false → Gives (.pmbusRecoveryRetry true) s d) ∧
    (∀ slot : Nat, d.flag Fld.SUP_R_CFG_PMB slot = true → d.slotUsed slot = true → d.flag Fld.SUP_PMB_STATUS_DEAD = false →
      Reaches (.pmbusTelemetry slot false) s (fun e => e.regs = d.regs ∧ e.mem = d.mem ∧
        e.out.take 3 = [0x8D, 0x8C, 0x8B].map (fun c => Out.pmbus (d.fld Fld.SUP_R_PMB_ADDR slot) (d.fld Fld.SUP_R_PMB_PAGE slot) c 0))) ∧
    (∀ engine : Nat, d.flag Fld.SUP_PWR_CFG_PERCH_EN = true → d.sup.state = .on → engine < 16 → d.sup.cur ≤ 1 →
      Gives (.perchGate engine) s (d.setSup { d.sup with gated := insertNat engine d.sup.gated,
                                                          cur := if (insertNat engine d.sup.gated).length = 16 then 1 else 0 })) ∧
    (∀ src : Nat, Gives (.lowPowerWake src) s (d.wake src)) ∧
    Gives .wakeN s ((d.advance 100).wake 2) ∧
    (∀ port : Nat, port < 4 → Gives (.trellisWake port) s (d.wake 4)) ∧
    (d.flag Fld.SUP_RTC_SCHED_WAKE_EN = true → d.fld Fld.SUP_RTC_SEC_SEC ≤ d.fld Fld.SUP_RTC_WAKE_SEC →
      let e := d.advance ((d.fld Fld.SUP_RTC_WAKE_SEC - d.fld Fld.SUP_RTC_SEC_SEC) * 1000000)
      Gives .rtcWakeAlarm s ((e.setFld Fld.SUP_RTC_SCHED_WAKE_EN 0).wake 0)) ∧
    (d.flag Fld.SUP_RTC_SCHED_WAKE_EN = false → Gives .rtcWakeAlarm s d) ∧
    (∀ core : Nat, core < 8 → d.hubOn = true → d.hold.bottle = none → d.sup.wdtAt.find? core = none →
      let e := (((d.setFld Fld.SUP_WDT_STATUS_EXPIRED (Nat.lor (d.fld Fld.SUP_WDT_STATUS_EXPIRED) (2 ^ core))).raise Reg.SUP_PWR_INT_STATUS 3 4).noteWatchdog).testStop
      e.sup.wdtAt.find? core = none →
      Gives (.watchdogExpire core) s
        ((e.bumpSat Fld.SUP_WDT_STATUS_STAGE1).setSup { e.sup with wdtAt := e.sup.wdtAt.put core e.now, coresDown := insertNat core e.sup.coresDown })) ∧
    (∀ core : Nat, let e := d.setSup { d.sup with coresDown := d.sup.coresDown.filter (fun c => decide (c ≠ core)) }
      (core < 8 → core ≠ 2 → d.hubOn = true → d.hold.bottle = none ∨ d.hold.phase < 3 → Gives (.mcStateRebuilt core) s e.settle) ∧
      (core = 2 → d.hubOn = true → d.hold.bottle = none ∨ d.hold.phase < 3 → Gives (.mcStateRebuilt core) s e.mc2Resume.settle) ∧
      (8 < core → Gives (.mcStateRebuilt core) s e.settle) ∧
      (core = 8 → Gives (.mcStateRebuilt core) s e.scResume.settle) ∧
      (core < 8 → d.hubOn = false ∨ (d.hold.bottle.isSome ∧ 3 ≤ d.hold.phase) → Gives (.mcStateRebuilt core) s d)) ∧
    (let e := d.setSup { d.sup with pfLow := true, pfLowAt := d.now };
      (d.sup.state ≠ .init → d.sup.state ≠ .holdoff → Gives .pfShareLow s e.bottleTrigger) ∧
      (d.sup.state = .init ∨ d.sup.state = .holdoff → Gives .pfShareLow s e)) ∧
    (d.hold.waitIn = true → d.hold.pfDrive = false → Gives .pfShareHigh s (d.setSup { d.sup with pfLow := false }).goResume) ∧
    (d.hold.waitIn = false → Gives .pfShareHigh s (d.setSup { d.sup with pfLow := false }).supplyNormal) ∧
    (d.hold.waitIn = true → d.hold.pfDrive = false → d.sup.pfLow = true →
      let e := d.waitUntil (d.sup.pfLowAt + 500000)
      Gives .pfShareReleaseTimeout s
        ((if e.hold.pfDrive then e else (e.setHold { e.hold with pfDrive := true }).pin "PF_SHARE" 0).stepTen)) ∧
    (d.sup.pfLow = false → Gives .pfShareReleaseTimeout s d)

/-- Low-power entries, the orderly shutdown and the capsule (R390, R405, R412, R415, R421, R422, R425, R434, R442): a request that a cause of
R422 bars is refused with that cause, another begins; the drains end in a null seal and the power-down; the regulator starts above 7.8 V. -/
def Obligations.LowPowerEntries : Prop :=
  (∀ (fn : Nat) (x : DescState) (s : State),
    let d := s.dev.takenDesc fn 0 x
    (s.dev.takesDev fn 0xD0 x = true → let mode := dwF x.dw 8 1 0
      (mode = 0 ∨ mode = 3 → Gives (.pwrEnter fn) s (d.complete fn 0 x.seq stRange 0 0)) ∧
      (mode = 1 ∨ mode = 2 → d.pwrRefuse mode ≠ 0 →
        Gives (.pwrEnter fn) s ((d.pwrRefused (d.pwrRefuse mode)).complete fn 0 x.seq stNotReady (d.pwrRefuse mode) 0)) ∧
      (mode = 1 ∨ mode = 2 → d.pwrRefuse mode = 0 → d.pwrAsks = false →
        Gives (.pwrEnter fn) s ((d.complete fn 0 x.seq stOk 0 0).pwrBegin mode)) ∧
      (mode = 1 ∨ mode = 2 → d.pwrRefuse mode = 0 → d.pwrAsks = true → Gives (.pwrEnter fn) s (d.pwrAsk mode (some (fn, x.seq))))) ∧
    (s.dev.takesDev fn 0xD8 x = true →
      ((dwAt x.dw 8).toNat ≠ 0xA5A5 → Gives (.shutdown fn) s (d.complete fn 0 x.seq stRange 0 0)) ∧
      ((dwAt x.dw 8).toNat = 0xA5A5 → s.dev.sup.state ≠ .on → Gives (.shutdown fn) s (d.complete fn 0 x.seq stNotReady 0 0)) ∧
      ((dwAt x.dw 8).toNat = 0xA5A5 → s.dev.sup.state = .on → Gives (.shutdown fn) s (d.startFlush false))) ∧
    (s.dev.takesDev fn 0xD9 x = true →
      Gives (.capsuleRead fn) s (d.answerHost fn 0 x (capsuleBytes s.dev.sup.capsule))) ∧
    (s.dev.takesDev fn 0xDA x = true →
      Gives (.capsuleClear fn) s ((d.setSup { d.sup with capsule := none }).complete fn 0 x.seq stOk 0 0))) ∧
  (∀ (hvin hu vbat prof cid : Nat) (testEn : Bool) (again : Option (List Nat)) (s : State), hvin ≤ 8000 →
    (s.dev.sup.supOn = false → 780 < hvin →
      Gives (.regulatorStart hvin hu vbat prof cid testEn again) s (s.dev.regStart hvin hu vbat prof cid testEn again)) ∧
    (s.dev.sup.supOn = true ∨ hvin ≤ 780 → Gives (.regulatorStart hvin hu vbat prof cid testEn again) s s.dev)) ∧
  (∀ (prof cid : Nat) (ones : List Nat), straps prof cid none = (prof % 4, cid % 8, []) ∧
    (∀ i, i ∈ (straps prof cid (some ones)).2.2 ↔ i < 5 ∧ ones.getD i 0 = 4)) ∧
  (∀ s : State, s.dev.sup.supOn = true →
    Gives .flushDrained s s.dev.flushGo.flushEnd ∧
    Gives .diapauseDrained s s.dev.diapauseDown ∧
    (s.dev.sup.state = .flush → s.dev.hold.bottle = none → Gives .orderlyShutdownTimeout s
      (s.dev.waitUntil (s.dev.sup.flushAt + 1000000 * s.dev.fld Fld.SUP_SEQ_CTRL_ORD_TMO_S)).bottleTrigger) ∧
    (s.dev.sup.state ≠ .flush → Gives .orderlyShutdownTimeout s s.dev) ∧
    (s.dev.flag Fld.SUP_RTC_SCHED_SLEEP_EN = true → s.dev.fld Fld.SUP_RTC_SEC_SEC ≤ s.dev.fld Fld.SUP_RTC_SLEEP_SEC →
      let d := s.dev.advance ((s.dev.fld Fld.SUP_RTC_SLEEP_SEC - s.dev.fld Fld.SUP_RTC_SEC_SEC) * 1000000)
      Gives .rtcSleepAlarm s ((d.setFld Fld.SUP_RTC_SCHED_SLEEP_EN 0).pwrRequest ((d.setFld Fld.SUP_RTC_SCHED_SLEEP_EN 0).fld Fld.SUP_RTC_SCHED_SLEEP_MODE))) ∧
    (s.dev.flag Fld.SUP_RTC_SCHED_SLEEP_EN = false → Gives .rtcSleepAlarm s s.dev)) ∧
  (∀ d : Device,
    (d.sup.state ≠ .on → d.pwrCheck 1 = 1 ∧ d.pwrCheck 2 = 1) ∧
    (d.sup.state = .on → d.sup.cur ≠ 2 → d.sup.cur ≠ 5 → d.sup.warm = none → d.trl.ask = none →
      (d.hold.supply ≠ .normal → d.pwrCheck 1 = 2 ∧ d.pwrCheck 2 = 2) ∧
      (d.hold.supply = .normal → d.placesWrites = true → d.pwrCheck 1 = 3) ∧
      (d.hold.supply = .normal → d.rst.phase ≠ 0 → d.pwrCheck 2 = 4) ∧
      (d.hold.supply = .normal → d.rst.phase = 0 → d.pwrBusy = true → d.pwrCheck 2 = 5)))

/-! ### Firmware, events and ageing -/

/-- Firmware and profiles (R448, R451–R454, R456, R459, R468): an update is begun, written, committed and activated in the slot that SC does
not run from, each in its turn; the blocks of the slot that are not blank are erased, 20 ms each, before FW_BEGIN completes; reads and
captures go to the host, and an uncorrectable unit ends a read with ST_RANGE and ECC_UE; a profile is stored unless PROF_WP holds; while
bottling is latched update and profile commands end with ST_ABORTED. -/
def Obligations.FirmwareCommands : Prop :=
  (∀ (fn : Nat) (x : DescState) (s : State),
    let d := s.dev.takenDesc fn 0 x
    let u := d.updSlot
    (s.dev.takesFlash fn 0xC0 x = true →
      (d.fws.trial = true → Gives (.fwBegin fn) s (d.complete fn 0 x.seq stNotReady 0 0)) ∧
      (d.fws.trial = false →
        let todo := ((List.range 96).map (fun i => 96 * u + i)).filter (fun b => !d.blockBlank b)
        (todo = [] → Gives (.fwBegin fn) s ((d.setFws { d.fws with begun := true, job := none }).complete fn 0 x.seq stOk 0 0)) ∧
        (todo ≠ [] → Gives (.fwBegin fn) s
          (d.setFws { d.fws with begun := false, job := some { fn := fn, seq := x.seq, left := todo, at_ := d.now } })))) ∧
    (s.dev.takesFlash fn 0xC1 x = true →
      let off := (dwAt x.dw 8).toNat
      (fwRange off (dLength x.dw) = false → Gives (.fwWrite fn) s (d.complete fn 0 x.seq stRange 0 0)) ∧
      (fwRange off (dLength x.dw) = true → d.fws.begun = false → Gives (.fwWrite fn) s (d.complete fn 0 x.seq stNotReady 0 0)) ∧
      (fwRange off (dLength x.dw) = true → d.fws.begun = true →
        let r := d.programAt (6291456 * u + off) (x.data.take (dLength x.dw)) .update
        (r.2 = 0 → Gives (.fwWrite fn) s (r.1.complete fn 0 x.seq stOk 0 0)) ∧
        (r.2 ≠ 0 → Gives (.fwWrite fn) s (r.1.complete fn 0 x.seq stRange 0 r.2)))) ∧
    (s.dev.takesFlash fn 0xC2 x = true →
      (d.fws.begun = false → Gives (.fwCommit fn) s (d.complete fn 0 x.seq stNotReady 0 0)) ∧
      (d.fws.begun = true → d.verifies u = false → Gives (.fwCommit fn) s (d.complete fn 0 x.seq stAuthFail 0 0)) ∧
      (d.fws.begun = true → d.verifies u = true →
        ((d.markValid u).2 = true → Gives (.fwCommit fn) s ((d.markValid u).1.complete fn 0 x.seq stOk 0 0)) ∧
        ((d.markValid u).2 = false → Gives (.fwCommit fn) s ((d.markValid u).1.complete fn 0 x.seq stRange 0 1)))) ∧
    (s.dev.takesFlash fn 0xC3 x = true →
      (d.fws.begun = false ∨ d.marker u mkValid = false → Gives (.fwActivate fn) s (d.complete fn 0 x.seq stNotReady 0 0)) ∧
      (d.fws.begun = true → d.marker u mkValid = true →
        Gives (.fwActivate fn) s ((d.setMarker u mkArmed).complete fn 0 x.seq stOk 0 0))) ∧
    (s.dev.fws.job = none → s.dev.takesDev fn 0xC0 x = true → d.flashBarred = true →
      Gives (.fwBegin fn) s (d.complete fn 0 x.seq stAborted 0 0)) ∧
    (s.dev.takesDev fn 0xC4 x = true →
      let off := (dwAt x.dw 9).toNat
      (dLength x.dw = 0 ∨ 6291456 < off + dLength x.dw → ∀ ecc : Nat, Gives (.fwRead fn ecc) s (d.complete fn 0 x.seq stRange 0 0)) ∧
      (dLength x.dw ≠ 0 → off + dLength x.dw ≤ 6291456 →
        ∀ ecc : Nat, let r := (d.flashEcc ecc).flashRead (6291456 * dwF x.dw 8 0 0 + off) (dLength x.dw)
        (ecc ≠ 2 → Gives (.fwRead fn ecc) s (r.2.answerHost fn 0 x r.1)) ∧
        (ecc = 2 → Gives (.fwRead fn ecc) s (r.2.complete fn 0 x.seq stRange 0 3)))) ∧
    (s.dev.takesDev fn 0xC8 x = true → d.flashBarred = true → ∀ ecc : Nat, Gives (.profileRead fn ecc) s (d.complete fn 0 x.seq stAborted 0 0)) ∧
    (s.dev.takesDev fn 0xC8 x = true → d.flashBarred = false →
      let p := dwF x.dw 8 1 0
      ∀ ecc : Nat, let r := (d.flashEcc ecc).flashRead (65536 * (192 + 4 * p)) (min (leField (d.flashBytes (65536 * (192 + 4 * p) / 32) 1) 8 4) 131040)
        (ecc = 2 → Gives (.profileRead fn ecc) s (r.2.complete fn 0 x.seq stRange 0 3)) ∧
        (ecc ≠ 2 → r.2.fws.learned.find? p = none → Gives (.profileRead fn ecc) s (r.2.draw.2.answerHost fn 0 x r.1)) ∧
        (ecc ≠ 2 → (r.2.fws.learned.find? p).isSome →
          Gives (.profileRead fn ecc) s (r.2.draw.2.answerHost fn 0 x (r.1 ++ Config.learnedBytes p r.2.freeCtr)))) ∧
    (s.dev.takesFlash fn 0xC9 x = true →
      (dLength x.dw = 0 ∨ 131040 < dLength x.dw → Gives (.profileWrite fn) s (d.complete fn 0 x.seq stRange 0 0)) ∧
      (1 ≤ dLength x.dw → dLength x.dw ≤ 131040 →
        (d.flag Fld.FWS_CTRL_PROF_WP = true → Gives (.profileWrite fn) s (d.complete fn 0 x.seq stProt 0 0)) ∧
        (d.flag Fld.FWS_CTRL_PROF_WP = false →
          let r := d.storeProfile (dwF x.dw 8 1 0) (x.data.take (dLength x.dw)) (bitAt (dwAt x.dw 8) 8)
          Gives (.profileWrite fn) s (r.1.complete fn 0 x.seq (if r.2 then stOk else stAuthFail) 0 0)))) ∧
    (s.dev.takesDev fn 0xCA x = true → d.flashBarred = true → Gives (.profileCapture fn) s (d.complete fn 0 x.seq stAborted 0 0)) ∧
    (s.dev.takesDev fn 0xCA x = true → d.flashBarred = false →
      (dLength x.dw < d.captureSection.length → Gives (.profileCapture fn) s (d.complete fn 0 x.seq stBudget 0 0)) ∧
      (d.captureSection.length ≤ dLength x.dw →
        Gives (.profileCapture fn) s (d.answerHost fn 0 x d.captureSection)))) ∧
  (∀ s : State, s.dev.sup.supOn = true →
    (s.dev.fws.trial = true → s.dev.fws.run < 2 → s.dev.seqState = .on ∨ s.dev.seqState = .lowPower →
      let d := (s.dev.waitUntil (max s.dev.fws.goodAt s.dev.sup.upAt + 1000000 * s.dev.fld Fld.FWS_BOOT_CFG_GOOD_S))
      let e := d.setMarker d.fws.run mkGood
      Gives .goodTimerExpire s (e.setFws { e.fws with trial := false })) ∧
    (s.dev.fws.trial = false → Gives .goodTimerExpire s s.dev)) ∧
  (∀ (d : Device) (j : FwJob) (b : Nat) (n : Nat), d.fws.job = some j → j.left = [b] →
    (d.now < j.at_ + 20000 → flashGo (n + 2) d = d) ∧
    (j.at_ + 20000 ≤ d.now → flashGo (n + 2) d =
      ((d.eraseBlock b).setFws { (d.eraseBlock b).fws with job := none, begun := true }).complete j.fn 0 j.seq stOk 0 0))

/-- Events (R462–R468): the ring and the archive are read in order, a host posts an event of its own; the recorder merges a repeat with the last
record, or takes the lowest free slot, or the oldest record of no higher severity, or drops the event and counts it; a record of severity 4 or more
is archived, or deferred while bottling is latched. -/
def Obligations.EventCommands : Prop :=
  (∀ (fn : Nat) (x : DescState) (s : State),
    let d := s.dev.takenDesc fn 0 x
    (s.dev.takesDev fn 0xCC x = true → Gives (.evtRead fn) s
      (d.answerHost fn 0 x ((List.range 6144).map (fun i => evtBytes (s.dev.evr.ring.find? i))).flatten)) ∧
    (s.dev.takesDev fn 0xCD x = true →
      let rs := (s.dev.archBlock (dwF x.dw 8 3 0)).map (fun r => evtBytes (some r))
      Gives (.evtArchRead fn) s
        (d.answerHost fn 0 x (rs ++ List.replicate (2048 - rs.length) (List.replicate 32 (0xFF : Byte))).flatten)) ∧
    (s.dev.takesDev fn 0xCE x = true →
      (4 < dwF x.dw 8 2 0 ∨ dwF x.dw 9 15 0 < 0xF000 → Gives (.evtPost fn) s (d.complete fn 0 x.seq stRange 0 0)) ∧
      (dwF x.dw 8 2 0 ≤ 4 → 0xF000 ≤ dwF x.dw 9 15 0 →
        let data := leBytes 4 (dwAt x.dw 10).toNat ++ leBytes 4 (dwAt x.dw 11).toNat ++ leBytes 4 (dwAt x.dw 12).toNat ++ leBytes 2 fn ++ [0, 0]
        Gives (.evtPost fn) s
          ((d.event { sev := dwF x.dw 8 2 0, host := true, src := 0x20, code := dwF x.dw 9 15 0, data := data }).complete fn 0 x.seq stOk 0 0)))) ∧
  (∀ s : State, s.dev.sup.supOn = true → s.dev.evr.fifo = [] → Gives .eventRecord s s.dev) ∧
  (∀ (e : EventIn) (rest : List EventIn) (s : State), s.dev.sup.supOn = true → s.dev.evr.fifo = e :: rest →
    let d := s.dev.setEvr { s.dev.evr with fifo := rest }
    (∀ i r, s.dev.evr.last = some i → s.dev.evr.ring.find? i = some r → r.ev = e → r.repeats < 65535 →
      Reaches .eventRecord s (fun t => t.evr.fifo = rest ∧ t.evr.last = some i ∧ t.regs = s.dev.regs ∧ t.mem = s.dev.mem ∧
        t.evr.ring.find? i = some { r with opsec := s.dev.fld Fld.EVR_OPSEC_VALUE, cycles := s.dev.fld Fld.EVR_CYCLES_VALUE,
                                           repeats := r.repeats + 1 })) ∧
    (∀ i, s.dev.evr.last = none → (freeRing 6144 0 s.dev.evr.ring = some i ∨ (freeRing 6144 0 s.dev.evr.ring = none ∧ ∃ r,
        oldestSlot (s.dev.evr.ring.filter (fun p => decide (p.2.ev.sev ≤ e.sev) && !p.2.deferred)) = some (i, r))) →
      Reaches .eventRecord s (fun t => t.evr.fifo = rest ∧ t.evr.last = some i ∧ t.mem = s.dev.mem ∧ t.now = s.dev.now ∧
        t.evr.ring.find? i = some { opsec := s.dev.fld Fld.EVR_OPSEC_VALUE, cycles := s.dev.fld Fld.EVR_CYCLES_VALUE, ev := e, archived := false,
                                    saturated := false, deferred := false, repeats := 0, seq := s.dev.fld Fld.EVR_SEQ_VALUE } ∧
        (i ∈ t.evr.todo ↔ 4 ≤ e.sev) ∧
        (∀ k, k ≠ i → t.evr.ring.find? k = s.dev.evr.ring.find? k))) ∧
    (s.dev.evr.last = none → freeRing 6144 0 s.dev.evr.ring = none →
      oldestSlot (s.dev.evr.ring.filter (fun p => decide (p.2.ev.sev ≤ e.sev) && !p.2.deferred)) = none →
      Gives .eventRecord s ((d.bumpDropped e.sev).raiseQuiet Reg.EVR_INT_STATUS 0))) ∧
  (∀ s : State, s.dev.sup.supOn = true → s.dev.evr.todo = [] → Gives .eventArchive s s.dev) ∧
  (∀ (i : Nat) (rest : List Nat) (r : EventRec) (s : State), s.dev.sup.supOn = true → s.dev.evr.todo = i :: rest → s.dev.evr.ring.find? i = some r →
    (s.dev.flashBarred = true → Reaches .eventArchive s (fun t => t.evr.todo = i :: rest ∧ t.evr.archive = s.dev.evr.archive ∧
      t.fws = s.dev.fws ∧ t.mem = s.dev.mem)) ∧
    (s.dev.flashBarred = false → ∀ b, ((List.range 16).filter (fun b => decide ((s.dev.archBlock b).length < 2048))).head? = some b →
      Reaches .eventArchive s (fun t => t.evr.todo = rest ∧ t.evr.archive.find? b = some (s.dev.archBlock b ++ [{ r with deferred := false }]) ∧
        t.evr.ring.find? i = some { r with archived := true, deferred := false } ∧ t.mem = s.dev.mem)))

/-- Ageing (R24, R472, R473, R475, R476): a re-plan runs when it may and waits when it may not; the monitors' readings are kept; a HUB slack below
FAST_THR raises the core voltage by 10 mV; the crossbar grants the oldest request of the first class that waits, and one that has waited 4,096 clocks
as Q0. -/
def Obligations.AgeingCommands : Prop :=
  (∀ s : State, (s.dev.hubOn = true → Gives .replanTimer s
      (s.dev.waitUntil (max s.dev.age.planAt s.dev.sup.upAt + 3600000000 * s.dev.fld Fld.AGE_PERIOD_PLAN_H)).replan) ∧
    (s.dev.hubOn = false → Gives .replanTimer s s.dev)) ∧
  (∀ d : Device, (d.age.changed.isSome → d.replan = d) ∧
    (d.age.changed = none → d.planMay = false → d.replan = d.setFld Fld.AGE_STATUS_WAITING 1)) ∧
  (∀ (ch width height : Nat) (s : State), s.dev.hubOn = true → s.dev.chLive ch = true →
    Gives (.eyeProbe ch width height) s { s.dev with age := { s.dev.age with eyes := s.dev.age.eyes.put ch (width, height) } }) ∧
  (∀ (mv : Nat) (s : State), s.dev.hubOn = true →
    Gives (.canaryCheck mv) s ({ s.dev with age := { s.dev.age with canary := mv } }.setFld Fld.AGE_VCORE_CANARY_10MV (mv / 10))) ∧
  (∀ (hub edge : Nat) (s : State), s.dev.hubOn = true →
    let d := ((s.dev.notePath).setFld Fld.AGE_PATH_HUB_PS (min hub 255)).setFld Fld.AGE_PATH_EDGE_PS (min edge 255)
    (d.fld Fld.AGE_PATH_FAST_THR ≤ min hub 255 → Gives (.slackCheck hub edge) s d) ∧
    (d.flag Fld.AGE_CTRL_AVS_EN = false → Gives (.slackCheck hub edge) s d) ∧
    (min hub 255 < d.fld Fld.AGE_PATH_FAST_THR → d.flag Fld.AGE_CTRL_AVS_EN = true → s.dev.age.fastAt = none → s.dev.sup.avsMv ≠ 0 →
      s.dev.hold.bottle = none →
      Gives (.slackCheck hub edge) s
        ((({ d with age := { d.age with fastAt := some d.now } } : Device).aimAt (s.dev.sup.avsTarget + 10)).raise Reg.AGE_INT_STATUS 1 3))) ∧
  (∀ (arrivals : List (Nat × Nat)) (clocks lanes : Nat) (s : State),
    (s.dev.hubOn = true →
      let new := (arrivals.filter (fun a => decide (a.2 ≤ 4))).map (fun a => { src := a.1, cls := a.2, waited := 0 : XbarReq })
      let wait := (s.dev.qmg.xbar ++ new).map (fun (r : XbarReq) => { r with waited := r.waited + clocks })
      Gives (.crossbarPromote arrivals clocks lanes) s (xbarGrants (min lanes 8) { s.dev with qmg := { s.dev.qmg with xbar := wait } })) ∧
    (s.dev.hubOn = false → Gives (.crossbarPromote arrivals clocks lanes) s s.dev)) ∧
  (∀ (n : Nat) (d : Device) (older later : List XbarReq) (r : XbarReq), d.qmg.xbar = older ++ r :: later → xbarClass r ≤ 4 →
    (∀ x ∈ older, xbarClass r < xbarClass x) → (∀ x ∈ later, xbarClass r ≤ xbarClass x) →
    xbarGrants (n + 1) d = xbarGrants n ({ d with qmg := { d.qmg with xbar := older ++ later } }.emit (.xbarGrant r.src (xbarClass r)))) ∧
  (∀ r : XbarReq, (4096 ≤ r.waited → xbarClass r = 0) ∧ (r.waited < 4096 → xbarClass r = r.cls)) ∧
  (∀ (hits : AMap Nat) (e : Nat), bestHit hits = some e →
    ∃ n, (e, n) ∈ hits ∧ ∀ p ∈ hits, p.2 ≤ n) ∧
  (∀ d : Device, d.wantMv ≥ d.age.canary + d.fld Fld.AGE_VCORE_SRAM_GUARD_MV ∧
    (d.fld Fld.AGE_PATH_HUB_PS < d.fld Fld.AGE_PATH_SLACK_REQ → d.sup.avsMv / 1000 < d.wantMv))

/-! ### The Trellis -/

/-- Trellis frames that this device takes (R488–R498, R500–R502): each acts on the device that has taken it; a HELLO that disagrees holds its port
down; frames that do not reach it change nothing. The timers, ports and devices of the Trellis (R486, R488, R490, R491, R496, R498). -/
def Obligations.TrellisCommands : Prop :=
  ((∀ (f : TrlIn) (d : Device) (s : State),
    (∀ mode n stripe pair cap : Nat, ∀ shared : Bool,
      s.dev.takesTrl f { kind := "HELLO", args := helloArgs mode n stripe shared pair cap } d = true → mode = s.dev.trl.mode → n = s.dev.trl.n →
      stripe = s.dev.trl.stripe → shared = s.dev.flag Fld.TRL_CFG_SHARED_BANK → pair = s.dev.pair Reg.MIR_PAIR_LO →
      Gives (.trlHello f mode n stripe shared pair cap) s (((d.updDev f.src (fun x => { x with seen := true, cap := cap })).formGo).settle)) ∧
    (∀ mode n stripe pair cap : Nat, ∀ shared : Bool, s.dev.trlOn = true → s.dev.trlPortUp f.port = true → f.crc = true → mode ≠ s.dev.trl.mode →
      Gives (.trlHello f mode n stripe shared pair cap) s (s.dev.trlMismatch f.port)) ∧
    (∀ upTo, s.dev.takesTrl f { kind := "ACK", args := [upTo, 0] } d = true →
      let e := d.updDev f.src (fun x => { x with unacked := x.unacked.filter (fun y => decide (upTo < y.pseq)) })
      let left := e.trl.bcSent.map (fun (p : TrlFrame × List Nat) => (p.1, p.2.filter (fun i => decide (i ≠ f.src))))
      Gives (.trlAck f upTo) s (e.setTrl { e.trl with bcSent := left.filter (fun (p : TrlFrame × List Nat) => !p.2.isEmpty) })) ∧
    (∀ t err, s.dev.takesTrl f { kind := "TIME", args := [t, 0] } d = true →
      let e := d.setTrl { d.trl with timeOff := (t + 2 ^ 64 - 1000 * d.now % 2 ^ 64) % 2 ^ 64 }
      let e := e.setFld Fld.TRL_TIME_ERR_NS (max (e.fld Fld.TRL_TIME_ERR_NS) (min err 65535))
      (f.src ≠ 0 → Gives (.trlTime f t err) s d) ∧
      (f.src = 0 → err ≤ 50 → Gives (.trlTime f t err) s e) ∧
      (f.src = 0 → 50 < err → Gives (.trlTime f t err) s (e.raise Reg.TRL_INT_STATUS 4 4))) ∧
    (∀ n, s.dev.takesTrl f { kind := "VCLK", args := [n, 0] } d = true → f.src = 0 → d.cascadeShared = true → Gives (.trlVclk f n) s (d.closeVint n).settle) ∧
    (∀ n, s.dev.takesTrl f { kind := "MARK", args := [n, 0] } d = true →
      let e := d.updDev f.src (fun x => { x with markN := max x.markN n })
      (e.cascadeShared = true → Gives (.trlMark f n) s (sealClosed (e.trl.closing.length + 1) e).settle) ∧
      (e.cascadeShared = false → Gives (.trlMark f n) s e)) ∧
    (∀ n acked dist, s.dev.takesTrl f { kind := "SEALED", args := [n, acked * 2 ^ 32 + dist] } d = true →
      let e := d.updDev f.src (fun x => { x with sealedN := max x.sealedN n, ackedN := max x.ackedN acked, commitN := max x.commitN (n - dist) })
      (e.cascadeShared = true → e.cascadeMaster = true → Gives (.trlSealed f n acked dist) s e.decideCommit.settle) ∧
      (e.cascadeMaster = false → Gives (.trlSealed f n acked dist) s e)) ∧
    (∀ n m, s.dev.takesTrl f { kind := "COMMIT", args := [n, m] } d = true → f.src = 0 → d.cascadeShared = true →
      Gives (.trlCommit f n m) s ((d.takeCommit n m).reportSealed).settle) ∧
    (∀ n source rec, s.dev.takesTrl f { kind := "PIECE", args := [n, source], recs := [rec], bytes := recordBytes rec ++ atomBytes none } d = true →
      d.cascadeShared = true →
      let v := d.recordOf { src := .remote f.src source, tok := .none, path := .device, acc := .write, cask := rec.cask, off := rec.off,
                            op := if rec.zero then .zero rec.len else .data rec.bytes, more := .data [], policy := rec.policy, heldAt := d.now }
      Gives (.trlPiece f n source rec none) s (d.takePart n v).settle) ∧
    (∀ n source rec a, s.dev.takesTrl f { kind := "PIECE", args := [n, source], recs := [rec], bytes := recordBytes rec ++ atomBytes (some a) } d = true →
      d.cascadeShared = true →
      let v := d.recordOf { src := .remote f.src source, tok := .none, path := .device, acc := .write, cask := rec.cask, off := rec.off,
                            op := if a.cas then .cas a.width a.arg a.swap else .fadd a.arg, more := .data [], policy := rec.policy, heldAt := d.now }
      Gives (.trlPiece f n source rec (some a)) s
        ((d.takePart n v).trlSend f.src "READ_DATA" (readDataArgs 0 stOk a.tag) [] (leBytes 16 v.result)).settle) ∧
    (∀ snap tag cask off len source, s.dev.takesTrl f (readBody snap tag (.ask cask off len source)) d = true → d.cascadeShared = true →
      let r : ReadReq := { src := .remote f.src source, tok := .trl f.src tag, cask := cask, off := off, len := len, snap := snap,
                           use := .trlResp f.src tag, data := d.readBytes (.remote f.src source) snap cask off len,
                           redo := (List.range len).filter (fun i => d.pageRefetch cask ((off + i) / 65536) ((off + i) % 65536 / 4096)) }
      Gives (.trlRead f snap tag (.ask cask off len source)) s (d.tryRead r).settle) ∧
    (∀ snap tag pos st bytes, s.dev.takesTrl f (readBody snap tag (.data pos st bytes)) d = true → d.trl.atoms.find? tag = none →
      (d.trl.reads.find? tag = none → Gives (.trlRead f snap tag (.data pos st bytes)) s d) ∧
      (∀ r, d.trl.reads.find? tag = some r →
        let got := spliceBytes r.data pos bytes
        let e := d.setTrl { d.trl with reads := d.trl.reads.del tag }
        (st = stOk → got.length < r.len → Gives (.trlRead f snap tag (.data pos st bytes)) s
          (d.setTrl { d.trl with reads := d.trl.reads.put tag { r with data := got } })) ∧
        (st = stOk → r.len ≤ got.length → Gives (.trlRead f snap tag (.data pos st bytes)) s (e.deliverBytes r got false).settle) ∧
        (st ≠ stOk → Gives (.trlRead f snap tag (.data pos st bytes)) s (e.deliverBytes r [] true).settle))) ∧
    (∀ start epoch role, s.dev.takesTrl f { kind := "LEASE", args := [start, epoch * 2 ^ 32 + role] } d = true →
      (f.src ≠ 0 ∨ epoch < d.mir.epoch → Gives (.trlLease f start epoch role) s d) ∧
      (f.src = 0 → d.mir.epoch ≤ epoch →
        Gives (.trlLease f start epoch role) s
          (((d.setMir { d.mir with epoch := epoch, chainOpen := d.mir.chainOpen || decide (d.mir.epoch < epoch) }).takeRole (roleOf role) start).settle))) ∧
    (∀ dirty cMf esr dp limit high freeKib wbRate admState : Nat,
      let b : Budget := { dirtyPages := dp, limit := limit, high := high, freeKib := freeKib, wbRate := wbRate, admState := admState }
      s.dev.takesTrl f { kind := "STATUS", args := statusArgs dirty cMf esr, bytes := budgetBytes b } d = true →
      f.src ≠ 0 ∨ d.flag Fld.TRL_CFG_SHARED_BANK = false ∨ cMf = 0 →
      Gives (.trlStatus f dirty cMf esr dp limit high freeKib wbRate admState) s
        ((d.updDev f.src (fun x => { x with dirty := dirty, cMf := cMf, esr := esr, budget := some b, statusAt := d.now })).reevalAdmit).settle) ∧
    (∀ n op home, s.dev.takesTrl f { kind := "META", args := [n, home], recs := [metaRec op false], bytes := recordBytes (metaRec op false) } d = true →
      f.src = 0 → d.cascadeShared = true →
      let e := match op with
        | .caskCreate id _ => if d.trl.mode = 2 then d.putHome id home else d
        | _ => d
      Gives (.trlMeta f n op home) s
        (e.takePart n { src := .device, tok := .none, wire := metaRec op false, result := 0, charge := 0, size := 64, released := false }).settle) ∧
    (∀ n op home, s.dev.takesTrl f { kind := "META", args := [n, home], recs := [metaRec op false], bytes := recordBytes (metaRec op false) } d = true →
      f.src ≠ 0 ∨ d.cascadeShared = false → Gives (.trlMeta f n op home) s d) ∧
    (∀ action arg nums, s.dev.takesTrl f { kind := "CTRL", args := [action, arg], bytes := ctlBytes nums } d = true → Gives (.trlCtrl f action arg nums) s (d.takeCtrl f.src action arg nums).settle)) ∧
  (∀ (f : TrlIn) (n m : Nat) (s : State), s.dev.trlReaches f = false →
    Gives (.trlAck f n) s s.dev ∧ Gives (.trlVclk f n) s s.dev ∧ Gives (.trlMark f n) s s.dev ∧ Gives (.trlCommit f n m) s s.dev ∧
    Gives (.trlCtrl f n m []) s s.dev)) ∧
  ((∀ (port : Nat) (s : State), s.dev.trlOn = true → s.dev.trlPortUp port = true →
    Gives (.trlHelloTimer port) s (s.dev.trlOut port "HELLO" 255 s.dev.trl.id (s.dev.trl.n - 1) s.dev.trl.bcSeq
      (helloArgs s.dev.trl.mode s.dev.trl.n s.dev.trl.stripe (s.dev.flag Fld.TRL_CFG_SHARED_BANK) (s.dev.pair Reg.MIR_PAIR_LO) s.dev.csk.capRacks) [] [])) ∧
  (∀ s : State, s.dev.trlOn = true → s.dev.trl.formed = false → s.dev.others = [] → Gives .trlAckTimer s s.dev) ∧
  (∀ s : State, s.dev.trlOn = true →
    let d := s.dev.others.foldl (fun (d : Device) i => if (d.trlDev i).seen then d.trlSend i "ACK" [(d.trlDev i).rxSeq, 0] else d) s.dev
    d.trl.formed = true → Gives .trlAckTimer s
      (d.trlSend 255 "STATUS" (statusArgs d.dirtyPages (d.fld Fld.SUP_HU_MEAS_C_C_MF) (d.fld Fld.SUP_HU_MEAS_ESR_ESR_UOHM)) []
        (budgetBytes d.budgetBlock))) ∧
  (∀ s : State, s.dev.trlOn = true →
    (s.dev.cascadeMaster = true → Gives .trlTimeTimer s (s.dev.trlSend 255 "TIME" [s.dev.cascadeTime, 0])) ∧
    (s.dev.cascadeMaster = false → Gives .trlTimeTimer s s.dev) ∧
    (s.dev.trl.formed = false → s.dev.trl.late = false →
      let d := s.dev.waitUntil (s.dev.trl.startAt + 1000000 * s.dev.fld Fld.TRL_TIMERS_FORM_S)
      Gives .trlFormTimeout s ((d.setTrl { d.trl with late := true }).eventR 5 trlBlk 488)) ∧
    (s.dev.trl.formed = true → Gives .trlFormTimeout s s.dev) ∧
    (∀ port p, s.dev.trl.ports.find? port = some p →
      (p.up = true → Gives (.trlPortDown port) s ((s.dev.waitUntil (p.lastAt + 200)).trlFail port)) ∧
      (p.up = false → Gives (.trlPortDown port) s s.dev)) ∧
    (∀ dev, s.dev.trl.formed = true → s.dev.others.contains dev = true → (s.dev.trlDev dev).lost = false →
      let d := s.dev.waitUntil ((s.dev.trlDev dev).lastAt + s.dev.fld Fld.TRL_TIMERS_LOST_US)
      let e := (d.updDev dev (fun x => { x with lost := true })).raise Reg.TRL_INT_STATUS 2 5
      (e.cascadeMaster = true → Gives (.trlDeviceLost dev) s (e.enterFenced 5).reevalAdmit.settle) ∧
      (e.cascadeMaster = false → Gives (.trlDeviceLost dev) s e.reevalAdmit.settle)) ∧
    (∀ port peer, port < 4 → s.dev.trl.ports.find? port = none → s.dev.sup.plls.contains 3 = true →
      let cut := s.dev.others.filter (fun i => (s.dev.trlPort i).isNone)
      Gives (.trlPortUp port peer) s
        ((s.dev.setTrl { s.dev.trl with ports := s.dev.trl.ports.put port { up := true, peer := peer % 8, lastAt := s.dev.now, held := false } }).trlResend
          (fun i => cut.contains i))) ∧
    (∀ port peer p, s.dev.trl.ports.find? port = some p → p.held = true → Gives (.trlPortUp port peer) s s.dev)) ∧
  (∀ s : State, s.dev.trlOn = false → Gives .trlAckTimer s s.dev ∧ Gives .trlTimeTimer s s.dev ∧ Gives .trlFormTimeout s s.dev))
end

