-- ==== Sys2Proof/Laws/Maps.lean ====
section
/-! SUPPORT. Sparse maps: a read after a write, and that every operation keeps the canonical form. -/

namespace Sys2Proof.Machine
namespace AMap
variable {α : Type}

/-! ### A read after a write -/

theorem find?_put (m : AMap α) (k : Nat) (v : α) (x : Nat) : (m.put k v).find? x = if x = k then some v else m.find? x := by
  induction m with
  | nil => simp [put, find?]
  | cons p m ih =>
    obtain ⟨a, b⟩ := p
    unfold put
    by_cases h1 : k < a
    · simp [h1, find?]
    · by_cases h2 : k = a
      · subst h2
        by_cases h3 : x = k <;> simp [find?, h3]
      · rw [if_neg h1, if_neg h2]
        simp only [find?, ih]
        by_cases h3 : x = a
        · subst h3; simp [Ne.symm h2]
        · simp [h3]

@[simp] theorem find?_put_same (m : AMap α) (k : Nat) (v : α) : (m.put k v).find? k = some v := by simp [find?_put]

theorem find?_put_ne (m : AMap α) {k x : Nat} (v : α) (h : x ≠ k) : (m.put k v).find? x = m.find? x := by simp [find?_put, h]

theorem find?_del_ne (m : AMap α) {k x : Nat} (h : x ≠ k) : (m.del k).find? x = m.find? x := by
  induction m with
  | nil => rfl
  | cons p m ih =>
    obtain ⟨a, b⟩ := p
    unfold del
    by_cases h1 : k = a
    · subst h1; simp [find?, h]
    · rw [if_neg h1]; simp only [find?, ih]

/-! ### Keys in rising order -/

theorem keysAbove_mono {m : AMap α} {a b : Nat} (h : a ≤ b) (hm : keysAbove b m = true) : keysAbove a m = true := by
  cases m with
  | nil => rfl
  | cons p m =>
    simp only [keysAbove, Bool.and_eq_true, decide_eq_true_eq] at hm ⊢
    exact ⟨by omega, hm.2⟩

theorem find?_keysAbove {m : AMap α} {a x : Nat} (h : x ≤ a) (hm : keysAbove a m = true) : m.find? x = none := by
  induction m generalizing a with
  | nil => rfl
  | cons p m ih =>
    simp only [keysAbove, Bool.and_eq_true, decide_eq_true_eq] at hm
    have h1 : x ≠ p.1 := by omega
    simp [find?, h1, ih (by omega) hm.2]

theorem keysAbove_put {m : AMap α} {a k : Nat} {v : α} (h : a < k) (hm : keysAbove a m = true) : keysAbove a (m.put k v) = true := by
  induction m generalizing a with
  | nil => simp [put, keysAbove, h]
  | cons p m ih =>
    simp only [keysAbove, Bool.and_eq_true, decide_eq_true_eq] at hm
    unfold put
    by_cases h1 : k < p.1
    · simp [h1, keysAbove, h, hm.2]
    · by_cases h2 : k = p.1
      · simp [h2, keysAbove, hm.1, hm.2]
      · rw [if_neg h1, if_neg h2]
        simp [keysAbove, hm.1, ih (show p.1 < k by omega) hm.2]

theorem keysAbove_del {m : AMap α} {a k : Nat} (hm : keysAbove a m = true) : keysAbove a (m.del k) = true := by
  induction m generalizing a with
  | nil => rfl
  | cons p m ih =>
    simp only [keysAbove, Bool.and_eq_true, decide_eq_true_eq] at hm
    unfold del
    by_cases h : k = p.1
    · simp only [h, if_true]; exact keysAbove_mono (by omega) hm.2
    · simp [h, keysAbove, hm.1, ih hm.2]

theorem keysAbove_of_sorted {p : Nat × α} {m : AMap α} (h : sorted (p :: m) = true) : keysAbove p.1 m = true := h

theorem sorted_tail {p : Nat × α} {m : AMap α} (h : sorted (p :: m) = true) : sorted m = true := by
  cases m with
  | nil => rfl
  | cons q m =>
    have h := keysAbove_of_sorted h
    simp only [keysAbove, Bool.and_eq_true] at h
    exact h.2

theorem sorted_put {m : AMap α} {k : Nat} {v : α} (h : sorted m = true) : sorted (m.put k v) = true := by
  cases m with
  | nil => rfl
  | cons p m =>
    have hk := keysAbove_of_sorted h
    unfold put
    by_cases h1 : k < p.1
    · simp [h1, sorted, keysAbove, hk]
    · by_cases h2 : k = p.1
      · simp [h2, sorted, hk]
      · rw [if_neg h1, if_neg h2]
        exact keysAbove_put (show p.1 < k by omega) hk

theorem sorted_del {m : AMap α} {k : Nat} (h : sorted m = true) : sorted (m.del k) = true := by
  cases m with
  | nil => rfl
  | cons p m =>
    have hk := keysAbove_of_sorted h
    unfold del
    by_cases h2 : k = p.1
    · simpa [h2] using sorted_tail h
    · rw [if_neg h2]
      exact keysAbove_del hk

theorem find?_del_same {m : AMap α} {k : Nat} (h : sorted m = true) : (m.del k).find? k = none := by
  induction m with
  | nil => rfl
  | cons p m ih =>
    have hk := keysAbove_of_sorted h
    unfold del
    by_cases h1 : k = p.1
    · simpa [h1] using find?_keysAbove (Nat.le_refl _) hk
    · simp [h1, find?, ih (sorted_tail h)]

theorem keysAbove_filter {m : AMap α} {a : Nat} (f : Nat × α → Bool) (hm : keysAbove a m = true) : keysAbove a (m.filter f) = true := by
  induction m generalizing a with
  | nil => rfl
  | cons p m ih =>
    simp only [keysAbove, Bool.and_eq_true, decide_eq_true_eq] at hm
    rw [List.filter_cons]
    split
    · simp [keysAbove, hm.1, ih hm.2]
    · exact keysAbove_mono (by omega) (ih hm.2)

theorem sorted_filter {m : AMap α} (f : Nat × α → Bool) (h : sorted m = true) : sorted (m.filter f) = true := by
  induction m with
  | nil => rfl
  | cons p m ih =>
    rw [List.filter_cons]
    split
    · exact keysAbove_filter f (keysAbove_of_sorted h)
    · exact ih (sorted_tail h)

/-- Every key of `m` is below `n`. -/
def keysBelow (n : Nat) (m : AMap α) : Bool := m.all (fun p => decide (p.1 < n))

theorem keysAbove_append {a n : Nat} {m k : AMap α} (hm : keysAbove a m = true) (ha : a < n) (hb : keysBelow n m = true)
    (hk : sorted k = true) (hlo : k.all (fun p => decide (n ≤ p.1)) = true) : keysAbove a (m ++ k) = true := by
  induction m generalizing a with
  | nil =>
    cases k with
    | nil => rfl
    | cons q k =>
      simp only [List.all_cons, Bool.and_eq_true, decide_eq_true_eq] at hlo
      simp only [List.nil_append, keysAbove, Bool.and_eq_true, decide_eq_true_eq]
      exact ⟨by omega, keysAbove_of_sorted hk⟩
  | cons p m ih =>
    simp only [keysAbove, Bool.and_eq_true, decide_eq_true_eq] at hm
    simp only [keysBelow, List.all_cons, Bool.and_eq_true, decide_eq_true_eq] at hb
    simp only [List.cons_append, keysAbove, Bool.and_eq_true, decide_eq_true_eq]
    exact ⟨hm.1, ih hm.2 hb.1 (by unfold keysBelow; exact hb.2)⟩

theorem sorted_append {n : Nat} {m k : AMap α} (hm : sorted m = true) (hb : keysBelow n m = true) (hk : sorted k = true)
    (hlo : k.all (fun p => decide (n ≤ p.1)) = true) : sorted (m ++ k) = true := by
  cases m with
  | nil => exact hk
  | cons p m =>
    simp only [keysBelow, List.all_cons, Bool.and_eq_true, decide_eq_true_eq] at hb
    exact keysAbove_append (keysAbove_of_sorted hm) hb.1 (by unfold keysBelow; exact hb.2) hk hlo

/-! ### Maps with a default -/

theorem getD_setD [DecidableEq α] {dflt : Nat → α} {m : AMap α} (k : Nat) (v : α) (x : Nat) (h : sorted m = true) :
    getD dflt (setD dflt m k v) x = if x = k then v else getD dflt m x := by
  unfold setD getD
  by_cases hv : v = dflt k
  · rw [if_pos hv]
    by_cases hx : x = k
    · subst hx; simp [find?_del_same h, hv]
    · simp [find?_del_ne m hx, hx]
  · rw [if_neg hv, find?_put]
    by_cases hx : x = k <;> simp [hx]

theorem sorted_of_wf [DecidableEq α] {dflt : Nat → α} {m : AMap α} (h : wf dflt m = true) : sorted m = true := by
  simp only [wf, Bool.and_eq_true] at h
  exact h.1

theorem all_del {m : AMap α} {k : Nat} {f : Nat × α → Bool} (h : m.all f = true) : (m.del k).all f = true := by
  induction m with
  | nil => rfl
  | cons p m ih =>
    simp only [List.all_cons, Bool.and_eq_true] at h
    unfold del
    split
    · exact h.2
    · simp [h.1, ih h.2]

theorem all_put {m : AMap α} {k : Nat} {v : α} {f : Nat × α → Bool} (h : m.all f = true) (hv : f (k, v) = true) : (m.put k v).all f = true := by
  induction m with
  | nil => simp [put, hv]
  | cons p m ih =>
    simp only [List.all_cons, Bool.and_eq_true] at h
    unfold put
    split
    · simp [h.1, h.2, hv]
    · split
      · next h2 => subst h2; simp [hv, h.2]
      · simp [h.1, ih h.2]

theorem wf_setD [DecidableEq α] {dflt : Nat → α} {m : AMap α} {k : Nat} {v : α} (h : wf dflt m = true) : wf dflt (setD dflt m k v) = true := by
  simp only [wf, Bool.and_eq_true] at h
  unfold setD
  split
  · simp only [wf, Bool.and_eq_true]
    exact ⟨sorted_del h.1, all_del h.2⟩
  · next hv =>
    simp only [wf, Bool.and_eq_true]
    exact ⟨sorted_put h.1, all_put h.2 (by simpa using hv)⟩

theorem wf_filter [DecidableEq α] {dflt : Nat → α} {m : AMap α} (f : Nat × α → Bool) (h : wf dflt m = true) : wf dflt (m.filter f) = true := by
  simp only [wf, Bool.and_eq_true] at h ⊢
  refine ⟨sorted_filter f h.1, ?_⟩
  rw [List.all_eq_true] at h ⊢
  exact fun p hp => h.2 p (List.mem_filter.1 hp).1

end AMap
end Sys2Proof.Machine
end

