-- ==== Sys2Proof/Laws/Memory.lean ====
section
/-! SUPPORT. Memory: every operation that writes it keeps its canonical form, and what a byte reads as afterwards. -/

namespace Sys2Proof.Machine

theorem runCells_above (k a : Nat) (bs : List Byte) (h : k ≤ a) : (runCells a bs).all (fun p => decide (k ≤ p.1)) = true := by
  induction bs generalizing a with
  | nil => rfl
  | cons b bs ih =>
    unfold runCells
    split
    · exact ih (a + 1) (by omega)
    · simp [h, ih (a + 1) (by omega)]

theorem runCells_below (a : Nat) (bs : List Byte) : AMap.keysBelow (a + bs.length) (runCells a bs) = true := by
  induction bs generalizing a with
  | nil => rfl
  | cons b bs ih =>
    have e : a + (b :: bs).length = a + 1 + bs.length := by simp only [List.length_cons]; omega
    unfold runCells
    rw [e]
    split
    · exact ih (a + 1)
    · have h := ih (a + 1)
      unfold AMap.keysBelow at h ⊢
      simp only [List.all_cons, Bool.and_eq_true, decide_eq_true_eq]
      exact ⟨by omega, h⟩

theorem keysAbove_runCells (k a : Nat) (bs : List Byte) (h : k < a) : AMap.keysAbove k (runCells a bs) = true := by
  induction bs generalizing k a with
  | nil => rfl
  | cons b bs ih =>
    unfold runCells
    split
    · exact ih k (a + 1) (by omega)
    · simp [AMap.keysAbove, h, ih a (a + 1) (by omega)]

theorem sorted_runCells (a : Nat) (bs : List Byte) : AMap.sorted (runCells a bs) = true := by
  induction bs generalizing a with
  | nil => rfl
  | cons b bs ih =>
    unfold runCells
    split
    · exact ih (a + 1)
    · exact keysAbove_runCells a (a + 1) bs (by omega)

theorem runCells_listed (a : Nat) (bs : List Byte) : (runCells a bs).all (fun p => decide (p.2 ≠ memDflt p.1)) = true := by
  induction bs generalizing a with
  | nil => rfl
  | cons b bs ih =>
    unfold runCells
    split
    · exact ih (a + 1)
    · next h => simp only [List.all_cons, Bool.and_eq_true, decide_eq_true_eq]; exact ⟨h, ih (a + 1)⟩

/-- Cells put in place of [a, a + n) keep the form when they lie in it, in the form themselves. -/
theorem wf_splice {m cs : List Host.Cell} {a n : Nat} (hm : AMap.wf memDflt m = true) (hc : AMap.wf memDflt cs = true)
    (hlo : cs.all (fun p => decide (a ≤ p.1)) = true) (hhi : AMap.keysBelow (a + n) cs = true) :
    AMap.wf memDflt (spliceCells m a n cs) = true := by
  simp only [AMap.wf, Bool.and_eq_true] at hm hc
  unfold spliceCells
  simp only [AMap.wf, Bool.and_eq_true, List.all_append]
  have below : AMap.keysBelow a (m.filter (fun p => decide (p.1 < a))) = true := by
    unfold AMap.keysBelow
    rw [List.all_eq_true]
    intro p hp
    exact (List.mem_filter.1 hp).2
  have lower : AMap.sorted (m.filter (fun p => decide (p.1 < a)) ++ cs) = true :=
    AMap.sorted_append (AMap.sorted_filter _ hm.1) below hc.1 hlo
  have keep : ∀ f : Host.Cell → Bool, (m.filter f).all (fun p => decide (p.2 ≠ memDflt p.1)) = true := by
    intro f
    rw [List.all_eq_true]
    intro p hp
    exact (List.all_eq_true.1 hm.2) p (List.mem_filter.1 hp).1
  refine ⟨AMap.sorted_append (n := a + n) lower ?_ (AMap.sorted_filter _ hm.1) ?_, ⟨keep _, hc.2⟩, keep _⟩
  · unfold AMap.keysBelow at below hhi ⊢
    rw [List.all_append, Bool.and_eq_true]
    refine ⟨?_, hhi⟩
    rw [List.all_eq_true] at below ⊢
    intro p hp
    have := below p hp
    simp only [decide_eq_true_eq] at this ⊢
    omega
  · rw [List.all_eq_true]
    intro p hp
    exact (List.mem_filter.1 hp).2

theorem keysAbove_shift {m : List Host.Cell} {k src dst : Nat} (hk : AMap.keysAbove k m = true) (hs : m.all (fun p => decide (src ≤ p.1)) = true)
    (h : src ≤ k) : AMap.keysAbove (k - src + dst) (m.map (fun p => (p.1 - src + dst, p.2))) = true := by
  induction m generalizing k with
  | nil => rfl
  | cons p m ih =>
    simp only [AMap.keysAbove, Bool.and_eq_true, decide_eq_true_eq] at hk
    simp only [List.all_cons, Bool.and_eq_true, decide_eq_true_eq] at hs
    simp only [List.map_cons, AMap.keysAbove, Bool.and_eq_true, decide_eq_true_eq]
    exact ⟨by omega, ih hk.2 hs.2 hs.1⟩

/-- The cells of a run, moved, keep the form. -/
theorem wf_shift {m : List Host.Cell} (src dst n : Nat) (hm : AMap.wf memDflt m = true) : AMap.wf memDflt (shiftCells m src dst n) = true := by
  have h := AMap.wf_filter (fun p : Nat × Byte => decide (src ≤ p.1 ∧ p.1 < src + n)) hm
  unfold shiftCells
  have hs : (m.filter (fun p : Nat × Byte => decide (src ≤ p.1 ∧ p.1 < src + n))).all (fun p => decide (src ≤ p.1)) = true := by
    rw [List.all_eq_true]
    intro p hp
    have := (List.mem_filter.1 hp).2
    simp only [decide_eq_true_eq] at this ⊢
    exact this.1
  generalize m.filter (fun p : Nat × Byte => decide (src ≤ p.1 ∧ p.1 < src + n)) = l at h hs ⊢
  simp only [AMap.wf, Bool.and_eq_true] at h ⊢
  refine ⟨?_, ?_⟩
  · cases l with
    | nil => rfl
    | cons p l =>
      simp only [List.all_cons, Bool.and_eq_true, decide_eq_true_eq] at hs
      exact keysAbove_shift h.1 hs.2 hs.1
  · rw [List.all_map]
    exact h.2

theorem shift_above (m : List Host.Cell) (src dst n : Nat) : (shiftCells m src dst n).all (fun p => decide (dst ≤ p.1)) = true := by
  unfold shiftCells
  rw [List.all_map, List.all_eq_true]
  intro p _
  simp only [Function.comp, decide_eq_true_eq]
  omega

theorem shift_below (m : List Host.Cell) (src dst n : Nat) : AMap.keysBelow (dst + n) (shiftCells m src dst n) = true := by
  unfold shiftCells AMap.keysBelow
  rw [List.all_map, List.all_eq_true]
  intro p hp
  have := (List.mem_filter.1 hp).2
  simp only [Function.comp, decide_eq_true_eq] at this ⊢
  omega

namespace Device

/-- The canonical form of the memory of a device. -/
def memForm (d : Device) : Prop := AMap.wf memDflt d.mem = true

theorem memForm_setBytes {d : Device} (k : Nat) (bs : List Byte) (h : d.memForm) : (d.setBytes k bs).memForm :=
  wf_splice h (by simp only [AMap.wf, Bool.and_eq_true]; exact ⟨sorted_runCells k bs, runCells_listed k bs⟩) (runCells_above k k bs (Nat.le_refl k))
    (runCells_below k bs)

theorem memForm_clearBytes {d : Device} (a n : Nat) (h : d.memForm) : (d.clearBytes a n).memForm := wf_splice h rfl rfl rfl

theorem memForm_copyBytes {d : Device} (src dst n : Nat) (h : d.memForm) : (d.copyBytes src dst n).memForm :=
  wf_splice h (wf_shift src dst n h) (shift_above d.mem src dst n) (shift_below d.mem src dst n)

theorem memForm_reset : Device.reset.memForm := rfl

/-- The canonical form of the register file of a device. -/
def regForm (d : Device) : Prop := AMap.wf regDflt d.regs = true

theorem regForm_setReg {d : Device} (off : Nat) (v : Word) (inst : Nat) (h : d.regForm) : (d.setReg off v inst).regForm := AMap.wf_setD h

theorem regForm_reset : Device.reset.regForm := rfl

/-- A register reads what was put into it; every other register and instance as before. -/
theorem reg_setReg {d : Device} (h : d.regForm) (off : Nat) (v : Word) (inst o i : Nat) :
    (d.setReg off v inst).reg o i = if rkey i o = rkey inst off then v else d.reg o i :=
  AMap.getD_setD (rkey inst off) v (rkey i o) (AMap.sorted_of_wf h)

end Device
end Sys2Proof.Machine
end

