-- ==== Sys2Proof/Laws/State.lean ====
section
/-! SUPPORT. The fields of State under each plain update: what it sets reads back, and every other field is as it was; so that no proof
unfolds a record update. -/

namespace Sys2Proof.Machine
namespace Device

/-! ### setReg -/

@[simp] theorem setReg_latches (d : Device) (off : Nat) (v : Word) (inst : Nat) : (d.setReg off v inst).latches = d.latches := (rfl)
@[simp] theorem setReg_mem (d : Device) (off : Nat) (v : Word) (inst : Nat) : (d.setReg off v inst).mem = d.mem := (rfl)
@[simp] theorem setReg_now (d : Device) (off : Nat) (v : Word) (inst : Nat) : (d.setReg off v inst).now = d.now := (rfl)
@[simp] theorem setReg_usecBase (d : Device) (off : Nat) (v : Word) (inst : Nat) : (d.setReg off v inst).usecBase = d.usecBase := (rfl)
@[simp] theorem setReg_freeCtr (d : Device) (off : Nat) (v : Word) (inst : Nat) : (d.setReg off v inst).freeCtr = d.freeCtr := (rfl)
@[simp] theorem setReg_out (d : Device) (off : Nat) (v : Word) (inst : Nat) : (d.setReg off v inst).out = d.out := (rfl)
@[simp] theorem setReg_i3cPtr (d : Device) (off : Nat) (v : Word) (inst : Nat) : (d.setReg off v inst).i3cPtr = d.i3cPtr := (rfl)
@[simp] theorem setReg_i3cForm (d : Device) (off : Nat) (v : Word) (inst : Nat) : (d.setReg off v inst).i3cForm = d.i3cForm := (rfl)
@[simp] theorem setReg_i3cIbi (d : Device) (off : Nat) (v : Word) (inst : Nat) : (d.setReg off v inst).i3cIbi = d.i3cIbi := (rfl)
@[simp] theorem setReg_hubOn (d : Device) (off : Nat) (v : Word) (inst : Nat) : (d.setReg off v inst).hubOn = d.hubOn := (rfl)
@[simp] theorem setReg_evr (d : Device) (off : Nat) (v : Word) (inst : Nat) : (d.setReg off v inst).evr = d.evr := (rfl)
@[simp] theorem setReg_hrg (d : Device) (off : Nat) (v : Word) (inst : Nat) : (d.setReg off v inst).hrg = d.hrg := (rfl)
@[simp] theorem setReg_pst (d : Device) (off : Nat) (v : Word) (inst : Nat) : (d.setReg off v inst).pst = d.pst := (rfl)
@[simp] theorem setReg_csk (d : Device) (off : Nat) (v : Word) (inst : Nat) : (d.setReg off v inst).csk = d.csk := (rfl)
@[simp] theorem setReg_hold (d : Device) (off : Nat) (v : Word) (inst : Nat) : (d.setReg off v inst).hold = d.hold := (rfl)
@[simp] theorem setReg_adm (d : Device) (off : Nat) (v : Word) (inst : Nat) : (d.setReg off v inst).adm = d.adm := (rfl)
@[simp] theorem setReg_rst (d : Device) (off : Nat) (v : Word) (inst : Nat) : (d.setReg off v inst).rst = d.rst := (rfl)
@[simp] theorem setReg_mir (d : Device) (off : Nat) (v : Word) (inst : Nat) : (d.setReg off v inst).mir = d.mir := (rfl)
@[simp] theorem setReg_qmg (d : Device) (off : Nat) (v : Word) (inst : Nat) : (d.setReg off v inst).qmg = d.qmg := (rfl)
@[simp] theorem setReg_sup (d : Device) (off : Nat) (v : Word) (inst : Nat) : (d.setReg off v inst).sup = d.sup := (rfl)
@[simp] theorem setReg_profiles (d : Device) (off : Nat) (v : Word) (inst : Nat) : (d.setReg off v inst).profiles = d.profiles := (rfl)
@[simp] theorem setReg_cph (d : Device) (off : Nat) (v : Word) (inst : Nat) : (d.setReg off v inst).cph = d.cph := (rfl)
@[simp] theorem setReg_fws (d : Device) (off : Nat) (v : Word) (inst : Nat) : (d.setReg off v inst).fws = d.fws := (rfl)
@[simp] theorem setReg_age (d : Device) (off : Nat) (v : Word) (inst : Nat) : (d.setReg off v inst).age = d.age := (rfl)
@[simp] theorem setReg_trl (d : Device) (off : Nat) (v : Word) (inst : Nat) : (d.setReg off v inst).trl = d.trl := (rfl)
@[simp] theorem setReg_net (d : Device) (off : Nat) (v : Word) (inst : Nat) : (d.setReg off v inst).net = d.net := (rfl)
@[simp] theorem setReg_pdt (d : Device) (off : Nat) (v : Word) (inst : Nat) : (d.setReg off v inst).pdt = d.pdt := (rfl)
@[simp] theorem setReg_drm (d : Device) (off : Nat) (v : Word) (inst : Nat) : (d.setReg off v inst).drm = d.drm := (rfl)
@[simp] theorem setReg_cel (d : Device) (off : Nat) (v : Word) (inst : Nat) : (d.setReg off v inst).cel = d.cel := (rfl)

/-! ### emit -/

@[simp] theorem emit_regs (d : Device) (o : Out) : (d.emit o).regs = d.regs := (rfl)
@[simp] theorem emit_latches (d : Device) (o : Out) : (d.emit o).latches = d.latches := (rfl)
@[simp] theorem emit_mem (d : Device) (o : Out) : (d.emit o).mem = d.mem := (rfl)
@[simp] theorem emit_now (d : Device) (o : Out) : (d.emit o).now = d.now := (rfl)
@[simp] theorem emit_usecBase (d : Device) (o : Out) : (d.emit o).usecBase = d.usecBase := (rfl)
@[simp] theorem emit_freeCtr (d : Device) (o : Out) : (d.emit o).freeCtr = d.freeCtr := (rfl)
@[simp] theorem emit_i3cPtr (d : Device) (o : Out) : (d.emit o).i3cPtr = d.i3cPtr := (rfl)
@[simp] theorem emit_i3cForm (d : Device) (o : Out) : (d.emit o).i3cForm = d.i3cForm := (rfl)
@[simp] theorem emit_i3cIbi (d : Device) (o : Out) : (d.emit o).i3cIbi = d.i3cIbi := (rfl)
@[simp] theorem emit_hubOn (d : Device) (o : Out) : (d.emit o).hubOn = d.hubOn := (rfl)
@[simp] theorem emit_evr (d : Device) (o : Out) : (d.emit o).evr = d.evr := (rfl)
@[simp] theorem emit_hrg (d : Device) (o : Out) : (d.emit o).hrg = d.hrg := (rfl)
@[simp] theorem emit_pst (d : Device) (o : Out) : (d.emit o).pst = d.pst := (rfl)
@[simp] theorem emit_csk (d : Device) (o : Out) : (d.emit o).csk = d.csk := (rfl)
@[simp] theorem emit_hold (d : Device) (o : Out) : (d.emit o).hold = d.hold := (rfl)
@[simp] theorem emit_adm (d : Device) (o : Out) : (d.emit o).adm = d.adm := (rfl)
@[simp] theorem emit_rst (d : Device) (o : Out) : (d.emit o).rst = d.rst := (rfl)
@[simp] theorem emit_mir (d : Device) (o : Out) : (d.emit o).mir = d.mir := (rfl)
@[simp] theorem emit_qmg (d : Device) (o : Out) : (d.emit o).qmg = d.qmg := (rfl)
@[simp] theorem emit_sup (d : Device) (o : Out) : (d.emit o).sup = d.sup := (rfl)
@[simp] theorem emit_profiles (d : Device) (o : Out) : (d.emit o).profiles = d.profiles := (rfl)
@[simp] theorem emit_cph (d : Device) (o : Out) : (d.emit o).cph = d.cph := (rfl)
@[simp] theorem emit_fws (d : Device) (o : Out) : (d.emit o).fws = d.fws := (rfl)
@[simp] theorem emit_age (d : Device) (o : Out) : (d.emit o).age = d.age := (rfl)
@[simp] theorem emit_trl (d : Device) (o : Out) : (d.emit o).trl = d.trl := (rfl)
@[simp] theorem emit_net (d : Device) (o : Out) : (d.emit o).net = d.net := (rfl)
@[simp] theorem emit_pdt (d : Device) (o : Out) : (d.emit o).pdt = d.pdt := (rfl)
@[simp] theorem emit_drm (d : Device) (o : Out) : (d.emit o).drm = d.drm := (rfl)
@[simp] theorem emit_cel (d : Device) (o : Out) : (d.emit o).cel = d.cel := (rfl)

/-! ### setMir -/

@[simp] theorem setMir_regs (d : Device) (x : Mir) : (d.setMir x).regs = d.regs := (rfl)
@[simp] theorem setMir_latches (d : Device) (x : Mir) : (d.setMir x).latches = d.latches := (rfl)
@[simp] theorem setMir_mem (d : Device) (x : Mir) : (d.setMir x).mem = d.mem := (rfl)
@[simp] theorem setMir_now (d : Device) (x : Mir) : (d.setMir x).now = d.now := (rfl)
@[simp] theorem setMir_usecBase (d : Device) (x : Mir) : (d.setMir x).usecBase = d.usecBase := (rfl)
@[simp] theorem setMir_freeCtr (d : Device) (x : Mir) : (d.setMir x).freeCtr = d.freeCtr := (rfl)
@[simp] theorem setMir_out (d : Device) (x : Mir) : (d.setMir x).out = d.out := (rfl)
@[simp] theorem setMir_i3cPtr (d : Device) (x : Mir) : (d.setMir x).i3cPtr = d.i3cPtr := (rfl)
@[simp] theorem setMir_i3cForm (d : Device) (x : Mir) : (d.setMir x).i3cForm = d.i3cForm := (rfl)
@[simp] theorem setMir_i3cIbi (d : Device) (x : Mir) : (d.setMir x).i3cIbi = d.i3cIbi := (rfl)
@[simp] theorem setMir_hubOn (d : Device) (x : Mir) : (d.setMir x).hubOn = d.hubOn := (rfl)
@[simp] theorem setMir_evr (d : Device) (x : Mir) : (d.setMir x).evr = d.evr := (rfl)
@[simp] theorem setMir_hrg (d : Device) (x : Mir) : (d.setMir x).hrg = d.hrg := (rfl)
@[simp] theorem setMir_pst (d : Device) (x : Mir) : (d.setMir x).pst = d.pst := (rfl)
@[simp] theorem setMir_csk (d : Device) (x : Mir) : (d.setMir x).csk = d.csk := (rfl)
@[simp] theorem setMir_hold (d : Device) (x : Mir) : (d.setMir x).hold = d.hold := (rfl)
@[simp] theorem setMir_adm (d : Device) (x : Mir) : (d.setMir x).adm = d.adm := (rfl)
@[simp] theorem setMir_rst (d : Device) (x : Mir) : (d.setMir x).rst = d.rst := (rfl)
@[simp] theorem setMir_mir (d : Device) (x : Mir) : (d.setMir x).mir = x := (rfl)
@[simp] theorem setMir_qmg (d : Device) (x : Mir) : (d.setMir x).qmg = d.qmg := (rfl)
@[simp] theorem setMir_sup (d : Device) (x : Mir) : (d.setMir x).sup = d.sup := (rfl)
@[simp] theorem setMir_profiles (d : Device) (x : Mir) : (d.setMir x).profiles = d.profiles := (rfl)
@[simp] theorem setMir_cph (d : Device) (x : Mir) : (d.setMir x).cph = d.cph := (rfl)
@[simp] theorem setMir_fws (d : Device) (x : Mir) : (d.setMir x).fws = d.fws := (rfl)
@[simp] theorem setMir_age (d : Device) (x : Mir) : (d.setMir x).age = d.age := (rfl)
@[simp] theorem setMir_trl (d : Device) (x : Mir) : (d.setMir x).trl = d.trl := (rfl)
@[simp] theorem setMir_net (d : Device) (x : Mir) : (d.setMir x).net = d.net := (rfl)
@[simp] theorem setMir_pdt (d : Device) (x : Mir) : (d.setMir x).pdt = d.pdt := (rfl)
@[simp] theorem setMir_drm (d : Device) (x : Mir) : (d.setMir x).drm = d.drm := (rfl)
@[simp] theorem setMir_cel (d : Device) (x : Mir) : (d.setMir x).cel = d.cel := (rfl)

/-! ### setHold -/

@[simp] theorem setHold_regs (d : Device) (x : Hold) : (d.setHold x).regs = d.regs := (rfl)
@[simp] theorem setHold_latches (d : Device) (x : Hold) : (d.setHold x).latches = d.latches := (rfl)
@[simp] theorem setHold_mem (d : Device) (x : Hold) : (d.setHold x).mem = d.mem := (rfl)
@[simp] theorem setHold_now (d : Device) (x : Hold) : (d.setHold x).now = d.now := (rfl)
@[simp] theorem setHold_usecBase (d : Device) (x : Hold) : (d.setHold x).usecBase = d.usecBase := (rfl)
@[simp] theorem setHold_freeCtr (d : Device) (x : Hold) : (d.setHold x).freeCtr = d.freeCtr := (rfl)
@[simp] theorem setHold_out (d : Device) (x : Hold) : (d.setHold x).out = d.out := (rfl)
@[simp] theorem setHold_i3cPtr (d : Device) (x : Hold) : (d.setHold x).i3cPtr = d.i3cPtr := (rfl)
@[simp] theorem setHold_i3cForm (d : Device) (x : Hold) : (d.setHold x).i3cForm = d.i3cForm := (rfl)
@[simp] theorem setHold_i3cIbi (d : Device) (x : Hold) : (d.setHold x).i3cIbi = d.i3cIbi := (rfl)
@[simp] theorem setHold_hubOn (d : Device) (x : Hold) : (d.setHold x).hubOn = d.hubOn := (rfl)
@[simp] theorem setHold_evr (d : Device) (x : Hold) : (d.setHold x).evr = d.evr := (rfl)
@[simp] theorem setHold_hrg (d : Device) (x : Hold) : (d.setHold x).hrg = d.hrg := (rfl)
@[simp] theorem setHold_pst (d : Device) (x : Hold) : (d.setHold x).pst = d.pst := (rfl)
@[simp] theorem setHold_csk (d : Device) (x : Hold) : (d.setHold x).csk = d.csk := (rfl)
@[simp] theorem setHold_hold (d : Device) (x : Hold) : (d.setHold x).hold = x := (rfl)
@[simp] theorem setHold_adm (d : Device) (x : Hold) : (d.setHold x).adm = d.adm := (rfl)
@[simp] theorem setHold_rst (d : Device) (x : Hold) : (d.setHold x).rst = d.rst := (rfl)
@[simp] theorem setHold_mir (d : Device) (x : Hold) : (d.setHold x).mir = d.mir := (rfl)
@[simp] theorem setHold_qmg (d : Device) (x : Hold) : (d.setHold x).qmg = d.qmg := (rfl)
@[simp] theorem setHold_sup (d : Device) (x : Hold) : (d.setHold x).sup = d.sup := (rfl)
@[simp] theorem setHold_profiles (d : Device) (x : Hold) : (d.setHold x).profiles = d.profiles := (rfl)
@[simp] theorem setHold_cph (d : Device) (x : Hold) : (d.setHold x).cph = d.cph := (rfl)
@[simp] theorem setHold_fws (d : Device) (x : Hold) : (d.setHold x).fws = d.fws := (rfl)
@[simp] theorem setHold_age (d : Device) (x : Hold) : (d.setHold x).age = d.age := (rfl)
@[simp] theorem setHold_trl (d : Device) (x : Hold) : (d.setHold x).trl = d.trl := (rfl)
@[simp] theorem setHold_net (d : Device) (x : Hold) : (d.setHold x).net = d.net := (rfl)
@[simp] theorem setHold_pdt (d : Device) (x : Hold) : (d.setHold x).pdt = d.pdt := (rfl)
@[simp] theorem setHold_drm (d : Device) (x : Hold) : (d.setHold x).drm = d.drm := (rfl)
@[simp] theorem setHold_cel (d : Device) (x : Hold) : (d.setHold x).cel = d.cel := (rfl)

/-! ### setSup -/

@[simp] theorem setSup_regs (d : Device) (x : Sup) : (d.setSup x).regs = d.regs := (rfl)
@[simp] theorem setSup_latches (d : Device) (x : Sup) : (d.setSup x).latches = d.latches := (rfl)
@[simp] theorem setSup_mem (d : Device) (x : Sup) : (d.setSup x).mem = d.mem := (rfl)
@[simp] theorem setSup_now (d : Device) (x : Sup) : (d.setSup x).now = d.now := (rfl)
@[simp] theorem setSup_usecBase (d : Device) (x : Sup) : (d.setSup x).usecBase = d.usecBase := (rfl)
@[simp] theorem setSup_freeCtr (d : Device) (x : Sup) : (d.setSup x).freeCtr = d.freeCtr := (rfl)
@[simp] theorem setSup_out (d : Device) (x : Sup) : (d.setSup x).out = d.out := (rfl)
@[simp] theorem setSup_i3cPtr (d : Device) (x : Sup) : (d.setSup x).i3cPtr = d.i3cPtr := (rfl)
@[simp] theorem setSup_i3cForm (d : Device) (x : Sup) : (d.setSup x).i3cForm = d.i3cForm := (rfl)
@[simp] theorem setSup_i3cIbi (d : Device) (x : Sup) : (d.setSup x).i3cIbi = d.i3cIbi := (rfl)
@[simp] theorem setSup_hubOn (d : Device) (x : Sup) : (d.setSup x).hubOn = d.hubOn := (rfl)
@[simp] theorem setSup_evr (d : Device) (x : Sup) : (d.setSup x).evr = d.evr := (rfl)
@[simp] theorem setSup_hrg (d : Device) (x : Sup) : (d.setSup x).hrg = d.hrg := (rfl)
@[simp] theorem setSup_pst (d : Device) (x : Sup) : (d.setSup x).pst = d.pst := (rfl)
@[simp] theorem setSup_csk (d : Device) (x : Sup) : (d.setSup x).csk = d.csk := (rfl)
@[simp] theorem setSup_hold (d : Device) (x : Sup) : (d.setSup x).hold = d.hold := (rfl)
@[simp] theorem setSup_adm (d : Device) (x : Sup) : (d.setSup x).adm = d.adm := (rfl)
@[simp] theorem setSup_rst (d : Device) (x : Sup) : (d.setSup x).rst = d.rst := (rfl)
@[simp] theorem setSup_mir (d : Device) (x : Sup) : (d.setSup x).mir = d.mir := (rfl)
@[simp] theorem setSup_qmg (d : Device) (x : Sup) : (d.setSup x).qmg = d.qmg := (rfl)
@[simp] theorem setSup_sup (d : Device) (x : Sup) : (d.setSup x).sup = x := (rfl)
@[simp] theorem setSup_profiles (d : Device) (x : Sup) : (d.setSup x).profiles = d.profiles := (rfl)
@[simp] theorem setSup_cph (d : Device) (x : Sup) : (d.setSup x).cph = d.cph := (rfl)
@[simp] theorem setSup_fws (d : Device) (x : Sup) : (d.setSup x).fws = d.fws := (rfl)
@[simp] theorem setSup_age (d : Device) (x : Sup) : (d.setSup x).age = d.age := (rfl)
@[simp] theorem setSup_trl (d : Device) (x : Sup) : (d.setSup x).trl = d.trl := (rfl)
@[simp] theorem setSup_net (d : Device) (x : Sup) : (d.setSup x).net = d.net := (rfl)
@[simp] theorem setSup_pdt (d : Device) (x : Sup) : (d.setSup x).pdt = d.pdt := (rfl)
@[simp] theorem setSup_drm (d : Device) (x : Sup) : (d.setSup x).drm = d.drm := (rfl)
@[simp] theorem setSup_cel (d : Device) (x : Sup) : (d.setSup x).cel = d.cel := (rfl)

/-! ### setRst -/

@[simp] theorem setRst_regs (d : Device) (x : Rst) : (d.setRst x).regs = d.regs := (rfl)
@[simp] theorem setRst_latches (d : Device) (x : Rst) : (d.setRst x).latches = d.latches := (rfl)
@[simp] theorem setRst_mem (d : Device) (x : Rst) : (d.setRst x).mem = d.mem := (rfl)
@[simp] theorem setRst_now (d : Device) (x : Rst) : (d.setRst x).now = d.now := (rfl)
@[simp] theorem setRst_usecBase (d : Device) (x : Rst) : (d.setRst x).usecBase = d.usecBase := (rfl)
@[simp] theorem setRst_freeCtr (d : Device) (x : Rst) : (d.setRst x).freeCtr = d.freeCtr := (rfl)
@[simp] theorem setRst_out (d : Device) (x : Rst) : (d.setRst x).out = d.out := (rfl)
@[simp] theorem setRst_i3cPtr (d : Device) (x : Rst) : (d.setRst x).i3cPtr = d.i3cPtr := (rfl)
@[simp] theorem setRst_i3cForm (d : Device) (x : Rst) : (d.setRst x).i3cForm = d.i3cForm := (rfl)
@[simp] theorem setRst_i3cIbi (d : Device) (x : Rst) : (d.setRst x).i3cIbi = d.i3cIbi := (rfl)
@[simp] theorem setRst_hubOn (d : Device) (x : Rst) : (d.setRst x).hubOn = d.hubOn := (rfl)
@[simp] theorem setRst_evr (d : Device) (x : Rst) : (d.setRst x).evr = d.evr := (rfl)
@[simp] theorem setRst_hrg (d : Device) (x : Rst) : (d.setRst x).hrg = d.hrg := (rfl)
@[simp] theorem setRst_pst (d : Device) (x : Rst) : (d.setRst x).pst = d.pst := (rfl)
@[simp] theorem setRst_csk (d : Device) (x : Rst) : (d.setRst x).csk = d.csk := (rfl)
@[simp] theorem setRst_hold (d : Device) (x : Rst) : (d.setRst x).hold = d.hold := (rfl)
@[simp] theorem setRst_adm (d : Device) (x : Rst) : (d.setRst x).adm = d.adm := (rfl)
@[simp] theorem setRst_rst (d : Device) (x : Rst) : (d.setRst x).rst = x := (rfl)
@[simp] theorem setRst_mir (d : Device) (x : Rst) : (d.setRst x).mir = d.mir := (rfl)
@[simp] theorem setRst_qmg (d : Device) (x : Rst) : (d.setRst x).qmg = d.qmg := (rfl)
@[simp] theorem setRst_sup (d : Device) (x : Rst) : (d.setRst x).sup = d.sup := (rfl)
@[simp] theorem setRst_profiles (d : Device) (x : Rst) : (d.setRst x).profiles = d.profiles := (rfl)
@[simp] theorem setRst_cph (d : Device) (x : Rst) : (d.setRst x).cph = d.cph := (rfl)
@[simp] theorem setRst_fws (d : Device) (x : Rst) : (d.setRst x).fws = d.fws := (rfl)
@[simp] theorem setRst_age (d : Device) (x : Rst) : (d.setRst x).age = d.age := (rfl)
@[simp] theorem setRst_trl (d : Device) (x : Rst) : (d.setRst x).trl = d.trl := (rfl)
@[simp] theorem setRst_net (d : Device) (x : Rst) : (d.setRst x).net = d.net := (rfl)
@[simp] theorem setRst_pdt (d : Device) (x : Rst) : (d.setRst x).pdt = d.pdt := (rfl)
@[simp] theorem setRst_drm (d : Device) (x : Rst) : (d.setRst x).drm = d.drm := (rfl)
@[simp] theorem setRst_cel (d : Device) (x : Rst) : (d.setRst x).cel = d.cel := (rfl)

/-! ### setPst -/

@[simp] theorem setPst_regs (d : Device) (x : Pst) : (d.setPst x).regs = d.regs := (rfl)
@[simp] theorem setPst_latches (d : Device) (x : Pst) : (d.setPst x).latches = d.latches := (rfl)
@[simp] theorem setPst_mem (d : Device) (x : Pst) : (d.setPst x).mem = d.mem := (rfl)
@[simp] theorem setPst_now (d : Device) (x : Pst) : (d.setPst x).now = d.now := (rfl)
@[simp] theorem setPst_usecBase (d : Device) (x : Pst) : (d.setPst x).usecBase = d.usecBase := (rfl)
@[simp] theorem setPst_freeCtr (d : Device) (x : Pst) : (d.setPst x).freeCtr = d.freeCtr := (rfl)
@[simp] theorem setPst_out (d : Device) (x : Pst) : (d.setPst x).out = d.out := (rfl)
@[simp] theorem setPst_i3cPtr (d : Device) (x : Pst) : (d.setPst x).i3cPtr = d.i3cPtr := (rfl)
@[simp] theorem setPst_i3cForm (d : Device) (x : Pst) : (d.setPst x).i3cForm = d.i3cForm := (rfl)
@[simp] theorem setPst_i3cIbi (d : Device) (x : Pst) : (d.setPst x).i3cIbi = d.i3cIbi := (rfl)
@[simp] theorem setPst_hubOn (d : Device) (x : Pst) : (d.setPst x).hubOn = d.hubOn := (rfl)
@[simp] theorem setPst_evr (d : Device) (x : Pst) : (d.setPst x).evr = d.evr := (rfl)
@[simp] theorem setPst_hrg (d : Device) (x : Pst) : (d.setPst x).hrg = d.hrg := (rfl)
@[simp] theorem setPst_pst (d : Device) (x : Pst) : (d.setPst x).pst = x := (rfl)
@[simp] theorem setPst_csk (d : Device) (x : Pst) : (d.setPst x).csk = d.csk := (rfl)
@[simp] theorem setPst_hold (d : Device) (x : Pst) : (d.setPst x).hold = d.hold := (rfl)
@[simp] theorem setPst_adm (d : Device) (x : Pst) : (d.setPst x).adm = d.adm := (rfl)
@[simp] theorem setPst_rst (d : Device) (x : Pst) : (d.setPst x).rst = d.rst := (rfl)
@[simp] theorem setPst_mir (d : Device) (x : Pst) : (d.setPst x).mir = d.mir := (rfl)
@[simp] theorem setPst_qmg (d : Device) (x : Pst) : (d.setPst x).qmg = d.qmg := (rfl)
@[simp] theorem setPst_sup (d : Device) (x : Pst) : (d.setPst x).sup = d.sup := (rfl)
@[simp] theorem setPst_profiles (d : Device) (x : Pst) : (d.setPst x).profiles = d.profiles := (rfl)
@[simp] theorem setPst_cph (d : Device) (x : Pst) : (d.setPst x).cph = d.cph := (rfl)
@[simp] theorem setPst_fws (d : Device) (x : Pst) : (d.setPst x).fws = d.fws := (rfl)
@[simp] theorem setPst_age (d : Device) (x : Pst) : (d.setPst x).age = d.age := (rfl)
@[simp] theorem setPst_trl (d : Device) (x : Pst) : (d.setPst x).trl = d.trl := (rfl)
@[simp] theorem setPst_net (d : Device) (x : Pst) : (d.setPst x).net = d.net := (rfl)
@[simp] theorem setPst_pdt (d : Device) (x : Pst) : (d.setPst x).pdt = d.pdt := (rfl)
@[simp] theorem setPst_drm (d : Device) (x : Pst) : (d.setPst x).drm = d.drm := (rfl)
@[simp] theorem setPst_cel (d : Device) (x : Pst) : (d.setPst x).cel = d.cel := (rfl)

/-! ### setTrl -/

@[simp] theorem setTrl_regs (d : Device) (x : Trl) : (d.setTrl x).regs = d.regs := (rfl)
@[simp] theorem setTrl_latches (d : Device) (x : Trl) : (d.setTrl x).latches = d.latches := (rfl)
@[simp] theorem setTrl_mem (d : Device) (x : Trl) : (d.setTrl x).mem = d.mem := (rfl)
@[simp] theorem setTrl_now (d : Device) (x : Trl) : (d.setTrl x).now = d.now := (rfl)
@[simp] theorem setTrl_usecBase (d : Device) (x : Trl) : (d.setTrl x).usecBase = d.usecBase := (rfl)
@[simp] theorem setTrl_freeCtr (d : Device) (x : Trl) : (d.setTrl x).freeCtr = d.freeCtr := (rfl)
@[simp] theorem setTrl_out (d : Device) (x : Trl) : (d.setTrl x).out = d.out := (rfl)
@[simp] theorem setTrl_i3cPtr (d : Device) (x : Trl) : (d.setTrl x).i3cPtr = d.i3cPtr := (rfl)
@[simp] theorem setTrl_i3cForm (d : Device) (x : Trl) : (d.setTrl x).i3cForm = d.i3cForm := (rfl)
@[simp] theorem setTrl_i3cIbi (d : Device) (x : Trl) : (d.setTrl x).i3cIbi = d.i3cIbi := (rfl)
@[simp] theorem setTrl_hubOn (d : Device) (x : Trl) : (d.setTrl x).hubOn = d.hubOn := (rfl)
@[simp] theorem setTrl_evr (d : Device) (x : Trl) : (d.setTrl x).evr = d.evr := (rfl)
@[simp] theorem setTrl_hrg (d : Device) (x : Trl) : (d.setTrl x).hrg = d.hrg := (rfl)
@[simp] theorem setTrl_pst (d : Device) (x : Trl) : (d.setTrl x).pst = d.pst := (rfl)
@[simp] theorem setTrl_csk (d : Device) (x : Trl) : (d.setTrl x).csk = d.csk := (rfl)
@[simp] theorem setTrl_hold (d : Device) (x : Trl) : (d.setTrl x).hold = d.hold := (rfl)
@[simp] theorem setTrl_adm (d : Device) (x : Trl) : (d.setTrl x).adm = d.adm := (rfl)
@[simp] theorem setTrl_rst (d : Device) (x : Trl) : (d.setTrl x).rst = d.rst := (rfl)
@[simp] theorem setTrl_mir (d : Device) (x : Trl) : (d.setTrl x).mir = d.mir := (rfl)
@[simp] theorem setTrl_qmg (d : Device) (x : Trl) : (d.setTrl x).qmg = d.qmg := (rfl)
@[simp] theorem setTrl_sup (d : Device) (x : Trl) : (d.setTrl x).sup = d.sup := (rfl)
@[simp] theorem setTrl_profiles (d : Device) (x : Trl) : (d.setTrl x).profiles = d.profiles := (rfl)
@[simp] theorem setTrl_cph (d : Device) (x : Trl) : (d.setTrl x).cph = d.cph := (rfl)
@[simp] theorem setTrl_fws (d : Device) (x : Trl) : (d.setTrl x).fws = d.fws := (rfl)
@[simp] theorem setTrl_age (d : Device) (x : Trl) : (d.setTrl x).age = d.age := (rfl)
@[simp] theorem setTrl_trl (d : Device) (x : Trl) : (d.setTrl x).trl = x := (rfl)
@[simp] theorem setTrl_net (d : Device) (x : Trl) : (d.setTrl x).net = d.net := (rfl)
@[simp] theorem setTrl_pdt (d : Device) (x : Trl) : (d.setTrl x).pdt = d.pdt := (rfl)
@[simp] theorem setTrl_drm (d : Device) (x : Trl) : (d.setTrl x).drm = d.drm := (rfl)
@[simp] theorem setTrl_cel (d : Device) (x : Trl) : (d.setTrl x).cel = d.cel := (rfl)

/-! ### setNet -/

@[simp] theorem setNet_regs (d : Device) (x : Net) : (d.setNet x).regs = d.regs := (rfl)
@[simp] theorem setNet_latches (d : Device) (x : Net) : (d.setNet x).latches = d.latches := (rfl)
@[simp] theorem setNet_mem (d : Device) (x : Net) : (d.setNet x).mem = d.mem := (rfl)
@[simp] theorem setNet_now (d : Device) (x : Net) : (d.setNet x).now = d.now := (rfl)
@[simp] theorem setNet_usecBase (d : Device) (x : Net) : (d.setNet x).usecBase = d.usecBase := (rfl)
@[simp] theorem setNet_freeCtr (d : Device) (x : Net) : (d.setNet x).freeCtr = d.freeCtr := (rfl)
@[simp] theorem setNet_out (d : Device) (x : Net) : (d.setNet x).out = d.out := (rfl)
@[simp] theorem setNet_i3cPtr (d : Device) (x : Net) : (d.setNet x).i3cPtr = d.i3cPtr := (rfl)
@[simp] theorem setNet_i3cForm (d : Device) (x : Net) : (d.setNet x).i3cForm = d.i3cForm := (rfl)
@[simp] theorem setNet_i3cIbi (d : Device) (x : Net) : (d.setNet x).i3cIbi = d.i3cIbi := (rfl)
@[simp] theorem setNet_hubOn (d : Device) (x : Net) : (d.setNet x).hubOn = d.hubOn := (rfl)
@[simp] theorem setNet_evr (d : Device) (x : Net) : (d.setNet x).evr = d.evr := (rfl)
@[simp] theorem setNet_hrg (d : Device) (x : Net) : (d.setNet x).hrg = d.hrg := (rfl)
@[simp] theorem setNet_pst (d : Device) (x : Net) : (d.setNet x).pst = d.pst := (rfl)
@[simp] theorem setNet_csk (d : Device) (x : Net) : (d.setNet x).csk = d.csk := (rfl)
@[simp] theorem setNet_hold (d : Device) (x : Net) : (d.setNet x).hold = d.hold := (rfl)
@[simp] theorem setNet_adm (d : Device) (x : Net) : (d.setNet x).adm = d.adm := (rfl)
@[simp] theorem setNet_rst (d : Device) (x : Net) : (d.setNet x).rst = d.rst := (rfl)
@[simp] theorem setNet_mir (d : Device) (x : Net) : (d.setNet x).mir = d.mir := (rfl)
@[simp] theorem setNet_qmg (d : Device) (x : Net) : (d.setNet x).qmg = d.qmg := (rfl)
@[simp] theorem setNet_sup (d : Device) (x : Net) : (d.setNet x).sup = d.sup := (rfl)
@[simp] theorem setNet_profiles (d : Device) (x : Net) : (d.setNet x).profiles = d.profiles := (rfl)
@[simp] theorem setNet_cph (d : Device) (x : Net) : (d.setNet x).cph = d.cph := (rfl)
@[simp] theorem setNet_fws (d : Device) (x : Net) : (d.setNet x).fws = d.fws := (rfl)
@[simp] theorem setNet_age (d : Device) (x : Net) : (d.setNet x).age = d.age := (rfl)
@[simp] theorem setNet_trl (d : Device) (x : Net) : (d.setNet x).trl = d.trl := (rfl)
@[simp] theorem setNet_net (d : Device) (x : Net) : (d.setNet x).net = x := (rfl)
@[simp] theorem setNet_pdt (d : Device) (x : Net) : (d.setNet x).pdt = d.pdt := (rfl)
@[simp] theorem setNet_drm (d : Device) (x : Net) : (d.setNet x).drm = d.drm := (rfl)
@[simp] theorem setNet_cel (d : Device) (x : Net) : (d.setNet x).cel = d.cel := (rfl)

/-! ### setPdt -/

@[simp] theorem setPdt_regs (d : Device) (x : Pdt) : (d.setPdt x).regs = d.regs := (rfl)
@[simp] theorem setPdt_latches (d : Device) (x : Pdt) : (d.setPdt x).latches = d.latches := (rfl)
@[simp] theorem setPdt_mem (d : Device) (x : Pdt) : (d.setPdt x).mem = d.mem := (rfl)
@[simp] theorem setPdt_now (d : Device) (x : Pdt) : (d.setPdt x).now = d.now := (rfl)
@[simp] theorem setPdt_usecBase (d : Device) (x : Pdt) : (d.setPdt x).usecBase = d.usecBase := (rfl)
@[simp] theorem setPdt_freeCtr (d : Device) (x : Pdt) : (d.setPdt x).freeCtr = d.freeCtr := (rfl)
@[simp] theorem setPdt_out (d : Device) (x : Pdt) : (d.setPdt x).out = d.out := (rfl)
@[simp] theorem setPdt_i3cPtr (d : Device) (x : Pdt) : (d.setPdt x).i3cPtr = d.i3cPtr := (rfl)
@[simp] theorem setPdt_i3cForm (d : Device) (x : Pdt) : (d.setPdt x).i3cForm = d.i3cForm := (rfl)
@[simp] theorem setPdt_i3cIbi (d : Device) (x : Pdt) : (d.setPdt x).i3cIbi = d.i3cIbi := (rfl)
@[simp] theorem setPdt_hubOn (d : Device) (x : Pdt) : (d.setPdt x).hubOn = d.hubOn := (rfl)
@[simp] theorem setPdt_evr (d : Device) (x : Pdt) : (d.setPdt x).evr = d.evr := (rfl)
@[simp] theorem setPdt_hrg (d : Device) (x : Pdt) : (d.setPdt x).hrg = d.hrg := (rfl)
@[simp] theorem setPdt_pst (d : Device) (x : Pdt) : (d.setPdt x).pst = d.pst := (rfl)
@[simp] theorem setPdt_csk (d : Device) (x : Pdt) : (d.setPdt x).csk = d.csk := (rfl)
@[simp] theorem setPdt_hold (d : Device) (x : Pdt) : (d.setPdt x).hold = d.hold := (rfl)
@[simp] theorem setPdt_adm (d : Device) (x : Pdt) : (d.setPdt x).adm = d.adm := (rfl)
@[simp] theorem setPdt_rst (d : Device) (x : Pdt) : (d.setPdt x).rst = d.rst := (rfl)
@[simp] theorem setPdt_mir (d : Device) (x : Pdt) : (d.setPdt x).mir = d.mir := (rfl)
@[simp] theorem setPdt_qmg (d : Device) (x : Pdt) : (d.setPdt x).qmg = d.qmg := (rfl)
@[simp] theorem setPdt_sup (d : Device) (x : Pdt) : (d.setPdt x).sup = d.sup := (rfl)
@[simp] theorem setPdt_profiles (d : Device) (x : Pdt) : (d.setPdt x).profiles = d.profiles := (rfl)
@[simp] theorem setPdt_cph (d : Device) (x : Pdt) : (d.setPdt x).cph = d.cph := (rfl)
@[simp] theorem setPdt_fws (d : Device) (x : Pdt) : (d.setPdt x).fws = d.fws := (rfl)
@[simp] theorem setPdt_age (d : Device) (x : Pdt) : (d.setPdt x).age = d.age := (rfl)
@[simp] theorem setPdt_trl (d : Device) (x : Pdt) : (d.setPdt x).trl = d.trl := (rfl)
@[simp] theorem setPdt_net (d : Device) (x : Pdt) : (d.setPdt x).net = d.net := (rfl)
@[simp] theorem setPdt_pdt (d : Device) (x : Pdt) : (d.setPdt x).pdt = x := (rfl)
@[simp] theorem setPdt_drm (d : Device) (x : Pdt) : (d.setPdt x).drm = d.drm := (rfl)
@[simp] theorem setPdt_cel (d : Device) (x : Pdt) : (d.setPdt x).cel = d.cel := (rfl)

/-! ### setDrm -/

@[simp] theorem setDrm_regs (d : Device) (x : Drm) : (d.setDrm x).regs = d.regs := (rfl)
@[simp] theorem setDrm_latches (d : Device) (x : Drm) : (d.setDrm x).latches = d.latches := (rfl)
@[simp] theorem setDrm_mem (d : Device) (x : Drm) : (d.setDrm x).mem = d.mem := (rfl)
@[simp] theorem setDrm_now (d : Device) (x : Drm) : (d.setDrm x).now = d.now := (rfl)
@[simp] theorem setDrm_usecBase (d : Device) (x : Drm) : (d.setDrm x).usecBase = d.usecBase := (rfl)
@[simp] theorem setDrm_freeCtr (d : Device) (x : Drm) : (d.setDrm x).freeCtr = d.freeCtr := (rfl)
@[simp] theorem setDrm_out (d : Device) (x : Drm) : (d.setDrm x).out = d.out := (rfl)
@[simp] theorem setDrm_i3cPtr (d : Device) (x : Drm) : (d.setDrm x).i3cPtr = d.i3cPtr := (rfl)
@[simp] theorem setDrm_i3cForm (d : Device) (x : Drm) : (d.setDrm x).i3cForm = d.i3cForm := (rfl)
@[simp] theorem setDrm_i3cIbi (d : Device) (x : Drm) : (d.setDrm x).i3cIbi = d.i3cIbi := (rfl)
@[simp] theorem setDrm_hubOn (d : Device) (x : Drm) : (d.setDrm x).hubOn = d.hubOn := (rfl)
@[simp] theorem setDrm_evr (d : Device) (x : Drm) : (d.setDrm x).evr = d.evr := (rfl)
@[simp] theorem setDrm_hrg (d : Device) (x : Drm) : (d.setDrm x).hrg = d.hrg := (rfl)
@[simp] theorem setDrm_pst (d : Device) (x : Drm) : (d.setDrm x).pst = d.pst := (rfl)
@[simp] theorem setDrm_csk (d : Device) (x : Drm) : (d.setDrm x).csk = d.csk := (rfl)
@[simp] theorem setDrm_hold (d : Device) (x : Drm) : (d.setDrm x).hold = d.hold := (rfl)
@[simp] theorem setDrm_adm (d : Device) (x : Drm) : (d.setDrm x).adm = d.adm := (rfl)
@[simp] theorem setDrm_rst (d : Device) (x : Drm) : (d.setDrm x).rst = d.rst := (rfl)
@[simp] theorem setDrm_mir (d : Device) (x : Drm) : (d.setDrm x).mir = d.mir := (rfl)
@[simp] theorem setDrm_qmg (d : Device) (x : Drm) : (d.setDrm x).qmg = d.qmg := (rfl)
@[simp] theorem setDrm_sup (d : Device) (x : Drm) : (d.setDrm x).sup = d.sup := (rfl)
@[simp] theorem setDrm_profiles (d : Device) (x : Drm) : (d.setDrm x).profiles = d.profiles := (rfl)
@[simp] theorem setDrm_cph (d : Device) (x : Drm) : (d.setDrm x).cph = d.cph := (rfl)
@[simp] theorem setDrm_fws (d : Device) (x : Drm) : (d.setDrm x).fws = d.fws := (rfl)
@[simp] theorem setDrm_age (d : Device) (x : Drm) : (d.setDrm x).age = d.age := (rfl)
@[simp] theorem setDrm_trl (d : Device) (x : Drm) : (d.setDrm x).trl = d.trl := (rfl)
@[simp] theorem setDrm_net (d : Device) (x : Drm) : (d.setDrm x).net = d.net := (rfl)
@[simp] theorem setDrm_pdt (d : Device) (x : Drm) : (d.setDrm x).pdt = d.pdt := (rfl)
@[simp] theorem setDrm_drm (d : Device) (x : Drm) : (d.setDrm x).drm = x := (rfl)
@[simp] theorem setDrm_cel (d : Device) (x : Drm) : (d.setDrm x).cel = d.cel := (rfl)

/-! ### setCel -/

@[simp] theorem setCel_regs (d : Device) (x : Cel) : (d.setCel x).regs = d.regs := (rfl)
@[simp] theorem setCel_latches (d : Device) (x : Cel) : (d.setCel x).latches = d.latches := (rfl)
@[simp] theorem setCel_mem (d : Device) (x : Cel) : (d.setCel x).mem = d.mem := (rfl)
@[simp] theorem setCel_now (d : Device) (x : Cel) : (d.setCel x).now = d.now := (rfl)
@[simp] theorem setCel_usecBase (d : Device) (x : Cel) : (d.setCel x).usecBase = d.usecBase := (rfl)
@[simp] theorem setCel_freeCtr (d : Device) (x : Cel) : (d.setCel x).freeCtr = d.freeCtr := (rfl)
@[simp] theorem setCel_out (d : Device) (x : Cel) : (d.setCel x).out = d.out := (rfl)
@[simp] theorem setCel_i3cPtr (d : Device) (x : Cel) : (d.setCel x).i3cPtr = d.i3cPtr := (rfl)
@[simp] theorem setCel_i3cForm (d : Device) (x : Cel) : (d.setCel x).i3cForm = d.i3cForm := (rfl)
@[simp] theorem setCel_i3cIbi (d : Device) (x : Cel) : (d.setCel x).i3cIbi = d.i3cIbi := (rfl)
@[simp] theorem setCel_hubOn (d : Device) (x : Cel) : (d.setCel x).hubOn = d.hubOn := (rfl)
@[simp] theorem setCel_evr (d : Device) (x : Cel) : (d.setCel x).evr = d.evr := (rfl)
@[simp] theorem setCel_hrg (d : Device) (x : Cel) : (d.setCel x).hrg = d.hrg := (rfl)
@[simp] theorem setCel_pst (d : Device) (x : Cel) : (d.setCel x).pst = d.pst := (rfl)
@[simp] theorem setCel_csk (d : Device) (x : Cel) : (d.setCel x).csk = d.csk := (rfl)
@[simp] theorem setCel_hold (d : Device) (x : Cel) : (d.setCel x).hold = d.hold := (rfl)
@[simp] theorem setCel_adm (d : Device) (x : Cel) : (d.setCel x).adm = d.adm := (rfl)
@[simp] theorem setCel_rst (d : Device) (x : Cel) : (d.setCel x).rst = d.rst := (rfl)
@[simp] theorem setCel_mir (d : Device) (x : Cel) : (d.setCel x).mir = d.mir := (rfl)
@[simp] theorem setCel_qmg (d : Device) (x : Cel) : (d.setCel x).qmg = d.qmg := (rfl)
@[simp] theorem setCel_sup (d : Device) (x : Cel) : (d.setCel x).sup = d.sup := (rfl)
@[simp] theorem setCel_profiles (d : Device) (x : Cel) : (d.setCel x).profiles = d.profiles := (rfl)
@[simp] theorem setCel_cph (d : Device) (x : Cel) : (d.setCel x).cph = d.cph := (rfl)
@[simp] theorem setCel_fws (d : Device) (x : Cel) : (d.setCel x).fws = d.fws := (rfl)
@[simp] theorem setCel_age (d : Device) (x : Cel) : (d.setCel x).age = d.age := (rfl)
@[simp] theorem setCel_trl (d : Device) (x : Cel) : (d.setCel x).trl = d.trl := (rfl)
@[simp] theorem setCel_net (d : Device) (x : Cel) : (d.setCel x).net = d.net := (rfl)
@[simp] theorem setCel_pdt (d : Device) (x : Cel) : (d.setCel x).pdt = d.pdt := (rfl)
@[simp] theorem setCel_drm (d : Device) (x : Cel) : (d.setCel x).drm = d.drm := (rfl)
@[simp] theorem setCel_cel (d : Device) (x : Cel) : (d.setCel x).cel = x := (rfl)

/-! ### setCph -/

@[simp] theorem setCph_regs (d : Device) (x : Cph) : (d.setCph x).regs = d.regs := (rfl)
@[simp] theorem setCph_latches (d : Device) (x : Cph) : (d.setCph x).latches = d.latches := (rfl)
@[simp] theorem setCph_mem (d : Device) (x : Cph) : (d.setCph x).mem = d.mem := (rfl)
@[simp] theorem setCph_now (d : Device) (x : Cph) : (d.setCph x).now = d.now := (rfl)
@[simp] theorem setCph_usecBase (d : Device) (x : Cph) : (d.setCph x).usecBase = d.usecBase := (rfl)
@[simp] theorem setCph_freeCtr (d : Device) (x : Cph) : (d.setCph x).freeCtr = d.freeCtr := (rfl)
@[simp] theorem setCph_out (d : Device) (x : Cph) : (d.setCph x).out = d.out := (rfl)
@[simp] theorem setCph_i3cPtr (d : Device) (x : Cph) : (d.setCph x).i3cPtr = d.i3cPtr := (rfl)
@[simp] theorem setCph_i3cForm (d : Device) (x : Cph) : (d.setCph x).i3cForm = d.i3cForm := (rfl)
@[simp] theorem setCph_i3cIbi (d : Device) (x : Cph) : (d.setCph x).i3cIbi = d.i3cIbi := (rfl)
@[simp] theorem setCph_hubOn (d : Device) (x : Cph) : (d.setCph x).hubOn = d.hubOn := (rfl)
@[simp] theorem setCph_evr (d : Device) (x : Cph) : (d.setCph x).evr = d.evr := (rfl)
@[simp] theorem setCph_hrg (d : Device) (x : Cph) : (d.setCph x).hrg = d.hrg := (rfl)
@[simp] theorem setCph_pst (d : Device) (x : Cph) : (d.setCph x).pst = d.pst := (rfl)
@[simp] theorem setCph_csk (d : Device) (x : Cph) : (d.setCph x).csk = d.csk := (rfl)
@[simp] theorem setCph_hold (d : Device) (x : Cph) : (d.setCph x).hold = d.hold := (rfl)
@[simp] theorem setCph_adm (d : Device) (x : Cph) : (d.setCph x).adm = d.adm := (rfl)
@[simp] theorem setCph_rst (d : Device) (x : Cph) : (d.setCph x).rst = d.rst := (rfl)
@[simp] theorem setCph_mir (d : Device) (x : Cph) : (d.setCph x).mir = d.mir := (rfl)
@[simp] theorem setCph_qmg (d : Device) (x : Cph) : (d.setCph x).qmg = d.qmg := (rfl)
@[simp] theorem setCph_sup (d : Device) (x : Cph) : (d.setCph x).sup = d.sup := (rfl)
@[simp] theorem setCph_profiles (d : Device) (x : Cph) : (d.setCph x).profiles = d.profiles := (rfl)
@[simp] theorem setCph_cph (d : Device) (x : Cph) : (d.setCph x).cph = x := (rfl)
@[simp] theorem setCph_fws (d : Device) (x : Cph) : (d.setCph x).fws = d.fws := (rfl)
@[simp] theorem setCph_age (d : Device) (x : Cph) : (d.setCph x).age = d.age := (rfl)
@[simp] theorem setCph_trl (d : Device) (x : Cph) : (d.setCph x).trl = d.trl := (rfl)
@[simp] theorem setCph_net (d : Device) (x : Cph) : (d.setCph x).net = d.net := (rfl)
@[simp] theorem setCph_pdt (d : Device) (x : Cph) : (d.setCph x).pdt = d.pdt := (rfl)
@[simp] theorem setCph_drm (d : Device) (x : Cph) : (d.setCph x).drm = d.drm := (rfl)
@[simp] theorem setCph_cel (d : Device) (x : Cph) : (d.setCph x).cel = d.cel := (rfl)

/-! ### setEvr -/

@[simp] theorem setEvr_regs (d : Device) (x : Evr) : (d.setEvr x).regs = d.regs := (rfl)
@[simp] theorem setEvr_latches (d : Device) (x : Evr) : (d.setEvr x).latches = d.latches := (rfl)
@[simp] theorem setEvr_mem (d : Device) (x : Evr) : (d.setEvr x).mem = d.mem := (rfl)
@[simp] theorem setEvr_now (d : Device) (x : Evr) : (d.setEvr x).now = d.now := (rfl)
@[simp] theorem setEvr_usecBase (d : Device) (x : Evr) : (d.setEvr x).usecBase = d.usecBase := (rfl)
@[simp] theorem setEvr_freeCtr (d : Device) (x : Evr) : (d.setEvr x).freeCtr = d.freeCtr := (rfl)
@[simp] theorem setEvr_out (d : Device) (x : Evr) : (d.setEvr x).out = d.out := (rfl)
@[simp] theorem setEvr_i3cPtr (d : Device) (x : Evr) : (d.setEvr x).i3cPtr = d.i3cPtr := (rfl)
@[simp] theorem setEvr_i3cForm (d : Device) (x : Evr) : (d.setEvr x).i3cForm = d.i3cForm := (rfl)
@[simp] theorem setEvr_i3cIbi (d : Device) (x : Evr) : (d.setEvr x).i3cIbi = d.i3cIbi := (rfl)
@[simp] theorem setEvr_hubOn (d : Device) (x : Evr) : (d.setEvr x).hubOn = d.hubOn := (rfl)
@[simp] theorem setEvr_evr (d : Device) (x : Evr) : (d.setEvr x).evr = x := (rfl)
@[simp] theorem setEvr_hrg (d : Device) (x : Evr) : (d.setEvr x).hrg = d.hrg := (rfl)
@[simp] theorem setEvr_pst (d : Device) (x : Evr) : (d.setEvr x).pst = d.pst := (rfl)
@[simp] theorem setEvr_csk (d : Device) (x : Evr) : (d.setEvr x).csk = d.csk := (rfl)
@[simp] theorem setEvr_hold (d : Device) (x : Evr) : (d.setEvr x).hold = d.hold := (rfl)
@[simp] theorem setEvr_adm (d : Device) (x : Evr) : (d.setEvr x).adm = d.adm := (rfl)
@[simp] theorem setEvr_rst (d : Device) (x : Evr) : (d.setEvr x).rst = d.rst := (rfl)
@[simp] theorem setEvr_mir (d : Device) (x : Evr) : (d.setEvr x).mir = d.mir := (rfl)
@[simp] theorem setEvr_qmg (d : Device) (x : Evr) : (d.setEvr x).qmg = d.qmg := (rfl)
@[simp] theorem setEvr_sup (d : Device) (x : Evr) : (d.setEvr x).sup = d.sup := (rfl)
@[simp] theorem setEvr_profiles (d : Device) (x : Evr) : (d.setEvr x).profiles = d.profiles := (rfl)
@[simp] theorem setEvr_cph (d : Device) (x : Evr) : (d.setEvr x).cph = d.cph := (rfl)
@[simp] theorem setEvr_fws (d : Device) (x : Evr) : (d.setEvr x).fws = d.fws := (rfl)
@[simp] theorem setEvr_age (d : Device) (x : Evr) : (d.setEvr x).age = d.age := (rfl)
@[simp] theorem setEvr_trl (d : Device) (x : Evr) : (d.setEvr x).trl = d.trl := (rfl)
@[simp] theorem setEvr_net (d : Device) (x : Evr) : (d.setEvr x).net = d.net := (rfl)
@[simp] theorem setEvr_pdt (d : Device) (x : Evr) : (d.setEvr x).pdt = d.pdt := (rfl)
@[simp] theorem setEvr_drm (d : Device) (x : Evr) : (d.setEvr x).drm = d.drm := (rfl)
@[simp] theorem setEvr_cel (d : Device) (x : Evr) : (d.setEvr x).cel = d.cel := (rfl)

/-! ### setFws -/

@[simp] theorem setFws_regs (d : Device) (x : Fws) : (d.setFws x).regs = d.regs := (rfl)
@[simp] theorem setFws_latches (d : Device) (x : Fws) : (d.setFws x).latches = d.latches := (rfl)
@[simp] theorem setFws_mem (d : Device) (x : Fws) : (d.setFws x).mem = d.mem := (rfl)
@[simp] theorem setFws_now (d : Device) (x : Fws) : (d.setFws x).now = d.now := (rfl)
@[simp] theorem setFws_usecBase (d : Device) (x : Fws) : (d.setFws x).usecBase = d.usecBase := (rfl)
@[simp] theorem setFws_freeCtr (d : Device) (x : Fws) : (d.setFws x).freeCtr = d.freeCtr := (rfl)
@[simp] theorem setFws_out (d : Device) (x : Fws) : (d.setFws x).out = d.out := (rfl)
@[simp] theorem setFws_i3cPtr (d : Device) (x : Fws) : (d.setFws x).i3cPtr = d.i3cPtr := (rfl)
@[simp] theorem setFws_i3cForm (d : Device) (x : Fws) : (d.setFws x).i3cForm = d.i3cForm := (rfl)
@[simp] theorem setFws_i3cIbi (d : Device) (x : Fws) : (d.setFws x).i3cIbi = d.i3cIbi := (rfl)
@[simp] theorem setFws_hubOn (d : Device) (x : Fws) : (d.setFws x).hubOn = d.hubOn := (rfl)
@[simp] theorem setFws_evr (d : Device) (x : Fws) : (d.setFws x).evr = d.evr := (rfl)
@[simp] theorem setFws_hrg (d : Device) (x : Fws) : (d.setFws x).hrg = d.hrg := (rfl)
@[simp] theorem setFws_pst (d : Device) (x : Fws) : (d.setFws x).pst = d.pst := (rfl)
@[simp] theorem setFws_csk (d : Device) (x : Fws) : (d.setFws x).csk = d.csk := (rfl)
@[simp] theorem setFws_hold (d : Device) (x : Fws) : (d.setFws x).hold = d.hold := (rfl)
@[simp] theorem setFws_adm (d : Device) (x : Fws) : (d.setFws x).adm = d.adm := (rfl)
@[simp] theorem setFws_rst (d : Device) (x : Fws) : (d.setFws x).rst = d.rst := (rfl)
@[simp] theorem setFws_mir (d : Device) (x : Fws) : (d.setFws x).mir = d.mir := (rfl)
@[simp] theorem setFws_qmg (d : Device) (x : Fws) : (d.setFws x).qmg = d.qmg := (rfl)
@[simp] theorem setFws_sup (d : Device) (x : Fws) : (d.setFws x).sup = d.sup := (rfl)
@[simp] theorem setFws_profiles (d : Device) (x : Fws) : (d.setFws x).profiles = d.profiles := (rfl)
@[simp] theorem setFws_cph (d : Device) (x : Fws) : (d.setFws x).cph = d.cph := (rfl)
@[simp] theorem setFws_fws (d : Device) (x : Fws) : (d.setFws x).fws = x := (rfl)
@[simp] theorem setFws_age (d : Device) (x : Fws) : (d.setFws x).age = d.age := (rfl)
@[simp] theorem setFws_trl (d : Device) (x : Fws) : (d.setFws x).trl = d.trl := (rfl)
@[simp] theorem setFws_net (d : Device) (x : Fws) : (d.setFws x).net = d.net := (rfl)
@[simp] theorem setFws_pdt (d : Device) (x : Fws) : (d.setFws x).pdt = d.pdt := (rfl)
@[simp] theorem setFws_drm (d : Device) (x : Fws) : (d.setFws x).drm = d.drm := (rfl)
@[simp] theorem setFws_cel (d : Device) (x : Fws) : (d.setFws x).cel = d.cel := (rfl)

/-! ### putSq -/

@[simp] theorem putSq_regs (d : Device) (fn q : Nat) (x : Sq) : (d.putSq fn q x).regs = d.regs := (rfl)
@[simp] theorem putSq_latches (d : Device) (fn q : Nat) (x : Sq) : (d.putSq fn q x).latches = d.latches := (rfl)
@[simp] theorem putSq_mem (d : Device) (fn q : Nat) (x : Sq) : (d.putSq fn q x).mem = d.mem := (rfl)
@[simp] theorem putSq_now (d : Device) (fn q : Nat) (x : Sq) : (d.putSq fn q x).now = d.now := (rfl)
@[simp] theorem putSq_usecBase (d : Device) (fn q : Nat) (x : Sq) : (d.putSq fn q x).usecBase = d.usecBase := (rfl)
@[simp] theorem putSq_freeCtr (d : Device) (fn q : Nat) (x : Sq) : (d.putSq fn q x).freeCtr = d.freeCtr := (rfl)
@[simp] theorem putSq_out (d : Device) (fn q : Nat) (x : Sq) : (d.putSq fn q x).out = d.out := (rfl)
@[simp] theorem putSq_i3cPtr (d : Device) (fn q : Nat) (x : Sq) : (d.putSq fn q x).i3cPtr = d.i3cPtr := (rfl)
@[simp] theorem putSq_i3cForm (d : Device) (fn q : Nat) (x : Sq) : (d.putSq fn q x).i3cForm = d.i3cForm := (rfl)
@[simp] theorem putSq_i3cIbi (d : Device) (fn q : Nat) (x : Sq) : (d.putSq fn q x).i3cIbi = d.i3cIbi := (rfl)
@[simp] theorem putSq_hubOn (d : Device) (fn q : Nat) (x : Sq) : (d.putSq fn q x).hubOn = d.hubOn := (rfl)
@[simp] theorem putSq_evr (d : Device) (fn q : Nat) (x : Sq) : (d.putSq fn q x).evr = d.evr := (rfl)
@[simp] theorem putSq_pst (d : Device) (fn q : Nat) (x : Sq) : (d.putSq fn q x).pst = d.pst := (rfl)
@[simp] theorem putSq_csk (d : Device) (fn q : Nat) (x : Sq) : (d.putSq fn q x).csk = d.csk := (rfl)
@[simp] theorem putSq_hold (d : Device) (fn q : Nat) (x : Sq) : (d.putSq fn q x).hold = d.hold := (rfl)
@[simp] theorem putSq_adm (d : Device) (fn q : Nat) (x : Sq) : (d.putSq fn q x).adm = d.adm := (rfl)
@[simp] theorem putSq_rst (d : Device) (fn q : Nat) (x : Sq) : (d.putSq fn q x).rst = d.rst := (rfl)
@[simp] theorem putSq_mir (d : Device) (fn q : Nat) (x : Sq) : (d.putSq fn q x).mir = d.mir := (rfl)
@[simp] theorem putSq_qmg (d : Device) (fn q : Nat) (x : Sq) : (d.putSq fn q x).qmg = d.qmg := (rfl)
@[simp] theorem putSq_sup (d : Device) (fn q : Nat) (x : Sq) : (d.putSq fn q x).sup = d.sup := (rfl)
@[simp] theorem putSq_profiles (d : Device) (fn q : Nat) (x : Sq) : (d.putSq fn q x).profiles = d.profiles := (rfl)
@[simp] theorem putSq_cph (d : Device) (fn q : Nat) (x : Sq) : (d.putSq fn q x).cph = d.cph := (rfl)
@[simp] theorem putSq_fws (d : Device) (fn q : Nat) (x : Sq) : (d.putSq fn q x).fws = d.fws := (rfl)
@[simp] theorem putSq_age (d : Device) (fn q : Nat) (x : Sq) : (d.putSq fn q x).age = d.age := (rfl)
@[simp] theorem putSq_trl (d : Device) (fn q : Nat) (x : Sq) : (d.putSq fn q x).trl = d.trl := (rfl)
@[simp] theorem putSq_net (d : Device) (fn q : Nat) (x : Sq) : (d.putSq fn q x).net = d.net := (rfl)
@[simp] theorem putSq_pdt (d : Device) (fn q : Nat) (x : Sq) : (d.putSq fn q x).pdt = d.pdt := (rfl)
@[simp] theorem putSq_drm (d : Device) (fn q : Nat) (x : Sq) : (d.putSq fn q x).drm = d.drm := (rfl)
@[simp] theorem putSq_cel (d : Device) (fn q : Nat) (x : Sq) : (d.putSq fn q x).cel = d.cel := (rfl)

/-! ### putCq -/

@[simp] theorem putCq_regs (d : Device) (fn q : Nat) (x : Cq) : (d.putCq fn q x).regs = d.regs := (rfl)
@[simp] theorem putCq_latches (d : Device) (fn q : Nat) (x : Cq) : (d.putCq fn q x).latches = d.latches := (rfl)
@[simp] theorem putCq_mem (d : Device) (fn q : Nat) (x : Cq) : (d.putCq fn q x).mem = d.mem := (rfl)
@[simp] theorem putCq_now (d : Device) (fn q : Nat) (x : Cq) : (d.putCq fn q x).now = d.now := (rfl)
@[simp] theorem putCq_usecBase (d : Device) (fn q : Nat) (x : Cq) : (d.putCq fn q x).usecBase = d.usecBase := (rfl)
@[simp] theorem putCq_freeCtr (d : Device) (fn q : Nat) (x : Cq) : (d.putCq fn q x).freeCtr = d.freeCtr := (rfl)
@[simp] theorem putCq_out (d : Device) (fn q : Nat) (x : Cq) : (d.putCq fn q x).out = d.out := (rfl)
@[simp] theorem putCq_i3cPtr (d : Device) (fn q : Nat) (x : Cq) : (d.putCq fn q x).i3cPtr = d.i3cPtr := (rfl)
@[simp] theorem putCq_i3cForm (d : Device) (fn q : Nat) (x : Cq) : (d.putCq fn q x).i3cForm = d.i3cForm := (rfl)
@[simp] theorem putCq_i3cIbi (d : Device) (fn q : Nat) (x : Cq) : (d.putCq fn q x).i3cIbi = d.i3cIbi := (rfl)
@[simp] theorem putCq_hubOn (d : Device) (fn q : Nat) (x : Cq) : (d.putCq fn q x).hubOn = d.hubOn := (rfl)
@[simp] theorem putCq_evr (d : Device) (fn q : Nat) (x : Cq) : (d.putCq fn q x).evr = d.evr := (rfl)
@[simp] theorem putCq_pst (d : Device) (fn q : Nat) (x : Cq) : (d.putCq fn q x).pst = d.pst := (rfl)
@[simp] theorem putCq_csk (d : Device) (fn q : Nat) (x : Cq) : (d.putCq fn q x).csk = d.csk := (rfl)
@[simp] theorem putCq_hold (d : Device) (fn q : Nat) (x : Cq) : (d.putCq fn q x).hold = d.hold := (rfl)
@[simp] theorem putCq_adm (d : Device) (fn q : Nat) (x : Cq) : (d.putCq fn q x).adm = d.adm := (rfl)
@[simp] theorem putCq_rst (d : Device) (fn q : Nat) (x : Cq) : (d.putCq fn q x).rst = d.rst := (rfl)
@[simp] theorem putCq_mir (d : Device) (fn q : Nat) (x : Cq) : (d.putCq fn q x).mir = d.mir := (rfl)
@[simp] theorem putCq_qmg (d : Device) (fn q : Nat) (x : Cq) : (d.putCq fn q x).qmg = d.qmg := (rfl)
@[simp] theorem putCq_sup (d : Device) (fn q : Nat) (x : Cq) : (d.putCq fn q x).sup = d.sup := (rfl)
@[simp] theorem putCq_profiles (d : Device) (fn q : Nat) (x : Cq) : (d.putCq fn q x).profiles = d.profiles := (rfl)
@[simp] theorem putCq_cph (d : Device) (fn q : Nat) (x : Cq) : (d.putCq fn q x).cph = d.cph := (rfl)
@[simp] theorem putCq_fws (d : Device) (fn q : Nat) (x : Cq) : (d.putCq fn q x).fws = d.fws := (rfl)
@[simp] theorem putCq_age (d : Device) (fn q : Nat) (x : Cq) : (d.putCq fn q x).age = d.age := (rfl)
@[simp] theorem putCq_trl (d : Device) (fn q : Nat) (x : Cq) : (d.putCq fn q x).trl = d.trl := (rfl)
@[simp] theorem putCq_net (d : Device) (fn q : Nat) (x : Cq) : (d.putCq fn q x).net = d.net := (rfl)
@[simp] theorem putCq_pdt (d : Device) (fn q : Nat) (x : Cq) : (d.putCq fn q x).pdt = d.pdt := (rfl)
@[simp] theorem putCq_drm (d : Device) (fn q : Nat) (x : Cq) : (d.putCq fn q x).drm = d.drm := (rfl)
@[simp] theorem putCq_cel (d : Device) (fn q : Nat) (x : Cq) : (d.putCq fn q x).cel = d.cel := (rfl)

/-! ### delSq -/

@[simp] theorem delSq_regs (d : Device) (fn q : Nat) : (d.delSq fn q).regs = d.regs := (rfl)
@[simp] theorem delSq_latches (d : Device) (fn q : Nat) : (d.delSq fn q).latches = d.latches := (rfl)
@[simp] theorem delSq_mem (d : Device) (fn q : Nat) : (d.delSq fn q).mem = d.mem := (rfl)
@[simp] theorem delSq_now (d : Device) (fn q : Nat) : (d.delSq fn q).now = d.now := (rfl)
@[simp] theorem delSq_usecBase (d : Device) (fn q : Nat) : (d.delSq fn q).usecBase = d.usecBase := (rfl)
@[simp] theorem delSq_freeCtr (d : Device) (fn q : Nat) : (d.delSq fn q).freeCtr = d.freeCtr := (rfl)
@[simp] theorem delSq_out (d : Device) (fn q : Nat) : (d.delSq fn q).out = d.out := (rfl)
@[simp] theorem delSq_i3cPtr (d : Device) (fn q : Nat) : (d.delSq fn q).i3cPtr = d.i3cPtr := (rfl)
@[simp] theorem delSq_i3cForm (d : Device) (fn q : Nat) : (d.delSq fn q).i3cForm = d.i3cForm := (rfl)
@[simp] theorem delSq_i3cIbi (d : Device) (fn q : Nat) : (d.delSq fn q).i3cIbi = d.i3cIbi := (rfl)
@[simp] theorem delSq_hubOn (d : Device) (fn q : Nat) : (d.delSq fn q).hubOn = d.hubOn := (rfl)
@[simp] theorem delSq_evr (d : Device) (fn q : Nat) : (d.delSq fn q).evr = d.evr := (rfl)
@[simp] theorem delSq_pst (d : Device) (fn q : Nat) : (d.delSq fn q).pst = d.pst := (rfl)
@[simp] theorem delSq_csk (d : Device) (fn q : Nat) : (d.delSq fn q).csk = d.csk := (rfl)
@[simp] theorem delSq_hold (d : Device) (fn q : Nat) : (d.delSq fn q).hold = d.hold := (rfl)
@[simp] theorem delSq_adm (d : Device) (fn q : Nat) : (d.delSq fn q).adm = d.adm := (rfl)
@[simp] theorem delSq_rst (d : Device) (fn q : Nat) : (d.delSq fn q).rst = d.rst := (rfl)
@[simp] theorem delSq_mir (d : Device) (fn q : Nat) : (d.delSq fn q).mir = d.mir := (rfl)
@[simp] theorem delSq_qmg (d : Device) (fn q : Nat) : (d.delSq fn q).qmg = d.qmg := (rfl)
@[simp] theorem delSq_sup (d : Device) (fn q : Nat) : (d.delSq fn q).sup = d.sup := (rfl)
@[simp] theorem delSq_profiles (d : Device) (fn q : Nat) : (d.delSq fn q).profiles = d.profiles := (rfl)
@[simp] theorem delSq_cph (d : Device) (fn q : Nat) : (d.delSq fn q).cph = d.cph := (rfl)
@[simp] theorem delSq_fws (d : Device) (fn q : Nat) : (d.delSq fn q).fws = d.fws := (rfl)
@[simp] theorem delSq_age (d : Device) (fn q : Nat) : (d.delSq fn q).age = d.age := (rfl)
@[simp] theorem delSq_trl (d : Device) (fn q : Nat) : (d.delSq fn q).trl = d.trl := (rfl)
@[simp] theorem delSq_net (d : Device) (fn q : Nat) : (d.delSq fn q).net = d.net := (rfl)
@[simp] theorem delSq_pdt (d : Device) (fn q : Nat) : (d.delSq fn q).pdt = d.pdt := (rfl)
@[simp] theorem delSq_drm (d : Device) (fn q : Nat) : (d.delSq fn q).drm = d.drm := (rfl)
@[simp] theorem delSq_cel (d : Device) (fn q : Nat) : (d.delSq fn q).cel = d.cel := (rfl)

/-! ### delCq -/

@[simp] theorem delCq_regs (d : Device) (fn q : Nat) : (d.delCq fn q).regs = d.regs := (rfl)
@[simp] theorem delCq_latches (d : Device) (fn q : Nat) : (d.delCq fn q).latches = d.latches := (rfl)
@[simp] theorem delCq_mem (d : Device) (fn q : Nat) : (d.delCq fn q).mem = d.mem := (rfl)
@[simp] theorem delCq_now (d : Device) (fn q : Nat) : (d.delCq fn q).now = d.now := (rfl)
@[simp] theorem delCq_usecBase (d : Device) (fn q : Nat) : (d.delCq fn q).usecBase = d.usecBase := (rfl)
@[simp] theorem delCq_freeCtr (d : Device) (fn q : Nat) : (d.delCq fn q).freeCtr = d.freeCtr := (rfl)
@[simp] theorem delCq_out (d : Device) (fn q : Nat) : (d.delCq fn q).out = d.out := (rfl)
@[simp] theorem delCq_i3cPtr (d : Device) (fn q : Nat) : (d.delCq fn q).i3cPtr = d.i3cPtr := (rfl)
@[simp] theorem delCq_i3cForm (d : Device) (fn q : Nat) : (d.delCq fn q).i3cForm = d.i3cForm := (rfl)
@[simp] theorem delCq_i3cIbi (d : Device) (fn q : Nat) : (d.delCq fn q).i3cIbi = d.i3cIbi := (rfl)
@[simp] theorem delCq_hubOn (d : Device) (fn q : Nat) : (d.delCq fn q).hubOn = d.hubOn := (rfl)
@[simp] theorem delCq_evr (d : Device) (fn q : Nat) : (d.delCq fn q).evr = d.evr := (rfl)
@[simp] theorem delCq_pst (d : Device) (fn q : Nat) : (d.delCq fn q).pst = d.pst := (rfl)
@[simp] theorem delCq_csk (d : Device) (fn q : Nat) : (d.delCq fn q).csk = d.csk := (rfl)
@[simp] theorem delCq_hold (d : Device) (fn q : Nat) : (d.delCq fn q).hold = d.hold := (rfl)
@[simp] theorem delCq_adm (d : Device) (fn q : Nat) : (d.delCq fn q).adm = d.adm := (rfl)
@[simp] theorem delCq_rst (d : Device) (fn q : Nat) : (d.delCq fn q).rst = d.rst := (rfl)
@[simp] theorem delCq_mir (d : Device) (fn q : Nat) : (d.delCq fn q).mir = d.mir := (rfl)
@[simp] theorem delCq_qmg (d : Device) (fn q : Nat) : (d.delCq fn q).qmg = d.qmg := (rfl)
@[simp] theorem delCq_sup (d : Device) (fn q : Nat) : (d.delCq fn q).sup = d.sup := (rfl)
@[simp] theorem delCq_profiles (d : Device) (fn q : Nat) : (d.delCq fn q).profiles = d.profiles := (rfl)
@[simp] theorem delCq_cph (d : Device) (fn q : Nat) : (d.delCq fn q).cph = d.cph := (rfl)
@[simp] theorem delCq_fws (d : Device) (fn q : Nat) : (d.delCq fn q).fws = d.fws := (rfl)
@[simp] theorem delCq_age (d : Device) (fn q : Nat) : (d.delCq fn q).age = d.age := (rfl)
@[simp] theorem delCq_trl (d : Device) (fn q : Nat) : (d.delCq fn q).trl = d.trl := (rfl)
@[simp] theorem delCq_net (d : Device) (fn q : Nat) : (d.delCq fn q).net = d.net := (rfl)
@[simp] theorem delCq_pdt (d : Device) (fn q : Nat) : (d.delCq fn q).pdt = d.pdt := (rfl)
@[simp] theorem delCq_drm (d : Device) (fn q : Nat) : (d.delCq fn q).drm = d.drm := (rfl)
@[simp] theorem delCq_cel (d : Device) (fn q : Nat) : (d.delCq fn q).cel = d.cel := (rfl)

/-! ### setBytes -/

@[simp] theorem setBytes_regs (d : Device) (k : Nat) (bs : List Byte) : (d.setBytes k bs).regs = d.regs := (rfl)
@[simp] theorem setBytes_latches (d : Device) (k : Nat) (bs : List Byte) : (d.setBytes k bs).latches = d.latches := (rfl)
@[simp] theorem setBytes_now (d : Device) (k : Nat) (bs : List Byte) : (d.setBytes k bs).now = d.now := (rfl)
@[simp] theorem setBytes_usecBase (d : Device) (k : Nat) (bs : List Byte) : (d.setBytes k bs).usecBase = d.usecBase := (rfl)
@[simp] theorem setBytes_freeCtr (d : Device) (k : Nat) (bs : List Byte) : (d.setBytes k bs).freeCtr = d.freeCtr := (rfl)
@[simp] theorem setBytes_out (d : Device) (k : Nat) (bs : List Byte) : (d.setBytes k bs).out = d.out := (rfl)
@[simp] theorem setBytes_i3cPtr (d : Device) (k : Nat) (bs : List Byte) : (d.setBytes k bs).i3cPtr = d.i3cPtr := (rfl)
@[simp] theorem setBytes_i3cForm (d : Device) (k : Nat) (bs : List Byte) : (d.setBytes k bs).i3cForm = d.i3cForm := (rfl)
@[simp] theorem setBytes_i3cIbi (d : Device) (k : Nat) (bs : List Byte) : (d.setBytes k bs).i3cIbi = d.i3cIbi := (rfl)
@[simp] theorem setBytes_hubOn (d : Device) (k : Nat) (bs : List Byte) : (d.setBytes k bs).hubOn = d.hubOn := (rfl)
@[simp] theorem setBytes_evr (d : Device) (k : Nat) (bs : List Byte) : (d.setBytes k bs).evr = d.evr := (rfl)
@[simp] theorem setBytes_hrg (d : Device) (k : Nat) (bs : List Byte) : (d.setBytes k bs).hrg = d.hrg := (rfl)
@[simp] theorem setBytes_pst (d : Device) (k : Nat) (bs : List Byte) : (d.setBytes k bs).pst = d.pst := (rfl)
@[simp] theorem setBytes_csk (d : Device) (k : Nat) (bs : List Byte) : (d.setBytes k bs).csk = d.csk := (rfl)
@[simp] theorem setBytes_hold (d : Device) (k : Nat) (bs : List Byte) : (d.setBytes k bs).hold = d.hold := (rfl)
@[simp] theorem setBytes_adm (d : Device) (k : Nat) (bs : List Byte) : (d.setBytes k bs).adm = d.adm := (rfl)
@[simp] theorem setBytes_rst (d : Device) (k : Nat) (bs : List Byte) : (d.setBytes k bs).rst = d.rst := (rfl)
@[simp] theorem setBytes_mir (d : Device) (k : Nat) (bs : List Byte) : (d.setBytes k bs).mir = d.mir := (rfl)
@[simp] theorem setBytes_qmg (d : Device) (k : Nat) (bs : List Byte) : (d.setBytes k bs).qmg = d.qmg := (rfl)
@[simp] theorem setBytes_sup (d : Device) (k : Nat) (bs : List Byte) : (d.setBytes k bs).sup = d.sup := (rfl)
@[simp] theorem setBytes_profiles (d : Device) (k : Nat) (bs : List Byte) : (d.setBytes k bs).profiles = d.profiles := (rfl)
@[simp] theorem setBytes_cph (d : Device) (k : Nat) (bs : List Byte) : (d.setBytes k bs).cph = d.cph := (rfl)
@[simp] theorem setBytes_fws (d : Device) (k : Nat) (bs : List Byte) : (d.setBytes k bs).fws = d.fws := (rfl)
@[simp] theorem setBytes_age (d : Device) (k : Nat) (bs : List Byte) : (d.setBytes k bs).age = d.age := (rfl)
@[simp] theorem setBytes_trl (d : Device) (k : Nat) (bs : List Byte) : (d.setBytes k bs).trl = d.trl := (rfl)
@[simp] theorem setBytes_net (d : Device) (k : Nat) (bs : List Byte) : (d.setBytes k bs).net = d.net := (rfl)
@[simp] theorem setBytes_pdt (d : Device) (k : Nat) (bs : List Byte) : (d.setBytes k bs).pdt = d.pdt := (rfl)
@[simp] theorem setBytes_drm (d : Device) (k : Nat) (bs : List Byte) : (d.setBytes k bs).drm = d.drm := (rfl)
@[simp] theorem setBytes_cel (d : Device) (k : Nat) (bs : List Byte) : (d.setBytes k bs).cel = d.cel := (rfl)

/-! ### clearBytes -/

@[simp] theorem clearBytes_regs (d : Device) (a n : Nat) : (d.clearBytes a n).regs = d.regs := (rfl)
@[simp] theorem clearBytes_latches (d : Device) (a n : Nat) : (d.clearBytes a n).latches = d.latches := (rfl)
@[simp] theorem clearBytes_now (d : Device) (a n : Nat) : (d.clearBytes a n).now = d.now := (rfl)
@[simp] theorem clearBytes_usecBase (d : Device) (a n : Nat) : (d.clearBytes a n).usecBase = d.usecBase := (rfl)
@[simp] theorem clearBytes_freeCtr (d : Device) (a n : Nat) : (d.clearBytes a n).freeCtr = d.freeCtr := (rfl)
@[simp] theorem clearBytes_out (d : Device) (a n : Nat) : (d.clearBytes a n).out = d.out := (rfl)
@[simp] theorem clearBytes_i3cPtr (d : Device) (a n : Nat) : (d.clearBytes a n).i3cPtr = d.i3cPtr := (rfl)
@[simp] theorem clearBytes_i3cForm (d : Device) (a n : Nat) : (d.clearBytes a n).i3cForm = d.i3cForm := (rfl)
@[simp] theorem clearBytes_i3cIbi (d : Device) (a n : Nat) : (d.clearBytes a n).i3cIbi = d.i3cIbi := (rfl)
@[simp] theorem clearBytes_hubOn (d : Device) (a n : Nat) : (d.clearBytes a n).hubOn = d.hubOn := (rfl)
@[simp] theorem clearBytes_evr (d : Device) (a n : Nat) : (d.clearBytes a n).evr = d.evr := (rfl)
@[simp] theorem clearBytes_hrg (d : Device) (a n : Nat) : (d.clearBytes a n).hrg = d.hrg := (rfl)
@[simp] theorem clearBytes_pst (d : Device) (a n : Nat) : (d.clearBytes a n).pst = d.pst := (rfl)
@[simp] theorem clearBytes_csk (d : Device) (a n : Nat) : (d.clearBytes a n).csk = d.csk := (rfl)
@[simp] theorem clearBytes_hold (d : Device) (a n : Nat) : (d.clearBytes a n).hold = d.hold := (rfl)
@[simp] theorem clearBytes_adm (d : Device) (a n : Nat) : (d.clearBytes a n).adm = d.adm := (rfl)
@[simp] theorem clearBytes_rst (d : Device) (a n : Nat) : (d.clearBytes a n).rst = d.rst := (rfl)
@[simp] theorem clearBytes_mir (d : Device) (a n : Nat) : (d.clearBytes a n).mir = d.mir := (rfl)
@[simp] theorem clearBytes_qmg (d : Device) (a n : Nat) : (d.clearBytes a n).qmg = d.qmg := (rfl)
@[simp] theorem clearBytes_sup (d : Device) (a n : Nat) : (d.clearBytes a n).sup = d.sup := (rfl)
@[simp] theorem clearBytes_profiles (d : Device) (a n : Nat) : (d.clearBytes a n).profiles = d.profiles := (rfl)
@[simp] theorem clearBytes_cph (d : Device) (a n : Nat) : (d.clearBytes a n).cph = d.cph := (rfl)
@[simp] theorem clearBytes_fws (d : Device) (a n : Nat) : (d.clearBytes a n).fws = d.fws := (rfl)
@[simp] theorem clearBytes_age (d : Device) (a n : Nat) : (d.clearBytes a n).age = d.age := (rfl)
@[simp] theorem clearBytes_trl (d : Device) (a n : Nat) : (d.clearBytes a n).trl = d.trl := (rfl)
@[simp] theorem clearBytes_net (d : Device) (a n : Nat) : (d.clearBytes a n).net = d.net := (rfl)
@[simp] theorem clearBytes_pdt (d : Device) (a n : Nat) : (d.clearBytes a n).pdt = d.pdt := (rfl)
@[simp] theorem clearBytes_drm (d : Device) (a n : Nat) : (d.clearBytes a n).drm = d.drm := (rfl)
@[simp] theorem clearBytes_cel (d : Device) (a n : Nat) : (d.clearBytes a n).cel = d.cel := (rfl)

end Device
end Sys2Proof.Machine
end

