-- ==== Sys2Proof/Laws/Ops.lean ====
section
/-! SUPPORT. What each shared operation over registers, clock, outputs, events and interrupts leaves as it was, a field at a time; these lemmas stand
for the operations wherever a proof would unfold them. -/

namespace Sys2Proof.Machine
namespace Device

/-- A fold of a function that keeps something keeps it. -/
theorem foldl_keeps {α β : Type} (p : Device → β) (f : Device → α → Device) (h : ∀ d a, p (f d a) = p d) (l : List α) (d : Device) : p (l.foldl f d) = p d := by
  induction l generalizing d with
  | nil => rfl
  | cons a l ih => rw [List.foldl_cons, ih, h]

theorem ite_regs (c : Prop) [Decidable c] (x y : Device) : (if c then x else y).regs = if c then x.regs else y.regs := by split <;> rfl
theorem ite_latches (c : Prop) [Decidable c] (x y : Device) : (if c then x else y).latches = if c then x.latches else y.latches := by split <;> rfl
theorem ite_mem (c : Prop) [Decidable c] (x y : Device) : (if c then x else y).mem = if c then x.mem else y.mem := by split <;> rfl
theorem ite_now (c : Prop) [Decidable c] (x y : Device) : (if c then x else y).now = if c then x.now else y.now := by split <;> rfl
theorem ite_usecBase (c : Prop) [Decidable c] (x y : Device) : (if c then x else y).usecBase = if c then x.usecBase else y.usecBase := by split <;> rfl
theorem ite_freeCtr (c : Prop) [Decidable c] (x y : Device) : (if c then x else y).freeCtr = if c then x.freeCtr else y.freeCtr := by split <;> rfl
theorem ite_out (c : Prop) [Decidable c] (x y : Device) : (if c then x else y).out = if c then x.out else y.out := by split <;> rfl
theorem ite_i3cPtr (c : Prop) [Decidable c] (x y : Device) : (if c then x else y).i3cPtr = if c then x.i3cPtr else y.i3cPtr := by split <;> rfl
theorem ite_i3cForm (c : Prop) [Decidable c] (x y : Device) : (if c then x else y).i3cForm = if c then x.i3cForm else y.i3cForm := by split <;> rfl
theorem ite_i3cIbi (c : Prop) [Decidable c] (x y : Device) : (if c then x else y).i3cIbi = if c then x.i3cIbi else y.i3cIbi := by split <;> rfl
theorem ite_hubOn (c : Prop) [Decidable c] (x y : Device) : (if c then x else y).hubOn = if c then x.hubOn else y.hubOn := by split <;> rfl
theorem ite_evr (c : Prop) [Decidable c] (x y : Device) : (if c then x else y).evr = if c then x.evr else y.evr := by split <;> rfl
theorem ite_hrg (c : Prop) [Decidable c] (x y : Device) : (if c then x else y).hrg = if c then x.hrg else y.hrg := by split <;> rfl
theorem ite_pst (c : Prop) [Decidable c] (x y : Device) : (if c then x else y).pst = if c then x.pst else y.pst := by split <;> rfl
theorem ite_csk (c : Prop) [Decidable c] (x y : Device) : (if c then x else y).csk = if c then x.csk else y.csk := by split <;> rfl
theorem ite_hold (c : Prop) [Decidable c] (x y : Device) : (if c then x else y).hold = if c then x.hold else y.hold := by split <;> rfl
theorem ite_adm (c : Prop) [Decidable c] (x y : Device) : (if c then x else y).adm = if c then x.adm else y.adm := by split <;> rfl
theorem ite_rst (c : Prop) [Decidable c] (x y : Device) : (if c then x else y).rst = if c then x.rst else y.rst := by split <;> rfl
theorem ite_mir (c : Prop) [Decidable c] (x y : Device) : (if c then x else y).mir = if c then x.mir else y.mir := by split <;> rfl
theorem ite_qmg (c : Prop) [Decidable c] (x y : Device) : (if c then x else y).qmg = if c then x.qmg else y.qmg := by split <;> rfl
theorem ite_sup (c : Prop) [Decidable c] (x y : Device) : (if c then x else y).sup = if c then x.sup else y.sup := by split <;> rfl
theorem ite_profiles (c : Prop) [Decidable c] (x y : Device) : (if c then x else y).profiles = if c then x.profiles else y.profiles := by split <;> rfl
theorem ite_cph (c : Prop) [Decidable c] (x y : Device) : (if c then x else y).cph = if c then x.cph else y.cph := by split <;> rfl
theorem ite_fws (c : Prop) [Decidable c] (x y : Device) : (if c then x else y).fws = if c then x.fws else y.fws := by split <;> rfl
theorem ite_age (c : Prop) [Decidable c] (x y : Device) : (if c then x else y).age = if c then x.age else y.age := by split <;> rfl
theorem ite_trl (c : Prop) [Decidable c] (x y : Device) : (if c then x else y).trl = if c then x.trl else y.trl := by split <;> rfl
theorem ite_net (c : Prop) [Decidable c] (x y : Device) : (if c then x else y).net = if c then x.net else y.net := by split <;> rfl
theorem ite_pdt (c : Prop) [Decidable c] (x y : Device) : (if c then x else y).pdt = if c then x.pdt else y.pdt := by split <;> rfl
theorem ite_drm (c : Prop) [Decidable c] (x y : Device) : (if c then x else y).drm = if c then x.drm else y.drm := by split <;> rfl
theorem ite_cel (c : Prop) [Decidable c] (x y : Device) : (if c then x else y).cel = if c then x.cel else y.cel := by split <;> rfl

/-! ### setFld -/

@[simp] theorem setFld_latches (d : Device) (f : Fld) (v inst : Nat) : (d.setFld f v inst).latches = d.latches := setReg_latches ..
@[simp] theorem setFld_mem (d : Device) (f : Fld) (v inst : Nat) : (d.setFld f v inst).mem = d.mem := setReg_mem ..
@[simp] theorem setFld_now (d : Device) (f : Fld) (v inst : Nat) : (d.setFld f v inst).now = d.now := setReg_now ..
@[simp] theorem setFld_usecBase (d : Device) (f : Fld) (v inst : Nat) : (d.setFld f v inst).usecBase = d.usecBase := setReg_usecBase ..
@[simp] theorem setFld_freeCtr (d : Device) (f : Fld) (v inst : Nat) : (d.setFld f v inst).freeCtr = d.freeCtr := setReg_freeCtr ..
@[simp] theorem setFld_out (d : Device) (f : Fld) (v inst : Nat) : (d.setFld f v inst).out = d.out := setReg_out ..
@[simp] theorem setFld_i3cPtr (d : Device) (f : Fld) (v inst : Nat) : (d.setFld f v inst).i3cPtr = d.i3cPtr := setReg_i3cPtr ..
@[simp] theorem setFld_i3cForm (d : Device) (f : Fld) (v inst : Nat) : (d.setFld f v inst).i3cForm = d.i3cForm := setReg_i3cForm ..
@[simp] theorem setFld_i3cIbi (d : Device) (f : Fld) (v inst : Nat) : (d.setFld f v inst).i3cIbi = d.i3cIbi := setReg_i3cIbi ..
@[simp] theorem setFld_hubOn (d : Device) (f : Fld) (v inst : Nat) : (d.setFld f v inst).hubOn = d.hubOn := setReg_hubOn ..
@[simp] theorem setFld_evr (d : Device) (f : Fld) (v inst : Nat) : (d.setFld f v inst).evr = d.evr := setReg_evr ..
@[simp] theorem setFld_hrg (d : Device) (f : Fld) (v inst : Nat) : (d.setFld f v inst).hrg = d.hrg := setReg_hrg ..
@[simp] theorem setFld_pst (d : Device) (f : Fld) (v inst : Nat) : (d.setFld f v inst).pst = d.pst := setReg_pst ..
@[simp] theorem setFld_csk (d : Device) (f : Fld) (v inst : Nat) : (d.setFld f v inst).csk = d.csk := setReg_csk ..
@[simp] theorem setFld_hold (d : Device) (f : Fld) (v inst : Nat) : (d.setFld f v inst).hold = d.hold := setReg_hold ..
@[simp] theorem setFld_adm (d : Device) (f : Fld) (v inst : Nat) : (d.setFld f v inst).adm = d.adm := setReg_adm ..
@[simp] theorem setFld_rst (d : Device) (f : Fld) (v inst : Nat) : (d.setFld f v inst).rst = d.rst := setReg_rst ..
@[simp] theorem setFld_mir (d : Device) (f : Fld) (v inst : Nat) : (d.setFld f v inst).mir = d.mir := setReg_mir ..
@[simp] theorem setFld_qmg (d : Device) (f : Fld) (v inst : Nat) : (d.setFld f v inst).qmg = d.qmg := setReg_qmg ..
@[simp] theorem setFld_sup (d : Device) (f : Fld) (v inst : Nat) : (d.setFld f v inst).sup = d.sup := setReg_sup ..
@[simp] theorem setFld_profiles (d : Device) (f : Fld) (v inst : Nat) : (d.setFld f v inst).profiles = d.profiles := setReg_profiles ..
@[simp] theorem setFld_cph (d : Device) (f : Fld) (v inst : Nat) : (d.setFld f v inst).cph = d.cph := setReg_cph ..
@[simp] theorem setFld_fws (d : Device) (f : Fld) (v inst : Nat) : (d.setFld f v inst).fws = d.fws := setReg_fws ..
@[simp] theorem setFld_age (d : Device) (f : Fld) (v inst : Nat) : (d.setFld f v inst).age = d.age := setReg_age ..
@[simp] theorem setFld_trl (d : Device) (f : Fld) (v inst : Nat) : (d.setFld f v inst).trl = d.trl := setReg_trl ..
@[simp] theorem setFld_net (d : Device) (f : Fld) (v inst : Nat) : (d.setFld f v inst).net = d.net := setReg_net ..
@[simp] theorem setFld_pdt (d : Device) (f : Fld) (v inst : Nat) : (d.setFld f v inst).pdt = d.pdt := setReg_pdt ..
@[simp] theorem setFld_drm (d : Device) (f : Fld) (v inst : Nat) : (d.setFld f v inst).drm = d.drm := setReg_drm ..
@[simp] theorem setFld_cel (d : Device) (f : Fld) (v inst : Nat) : (d.setFld f v inst).cel = d.cel := setReg_cel ..

/-! ### bump -/

@[simp] theorem bump_latches (d : Device) (f : Fld) (n inst : Nat) : (d.bump f n inst).latches = d.latches := setReg_latches ..
@[simp] theorem bump_mem (d : Device) (f : Fld) (n inst : Nat) : (d.bump f n inst).mem = d.mem := setReg_mem ..
@[simp] theorem bump_now (d : Device) (f : Fld) (n inst : Nat) : (d.bump f n inst).now = d.now := setReg_now ..
@[simp] theorem bump_usecBase (d : Device) (f : Fld) (n inst : Nat) : (d.bump f n inst).usecBase = d.usecBase := setReg_usecBase ..
@[simp] theorem bump_freeCtr (d : Device) (f : Fld) (n inst : Nat) : (d.bump f n inst).freeCtr = d.freeCtr := setReg_freeCtr ..
@[simp] theorem bump_out (d : Device) (f : Fld) (n inst : Nat) : (d.bump f n inst).out = d.out := setReg_out ..
@[simp] theorem bump_i3cPtr (d : Device) (f : Fld) (n inst : Nat) : (d.bump f n inst).i3cPtr = d.i3cPtr := setReg_i3cPtr ..
@[simp] theorem bump_i3cForm (d : Device) (f : Fld) (n inst : Nat) : (d.bump f n inst).i3cForm = d.i3cForm := setReg_i3cForm ..
@[simp] theorem bump_i3cIbi (d : Device) (f : Fld) (n inst : Nat) : (d.bump f n inst).i3cIbi = d.i3cIbi := setReg_i3cIbi ..
@[simp] theorem bump_hubOn (d : Device) (f : Fld) (n inst : Nat) : (d.bump f n inst).hubOn = d.hubOn := setReg_hubOn ..
@[simp] theorem bump_evr (d : Device) (f : Fld) (n inst : Nat) : (d.bump f n inst).evr = d.evr := setReg_evr ..
@[simp] theorem bump_hrg (d : Device) (f : Fld) (n inst : Nat) : (d.bump f n inst).hrg = d.hrg := setReg_hrg ..
@[simp] theorem bump_pst (d : Device) (f : Fld) (n inst : Nat) : (d.bump f n inst).pst = d.pst := setReg_pst ..
@[simp] theorem bump_csk (d : Device) (f : Fld) (n inst : Nat) : (d.bump f n inst).csk = d.csk := setReg_csk ..
@[simp] theorem bump_hold (d : Device) (f : Fld) (n inst : Nat) : (d.bump f n inst).hold = d.hold := setReg_hold ..
@[simp] theorem bump_adm (d : Device) (f : Fld) (n inst : Nat) : (d.bump f n inst).adm = d.adm := setReg_adm ..
@[simp] theorem bump_rst (d : Device) (f : Fld) (n inst : Nat) : (d.bump f n inst).rst = d.rst := setReg_rst ..
@[simp] theorem bump_mir (d : Device) (f : Fld) (n inst : Nat) : (d.bump f n inst).mir = d.mir := setReg_mir ..
@[simp] theorem bump_qmg (d : Device) (f : Fld) (n inst : Nat) : (d.bump f n inst).qmg = d.qmg := setReg_qmg ..
@[simp] theorem bump_sup (d : Device) (f : Fld) (n inst : Nat) : (d.bump f n inst).sup = d.sup := setReg_sup ..
@[simp] theorem bump_profiles (d : Device) (f : Fld) (n inst : Nat) : (d.bump f n inst).profiles = d.profiles := setReg_profiles ..
@[simp] theorem bump_cph (d : Device) (f : Fld) (n inst : Nat) : (d.bump f n inst).cph = d.cph := setReg_cph ..
@[simp] theorem bump_fws (d : Device) (f : Fld) (n inst : Nat) : (d.bump f n inst).fws = d.fws := setReg_fws ..
@[simp] theorem bump_age (d : Device) (f : Fld) (n inst : Nat) : (d.bump f n inst).age = d.age := setReg_age ..
@[simp] theorem bump_trl (d : Device) (f : Fld) (n inst : Nat) : (d.bump f n inst).trl = d.trl := setReg_trl ..
@[simp] theorem bump_net (d : Device) (f : Fld) (n inst : Nat) : (d.bump f n inst).net = d.net := setReg_net ..
@[simp] theorem bump_pdt (d : Device) (f : Fld) (n inst : Nat) : (d.bump f n inst).pdt = d.pdt := setReg_pdt ..
@[simp] theorem bump_drm (d : Device) (f : Fld) (n inst : Nat) : (d.bump f n inst).drm = d.drm := setReg_drm ..
@[simp] theorem bump_cel (d : Device) (f : Fld) (n inst : Nat) : (d.bump f n inst).cel = d.cel := setReg_cel ..

/-! ### bumpSat -/

@[simp] theorem bumpSat_latches (d : Device) (f : Fld) (n inst : Nat) : (d.bumpSat f n inst).latches = d.latches := setReg_latches ..
@[simp] theorem bumpSat_mem (d : Device) (f : Fld) (n inst : Nat) : (d.bumpSat f n inst).mem = d.mem := setReg_mem ..
@[simp] theorem bumpSat_now (d : Device) (f : Fld) (n inst : Nat) : (d.bumpSat f n inst).now = d.now := setReg_now ..
@[simp] theorem bumpSat_usecBase (d : Device) (f : Fld) (n inst : Nat) : (d.bumpSat f n inst).usecBase = d.usecBase := setReg_usecBase ..
@[simp] theorem bumpSat_freeCtr (d : Device) (f : Fld) (n inst : Nat) : (d.bumpSat f n inst).freeCtr = d.freeCtr := setReg_freeCtr ..
@[simp] theorem bumpSat_out (d : Device) (f : Fld) (n inst : Nat) : (d.bumpSat f n inst).out = d.out := setReg_out ..
@[simp] theorem bumpSat_i3cPtr (d : Device) (f : Fld) (n inst : Nat) : (d.bumpSat f n inst).i3cPtr = d.i3cPtr := setReg_i3cPtr ..
@[simp] theorem bumpSat_i3cForm (d : Device) (f : Fld) (n inst : Nat) : (d.bumpSat f n inst).i3cForm = d.i3cForm := setReg_i3cForm ..
@[simp] theorem bumpSat_i3cIbi (d : Device) (f : Fld) (n inst : Nat) : (d.bumpSat f n inst).i3cIbi = d.i3cIbi := setReg_i3cIbi ..
@[simp] theorem bumpSat_hubOn (d : Device) (f : Fld) (n inst : Nat) : (d.bumpSat f n inst).hubOn = d.hubOn := setReg_hubOn ..
@[simp] theorem bumpSat_evr (d : Device) (f : Fld) (n inst : Nat) : (d.bumpSat f n inst).evr = d.evr := setReg_evr ..
@[simp] theorem bumpSat_hrg (d : Device) (f : Fld) (n inst : Nat) : (d.bumpSat f n inst).hrg = d.hrg := setReg_hrg ..
@[simp] theorem bumpSat_pst (d : Device) (f : Fld) (n inst : Nat) : (d.bumpSat f n inst).pst = d.pst := setReg_pst ..
@[simp] theorem bumpSat_csk (d : Device) (f : Fld) (n inst : Nat) : (d.bumpSat f n inst).csk = d.csk := setReg_csk ..
@[simp] theorem bumpSat_hold (d : Device) (f : Fld) (n inst : Nat) : (d.bumpSat f n inst).hold = d.hold := setReg_hold ..
@[simp] theorem bumpSat_adm (d : Device) (f : Fld) (n inst : Nat) : (d.bumpSat f n inst).adm = d.adm := setReg_adm ..
@[simp] theorem bumpSat_rst (d : Device) (f : Fld) (n inst : Nat) : (d.bumpSat f n inst).rst = d.rst := setReg_rst ..
@[simp] theorem bumpSat_mir (d : Device) (f : Fld) (n inst : Nat) : (d.bumpSat f n inst).mir = d.mir := setReg_mir ..
@[simp] theorem bumpSat_qmg (d : Device) (f : Fld) (n inst : Nat) : (d.bumpSat f n inst).qmg = d.qmg := setReg_qmg ..
@[simp] theorem bumpSat_sup (d : Device) (f : Fld) (n inst : Nat) : (d.bumpSat f n inst).sup = d.sup := setReg_sup ..
@[simp] theorem bumpSat_profiles (d : Device) (f : Fld) (n inst : Nat) : (d.bumpSat f n inst).profiles = d.profiles := setReg_profiles ..
@[simp] theorem bumpSat_cph (d : Device) (f : Fld) (n inst : Nat) : (d.bumpSat f n inst).cph = d.cph := setReg_cph ..
@[simp] theorem bumpSat_fws (d : Device) (f : Fld) (n inst : Nat) : (d.bumpSat f n inst).fws = d.fws := setReg_fws ..
@[simp] theorem bumpSat_age (d : Device) (f : Fld) (n inst : Nat) : (d.bumpSat f n inst).age = d.age := setReg_age ..
@[simp] theorem bumpSat_trl (d : Device) (f : Fld) (n inst : Nat) : (d.bumpSat f n inst).trl = d.trl := setReg_trl ..
@[simp] theorem bumpSat_net (d : Device) (f : Fld) (n inst : Nat) : (d.bumpSat f n inst).net = d.net := setReg_net ..
@[simp] theorem bumpSat_pdt (d : Device) (f : Fld) (n inst : Nat) : (d.bumpSat f n inst).pdt = d.pdt := setReg_pdt ..
@[simp] theorem bumpSat_drm (d : Device) (f : Fld) (n inst : Nat) : (d.bumpSat f n inst).drm = d.drm := setReg_drm ..
@[simp] theorem bumpSat_cel (d : Device) (f : Fld) (n inst : Nat) : (d.bumpSat f n inst).cel = d.cel := setReg_cel ..

/-! ### setPair -/

@[simp] theorem setPair_latches (d : Device) (lo v inst : Nat) : (d.setPair lo v inst).latches = d.latches := (setReg_latches ..).trans (setReg_latches ..)
@[simp] theorem setPair_mem (d : Device) (lo v inst : Nat) : (d.setPair lo v inst).mem = d.mem := (setReg_mem ..).trans (setReg_mem ..)
@[simp] theorem setPair_now (d : Device) (lo v inst : Nat) : (d.setPair lo v inst).now = d.now := (setReg_now ..).trans (setReg_now ..)
@[simp] theorem setPair_usecBase (d : Device) (lo v inst : Nat) : (d.setPair lo v inst).usecBase = d.usecBase := (setReg_usecBase ..).trans (setReg_usecBase ..)
@[simp] theorem setPair_freeCtr (d : Device) (lo v inst : Nat) : (d.setPair lo v inst).freeCtr = d.freeCtr := (setReg_freeCtr ..).trans (setReg_freeCtr ..)
@[simp] theorem setPair_out (d : Device) (lo v inst : Nat) : (d.setPair lo v inst).out = d.out := (setReg_out ..).trans (setReg_out ..)
@[simp] theorem setPair_i3cPtr (d : Device) (lo v inst : Nat) : (d.setPair lo v inst).i3cPtr = d.i3cPtr := (setReg_i3cPtr ..).trans (setReg_i3cPtr ..)
@[simp] theorem setPair_i3cForm (d : Device) (lo v inst : Nat) : (d.setPair lo v inst).i3cForm = d.i3cForm := (setReg_i3cForm ..).trans (setReg_i3cForm ..)
@[simp] theorem setPair_i3cIbi (d : Device) (lo v inst : Nat) : (d.setPair lo v inst).i3cIbi = d.i3cIbi := (setReg_i3cIbi ..).trans (setReg_i3cIbi ..)
@[simp] theorem setPair_hubOn (d : Device) (lo v inst : Nat) : (d.setPair lo v inst).hubOn = d.hubOn := (setReg_hubOn ..).trans (setReg_hubOn ..)
@[simp] theorem setPair_evr (d : Device) (lo v inst : Nat) : (d.setPair lo v inst).evr = d.evr := (setReg_evr ..).trans (setReg_evr ..)
@[simp] theorem setPair_hrg (d : Device) (lo v inst : Nat) : (d.setPair lo v inst).hrg = d.hrg := (setReg_hrg ..).trans (setReg_hrg ..)
@[simp] theorem setPair_pst (d : Device) (lo v inst : Nat) : (d.setPair lo v inst).pst = d.pst := (setReg_pst ..).trans (setReg_pst ..)
@[simp] theorem setPair_csk (d : Device) (lo v inst : Nat) : (d.setPair lo v inst).csk = d.csk := (setReg_csk ..).trans (setReg_csk ..)
@[simp] theorem setPair_hold (d : Device) (lo v inst : Nat) : (d.setPair lo v inst).hold = d.hold := (setReg_hold ..).trans (setReg_hold ..)
@[simp] theorem setPair_adm (d : Device) (lo v inst : Nat) : (d.setPair lo v inst).adm = d.adm := (setReg_adm ..).trans (setReg_adm ..)
@[simp] theorem setPair_rst (d : Device) (lo v inst : Nat) : (d.setPair lo v inst).rst = d.rst := (setReg_rst ..).trans (setReg_rst ..)
@[simp] theorem setPair_mir (d : Device) (lo v inst : Nat) : (d.setPair lo v inst).mir = d.mir := (setReg_mir ..).trans (setReg_mir ..)
@[simp] theorem setPair_qmg (d : Device) (lo v inst : Nat) : (d.setPair lo v inst).qmg = d.qmg := (setReg_qmg ..).trans (setReg_qmg ..)
@[simp] theorem setPair_sup (d : Device) (lo v inst : Nat) : (d.setPair lo v inst).sup = d.sup := (setReg_sup ..).trans (setReg_sup ..)
@[simp] theorem setPair_profiles (d : Device) (lo v inst : Nat) : (d.setPair lo v inst).profiles = d.profiles := (setReg_profiles ..).trans (setReg_profiles ..)
@[simp] theorem setPair_cph (d : Device) (lo v inst : Nat) : (d.setPair lo v inst).cph = d.cph := (setReg_cph ..).trans (setReg_cph ..)
@[simp] theorem setPair_fws (d : Device) (lo v inst : Nat) : (d.setPair lo v inst).fws = d.fws := (setReg_fws ..).trans (setReg_fws ..)
@[simp] theorem setPair_age (d : Device) (lo v inst : Nat) : (d.setPair lo v inst).age = d.age := (setReg_age ..).trans (setReg_age ..)
@[simp] theorem setPair_trl (d : Device) (lo v inst : Nat) : (d.setPair lo v inst).trl = d.trl := (setReg_trl ..).trans (setReg_trl ..)
@[simp] theorem setPair_net (d : Device) (lo v inst : Nat) : (d.setPair lo v inst).net = d.net := (setReg_net ..).trans (setReg_net ..)
@[simp] theorem setPair_pdt (d : Device) (lo v inst : Nat) : (d.setPair lo v inst).pdt = d.pdt := (setReg_pdt ..).trans (setReg_pdt ..)
@[simp] theorem setPair_drm (d : Device) (lo v inst : Nat) : (d.setPair lo v inst).drm = d.drm := (setReg_drm ..).trans (setReg_drm ..)
@[simp] theorem setPair_cel (d : Device) (lo v inst : Nat) : (d.setPair lo v inst).cel = d.cel := (setReg_cel ..).trans (setReg_cel ..)

/-! ### bumpPair -/

@[simp] theorem bumpPair_latches (d : Device) (lo n inst : Nat) : (d.bumpPair lo n inst).latches = d.latches := setPair_latches ..
@[simp] theorem bumpPair_mem (d : Device) (lo n inst : Nat) : (d.bumpPair lo n inst).mem = d.mem := setPair_mem ..
@[simp] theorem bumpPair_now (d : Device) (lo n inst : Nat) : (d.bumpPair lo n inst).now = d.now := setPair_now ..
@[simp] theorem bumpPair_usecBase (d : Device) (lo n inst : Nat) : (d.bumpPair lo n inst).usecBase = d.usecBase := setPair_usecBase ..
@[simp] theorem bumpPair_freeCtr (d : Device) (lo n inst : Nat) : (d.bumpPair lo n inst).freeCtr = d.freeCtr := setPair_freeCtr ..
@[simp] theorem bumpPair_out (d : Device) (lo n inst : Nat) : (d.bumpPair lo n inst).out = d.out := setPair_out ..
@[simp] theorem bumpPair_i3cPtr (d : Device) (lo n inst : Nat) : (d.bumpPair lo n inst).i3cPtr = d.i3cPtr := setPair_i3cPtr ..
@[simp] theorem bumpPair_i3cForm (d : Device) (lo n inst : Nat) : (d.bumpPair lo n inst).i3cForm = d.i3cForm := setPair_i3cForm ..
@[simp] theorem bumpPair_i3cIbi (d : Device) (lo n inst : Nat) : (d.bumpPair lo n inst).i3cIbi = d.i3cIbi := setPair_i3cIbi ..
@[simp] theorem bumpPair_hubOn (d : Device) (lo n inst : Nat) : (d.bumpPair lo n inst).hubOn = d.hubOn := setPair_hubOn ..
@[simp] theorem bumpPair_evr (d : Device) (lo n inst : Nat) : (d.bumpPair lo n inst).evr = d.evr := setPair_evr ..
@[simp] theorem bumpPair_hrg (d : Device) (lo n inst : Nat) : (d.bumpPair lo n inst).hrg = d.hrg := setPair_hrg ..
@[simp] theorem bumpPair_pst (d : Device) (lo n inst : Nat) : (d.bumpPair lo n inst).pst = d.pst := setPair_pst ..
@[simp] theorem bumpPair_csk (d : Device) (lo n inst : Nat) : (d.bumpPair lo n inst).csk = d.csk := setPair_csk ..
@[simp] theorem bumpPair_hold (d : Device) (lo n inst : Nat) : (d.bumpPair lo n inst).hold = d.hold := setPair_hold ..
@[simp] theorem bumpPair_adm (d : Device) (lo n inst : Nat) : (d.bumpPair lo n inst).adm = d.adm := setPair_adm ..
@[simp] theorem bumpPair_rst (d : Device) (lo n inst : Nat) : (d.bumpPair lo n inst).rst = d.rst := setPair_rst ..
@[simp] theorem bumpPair_mir (d : Device) (lo n inst : Nat) : (d.bumpPair lo n inst).mir = d.mir := setPair_mir ..
@[simp] theorem bumpPair_qmg (d : Device) (lo n inst : Nat) : (d.bumpPair lo n inst).qmg = d.qmg := setPair_qmg ..
@[simp] theorem bumpPair_sup (d : Device) (lo n inst : Nat) : (d.bumpPair lo n inst).sup = d.sup := setPair_sup ..
@[simp] theorem bumpPair_profiles (d : Device) (lo n inst : Nat) : (d.bumpPair lo n inst).profiles = d.profiles := setPair_profiles ..
@[simp] theorem bumpPair_cph (d : Device) (lo n inst : Nat) : (d.bumpPair lo n inst).cph = d.cph := setPair_cph ..
@[simp] theorem bumpPair_fws (d : Device) (lo n inst : Nat) : (d.bumpPair lo n inst).fws = d.fws := setPair_fws ..
@[simp] theorem bumpPair_age (d : Device) (lo n inst : Nat) : (d.bumpPair lo n inst).age = d.age := setPair_age ..
@[simp] theorem bumpPair_trl (d : Device) (lo n inst : Nat) : (d.bumpPair lo n inst).trl = d.trl := setPair_trl ..
@[simp] theorem bumpPair_net (d : Device) (lo n inst : Nat) : (d.bumpPair lo n inst).net = d.net := setPair_net ..
@[simp] theorem bumpPair_pdt (d : Device) (lo n inst : Nat) : (d.bumpPair lo n inst).pdt = d.pdt := setPair_pdt ..
@[simp] theorem bumpPair_drm (d : Device) (lo n inst : Nat) : (d.bumpPair lo n inst).drm = d.drm := setPair_drm ..
@[simp] theorem bumpPair_cel (d : Device) (lo n inst : Nat) : (d.bumpPair lo n inst).cel = d.cel := setPair_cel ..

/-! ### pin -/

@[simp] theorem pin_regs (d : Device) (n : String) (l : Nat) : (d.pin n l).regs = d.regs := (rfl)
@[simp] theorem pin_latches (d : Device) (n : String) (l : Nat) : (d.pin n l).latches = d.latches := (rfl)
@[simp] theorem pin_mem (d : Device) (n : String) (l : Nat) : (d.pin n l).mem = d.mem := (rfl)
@[simp] theorem pin_now (d : Device) (n : String) (l : Nat) : (d.pin n l).now = d.now := (rfl)
@[simp] theorem pin_usecBase (d : Device) (n : String) (l : Nat) : (d.pin n l).usecBase = d.usecBase := (rfl)
@[simp] theorem pin_freeCtr (d : Device) (n : String) (l : Nat) : (d.pin n l).freeCtr = d.freeCtr := (rfl)
@[simp] theorem pin_i3cPtr (d : Device) (n : String) (l : Nat) : (d.pin n l).i3cPtr = d.i3cPtr := (rfl)
@[simp] theorem pin_i3cForm (d : Device) (n : String) (l : Nat) : (d.pin n l).i3cForm = d.i3cForm := (rfl)
@[simp] theorem pin_i3cIbi (d : Device) (n : String) (l : Nat) : (d.pin n l).i3cIbi = d.i3cIbi := (rfl)
@[simp] theorem pin_hubOn (d : Device) (n : String) (l : Nat) : (d.pin n l).hubOn = d.hubOn := (rfl)
@[simp] theorem pin_evr (d : Device) (n : String) (l : Nat) : (d.pin n l).evr = d.evr := (rfl)
@[simp] theorem pin_hrg (d : Device) (n : String) (l : Nat) : (d.pin n l).hrg = d.hrg := (rfl)
@[simp] theorem pin_pst (d : Device) (n : String) (l : Nat) : (d.pin n l).pst = d.pst := (rfl)
@[simp] theorem pin_csk (d : Device) (n : String) (l : Nat) : (d.pin n l).csk = d.csk := (rfl)
@[simp] theorem pin_hold (d : Device) (n : String) (l : Nat) : (d.pin n l).hold = d.hold := (rfl)
@[simp] theorem pin_adm (d : Device) (n : String) (l : Nat) : (d.pin n l).adm = d.adm := (rfl)
@[simp] theorem pin_rst (d : Device) (n : String) (l : Nat) : (d.pin n l).rst = d.rst := (rfl)
@[simp] theorem pin_mir (d : Device) (n : String) (l : Nat) : (d.pin n l).mir = d.mir := (rfl)
@[simp] theorem pin_qmg (d : Device) (n : String) (l : Nat) : (d.pin n l).qmg = d.qmg := (rfl)
@[simp] theorem pin_sup (d : Device) (n : String) (l : Nat) : (d.pin n l).sup = d.sup := (rfl)
@[simp] theorem pin_profiles (d : Device) (n : String) (l : Nat) : (d.pin n l).profiles = d.profiles := (rfl)
@[simp] theorem pin_cph (d : Device) (n : String) (l : Nat) : (d.pin n l).cph = d.cph := (rfl)
@[simp] theorem pin_fws (d : Device) (n : String) (l : Nat) : (d.pin n l).fws = d.fws := (rfl)
@[simp] theorem pin_age (d : Device) (n : String) (l : Nat) : (d.pin n l).age = d.age := (rfl)
@[simp] theorem pin_trl (d : Device) (n : String) (l : Nat) : (d.pin n l).trl = d.trl := (rfl)
@[simp] theorem pin_net (d : Device) (n : String) (l : Nat) : (d.pin n l).net = d.net := (rfl)
@[simp] theorem pin_pdt (d : Device) (n : String) (l : Nat) : (d.pin n l).pdt = d.pdt := (rfl)
@[simp] theorem pin_drm (d : Device) (n : String) (l : Nat) : (d.pin n l).drm = d.drm := (rfl)
@[simp] theorem pin_cel (d : Device) (n : String) (l : Nat) : (d.pin n l).cel = d.cel := (rfl)

/-! ### admitRun -/

@[simp] theorem admitRun_latches (d : Device) (n : Nat) : (d.admitRun n).latches = d.latches := by
  unfold admitRun
  simp only [ite_latches, bump_latches, ite_self]
@[simp] theorem admitRun_mem (d : Device) (n : Nat) : (d.admitRun n).mem = d.mem := by
  unfold admitRun
  simp only [ite_mem, bump_mem, ite_self]
@[simp] theorem admitRun_now (d : Device) (n : Nat) : (d.admitRun n).now = d.now := by
  unfold admitRun
  simp only [ite_now, bump_now, ite_self]
@[simp] theorem admitRun_usecBase (d : Device) (n : Nat) : (d.admitRun n).usecBase = d.usecBase := by
  unfold admitRun
  simp only [ite_usecBase, bump_usecBase, ite_self]
@[simp] theorem admitRun_freeCtr (d : Device) (n : Nat) : (d.admitRun n).freeCtr = d.freeCtr := by
  unfold admitRun
  simp only [ite_freeCtr, bump_freeCtr, ite_self]
@[simp] theorem admitRun_out (d : Device) (n : Nat) : (d.admitRun n).out = d.out := by
  unfold admitRun
  simp only [ite_out, bump_out, ite_self]
@[simp] theorem admitRun_i3cPtr (d : Device) (n : Nat) : (d.admitRun n).i3cPtr = d.i3cPtr := by
  unfold admitRun
  simp only [ite_i3cPtr, bump_i3cPtr, ite_self]
@[simp] theorem admitRun_i3cForm (d : Device) (n : Nat) : (d.admitRun n).i3cForm = d.i3cForm := by
  unfold admitRun
  simp only [ite_i3cForm, bump_i3cForm, ite_self]
@[simp] theorem admitRun_i3cIbi (d : Device) (n : Nat) : (d.admitRun n).i3cIbi = d.i3cIbi := by
  unfold admitRun
  simp only [ite_i3cIbi, bump_i3cIbi, ite_self]
@[simp] theorem admitRun_hubOn (d : Device) (n : Nat) : (d.admitRun n).hubOn = d.hubOn := by
  unfold admitRun
  simp only [ite_hubOn, bump_hubOn, ite_self]
@[simp] theorem admitRun_evr (d : Device) (n : Nat) : (d.admitRun n).evr = d.evr := by
  unfold admitRun
  simp only [ite_evr, bump_evr, ite_self]
@[simp] theorem admitRun_hrg (d : Device) (n : Nat) : (d.admitRun n).hrg = d.hrg := by
  unfold admitRun
  simp only [ite_hrg, bump_hrg, ite_self]
@[simp] theorem admitRun_pst (d : Device) (n : Nat) : (d.admitRun n).pst = d.pst := by
  unfold admitRun
  simp only [ite_pst, bump_pst, ite_self]
@[simp] theorem admitRun_csk (d : Device) (n : Nat) : (d.admitRun n).csk = d.csk := by
  unfold admitRun
  simp only [ite_csk, bump_csk, ite_self]
@[simp] theorem admitRun_hold (d : Device) (n : Nat) : (d.admitRun n).hold = d.hold := by
  unfold admitRun
  simp only [ite_hold, bump_hold, ite_self]
@[simp] theorem admitRun_rst (d : Device) (n : Nat) : (d.admitRun n).rst = d.rst := by
  unfold admitRun
  simp only [ite_rst, bump_rst, ite_self]
@[simp] theorem admitRun_mir (d : Device) (n : Nat) : (d.admitRun n).mir = d.mir := by
  unfold admitRun
  simp only [ite_mir, bump_mir, ite_self]
@[simp] theorem admitRun_qmg (d : Device) (n : Nat) : (d.admitRun n).qmg = d.qmg := by
  unfold admitRun
  simp only [ite_qmg, bump_qmg, ite_self]
@[simp] theorem admitRun_sup (d : Device) (n : Nat) : (d.admitRun n).sup = d.sup := by
  unfold admitRun
  simp only [ite_sup, bump_sup, ite_self]
@[simp] theorem admitRun_profiles (d : Device) (n : Nat) : (d.admitRun n).profiles = d.profiles := by
  unfold admitRun
  simp only [ite_profiles, bump_profiles, ite_self]
@[simp] theorem admitRun_cph (d : Device) (n : Nat) : (d.admitRun n).cph = d.cph := by
  unfold admitRun
  simp only [ite_cph, bump_cph, ite_self]
@[simp] theorem admitRun_fws (d : Device) (n : Nat) : (d.admitRun n).fws = d.fws := by
  unfold admitRun
  simp only [ite_fws, bump_fws, ite_self]
@[simp] theorem admitRun_age (d : Device) (n : Nat) : (d.admitRun n).age = d.age := by
  unfold admitRun
  simp only [ite_age, bump_age, ite_self]
@[simp] theorem admitRun_trl (d : Device) (n : Nat) : (d.admitRun n).trl = d.trl := by
  unfold admitRun
  simp only [ite_trl, bump_trl, ite_self]
@[simp] theorem admitRun_net (d : Device) (n : Nat) : (d.admitRun n).net = d.net := by
  unfold admitRun
  simp only [ite_net, bump_net, ite_self]
@[simp] theorem admitRun_pdt (d : Device) (n : Nat) : (d.admitRun n).pdt = d.pdt := by
  unfold admitRun
  simp only [ite_pdt, bump_pdt, ite_self]
@[simp] theorem admitRun_drm (d : Device) (n : Nat) : (d.admitRun n).drm = d.drm := by
  unfold admitRun
  simp only [ite_drm, bump_drm, ite_self]
@[simp] theorem admitRun_cel (d : Device) (n : Nat) : (d.admitRun n).cel = d.cel := by
  unfold admitRun
  simp only [ite_cel, bump_cel, ite_self]

/-- Time moves nothing of admission but the credit (R115). -/
theorem admitRun_adm (d : Device) (n : Nat) : ∃ c, (d.admitRun n).adm = { d.adm with credit := c } := by
  unfold admitRun
  split
  · exact ⟨_, rfl⟩
  · dsimp only
    split
    · exact ⟨_, by simp only [bump_adm]; rfl⟩
    · exact ⟨d.adm.credit, by simp only [bump_adm]⟩

/-! ### rtcRun -/

@[simp] theorem rtcRun_latches (d : Device) (n : Nat) : (d.rtcRun n).latches = d.latches := by
  unfold rtcRun
  simp only [bump_latches, setFld_latches]
@[simp] theorem rtcRun_mem (d : Device) (n : Nat) : (d.rtcRun n).mem = d.mem := by
  unfold rtcRun
  simp only [bump_mem, setFld_mem]
@[simp] theorem rtcRun_now (d : Device) (n : Nat) : (d.rtcRun n).now = d.now := by
  unfold rtcRun
  simp only [bump_now, setFld_now]
@[simp] theorem rtcRun_usecBase (d : Device) (n : Nat) : (d.rtcRun n).usecBase = d.usecBase := by
  unfold rtcRun
  simp only [bump_usecBase, setFld_usecBase]
@[simp] theorem rtcRun_freeCtr (d : Device) (n : Nat) : (d.rtcRun n).freeCtr = d.freeCtr := by
  unfold rtcRun
  simp only [bump_freeCtr, setFld_freeCtr]
@[simp] theorem rtcRun_out (d : Device) (n : Nat) : (d.rtcRun n).out = d.out := by
  unfold rtcRun
  simp only [bump_out, setFld_out]
@[simp] theorem rtcRun_i3cPtr (d : Device) (n : Nat) : (d.rtcRun n).i3cPtr = d.i3cPtr := by
  unfold rtcRun
  simp only [bump_i3cPtr, setFld_i3cPtr]
@[simp] theorem rtcRun_i3cForm (d : Device) (n : Nat) : (d.rtcRun n).i3cForm = d.i3cForm := by
  unfold rtcRun
  simp only [bump_i3cForm, setFld_i3cForm]
@[simp] theorem rtcRun_i3cIbi (d : Device) (n : Nat) : (d.rtcRun n).i3cIbi = d.i3cIbi := by
  unfold rtcRun
  simp only [bump_i3cIbi, setFld_i3cIbi]
@[simp] theorem rtcRun_hubOn (d : Device) (n : Nat) : (d.rtcRun n).hubOn = d.hubOn := by
  unfold rtcRun
  simp only [bump_hubOn, setFld_hubOn]
@[simp] theorem rtcRun_evr (d : Device) (n : Nat) : (d.rtcRun n).evr = d.evr := by
  unfold rtcRun
  simp only [bump_evr, setFld_evr]
@[simp] theorem rtcRun_hrg (d : Device) (n : Nat) : (d.rtcRun n).hrg = d.hrg := by
  unfold rtcRun
  simp only [bump_hrg, setFld_hrg]
@[simp] theorem rtcRun_pst (d : Device) (n : Nat) : (d.rtcRun n).pst = d.pst := by
  unfold rtcRun
  simp only [bump_pst, setFld_pst]
@[simp] theorem rtcRun_csk (d : Device) (n : Nat) : (d.rtcRun n).csk = d.csk := by
  unfold rtcRun
  simp only [bump_csk, setFld_csk]
@[simp] theorem rtcRun_hold (d : Device) (n : Nat) : (d.rtcRun n).hold = d.hold := by
  unfold rtcRun
  simp only [bump_hold, setFld_hold]
@[simp] theorem rtcRun_adm (d : Device) (n : Nat) : (d.rtcRun n).adm = d.adm := by
  unfold rtcRun
  simp only [bump_adm, setFld_adm]
@[simp] theorem rtcRun_rst (d : Device) (n : Nat) : (d.rtcRun n).rst = d.rst := by
  unfold rtcRun
  simp only [bump_rst, setFld_rst]
@[simp] theorem rtcRun_mir (d : Device) (n : Nat) : (d.rtcRun n).mir = d.mir := by
  unfold rtcRun
  simp only [bump_mir, setFld_mir]
@[simp] theorem rtcRun_qmg (d : Device) (n : Nat) : (d.rtcRun n).qmg = d.qmg := by
  unfold rtcRun
  simp only [bump_qmg, setFld_qmg]
@[simp] theorem rtcRun_profiles (d : Device) (n : Nat) : (d.rtcRun n).profiles = d.profiles := by
  unfold rtcRun
  simp only [bump_profiles, setFld_profiles]
@[simp] theorem rtcRun_cph (d : Device) (n : Nat) : (d.rtcRun n).cph = d.cph := by
  unfold rtcRun
  simp only [bump_cph, setFld_cph]
@[simp] theorem rtcRun_fws (d : Device) (n : Nat) : (d.rtcRun n).fws = d.fws := by
  unfold rtcRun
  simp only [bump_fws, setFld_fws]
@[simp] theorem rtcRun_age (d : Device) (n : Nat) : (d.rtcRun n).age = d.age := by
  unfold rtcRun
  simp only [bump_age, setFld_age]
@[simp] theorem rtcRun_trl (d : Device) (n : Nat) : (d.rtcRun n).trl = d.trl := by
  unfold rtcRun
  simp only [bump_trl, setFld_trl]
@[simp] theorem rtcRun_net (d : Device) (n : Nat) : (d.rtcRun n).net = d.net := by
  unfold rtcRun
  simp only [bump_net, setFld_net]
@[simp] theorem rtcRun_pdt (d : Device) (n : Nat) : (d.rtcRun n).pdt = d.pdt := by
  unfold rtcRun
  simp only [bump_pdt, setFld_pdt]
@[simp] theorem rtcRun_drm (d : Device) (n : Nat) : (d.rtcRun n).drm = d.drm := by
  unfold rtcRun
  simp only [bump_drm, setFld_drm]
@[simp] theorem rtcRun_cel (d : Device) (n : Nat) : (d.rtcRun n).cel = d.cel := by
  unfold rtcRun
  simp only [bump_cel, setFld_cel]

/-- Time moves nothing of the supply but the fraction of a clock of the RTC (R25). -/
theorem rtcRun_sup (d : Device) (n : Nat) : ∃ c, (d.rtcRun n).sup = { d.sup with rtcFrac := c } := by
  unfold rtcRun
  exact ⟨(d.sup.rtcFrac + n * 32768) % 1000000, by simp only [bump_sup, setFld_sup]⟩

/-! ### advance -/

@[simp] theorem advance_latches (d : Device) (n : Nat) : (d.advance n).latches = d.latches := by
  unfold advance
  simp only [ite_latches, rtcRun_latches, bumpSat_latches, admitRun_latches, ite_self]
@[simp] theorem advance_mem (d : Device) (n : Nat) : (d.advance n).mem = d.mem := by
  unfold advance
  simp only [ite_mem, rtcRun_mem, bumpSat_mem, admitRun_mem, ite_self]
@[simp] theorem advance_usecBase (d : Device) (n : Nat) : (d.advance n).usecBase = d.usecBase := by
  unfold advance
  simp only [ite_usecBase, rtcRun_usecBase, bumpSat_usecBase, admitRun_usecBase, ite_self]
@[simp] theorem advance_freeCtr (d : Device) (n : Nat) : (d.advance n).freeCtr = d.freeCtr := by
  unfold advance
  simp only [ite_freeCtr, rtcRun_freeCtr, bumpSat_freeCtr, admitRun_freeCtr, ite_self]
@[simp] theorem advance_out (d : Device) (n : Nat) : (d.advance n).out = d.out := by
  unfold advance
  simp only [ite_out, rtcRun_out, bumpSat_out, admitRun_out, ite_self]
@[simp] theorem advance_i3cPtr (d : Device) (n : Nat) : (d.advance n).i3cPtr = d.i3cPtr := by
  unfold advance
  simp only [ite_i3cPtr, rtcRun_i3cPtr, bumpSat_i3cPtr, admitRun_i3cPtr, ite_self]
@[simp] theorem advance_i3cForm (d : Device) (n : Nat) : (d.advance n).i3cForm = d.i3cForm := by
  unfold advance
  simp only [ite_i3cForm, rtcRun_i3cForm, bumpSat_i3cForm, admitRun_i3cForm, ite_self]
@[simp] theorem advance_i3cIbi (d : Device) (n : Nat) : (d.advance n).i3cIbi = d.i3cIbi := by
  unfold advance
  simp only [ite_i3cIbi, rtcRun_i3cIbi, bumpSat_i3cIbi, admitRun_i3cIbi, ite_self]
@[simp] theorem advance_hubOn (d : Device) (n : Nat) : (d.advance n).hubOn = d.hubOn := by
  unfold advance
  simp only [ite_hubOn, rtcRun_hubOn, bumpSat_hubOn, admitRun_hubOn, ite_self]
@[simp] theorem advance_evr (d : Device) (n : Nat) : (d.advance n).evr = d.evr := by
  unfold advance
  simp only [ite_evr, rtcRun_evr, bumpSat_evr, admitRun_evr, ite_self]
@[simp] theorem advance_hrg (d : Device) (n : Nat) : (d.advance n).hrg = d.hrg := by
  unfold advance
  simp only [ite_hrg, rtcRun_hrg, bumpSat_hrg, admitRun_hrg, ite_self]
@[simp] theorem advance_pst (d : Device) (n : Nat) : (d.advance n).pst = d.pst := by
  unfold advance
  simp only [ite_pst, rtcRun_pst, bumpSat_pst, admitRun_pst, ite_self]
@[simp] theorem advance_csk (d : Device) (n : Nat) : (d.advance n).csk = d.csk := by
  unfold advance
  simp only [ite_csk, rtcRun_csk, bumpSat_csk, admitRun_csk, ite_self]
@[simp] theorem advance_hold (d : Device) (n : Nat) : (d.advance n).hold = d.hold := by
  unfold advance
  simp only [ite_hold, rtcRun_hold, bumpSat_hold, admitRun_hold, ite_self]
@[simp] theorem advance_rst (d : Device) (n : Nat) : (d.advance n).rst = d.rst := by
  unfold advance
  simp only [ite_rst, rtcRun_rst, bumpSat_rst, admitRun_rst, ite_self]
@[simp] theorem advance_mir (d : Device) (n : Nat) : (d.advance n).mir = d.mir := by
  unfold advance
  simp only [ite_mir, rtcRun_mir, bumpSat_mir, admitRun_mir, ite_self]
@[simp] theorem advance_qmg (d : Device) (n : Nat) : (d.advance n).qmg = d.qmg := by
  unfold advance
  simp only [ite_qmg, rtcRun_qmg, bumpSat_qmg, admitRun_qmg, ite_self]
@[simp] theorem advance_profiles (d : Device) (n : Nat) : (d.advance n).profiles = d.profiles := by
  unfold advance
  simp only [ite_profiles, rtcRun_profiles, bumpSat_profiles, admitRun_profiles, ite_self]
@[simp] theorem advance_cph (d : Device) (n : Nat) : (d.advance n).cph = d.cph := by
  unfold advance
  simp only [ite_cph, rtcRun_cph, bumpSat_cph, admitRun_cph, ite_self]
@[simp] theorem advance_fws (d : Device) (n : Nat) : (d.advance n).fws = d.fws := by
  unfold advance
  simp only [ite_fws, rtcRun_fws, bumpSat_fws, admitRun_fws, ite_self]
@[simp] theorem advance_age (d : Device) (n : Nat) : (d.advance n).age = d.age := by
  unfold advance
  simp only [ite_age, rtcRun_age, bumpSat_age, admitRun_age, ite_self]
@[simp] theorem advance_trl (d : Device) (n : Nat) : (d.advance n).trl = d.trl := by
  unfold advance
  simp only [ite_trl, rtcRun_trl, bumpSat_trl, admitRun_trl, ite_self]
@[simp] theorem advance_net (d : Device) (n : Nat) : (d.advance n).net = d.net := by
  unfold advance
  simp only [ite_net, rtcRun_net, bumpSat_net, admitRun_net, ite_self]
@[simp] theorem advance_pdt (d : Device) (n : Nat) : (d.advance n).pdt = d.pdt := by
  unfold advance
  simp only [ite_pdt, rtcRun_pdt, bumpSat_pdt, admitRun_pdt, ite_self]
@[simp] theorem advance_drm (d : Device) (n : Nat) : (d.advance n).drm = d.drm := by
  unfold advance
  simp only [ite_drm, rtcRun_drm, bumpSat_drm, admitRun_drm, ite_self]
@[simp] theorem advance_cel (d : Device) (n : Nat) : (d.advance n).cel = d.cel := by
  unfold advance
  simp only [ite_cel, rtcRun_cel, bumpSat_cel, admitRun_cel, ite_self]

/-- Time moves nothing of admission but the credit (R115). -/
theorem advance_adm (d : Device) (n : Nat) : ∃ c, (d.advance n).adm = { d.adm with credit := c } := by
  unfold advance
  simp only [ite_adm, rtcRun_adm, bumpSat_adm, ite_self]
  exact admitRun_adm d n

/-- Time moves nothing of the supply but the fraction of a clock of the RTC (R25). -/
theorem advance_sup (d : Device) (n : Nat) : ∃ c, (d.advance n).sup = { d.sup with rtcFrac := c } := by
  have h (e : Device) (b : Bool) (he : e.sup = d.sup) : ∃ c, (if b then e.rtcRun n else e).sup = { d.sup with rtcFrac := c } := by
    cases b
    · exact ⟨d.sup.rtcFrac, he⟩
    · obtain ⟨c, hc⟩ := rtcRun_sup e n
      exact ⟨c, by simp only [if_true, hc, he]⟩
  exact h _ _ (by simp only [ite_sup, bumpSat_sup, admitRun_sup, ite_self])

/-! ### waitUntil -/

@[simp] theorem waitUntil_latches (d : Device) (t : Nat) : (d.waitUntil t).latches = d.latches := by
  unfold waitUntil
  split <;> simp
@[simp] theorem waitUntil_mem (d : Device) (t : Nat) : (d.waitUntil t).mem = d.mem := by
  unfold waitUntil
  split <;> simp
@[simp] theorem waitUntil_usecBase (d : Device) (t : Nat) : (d.waitUntil t).usecBase = d.usecBase := by
  unfold waitUntil
  split <;> simp
@[simp] theorem waitUntil_freeCtr (d : Device) (t : Nat) : (d.waitUntil t).freeCtr = d.freeCtr := by
  unfold waitUntil
  split <;> simp
@[simp] theorem waitUntil_out (d : Device) (t : Nat) : (d.waitUntil t).out = d.out := by
  unfold waitUntil
  split <;> simp
@[simp] theorem waitUntil_i3cPtr (d : Device) (t : Nat) : (d.waitUntil t).i3cPtr = d.i3cPtr := by
  unfold waitUntil
  split <;> simp
@[simp] theorem waitUntil_i3cForm (d : Device) (t : Nat) : (d.waitUntil t).i3cForm = d.i3cForm := by
  unfold waitUntil
  split <;> simp
@[simp] theorem waitUntil_i3cIbi (d : Device) (t : Nat) : (d.waitUntil t).i3cIbi = d.i3cIbi := by
  unfold waitUntil
  split <;> simp
@[simp] theorem waitUntil_hubOn (d : Device) (t : Nat) : (d.waitUntil t).hubOn = d.hubOn := by
  unfold waitUntil
  split <;> simp
@[simp] theorem waitUntil_evr (d : Device) (t : Nat) : (d.waitUntil t).evr = d.evr := by
  unfold waitUntil
  split <;> simp
@[simp] theorem waitUntil_hrg (d : Device) (t : Nat) : (d.waitUntil t).hrg = d.hrg := by
  unfold waitUntil
  split <;> simp
@[simp] theorem waitUntil_pst (d : Device) (t : Nat) : (d.waitUntil t).pst = d.pst := by
  unfold waitUntil
  split <;> simp
@[simp] theorem waitUntil_csk (d : Device) (t : Nat) : (d.waitUntil t).csk = d.csk := by
  unfold waitUntil
  split <;> simp
@[simp] theorem waitUntil_hold (d : Device) (t : Nat) : (d.waitUntil t).hold = d.hold := by
  unfold waitUntil
  split <;> simp
@[simp] theorem waitUntil_rst (d : Device) (t : Nat) : (d.waitUntil t).rst = d.rst := by
  unfold waitUntil
  split <;> simp
@[simp] theorem waitUntil_mir (d : Device) (t : Nat) : (d.waitUntil t).mir = d.mir := by
  unfold waitUntil
  split <;> simp
@[simp] theorem waitUntil_qmg (d : Device) (t : Nat) : (d.waitUntil t).qmg = d.qmg := by
  unfold waitUntil
  split <;> simp
@[simp] theorem waitUntil_profiles (d : Device) (t : Nat) : (d.waitUntil t).profiles = d.profiles := by
  unfold waitUntil
  split <;> simp
@[simp] theorem waitUntil_cph (d : Device) (t : Nat) : (d.waitUntil t).cph = d.cph := by
  unfold waitUntil
  split <;> simp
@[simp] theorem waitUntil_fws (d : Device) (t : Nat) : (d.waitUntil t).fws = d.fws := by
  unfold waitUntil
  split <;> simp
@[simp] theorem waitUntil_age (d : Device) (t : Nat) : (d.waitUntil t).age = d.age := by
  unfold waitUntil
  split <;> simp
@[simp] theorem waitUntil_trl (d : Device) (t : Nat) : (d.waitUntil t).trl = d.trl := by
  unfold waitUntil
  split <;> simp
@[simp] theorem waitUntil_net (d : Device) (t : Nat) : (d.waitUntil t).net = d.net := by
  unfold waitUntil
  split <;> simp
@[simp] theorem waitUntil_pdt (d : Device) (t : Nat) : (d.waitUntil t).pdt = d.pdt := by
  unfold waitUntil
  split <;> simp
@[simp] theorem waitUntil_drm (d : Device) (t : Nat) : (d.waitUntil t).drm = d.drm := by
  unfold waitUntil
  split <;> simp
@[simp] theorem waitUntil_cel (d : Device) (t : Nat) : (d.waitUntil t).cel = d.cel := by
  unfold waitUntil
  split <;> simp

/-- A wait moves nothing of admission but the credit (R115). -/
theorem waitUntil_adm (d : Device) (t : Nat) : ∃ c, (d.waitUntil t).adm = { d.adm with credit := c } := by
  unfold waitUntil
  split
  · exact advance_adm ..
  · exact ⟨_, rfl⟩

/-- A wait moves nothing of the supply but the fraction of a clock of the RTC (R25). -/
theorem waitUntil_sup (d : Device) (t : Nat) : ∃ c, (d.waitUntil t).sup = { d.sup with rtcFrac := c } := by
  unfold waitUntil
  split
  · exact advance_sup ..
  · exact ⟨_, rfl⟩

/-! ### event -/

@[simp] theorem event_latches (d : Device) (e : EventIn) : (d.event e).latches = d.latches := by
  unfold event
  simp only [ite_latches, bumpSat_latches, ite_self]
@[simp] theorem event_mem (d : Device) (e : EventIn) : (d.event e).mem = d.mem := by
  unfold event
  simp only [ite_mem, bumpSat_mem, ite_self]
@[simp] theorem event_now (d : Device) (e : EventIn) : (d.event e).now = d.now := by
  unfold event
  simp only [ite_now, bumpSat_now, ite_self]
@[simp] theorem event_usecBase (d : Device) (e : EventIn) : (d.event e).usecBase = d.usecBase := by
  unfold event
  simp only [ite_usecBase, bumpSat_usecBase, ite_self]
@[simp] theorem event_freeCtr (d : Device) (e : EventIn) : (d.event e).freeCtr = d.freeCtr := by
  unfold event
  simp only [ite_freeCtr, bumpSat_freeCtr, ite_self]
@[simp] theorem event_out (d : Device) (e : EventIn) : (d.event e).out = d.out := by
  unfold event
  simp only [ite_out, bumpSat_out, ite_self]
@[simp] theorem event_i3cPtr (d : Device) (e : EventIn) : (d.event e).i3cPtr = d.i3cPtr := by
  unfold event
  simp only [ite_i3cPtr, bumpSat_i3cPtr, ite_self]
@[simp] theorem event_i3cForm (d : Device) (e : EventIn) : (d.event e).i3cForm = d.i3cForm := by
  unfold event
  simp only [ite_i3cForm, bumpSat_i3cForm, ite_self]
@[simp] theorem event_i3cIbi (d : Device) (e : EventIn) : (d.event e).i3cIbi = d.i3cIbi := by
  unfold event
  simp only [ite_i3cIbi, bumpSat_i3cIbi, ite_self]
@[simp] theorem event_hubOn (d : Device) (e : EventIn) : (d.event e).hubOn = d.hubOn := by
  unfold event
  simp only [ite_hubOn, bumpSat_hubOn, ite_self]
@[simp] theorem event_hrg (d : Device) (e : EventIn) : (d.event e).hrg = d.hrg := by
  unfold event
  simp only [ite_hrg, bumpSat_hrg, ite_self]
@[simp] theorem event_pst (d : Device) (e : EventIn) : (d.event e).pst = d.pst := by
  unfold event
  simp only [ite_pst, bumpSat_pst, ite_self]
@[simp] theorem event_csk (d : Device) (e : EventIn) : (d.event e).csk = d.csk := by
  unfold event
  simp only [ite_csk, bumpSat_csk, ite_self]
@[simp] theorem event_hold (d : Device) (e : EventIn) : (d.event e).hold = d.hold := by
  unfold event
  simp only [ite_hold, bumpSat_hold, ite_self]
@[simp] theorem event_adm (d : Device) (e : EventIn) : (d.event e).adm = d.adm := by
  unfold event
  simp only [ite_adm, bumpSat_adm, ite_self]
@[simp] theorem event_rst (d : Device) (e : EventIn) : (d.event e).rst = d.rst := by
  unfold event
  simp only [ite_rst, bumpSat_rst, ite_self]
@[simp] theorem event_mir (d : Device) (e : EventIn) : (d.event e).mir = d.mir := by
  unfold event
  simp only [ite_mir, bumpSat_mir, ite_self]
@[simp] theorem event_qmg (d : Device) (e : EventIn) : (d.event e).qmg = d.qmg := by
  unfold event
  simp only [ite_qmg, bumpSat_qmg, ite_self]
@[simp] theorem event_sup (d : Device) (e : EventIn) : (d.event e).sup = d.sup := by
  unfold event
  simp only [ite_sup, bumpSat_sup, ite_self]
@[simp] theorem event_profiles (d : Device) (e : EventIn) : (d.event e).profiles = d.profiles := by
  unfold event
  simp only [ite_profiles, bumpSat_profiles, ite_self]
@[simp] theorem event_cph (d : Device) (e : EventIn) : (d.event e).cph = d.cph := by
  unfold event
  simp only [ite_cph, bumpSat_cph, ite_self]
@[simp] theorem event_fws (d : Device) (e : EventIn) : (d.event e).fws = d.fws := by
  unfold event
  simp only [ite_fws, bumpSat_fws, ite_self]
@[simp] theorem event_age (d : Device) (e : EventIn) : (d.event e).age = d.age := by
  unfold event
  simp only [ite_age, bumpSat_age, ite_self]
@[simp] theorem event_trl (d : Device) (e : EventIn) : (d.event e).trl = d.trl := by
  unfold event
  simp only [ite_trl, bumpSat_trl, ite_self]
@[simp] theorem event_net (d : Device) (e : EventIn) : (d.event e).net = d.net := by
  unfold event
  simp only [ite_net, bumpSat_net, ite_self]
@[simp] theorem event_pdt (d : Device) (e : EventIn) : (d.event e).pdt = d.pdt := by
  unfold event
  simp only [ite_pdt, bumpSat_pdt, ite_self]
@[simp] theorem event_drm (d : Device) (e : EventIn) : (d.event e).drm = d.drm := by
  unfold event
  simp only [ite_drm, bumpSat_drm, ite_self]
@[simp] theorem event_cel (d : Device) (e : EventIn) : (d.event e).cel = d.cel := by
  unfold event
  simp only [ite_cel, bumpSat_cel, ite_self]

/-! ### eventR -/

@[simp] theorem eventR_latches (d : Device) (a b c : Nat) : (d.eventR a b c).latches = d.latches := event_latches ..
@[simp] theorem eventR_mem (d : Device) (a b c : Nat) : (d.eventR a b c).mem = d.mem := event_mem ..
@[simp] theorem eventR_now (d : Device) (a b c : Nat) : (d.eventR a b c).now = d.now := event_now ..
@[simp] theorem eventR_usecBase (d : Device) (a b c : Nat) : (d.eventR a b c).usecBase = d.usecBase := event_usecBase ..
@[simp] theorem eventR_freeCtr (d : Device) (a b c : Nat) : (d.eventR a b c).freeCtr = d.freeCtr := event_freeCtr ..
@[simp] theorem eventR_out (d : Device) (a b c : Nat) : (d.eventR a b c).out = d.out := event_out ..
@[simp] theorem eventR_i3cPtr (d : Device) (a b c : Nat) : (d.eventR a b c).i3cPtr = d.i3cPtr := event_i3cPtr ..
@[simp] theorem eventR_i3cForm (d : Device) (a b c : Nat) : (d.eventR a b c).i3cForm = d.i3cForm := event_i3cForm ..
@[simp] theorem eventR_i3cIbi (d : Device) (a b c : Nat) : (d.eventR a b c).i3cIbi = d.i3cIbi := event_i3cIbi ..
@[simp] theorem eventR_hubOn (d : Device) (a b c : Nat) : (d.eventR a b c).hubOn = d.hubOn := event_hubOn ..
@[simp] theorem eventR_hrg (d : Device) (a b c : Nat) : (d.eventR a b c).hrg = d.hrg := event_hrg ..
@[simp] theorem eventR_pst (d : Device) (a b c : Nat) : (d.eventR a b c).pst = d.pst := event_pst ..
@[simp] theorem eventR_csk (d : Device) (a b c : Nat) : (d.eventR a b c).csk = d.csk := event_csk ..
@[simp] theorem eventR_hold (d : Device) (a b c : Nat) : (d.eventR a b c).hold = d.hold := event_hold ..
@[simp] theorem eventR_adm (d : Device) (a b c : Nat) : (d.eventR a b c).adm = d.adm := event_adm ..
@[simp] theorem eventR_rst (d : Device) (a b c : Nat) : (d.eventR a b c).rst = d.rst := event_rst ..
@[simp] theorem eventR_mir (d : Device) (a b c : Nat) : (d.eventR a b c).mir = d.mir := event_mir ..
@[simp] theorem eventR_qmg (d : Device) (a b c : Nat) : (d.eventR a b c).qmg = d.qmg := event_qmg ..
@[simp] theorem eventR_sup (d : Device) (a b c : Nat) : (d.eventR a b c).sup = d.sup := event_sup ..
@[simp] theorem eventR_profiles (d : Device) (a b c : Nat) : (d.eventR a b c).profiles = d.profiles := event_profiles ..
@[simp] theorem eventR_cph (d : Device) (a b c : Nat) : (d.eventR a b c).cph = d.cph := event_cph ..
@[simp] theorem eventR_fws (d : Device) (a b c : Nat) : (d.eventR a b c).fws = d.fws := event_fws ..
@[simp] theorem eventR_age (d : Device) (a b c : Nat) : (d.eventR a b c).age = d.age := event_age ..
@[simp] theorem eventR_trl (d : Device) (a b c : Nat) : (d.eventR a b c).trl = d.trl := event_trl ..
@[simp] theorem eventR_net (d : Device) (a b c : Nat) : (d.eventR a b c).net = d.net := event_net ..
@[simp] theorem eventR_pdt (d : Device) (a b c : Nat) : (d.eventR a b c).pdt = d.pdt := event_pdt ..
@[simp] theorem eventR_drm (d : Device) (a b c : Nat) : (d.eventR a b c).drm = d.drm := event_drm ..
@[simp] theorem eventR_cel (d : Device) (a b c : Nat) : (d.eventR a b c).cel = d.cel := event_cel ..

/-! ### eventIgnored -/

@[simp] theorem eventIgnored_latches (d : Device) (off : Nat) (v : Word) (ag sev : Nat) : (d.eventIgnored off v ag sev).latches = d.latches := event_latches ..
@[simp] theorem eventIgnored_mem (d : Device) (off : Nat) (v : Word) (ag sev : Nat) : (d.eventIgnored off v ag sev).mem = d.mem := event_mem ..
@[simp] theorem eventIgnored_now (d : Device) (off : Nat) (v : Word) (ag sev : Nat) : (d.eventIgnored off v ag sev).now = d.now := event_now ..
@[simp] theorem eventIgnored_usecBase (d : Device) (off : Nat) (v : Word) (ag sev : Nat) : (d.eventIgnored off v ag sev).usecBase = d.usecBase := event_usecBase ..
@[simp] theorem eventIgnored_freeCtr (d : Device) (off : Nat) (v : Word) (ag sev : Nat) : (d.eventIgnored off v ag sev).freeCtr = d.freeCtr := event_freeCtr ..
@[simp] theorem eventIgnored_out (d : Device) (off : Nat) (v : Word) (ag sev : Nat) : (d.eventIgnored off v ag sev).out = d.out := event_out ..
@[simp] theorem eventIgnored_i3cPtr (d : Device) (off : Nat) (v : Word) (ag sev : Nat) : (d.eventIgnored off v ag sev).i3cPtr = d.i3cPtr := event_i3cPtr ..
@[simp] theorem eventIgnored_i3cForm (d : Device) (off : Nat) (v : Word) (ag sev : Nat) : (d.eventIgnored off v ag sev).i3cForm = d.i3cForm := event_i3cForm ..
@[simp] theorem eventIgnored_i3cIbi (d : Device) (off : Nat) (v : Word) (ag sev : Nat) : (d.eventIgnored off v ag sev).i3cIbi = d.i3cIbi := event_i3cIbi ..
@[simp] theorem eventIgnored_hubOn (d : Device) (off : Nat) (v : Word) (ag sev : Nat) : (d.eventIgnored off v ag sev).hubOn = d.hubOn := event_hubOn ..
@[simp] theorem eventIgnored_hrg (d : Device) (off : Nat) (v : Word) (ag sev : Nat) : (d.eventIgnored off v ag sev).hrg = d.hrg := event_hrg ..
@[simp] theorem eventIgnored_pst (d : Device) (off : Nat) (v : Word) (ag sev : Nat) : (d.eventIgnored off v ag sev).pst = d.pst := event_pst ..
@[simp] theorem eventIgnored_csk (d : Device) (off : Nat) (v : Word) (ag sev : Nat) : (d.eventIgnored off v ag sev).csk = d.csk := event_csk ..
@[simp] theorem eventIgnored_hold (d : Device) (off : Nat) (v : Word) (ag sev : Nat) : (d.eventIgnored off v ag sev).hold = d.hold := event_hold ..
@[simp] theorem eventIgnored_adm (d : Device) (off : Nat) (v : Word) (ag sev : Nat) : (d.eventIgnored off v ag sev).adm = d.adm := event_adm ..
@[simp] theorem eventIgnored_rst (d : Device) (off : Nat) (v : Word) (ag sev : Nat) : (d.eventIgnored off v ag sev).rst = d.rst := event_rst ..
@[simp] theorem eventIgnored_mir (d : Device) (off : Nat) (v : Word) (ag sev : Nat) : (d.eventIgnored off v ag sev).mir = d.mir := event_mir ..
@[simp] theorem eventIgnored_qmg (d : Device) (off : Nat) (v : Word) (ag sev : Nat) : (d.eventIgnored off v ag sev).qmg = d.qmg := event_qmg ..
@[simp] theorem eventIgnored_sup (d : Device) (off : Nat) (v : Word) (ag sev : Nat) : (d.eventIgnored off v ag sev).sup = d.sup := event_sup ..
@[simp] theorem eventIgnored_profiles (d : Device) (off : Nat) (v : Word) (ag sev : Nat) : (d.eventIgnored off v ag sev).profiles = d.profiles := event_profiles ..
@[simp] theorem eventIgnored_cph (d : Device) (off : Nat) (v : Word) (ag sev : Nat) : (d.eventIgnored off v ag sev).cph = d.cph := event_cph ..
@[simp] theorem eventIgnored_fws (d : Device) (off : Nat) (v : Word) (ag sev : Nat) : (d.eventIgnored off v ag sev).fws = d.fws := event_fws ..
@[simp] theorem eventIgnored_age (d : Device) (off : Nat) (v : Word) (ag sev : Nat) : (d.eventIgnored off v ag sev).age = d.age := event_age ..
@[simp] theorem eventIgnored_trl (d : Device) (off : Nat) (v : Word) (ag sev : Nat) : (d.eventIgnored off v ag sev).trl = d.trl := event_trl ..
@[simp] theorem eventIgnored_net (d : Device) (off : Nat) (v : Word) (ag sev : Nat) : (d.eventIgnored off v ag sev).net = d.net := event_net ..
@[simp] theorem eventIgnored_pdt (d : Device) (off : Nat) (v : Word) (ag sev : Nat) : (d.eventIgnored off v ag sev).pdt = d.pdt := event_pdt ..
@[simp] theorem eventIgnored_drm (d : Device) (off : Nat) (v : Word) (ag sev : Nat) : (d.eventIgnored off v ag sev).drm = d.drm := event_drm ..
@[simp] theorem eventIgnored_cel (d : Device) (off : Nat) (v : Word) (ag sev : Nat) : (d.eventIgnored off v ag sev).cel = d.cel := event_cel ..

/-! ### msix -/

@[simp] theorem msix_regs (d : Device) (fn vec : Nat) : (d.msix fn vec).regs = d.regs := by
  unfold msix
  simp only [ite_regs, emit_regs, ite_self]
@[simp] theorem msix_latches (d : Device) (fn vec : Nat) : (d.msix fn vec).latches = d.latches := by
  unfold msix
  simp only [ite_latches, emit_latches, ite_self]
@[simp] theorem msix_mem (d : Device) (fn vec : Nat) : (d.msix fn vec).mem = d.mem := by
  unfold msix
  simp only [ite_mem, emit_mem, ite_self]
@[simp] theorem msix_now (d : Device) (fn vec : Nat) : (d.msix fn vec).now = d.now := by
  unfold msix
  simp only [ite_now, emit_now, ite_self]
@[simp] theorem msix_usecBase (d : Device) (fn vec : Nat) : (d.msix fn vec).usecBase = d.usecBase := by
  unfold msix
  simp only [ite_usecBase, emit_usecBase, ite_self]
@[simp] theorem msix_freeCtr (d : Device) (fn vec : Nat) : (d.msix fn vec).freeCtr = d.freeCtr := by
  unfold msix
  simp only [ite_freeCtr, emit_freeCtr, ite_self]
@[simp] theorem msix_i3cPtr (d : Device) (fn vec : Nat) : (d.msix fn vec).i3cPtr = d.i3cPtr := by
  unfold msix
  simp only [ite_i3cPtr, emit_i3cPtr, ite_self]
@[simp] theorem msix_i3cForm (d : Device) (fn vec : Nat) : (d.msix fn vec).i3cForm = d.i3cForm := by
  unfold msix
  simp only [ite_i3cForm, emit_i3cForm, ite_self]
@[simp] theorem msix_i3cIbi (d : Device) (fn vec : Nat) : (d.msix fn vec).i3cIbi = d.i3cIbi := by
  unfold msix
  simp only [ite_i3cIbi, emit_i3cIbi, ite_self]
@[simp] theorem msix_hubOn (d : Device) (fn vec : Nat) : (d.msix fn vec).hubOn = d.hubOn := by
  unfold msix
  simp only [ite_hubOn, emit_hubOn, ite_self]
@[simp] theorem msix_evr (d : Device) (fn vec : Nat) : (d.msix fn vec).evr = d.evr := by
  unfold msix
  simp only [ite_evr, emit_evr, ite_self]
@[simp] theorem msix_pst (d : Device) (fn vec : Nat) : (d.msix fn vec).pst = d.pst := by
  unfold msix
  simp only [ite_pst, emit_pst, ite_self]
@[simp] theorem msix_csk (d : Device) (fn vec : Nat) : (d.msix fn vec).csk = d.csk := by
  unfold msix
  simp only [ite_csk, emit_csk, ite_self]
@[simp] theorem msix_hold (d : Device) (fn vec : Nat) : (d.msix fn vec).hold = d.hold := by
  unfold msix
  simp only [ite_hold, emit_hold, ite_self]
@[simp] theorem msix_adm (d : Device) (fn vec : Nat) : (d.msix fn vec).adm = d.adm := by
  unfold msix
  simp only [ite_adm, emit_adm, ite_self]
@[simp] theorem msix_rst (d : Device) (fn vec : Nat) : (d.msix fn vec).rst = d.rst := by
  unfold msix
  simp only [ite_rst, emit_rst, ite_self]
@[simp] theorem msix_mir (d : Device) (fn vec : Nat) : (d.msix fn vec).mir = d.mir := by
  unfold msix
  simp only [ite_mir, emit_mir, ite_self]
@[simp] theorem msix_qmg (d : Device) (fn vec : Nat) : (d.msix fn vec).qmg = d.qmg := by
  unfold msix
  simp only [ite_qmg, emit_qmg, ite_self]
@[simp] theorem msix_sup (d : Device) (fn vec : Nat) : (d.msix fn vec).sup = d.sup := by
  unfold msix
  simp only [ite_sup, emit_sup, ite_self]
@[simp] theorem msix_profiles (d : Device) (fn vec : Nat) : (d.msix fn vec).profiles = d.profiles := by
  unfold msix
  simp only [ite_profiles, emit_profiles, ite_self]
@[simp] theorem msix_cph (d : Device) (fn vec : Nat) : (d.msix fn vec).cph = d.cph := by
  unfold msix
  simp only [ite_cph, emit_cph, ite_self]
@[simp] theorem msix_fws (d : Device) (fn vec : Nat) : (d.msix fn vec).fws = d.fws := by
  unfold msix
  simp only [ite_fws, emit_fws, ite_self]
@[simp] theorem msix_age (d : Device) (fn vec : Nat) : (d.msix fn vec).age = d.age := by
  unfold msix
  simp only [ite_age, emit_age, ite_self]
@[simp] theorem msix_trl (d : Device) (fn vec : Nat) : (d.msix fn vec).trl = d.trl := by
  unfold msix
  simp only [ite_trl, emit_trl, ite_self]
@[simp] theorem msix_net (d : Device) (fn vec : Nat) : (d.msix fn vec).net = d.net := by
  unfold msix
  simp only [ite_net, emit_net, ite_self]
@[simp] theorem msix_pdt (d : Device) (fn vec : Nat) : (d.msix fn vec).pdt = d.pdt := by
  unfold msix
  simp only [ite_pdt, emit_pdt, ite_self]
@[simp] theorem msix_drm (d : Device) (fn vec : Nat) : (d.msix fn vec).drm = d.drm := by
  unfold msix
  simp only [ite_drm, emit_drm, ite_self]
@[simp] theorem msix_cel (d : Device) (fn vec : Nat) : (d.msix fn vec).cel = d.cel := by
  unfold msix
  simp only [ite_cel, emit_cel, ite_self]

/-! ### raiseFor -/

@[simp] theorem raiseFor_latches (b : Nat) (d : Device) (fn : Nat) : (raiseFor b d fn).latches = d.latches := by
  unfold raiseFor
  simp only [ite_latches, msix_latches, setReg_latches, ite_self]
@[simp] theorem raiseFor_mem (b : Nat) (d : Device) (fn : Nat) : (raiseFor b d fn).mem = d.mem := by
  unfold raiseFor
  simp only [ite_mem, msix_mem, setReg_mem, ite_self]
@[simp] theorem raiseFor_now (b : Nat) (d : Device) (fn : Nat) : (raiseFor b d fn).now = d.now := by
  unfold raiseFor
  simp only [ite_now, msix_now, setReg_now, ite_self]
@[simp] theorem raiseFor_usecBase (b : Nat) (d : Device) (fn : Nat) : (raiseFor b d fn).usecBase = d.usecBase := by
  unfold raiseFor
  simp only [ite_usecBase, msix_usecBase, setReg_usecBase, ite_self]
@[simp] theorem raiseFor_freeCtr (b : Nat) (d : Device) (fn : Nat) : (raiseFor b d fn).freeCtr = d.freeCtr := by
  unfold raiseFor
  simp only [ite_freeCtr, msix_freeCtr, setReg_freeCtr, ite_self]
@[simp] theorem raiseFor_i3cPtr (b : Nat) (d : Device) (fn : Nat) : (raiseFor b d fn).i3cPtr = d.i3cPtr := by
  unfold raiseFor
  simp only [ite_i3cPtr, msix_i3cPtr, setReg_i3cPtr, ite_self]
@[simp] theorem raiseFor_i3cForm (b : Nat) (d : Device) (fn : Nat) : (raiseFor b d fn).i3cForm = d.i3cForm := by
  unfold raiseFor
  simp only [ite_i3cForm, msix_i3cForm, setReg_i3cForm, ite_self]
@[simp] theorem raiseFor_i3cIbi (b : Nat) (d : Device) (fn : Nat) : (raiseFor b d fn).i3cIbi = d.i3cIbi := by
  unfold raiseFor
  simp only [ite_i3cIbi, msix_i3cIbi, setReg_i3cIbi, ite_self]
@[simp] theorem raiseFor_hubOn (b : Nat) (d : Device) (fn : Nat) : (raiseFor b d fn).hubOn = d.hubOn := by
  unfold raiseFor
  simp only [ite_hubOn, msix_hubOn, setReg_hubOn, ite_self]
@[simp] theorem raiseFor_evr (b : Nat) (d : Device) (fn : Nat) : (raiseFor b d fn).evr = d.evr := by
  unfold raiseFor
  simp only [ite_evr, msix_evr, setReg_evr, ite_self]
@[simp] theorem raiseFor_pst (b : Nat) (d : Device) (fn : Nat) : (raiseFor b d fn).pst = d.pst := by
  unfold raiseFor
  simp only [ite_pst, msix_pst, setReg_pst, ite_self]
@[simp] theorem raiseFor_csk (b : Nat) (d : Device) (fn : Nat) : (raiseFor b d fn).csk = d.csk := by
  unfold raiseFor
  simp only [ite_csk, msix_csk, setReg_csk, ite_self]
@[simp] theorem raiseFor_hold (b : Nat) (d : Device) (fn : Nat) : (raiseFor b d fn).hold = d.hold := by
  unfold raiseFor
  simp only [ite_hold, msix_hold, setReg_hold, ite_self]
@[simp] theorem raiseFor_adm (b : Nat) (d : Device) (fn : Nat) : (raiseFor b d fn).adm = d.adm := by
  unfold raiseFor
  simp only [ite_adm, msix_adm, setReg_adm, ite_self]
@[simp] theorem raiseFor_rst (b : Nat) (d : Device) (fn : Nat) : (raiseFor b d fn).rst = d.rst := by
  unfold raiseFor
  simp only [ite_rst, msix_rst, setReg_rst, ite_self]
@[simp] theorem raiseFor_mir (b : Nat) (d : Device) (fn : Nat) : (raiseFor b d fn).mir = d.mir := by
  unfold raiseFor
  simp only [ite_mir, msix_mir, setReg_mir, ite_self]
@[simp] theorem raiseFor_qmg (b : Nat) (d : Device) (fn : Nat) : (raiseFor b d fn).qmg = d.qmg := by
  unfold raiseFor
  simp only [ite_qmg, msix_qmg, setReg_qmg, ite_self]
@[simp] theorem raiseFor_sup (b : Nat) (d : Device) (fn : Nat) : (raiseFor b d fn).sup = d.sup := by
  unfold raiseFor
  simp only [ite_sup, msix_sup, setReg_sup, ite_self]
@[simp] theorem raiseFor_profiles (b : Nat) (d : Device) (fn : Nat) : (raiseFor b d fn).profiles = d.profiles := by
  unfold raiseFor
  simp only [ite_profiles, msix_profiles, setReg_profiles, ite_self]
@[simp] theorem raiseFor_cph (b : Nat) (d : Device) (fn : Nat) : (raiseFor b d fn).cph = d.cph := by
  unfold raiseFor
  simp only [ite_cph, msix_cph, setReg_cph, ite_self]
@[simp] theorem raiseFor_fws (b : Nat) (d : Device) (fn : Nat) : (raiseFor b d fn).fws = d.fws := by
  unfold raiseFor
  simp only [ite_fws, msix_fws, setReg_fws, ite_self]
@[simp] theorem raiseFor_age (b : Nat) (d : Device) (fn : Nat) : (raiseFor b d fn).age = d.age := by
  unfold raiseFor
  simp only [ite_age, msix_age, setReg_age, ite_self]
@[simp] theorem raiseFor_trl (b : Nat) (d : Device) (fn : Nat) : (raiseFor b d fn).trl = d.trl := by
  unfold raiseFor
  simp only [ite_trl, msix_trl, setReg_trl, ite_self]
@[simp] theorem raiseFor_net (b : Nat) (d : Device) (fn : Nat) : (raiseFor b d fn).net = d.net := by
  unfold raiseFor
  simp only [ite_net, msix_net, setReg_net, ite_self]
@[simp] theorem raiseFor_pdt (b : Nat) (d : Device) (fn : Nat) : (raiseFor b d fn).pdt = d.pdt := by
  unfold raiseFor
  simp only [ite_pdt, msix_pdt, setReg_pdt, ite_self]
@[simp] theorem raiseFor_drm (b : Nat) (d : Device) (fn : Nat) : (raiseFor b d fn).drm = d.drm := by
  unfold raiseFor
  simp only [ite_drm, msix_drm, setReg_drm, ite_self]
@[simp] theorem raiseFor_cel (b : Nat) (d : Device) (fn : Nat) : (raiseFor b d fn).cel = d.cel := by
  unfold raiseFor
  simp only [ite_cel, msix_cel, setReg_cel, ite_self]

/-! ### raiseBlk -/

@[simp] theorem raiseBlk_latches (d : Device) (b : Nat) : (d.raiseBlk b).latches = d.latches := by
  unfold raiseBlk
  simp only [ite_latches, foldl_keeps (·.latches) (raiseFor b) (raiseFor_latches b), ite_self]
@[simp] theorem raiseBlk_mem (d : Device) (b : Nat) : (d.raiseBlk b).mem = d.mem := by
  unfold raiseBlk
  simp only [ite_mem, foldl_keeps (·.mem) (raiseFor b) (raiseFor_mem b), ite_self]
@[simp] theorem raiseBlk_now (d : Device) (b : Nat) : (d.raiseBlk b).now = d.now := by
  unfold raiseBlk
  simp only [ite_now, foldl_keeps (·.now) (raiseFor b) (raiseFor_now b), ite_self]
@[simp] theorem raiseBlk_usecBase (d : Device) (b : Nat) : (d.raiseBlk b).usecBase = d.usecBase := by
  unfold raiseBlk
  simp only [ite_usecBase, foldl_keeps (·.usecBase) (raiseFor b) (raiseFor_usecBase b), ite_self]
@[simp] theorem raiseBlk_freeCtr (d : Device) (b : Nat) : (d.raiseBlk b).freeCtr = d.freeCtr := by
  unfold raiseBlk
  simp only [ite_freeCtr, foldl_keeps (·.freeCtr) (raiseFor b) (raiseFor_freeCtr b), ite_self]
@[simp] theorem raiseBlk_i3cPtr (d : Device) (b : Nat) : (d.raiseBlk b).i3cPtr = d.i3cPtr := by
  unfold raiseBlk
  simp only [ite_i3cPtr, foldl_keeps (·.i3cPtr) (raiseFor b) (raiseFor_i3cPtr b), ite_self]
@[simp] theorem raiseBlk_i3cForm (d : Device) (b : Nat) : (d.raiseBlk b).i3cForm = d.i3cForm := by
  unfold raiseBlk
  simp only [ite_i3cForm, foldl_keeps (·.i3cForm) (raiseFor b) (raiseFor_i3cForm b), ite_self]
@[simp] theorem raiseBlk_i3cIbi (d : Device) (b : Nat) : (d.raiseBlk b).i3cIbi = d.i3cIbi := by
  unfold raiseBlk
  simp only [ite_i3cIbi, foldl_keeps (·.i3cIbi) (raiseFor b) (raiseFor_i3cIbi b), ite_self]
@[simp] theorem raiseBlk_hubOn (d : Device) (b : Nat) : (d.raiseBlk b).hubOn = d.hubOn := by
  unfold raiseBlk
  simp only [ite_hubOn, foldl_keeps (·.hubOn) (raiseFor b) (raiseFor_hubOn b), ite_self]
@[simp] theorem raiseBlk_evr (d : Device) (b : Nat) : (d.raiseBlk b).evr = d.evr := by
  unfold raiseBlk
  simp only [ite_evr, foldl_keeps (·.evr) (raiseFor b) (raiseFor_evr b), ite_self]
@[simp] theorem raiseBlk_pst (d : Device) (b : Nat) : (d.raiseBlk b).pst = d.pst := by
  unfold raiseBlk
  simp only [ite_pst, foldl_keeps (·.pst) (raiseFor b) (raiseFor_pst b), ite_self]
@[simp] theorem raiseBlk_csk (d : Device) (b : Nat) : (d.raiseBlk b).csk = d.csk := by
  unfold raiseBlk
  simp only [ite_csk, foldl_keeps (·.csk) (raiseFor b) (raiseFor_csk b), ite_self]
@[simp] theorem raiseBlk_hold (d : Device) (b : Nat) : (d.raiseBlk b).hold = d.hold := by
  unfold raiseBlk
  simp only [ite_hold, foldl_keeps (·.hold) (raiseFor b) (raiseFor_hold b), ite_self]
@[simp] theorem raiseBlk_adm (d : Device) (b : Nat) : (d.raiseBlk b).adm = d.adm := by
  unfold raiseBlk
  simp only [ite_adm, foldl_keeps (·.adm) (raiseFor b) (raiseFor_adm b), ite_self]
@[simp] theorem raiseBlk_rst (d : Device) (b : Nat) : (d.raiseBlk b).rst = d.rst := by
  unfold raiseBlk
  simp only [ite_rst, foldl_keeps (·.rst) (raiseFor b) (raiseFor_rst b), ite_self]
@[simp] theorem raiseBlk_mir (d : Device) (b : Nat) : (d.raiseBlk b).mir = d.mir := by
  unfold raiseBlk
  simp only [ite_mir, foldl_keeps (·.mir) (raiseFor b) (raiseFor_mir b), ite_self]
@[simp] theorem raiseBlk_qmg (d : Device) (b : Nat) : (d.raiseBlk b).qmg = d.qmg := by
  unfold raiseBlk
  simp only [ite_qmg, foldl_keeps (·.qmg) (raiseFor b) (raiseFor_qmg b), ite_self]
@[simp] theorem raiseBlk_sup (d : Device) (b : Nat) : (d.raiseBlk b).sup = d.sup := by
  unfold raiseBlk
  simp only [ite_sup, foldl_keeps (·.sup) (raiseFor b) (raiseFor_sup b), ite_self]
@[simp] theorem raiseBlk_profiles (d : Device) (b : Nat) : (d.raiseBlk b).profiles = d.profiles := by
  unfold raiseBlk
  simp only [ite_profiles, foldl_keeps (·.profiles) (raiseFor b) (raiseFor_profiles b), ite_self]
@[simp] theorem raiseBlk_cph (d : Device) (b : Nat) : (d.raiseBlk b).cph = d.cph := by
  unfold raiseBlk
  simp only [ite_cph, foldl_keeps (·.cph) (raiseFor b) (raiseFor_cph b), ite_self]
@[simp] theorem raiseBlk_fws (d : Device) (b : Nat) : (d.raiseBlk b).fws = d.fws := by
  unfold raiseBlk
  simp only [ite_fws, foldl_keeps (·.fws) (raiseFor b) (raiseFor_fws b), ite_self]
@[simp] theorem raiseBlk_age (d : Device) (b : Nat) : (d.raiseBlk b).age = d.age := by
  unfold raiseBlk
  simp only [ite_age, foldl_keeps (·.age) (raiseFor b) (raiseFor_age b), ite_self]
@[simp] theorem raiseBlk_trl (d : Device) (b : Nat) : (d.raiseBlk b).trl = d.trl := by
  unfold raiseBlk
  simp only [ite_trl, foldl_keeps (·.trl) (raiseFor b) (raiseFor_trl b), ite_self]
@[simp] theorem raiseBlk_net (d : Device) (b : Nat) : (d.raiseBlk b).net = d.net := by
  unfold raiseBlk
  simp only [ite_net, foldl_keeps (·.net) (raiseFor b) (raiseFor_net b), ite_self]
@[simp] theorem raiseBlk_pdt (d : Device) (b : Nat) : (d.raiseBlk b).pdt = d.pdt := by
  unfold raiseBlk
  simp only [ite_pdt, foldl_keeps (·.pdt) (raiseFor b) (raiseFor_pdt b), ite_self]
@[simp] theorem raiseBlk_drm (d : Device) (b : Nat) : (d.raiseBlk b).drm = d.drm := by
  unfold raiseBlk
  simp only [ite_drm, foldl_keeps (·.drm) (raiseFor b) (raiseFor_drm b), ite_self]
@[simp] theorem raiseBlk_cel (d : Device) (b : Nat) : (d.raiseBlk b).cel = d.cel := by
  unfold raiseBlk
  simp only [ite_cel, foldl_keeps (·.cel) (raiseFor b) (raiseFor_cel b), ite_self]

/-! ### noteAlert -/

@[simp] theorem noteAlert_regs (w : Bool) (d : Device) : (noteAlert w d).regs = d.regs := by
  unfold noteAlert
  simp only [ite_regs, pin_regs, emit_regs, ite_self]
@[simp] theorem noteAlert_latches (w : Bool) (d : Device) : (noteAlert w d).latches = d.latches := by
  unfold noteAlert
  simp only [ite_latches, pin_latches, emit_latches, ite_self]
@[simp] theorem noteAlert_mem (w : Bool) (d : Device) : (noteAlert w d).mem = d.mem := by
  unfold noteAlert
  simp only [ite_mem, pin_mem, emit_mem, ite_self]
@[simp] theorem noteAlert_now (w : Bool) (d : Device) : (noteAlert w d).now = d.now := by
  unfold noteAlert
  simp only [ite_now, pin_now, emit_now, ite_self]
@[simp] theorem noteAlert_usecBase (w : Bool) (d : Device) : (noteAlert w d).usecBase = d.usecBase := by
  unfold noteAlert
  simp only [ite_usecBase, pin_usecBase, emit_usecBase, ite_self]
@[simp] theorem noteAlert_freeCtr (w : Bool) (d : Device) : (noteAlert w d).freeCtr = d.freeCtr := by
  unfold noteAlert
  simp only [ite_freeCtr, pin_freeCtr, emit_freeCtr, ite_self]
@[simp] theorem noteAlert_i3cPtr (w : Bool) (d : Device) : (noteAlert w d).i3cPtr = d.i3cPtr := by
  unfold noteAlert
  simp only [ite_i3cPtr, pin_i3cPtr, emit_i3cPtr, ite_self]
@[simp] theorem noteAlert_i3cForm (w : Bool) (d : Device) : (noteAlert w d).i3cForm = d.i3cForm := by
  unfold noteAlert
  simp only [ite_i3cForm, pin_i3cForm, emit_i3cForm, ite_self]
@[simp] theorem noteAlert_i3cIbi (w : Bool) (d : Device) : (noteAlert w d).i3cIbi = d.i3cIbi := by
  unfold noteAlert
  simp only [ite_i3cIbi, pin_i3cIbi, emit_i3cIbi, ite_self]
@[simp] theorem noteAlert_hubOn (w : Bool) (d : Device) : (noteAlert w d).hubOn = d.hubOn := by
  unfold noteAlert
  simp only [ite_hubOn, pin_hubOn, emit_hubOn, ite_self]
@[simp] theorem noteAlert_evr (w : Bool) (d : Device) : (noteAlert w d).evr = d.evr := by
  unfold noteAlert
  simp only [ite_evr, pin_evr, emit_evr, ite_self]
@[simp] theorem noteAlert_hrg (w : Bool) (d : Device) : (noteAlert w d).hrg = d.hrg := by
  unfold noteAlert
  simp only [ite_hrg, pin_hrg, emit_hrg, ite_self]
@[simp] theorem noteAlert_pst (w : Bool) (d : Device) : (noteAlert w d).pst = d.pst := by
  unfold noteAlert
  simp only [ite_pst, pin_pst, emit_pst, ite_self]
@[simp] theorem noteAlert_csk (w : Bool) (d : Device) : (noteAlert w d).csk = d.csk := by
  unfold noteAlert
  simp only [ite_csk, pin_csk, emit_csk, ite_self]
@[simp] theorem noteAlert_hold (w : Bool) (d : Device) : (noteAlert w d).hold = d.hold := by
  unfold noteAlert
  simp only [ite_hold, pin_hold, emit_hold, ite_self]
@[simp] theorem noteAlert_adm (w : Bool) (d : Device) : (noteAlert w d).adm = d.adm := by
  unfold noteAlert
  simp only [ite_adm, pin_adm, emit_adm, ite_self]
@[simp] theorem noteAlert_rst (w : Bool) (d : Device) : (noteAlert w d).rst = d.rst := by
  unfold noteAlert
  simp only [ite_rst, pin_rst, emit_rst, ite_self]
@[simp] theorem noteAlert_mir (w : Bool) (d : Device) : (noteAlert w d).mir = d.mir := by
  unfold noteAlert
  simp only [ite_mir, pin_mir, emit_mir, ite_self]
@[simp] theorem noteAlert_qmg (w : Bool) (d : Device) : (noteAlert w d).qmg = d.qmg := by
  unfold noteAlert
  simp only [ite_qmg, pin_qmg, emit_qmg, ite_self]
@[simp] theorem noteAlert_sup (w : Bool) (d : Device) : (noteAlert w d).sup = d.sup := by
  unfold noteAlert
  simp only [ite_sup, pin_sup, emit_sup, ite_self]
@[simp] theorem noteAlert_profiles (w : Bool) (d : Device) : (noteAlert w d).profiles = d.profiles := by
  unfold noteAlert
  simp only [ite_profiles, pin_profiles, emit_profiles, ite_self]
@[simp] theorem noteAlert_cph (w : Bool) (d : Device) : (noteAlert w d).cph = d.cph := by
  unfold noteAlert
  simp only [ite_cph, pin_cph, emit_cph, ite_self]
@[simp] theorem noteAlert_fws (w : Bool) (d : Device) : (noteAlert w d).fws = d.fws := by
  unfold noteAlert
  simp only [ite_fws, pin_fws, emit_fws, ite_self]
@[simp] theorem noteAlert_age (w : Bool) (d : Device) : (noteAlert w d).age = d.age := by
  unfold noteAlert
  simp only [ite_age, pin_age, emit_age, ite_self]
@[simp] theorem noteAlert_trl (w : Bool) (d : Device) : (noteAlert w d).trl = d.trl := by
  unfold noteAlert
  simp only [ite_trl, pin_trl, emit_trl, ite_self]
@[simp] theorem noteAlert_net (w : Bool) (d : Device) : (noteAlert w d).net = d.net := by
  unfold noteAlert
  simp only [ite_net, pin_net, emit_net, ite_self]
@[simp] theorem noteAlert_pdt (w : Bool) (d : Device) : (noteAlert w d).pdt = d.pdt := by
  unfold noteAlert
  simp only [ite_pdt, pin_pdt, emit_pdt, ite_self]
@[simp] theorem noteAlert_drm (w : Bool) (d : Device) : (noteAlert w d).drm = d.drm := by
  unfold noteAlert
  simp only [ite_drm, pin_drm, emit_drm, ite_self]
@[simp] theorem noteAlert_cel (w : Bool) (d : Device) : (noteAlert w d).cel = d.cel := by
  unfold noteAlert
  simp only [ite_cel, pin_cel, emit_cel, ite_self]

/-! ### raiseQuiet -/

@[simp] theorem raiseQuiet_latches (d : Device) (r n : Nat) : (d.raiseQuiet r n).latches = d.latches := by
  unfold raiseQuiet
  simp only [ite_latches, raiseBlk_latches, noteAlert_latches, setReg_latches, ite_self]
@[simp] theorem raiseQuiet_mem (d : Device) (r n : Nat) : (d.raiseQuiet r n).mem = d.mem := by
  unfold raiseQuiet
  simp only [ite_mem, raiseBlk_mem, noteAlert_mem, setReg_mem, ite_self]
@[simp] theorem raiseQuiet_now (d : Device) (r n : Nat) : (d.raiseQuiet r n).now = d.now := by
  unfold raiseQuiet
  simp only [ite_now, raiseBlk_now, noteAlert_now, setReg_now, ite_self]
@[simp] theorem raiseQuiet_usecBase (d : Device) (r n : Nat) : (d.raiseQuiet r n).usecBase = d.usecBase := by
  unfold raiseQuiet
  simp only [ite_usecBase, raiseBlk_usecBase, noteAlert_usecBase, setReg_usecBase, ite_self]
@[simp] theorem raiseQuiet_freeCtr (d : Device) (r n : Nat) : (d.raiseQuiet r n).freeCtr = d.freeCtr := by
  unfold raiseQuiet
  simp only [ite_freeCtr, raiseBlk_freeCtr, noteAlert_freeCtr, setReg_freeCtr, ite_self]
@[simp] theorem raiseQuiet_i3cPtr (d : Device) (r n : Nat) : (d.raiseQuiet r n).i3cPtr = d.i3cPtr := by
  unfold raiseQuiet
  simp only [ite_i3cPtr, raiseBlk_i3cPtr, noteAlert_i3cPtr, setReg_i3cPtr, ite_self]
@[simp] theorem raiseQuiet_i3cForm (d : Device) (r n : Nat) : (d.raiseQuiet r n).i3cForm = d.i3cForm := by
  unfold raiseQuiet
  simp only [ite_i3cForm, raiseBlk_i3cForm, noteAlert_i3cForm, setReg_i3cForm, ite_self]
@[simp] theorem raiseQuiet_i3cIbi (d : Device) (r n : Nat) : (d.raiseQuiet r n).i3cIbi = d.i3cIbi := by
  unfold raiseQuiet
  simp only [ite_i3cIbi, raiseBlk_i3cIbi, noteAlert_i3cIbi, setReg_i3cIbi, ite_self]
@[simp] theorem raiseQuiet_hubOn (d : Device) (r n : Nat) : (d.raiseQuiet r n).hubOn = d.hubOn := by
  unfold raiseQuiet
  simp only [ite_hubOn, raiseBlk_hubOn, noteAlert_hubOn, setReg_hubOn, ite_self]
@[simp] theorem raiseQuiet_evr (d : Device) (r n : Nat) : (d.raiseQuiet r n).evr = d.evr := by
  unfold raiseQuiet
  simp only [ite_evr, raiseBlk_evr, noteAlert_evr, setReg_evr, ite_self]
@[simp] theorem raiseQuiet_pst (d : Device) (r n : Nat) : (d.raiseQuiet r n).pst = d.pst := by
  unfold raiseQuiet
  simp only [ite_pst, raiseBlk_pst, noteAlert_pst, setReg_pst, ite_self]
@[simp] theorem raiseQuiet_csk (d : Device) (r n : Nat) : (d.raiseQuiet r n).csk = d.csk := by
  unfold raiseQuiet
  simp only [ite_csk, raiseBlk_csk, noteAlert_csk, setReg_csk, ite_self]
@[simp] theorem raiseQuiet_hold (d : Device) (r n : Nat) : (d.raiseQuiet r n).hold = d.hold := by
  unfold raiseQuiet
  simp only [ite_hold, raiseBlk_hold, noteAlert_hold, setReg_hold, ite_self]
@[simp] theorem raiseQuiet_adm (d : Device) (r n : Nat) : (d.raiseQuiet r n).adm = d.adm := by
  unfold raiseQuiet
  simp only [ite_adm, raiseBlk_adm, noteAlert_adm, setReg_adm, ite_self]
@[simp] theorem raiseQuiet_rst (d : Device) (r n : Nat) : (d.raiseQuiet r n).rst = d.rst := by
  unfold raiseQuiet
  simp only [ite_rst, raiseBlk_rst, noteAlert_rst, setReg_rst, ite_self]
@[simp] theorem raiseQuiet_mir (d : Device) (r n : Nat) : (d.raiseQuiet r n).mir = d.mir := by
  unfold raiseQuiet
  simp only [ite_mir, raiseBlk_mir, noteAlert_mir, setReg_mir, ite_self]
@[simp] theorem raiseQuiet_qmg (d : Device) (r n : Nat) : (d.raiseQuiet r n).qmg = d.qmg := by
  unfold raiseQuiet
  simp only [ite_qmg, raiseBlk_qmg, noteAlert_qmg, setReg_qmg, ite_self]
@[simp] theorem raiseQuiet_sup (d : Device) (r n : Nat) : (d.raiseQuiet r n).sup = d.sup := by
  unfold raiseQuiet
  simp only [ite_sup, raiseBlk_sup, noteAlert_sup, setReg_sup, ite_self]
@[simp] theorem raiseQuiet_profiles (d : Device) (r n : Nat) : (d.raiseQuiet r n).profiles = d.profiles := by
  unfold raiseQuiet
  simp only [ite_profiles, raiseBlk_profiles, noteAlert_profiles, setReg_profiles, ite_self]
@[simp] theorem raiseQuiet_cph (d : Device) (r n : Nat) : (d.raiseQuiet r n).cph = d.cph := by
  unfold raiseQuiet
  simp only [ite_cph, raiseBlk_cph, noteAlert_cph, setReg_cph, ite_self]
@[simp] theorem raiseQuiet_fws (d : Device) (r n : Nat) : (d.raiseQuiet r n).fws = d.fws := by
  unfold raiseQuiet
  simp only [ite_fws, raiseBlk_fws, noteAlert_fws, setReg_fws, ite_self]
@[simp] theorem raiseQuiet_age (d : Device) (r n : Nat) : (d.raiseQuiet r n).age = d.age := by
  unfold raiseQuiet
  simp only [ite_age, raiseBlk_age, noteAlert_age, setReg_age, ite_self]
@[simp] theorem raiseQuiet_trl (d : Device) (r n : Nat) : (d.raiseQuiet r n).trl = d.trl := by
  unfold raiseQuiet
  simp only [ite_trl, raiseBlk_trl, noteAlert_trl, setReg_trl, ite_self]
@[simp] theorem raiseQuiet_net (d : Device) (r n : Nat) : (d.raiseQuiet r n).net = d.net := by
  unfold raiseQuiet
  simp only [ite_net, raiseBlk_net, noteAlert_net, setReg_net, ite_self]
@[simp] theorem raiseQuiet_pdt (d : Device) (r n : Nat) : (d.raiseQuiet r n).pdt = d.pdt := by
  unfold raiseQuiet
  simp only [ite_pdt, raiseBlk_pdt, noteAlert_pdt, setReg_pdt, ite_self]
@[simp] theorem raiseQuiet_drm (d : Device) (r n : Nat) : (d.raiseQuiet r n).drm = d.drm := by
  unfold raiseQuiet
  simp only [ite_drm, raiseBlk_drm, noteAlert_drm, setReg_drm, ite_self]
@[simp] theorem raiseQuiet_cel (d : Device) (r n : Nat) : (d.raiseQuiet r n).cel = d.cel := by
  unfold raiseQuiet
  simp only [ite_cel, raiseBlk_cel, noteAlert_cel, setReg_cel, ite_self]

/-! ### raise -/

@[simp] theorem raise_latches (d : Device) (r n sev : Nat) : (d.raise r n sev).latches = d.latches := by
  unfold raise
  simp only [ite_latches, raiseQuiet_latches, event_latches, ite_self]
@[simp] theorem raise_mem (d : Device) (r n sev : Nat) : (d.raise r n sev).mem = d.mem := by
  unfold raise
  simp only [ite_mem, raiseQuiet_mem, event_mem, ite_self]
@[simp] theorem raise_now (d : Device) (r n sev : Nat) : (d.raise r n sev).now = d.now := by
  unfold raise
  simp only [ite_now, raiseQuiet_now, event_now, ite_self]
@[simp] theorem raise_usecBase (d : Device) (r n sev : Nat) : (d.raise r n sev).usecBase = d.usecBase := by
  unfold raise
  simp only [ite_usecBase, raiseQuiet_usecBase, event_usecBase, ite_self]
@[simp] theorem raise_freeCtr (d : Device) (r n sev : Nat) : (d.raise r n sev).freeCtr = d.freeCtr := by
  unfold raise
  simp only [ite_freeCtr, raiseQuiet_freeCtr, event_freeCtr, ite_self]
@[simp] theorem raise_i3cPtr (d : Device) (r n sev : Nat) : (d.raise r n sev).i3cPtr = d.i3cPtr := by
  unfold raise
  simp only [ite_i3cPtr, raiseQuiet_i3cPtr, event_i3cPtr, ite_self]
@[simp] theorem raise_i3cForm (d : Device) (r n sev : Nat) : (d.raise r n sev).i3cForm = d.i3cForm := by
  unfold raise
  simp only [ite_i3cForm, raiseQuiet_i3cForm, event_i3cForm, ite_self]
@[simp] theorem raise_i3cIbi (d : Device) (r n sev : Nat) : (d.raise r n sev).i3cIbi = d.i3cIbi := by
  unfold raise
  simp only [ite_i3cIbi, raiseQuiet_i3cIbi, event_i3cIbi, ite_self]
@[simp] theorem raise_hubOn (d : Device) (r n sev : Nat) : (d.raise r n sev).hubOn = d.hubOn := by
  unfold raise
  simp only [ite_hubOn, raiseQuiet_hubOn, event_hubOn, ite_self]
@[simp] theorem raise_pst (d : Device) (r n sev : Nat) : (d.raise r n sev).pst = d.pst := by
  unfold raise
  simp only [ite_pst, raiseQuiet_pst, event_pst, ite_self]
@[simp] theorem raise_csk (d : Device) (r n sev : Nat) : (d.raise r n sev).csk = d.csk := by
  unfold raise
  simp only [ite_csk, raiseQuiet_csk, event_csk, ite_self]
@[simp] theorem raise_hold (d : Device) (r n sev : Nat) : (d.raise r n sev).hold = d.hold := by
  unfold raise
  simp only [ite_hold, raiseQuiet_hold, event_hold, ite_self]
@[simp] theorem raise_adm (d : Device) (r n sev : Nat) : (d.raise r n sev).adm = d.adm := by
  unfold raise
  simp only [ite_adm, raiseQuiet_adm, event_adm, ite_self]
@[simp] theorem raise_rst (d : Device) (r n sev : Nat) : (d.raise r n sev).rst = d.rst := by
  unfold raise
  simp only [ite_rst, raiseQuiet_rst, event_rst, ite_self]
@[simp] theorem raise_mir (d : Device) (r n sev : Nat) : (d.raise r n sev).mir = d.mir := by
  unfold raise
  simp only [ite_mir, raiseQuiet_mir, event_mir, ite_self]
@[simp] theorem raise_qmg (d : Device) (r n sev : Nat) : (d.raise r n sev).qmg = d.qmg := by
  unfold raise
  simp only [ite_qmg, raiseQuiet_qmg, event_qmg, ite_self]
@[simp] theorem raise_sup (d : Device) (r n sev : Nat) : (d.raise r n sev).sup = d.sup := by
  unfold raise
  simp only [ite_sup, raiseQuiet_sup, event_sup, ite_self]
@[simp] theorem raise_profiles (d : Device) (r n sev : Nat) : (d.raise r n sev).profiles = d.profiles := by
  unfold raise
  simp only [ite_profiles, raiseQuiet_profiles, event_profiles, ite_self]
@[simp] theorem raise_cph (d : Device) (r n sev : Nat) : (d.raise r n sev).cph = d.cph := by
  unfold raise
  simp only [ite_cph, raiseQuiet_cph, event_cph, ite_self]
@[simp] theorem raise_fws (d : Device) (r n sev : Nat) : (d.raise r n sev).fws = d.fws := by
  unfold raise
  simp only [ite_fws, raiseQuiet_fws, event_fws, ite_self]
@[simp] theorem raise_age (d : Device) (r n sev : Nat) : (d.raise r n sev).age = d.age := by
  unfold raise
  simp only [ite_age, raiseQuiet_age, event_age, ite_self]
@[simp] theorem raise_trl (d : Device) (r n sev : Nat) : (d.raise r n sev).trl = d.trl := by
  unfold raise
  simp only [ite_trl, raiseQuiet_trl, event_trl, ite_self]
@[simp] theorem raise_net (d : Device) (r n sev : Nat) : (d.raise r n sev).net = d.net := by
  unfold raise
  simp only [ite_net, raiseQuiet_net, event_net, ite_self]
@[simp] theorem raise_pdt (d : Device) (r n sev : Nat) : (d.raise r n sev).pdt = d.pdt := by
  unfold raise
  simp only [ite_pdt, raiseQuiet_pdt, event_pdt, ite_self]
@[simp] theorem raise_drm (d : Device) (r n sev : Nat) : (d.raise r n sev).drm = d.drm := by
  unfold raise
  simp only [ite_drm, raiseQuiet_drm, event_drm, ite_self]
@[simp] theorem raise_cel (d : Device) (r n sev : Nat) : (d.raise r n sev).cel = d.cel := by
  unfold raise
  simp only [ite_cel, raiseQuiet_cel, event_cel, ite_self]

/-! ### updSq -/

@[simp] theorem updSq_regs (d : Device) (fn q : Nat) (f : Sq → Sq) : (d.updSq fn q f).regs = d.regs := by
  unfold updSq
  split <;> simp
@[simp] theorem updSq_latches (d : Device) (fn q : Nat) (f : Sq → Sq) : (d.updSq fn q f).latches = d.latches := by
  unfold updSq
  split <;> simp
@[simp] theorem updSq_mem (d : Device) (fn q : Nat) (f : Sq → Sq) : (d.updSq fn q f).mem = d.mem := by
  unfold updSq
  split <;> simp
@[simp] theorem updSq_now (d : Device) (fn q : Nat) (f : Sq → Sq) : (d.updSq fn q f).now = d.now := by
  unfold updSq
  split <;> simp
@[simp] theorem updSq_usecBase (d : Device) (fn q : Nat) (f : Sq → Sq) : (d.updSq fn q f).usecBase = d.usecBase := by
  unfold updSq
  split <;> simp
@[simp] theorem updSq_freeCtr (d : Device) (fn q : Nat) (f : Sq → Sq) : (d.updSq fn q f).freeCtr = d.freeCtr := by
  unfold updSq
  split <;> simp
@[simp] theorem updSq_out (d : Device) (fn q : Nat) (f : Sq → Sq) : (d.updSq fn q f).out = d.out := by
  unfold updSq
  split <;> simp
@[simp] theorem updSq_i3cPtr (d : Device) (fn q : Nat) (f : Sq → Sq) : (d.updSq fn q f).i3cPtr = d.i3cPtr := by
  unfold updSq
  split <;> simp
@[simp] theorem updSq_i3cForm (d : Device) (fn q : Nat) (f : Sq → Sq) : (d.updSq fn q f).i3cForm = d.i3cForm := by
  unfold updSq
  split <;> simp
@[simp] theorem updSq_i3cIbi (d : Device) (fn q : Nat) (f : Sq → Sq) : (d.updSq fn q f).i3cIbi = d.i3cIbi := by
  unfold updSq
  split <;> simp
@[simp] theorem updSq_hubOn (d : Device) (fn q : Nat) (f : Sq → Sq) : (d.updSq fn q f).hubOn = d.hubOn := by
  unfold updSq
  split <;> simp
@[simp] theorem updSq_evr (d : Device) (fn q : Nat) (f : Sq → Sq) : (d.updSq fn q f).evr = d.evr := by
  unfold updSq
  split <;> simp
@[simp] theorem updSq_pst (d : Device) (fn q : Nat) (f : Sq → Sq) : (d.updSq fn q f).pst = d.pst := by
  unfold updSq
  split <;> simp
@[simp] theorem updSq_csk (d : Device) (fn q : Nat) (f : Sq → Sq) : (d.updSq fn q f).csk = d.csk := by
  unfold updSq
  split <;> simp
@[simp] theorem updSq_hold (d : Device) (fn q : Nat) (f : Sq → Sq) : (d.updSq fn q f).hold = d.hold := by
  unfold updSq
  split <;> simp
@[simp] theorem updSq_adm (d : Device) (fn q : Nat) (f : Sq → Sq) : (d.updSq fn q f).adm = d.adm := by
  unfold updSq
  split <;> simp
@[simp] theorem updSq_rst (d : Device) (fn q : Nat) (f : Sq → Sq) : (d.updSq fn q f).rst = d.rst := by
  unfold updSq
  split <;> simp
@[simp] theorem updSq_mir (d : Device) (fn q : Nat) (f : Sq → Sq) : (d.updSq fn q f).mir = d.mir := by
  unfold updSq
  split <;> simp
@[simp] theorem updSq_qmg (d : Device) (fn q : Nat) (f : Sq → Sq) : (d.updSq fn q f).qmg = d.qmg := by
  unfold updSq
  split <;> simp
@[simp] theorem updSq_sup (d : Device) (fn q : Nat) (f : Sq → Sq) : (d.updSq fn q f).sup = d.sup := by
  unfold updSq
  split <;> simp
@[simp] theorem updSq_profiles (d : Device) (fn q : Nat) (f : Sq → Sq) : (d.updSq fn q f).profiles = d.profiles := by
  unfold updSq
  split <;> simp
@[simp] theorem updSq_cph (d : Device) (fn q : Nat) (f : Sq → Sq) : (d.updSq fn q f).cph = d.cph := by
  unfold updSq
  split <;> simp
@[simp] theorem updSq_fws (d : Device) (fn q : Nat) (f : Sq → Sq) : (d.updSq fn q f).fws = d.fws := by
  unfold updSq
  split <;> simp
@[simp] theorem updSq_age (d : Device) (fn q : Nat) (f : Sq → Sq) : (d.updSq fn q f).age = d.age := by
  unfold updSq
  split <;> simp
@[simp] theorem updSq_trl (d : Device) (fn q : Nat) (f : Sq → Sq) : (d.updSq fn q f).trl = d.trl := by
  unfold updSq
  split <;> simp
@[simp] theorem updSq_net (d : Device) (fn q : Nat) (f : Sq → Sq) : (d.updSq fn q f).net = d.net := by
  unfold updSq
  split <;> simp
@[simp] theorem updSq_pdt (d : Device) (fn q : Nat) (f : Sq → Sq) : (d.updSq fn q f).pdt = d.pdt := by
  unfold updSq
  split <;> simp
@[simp] theorem updSq_drm (d : Device) (fn q : Nat) (f : Sq → Sq) : (d.updSq fn q f).drm = d.drm := by
  unfold updSq
  split <;> simp
@[simp] theorem updSq_cel (d : Device) (fn q : Nat) (f : Sq → Sq) : (d.updSq fn q f).cel = d.cel := by
  unfold updSq
  split <;> simp

/-! ### updDesc -/

@[simp] theorem updDesc_regs (d : Device) (fn q seq : Nat) (f : DescState → DescState) : (d.updDesc fn q seq f).regs = d.regs := updSq_regs ..
@[simp] theorem updDesc_latches (d : Device) (fn q seq : Nat) (f : DescState → DescState) : (d.updDesc fn q seq f).latches = d.latches := updSq_latches ..
@[simp] theorem updDesc_mem (d : Device) (fn q seq : Nat) (f : DescState → DescState) : (d.updDesc fn q seq f).mem = d.mem := updSq_mem ..
@[simp] theorem updDesc_now (d : Device) (fn q seq : Nat) (f : DescState → DescState) : (d.updDesc fn q seq f).now = d.now := updSq_now ..
@[simp] theorem updDesc_usecBase (d : Device) (fn q seq : Nat) (f : DescState → DescState) : (d.updDesc fn q seq f).usecBase = d.usecBase := updSq_usecBase ..
@[simp] theorem updDesc_freeCtr (d : Device) (fn q seq : Nat) (f : DescState → DescState) : (d.updDesc fn q seq f).freeCtr = d.freeCtr := updSq_freeCtr ..
@[simp] theorem updDesc_out (d : Device) (fn q seq : Nat) (f : DescState → DescState) : (d.updDesc fn q seq f).out = d.out := updSq_out ..
@[simp] theorem updDesc_i3cPtr (d : Device) (fn q seq : Nat) (f : DescState → DescState) : (d.updDesc fn q seq f).i3cPtr = d.i3cPtr := updSq_i3cPtr ..
@[simp] theorem updDesc_i3cForm (d : Device) (fn q seq : Nat) (f : DescState → DescState) : (d.updDesc fn q seq f).i3cForm = d.i3cForm := updSq_i3cForm ..
@[simp] theorem updDesc_i3cIbi (d : Device) (fn q seq : Nat) (f : DescState → DescState) : (d.updDesc fn q seq f).i3cIbi = d.i3cIbi := updSq_i3cIbi ..
@[simp] theorem updDesc_hubOn (d : Device) (fn q seq : Nat) (f : DescState → DescState) : (d.updDesc fn q seq f).hubOn = d.hubOn := updSq_hubOn ..
@[simp] theorem updDesc_evr (d : Device) (fn q seq : Nat) (f : DescState → DescState) : (d.updDesc fn q seq f).evr = d.evr := updSq_evr ..
@[simp] theorem updDesc_pst (d : Device) (fn q seq : Nat) (f : DescState → DescState) : (d.updDesc fn q seq f).pst = d.pst := updSq_pst ..
@[simp] theorem updDesc_csk (d : Device) (fn q seq : Nat) (f : DescState → DescState) : (d.updDesc fn q seq f).csk = d.csk := updSq_csk ..
@[simp] theorem updDesc_hold (d : Device) (fn q seq : Nat) (f : DescState → DescState) : (d.updDesc fn q seq f).hold = d.hold := updSq_hold ..
@[simp] theorem updDesc_adm (d : Device) (fn q seq : Nat) (f : DescState → DescState) : (d.updDesc fn q seq f).adm = d.adm := updSq_adm ..
@[simp] theorem updDesc_rst (d : Device) (fn q seq : Nat) (f : DescState → DescState) : (d.updDesc fn q seq f).rst = d.rst := updSq_rst ..
@[simp] theorem updDesc_mir (d : Device) (fn q seq : Nat) (f : DescState → DescState) : (d.updDesc fn q seq f).mir = d.mir := updSq_mir ..
@[simp] theorem updDesc_qmg (d : Device) (fn q seq : Nat) (f : DescState → DescState) : (d.updDesc fn q seq f).qmg = d.qmg := updSq_qmg ..
@[simp] theorem updDesc_sup (d : Device) (fn q seq : Nat) (f : DescState → DescState) : (d.updDesc fn q seq f).sup = d.sup := updSq_sup ..
@[simp] theorem updDesc_profiles (d : Device) (fn q seq : Nat) (f : DescState → DescState) : (d.updDesc fn q seq f).profiles = d.profiles := updSq_profiles ..
@[simp] theorem updDesc_cph (d : Device) (fn q seq : Nat) (f : DescState → DescState) : (d.updDesc fn q seq f).cph = d.cph := updSq_cph ..
@[simp] theorem updDesc_fws (d : Device) (fn q seq : Nat) (f : DescState → DescState) : (d.updDesc fn q seq f).fws = d.fws := updSq_fws ..
@[simp] theorem updDesc_age (d : Device) (fn q seq : Nat) (f : DescState → DescState) : (d.updDesc fn q seq f).age = d.age := updSq_age ..
@[simp] theorem updDesc_trl (d : Device) (fn q seq : Nat) (f : DescState → DescState) : (d.updDesc fn q seq f).trl = d.trl := updSq_trl ..
@[simp] theorem updDesc_net (d : Device) (fn q seq : Nat) (f : DescState → DescState) : (d.updDesc fn q seq f).net = d.net := updSq_net ..
@[simp] theorem updDesc_pdt (d : Device) (fn q seq : Nat) (f : DescState → DescState) : (d.updDesc fn q seq f).pdt = d.pdt := updSq_pdt ..
@[simp] theorem updDesc_drm (d : Device) (fn q seq : Nat) (f : DescState → DescState) : (d.updDesc fn q seq f).drm = d.drm := updSq_drm ..
@[simp] theorem updDesc_cel (d : Device) (fn q seq : Nat) (f : DescState → DescState) : (d.updDesc fn q seq f).cel = d.cel := updSq_cel ..

/-! ### startDesc -/

@[simp] theorem startDesc_regs (d : Device) (fn q : Nat) (x : DescState) : (d.startDesc fn q x).regs = d.regs := updSq_regs ..
@[simp] theorem startDesc_latches (d : Device) (fn q : Nat) (x : DescState) : (d.startDesc fn q x).latches = d.latches := updSq_latches ..
@[simp] theorem startDesc_mem (d : Device) (fn q : Nat) (x : DescState) : (d.startDesc fn q x).mem = d.mem := updSq_mem ..
@[simp] theorem startDesc_now (d : Device) (fn q : Nat) (x : DescState) : (d.startDesc fn q x).now = d.now := updSq_now ..
@[simp] theorem startDesc_usecBase (d : Device) (fn q : Nat) (x : DescState) : (d.startDesc fn q x).usecBase = d.usecBase := updSq_usecBase ..
@[simp] theorem startDesc_freeCtr (d : Device) (fn q : Nat) (x : DescState) : (d.startDesc fn q x).freeCtr = d.freeCtr := updSq_freeCtr ..
@[simp] theorem startDesc_out (d : Device) (fn q : Nat) (x : DescState) : (d.startDesc fn q x).out = d.out := updSq_out ..
@[simp] theorem startDesc_i3cPtr (d : Device) (fn q : Nat) (x : DescState) : (d.startDesc fn q x).i3cPtr = d.i3cPtr := updSq_i3cPtr ..
@[simp] theorem startDesc_i3cForm (d : Device) (fn q : Nat) (x : DescState) : (d.startDesc fn q x).i3cForm = d.i3cForm := updSq_i3cForm ..
@[simp] theorem startDesc_i3cIbi (d : Device) (fn q : Nat) (x : DescState) : (d.startDesc fn q x).i3cIbi = d.i3cIbi := updSq_i3cIbi ..
@[simp] theorem startDesc_hubOn (d : Device) (fn q : Nat) (x : DescState) : (d.startDesc fn q x).hubOn = d.hubOn := updSq_hubOn ..
@[simp] theorem startDesc_evr (d : Device) (fn q : Nat) (x : DescState) : (d.startDesc fn q x).evr = d.evr := updSq_evr ..
@[simp] theorem startDesc_pst (d : Device) (fn q : Nat) (x : DescState) : (d.startDesc fn q x).pst = d.pst := updSq_pst ..
@[simp] theorem startDesc_csk (d : Device) (fn q : Nat) (x : DescState) : (d.startDesc fn q x).csk = d.csk := updSq_csk ..
@[simp] theorem startDesc_hold (d : Device) (fn q : Nat) (x : DescState) : (d.startDesc fn q x).hold = d.hold := updSq_hold ..
@[simp] theorem startDesc_adm (d : Device) (fn q : Nat) (x : DescState) : (d.startDesc fn q x).adm = d.adm := updSq_adm ..
@[simp] theorem startDesc_rst (d : Device) (fn q : Nat) (x : DescState) : (d.startDesc fn q x).rst = d.rst := updSq_rst ..
@[simp] theorem startDesc_mir (d : Device) (fn q : Nat) (x : DescState) : (d.startDesc fn q x).mir = d.mir := updSq_mir ..
@[simp] theorem startDesc_qmg (d : Device) (fn q : Nat) (x : DescState) : (d.startDesc fn q x).qmg = d.qmg := updSq_qmg ..
@[simp] theorem startDesc_sup (d : Device) (fn q : Nat) (x : DescState) : (d.startDesc fn q x).sup = d.sup := updSq_sup ..
@[simp] theorem startDesc_profiles (d : Device) (fn q : Nat) (x : DescState) : (d.startDesc fn q x).profiles = d.profiles := updSq_profiles ..
@[simp] theorem startDesc_cph (d : Device) (fn q : Nat) (x : DescState) : (d.startDesc fn q x).cph = d.cph := updSq_cph ..
@[simp] theorem startDesc_fws (d : Device) (fn q : Nat) (x : DescState) : (d.startDesc fn q x).fws = d.fws := updSq_fws ..
@[simp] theorem startDesc_age (d : Device) (fn q : Nat) (x : DescState) : (d.startDesc fn q x).age = d.age := updSq_age ..
@[simp] theorem startDesc_trl (d : Device) (fn q : Nat) (x : DescState) : (d.startDesc fn q x).trl = d.trl := updSq_trl ..
@[simp] theorem startDesc_net (d : Device) (fn q : Nat) (x : DescState) : (d.startDesc fn q x).net = d.net := updSq_net ..
@[simp] theorem startDesc_pdt (d : Device) (fn q : Nat) (x : DescState) : (d.startDesc fn q x).pdt = d.pdt := updSq_pdt ..
@[simp] theorem startDesc_drm (d : Device) (fn q : Nat) (x : DescState) : (d.startDesc fn q x).drm = d.drm := updSq_drm ..
@[simp] theorem startDesc_cel (d : Device) (fn q : Nat) (x : DescState) : (d.startDesc fn q x).cel = d.cel := updSq_cel ..

/-! ### releaseDesc, takenDesc, beginDesc -/

@[simp] theorem releaseDesc_regs (d : Device) (fn q seq : Nat) : (d.releaseDesc fn q seq).regs = d.regs := by unfold releaseDesc; split <;> rfl
@[simp] theorem takenDesc_regs (d : Device) (fn q : Nat) (x : DescState) : (d.takenDesc fn q x).regs = d.regs := by simp [takenDesc]
@[simp] theorem beginDesc_regs (d : Device) (fn q op : Nat) (x : DescState) : (d.beginDesc fn q op x).regs = d.regs := by unfold beginDesc; split <;> simp
@[simp] theorem releaseDesc_latches (d : Device) (fn q seq : Nat) : (d.releaseDesc fn q seq).latches = d.latches := by unfold releaseDesc; split <;> rfl
@[simp] theorem takenDesc_latches (d : Device) (fn q : Nat) (x : DescState) : (d.takenDesc fn q x).latches = d.latches := by simp [takenDesc]
@[simp] theorem beginDesc_latches (d : Device) (fn q op : Nat) (x : DescState) : (d.beginDesc fn q op x).latches = d.latches := by unfold beginDesc; split <;> simp
@[simp] theorem releaseDesc_mem (d : Device) (fn q seq : Nat) : (d.releaseDesc fn q seq).mem = d.mem := by unfold releaseDesc; split <;> rfl
@[simp] theorem takenDesc_mem (d : Device) (fn q : Nat) (x : DescState) : (d.takenDesc fn q x).mem = d.mem := by simp [takenDesc]
@[simp] theorem beginDesc_mem (d : Device) (fn q op : Nat) (x : DescState) : (d.beginDesc fn q op x).mem = d.mem := by unfold beginDesc; split <;> simp
@[simp] theorem releaseDesc_now (d : Device) (fn q seq : Nat) : (d.releaseDesc fn q seq).now = d.now := by unfold releaseDesc; split <;> rfl
@[simp] theorem takenDesc_now (d : Device) (fn q : Nat) (x : DescState) : (d.takenDesc fn q x).now = d.now := by simp [takenDesc]
@[simp] theorem beginDesc_now (d : Device) (fn q op : Nat) (x : DescState) : (d.beginDesc fn q op x).now = d.now := by unfold beginDesc; split <;> simp
@[simp] theorem releaseDesc_usecBase (d : Device) (fn q seq : Nat) : (d.releaseDesc fn q seq).usecBase = d.usecBase := by unfold releaseDesc; split <;> rfl
@[simp] theorem takenDesc_usecBase (d : Device) (fn q : Nat) (x : DescState) : (d.takenDesc fn q x).usecBase = d.usecBase := by simp [takenDesc]
@[simp] theorem beginDesc_usecBase (d : Device) (fn q op : Nat) (x : DescState) : (d.beginDesc fn q op x).usecBase = d.usecBase := by unfold beginDesc; split <;> simp
@[simp] theorem releaseDesc_freeCtr (d : Device) (fn q seq : Nat) : (d.releaseDesc fn q seq).freeCtr = d.freeCtr := by unfold releaseDesc; split <;> rfl
@[simp] theorem takenDesc_freeCtr (d : Device) (fn q : Nat) (x : DescState) : (d.takenDesc fn q x).freeCtr = d.freeCtr := by simp [takenDesc]
@[simp] theorem beginDesc_freeCtr (d : Device) (fn q op : Nat) (x : DescState) : (d.beginDesc fn q op x).freeCtr = d.freeCtr := by unfold beginDesc; split <;> simp
@[simp] theorem releaseDesc_out (d : Device) (fn q seq : Nat) : (d.releaseDesc fn q seq).out = d.out := by unfold releaseDesc; split <;> rfl
@[simp] theorem takenDesc_out (d : Device) (fn q : Nat) (x : DescState) : (d.takenDesc fn q x).out = d.out := by simp [takenDesc]
@[simp] theorem beginDesc_out (d : Device) (fn q op : Nat) (x : DescState) : (d.beginDesc fn q op x).out = d.out := by unfold beginDesc; split <;> simp
@[simp] theorem releaseDesc_i3cPtr (d : Device) (fn q seq : Nat) : (d.releaseDesc fn q seq).i3cPtr = d.i3cPtr := by unfold releaseDesc; split <;> rfl
@[simp] theorem takenDesc_i3cPtr (d : Device) (fn q : Nat) (x : DescState) : (d.takenDesc fn q x).i3cPtr = d.i3cPtr := by simp [takenDesc]
@[simp] theorem beginDesc_i3cPtr (d : Device) (fn q op : Nat) (x : DescState) : (d.beginDesc fn q op x).i3cPtr = d.i3cPtr := by unfold beginDesc; split <;> simp
@[simp] theorem releaseDesc_i3cForm (d : Device) (fn q seq : Nat) : (d.releaseDesc fn q seq).i3cForm = d.i3cForm := by unfold releaseDesc; split <;> rfl
@[simp] theorem takenDesc_i3cForm (d : Device) (fn q : Nat) (x : DescState) : (d.takenDesc fn q x).i3cForm = d.i3cForm := by simp [takenDesc]
@[simp] theorem beginDesc_i3cForm (d : Device) (fn q op : Nat) (x : DescState) : (d.beginDesc fn q op x).i3cForm = d.i3cForm := by unfold beginDesc; split <;> simp
@[simp] theorem releaseDesc_i3cIbi (d : Device) (fn q seq : Nat) : (d.releaseDesc fn q seq).i3cIbi = d.i3cIbi := by unfold releaseDesc; split <;> rfl
@[simp] theorem takenDesc_i3cIbi (d : Device) (fn q : Nat) (x : DescState) : (d.takenDesc fn q x).i3cIbi = d.i3cIbi := by simp [takenDesc]
@[simp] theorem beginDesc_i3cIbi (d : Device) (fn q op : Nat) (x : DescState) : (d.beginDesc fn q op x).i3cIbi = d.i3cIbi := by unfold beginDesc; split <;> simp
@[simp] theorem releaseDesc_hubOn (d : Device) (fn q seq : Nat) : (d.releaseDesc fn q seq).hubOn = d.hubOn := by unfold releaseDesc; split <;> rfl
@[simp] theorem takenDesc_hubOn (d : Device) (fn q : Nat) (x : DescState) : (d.takenDesc fn q x).hubOn = d.hubOn := by simp [takenDesc]
@[simp] theorem beginDesc_hubOn (d : Device) (fn q op : Nat) (x : DescState) : (d.beginDesc fn q op x).hubOn = d.hubOn := by unfold beginDesc; split <;> simp
@[simp] theorem releaseDesc_evr (d : Device) (fn q seq : Nat) : (d.releaseDesc fn q seq).evr = d.evr := by unfold releaseDesc; split <;> rfl
@[simp] theorem takenDesc_evr (d : Device) (fn q : Nat) (x : DescState) : (d.takenDesc fn q x).evr = d.evr := by simp [takenDesc]
@[simp] theorem beginDesc_evr (d : Device) (fn q op : Nat) (x : DescState) : (d.beginDesc fn q op x).evr = d.evr := by unfold beginDesc; split <;> simp
@[simp] theorem releaseDesc_pst (d : Device) (fn q seq : Nat) : (d.releaseDesc fn q seq).pst = d.pst := by unfold releaseDesc; split <;> rfl
@[simp] theorem takenDesc_pst (d : Device) (fn q : Nat) (x : DescState) : (d.takenDesc fn q x).pst = d.pst := by simp [takenDesc]
@[simp] theorem beginDesc_pst (d : Device) (fn q op : Nat) (x : DescState) : (d.beginDesc fn q op x).pst = d.pst := by unfold beginDesc; split <;> simp
@[simp] theorem releaseDesc_csk (d : Device) (fn q seq : Nat) : (d.releaseDesc fn q seq).csk = d.csk := by unfold releaseDesc; split <;> rfl
@[simp] theorem takenDesc_csk (d : Device) (fn q : Nat) (x : DescState) : (d.takenDesc fn q x).csk = d.csk := by simp [takenDesc]
@[simp] theorem beginDesc_csk (d : Device) (fn q op : Nat) (x : DescState) : (d.beginDesc fn q op x).csk = d.csk := by unfold beginDesc; split <;> simp
@[simp] theorem releaseDesc_hold (d : Device) (fn q seq : Nat) : (d.releaseDesc fn q seq).hold = d.hold := by unfold releaseDesc; split <;> rfl
@[simp] theorem takenDesc_hold (d : Device) (fn q : Nat) (x : DescState) : (d.takenDesc fn q x).hold = d.hold := by simp [takenDesc]
@[simp] theorem beginDesc_hold (d : Device) (fn q op : Nat) (x : DescState) : (d.beginDesc fn q op x).hold = d.hold := by unfold beginDesc; split <;> simp
@[simp] theorem releaseDesc_adm (d : Device) (fn q seq : Nat) : (d.releaseDesc fn q seq).adm = d.adm := by unfold releaseDesc; split <;> rfl
@[simp] theorem takenDesc_adm (d : Device) (fn q : Nat) (x : DescState) : (d.takenDesc fn q x).adm = d.adm := by simp [takenDesc]
@[simp] theorem beginDesc_adm (d : Device) (fn q op : Nat) (x : DescState) : (d.beginDesc fn q op x).adm = d.adm := by unfold beginDesc; split <;> simp
@[simp] theorem releaseDesc_rst (d : Device) (fn q seq : Nat) : (d.releaseDesc fn q seq).rst = d.rst := by unfold releaseDesc; split <;> rfl
@[simp] theorem takenDesc_rst (d : Device) (fn q : Nat) (x : DescState) : (d.takenDesc fn q x).rst = d.rst := by simp [takenDesc]
@[simp] theorem beginDesc_rst (d : Device) (fn q op : Nat) (x : DescState) : (d.beginDesc fn q op x).rst = d.rst := by unfold beginDesc; split <;> simp
@[simp] theorem releaseDesc_mir (d : Device) (fn q seq : Nat) : (d.releaseDesc fn q seq).mir = d.mir := by unfold releaseDesc; split <;> rfl
@[simp] theorem takenDesc_mir (d : Device) (fn q : Nat) (x : DescState) : (d.takenDesc fn q x).mir = d.mir := by simp [takenDesc]
@[simp] theorem beginDesc_mir (d : Device) (fn q op : Nat) (x : DescState) : (d.beginDesc fn q op x).mir = d.mir := by unfold beginDesc; split <;> simp
@[simp] theorem releaseDesc_sup (d : Device) (fn q seq : Nat) : (d.releaseDesc fn q seq).sup = d.sup := by unfold releaseDesc; split <;> rfl
@[simp] theorem takenDesc_sup (d : Device) (fn q : Nat) (x : DescState) : (d.takenDesc fn q x).sup = d.sup := by simp [takenDesc]
@[simp] theorem beginDesc_sup (d : Device) (fn q op : Nat) (x : DescState) : (d.beginDesc fn q op x).sup = d.sup := by unfold beginDesc; split <;> simp
@[simp] theorem releaseDesc_profiles (d : Device) (fn q seq : Nat) : (d.releaseDesc fn q seq).profiles = d.profiles := by unfold releaseDesc; split <;> rfl
@[simp] theorem takenDesc_profiles (d : Device) (fn q : Nat) (x : DescState) : (d.takenDesc fn q x).profiles = d.profiles := by simp [takenDesc]
@[simp] theorem beginDesc_profiles (d : Device) (fn q op : Nat) (x : DescState) : (d.beginDesc fn q op x).profiles = d.profiles := by unfold beginDesc; split <;> simp
@[simp] theorem releaseDesc_cph (d : Device) (fn q seq : Nat) : (d.releaseDesc fn q seq).cph = d.cph := by unfold releaseDesc; split <;> rfl
@[simp] theorem takenDesc_cph (d : Device) (fn q : Nat) (x : DescState) : (d.takenDesc fn q x).cph = d.cph := by simp [takenDesc]
@[simp] theorem beginDesc_cph (d : Device) (fn q op : Nat) (x : DescState) : (d.beginDesc fn q op x).cph = d.cph := by unfold beginDesc; split <;> simp
@[simp] theorem releaseDesc_fws (d : Device) (fn q seq : Nat) : (d.releaseDesc fn q seq).fws = d.fws := by unfold releaseDesc; split <;> rfl
@[simp] theorem takenDesc_fws (d : Device) (fn q : Nat) (x : DescState) : (d.takenDesc fn q x).fws = d.fws := by simp [takenDesc]
@[simp] theorem beginDesc_fws (d : Device) (fn q op : Nat) (x : DescState) : (d.beginDesc fn q op x).fws = d.fws := by unfold beginDesc; split <;> simp
@[simp] theorem releaseDesc_age (d : Device) (fn q seq : Nat) : (d.releaseDesc fn q seq).age = d.age := by unfold releaseDesc; split <;> rfl
@[simp] theorem takenDesc_age (d : Device) (fn q : Nat) (x : DescState) : (d.takenDesc fn q x).age = d.age := by simp [takenDesc]
@[simp] theorem beginDesc_age (d : Device) (fn q op : Nat) (x : DescState) : (d.beginDesc fn q op x).age = d.age := by unfold beginDesc; split <;> simp
@[simp] theorem releaseDesc_trl (d : Device) (fn q seq : Nat) : (d.releaseDesc fn q seq).trl = d.trl := by unfold releaseDesc; split <;> rfl
@[simp] theorem takenDesc_trl (d : Device) (fn q : Nat) (x : DescState) : (d.takenDesc fn q x).trl = d.trl := by simp [takenDesc]
@[simp] theorem beginDesc_trl (d : Device) (fn q op : Nat) (x : DescState) : (d.beginDesc fn q op x).trl = d.trl := by unfold beginDesc; split <;> simp
@[simp] theorem releaseDesc_net (d : Device) (fn q seq : Nat) : (d.releaseDesc fn q seq).net = d.net := by unfold releaseDesc; split <;> rfl
@[simp] theorem takenDesc_net (d : Device) (fn q : Nat) (x : DescState) : (d.takenDesc fn q x).net = d.net := by simp [takenDesc]
@[simp] theorem beginDesc_net (d : Device) (fn q op : Nat) (x : DescState) : (d.beginDesc fn q op x).net = d.net := by unfold beginDesc; split <;> simp
@[simp] theorem releaseDesc_pdt (d : Device) (fn q seq : Nat) : (d.releaseDesc fn q seq).pdt = d.pdt := by unfold releaseDesc; split <;> rfl
@[simp] theorem takenDesc_pdt (d : Device) (fn q : Nat) (x : DescState) : (d.takenDesc fn q x).pdt = d.pdt := by simp [takenDesc]
@[simp] theorem beginDesc_pdt (d : Device) (fn q op : Nat) (x : DescState) : (d.beginDesc fn q op x).pdt = d.pdt := by unfold beginDesc; split <;> simp
@[simp] theorem releaseDesc_drm (d : Device) (fn q seq : Nat) : (d.releaseDesc fn q seq).drm = d.drm := by unfold releaseDesc; split <;> rfl
@[simp] theorem takenDesc_drm (d : Device) (fn q : Nat) (x : DescState) : (d.takenDesc fn q x).drm = d.drm := by simp [takenDesc]
@[simp] theorem beginDesc_drm (d : Device) (fn q op : Nat) (x : DescState) : (d.beginDesc fn q op x).drm = d.drm := by unfold beginDesc; split <;> simp
@[simp] theorem releaseDesc_cel (d : Device) (fn q seq : Nat) : (d.releaseDesc fn q seq).cel = d.cel := by unfold releaseDesc; split <;> rfl
@[simp] theorem takenDesc_cel (d : Device) (fn q : Nat) (x : DescState) : (d.takenDesc fn q x).cel = d.cel := by simp [takenDesc]
@[simp] theorem beginDesc_cel (d : Device) (fn q op : Nat) (x : DescState) : (d.beginDesc fn q op x).cel = d.cel := by unfold beginDesc; split <;> simp

end Device
end Sys2Proof.Machine
end

