-- ==== Sys2Proof/Laws/Fields.lean ====
section
/-! SUPPORT. Fields: a field reads what was put into it, and fields of a register that do not overlap it are as they were. -/

namespace Sys2Proof.Machine

/-- A number cut at a field: what is above it, the field, what is below. -/
theorem cut_eq (w p m : Nat) : w = w / (p * m) * (p * m) + w / p % m * p + w % p := by
  have h1 := Nat.div_add_mod w p
  have h2 := Nat.div_add_mod (w / p) m
  rw [← Nat.div_div_eq_div_mul]
  calc w = p * (w / p) + w % p := h1.symm
    _ = p * (m * (w / p / m) + w / p % m) + w % p := by rw [h2]
    _ = w / p / m * (p * m) + w / p % m * p + w % p := by
      rw [Nat.mul_add, Nat.mul_comm p (w / p % m), Nat.mul_comm (w / p / m) (p * m), ← Nat.mul_assoc]

theorem bitsSet_toNat (w : Word) {hi lo : Nat} (v : Nat) (h1 : lo ≤ hi) (h2 : hi < 32) :
    (bitsSet w hi lo v).toNat = w.toNat / (2 ^ lo * 2 ^ (hi + 1 - lo)) * (2 ^ lo * 2 ^ (hi + 1 - lo)) + v % 2 ^ (hi + 1 - lo) * 2 ^ lo + w.toNat % 2 ^ lo := by
  have hp : 0 < 2 ^ lo := Nat.pos_of_ne_zero (by simp)
  have hm : 0 < 2 ^ (hi + 1 - lo) := Nat.pos_of_ne_zero (by simp)
  have hw := w.isLt
  have hc := cut_eq w.toNat (2 ^ lo) (2 ^ (hi + 1 - lo))
  have hpm : 2 ^ lo * 2 ^ (hi + 1 - lo) = 2 ^ (hi + 1) := by rw [← Nat.pow_add]; congr 1; omega
  have h32 : 2 ^ (31 - hi) * 2 ^ (hi + 1) = 2 ^ 32 := by rw [← Nat.pow_add]; congr 1; omega
  unfold bitsSet bitsGet
  rw [BitVec.toNat_ofNat]
  have hv : v % 2 ^ (hi + 1 - lo) * 2 ^ lo + w.toNat % 2 ^ lo < 2 ^ (hi + 1) := by
    have a := Nat.mod_lt v hm
    have b := Nat.mod_lt w.toNat hp
    have c : (v % 2 ^ (hi + 1 - lo) + 1) * 2 ^ lo ≤ 2 ^ (hi + 1 - lo) * 2 ^ lo := Nat.mul_le_mul_right _ a
    rw [Nat.add_mul, Nat.one_mul, Nat.mul_comm (2 ^ (hi + 1 - lo)) (2 ^ lo), hpm] at c
    omega
  rw [hpm] at hc ⊢
  have ha : w.toNat / 2 ^ (hi + 1) < 2 ^ (31 - hi) := by
    rw [Nat.div_lt_iff_lt_mul (Nat.pos_of_ne_zero (by simp)), h32]; exact hw
  have hb : (w.toNat / 2 ^ (hi + 1) + 1) * 2 ^ (hi + 1) ≤ 2 ^ (31 - hi) * 2 ^ (hi + 1) := Nat.mul_le_mul_right _ ha
  rw [Nat.add_mul, Nat.one_mul, h32] at hb
  generalize w.toNat / 2 ^ (hi + 1) * 2 ^ (hi + 1) = a at *
  generalize w.toNat / 2 ^ lo % 2 ^ (hi + 1 - lo) * 2 ^ lo = b at *
  rw [Nat.mod_eq_of_lt (by omega)]
  omega

theorem bitsGet_bitsSet (w : Word) {hi lo : Nat} (v : Nat) (h1 : lo ≤ hi) (h2 : hi < 32) :
    bitsGet (bitsSet w hi lo v) hi lo = v % 2 ^ (hi + 1 - lo) := by
  have hp : 0 < 2 ^ lo := Nat.pos_of_ne_zero (by simp)
  unfold bitsGet
  rw [bitsSet_toNat w v h1 h2]
  have e : w.toNat / (2 ^ lo * 2 ^ (hi + 1 - lo)) * (2 ^ lo * 2 ^ (hi + 1 - lo)) + v % 2 ^ (hi + 1 - lo) * 2 ^ lo + w.toNat % 2 ^ lo
      = w.toNat % 2 ^ lo + 2 ^ lo * (v % 2 ^ (hi + 1 - lo) + 2 ^ (hi + 1 - lo) * (w.toNat / (2 ^ lo * 2 ^ (hi + 1 - lo)))) := by
    generalize w.toNat / (2 ^ lo * 2 ^ (hi + 1 - lo)) = q
    rw [Nat.mul_add, Nat.mul_comm (2 ^ lo) (v % 2 ^ (hi + 1 - lo)), Nat.mul_comm q, Nat.mul_assoc]
    omega
  rw [e, Nat.add_mul_div_left _ _ hp, Nat.div_eq_of_lt (Nat.mod_lt _ hp), Nat.zero_add, Nat.add_mul_mod_self_left, Nat.mod_mod]

namespace Device

/-- A field reads what was put into it, cut to its width. -/
theorem fld_setFld {d : Device} (h : d.regForm) (f : Fld) (v inst : Nat) (h1 : f.lo ≤ f.hi) (h2 : f.hi < 32) :
    (d.setFld f v inst).fld f inst = v % 2 ^ (f.hi + 1 - f.lo) := by
  unfold setFld fld
  rw [reg_setReg h, if_pos rfl, bitsGet_bitsSet _ _ h1 h2]

/-- Fields of other registers, and of other instances, are as they were. -/
theorem fld_setFld_ne {d : Device} (h : d.regForm) (f g : Fld) (v inst i : Nat) (hne : rkey i g.reg ≠ rkey inst f.reg) :
    (d.setFld f v inst).fld g i = d.fld g i := by
  unfold setFld fld
  rw [reg_setReg h, if_neg hne]

theorem regForm_setFld {d : Device} (h : d.regForm) (f : Fld) (v inst : Nat) : (d.setFld f v inst).regForm := regForm_setReg _ _ _ h

end Device
end Sys2Proof.Machine
end

