-- ==== Sys2Proof/Laws/Gates.lean ====
section
/-! SUPPORT. A descriptor that its queue takes runs its operation: what the gates of the rings answer for one. -/

namespace Sys2Proof.Machine
namespace Device

theorem beginDesc_links (d : Device) (fn q op : Nat) (x : DescState) : (d.beginDesc fn q op x).hrg.links = d.hrg.links := by
  have h : (d.startDesc fn q x).hrg.links = d.hrg.links := by unfold startDesc updDesc updSq; split <;> rfl
  unfold beginDesc takenDesc releaseDesc; split
  · exact h
  · split <;> exact h

theorem beginDesc_isAdmin (d : Device) (fn q op g : Nat) (x : DescState) : (d.beginDesc fn q op x).isAdmin g = d.isAdmin g := by
  unfold isAdmin adminPfs; rw [beginDesc_links]; simp [flag, fld, reg]

theorem beginDesc_placesWrites (d : Device) (fn q op : Nat) (x : DescState) : (d.beginDesc fn q op x).placesWrites = d.placesWrites := by
  simp [placesWrites]

theorem withDesc_takes {d : Device} {fn q op : Nat} {x : DescState} {body : Device → DescState → Device} (h : d.takes fn q op x = true) :
    d.withDesc fn q op body = body (d.beginDesc fn q op x) x := by
  simp only [takes, Bool.and_eq_true, Bool.not_eq_true'] at h
  obtain ⟨⟨⟨⟨h1, h2⟩, h3⟩, h4⟩, h5⟩ := h
  unfold withDesc
  rw [eq_of_beq h1]
  split at h2
  · rename_i u hu
    simp only [hu, h2, h3, h4, h5]
    simp
  · simp at h2

theorem fnCmd_takes {d : Device} {fn op : Nat} {x : DescState} {body : Device → DescState → Device} (h : d.takesFn fn op x = true) :
    d.fnCmd fn op body = body (d.beginDesc fn 0 op x) x := by
  simp only [takesFn, Bool.and_eq_true, Bool.or_eq_true] at h
  unfold fnCmd
  rw [withDesc_takes h.1]
  rcases h.2 with h | h <;> simp only [beginDesc_rst, beginDesc_isAdmin, h] <;> simp

theorem devCmd_takes {d : Device} {fn op : Nat} {x : DescState} {body : Device → DescState → Device} (h : d.takesDev fn op x = true) :
    d.devCmd fn op body = body (d.beginDesc fn 0 op x) x := by
  simp only [takesDev, Bool.and_eq_true] at h
  unfold devCmd
  rw [withDesc_takes h.1]
  simp only [beginDesc_isAdmin, h.2, if_true]

theorem ioDesc_takes {d : Device} {fn q op : Nat} {x : DescState} {role : Bool} {body : Device → DescState → Device} (h : d.takesIo fn q op x role = true) :
    d.ioDesc fn q op role body = body (d.beginDesc fn q op x) x := by
  simp only [takesIo, Bool.and_eq_true, Bool.not_eq_true', Bool.or_eq_true] at h
  obtain ⟨⟨⟨h1, h2⟩, h3⟩, h4⟩ := h
  unfold ioDesc ioGate
  rw [h1, if_neg (by simp), withDesc_takes h2]
  simp only [beginDesc_rst, beginDesc_placesWrites, h3]
  rcases h4 with h | h <;> simp [h]

theorem coreCmd_takes {d : Device} {core fn op : Nat} {x : DescState} {body : Device → DescState → Device} (h : d.takesCore core fn op x = true) :
    d.coreCmd core fn op body = body (d.beginDesc fn 0 op x) x := by
  simp only [takesCore, Bool.and_eq_true] at h
  unfold coreCmd
  rw [if_pos h.1, devCmd_takes h.2]

theorem beginDesc_cascade (d : Device) (fn q op : Nat) (x : DescState) : (d.beginDesc fn q op x).cascadeMember = d.cascadeMember ∧
    (d.beginDesc fn q op x).cascadeShared = d.cascadeShared := by
  unfold cascadeMember cascadeShared; simp

/-- A cask or grant command that its queue takes: its check decides. -/
theorem caskCmd_takes {d : Device} {fn op : Nat} {x : DescState} {check : Device → DescState → Except Nat MetaOp} (h : d.takesCask fn op x = true) :
    d.caskCmd fn op check = match check (d.beginDesc fn 0 op x) x with
      | .error st => (d.beginDesc fn 0 op x).complete fn 0 x.seq st 0 0
      | .ok m => (d.beginDesc fn 0 op x).withJob fn x.seq m := by
  simp only [takesCask, Bool.and_eq_true, Bool.not_eq_true'] at h
  obtain ⟨⟨⟨⟨⟨h1, h0⟩, h2⟩, h3⟩, h4⟩, h5⟩ := h
  unfold caskCmd
  rw [devCmd_takes h2]
  simp only [h1, h0, Bool.or_self, beginDesc_rst, h3, (beginDesc_cascade d fn 0 op x).1, (beginDesc_cascade d fn 0 op x).2, h4, beginDesc_placesWrites, h5,
    Bool.not_true, Bool.false_eq_true, if_false, withJob] <;>
  cases check (d.beginDesc fn 0 op x) x <;> simp only

theorem rxFrame_hears {d : Device} {lseq : Nat} (h : d.hears lseq = true) : d.rxFrame lseq true false = (d.heard lseq, true) := by
  simp only [hears, Bool.and_eq_true, Bool.not_eq_true', Bool.or_eq_true] at h
  obtain ⟨⟨⟨h1, h2⟩, h3⟩, h4⟩ := h
  have hv : (d.setMir { d.mir with lastGoodAt := d.now, rxLseq := lseq, rxFirst := false }).vintagesCome = d.vintagesCome := rfl
  unfold rxFrame
  rw [if_neg (by simp [h1]), if_neg (by simpa using h2), if_neg (by simp [h3])]
  simp only [hv, Bool.false_eq_true, if_false, heard]
  rcases h4 with h | ⟨h5, h6⟩
  · simp [h]
  · have h7 : (!d.mir.rxFirst && lseq != (d.mir.rxLseq + 1) % 4294967296) = false := by rcases h5 with h | h <;> simp_all
    simp [h6, h7]

/-- A packet that leaves its ingress queue without a poisoned word. -/
theorem popIngress_whole {o : Option (Bool × Bool)} (h : o.any (fun x => !x.2) = true) : ∃ m, o = some (m, false) := by
  cases o with
  | none => simp at h
  | some x => exact ⟨x.1, by obtain ⟨a, b⟩ := x; simpa using h⟩

theorem rocePkt_hears {d : Device} {p : RoceIn} {q : Qp} {body : Device → Nat → Qp → Bool → Device} (h : d.hearsRoce p q = true) :
    d.rocePkt p body = body (d.heardRoce p) (p.qpn % 1048576) q false := by
  simp only [hearsRoce, Bool.and_eq_true, Bool.not_eq_true', beq_iff_eq] at h
  obtain ⟨⟨⟨⟨⟨h1, h2⟩, h3⟩, h4⟩, h5⟩, h6⟩ := h
  obtain ⟨m, h4⟩ := popIngress_whole h4
  obtain ⟨q0, h5, h7⟩ := (Option.any_eq_true _ _).1 h5
  unfold rocePkt
  rw [if_neg (by simp [h1, h2])]
  unfold heardRoce at *
  generalize d.popIngress p.iface p.prio = e at *
  obtain ⟨e, o⟩ := e
  obtain rfl : o = some (m, false) := h4
  simp_all

theorem pdtPkt_hears {d : Device} {op : Nat} {p : PdtIn} {body : Device → Bool → Device} (h : d.hearsPdt p = true) :
    d.pdtPkt op p body = body (d.heardPdt op p) (d.pdtCe op p) := by
  simp only [hearsPdt, Bool.and_eq_true, Bool.not_eq_true'] at h
  obtain ⟨⟨⟨⟨⟨h1, h2⟩, h3⟩, h4⟩, h5⟩, h6⟩ := h
  obtain ⟨m, h4⟩ := popIngress_whole h4
  obtain ⟨ep, h6⟩ := Option.isSome_iff_exists.1 h6
  have h5' := h5
  unfold pdtPkt
  rw [if_neg (by simp [h1, h2])]
  clear h5
  revert h4 h5' h6; unfold heardPdt pdtCe
  generalize d.popIngress p.iface p.prio = e
  obtain ⟨e, o⟩ := e
  intro h4 h5 h6
  cases h4
  simp [h3, h5, h6]

/-- A request that reaches its flow acts there. -/
theorem pdtReq_takes {d : Device} {op : Nat} {p : PdtIn} {f : PdtRx} {e : Device} (h : d.takesPdt op p f e = true) :
    d.pdtReq op p = e.pdtAt f op (d.seenPdt op p) := by
  simp only [takesPdt, Bool.and_eq_true, Bool.not_eq_true', beq_iff_eq, Option.map_eq_some_iff] at h
  obtain ⟨⟨⟨⟨h1, h2⟩, h3⟩, h4⟩, ⟨g, e0⟩, h5, h6⟩ := h
  obtain ⟨h7, h8⟩ := Prod.ext_iff.1 h6
  simp only at h7 h8
  subst h7 h8
  unfold pdtReq
  rw [pdtPkt_hears h1]
  have hp : ({ p with ce := d.pdtCe op p } : PdtIn) = d.seenPdt op p := rfl
  have hd : (d.seenPdt op p).dst = p.dst := rfl
  have hs : (d.seenPdt op p).src = p.src := rfl
  have hf : (d.seenPdt op p).flags = p.flags := rfl
  have hc : (d.seenPdt op p).ce = d.pdtCe op p := rfl
  rw [hp]
  simp only [pdtGo, pdtRequest, hd, hs, hf, hc, h2, h3, h4, h5, Bool.false_or, Bool.false_eq_true, if_false]

theorem flashCmd_takes {d : Device} {fn op : Nat} {x : DescState} {body : Device → DescState → Device} (h : d.takesFlash fn op x = true) :
    d.flashCmd fn op body = body (d.beginDesc fn 0 op x) x := by
  simp only [takesFlash, Bool.and_eq_true, Bool.not_eq_true'] at h
  unfold flashCmd
  rw [if_neg (by simpa using h.1.1), devCmd_takes h.1.2]
  simp only [h.2, Bool.false_eq_true, if_false]

theorem trlTake_takes {d : Device} {f : TrlIn} {b : TrlBody} {e : Device} {act : Device → Device} (h : d.takesTrl f b e = true) :
    d.trlTake f b act = act e := by
  simp only [takesTrl, Bool.and_eq_true, Bool.or_eq_true, beq_iff_eq, Bool.not_eq_true'] at h
  obtain ⟨⟨⟨⟨h1, hb⟩, hc⟩, h2⟩, h3⟩ := h
  unfold trlTake
  simp only [h1, hb, hc, Bool.not_true, Bool.false_eq_true, if_false]
  rw [if_neg (by rintro ⟨a, b⟩; rcases h2 with h | h <;> contradiction)]
  simp only [h3]

end Device
end Sys2Proof.Machine
end

