-- ==== Sys2Proof/Laws/KeptBase.lean ====
section
/-! SUPPORT. A property of devices that the primitive updates keep is kept by every operation: one lemma per operation, from the primitives up to
`step`. `Kept P` is what an operation that stores nothing in memory asks of the property, `KeptMem P` what the others ask. -/

namespace Sys2Proof.Machine

/-- The property survives a change of what it does not look at, a register write, the return of registers to their Reset values, the passing of
time and an output. -/
structure Kept (P : Device → Prop) : Prop where
  upd : ∀ {d e : Device}, P d → e.mem = d.mem → e.regs = d.regs → e.now = d.now → e.out = d.out → P e
  reg : ∀ {d : Device} (off : Nat) (v : Word) (inst : Nat), P d → P (d.setReg off v inst)
  regs : ∀ {d e : Device} (f : Nat × Word → Bool), P d → e.mem = d.mem → e.regs = d.regs.filter f → e.now = d.now → e.out = d.out → P e
  now : ∀ {d : Device} (n : Nat), P d → P { d with now := d.now + n }
  emit : ∀ {d : Device} (o : Out), P d → P (d.emit o)

/-- It survives the three ways in which memory is written too. -/
structure KeptMem (P : Device → Prop) : Prop extends Kept P where
  bytes : ∀ {d : Device} (k : Nat) (bs : List Byte), P d → P (d.setBytes k bs)
  clear : ∀ {d : Device} (a n : Nat), P d → P (d.clearBytes a n)
  copy : ∀ {d : Device} (src dst n : Nat), P d → P (d.copyBytes src dst n)

theorem kept_foldl {P : Device → Prop} {α : Type} {f : Device → α → Device} {l : List α} {d : Device} (hf : ∀ d a, P d → P (f d a)) (h : P d) :
    P (l.foldl f d) := by
  induction l generalizing d with
  | nil => exact h
  | cons a l ih => exact ih (hf d a h)


/-! ### Record updates -/

/-- An update of fields that the property does not look at. -/
theorem kept_mk {P : Device → Prop} (c : Kept P) {d : Device}
    {x_latches : AMap Word} {x_usecBase : Nat} {x_freeCtr : Nat} {x_i3cPtr : Nat} {x_i3cForm : Nat} {x_i3cIbi : Bool} {x_hubOn : Bool}
    {x_evr : Evr} {x_hrg : Hrg} {x_pst : Pst} {x_csk : Csk} {x_hold : Hold} {x_adm : Adm} {x_rst : Rst} {x_mir : Mir} {x_qmg : Qmg} {x_sup : Sup}
    {x_profiles : AMap Profile} {x_cph : Cph} {x_fws : Fws} {x_age : Age} {x_trl : Trl} {x_net : Net} {x_pdt : Pdt} {x_drm : Drm} {x_cel : Cel}
    (h : P d) : P {
      regs := d.regs, latches := x_latches, mem := d.mem, now := d.now, usecBase := x_usecBase, freeCtr := x_freeCtr, out := d.out,
      i3cPtr := x_i3cPtr, i3cForm := x_i3cForm, i3cIbi := x_i3cIbi, hubOn := x_hubOn, evr := x_evr, hrg := x_hrg, pst := x_pst, csk := x_csk,
      hold := x_hold, adm := x_adm, rst := x_rst, mir := x_mir, qmg := x_qmg, sup := x_sup, profiles := x_profiles, cph := x_cph, fws := x_fws,
      age := x_age, trl := x_trl, net := x_net, pdt := x_pdt, drm := x_drm, cel := x_cel } :=
  c.upd h rfl rfl rfl rfl

/-- An update that returns registers to their Reset values. -/
theorem kept_mkRegs {P : Device → Prop} (c : Kept P) {d : Device} {f : Nat × Word → Bool}
    {x_latches : AMap Word} {x_usecBase : Nat} {x_freeCtr : Nat} {x_i3cPtr : Nat} {x_i3cForm : Nat} {x_i3cIbi : Bool} {x_hubOn : Bool}
    {x_evr : Evr} {x_hrg : Hrg} {x_pst : Pst} {x_csk : Csk} {x_hold : Hold} {x_adm : Adm} {x_rst : Rst} {x_mir : Mir} {x_qmg : Qmg} {x_sup : Sup}
    {x_profiles : AMap Profile} {x_cph : Cph} {x_fws : Fws} {x_age : Age} {x_trl : Trl} {x_net : Net} {x_pdt : Pdt} {x_drm : Drm} {x_cel : Cel}
    (h : P d) : P {
      regs := d.regs.filter f, latches := x_latches, mem := d.mem, now := d.now, usecBase := x_usecBase, freeCtr := x_freeCtr, out := d.out,
      i3cPtr := x_i3cPtr, i3cForm := x_i3cForm, i3cIbi := x_i3cIbi, hubOn := x_hubOn, evr := x_evr, hrg := x_hrg, pst := x_pst, csk := x_csk,
      hold := x_hold, adm := x_adm, rst := x_rst, mir := x_mir, qmg := x_qmg, sup := x_sup, profiles := x_profiles, cph := x_cph, fws := x_fws,
      age := x_age, trl := x_trl, net := x_net, pdt := x_pdt, drm := x_drm, cel := x_cel } :=
  c.regs f h rfl rfl rfl rfl

/-- The passing of time. -/
theorem kept_mkNow {P : Device → Prop} (c : Kept P) {d : Device} {n : Nat}
    {x_latches : AMap Word} {x_usecBase : Nat} {x_freeCtr : Nat} {x_i3cPtr : Nat} {x_i3cForm : Nat} {x_i3cIbi : Bool} {x_hubOn : Bool}
    {x_evr : Evr} {x_hrg : Hrg} {x_pst : Pst} {x_csk : Csk} {x_hold : Hold} {x_adm : Adm} {x_rst : Rst} {x_mir : Mir} {x_qmg : Qmg} {x_sup : Sup}
    {x_profiles : AMap Profile} {x_cph : Cph} {x_fws : Fws} {x_age : Age} {x_trl : Trl} {x_net : Net} {x_pdt : Pdt} {x_drm : Drm} {x_cel : Cel}
    (h : P d) : P {
      regs := d.regs, latches := x_latches, mem := d.mem, now := d.now + n, usecBase := x_usecBase, freeCtr := x_freeCtr, out := d.out,
      i3cPtr := x_i3cPtr, i3cForm := x_i3cForm, i3cIbi := x_i3cIbi, hubOn := x_hubOn, evr := x_evr, hrg := x_hrg, pst := x_pst, csk := x_csk,
      hold := x_hold, adm := x_adm, rst := x_rst, mir := x_mir, qmg := x_qmg, sup := x_sup, profiles := x_profiles, cph := x_cph, fws := x_fws,
      age := x_age, trl := x_trl, net := x_net, pdt := x_pdt, drm := x_drm, cel := x_cel } :=
  kept_mk c (c.now n h)

theorem kept_setReg {P : Device → Prop} (c : Kept P) {d : Device} {o : Nat} {v : Word} {i : Nat} (h : P d) : P (d.setReg o v i) := c.reg o v i h

theorem kept_emit {P : Device → Prop} (c : Kept P) {d : Device} {o : Out} (h : P d) : P (d.emit o) := c.emit o h

theorem kept_setBytes {P : Device → Prop} (c : KeptMem P) {d : Device} {k : Nat} {bs : List Byte} (h : P d) : P (d.setBytes k bs) := c.bytes k bs h

theorem kept_clearBytes {P : Device → Prop} (c : KeptMem P) {d : Device} {a n : Nat} (h : P d) : P (d.clearBytes a n) := c.clear a n h

theorem kept_copyBytes {P : Device → Prop} (c : KeptMem P) {d : Device} {s t n : Nat} (h : P d) : P (d.copyBytes s t n) := c.copy s t n h

end Sys2Proof.Machine
end

