-- ==== Sys2Proof/Laws/RegWrites.lean ====
section
/-! SUPPORT. Register writes: what an accepted write comes to, and what the write of each register that a command names starts. -/

set_option linter.unusedSimpArgs false

namespace Sys2Proof.Machine
namespace Device

theorem writeCmd_accepts {d : Device} {agent off inst : Nat} {v : Word} {m : MediaAns} (h : d.accepts agent off inst v = true) :
    d.writeCmd agent off 4 v m = ((d.stored off inst v).writeEffect agent off inst (d.reg off inst) v m).noteAlert d.alertOn := by
  simp only [Device.accepts, Bool.and_eq_true, beq_iff_eq] at h
  obtain ⟨⟨⟨h1, h2⟩, h3⟩, h4⟩ := h
  revert h4; cases hr : regSpec? off with
  | none => simp
  | some r =>
    intro h4
    simp only [Bool.and_eq_true, beq_iff_eq, Bool.not_eq_true'] at h4
    obtain ⟨⟨⟨h5, h6⟩, h7⟩, h8⟩ := h4
    have h9 : ¬bar4 ≤ off := by simp [inBlocks] at h3; simp only [bar4]; omega
    have h10 : ¬pciCfg ≤ off := by simp [inBlocks] at h3; simp only [pciCfg]; omega
    simp [writeCmd, h9, h10, h1, h2, writeReg, h3, hr, h5, h6, h7, h8, stored]
theorem stored_hold (d : Device) (off inst v) : (d.stored off inst v).hold = d.hold := by unfold stored; split <;> simp
theorem stored_drm (d : Device) (off inst v) : (d.stored off inst v).drm = d.drm := by unfold stored; split <;> simp
theorem stored_mir (d : Device) (off inst v) : (d.stored off inst v).mir = d.mir := by unfold stored; split <;> simp
theorem stored_rst (d : Device) (off inst v) : (d.stored off inst v).rst = d.rst := by unfold stored; split <;> simp
theorem stored_sup (d : Device) (off inst v) : (d.stored off inst v).sup = d.sup := by unfold stored; split <;> simp
theorem stored_qmg (d : Device) (off inst v) : (d.stored off inst v).qmg = d.qmg := by unfold stored; split <;> simp

theorem writeEffect_lockAll (d : Device) (agent inst : Nat) (was : Word) (m : MediaAns)  : d.writeEffect agent Reg.GEN_CTRL inst was 0x80000000#32 m = d.lockAll := by
  simp [writeEffect, show bitAt 2147483648#32 31 = true by decide, hostEffect, Reg.GEN_CTRL, Reg.QMG_RECLAIM, Reg.HRG_FN_CFG, Reg.HRG_FN_RESET, Reg.HRG_AQ_CFG, Reg.CSK_LK_CASK, Reg.CSK_LK_OFF_LO, Reg.CSK_LK_OFF_HI, Reg.CSK_LK_CTRL, Reg.PST_VINT_CTRL, Reg.PST_DB_CAP, Reg.PST_DB_HIGH, Reg.PST_ADMIT_CTRL, Reg.PST_PLAN_A, Reg.PST_PLAN_B, Reg.PST_PLAN_C, Reg.PST_RST_CTRL, Reg.PST_RST_CLEAR, Reg.MIR_CMD, Reg.NET_P_MODE]
theorem writeEffect_sealNow (d : Device) (agent inst : Nat) (was : Word) (m : MediaAns)  : d.writeEffect agent Reg.PST_VINT_CTRL inst was 1#32 m = (d.trySeal .forced).settle := by
  simp [writeEffect, show bitAt 1#32 0 = true by decide, hostEffect, Reg.GEN_CTRL, Reg.QMG_RECLAIM, Reg.HRG_FN_CFG, Reg.HRG_FN_RESET, Reg.HRG_AQ_CFG, Reg.CSK_LK_CASK, Reg.CSK_LK_OFF_LO, Reg.CSK_LK_OFF_HI, Reg.CSK_LK_CTRL, Reg.PST_VINT_CTRL, Reg.PST_DB_CAP, Reg.PST_DB_HIGH, Reg.PST_ADMIT_CTRL, Reg.PST_PLAN_A, Reg.PST_PLAN_B, Reg.PST_PLAN_C, Reg.PST_RST_CTRL, Reg.PST_RST_CLEAR, Reg.MIR_CMD, Reg.NET_P_MODE]
theorem writeEffect_lookup (d : Device) (agent inst : Nat) (was : Word) (m : MediaAns)  : d.writeEffect agent Reg.CSK_LK_CTRL inst was 1#32 m = d.lookup agent := by
  simp [writeEffect, show bitAt 1#32 0 = true by decide, hostEffect, Reg.GEN_CTRL, Reg.QMG_RECLAIM, Reg.HRG_FN_CFG, Reg.HRG_FN_RESET, Reg.HRG_AQ_CFG, Reg.CSK_LK_CASK, Reg.CSK_LK_OFF_LO, Reg.CSK_LK_OFF_HI, Reg.CSK_LK_CTRL, Reg.PST_VINT_CTRL, Reg.PST_DB_CAP, Reg.PST_DB_HIGH, Reg.PST_ADMIT_CTRL, Reg.PST_PLAN_A, Reg.PST_PLAN_B, Reg.PST_PLAN_C, Reg.PST_RST_CTRL, Reg.PST_RST_CLEAR, Reg.MIR_CMD, Reg.NET_P_MODE]
theorem writeEffect_planA (d : Device) (agent inst : Nat) (was : Word) (m : MediaAns) (v : Word) : d.writeEffect agent Reg.PST_PLAN_A inst was v m = d.planWritten := by
  simp [writeEffect, hostEffect, Reg.GEN_CTRL, Reg.QMG_RECLAIM, Reg.HRG_FN_CFG, Reg.HRG_FN_RESET, Reg.HRG_AQ_CFG, Reg.CSK_LK_CASK, Reg.CSK_LK_OFF_LO, Reg.CSK_LK_OFF_HI, Reg.CSK_LK_CTRL, Reg.PST_VINT_CTRL, Reg.PST_DB_CAP, Reg.PST_DB_HIGH, Reg.PST_ADMIT_CTRL, Reg.PST_PLAN_A, Reg.PST_PLAN_B, Reg.PST_PLAN_C, Reg.PST_RST_CTRL, Reg.PST_RST_CLEAR, Reg.MIR_CMD, Reg.NET_P_MODE]
theorem writeEffect_planB (d : Device) (agent inst : Nat) (was : Word) (m : MediaAns) (v : Word) : d.writeEffect agent Reg.PST_PLAN_B inst was v m = d.planWritten := by
  simp [writeEffect, hostEffect, Reg.GEN_CTRL, Reg.QMG_RECLAIM, Reg.HRG_FN_CFG, Reg.HRG_FN_RESET, Reg.HRG_AQ_CFG, Reg.CSK_LK_CASK, Reg.CSK_LK_OFF_LO, Reg.CSK_LK_OFF_HI, Reg.CSK_LK_CTRL, Reg.PST_VINT_CTRL, Reg.PST_DB_CAP, Reg.PST_DB_HIGH, Reg.PST_ADMIT_CTRL, Reg.PST_PLAN_A, Reg.PST_PLAN_B, Reg.PST_PLAN_C, Reg.PST_RST_CTRL, Reg.PST_RST_CLEAR, Reg.MIR_CMD, Reg.NET_P_MODE]
theorem writeEffect_planC (d : Device) (agent inst : Nat) (was : Word) (m : MediaAns) (v : Word) : d.writeEffect agent Reg.PST_PLAN_C inst was v m = d.planWritten := by
  simp [writeEffect, hostEffect, Reg.GEN_CTRL, Reg.QMG_RECLAIM, Reg.HRG_FN_CFG, Reg.HRG_FN_RESET, Reg.HRG_AQ_CFG, Reg.CSK_LK_CASK, Reg.CSK_LK_OFF_LO, Reg.CSK_LK_OFF_HI, Reg.CSK_LK_CTRL, Reg.PST_VINT_CTRL, Reg.PST_DB_CAP, Reg.PST_DB_HIGH, Reg.PST_ADMIT_CTRL, Reg.PST_PLAN_A, Reg.PST_PLAN_B, Reg.PST_PLAN_C, Reg.PST_RST_CTRL, Reg.PST_RST_CLEAR, Reg.MIR_CMD, Reg.NET_P_MODE]
theorem writeEffect_hvBottle (d : Device) (agent inst : Nat) (was : Word) (m : MediaAns) (v : Word) : d.writeEffect agent Reg.SUP_HV_BOTTLE inst was v m = d.planWritten := by
  simp [writeEffect, supStart, scActs, supEffect, Reg.SUP_PWR_CMD, Reg.SUP_MARGIN_UNLOCK, Reg.SUP_CAP_CTRL, Reg.SUP_R_MARGIN, Reg.SUP_PWR_TARGET, Reg.SUP_RTC_SEC, Reg.SUP_HV_BOTTLE, Reg.SUP_HU_CTRL, Reg.SUP_TAMPER_STATUS, Reg.FWS_CMD]
theorem writeEffect_fillEn (d : Device) (agent inst : Nat) (was : Word) (m : MediaAns) (v : Word) : d.writeEffect agent Reg.PST_RST_CTRL inst was v m = d.runWaves := by
  simp [writeEffect, hostEffect, Reg.GEN_CTRL, Reg.QMG_RECLAIM, Reg.HRG_FN_CFG, Reg.HRG_FN_RESET, Reg.HRG_AQ_CFG, Reg.CSK_LK_CASK, Reg.CSK_LK_OFF_LO, Reg.CSK_LK_OFF_HI, Reg.CSK_LK_CTRL, Reg.PST_VINT_CTRL, Reg.PST_DB_CAP, Reg.PST_DB_HIGH, Reg.PST_ADMIT_CTRL, Reg.PST_PLAN_A, Reg.PST_PLAN_B, Reg.PST_PLAN_C, Reg.PST_RST_CTRL, Reg.PST_RST_CLEAR, Reg.MIR_CMD, Reg.NET_P_MODE]
theorem writeEffect_rstClear (d : Device) (agent inst : Nat) (was : Word) (m : MediaAns) (v : Word) : d.writeEffect agent Reg.PST_RST_CLEAR inst was v m = d.clearCmd agent v := by
  simp [writeEffect, hostEffect, Reg.GEN_CTRL, Reg.QMG_RECLAIM, Reg.HRG_FN_CFG, Reg.HRG_FN_RESET, Reg.HRG_AQ_CFG, Reg.CSK_LK_CASK, Reg.CSK_LK_OFF_LO, Reg.CSK_LK_OFF_HI, Reg.CSK_LK_CTRL, Reg.PST_VINT_CTRL, Reg.PST_DB_CAP, Reg.PST_DB_HIGH, Reg.PST_ADMIT_CTRL, Reg.PST_PLAN_A, Reg.PST_PLAN_B, Reg.PST_PLAN_C, Reg.PST_RST_CTRL, Reg.PST_RST_CLEAR, Reg.MIR_CMD, Reg.NET_P_MODE]
theorem writeEffect_mirCmd (d : Device) (agent inst : Nat) (was : Word) (m : MediaAns) (v : Word) : d.writeEffect agent Reg.MIR_CMD inst was v m = d.mc2 (.cmd agent v) := by
  simp [writeEffect, hostEffect, Reg.GEN_CTRL, Reg.QMG_RECLAIM, Reg.HRG_FN_CFG, Reg.HRG_FN_RESET, Reg.HRG_AQ_CFG, Reg.CSK_LK_CASK, Reg.CSK_LK_OFF_LO, Reg.CSK_LK_OFF_HI, Reg.CSK_LK_CTRL, Reg.PST_VINT_CTRL, Reg.PST_DB_CAP, Reg.PST_DB_HIGH, Reg.PST_ADMIT_CTRL, Reg.PST_PLAN_A, Reg.PST_PLAN_B, Reg.PST_PLAN_C, Reg.PST_RST_CTRL, Reg.PST_RST_CLEAR, Reg.MIR_CMD, Reg.NET_P_MODE]
theorem mirCmd_handback (d : Device) (a : Nat) : d.mirCmd a 4 = d.startHandback := by
  simp [mirCmd, show bitAt 4#32 0 = false by decide, show bitAt 4#32 1 = false by decide, show bitAt 4#32 2 = true by decide]
theorem mirCmd_detach (d : Device) (a : Nat) (h : d.mir.role = .standby ∨ d.mir.role = .resync ∨ d.mir.role = .fenced) : d.mirCmd a 1 = d.setRole .detached := by
  simp [mirCmd, show bitAt 1#32 0 = true by decide, show bitAt 1#32 1 = false by decide, show bitAt 1#32 2 = false by decide, h]
theorem mirCmd_join (d : Device) (a : Nat) (h : d.mir.role = .detached ∨ d.mir.role = .fenced) : d.mirCmd a 2 = d.sendJoin := by
  simp [mirCmd, show bitAt 2#32 0 = false by decide, show bitAt 2#32 1 = true by decide, show bitAt 2#32 2 = false by decide, h]
theorem writeEffect_fnReset (d : Device) (agent inst : Nat) (was : Word) (m : MediaAns)  : d.writeEffect agent Reg.HRG_FN_RESET inst was 1#32 m = d.startFnReset [] inst := by
  simp [writeEffect, show bitAt 1#32 0 = true by decide, hostEffect, Reg.GEN_CTRL, Reg.QMG_RECLAIM, Reg.HRG_FN_CFG, Reg.HRG_FN_RESET, Reg.HRG_AQ_CFG, Reg.CSK_LK_CASK, Reg.CSK_LK_OFF_LO, Reg.CSK_LK_OFF_HI, Reg.CSK_LK_CTRL, Reg.PST_VINT_CTRL, Reg.PST_DB_CAP, Reg.PST_DB_HIGH, Reg.PST_ADMIT_CTRL, Reg.PST_PLAN_A, Reg.PST_PLAN_B, Reg.PST_PLAN_C, Reg.PST_RST_CTRL, Reg.PST_RST_CLEAR, Reg.MIR_CMD, Reg.NET_P_MODE]
theorem writeEffect_aqCfg (d : Device) (agent inst : Nat) (was : Word) (m : MediaAns) (v : Word) : d.writeEffect agent Reg.HRG_AQ_CFG inst was v m = d.aqEnable inst (bitAt v 31) := by
  simp [writeEffect, hostEffect, Reg.GEN_CTRL, Reg.QMG_RECLAIM, Reg.HRG_FN_CFG, Reg.HRG_FN_RESET, Reg.HRG_AQ_CFG, Reg.CSK_LK_CASK, Reg.CSK_LK_OFF_LO, Reg.CSK_LK_OFF_HI, Reg.CSK_LK_CTRL, Reg.PST_VINT_CTRL, Reg.PST_DB_CAP, Reg.PST_DB_HIGH, Reg.PST_ADMIT_CTRL, Reg.PST_PLAN_A, Reg.PST_PLAN_B, Reg.PST_PLAN_C, Reg.PST_RST_CTRL, Reg.PST_RST_CLEAR, Reg.MIR_CMD, Reg.NET_P_MODE]
theorem writeEffect_pMode (d : Device) (agent inst : Nat) (was : Word) (m : MediaAns) (v : Word) : d.writeEffect agent Reg.NET_P_MODE inst was v m = d.npDown inst := by
  simp [writeEffect, hostEffect, Reg.GEN_CTRL, Reg.QMG_RECLAIM, Reg.HRG_FN_CFG, Reg.HRG_FN_RESET, Reg.HRG_AQ_CFG, Reg.CSK_LK_CASK, Reg.CSK_LK_OFF_LO, Reg.CSK_LK_OFF_HI, Reg.CSK_LK_CTRL, Reg.PST_VINT_CTRL, Reg.PST_DB_CAP, Reg.PST_DB_HIGH, Reg.PST_ADMIT_CTRL, Reg.PST_PLAN_A, Reg.PST_PLAN_B, Reg.PST_PLAN_C, Reg.PST_RST_CTRL, Reg.PST_RST_CLEAR, Reg.MIR_CMD, Reg.NET_P_MODE]
theorem writeEffect_tsetCmd (d : Device) (agent inst : Nat) (was : Word) (m : MediaAns) (v : Word) (h : bitAt v 31 = true) : d.writeEffect agent Reg.DRM_TSET_CMD inst was v m = d.tsetCmd agent v := by
  simp [writeEffect, h, mediaEffect, Reg.DRM_TSET_CMD, Reg.DRM_CH_REF, Reg.DRM_TSA_CFG, Reg.DRM_TSB_CFG, Reg.CEL_L_RAW_CMD, Reg.CPH_K_CMD, Reg.AGE_CTRL]
theorem writeEffect_rawCmd (d : Device) (agent inst : Nat) (was : Word) (m : MediaAns) (v : Word) (h : bitAt v 31 = true) : d.writeEffect agent Reg.CEL_L_RAW_CMD inst was v m = d.rawGo agent { status := m.status, ready := m.ready, ldpc := m.ldpc, din := m.din } := by
  simp [writeEffect, h, mediaEffect, Reg.DRM_TSET_CMD, Reg.DRM_CH_REF, Reg.DRM_TSA_CFG, Reg.DRM_TSB_CFG, Reg.CEL_L_RAW_CMD, Reg.CPH_K_CMD, Reg.AGE_CTRL]
theorem writeEffect_keyCmd (d : Device) (agent inst : Nat) (was : Word) (m : MediaAns) (v : Word) (h : bitAt v 31 = true) : d.writeEffect agent Reg.CPH_K_CMD inst was v m = d.keyCmd agent (bitsGet v 1 0) := by
  simp [writeEffect, h, mediaEffect, Reg.DRM_TSET_CMD, Reg.DRM_CH_REF, Reg.DRM_TSA_CFG, Reg.DRM_TSB_CFG, Reg.CEL_L_RAW_CMD, Reg.CPH_K_CMD, Reg.AGE_CTRL]
theorem writeEffect_agePlan (d : Device) (agent inst : Nat) (was : Word) (m : MediaAns) (v : Word) (h : bitAt v 30 = true) : d.writeEffect agent Reg.AGE_CTRL inst was v m = d.replan := by
  simp [writeEffect, h, mediaEffect, Reg.DRM_TSET_CMD, Reg.DRM_CH_REF, Reg.DRM_TSA_CFG, Reg.DRM_TSB_CFG, Reg.CEL_L_RAW_CMD, Reg.CPH_K_CMD, Reg.AGE_CTRL]
theorem writeEffect_fwsCmd (d : Device) (agent inst : Nat) (was : Word) (m : MediaAns) (v : Word) (h : bitAt v 31 = true) (h8 : d.coreUp 8 = true) : d.writeEffect agent Reg.FWS_CMD inst was v m = d.fwsGo agent (bitsGet v 1 0) m.ecc := by
  simp [writeEffect, h8, h, supStart, supEffect, Reg.SUP_PWR_CMD, Reg.SUP_MARGIN_UNLOCK, Reg.SUP_CAP_CTRL, Reg.SUP_R_MARGIN, Reg.SUP_PWR_TARGET, Reg.SUP_RTC_SEC, Reg.SUP_HV_BOTTLE, Reg.SUP_HU_CTRL, Reg.SUP_TAMPER_STATUS, Reg.FWS_CMD]
theorem writeEffect_huCtrl (d : Device) (agent inst : Nat) (was : Word) (m : MediaAns) (v : Word) (h : bitAt v 0 = true) (h8 : d.coreUp 8 = true) : d.writeEffect agent Reg.SUP_HU_CTRL inst was v m = d.startSet := by
  simp [writeEffect, h8, h, supStart, supEffect, Reg.SUP_PWR_CMD, Reg.SUP_MARGIN_UNLOCK, Reg.SUP_CAP_CTRL, Reg.SUP_R_MARGIN, Reg.SUP_PWR_TARGET, Reg.SUP_RTC_SEC, Reg.SUP_HV_BOTTLE, Reg.SUP_HU_CTRL, Reg.SUP_TAMPER_STATUS, Reg.FWS_CMD]
theorem writeEffect_pwrCmd (d : Device) (agent inst : Nat) (was : Word) (m : MediaAns) (v : Word) (h8 : d.coreUp 8 = true) : d.writeEffect agent Reg.SUP_PWR_CMD inst was v m = d.pwrCmd agent v := by
  simp [writeEffect, h8, supStart, supEffect, Reg.SUP_PWR_CMD, Reg.SUP_MARGIN_UNLOCK, Reg.SUP_CAP_CTRL, Reg.SUP_R_MARGIN, Reg.SUP_PWR_TARGET, Reg.SUP_RTC_SEC, Reg.SUP_HV_BOTTLE, Reg.SUP_HU_CTRL, Reg.SUP_TAMPER_STATUS, Reg.FWS_CMD]
theorem writeEffect_margin (d : Device) (agent inst : Nat) (was : Word) (m : MediaAns) (v : Word) (h8 : d.coreUp 8 = true) : d.writeEffect agent Reg.SUP_R_MARGIN inst was v m = (d.setReg Reg.SUP_R_MARGIN was inst).marginWrite agent inst (bitsGet v 4 0) := by
  simp [writeEffect, h8, supStart, supEffect, Reg.SUP_PWR_CMD, Reg.SUP_MARGIN_UNLOCK, Reg.SUP_CAP_CTRL, Reg.SUP_R_MARGIN, Reg.SUP_PWR_TARGET, Reg.SUP_RTC_SEC, Reg.SUP_HV_BOTTLE, Reg.SUP_HU_CTRL, Reg.SUP_TAMPER_STATUS, Reg.FWS_CMD]
theorem writeEffect_pwrTarget (d : Device) (agent inst : Nat) (was : Word) (m : MediaAns) (v : Word) (h8 : d.coreUp 8 = true) : d.writeEffect agent Reg.SUP_PWR_TARGET inst was v m = (d.setReg Reg.SUP_PWR_TARGET was).pwrTarget agent v := by
  simp [writeEffect, h8, supStart, supEffect, Reg.SUP_PWR_CMD, Reg.SUP_MARGIN_UNLOCK, Reg.SUP_CAP_CTRL, Reg.SUP_R_MARGIN, Reg.SUP_PWR_TARGET, Reg.SUP_RTC_SEC, Reg.SUP_HV_BOTTLE, Reg.SUP_HU_CTRL, Reg.SUP_TAMPER_STATUS, Reg.FWS_CMD]

theorem pwrCmd_on (d : Device) (h : d.sup.state = .off) : d.pwrCmd 1024 1 = (d.setSup { d.sup with state := .holdoff }).supplyNormal := by
  simp [pwrCmd, show bitAt 1#32 0 = true by decide, show bitAt 1#32 1 = false by decide, h]
theorem pwrCmd_off (d : Device) (a : Nat) (h : d.sup.state = .on) (h2 : d.hold.bottle = none) : d.pwrCmd a 0xA5A50002 = d.startFlush false := by
  simp [pwrCmd, show bitAt 0xA5A50002#32 0 = false by decide, show bitAt 0xA5A50002#32 1 = true by decide, show bitsGet 0xA5A50002#32 31 16 = 0xA5A5 by decide, h, h2]
theorem writeEffect_marginUnlock (d : Device) (agent inst was m) (h : d.flag Fld.SUP_SEQ_CTRL_LOCK = false) : d.writeEffect agent Reg.SUP_MARGIN_UNLOCK inst was 0x3A5C0000 m = d.setFld Fld.SUP_MARGIN_UNLOCK_UNLOCKED 1 := by
  simp [writeEffect, supStart, scActs, supEffect, Reg.SUP_PWR_CMD, Reg.SUP_MARGIN_UNLOCK, Reg.SUP_R_MARGIN, Reg.SUP_PWR_TARGET, Reg.SUP_HU_CTRL, Reg.SUP_CAP_CTRL, Reg.FWS_CMD, show bitsGet 0x3A5C0000#32 31 16 = 0x3A5C by decide, h]
theorem writeEffect_capClear (d : Device) (agent inst was m) (h8 : d.coreUp 8 = true) : d.writeEffect agent Reg.SUP_CAP_CTRL inst was 0xCA950001 m = d.setSup { d.sup with capsule := none } := by
  simp [writeEffect, h8, supStart, supEffect, Reg.SUP_PWR_CMD, Reg.SUP_MARGIN_UNLOCK, Reg.SUP_CAP_CTRL, show bitsGet 0xCA950001#32 31 16 = 0xCA95 by decide, show bitAt 0xCA950001#32 0 = true by decide]
theorem pwrTarget_wake (d : Device) : d.pwrTarget 1024 256 = d.wake 3 := by
  simp [pwrTarget, show bitsGet 256#32 1 0 = 0 by decide, show bitAt 256#32 8 = true by decide]
theorem pwrTarget_mode (d : Device) (a mode) (h0 : 0 < mode) (h : mode < 4) (h2 : a ≠ 1024) : d.pwrTarget a (BitVec.ofNat 32 mode) = d.pwrRequest mode := by
  have : bitsGet (BitVec.ofNat 32 mode) 1 0 = mode := by
    have : mode = 1 ∨ mode = 2 ∨ mode = 3 := by omega
    rcases this with rfl | rfl | rfl <;> decide
  have h3 : mode ≠ 0 := by omega
  simp [pwrTarget, this, h2, h3]
theorem tsetCmd_go (d : Device) (a : Nat) (all : Bool) (h : d.hold.supply = .normal) (h2 : d.hold.bottle = none) (h3 : d.drm.walk = none) :
   d.tsetCmd a (BitVec.ofNat 32 (2147483648 + b2n all * 1073741824)) = (let c := d.fld Fld.DRM_CHSEL_CH a
         (d.tsetGo (if all then d.liveChans else if d.chLive c then [c] else []))) := by
  cases all <;> simp [tsetCmd, h, h2, h3, b2n, show bitAt 2147483648#32 30 = false by decide, show bitAt 3221225472#32 30 = true by decide]

end Device
end Sys2Proof.Machine
end

