-- ==== Sys2Proof/Tests/Slice0.lean ====
section
/-! SUPPORT. Tests: an ill-formed command for each check of well-formedness, single steps with results taken from the spec, and for each
statement that has hypotheses one theorem with a state and operands that meet them, clause by clause. A clause whose hypotheses are among
those of another clause has no witness of its own. -/

namespace Sys2Proof.Tests

set_option maxRecDepth 10000
set_option Elab.async false

open Sys2Proof Sys2Proof.Machine Sys2Proof.Machine.Device

/-! ### States for the tests -/

/-- A state in which no command waits. -/
def st (d : Device) : State := { dev := d, pending := [] }

/-- A device in service: SUP is ON, HUB is released, the supply is NORMAL, emergence has ended, the unit is SOLO, and the PF of link 0 is
admin-capable. -/
def dOn : Device :=
  { Device.reset with
    hubOn := true
    sup := { Device.reset.sup with state := .on }
    hold := { Device.reset.hold with supply := .normal, inputGood := true }
    rst := { Device.reset.rst with phase := 0, svcOpen := true, resolved := true }
    mir := { Device.reset.mir with role := .solo, serving := true }
    pst := { Device.reset.pst with numValid := true, nextNum := 5, resv := 0 }
    hrg := { Device.reset.hrg with links := [(0, { up := true, vfEn := true, numVfs := 2 })] } }

/-- The sixteen words of a descriptor: its opcode, and the words that are not zero. -/
def words (op : Nat) (ws : List (Nat × Word)) : List Word :=
  (List.range 16).map (fun i => if i = 0 then BitVec.ofNat 32 op else ((ws.find? (fun p => p.1 == i)).map (·.2)).getD 0)

/-- A descriptor whose host data has arrived. -/
def desc (dw : List Word) (data : List Byte := []) : DescState :=
  { seq := 0, dw := dw, phase := .fetched, need := 0, data := data, hostErr := false, parts := 0, status := 0, r0 := 0, r1 := 0, startedAt := 0,
    sgl := [] }

/-- A queue of 64 slots that holds these descriptors. -/
def sqOf (xs : List DescState) : Sq :=
  { Device.newSq 4096 6 1 7 false false false 0 1 0 with tail := xs.length, fetchSeq := xs.length, descs := xs }

/-- A completion queue of 64 slots. -/
def cqOf : Cq := Device.newCq 8192 6 false 0 0 0

/-- `d` with SQ `q` of function `fn` holding these descriptors, bound to CQ 1. -/
def withQ (d : Device) (fn q : Nat) (xs : List DescState) : Device :=
  { d with hrg := { d.hrg with sqs := d.hrg.sqs.put (256 * fn + q) (sqOf xs), cqs := d.hrg.cqs.put (256 * fn + 1) cqOf } }

/-- An answer with nothing in it. -/
def noAns : MediaAns := { status := [], ready := [], ldpc := [], din := [], ecc := 0 }

/-- An SMBus transaction. -/
def smbus (ok : Bool) : MgtIn := { i3c := false, ibi := false, ok := ok }

/-- The register table's entry at an offset. -/
def specOf (off : Nat) : RegSpec := (regSpec? off).getD { off := off, cls := .c, win := .dev, fields := [] }

/-- The descriptor of an opcode with these words. -/
def dsc (op : Nat) (ws : List (Nat × Word)) : DescState := desc (words op ws)

/-- A descriptor that has been started. -/
def run (x : DescState) : DescState := { x with phase := .running }

/-- The device in service with one queue of these descriptors. -/
def sQ (fn q : Nat) (xs : List DescState) : State := st (withQ dOn fn q xs)

/-- A cask of 16 racks with every right. -/
def ce : CaskEntry :=
  { place := .cellarOk, mirror := .locally, rpri := 0, grantable := true, atom := true, wr := true, rd := true, owner := 0, pdom := 0, lookahead := 0,
    mkey := 0, size := 16, rtPtr := 0, tag := 0 }

/-- `d` with cask 4. -/
def withCask (d : Device) (e : CaskEntry := ce) : Device := { d with csk := { d.csk with casks := d.csk.casks.put 4 e } }

/-- The device in service before service opens. -/
def dShut : Device := { dOn with rst := { dOn.rst with svcOpen := false } }

/-- `d` as a standby. -/
def stby (d : Device) : Device := { d with mir := { d.mir with role := .standby } }

/-- The device in service with CQ 1 of function 0. -/
def sQcq (c : Cq) : State := st (dOn.putCq 0 1 c)

/-- The device in service with SQ 1 of function 0 and its CQ. -/
def sQsq (q : Sq) : State := st ((withQ dOn 0 1 []).putSq 0 1 q)

/-- An SQ with a shadow tail. -/
def sqSh : Sq := { sqOf [] with shadow := true, poll := true }

def dSh : Device := ((withQ dOn 0 1 []).putSq 0 1 sqSh).setFld Fld.HRG_SHADOW_LO_EN 1 0

/-- One descriptor to be fetched, and no queue for its cells. -/
def dNoQ : Device := (withQ dOn 0 1 []).putSq 0 1 { sqOf [] with tail := 1 }

/-- The same with queue 7 of the queue manager. -/
def dWork : Device := dNoQ.setQueue 7 { state := 1, cls := 1, owner := 0, pkts := [] }

def fence1 : Fence := { tok := .desc 0 1 0, doSeal := false, twin := false, scope := [], sealed := false }

/-- A fence that waits. -/
def dFence : Device := { withQ dOn 0 1 [run (dsc 7 [])] with pst := { dOn.pst with fences := [fence1] } }

/-- A cask read as streams. -/
def ceS : CaskEntry := { ce with place := .streamed }

def strm : Machine.Stream := { fn := 0, q := 1, cask := 4, pos := 3, look := 8, auto := false, late := 0 }

/-- `d` with stream 3. -/
def withStream (d : Device) (s : Machine.Stream) : Device := { d with csk := { d.csk with streams := [(3, s)] } }

/-- `d` with every stream open. -/
def manyStreams (d : Device) : Device := { d with csk := { d.csk with streams := (List.range 16384).map (fun i => (i, strm)) } }

/-- The same while the cells of function 0 are reclaimed. -/
def dTag : Device := { dNoQ with qmg := { dNoQ.qmg with reclaims := [{ tag := 0, freed := 0, startAt := 0 }] } }

/-- The device in service with room for 100 racks. -/
def dCap : Device := { dOn with csk := { dOn.csk with capRacks := 100, frames := 100 } }

/-- Its state with an admin queue of one descriptor, with or without cask 4. -/
def sC (x : DescState) (cask : Bool := true) : State := st (if cask then withCask (withQ dCap 0 0 [x]) else withQ dCap 0 0 [x])

/-- The words of CASK_CREATE for cask 4 of `n` racks. -/
def dCreate (n : Word) : DescState := dsc 144 [(1, 4), (8, 0x80F0000), (9, 0x1000), (10, n)]

/-- CASK_MODIFY of cask 4 with a mask. -/
def dModify (n m : Word) : DescState := dsc 145 [(1, 4), (9, 0x1000), (10, n), (14, m)]

/-- GRANT_ISSUE over cask 4. -/
def dIssue : DescState := dsc 152 [(8, 0x4000000), (9, 4), (14, 1)]

/-- `s` with the next never issued slot. -/
def withFresh (s : State) (n : Nat) : State := { s with dev := { s.dev with csk := { s.dev.csk with fresh := n } } }

/-- A live grant of cask 4. -/
def gr : GrantEntry := { GrantEntry.blank with state := .live, rd := true, wr := true, atom := true, pdtOk := true, roceOk := true, gen := 1, cask := 4, len := 65536 }

/-- `d` with grant 0. -/
def withGrant (d : Device) (g : GrantEntry := gr) : Device := { d with csk := { d.csk with grants := [(0, g)] } }

/-- A resident rack. -/
def rk : Rack := { Rack.blank with frame := 3, res := true, present := allPages }

/-- `d` with rack 0 of cask 4. -/
def withRack (d : Device) (r : Rack := rk) : Device := { d with csk := { d.csk with racks := [(rackKey 4 0, r)] } }

def job1 : AdminJob := { tok := .none, op := .caskDelete 4, placed := true }

/-- The device in service with a dirty limit of 100 racks. -/
def dLim : Device :=
  { dOn with
    hold := { dOn.hold with genE := { VaultGen.empty with erased := 1000000 }, genO := { VaultGen.empty with erased := 1000000 } }
    csk := { dOn.csk with frames := 2000000 }
    cel := { dOn.cel with used := [(0, 0)] } }.setFld Fld.PST_DB_PLAN_PLAN_RACKS 100

/-- The same with a high mark of 0. -/
def dThr : Device := { dLim.setFld Fld.PST_DB_HIGH_HIGH_PCT 0 with adm := { dOn.adm with state := .throttled } }

def wreq : WriteReq :=
  { src := .device, tok := .none, path := .device, acc := .write, cask := 4, off := 0, op := .data [1], more := .data [], policy := .locally, heldAt := 0 }

/-- `d` with a held write and this credit. -/
def withHeld (d : Device) (c : Nat) : Device := { d with adm := { d.adm with held := [wreq], credit := c } }

def wrec : WireRec := { cask := 4, off := 0, len := 1, bytes := [1], zero := false, policy := .syncRequired, metaOp := none, resync := false }

def vrec : VRecord := { src := .device, tok := .none, wire := wrec, result := 0, charge := 1, size := 100, released := false }

def vint1 : Vintage := { num := 5, state := .sealed, cause := .period, recs := [vrec], sealedAt := 0, shipped := false, acked := false, own := true }

def vintC : Vintage := { vint1 with state := .committed }

def withPst (d : Device) (f : Pst → Pst) : Device := { d with pst := f d.pst }

def withMir (d : Device) (f : Mir → Mir) : Device := { d with mir := f d.mir }

def bud : Budget := { dirtyPages := 0, limit := 100, high := 90, freeKib := 1000, wbRate := 1, admState := 0 }

/-- An ACTIVE unit with its link up. -/
def dAct : Device := withMir dOn (fun m => { m with role := .active, linkUp := true, attached := true, lanes := 0xFFFF, width := 16, budget := some bud })

def withHold (d : Device) (f : Hold → Hold) : Device := { d with hold := f d.hold }

def withRst (d : Device) (f : Rst → Rst) : Device := { d with rst := f d.rst }

def withSup (d : Device) (f : Sup → Sup) : Device := { d with sup := f d.sup }

/-- A device that supplies `v` with a bad (good) input for its filter time. -/
def dSup (v : Supply) : Device := withHold dOn (fun h => { h with supply := v })

def btl : Bottle := { target := none, preOpen := false, inReset := false, noResume := false, pend := [], skipped := [], streamDone := false }

/-- A device that bottles, at a phase. -/
def dBot (b : Bottle) (p : Nat) : Device := withHold dOn (fun h => { h with bottle := some b, phase := p, supply := .bottling })

/-- A device that waits at step 9. -/
def dWait (b : Bottle) : Device := withHold (dBot b 5) (fun h => { h with waitIn := true, supply := .bottled })

def warm1 : WarmReset := { cause := 1, core := 0, startAt := 0, quiesced := false, held := false, overran := false }

/-- A unit of a role whose arbiter message of a kind waits for its reply. -/
def sArb (k : Nat) (r : Role) (f : Mir → Mir := id) : State :=
  st (withMir dOn (fun m => f { m with role := r, waitArb := [{ kind := k, flags := 0, seq := 7, sentAt := 0, alt := false }] }))

def arbM (k : Nat) : ArbMsg := { kind := k, flags := 0, seq := 7, sentAt := 0, alt := false }

/-- A unit of a role with its link up. -/
def dLink (r : Role) (f : Mir → Mir := id) : Device := withMir dAct (fun m => f { m with role := r })

def rx1 : RxImage := { num := 5, prev := 0, epoch := 0, len := 100, count := 1, cause := 1, rel := false, got := 100, recs := [wrec] }

def vintS : Vintage := { vint1 with shipped := true }

def pf1 : Pfetch := { cask := 4, rack := 0, page := 0, tag := 9, nMax := 0, aMin := 0, cellar := false, got := none, startAt := 0 }

/-- `d` with page 0 of rack 0 of cask 4 poisoned. -/
def dPoison (d : Device) : Device := { withRack d with csk := { (withRack d).csk with poison := [16 * rackKey 4 0] } }

/-- A QP in a state. -/
def qpS (n : Nat) : Qp := { newQp 1 0 0 with state := n }

/-- `d` with QP 0x100001. -/
def withQp (d : Device) (q : Qp) : Device := { d with net := { d.net with qps := [(1, q)] } }

/-- A queue of one descriptor, and a QP or endpoint 0x010001. -/
def sNet (q : Nat) (x : DescState) (d : Device := dOn) : State := st (withQ d 0 q [x])

/-- An endpoint block within range. -/
def epBlock : List Byte := [0, 0, 1] ++ List.replicate 61 0

def ep1 : PdtEp := { inc := 1, owner := 0, block := epBlock, recvs := [] }

def withEp (d : Device) (e : PdtEp := ep1) : Device := { d with pdt := { d.pdt with eps := [(1, e)] } }

/-- A sending flow to endpoint 5. -/
def tx1 : PdtTx :=
  { loc := 65537, rem := 5, peer := List.replicate 64 0, psn := 0, msn := 0, lowMsn := 0, ack := 0, sent := 0, ece := false, msgs := [],
    rate := rateAt 80000 0 }

def withTx (d : Device) (f : PdtTx := tx1) : Device := { withEp d with pdt := { (withEp d).pdt with tx := [f] } }

/-- A RECV over endpoint 0x010001 or QP 0x100001. -/
def dRecvE : DescState := dsc 18 [(4, 1), (8, 0x10001)]
def dRecvQ : DescState := dsc 18 [(4, 1), (8, 0x40100001)]
def dRemQ (op : Nat) (w5 : Word) : DescState := dsc op [(4, 1), (5, w5), (8, 0x40100001)]

/-- The attributes of QP_MODIFY to a state. -/
def dQpMod (b : List Byte) : DescState := { dsc 177 [(8, 0x100001)] with data := b ++ List.replicate (128 - b.length) 0 }

/-- A device with interface 0 up and address 10.0.0.1. -/
def dNet : Device :=
  { (((dOn.setReg Reg.NET_P_STATUS 1 0).setReg (Reg.NET_P_IF0_MAC_LO + 8) 0x0A000001 0).setReg Reg.MIR_ARB_ADDR2 0xFFFF).setReg Reg.MIR_ARB_ADDR3 0x0A000009 with sup := { dOn.sup with plls := [4] } }

/-- A RoCEv2 frame for it. -/
def fr : EthFrame :=
  { iface := 0, len := 64, dmac := 0, group := false, tag := none, pause := false, arp := false, ip := 4, plain := true, dscp := 0, udp := true,
    srcIp := 1, dstIp := 0x0A000001, sport := 1, dport := 4791, bth := 4 }

def withNet (d : Device) (f : Net → Net) : Device := { d with net := f d.net }

/-- A RoCEv2 packet for QP 0x100001. -/
def rin (psn : Nat) : RoceIn := { iface := 0, prio := 0, qpn := 0x100001, psn := psn, pkey := 65535, icrc := true, ce := false }

/-- A read request sent by a QP. -/
def ro : RoceOut :=
  { fn := 0, q := 1, seq := 0, read := true, psn := 0, last := 1, handle := 0, off := 0, len := 8, data := [], sent := true, got := 0, bytes := [] }

/-- Attributes of a move to RTR. -/
def rtr : List Byte := [2, 3] ++ List.replicate 21 0 ++ [1]

/-- The block of PDT_CONFIG. -/
def cfgB : List Byte := [0, 4, 1, 0, 10, 0] ++ List.replicate 10 0

/-- A peer block of endpoint 5. -/
def peerB : List Byte := [5, 0, 0, 0, 0, 3] ++ List.replicate 58 0

def dBlk (op : Nat) (w8 : Word) (b : List Byte) : DescState := { dsc op [(8, w8)] with data := b }

/-- A PDT packet from endpoint 5 to endpoint 0x010001. -/
def pin (psn msn : Nat) : PdtIn :=
  { iface := 0, prio := 0, dscp := 0, mac := 0, sip := 0, dip := 0, ok := true, ce := false, dst := 65537, src := 5, psn := psn, lowPsn := 0, msn := msn,
    lowMsn := 0, msgLen := 1, msgOff := 0, flags := 0, grant := 0x100000, off := 0, imm := 0, nonce := 0, tag := [], bytes := [1] }

/-- A device that takes PDT requests. -/
def dPdt : Device := { withEp (withGrant (withCask (dNet.setQueue 0x8400 { state := 1, cls := 3, owner := 0, pkts := [] }))) with now := 64000 }

/-- How the packets of a flow come. -/
def via0 : PdtVia := { iface := 0, prio := 0, dscp := 0, mac := 0, sip := 0, dip := 0, att := 0 }

/-- A receiving flow at MSN 3 and PSN 3. -/
def rx0 : PdtRx :=
  { src := 5, loc := 65537, exp := 3, comp := 3, ack := 3, map := [], done := [], reads := [], atoms := [], entries := [], runs := [], hold := none,
    lastAt := 64000, gapAt := none, unacked := 0, unackedAt := 0, ece := false, sent := 0, via := via0, rate := rateAt 80000 0 }

/-- An entry of a WRITE of two units at MSN 4. -/
def ent (op : Nat) : PdtEntry :=
  { msn := 4, op := op, len := 300, grant := 0x100000, off := 0, imm := 0, gcm := false, flags := 0, att := 0, status := 0, units := [], parts := [],
    lastAt := 0, nonce := 0, via := via0, psn := 4 }

def withRx (d : Device) (fs : List PdtRx) : Device := { d with pdt := { d.pdt with rx := fs } }

/-- What `takesPdt` leaves of a packet that is heard: its flow and the device. -/
def flowOf (d : Device) (op : Nat) (p : PdtIn) : PdtRx := (((d.heardPdt op p).pdtFlow (d.seenPdt op p) (d.pdtCe op p)).map (·.1)).getD rx0
def devOf (d : Device) (op : Nat) (p : PdtIn) : Device :=
  (((d.heardPdt op p).pdtFlow (d.seenPdt op p) (d.pdtCe op p)).map (fun x => if natBit p.flags 13 then x.2.takeEce p.dst p.src else x.2)).getD dOn

/-- A message to be sent on a flow. -/
def msg1 : PdtMsg :=
  { fn := 0, q := 1, seq := 0, msn := 0, read := false, len := 1, data := [1], grant := 0x100000, off := 0, pos := 0, gcm := false, nonce := 0, kslot := 0,
    next := 0, allSent := false, pkts := [], rep := [], fast := [], att := 0, rto := 1000, timerAt := none, repAt := none, busy := 0, got := [] }

/-- A read whose packet has been sent. -/
def msgR : PdtMsg := { msg1 with read := true, allSent := true, pkts := [(0, 0, 1)], timerAt := some 65000 }

def txM (m : PdtMsg) : PdtTx := { tx1 with msgs := [m] }
def dTx (m : PdtMsg) : Device := { withTx dNet (txM m) with now := 64000 }

/-- The same with no room in the endpoints' queue. -/
def dPdtQ : Device := dPdt.setQueue 0x8400 { state := 3, cls := 3, owner := 0, pkts := [] }

/-- A device whose channel 3 is live. -/
def dCh : Device := dOn.setFld Fld.DRM_CH_STATUS_STATE 1 3
def withWalk (d : Device) (w : DramWalk) : Device := { d with drm := { d.drm with walk := some w } }
def withDch (d : Device) (c : DramCh) : Device := d.setDramCh 3 c
def row1 : DramRow := { slot := 0, subch := 0, rank := 0, bank := 2, row := 9 }
def withDimm (d : Device) : Device :=
  { d with drm := { d.drm with dimms := [{ ch := 3, slot := 0, gib := 2, serial := 1, kind := 0, ranks := 1, bin := 0, ok := true, trains := true, spares := 2, rfm := false, raaInit := 32, raaMax := 96 }] } }.setFld Fld.DRM_SCRUB_EN 1 0
def withRep (l : List DramRow) : Device :=
  let d := withDch dCh { DramCh.blank with queue := [row1] }
  d.setLearned { d.learned with repairs := [(3, l)] }

/-- Block 9 of LUN 5 of channel 3 is RELEASED. -/
def dRel : Device := dOn.setBlk 3 5 9 { Blk.blank with state := .released, wp := 4, erases := 7 }
def sup1 : Super := { oseq := 1, slc := false, rackAt := 10 }
def withSb (d : Device) : Device := d.setCel { d.cel with supers := [(1, sup1)] }

/-- The hardware key of slot 0 is there. -/
def withHw0 (d : Device) : Device := { d with cph := { d.cph with hw0 := true } }
def withCph (d : Device) (f : Cph → Cph) : Device := { d with cph := f d.cph }

def kslot : KeySlot := { pending := false, persist := false, len256 := true, use := 15, key := List.replicate 16 0 }
/-- A device with a key in slot 16, which lets hosts use it. -/
def dKey : Device := (withCph dOn (fun c => { c with slots := [(16, kslot)] })).setFld Fld.CPH_CTRL_HOST_EN 1 0
/-- CIPHER of 16 bytes in CBC mode with slot 16. -/
def dCip (ws : List (Nat × Word)) : DescState := dsc 9 ([(4, 16), (8, 16)] ++ ws)
/-- SUP asleep with VBAT. -/
def dBat : Device := withSup dOn (fun u => { u with supOn := false, vbat := 3000 })
/-- Slot 1 is used, with 900 to 1100 mV in regulation and 200 mV as its OFF level. -/
def dRail (st : SupState) (r : RailState := .off) (f : Sup → Sup := id) : Device :=
  let d := withSup dOn (fun u => f { u with state := st })
  let d := (((d.setFld Fld.SUP_R_CFG_USED 1 1).setFld Fld.SUP_R_V1_UV_MV 900 1).setFld Fld.SUP_R_V0_OV_MV 1100 1).setFld Fld.SUP_R_V1_OFF_MV 200 1
  d.setRail 1 { Rail.blank with state := r, mv := 300 }

def caps : Capsule :=
  { done := false, lost := false, trig := 1, slot := 0, supState := 4, attempt := 0, opsec := 0, cycles := 0, rtc := 0, evtSeq := 0, hvin := 1200, hu := 1000,
    vbat := 3000, phase := 0, rails := [], draw := 0, events := [], regs := [] }
/-- A device asleep: in Diapause (3) or Chrysalis (4) of a mode. -/
def dLow (cur target : Nat) : Device := withSup dOn (fun u => { u with state := .lowPower, cur := cur, target := target })
def dSt (st : SupState) : Device := withSup dOn (fun u => { u with state := st })
def withTrl (d : Device) (f : Trl → Trl) : Device := { d with trl := f d.trl }
/-- The master (a member) of a formed striped cascade of three. -/
def master (d : Device) : Device := withTrl d (fun t => { t with mode := 3, n := 3, id := 0, formed := true })
def member (d : Device) : Device := withTrl d (fun t => { t with mode := 3, n := 3, id := 1, formed := true })

/-- A device whose update has begun; slot A runs. -/
def dUpd : Device := { dOn with fws := { dOn.fws with begun := true, run := 0, trial := false } }
def withEvr (d : Device) (f : Evr → Evr) : Device := { d with evr := f d.evr }
def ev1 : EventIn := { sev := 1, host := false, src := 2, code := 3, data := [] }
def er1 : EventRec := { opsec := 0, cycles := 0, ev := ev1, archived := false, saturated := false, deferred := false, repeats := 0, seq := 1 }
def withAge (d : Device) (f : Age → Age) : Device := { d with age := f d.age }
/-- A member of a cascade of three that shares its casks, whose port 0 is up. -/
def dTrl (id : Nat) (mode : Nat := 1) : Device :=
  withTrl dOn (fun t => { t with mode := mode, n := 3, id := id, formed := true, ports := [(0, { up := true, peer := 0, lastAt := 0, held := false })] })
/-- The first frame from a device. -/
def fin (src dest : Nat) : TrlIn := { port := 0, dest := dest, src := src, hops := 2, pseq := 1, crc := true }
/-- The device that takes a frame. -/
def took (d : Device) (f : TrlIn) (b : TrlBody) : Device := ((d.trlHeard f b).trlNext f b.kind).getD dOn

/-- A packet of two cells, whole, and queue 7 with it. -/
def pkt1 : Pkt := { tok := .none, owner := 0, cells := 2, whole := true, poison := false, void := false, runs := [(10, 2)] }
def qm1 : QmQueue := { state := 1, cls := 1, owner := 0, pkts := [pkt1] }

/-- The same with a key slot that is being restored, which the endpoint and grant 0 name. -/
def dPend : Device :=
  withCph (withEp (withGrant dPdt { gr with gcmSlot := 16 }) { ep1 with block := epBlock.take 8 ++ [16] ++ epBlock.drop 9 })
    (fun c => { c with slots := [(16, { kslot with pending := true })] })

def body (kind : String) (args : List Nat) : TrlBody := { kind := kind, args := args }
def atom1 : TrlAtomic := { tag := 7, cas := false, width := 8, arg := 1, swap := 0 }
def rd1 : ReadReq := { src := .device, tok := .none, cask := 4, off := 0, len := 2, snap := 0, use := .hostBuf 0, data := [], redo := [] }
/-- A member that waits for the data of a read. -/
def dRead : Device := withTrl (dTrl 1) (fun t => { t with reads := [(7, rd1)] })

/-! ### Maps that are full -/

/-- The map of every key below `n` to one value. -/
def filled {α : Type} (n : Nat) (v : α) : AMap α := (List.range n).map (fun i => (i, v))

theorem has_of_mem {α : Type} {m : AMap α} {k : Nat} {v : α} (h : (k, v) ∈ m) : AMap.has m k = true := by
  induction m with
  | nil => cases h
  | cons p m ih =>
    obtain ⟨a, b⟩ := p
    by_cases hk : k = a
    · simp [AMap.has, AMap.find?, hk]
    · simpa [AMap.has, AMap.find?, hk] using ih (by simpa [hk] using h)

theorem has_filled {α : Type} {n i : Nat} (v : α) (h : i < n) : AMap.has (filled n v) i = true :=
  has_of_mem (v := v) (by simpa [filled] using h)

theorem freeRing_filled {m : AMap EventRec} : ∀ n i, (∀ j, j < i + n → AMap.has m j = true) → freeRing n i m = none
  | 0, _, _ => rfl
  | n + 1, i, h => by
    rw [freeRing, h i (by omega)]
    exact freeRing_filled n (i + 1) (fun j hj => h j (by omega))

theorem freeQpc_filled {d : Device} (q : Qp) (h : d.net.qps = filled 1048576 q) : d.freeQpc = none := by
  simp only [freeQpc, h, List.find?_eq_none]
  intro i _ hi
  simp only [Bool.and_eq_true, Bool.not_eq_true', decide_eq_true_eq] at hi
  simp [has_filled q hi.2] at hi

theorem freeEp_filled {d : Device} (e : PdtEp) (h : d.pdt.eps = filled 65536 e) : d.freeEp = none := by
  simp only [freeEp, h, List.find?_eq_none]
  intro i _ hi
  simp only [Bool.and_eq_true, Bool.not_eq_true', decide_eq_true_eq] at hi
  simp [has_filled e hi.2] at hi

theorem takenDesc_net (d : Device) (fn q : Nat) (x : DescState) : (d.takenDesc fn q x).net = d.net ∧ (d.takenDesc fn q x).pdt = d.pdt := by
  constructor <;> (simp only [takenDesc, releaseDesc, startDesc, updDesc, updSq]; split <;> split <;> rfl)

/-- A header that FW_COMMIT takes, in slot B. -/
def unit0 : List Byte := [0x49, 0x54, 0x4D, 0x4C, 1] ++ List.replicate 27 0
def dImg : Device := dUpd.putUnit (slotUnit 1) unit0

/-- FW_COMMIT has an image to take wherever the signature check of R452, which is free (log 2), passes one. -/
theorem test_wit_firmware_commit (h : Config.imageSigned [(0, unit0)] = true) :
    (∃ (fn : Nat) (x : DescState) (s : State), s.dev.takesFlash fn 0xC2 x = true ∧
      let d := s.dev.takenDesc fn 0 x
      d.fws.begun = true ∧ d.verifies d.updSlot = true ∧ (d.markValid d.updSlot).2 = true) ∧
    (∃ (fn : Nat) (x : DescState) (s : State), s.dev.takesFlash fn 0xC2 x = true ∧
      let d := s.dev.takenDesc fn 0 x
      d.fws.begun = true ∧ d.verifies d.updSlot = true ∧ (d.markValid d.updSlot).2 = false) := by
  have hv (d : Device) (e : (decide (d.updSlot = 1) && (leField (d.flashBytes (slotUnit 1) 1) 0 4 == 0x4C4D5449 && leField (d.flashBytes (slotUnit 1) 1) 4 4 == 1 &&
      decide (leField (d.flashBytes (slotUnit 1) 1) 12 4 ≤ 6287360) && leField (d.flashBytes (slotUnit 1) 1) 16 4 == 0)) = true)
      (hb : (d.fws.units.filter (fun (p : Nat × List Byte) => decide (p.1 / 196608 = 1) &&
        (decide (p.1 % 196608 < 16) || decide (128 ≤ p.1 % 196608)))).map (fun p => (p.1 % 196608, p.2)) = [(0, unit0)]) : d.verifies d.updSlot = true := by
    simp only [Bool.and_eq_true, decide_eq_true_eq, beq_iff_eq] at e
    obtain ⟨e0, ⟨⟨e1, e2⟩, e3⟩, e4⟩ := e
    rw [e0]
    simp [verifies, e1, e2, e3, e4, hb, h]
  exact ⟨⟨0, dsc 0xC2 [], st (withQ dImg 0 0 [dsc 0xC2 []]), by decide +kernel, by decide +kernel, hv _ (by decide +kernel) (by decide +kernel), by decide +kernel⟩,
    0, dsc 0xC2 [], st (withQ (dImg.setMarker 1 mkSeq) 0 0 [dsc 0xC2 []]), by decide +kernel, by decide +kernel, hv _ (by decide +kernel) (by decide +kernel),
    by decide +kernel⟩

def withPdt (d : Device) (f : Pdt → Pdt) : Device := { d with pdt := f d.pdt }
/-- A flow that reassembles as many messages as the device can. -/
def rxFull : PdtRx := { rx0 with exp := 0, comp := 0, ack := 0, entries := (List.range 16384).map (fun i => { ent 1 with msn := 5 + i }) }
def dFull : Device := withRx dPdt [rxFull]

theorem captureSection_pos (d : Device) : 0 < d.captureSection.length := by
  simp [captureSection, leBytes]

theorem tx?_replicate {d : Device} {n loc rem : Nat} {f : PdtTx} (h : d.pdt.tx = List.replicate n f) (hr : f.rem ≠ rem) : d.tx? loc rem = none := by
  simp [tx?, h, hr]
theorem rackPage_blank {d : Device} (h : d.csk.racks = []) (cask i p : Nat) : (d.rackPage cask i p).length = 4096 := by
  simp only [rackPage, rack, h, AMap.find?, Option.getD_none, Rack.blank, Bool.false_eq_true, false_and, if_false, Bool.not_false, Bool.true_or, if_true,
    List.length_replicate]

theorem rackBytes_blank {d : Device} (h : d.csk.racks = []) (cask rack : Nat) : (d.rackBytes cask (rack * 65536) 65536).length = 65536 := by
  have e : (rack * 65536 + 65535) / 4096 + 1 - rack * 65536 / 4096 = 16 := by omega
  simp [rackBytes, Function.comp_def, rackPage_blank h, e, show rack * 65536 % 4096 = 0 by omega, List.map_const']

/-- `d` with MC2 stopped. -/
def mc2Off (d : Device) : Device := withSup d (fun u => { u with coresDown := [2] })

/-- The hardware key of slot 1 is there. -/
def withHw1 (d : Device) : Device := withCph d (fun c => { c with hw1 := true })

/-- Rack 0 of cask 4 is queued for relocation. -/
def withReloc (d : Device) : Device := d.setCel { d.cel with reloc := [rackKey 4 0] }

/-- A page of a duplexed table, on a device with one live channel. -/
def dup1 : DupPage := { area := 0, cask := 0, unit := 0, page := 0 }
def dupOn : Device := { dOn with drm := { dOn.drm with chans := [3, 15] } }

/-- A protected read whose key slot is being restored. -/
def msgP : PdtMsg := { msgR with gcm := true, kslot := 16 }
def dPendTx : Device := withCph (dTx msgP) (fun c => { c with slots := [(16, { kslot with pending := true })] })

theorem takesPdt_flow {d : Device} {op : Nat} {p : PdtIn} (h : (d.hearsPdt p && !(d.heardPdt op p).pdtKeyPending op (d.seenPdt op p) &&
    !(op != 9 && ((d.heardPdt op p).queue ((d.heardPdt op p).groupQ p.dst)).state == 3) &&
    (d.heardPdt op p).pdtBusy ((d.heardPdt op p).rx? p.dst p.src).isNone == none &&
    ((d.heardPdt op p).pdtFlow (d.seenPdt op p) (d.pdtCe op p)).isSome) = true) :
    d.takesPdt op p (flowOf d op p) (devOf d op p) = true := by
  simp only [Bool.and_eq_true] at h
  obtain ⟨⟨⟨⟨h1, h2⟩, h3⟩, h4⟩, h5⟩ := h
  obtain ⟨fe, hf⟩ := Option.isSome_iff_exists.1 h5
  simp only [takesPdt, flowOf, devOf, hf, h1, h2, h3, h4]
  simp

theorem dup_copy (k : Nat) (h : k = 0 ∨ k = 1) : dupOn.copyLost dup1 k = false := by
  have e : Config.dupCh 0 0 0 0 % 2 = 0 ∨ Config.dupCh 0 0 0 0 % 2 = 1 := by omega
  rcases h with rfl | rfl <;> rcases e with e | e <;> simp [copyLost, copyGone, copyCh, dupOn, dup1, dOn, e, Device.reset, Nat.mod_one]

theorem dup_copy0 : dupOn.copyCh dup1 0 = some ((dupOn.copyCh dup1 0).getD 0) := by simp [copyCh, dupOn]

/-- A device whose flow records are all taken. -/
def dFlows : Device := withPdt dPdt (fun p => { p with tx := List.replicate 1048576 { tx1 with rem := 6 } })

theorem pdtFlow_full {d : Device} {p : PdtIn} {ce : Bool} (h : d.rx? p.dst p.src = none) (n : 1048576 ≤ d.pdt.tx.length) : d.pdtFlow p ce = none := by
  simp only [pdtFlow, rxFor, h, if_pos (show 1048576 ≤ d.pdt.rx.length + d.pdt.tx.length by omega)]

theorem dFlows_full : 1048576 ≤ (dFlows.heardPdt 3 (pin 7 7)).pdt.tx.length := by
  have h : (dFlows.heardPdt 3 (pin 7 7)).pdt.tx = List.replicate 1048576 { tx1 with rem := 6 } := rfl
  exact Nat.le_of_eq ((congrArg List.length h).trans List.length_replicate).symm

/-- Attributes of a move to RTS: ACK timeout 1 and 16 reads. -/
def rts : List Byte := [3] ++ List.replicate 19 0 ++ [1, 0, 16]

/-! ### Well-formedness: an ill-formed command for each check -/

theorem test_ill_formed_agents : [Instr.registerWrite 1025 0 0 0 noAns, .lockAll 1025, .sealNow 1025].all (fun i => !i.wellFormed) = true := by decide

theorem test_ill_formed_host : [Instr.nop 1024 0, .nop 0 256, .identify 1024, .sqDoorbell 0 0 8 4 0, .vfDisable 16, .linkWordUe 65536 0 2 true,
    .linkWordUe 0 262144 2 true, .linkWordUe 0 0 3 true, .roceAckSend 16777216, .ethLinkUp 64, .pauseExpire 0 8, .pauseExpire 64 0,
    .pfcStormClear 8 0].all (fun i => !i.wellFormed) = true := by decide

theorem test_ill_formed_memory : [Instr.refreshTick 24 0 [] [], .refreshTick 0 16 [] [], .refreshTick 0 0 [32] [], .refreshTick 0 0 [] [(32, 1)],
    .dramCe 0 2 0 0 0 0 0, .dramCe 0 0 2 0 0 0 0, .dramCe 0 0 0 0 0 32 0, .cellarScan 64 0 0, .cellarScan 0 128 0, .vaultProgramTimeout 64 0,
    .vaultProgramTimeout 0 128, .grantQuarantineExpire 1048576].all (fun i => !i.wellFormed) = true := by decide

theorem test_ill_formed_units : [Instr.laneFail 16, .watchdogExpire 9, .pllLock 6, .railUpTimeout 32, .trlHelloTimer 4, .pstPlanWrite 0 4 0,
    .regulatorStart 0 0 0 0 0 false (some [0, 0, 0, 0]), .regulatorStart 0 0 0 0 0 false (some [0, 0, 0, 0, 9]), .leaseGrant true 0 0 0 6 0 0 0 0].all
    (fun i => !i.wellFormed) = true := by decide

theorem test_well_formed_at_the_bounds : [Instr.registerWrite 1024 0 0 0 noAns, .nop 1023 255, .sqDoorbell 0 0 7 4 0, .vfDisable 15,
    .linkWordUe 65535 262143 2 true, .roceAckSend 16777215, .ethLinkUp 63, .pauseExpire 63 7, .pfcStormClear 7 7, .refreshTick 23 15 [31] [(31, 1)],
    .dramCe 23 1 1 15 0 31 0, .cellarScan 63 127 0, .vaultProgramTimeout 63 127, .grantQuarantineExpire 1048575, .laneFail 15, .watchdogExpire 8, .pllLock 5,
    .railUpTimeout 31, .trlHelloTimer 3, .pstPlanWrite 0 3 0, .regulatorStart 0 0 0 0 0 false (some [8, 8, 8, 8, 8]),
    .leaseGrant true 0 0 0 5 255 3 1 0].all Instr.wellFormed = true := by decide

/-! ### One step each, with results taken from the spec -/

/-- The device after one command. -/
def after (i : Instr) (d : Device) : Device :=
  match exec i (st d) with
  | .next t => t.dev
  | _ => d

/-- A queue is first in, first out: the step takes its front and leaves the rest. -/
theorem test_step_takes_the_front : (match step { st dOn with pending := [.wakeN, .shortPress] } with
    | .next t => t.pending == [.shortPress]
    | _ => false) = true := by decide +kernel

/-- R315: HOT sets at 85 °C. -/
theorem test_hot_sets : (after (.dimmTempRead 3 85) dCh).flag Fld.DRM_CH_STATUS_HOT 3 = true ∧
    (after (.dimmTempRead 3 84) dCh).flag Fld.DRM_CH_STATUS_HOT 3 = false := by decide +kernel

/-- R315: HOT clears below 83 °C, and not at 83 °C. -/
theorem test_hot_clears : (after (.dimmTempRead 3 83) (after (.dimmTempRead 3 85) dCh)).flag Fld.DRM_CH_STATUS_HOT 3 = true ∧
    (after (.dimmTempRead 3 82) (after (.dimmTempRead 3 85) dCh)).flag Fld.DRM_CH_STATUS_HOT 3 = false := by decide +kernel

/-- R348: a program whose page is not WP is refused, and its block stays as it was. -/
theorem test_program_out_of_order : (after (.cellarProgramDone 3 5 9 4 1 false true) dOn).blk 3 5 9 = dOn.blk 3 5 9 ∧
    ((after (.cellarProgramDone 3 5 9 0 1 false true) dOn).blk 3 5 9).wp = 1 := by decide +kernel

/-- R401: a slot above OV_MV loses its EN. -/
theorem test_rail_over_voltage : ((after (.railFault 1 1101 true) (dRail .on .inReg)).rail 1).en = false ∧
    ((after (.railFault 1 1101 true) (dRail .on .inReg)).rail 1).state = .fault := by decide +kernel

/-- GEN_ID0 reads only: a write leaves it. -/
theorem test_read_only_register : (after (.registerWrite 0 Reg.GEN_ID0 4 0xFFFFFFFF noAns) dOn).reg Reg.GEN_ID0 = dOn.reg Reg.GEN_ID0 := by decide +kernel

/-- An HVIN above the absolute maximum stops the machine by name. -/
theorem test_absolute_maximum : (match exec (.hvinUvlo 8001) (st dOn) with
    | .fault .absoluteMaximum => true
    | _ => false) = true := by decide +kernel

/-- The table gives no bits: no word spells a command. -/
theorem test_no_word_spells_a_command (nbits w : Nat) : decodeTableWord nbits w = none := rfl

theorem test_reset_in_form : State.reset.memWf = true ∧ State.reset.regsWf = true := by decide +kernel

/-- GEN_ID0 as the register index gives it. -/
theorem test_reset_identity : State.reset.dev.reg Reg.GEN_ID0 = 0x88001F3C := by decide +kernel

/-! ### The hypotheses of the statements

`test_wit_<statement>` gives each clause of the statement a state and operands that meet its hypotheses together. -/

theorem test_wit_an_empty_queue_idles :
    (∃ (s : State), s.pending = [] ∧
      let d := if s.dev.hubOn then (s.dev.advance 1).reevalAdmit else s.dev.advance 1
      d.fws.job = none ∧ d.pst.sealDue = none ∧ ¬(d.rst.phase = 1 ∧ d.hubOn = true ∧ d.hold.bottle = none) ∧ d.planWaiting = d) ∧
    (∃ (s : State), s.pending = [] ∧
      let d := if s.dev.hubOn then (s.dev.advance 1).reevalAdmit else s.dev.advance 1
      d.fws.job = none ∧ d.pst.sealDue = none ∧ d.rst.phase = 1 ∧ d.hubOn = true ∧ d.hold.bottle = none) :=
  ⟨⟨st dOn, by decide +kernel⟩,
   ⟨st { dOn with rst := { dOn.rst with phase := 1 } }, by decide +kernel⟩⟩

theorem test_wit_reset_is_canonical :
    ∃ off r, off ≠ Reg.HRG_FN_CFG ∧ off < 67108864 ∧ regSpec? off = some r :=
  ⟨Reg.GEN_ID0, specOf Reg.GEN_ID0, by decide +kernel⟩

theorem test_wit_every_step_keeps_the_form :
    ∃ (s t : State), s.memWf = true ∧ s.regsWf = true ∧ step s = .next t :=
  ⟨st dOn, st dOn.tick, by decide +kernel, by decide +kernel, rfl⟩

theorem test_wit_register_writes :
    (∃ (agent off inst : Nat) (v : Word) (s : State), s.dev.accepts agent off inst v = true) ∧
    (∃ (agent off width : Nat) (s : State), s.dev.reach agent off = 0 ∧ off < bar4 ∧ (width ≠ 4 ∨ off % 4 ≠ 0)) ∧
    (∃ (agent off inst : Nat) (r : RegSpec) (v : Word) (s : State), s.dev.reach agent off = 0 ∧ off % 4 = 0 ∧ inBlocks off = true ∧ regSpec? off =
      some r ∧ s.dev.winInst agent off r false = some inst ∧ s.dev.quietIgnored off inst false v = false ∧ s.dev.rangeOk off inst (written r
      (s.dev.rwlLocked off) (keepsWo off) (s.dev.reg off inst) v) = false) ∧
    (∃ (agent off : Nat) (s : State), s.dev.reach agent off = 0 ∧ off < bar4 ∧ off % 4 = 0 ∧ (inBlocks off = false ∨ regSpec? off = none)) ∧
    (∃ (fn x : Nat) (s : State), fn < 1024 ∧ s.dev.hubOn = true ∧ s.dev.fnExists fn = true ∧ x < 8192 ∧ x % 4 = 0) ∧
    (∃ (fn : Nat), fn < 1024) ∧
    (∃ (d : Device) (fn vec : Nat) (e : MsixEntry), (AMap.wf (fun _ => MsixEntry.blank) d.hrg.msix = true) ∧ d.fnStopped fn = false ∧
      d.hrg.msixPend.contains (512 * fn + vec) = true ∧ e.masked = false) ∧
    (∃ (d : Device) (fn : Nat) (e : MsixEntry), (AMap.wf (fun _ => MsixEntry.blank) d.hrg.msix = true) ∧ d.fnStopped fn = false ∧ e.masked = true) :=
  ⟨⟨0, Reg.DRM_CTRL, 0, 5, st dOn, by decide +kernel⟩,
   ⟨0, 4, 8, st dOn, by decide +kernel⟩,
   ⟨0, Reg.PST_ADMIT_CTRL, 0, specOf Reg.PST_ADMIT_CTRL, 0, st dOn, by decide +kernel⟩,
   ⟨0, 0xF0000, st dOn, by decide +kernel⟩,
   ⟨0, 28, st dOn, by decide +kernel⟩,
   ⟨0, by decide +kernel⟩,
   ⟨{ dOn with hrg := { dOn.hrg with msixPend := [1] } }, 0, 1, { addr := 64, data := 7, masked := false }, by decide +kernel⟩,
   ⟨{ dOn with hrg := { dOn.hrg with msixPend := [1] } }, 0, { addr := 64, data := 7, masked := true }, by decide +kernel⟩⟩

theorem test_wit_register_reads :
    (∃ (agent off inst : Nat) (r : RegSpec) (s : State), s.dev.reach agent off = 0 ∧ off % 4 = 0 ∧ inBlocks off = true ∧ regSpec? off = some r ∧
      s.dev.winInst agent off r false = some inst ∧ isPairLo off = true ∧ s.dev.latches.find? (rkey agent off) = none) ∧
    (∃ (agent off inst : Nat) (r : RegSpec) (h : Word) (s : State), s.dev.reach agent off = 0 ∧ off % 4 = 0 ∧ inBlocks off = true ∧ regSpec? off =
      some r ∧ s.dev.winInst agent off r false = some inst ∧ s.dev.latches.find? (rkey agent off) = some h) ∧
    (∃ (fn x : Nat) (s : State), fn < 1024 ∧ s.dev.hubOn = true ∧ s.dev.fnExists fn = true ∧ x < 8192 ∧ x % 4 = 0) ∧
    (∃ (fn : Nat) (s : State), fn < 1024 ∧ s.dev.hubOn = true ∧ s.dev.fnExists fn = true) ∧
    (∃ (agent : Nat) (s : State), s.regsWf = true ∧ s.dev.reach agent Reg.SUP_CAP_DATA = 0 ∧ s.dev.latches.find? (rkey agent Reg.SUP_CAP_DATA) = none) :=
  ⟨⟨0, Reg.PST_VINT_OPEN_LO, 0, specOf Reg.PST_VINT_OPEN_LO, st dOn, by decide +kernel⟩,
   ⟨0, Reg.PST_VINT_OPEN_LO + 4, 0, specOf (Reg.PST_VINT_OPEN_LO + 4), 9, st { dOn with latches := [(rkey 0 (Reg.PST_VINT_OPEN_LO + 4), 9)] },
     by decide +kernel⟩,
   ⟨0, 4, st dOn, by decide +kernel⟩,
   ⟨0, st dOn, by decide +kernel⟩,
   ⟨0, st dOn, by decide +kernel⟩⟩

theorem test_wit_management_port :
    (∃ (m : MgtIn) (s : State), s.dev.sup.supOn = true ∧ m.ok = true ∧ (s.dev.i3cForm ≠ 2 ∨ m.i3c = true) ∧ s.dev.reach 1024 s.dev.i3cPtr ≠ 0 ∧
      s.dev.i3cPtr % 4 ≠ 0) ∧
    (∃ (m : MgtIn) (s : State), s.dev.sup.supOn = true ∧ m.ok = true ∧ (s.dev.i3cForm ≠ 2 ∨ m.i3c = true) ∧ s.dev.reach 1024 s.dev.i3cPtr ≠ 0 ∧
      s.dev.i3cPtr % 4 = 0) ∧
    (∃ (m : MgtIn) (s : State), s.dev.sup.supOn = true ∧ m.ok = false ∧ m.i3c = false ∧ s.dev.i3cForm ≠ 2) ∧
    (∃ (m : MgtIn) (s : State), s.dev.sup.supOn = true ∧ m.ok = true ∧ (s.dev.i3cForm ≠ 2 ∨ m.i3c = true) ∧ s.dev.reach 1024 s.dev.i3cPtr = 0) ∧
    (∃ (agent off : Nat) (s : State), agent ≠ 1024 ∧ s.dev.reach agent off = 0 ∧ inBlocks off = true ∧ staysPowered off = true) ∧
    (∃ (s : State), s.dev.reach 1024 s.dev.i3cPtr = 0 ∧ s.dev.hubOn = true) :=
  ⟨⟨smbus true, st { dOn with i3cPtr := 2 }, by decide +kernel⟩,
   ⟨smbus true, st { dOn with i3cPtr := 0x80000000 }, by decide +kernel⟩,
   ⟨smbus false, st dOn, by decide +kernel⟩,
   ⟨smbus true, st dOn, by decide +kernel⟩,
   ⟨0, Reg.SUP_RTC_SEC, st dOn, by decide +kernel⟩,
   ⟨st dOn, by decide +kernel⟩⟩

theorem test_wit_unanswered_bridge_access :
    ∃ (agent off : Nat) (s : State), agent < 1024 ∧ off < 67108864 ∧ s.dev.reach agent off = 0 ∧ inBlocks off = true ∧ staysPowered off = true ∧
      s.regsWf = true :=
  ⟨0, Reg.EVR_CTRL, st dOn, by decide +kernel⟩

theorem test_wit_host_and_own_register_commands :
    (∃ (agent inst : Nat) (s : State), s.dev.accepts agent Reg.GEN_CTRL inst 0x80000000 = true) ∧
    (∃ (agent inst : Nat) (s : State), s.dev.accepts agent Reg.PST_VINT_CTRL inst 1 = true) ∧
    (∃ (agent inst : Nat) (s : State), s.dev.accepts agent Reg.CSK_LK_CTRL inst 1 = true) ∧
    (∃ (agent inst : Nat) (s : State) (value : Word), s.dev.accepts agent Reg.PST_PLAN_A inst value = true) ∧
    (∃ (agent inst : Nat) (s : State) (value : Word), s.dev.accepts agent Reg.PST_PLAN_B inst value = true) ∧
    (∃ (agent inst : Nat) (s : State) (value : Word), s.dev.accepts agent Reg.PST_PLAN_C inst value = true) ∧
    (∃ (agent inst : Nat) (s : State) (value : Word), s.dev.accepts agent Reg.SUP_HV_BOTTLE inst value = true) ∧
    (∃ (agent inst : Nat) (s : State) (value : Word), s.dev.accepts agent Reg.PST_RST_CTRL inst value = true) ∧
    (∃ (agent inst : Nat) (s : State), s.dev.accepts agent Reg.PST_RST_CLEAR inst 0xD15C0001 = true ∧ s.dev.rst.phase = 8) ∧
    (∃ (agent inst : Nat) (s : State), s.dev.accepts agent Reg.MIR_CMD inst 4 = true ∧ s.dev.coreUp 2 = true) ∧
    (∃ (agent inst : Nat) (s : State), s.dev.accepts agent Reg.MIR_CMD inst 1 = true ∧ s.dev.coreUp 2 = true ∧ (s.dev.mir.role = .standby ∨
      s.dev.mir.role = .resync ∨ s.dev.mir.role = .fenced)) ∧
    (∃ (agent inst : Nat) (s : State), s.dev.accepts agent Reg.MIR_CMD inst 2 = true ∧ s.dev.coreUp 2 = true ∧ (s.dev.mir.role = .detached ∨
      s.dev.mir.role = .fenced)) ∧
    (∃ (agent inst : Nat) (s : State), s.dev.coreUp 2 = false ∧ s.dev.accepts agent Reg.MIR_CMD inst 4 = true) ∧
    (∃ (agent inst : Nat) (s : State), s.dev.coreUp 2 = false ∧ s.dev.accepts agent Reg.MIR_CMD inst 1 = true) ∧
    (∃ (agent inst : Nat) (s : State), s.dev.coreUp 2 = false ∧ s.dev.accepts agent Reg.MIR_CMD inst 2 = true) ∧
    (∃ (agent inst : Nat) (s : State), (agent = 1024 ∨ s.dev.isAdmin agent = true) ∧ s.dev.accepts agent Reg.HRG_FN_RESET inst 1 = true) ∧
    (∃ (agent inst : Nat) (s : State) (value : Word), (agent = 1024 ∨ s.dev.isAdmin agent = true) ∧ s.dev.accepts agent Reg.HRG_AQ_CFG inst value =
      true) ∧
    (∃ (agent inst : Nat) (s : State), ∃ owner, owner < 4096 ∧ s.dev.accepts agent Reg.QMG_RECLAIM inst (BitVec.ofNat 32 (1073741824 + owner)) = true
      ∧ (s.dev.qmg.reclaims.any (fun r => r.tag == owner) = false)) ∧
    (∃ (agent inst : Nat) (s : State) (value : Word), s.dev.accepts agent Reg.NET_P_MODE inst value = true) ∧
    (∃ (fn : Nat) (s : State), fn ≠ 1024 ∧ s.dev.isAdmin fn = false ∧ s.dev.ownPage fn (Reg.HRG_FN_RESET - Reg.HRG_FN_CFG) = true) ∧
    (∃ (fn : Nat) (value : Word) (s : State), fn ≠ 1024 ∧ s.dev.isAdmin fn = false ∧ s.dev.ownPage fn (Reg.HRG_AQ_CFG - Reg.HRG_FN_CFG) = true ∧
      s.dev.quietIgnored Reg.HRG_AQ_CFG fn true value = false) :=
  ⟨⟨0, 0, st dOn, by decide +kernel⟩,
   ⟨0, 0, st dOn, by decide +kernel⟩,
   ⟨0, 0, st dOn, by decide +kernel⟩,
   ⟨0, 0, st dOn, (dOn.reg Reg.PST_PLAN_A), by decide +kernel⟩,
   ⟨0, 0, st dOn, (dOn.reg Reg.PST_PLAN_B), by decide +kernel⟩,
   ⟨0, 0, st dOn, (dOn.reg Reg.PST_PLAN_C), by decide +kernel⟩,
   ⟨0, 0, st dOn, (dOn.reg Reg.SUP_HV_BOTTLE), by decide +kernel⟩,
   ⟨0, 0, st dOn, (dOn.reg Reg.PST_RST_CTRL ^^^ 1), by decide +kernel⟩,
   ⟨0, 0, st { dOn with rst := { dOn.rst with phase := 8 } }, by decide +kernel⟩,
   ⟨0, 0, st dOn, by decide +kernel⟩,
   ⟨0, 0, st { dOn with mir := { dOn.mir with role := .standby } }, by decide +kernel⟩,
   ⟨0, 0, st { dOn with mir := { dOn.mir with role := .fenced } }, by decide +kernel⟩,
   ⟨0, 0, st (mc2Off dOn), by decide +kernel⟩,
   ⟨0, 0, st (mc2Off dOn), by decide +kernel⟩,
   ⟨0, 0, st (mc2Off dOn), by decide +kernel⟩,
   ⟨0, 0, st dOn, by decide +kernel⟩,
   ⟨0, 0, st dOn, 0x80050005, by decide +kernel⟩,
   ⟨0, 0, st dOn, 5, by decide +kernel⟩,
   ⟨0, 0, st dOn, (dOn.reg Reg.NET_P_MODE), by decide +kernel⟩,
   ⟨1, st dOn, by decide +kernel⟩,
   ⟨1, 0x80050005, st dOn, by decide +kernel⟩⟩

theorem test_wit_media_and_supply_register_commands :
    (∃ (agent inst : Nat) (s : State) (all : Bool), s.dev.accepts agent Reg.DRM_TSET_CMD inst (BitVec.ofNat 32 (2147483648 + b2n all * 1073741824)) =
      true ∧ s.dev.hold.supply = .normal ∧ s.dev.hold.bottle = none ∧ s.dev.drm.walk = none) ∧
    (∃ (agent inst : Nat) (s : State) (sq block : Nat), s.dev.accepts agent Reg.CEL_L_RAW_CMD inst (BitVec.ofNat 32 (2147483648 + sq % 64 * 1048576 +
      block % 1048576)) = true) ∧
    (∃ (agent inst : Nat) (s : State), s.dev.accepts agent Reg.CPH_K_CMD inst 0x80000000 = true) ∧
    (∃ (agent inst : Nat) (s : State), s.dev.accepts agent Reg.CPH_K_CMD inst 0x80000001 = true) ∧
    (∃ (agent inst : Nat) (s : State), s.dev.accepts agent Reg.CPH_K_CMD inst 0x80000002 = true) ∧
    (∃ (agent inst : Nat) (s : State) (value : Word), bitAt value 30 = true ∧ s.dev.accepts agent Reg.AGE_CTRL inst value = true) ∧
    (∃ (agent inst : Nat) (s : State), s.dev.coreUp 8 = true ∧ s.dev.accepts agent Reg.FWS_CMD inst 0x80000000 = true) ∧
    (∃ (agent inst : Nat) (s : State), s.dev.coreUp 8 = true ∧ s.dev.accepts agent Reg.FWS_CMD inst 0x80000001 = true) ∧
    (∃ (agent inst : Nat) (s : State), s.dev.coreUp 8 = true ∧ s.dev.accepts agent Reg.FWS_CMD inst 0x80000002 = true) ∧
    (∃ (agent inst : Nat) (s : State), s.dev.coreUp 8 = true ∧ s.dev.accepts agent Reg.FWS_CMD inst 0x80000003 = true) ∧
    (∃ (agent inst key : Nat) (s : State), s.dev.coreUp 8 = false ∧ s.dev.accepts agent Reg.SUP_PWR_CMD inst (BitVec.ofNat 32 (key % 65536 * 65536 +
      2)) = true) ∧
    (∃ (agent inst : Nat) (s : State), s.dev.coreUp 8 = true ∧ ∃ (value : Word), bitAt value 0 = true ∧ s.dev.accepts agent Reg.SUP_HU_CTRL inst value
      = true) ∧
    (∃ (agent inst : Nat) (s : State), s.dev.coreUp 8 = true ∧ agent = 1024 ∧ s.dev.accepts agent Reg.SUP_PWR_CMD inst 1 = true ∧ s.dev.sup.state =
      .off) ∧
    (∃ (agent inst : Nat) (s : State), s.dev.coreUp 8 = true ∧ s.dev.accepts agent Reg.SUP_PWR_CMD inst 0xA5A50002 = true ∧ s.dev.sup.state = .on ∧
      s.dev.hold.bottle = none) ∧
    (∃ (agent inst : Nat) (s : State), s.dev.coreUp 8 = true ∧ ∃ steps, steps < 32 ∧ s.dev.accepts agent Reg.SUP_R_MARGIN inst (BitVec.ofNat 32 steps)
      = true) ∧
    (∃ (agent inst : Nat) (s : State), s.dev.coreUp 8 = true ∧ s.dev.accepts agent Reg.SUP_MARGIN_UNLOCK inst 0x3A5C0000 = true ∧ (s.dev.stored
      Reg.SUP_MARGIN_UNLOCK inst 0x3A5C0000).flag Fld.SUP_SEQ_CTRL_LOCK = false) ∧
    (∃ (agent inst : Nat) (s : State), s.dev.coreUp 8 = true ∧ s.dev.accepts agent Reg.SUP_CAP_CTRL inst 0xCA950001 = true) ∧
    (∃ (agent inst : Nat) (s : State), s.dev.coreUp 8 = true ∧ ∃ mode, 0 < mode ∧ mode < 4 ∧ agent ≠ 1024 ∧ s.dev.accepts agent Reg.SUP_PWR_TARGET
      inst (BitVec.ofNat 32 mode) = true) ∧
    (∃ (inst : Nat) (s : State), s.dev.coreUp 8 = true ∧ s.dev.accepts 1024 Reg.SUP_PWR_TARGET inst 256 = true) :=
  ⟨⟨0, 0, st dOn, true, by decide +kernel⟩,
   ⟨0, 0, st dOn, 0, 0, by decide +kernel⟩,
   ⟨0, 0, st dOn, by decide +kernel⟩,
   ⟨0, 0, st dOn, by decide +kernel⟩,
   ⟨0, 0, st dOn, by decide +kernel⟩,
   ⟨0, 0, st dOn, 0x40000000, by decide +kernel⟩,
   ⟨0, 0, st dOn, by decide +kernel⟩,
   ⟨0, 0, st dOn, by decide +kernel⟩,
   ⟨0, 0, st dOn, by decide +kernel⟩,
   ⟨0, 0, st dOn, by decide +kernel⟩,
   ⟨0, 0, 0xA5A5, st (withSup dOn (fun u => { u with coresDown := [8] })), by decide +kernel⟩,
   ⟨0, 0, st dOn, by decide +kernel, (dOn.reg Reg.SUP_HU_CTRL ||| 1), by decide +kernel⟩,
   ⟨1024, 0, st (withSup dOn (fun u => { u with state := .off })), by decide +kernel⟩,
   ⟨0, 0, st dOn, by decide +kernel⟩,
   ⟨0, 0, st dOn, by decide +kernel, 1, by decide +kernel⟩,
   ⟨0, 0, st dOn, by decide +kernel⟩,
   ⟨0, 0, st dOn, by decide +kernel⟩,
   ⟨0, 0, st dOn, by decide +kernel, 1, by decide +kernel⟩,
   ⟨0, st dOn, by decide +kernel⟩⟩

theorem test_wit_doorbells :
    (∃ (fn q width value : Nat) (sq : Sq) (s : State), s.dev.fnExists fn = true ∧ s.dev.fnStopped fn = false ∧ s.dev.portStopped = false ∧ s.dev.sq?
      fn q = some sq ∧ (width = 4 ∨ width = 8) ∧ value < 2 ^ sq.log2) ∧
    (∃ (fn q byte width value : Nat) (s : State), s.dev.fnExists fn = true ∧ s.dev.fnStopped fn = false ∧ s.dev.portStopped = false ∧ (∀ sq, s.dev.sq?
      fn q = some sq → byte ≠ 0 ∨ (width ≠ 4 ∧ width ≠ 8) ∨ 2 ^ sq.log2 ≤ value)) ∧
    (∃ (fn q width value n : Nat) (cq : Cq) (s : State), s.dev.fnExists fn = true ∧ s.dev.fnStopped fn = false ∧ s.dev.portStopped = false ∧ s.dev.cq?
      fn q = some cq ∧ (width = 4 ∨ width = 8) ∧ cqRelease cq value = some n) ∧
    (∃ (fn q byte width value : Nat) (s : State), s.dev.fnExists fn = true ∧ s.dev.fnStopped fn = false ∧ s.dev.portStopped = false ∧ (∀ cq, s.dev.cq?
      fn q = some cq → byte ≠ 0 ∨ (width ≠ 4 ∧ width ≠ 8) ∨ cqRelease cq value = none)) ∧
    (∃ (cq : Cq) (value n : Nat), cqRelease cq value = some n) ∧
    (∃ (cq : Cq) (value : Nat), (2 ^ cq.log2 ≤ value ∨ cq.posted - cq.released < (value + 2 ^ cq.log2 - cq.released % 2 ^ cq.log2) % 2 ^ cq.log2)) ∧
    (∃ (fn q tail : Nat) (sq : Sq) (s : State), s.dev.sq? fn q = some sq ∧ sq.shadow = true ∧ sq.poll = true ∧ s.dev.flag Fld.HRG_SHADOW_LO_EN fn =
      true ∧ s.dev.fnStopped fn = false ∧ tail % 65536 < 2 ^ sq.log2 ∧ (∀ cq, s.dev.cq? fn q = some cq → cq.reread = false)) ∧
    (∃ (fn q head n : Nat) (cq : Cq) (s : State), s.dev.cq? fn q = some cq ∧ cq.reread = true ∧ s.dev.flag Fld.HRG_SHADOW_LO_EN fn = true ∧
      s.dev.fnStopped fn = false ∧ cqRelease { cq with reread := false } (head % 65536) = some n) ∧
    (∃ (fn q : Nat) (sq : Sq) (s : State), s.dev.sq? fn q = some sq ∧ sq.shadow = true ∧ sq.poll = true ∧ s.dev.flag Fld.HRG_SHADOW_LO_EN fn = true ∧
      s.dev.fnStopped fn = false ∧ sq.descs = [] ∧ Device.hasWork sq = false ∧ sq.tail < 65536) :=
  ⟨⟨0, 1, 8, 63, sqOf [], sQ 0 1 [], by decide +kernel⟩,
   ⟨0, 1, 0, 4, 64, sQ 0 1 [], by decide +kernel⟩,
   ⟨0, 1, 8, 1, 1, { cqOf with posted := 1 }, sQcq { cqOf with posted := 1 }, by decide +kernel⟩,
   ⟨0, 1, 0, 4, 2, sQcq { cqOf with posted := 1 }, by decide +kernel⟩,
   ⟨{ cqOf with posted := 1 }, 1, 1, by decide +kernel⟩,
   ⟨cqOf, 64, by decide +kernel⟩,
   ⟨0, 1, 63, sqSh, st dSh, by decide +kernel⟩,
   ⟨0, 1, 1, 1, { cqOf with posted := 1, reread := true }, st (dSh.putCq 0 1 { cqOf with posted := 1, reread := true }), by decide +kernel⟩,
   ⟨0, 1, sqSh, st dSh, by decide +kernel⟩⟩

theorem test_wit_descriptor_fetches :
    (∃ (fn q : Nat) (sq : Sq) (s : State), s.dev.sq? fn q = some sq ∧ s.dev.fetchTurn = some (fn, q)) ∧
    (∃ (fn q : Nat) (sq : Sq) (s : State), s.dev.sq? fn q = some sq ∧ s.dev.fetchTurn ≠ some (fn, q)) ∧
    (∃ (fn q : Nat) (sq : Sq) (s : State), s.dev.sq? fn q = some sq ∧ sq.refused = true) ∧
    (∃ (fn q : Nat) (sq : Sq) (s : State), s.dev.sq? fn q = some sq ∧ sq.refused = false) ∧
    (∃ (fn q : Nat) (words : List Word) (sq : Sq) (d : Device), d.sq? fn q = some sq ∧ d.mayFetch fn sq = true ∧
      let dw := (words ++ List.replicate 16 0).take 16
      d.mayReserve sq.qmq (cellsFor (min (hostNeed dw) 1048576)) fn = true ∧ d.refusedBy fn q dw = none ∧ (∀ x ∈ sq.descs, d.refusedBy fn q x.dw =
        none)) ∧
    (∃ (fn q : Nat) (words : List Word) (sq : Sq) (d : Device), d.sq? fn q = some sq ∧ d.mayFetch fn sq = true ∧
      let dw := (words ++ List.replicate 16 0).take 16
      d.mayReserve sq.qmq (cellsFor (min (hostNeed dw) 1048576)) fn = false) ∧
    (∃ (d : Device) (fn q : Nat), d.fetchTurn = some (fn, q)) ∧
    (∃ (fn q seq : Nat) (sq : Sq) (x : DescState) (s : State), s.dev.fnStopped fn = false ∧ s.dev.sq? fn q = some sq ∧ s.dev.desc? fn q seq = some x ∧
      x.phase = .fetched ∧ x.need ≠ 0) :=
  ⟨⟨0, 1, { sqOf [] with tail := 1 }, st dWork, by decide +kernel⟩,
   ⟨0, 1, sqOf [], sQ 0 1 [], by decide +kernel⟩,
   ⟨0, 1, { sqOf [] with tail := 1, refused := true }, st (dWork.putSq 0 1 { sqOf [] with tail := 1, refused := true }), by decide +kernel⟩,
   ⟨0, 1, { sqOf [] with tail := 1 }, st dWork, by decide +kernel⟩,
   ⟨0, 1, words 2 [(4, 2)], { sqOf [] with tail := 1 }, dWork, by decide +kernel⟩,
   ⟨0, 1, words 2 [(4, 2)], { sqOf [] with tail := 1 }, dTag, by decide +kernel⟩,
   ⟨dWork, 0, 1, by decide +kernel⟩,
   ⟨0, 1, 0, sqOf [{ dsc 2 [(4, 2)] with need := 2 }], { dsc 2 [(4, 2)] with need := 2 }, sQ 0 1 [{ dsc 2 [(4, 2)] with need := 2 }],
     by decide +kernel⟩⟩

theorem test_wit_completion_words :
    (∃ (fn q : Nat) (cq : Cq) (s : State), s.dev.cq? fn q = some cq ∧ cq.ien = true ∧ cq.unsig ≠ 0) ∧
    (∃ (fn q : Nat) (sq : Sq) (s : State), s.dev.sq? fn q = some sq ∧ sq.ccwEn = true ∧ sq.ccwDue = true ∧ s.dev.mayWriteWords fn q = true ∧
      s.dev.fnStopped fn = false ∧ s.dev.entryWaits fn q sq = false) :=
  ⟨⟨0, 1, { cqOf with ien := true, unsig := 1 }, sQcq { cqOf with ien := true, unsig := 1 }, by decide +kernel⟩,
   ⟨0, 1, { sqOf [] with ccwEn := true, ccwDue := true }, sQsq { sqOf [] with ccwEn := true, ccwDue := true }, by decide +kernel⟩⟩

theorem test_wit_completion_entries :
    (∃ (d : Device) (fn q status : Nat) (sq : Sq) (cq : Cq) (x : DescState) (rest : List DescState), d.sq? fn q = some sq ∧ sq.descs = x :: rest ∧
      (rest.all (fun y => y.phase != .done) = true) ∧ x.phase = .running ∧ d.fnStopped fn = false ∧ d.cq? fn sq.cq = some cq ∧ cq.wait = [] ∧ cqRoom
      cq = true ∧ cq.ien = false ∧ (dQuiet x.dw = false ∨ status ≠ 0) ∧ sq.shadow = false) ∧
    (∃ (cid q status head r0 r1 : Nat), cid < 65536 ∧ q < 256 ∧ status < 256 ∧ head < 65536 ∧ r0 < 2 ^ 64 ∧ r1 < 2 ^ 64) :=
  ⟨⟨withQ dOn 0 1 [run (dsc 2 [])], 0, 1, 1, sqOf [run (dsc 2 [])], cqOf, run (dsc 2 []), [], by decide +kernel⟩,
   ⟨65535, 255, 255, 65535, 18446744073709551615, 18446744073709551615, by decide +kernel⟩⟩

theorem test_wit_functions_and_links :
    (∃ (fn : Nat) (s : State), s.dev.fnExists fn = true ∧ s.dev.hrg.resets.find? fn = none) ∧
    (∃ (fn : Nat) (r : FnReset) (s : State), s.dev.hrg.resets.find? fn = some r ∧ r.toks = [] ∧ AMap.sorted s.dev.hrg.resets = true) ∧
    (∃ (link : Nat) (l : Link) (s : State), s.dev.hrg.links.find? link = some l ∧ l.up = true) ∧
    (∃ (link : Nat) (l : Link) (s : State), s.dev.hrg.links.find? link = some l ∧ l.vfEn = true) ∧
    (∃ (link : Nat) (s : State), s.dev.hubOn = true ∧ s.dev.hold.bottle = none ∧ link < 16 ∧ (bifurLinks (s.dev.hrg.bifur.getD (link / 4) 0)).contains
      (link % 4) = true) :=
  ⟨⟨2, st dOn, by decide +kernel⟩,
   ⟨2, { startAt := 0, step := 5, toks := [] }, st { dOn with hrg := { dOn.hrg with resets := [(2, { startAt := 0, step := 5, toks := [] })] } },
     by decide +kernel⟩,
   ⟨0, { up := true, vfEn := true, numVfs := 2 }, st dOn, by decide +kernel⟩,
   ⟨0, { up := true, vfEn := true, numVfs := 2 }, st dOn, by decide +kernel⟩,
   ⟨12, st dOn, by decide +kernel⟩⟩

theorem test_wit_queue_manager_commands :
    (∃ (qmq cell bits : Nat) (s : State),
      let q := s.dev.queue qmq
      q.state ≠ 0 ∧ ((q.pkts ++ q.lost).any (holdsCell cell) = true ∨ qmq < 0x400) ∧ bits = 1) ∧
    (∃ (qmq cell bits : Nat) (link : Bool) (s : State),
      let q := s.dev.queue qmq
      q.state ≠ 0 ∧ ((q.pkts ++ q.lost).any (holdsCell cell) = true ∨ qmq < 0x400) ∧ 2 ≤ bits ∧ link = false) ∧
    (∃ (qmq cell bits : Nat) (link : Bool) (s : State),
      let q := s.dev.queue qmq
      q.state ≠ 0 ∧ ((q.pkts ++ q.lost).any (holdsCell cell) = true ∨ qmq < 0x400) ∧ 2 ≤ bits ∧ link = true) ∧
    (∃ (qmq cell bits : Nat) (s : State),
      let q := s.dev.queue qmq
      (q.state = 0 ∨ bits = 0 ∨ ((q.pkts ++ q.lost).any (holdsCell cell) = false ∧ 0x400 ≤ qmq))) ∧
    (∃ (d : Device) (qmq cell : Nat), (d.queue qmq).pkts.any (holdsCell cell) = true) ∧
    (∃ (d : Device) (qn : Nat), AMap.wf regDflt d.regs = true ∧ d.fld Fld.QMG_Q_ECC_CE qn < 65535 ∧ d.fld Fld.QMG_CE_THR_THR = d.fld Fld.QMG_Q_ECC_CE
      qn + 1) ∧
    (∃ (qmq : Nat) (s : State), (s.dev.queue qmq).state = 3 ∧ (s.dev.queue qmq).swept = false) ∧
    (∃ (q : QmQueue), q.state = 3 ∧ q.swept = true ∧ q.pkts.any (·.whole) = true) ∧
    (∃ (q : QmQueue), q.state = 3 ∧ q.swept = true ∧ q.pkts.any (·.whole) = false) ∧
    (∃ (n o : Nat), n < 262144 ∧ o < 4096) ∧
    (∃ (tag : Nat) (r : Reclaim) (s : State), (s.dev.qmg.reclaims.find? (fun r => r.tag == tag) = some r)) ∧
    (∃ (fn : Nat) (x : DescState) (s : State),
      let d := s.dev.takenDesc fn 0 x
      let id := dwF x.dw 8 7 0
      let lg := dwF x.dw 8 20 16
      let cqs := (d.hrg.cqs.filter (fun p => decide (p.1 / 256 = fn ∧ p.1 % 256 ≠ 0))).length
      s.dev.takesFn fn 0x80 x = true ∧ id ≠ 0 ∧ d.cq? fn id = none ∧ 6 ≤ lg ∧ lg ≤ 16 ∧ dwF x.dw 9 8 0 ≤ 256 ∧ dw64 x.dw 10 % 4096 = 0 ∧ cqs < d.fld
        Fld.HRG_FN_CFG_MAX_CQ fn ∧ d.hrg.cqs.length < 32768) ∧
    (∃ (fn : Nat) (x : DescState) (s : State),
      let d := s.dev.takenDesc fn 0 x
      let id := dwF x.dw 8 7 0
      let lg := dwF x.dw 8 20 16
      s.dev.takesFn fn 0x80 x = true ∧ (id = 0 ∨ (d.cq? fn id).isSome ∨ lg < 6 ∨ 16 < lg ∨ 256 < dwF x.dw 9 8 0 ∨ dw64 x.dw 10 % 4096 ≠ 0)) ∧
    (∃ (fn : Nat) (x : DescState) (s : State),
      let d := s.dev.takenDesc fn 0 x
      let id := dwF x.dw 8 7 0
      let lg := dwF x.dw 8 20 16
      let cqs := (d.hrg.cqs.filter (fun p => decide (p.1 / 256 = fn ∧ p.1 % 256 ≠ 0))).length
      s.dev.takesFn fn 0x80 x = true ∧ id ≠ 0 ∧ d.cq? fn id = none ∧ 6 ≤ lg ∧ lg ≤ 16 ∧ dwF x.dw 9 8 0 ≤ 256 ∧ dw64 x.dw 10 % 4096 = 0 ∧ (d.fld
        Fld.HRG_FN_CFG_MAX_CQ fn ≤ cqs ∨ 32768 ≤ d.hrg.cqs.length)) ∧
    (∃ (fn : Nat) (x : DescState) (s : State),
      let d := s.dev.takenDesc fn 0 x
      let id := dwF x.dw 8 7 0
      s.dev.takesFn fn 0x81 x = true ∧ id ≠ 0 ∧ (d.cq? fn id).isSome ∧ (d.hrg.sqs.any (fun p => p.1 / 256 == fn && p.2.cq == id) = false)) ∧
    (∃ (fn : Nat) (x : DescState) (s : State),
      let d := s.dev.takenDesc fn 0 x
      let id := dwF x.dw 8 7 0
      s.dev.takesFn fn 0x81 x = true ∧ id ≠ 0 ∧ (d.cq? fn id).isSome ∧ (d.hrg.sqs.any (fun p => p.1 / 256 == fn && p.2.cq == id) = true)) ∧
    (∃ (fn : Nat) (x : DescState) (s : State),
      let d := s.dev.takenDesc fn 0 x
      let id := dwF x.dw 8 7 0
      s.dev.takesFn fn 0x81 x = true ∧ (id = 0 ∨ d.cq? fn id = none)) ∧
    (∃ (fn : Nat) (x : DescState) (s : State),
      let d := s.dev.takenDesc fn 0 x
      let id := dwF x.dw 8 7 0
      let lg := dwF x.dw 8 20 16
      let sqs := (d.hrg.sqs.filter (fun p => decide (p.1 / 256 = fn ∧ p.1 % 256 ≠ 0))).length
      s.dev.takesFn fn 0x82 x = true ∧
      let cq := dwF x.dw 8 15 8
      let ccw := bitAt (dwAt x.dw 8) 26
      id ≠ 0 ∧ d.sq? fn id = none ∧ 6 ≤ lg ∧ lg ≤ 16 ∧ cq ≠ 0 ∧ (d.cq? fn cq).isSome ∧ dw64 x.dw 10 % 4096 = 0 ∧ (ccw = false ∨ dw64 x.dw 12 % 8 = 0)
        ∧ sqs < d.fld Fld.HRG_FN_CFG_MAX_SQ fn ∧ d.hrg.sqs.length < 32768) ∧
    (∃ (fn : Nat) (x : DescState) (s : State),
      let d := s.dev.takenDesc fn 0 x
      let id := dwF x.dw 8 7 0
      let lg := dwF x.dw 8 20 16
      s.dev.takesFn fn 0x82 x = true ∧
      let cq := dwF x.dw 8 15 8
      let ccw := bitAt (dwAt x.dw 8) 26
      (id = 0 ∨ (d.sq? fn id).isSome ∨ lg < 6 ∨ 16 < lg ∨ cq = 0 ∨ d.cq? fn cq = none ∨ dw64 x.dw 10 % 4096 ≠ 0 ∨ (ccw = true ∧ dw64 x.dw 12 % 8 ≠ 0))) ∧
    (∃ (fn : Nat) (x : DescState) (s : State),
      let d := s.dev.takenDesc fn 0 x
      let id := dwF x.dw 8 7 0
      s.dev.takesFn fn 0x83 x = true ∧ ∃ sq, d.sq? fn id = some sq ∧ id ≠ 0 ∧ sq.deleting = none) ∧
    (∃ (fn : Nat) (x : DescState) (s : State),
      let d := s.dev.takenDesc fn 0 x
      let id := dwF x.dw 8 7 0
      s.dev.takesFn fn 0x83 x = true ∧ d.sq? fn id = none) ∧
    (∃ (fn : Nat) (x : DescState) (s : State), s.dev.takesFn fn 0x84 x = true) :=
  ⟨⟨7, 11, 1, st (dOn.setQueue 7 qm1), by decide +kernel⟩,
   ⟨7, 11, 2, false, st (dOn.setQueue 7 qm1), by decide +kernel⟩,
   ⟨7, 10, 2, true, st (dOn.setQueue 7 qm1), by decide +kernel⟩,
   ⟨7, 11, 0, st (dOn.setQueue 7 qm1), by decide +kernel⟩,
   ⟨dOn.setQueue 7 qm1, 7, 11, by decide +kernel⟩,
   ⟨dOn.setFld Fld.QMG_CE_THR_THR 1 0, 7, by decide +kernel⟩,
   ⟨7, st (dOn.setQueue 7 { state := 3, cls := 1, owner := 0, pkts := [] }), by decide +kernel⟩,
   ⟨{ qm1 with state := 3, swept := true }, by decide +kernel⟩,
   ⟨{ qm1 with state := 3, swept := true, pkts := [] }, by decide +kernel⟩,
   ⟨262143, 4095, by decide +kernel⟩,
   ⟨5, { tag := 5, freed := 1, startAt := 0 }, st { dOn with qmg := { dOn.qmg with reclaims := [{ tag := 5, freed := 1, startAt := 0 }] } },
     by decide +kernel⟩,
   ⟨0, dsc 128 [(8, 0x60002), (10, 4096)], sQ 0 0 [dsc 128 [(8, 0x60002), (10, 4096)]], by decide +kernel⟩,
   ⟨0, dsc 128 [(8, 0x60000), (10, 4096)], sQ 0 0 [dsc 128 [(8, 0x60000), (10, 4096)]], by decide +kernel⟩,
   ⟨0, dsc 128 [(8, 0x100002), (10, 4096)], st ((withQ dOn 0 0 [dsc 128 [(8, 0x100002), (10, 4096)]]).setFld Fld.HRG_FN_CFG_MAX_CQ 1 0),
     by decide +kernel⟩,
   ⟨0, dsc 129 [(8, 2)], st ((withQ dOn 0 0 [dsc 129 [(8, 2)]]).putCq 0 2 cqOf), by decide +kernel⟩,
   ⟨0, dsc 129 [(8, 1)], sQ 0 0 [dsc 129 [(8, 1)]], by decide +kernel⟩,
   ⟨0, dsc 129 [], sQ 0 0 [dsc 129 []], by decide +kernel⟩,
   ⟨0, dsc 130 [(8, 0x60102), (10, 4096)], sQ 0 0 [dsc 130 [(8, 0x60102), (10, 4096)]], by decide +kernel⟩,
   ⟨0, dsc 130 [(8, 0x60100), (10, 4096)], sQ 0 0 [dsc 130 [(8, 0x60100), (10, 4096)]], by decide +kernel⟩,
   ⟨0, dsc 131 [(8, 2)], st ((withQ dOn 0 0 [dsc 131 [(8, 2)]]).putSq 0 2 (sqOf [])), by decide +kernel, sqOf [], by decide +kernel⟩,
   ⟨0, dsc 131 [(8, 2)], sQ 0 0 [dsc 131 [(8, 2)]], by decide +kernel⟩,
   ⟨0, dsc 132 [], sQ 0 0 [dsc 132 []], by decide +kernel⟩⟩

theorem test_wit_admin_commands :
    (∃ (fn : Nat) (x : DescState) (s : State),
      let d := s.dev.takenDesc fn 0 x
      s.dev.takesDev fn 0xA0 x = true ∧ d.fnExists (dwF x.dw 8 9 0) = false) ∧
    (∃ (fn : Nat) (x : DescState) (s : State),
      let d := s.dev.takenDesc fn 0 x
      s.dev.takesDev fn 0xA0 x = true ∧ d.fnExists (dwF x.dw 8 9 0) = true ∧ dwF x.dw 8 9 0 ≠ fn) ∧
    (∃ (fn : Nat) (x : DescState) (s : State),
      let d := s.dev.takenDesc fn 0 x
      s.dev.takesDev fn 0xA0 x = true ∧ d.fnExists fn = true ∧ dwF x.dw 8 9 0 = fn) ∧
    (∃ (fn : Nat) (x : DescState) (s : State), s.dev.takesDev fn 0xA1 x = true ∧ dwAt x.dw 8 = 0x5A5A) ∧
    (∃ (fn : Nat) (x : DescState) (s : State), s.dev.takesDev fn 0xA1 x = true ∧ dwAt x.dw 8 ≠ 0x5A5A) ∧
    (∃ (fn : Nat) (x : DescState) (s : State), s.dev.takesDev fn 0xA2 x = true) ∧
    (∃ (fn : Nat) (x : DescState) (s : State), s.dev.takesDev fn 0x93 x = true) ∧
    (∃ (fn : Nat) (x : DescState) (s : State), s.dev.takesDev fn 0x9A x = true) :=
  ⟨⟨0, dsc 160 [(8, 1023)], sQ 0 0 [dsc 160 [(8, 1023)]], by decide +kernel⟩,
   ⟨0, dsc 160 [(8, 2)], sQ 0 0 [dsc 160 [(8, 2)]], by decide +kernel⟩,
   ⟨0, dsc 160 [], sQ 0 0 [dsc 160 []], by decide +kernel⟩,
   ⟨0, dsc 161 [(8, 0x5A5A)], sQ 0 0 [dsc 161 [(8, 0x5A5A)]], by decide +kernel⟩,
   ⟨0, dsc 161 [], sQ 0 0 [dsc 161 []], by decide +kernel⟩,
   ⟨0, dsc 162 [(8, 1)], sQ 0 0 [dsc 162 [(8, 1)]], by decide +kernel⟩,
   ⟨0, dsc 147 [(1, 4)], sQ 0 0 [dsc 147 [(1, 4)]], by decide +kernel⟩,
   ⟨0, dsc 154 [(8, 0xFFFFF)], sQ 0 0 [dsc 154 [(8, 0xFFFFF)]], by decide +kernel⟩⟩

theorem test_wit_descriptor_gates :
    (∃ (fn q : Nat) (x : DescState) (s : State), s.dev.ready? fn q 0x02 = some x ∧ s.dev.gated (.ring fn) (dCask x.dw) = true) ∧
    (∃ (fn q : Nat) (x : DescState) (s : State),
      let zeros := descZeros x.dw (mCask ++ mOffset ++ mLength ++ mHaddr)
      s.dev.ready? fn q 0x02 = some x ∧ s.dev.gated (.ring fn) (dCask x.dw) = false ∧ zeros = false) ∧
    (∃ (fn q : Nat) (x : DescState) (s : State),
      let zeros := descZeros x.dw (mCask ++ mOffset ++ mLength ++ mHaddr)
      s.dev.ready? fn q 0x02 = some x ∧ s.dev.gated (.ring fn) (dCask x.dw) = false ∧ zeros = true ∧ x.hostErr = true) ∧
    (∃ (fn q : Nat) (x : DescState) (s : State),
      let zeros := descZeros x.dw (mCask ++ mOffset ++ mLength ++ mHaddr)
      s.dev.ready? fn q 0x02 = some x ∧ s.dev.gated (.ring fn) (dCask x.dw) = false ∧ zeros = true ∧ x.hostErr = false ∧ sglOk x = false) ∧
    (∃ (fn q : Nat) (x : DescState) (s : State),
      let d := s.dev.startDesc fn q x
      let zeros := descZeros x.dw (mCask ++ mOffset ++ mLength ++ mHaddr)
      s.dev.ready? fn q 0x02 = some x ∧ s.dev.gated (.ring fn) (dCask x.dw) = false ∧ zeros = true ∧ x.hostErr = false ∧ sglOk x = true ∧
        d.descPoisoned fn q x.seq = true) ∧
    (∃ (fn q : Nat) (x : DescState) (s : State), s.dev.ready? fn q 0x02 = some x ∧ s.dev.gated (.ring fn) (dCask x.dw) = false ∧ s.dev.takes fn q 0x02
      x = true ∧ s.dev.rst.svcOpen = false) ∧
    (∃ (fn q : Nat) (x : DescState) (s : State), s.dev.ready? fn q 0x02 = some x ∧ s.dev.gated (.ring fn) (dCask x.dw) = false ∧ s.dev.takes fn q 0x02
      x = true ∧ s.dev.rst.svcOpen = true ∧ s.dev.placesWrites = false) ∧
    (∃ (fn q : Nat) (x : DescState) (s : State), q = 0 ∧ s.dev.takes fn q 0x93 x = true ∧ s.dev.isAdmin fn = false) ∧
    (∃ (fn q : Nat) (x : DescState) (s : State),
      let d := s.dev.startDesc fn q x
      q = 0 ∧ s.dev.ready? fn q 0x93 = some x ∧ descZeros x.dw (mCask ++ mHaddr) = true ∧ x.hostErr = false ∧ sglOk x = true ∧ d.descPoisoned fn 0
        x.seq = true) ∧
    (∃ (fn q : Nat) (x : DescState) (s : State), q = 0 ∧ s.dev.takes fn q 0x84 x = true ∧ s.dev.isAdmin fn = false ∧ s.dev.rst.svcOpen = false) :=
  ⟨⟨0, 1, dsc 2 [(1, 4)], st { withQ dOn 0 1 [dsc 2 [(1, 4)]] with csk := { dOn.csk with jobs := [job1] } }, by decide +kernel⟩,
   ⟨0, 1, dsc 2 [(15, 1)], sQ 0 1 [dsc 2 [(15, 1)]], by decide +kernel⟩,
   ⟨0, 1, { dsc 2 [] with hostErr := true }, sQ 0 1 [{ dsc 2 [] with hostErr := true }], by decide +kernel⟩,
   ⟨0, 1, dsc 2 [(5, 0x80000001)], sQ 0 1 [dsc 2 [(5, 0x80000001)]], by decide +kernel⟩,
   ⟨0, 1, dsc 2 [], st ((withQ dOn 0 1 [dsc 2 []]).setQueue 7 { qm1 with pkts := [{ pkt1 with tok := .desc 0 1 0, poison := true }] }),
     by decide +kernel⟩,
   ⟨0, 1, dsc 2 [], st (withQ dShut 0 1 [dsc 2 []]), by decide +kernel⟩,
   ⟨0, 1, dsc 2 [], st (stby (withQ dOn 0 1 [dsc 2 []])), by decide +kernel⟩,
   ⟨1, 0, dsc 147 [], sQ 1 0 [dsc 147 []], by decide +kernel⟩,
   ⟨0, 0, dsc 147 [], st ((withQ dOn 0 0 [dsc 147 []]).setQueue 7 { qm1 with pkts := [{ pkt1 with tok := .desc 0 0 0, poison := true }] }),
     by decide +kernel⟩,
   ⟨1, 0, dsc 132 [], st (withQ dShut 1 0 [dsc 132 []]), by decide +kernel⟩⟩

theorem test_wit_data_descriptors :
    (∃ (fn q : Nat) (x : DescState) (s : State), q ≠ 0 ∧ s.dev.takes fn q 0x00 x = true ∧ s.dev.rst.svcOpen = true) ∧
    (∃ (fn q : Nat) (x : DescState) (s : State), s.dev.takesFn fn 0x00 x = true ∧ q = 0) ∧
    (∃ (fn q : Nat) (x : DescState) (s : State), s.dev.takesIo fn q 0x01 x = true) ∧
    (∃ (fn q : Nat) (x : DescState) (s : State), s.dev.takesIo fn q 0x02 x = true) ∧
    (∃ (fn q : Nat) (x : DescState) (s : State), s.dev.takesIo fn q 0x03 x = true) ∧
    (∃ (fn q : Nat) (x : DescState) (s : State), s.dev.takesIo fn q 0x04 x = true ∧ dOffset x.dw % 8 = 0) ∧
    (∃ (fn q : Nat) (x : DescState) (s : State), s.dev.takesIo fn q 0x04 x = true ∧ dOffset x.dw % 8 ≠ 0) ∧
    (∃ (fn q : Nat) (x : DescState) (s : State), s.dev.takesIo fn q 0x05 x = true ∧ dOffset x.dw % 16 = 0) ∧
    (∃ (fn q : Nat) (x : DescState) (s : State), s.dev.takesIo fn q 0x05 x = true ∧ dOffset x.dw % 16 ≠ 0) ∧
    (∃ (fn q : Nat) (x : DescState) (s : State), s.dev.takesIo fn q 0x06 x = true ∧ dOffset x.dw % 8 = 0) ∧
    (∃ (fn q : Nat) (x : DescState) (s : State), s.dev.takesIo fn q 0x06 x = true ∧ dOffset x.dw % 8 ≠ 0) ∧
    (∃ (fn q : Nat) (x : DescState) (s : State), s.dev.takesIo fn q 0x07 x = true) ∧
    (∃ (fn q : Nat) (x : DescState) (s : State), s.dev.takesIo fn q 0x08 x = true) ∧
    (∃ (fn q : Nat) (s : State) (seq : Nat) (f : Fence), (s.dev.pst.fences.find? (fun f => f.tok == .desc fn q seq) = some f)) :=
  ⟨⟨0, 1, dsc 0 [], sQ 0 1 [dsc 0 []], by decide +kernel⟩,
   ⟨0, 0, dsc 0 [], sQ 0 0 [dsc 0 []], by decide +kernel⟩,
   ⟨0, 1, dsc 1 [(4, 1)], sQ 0 1 [dsc 1 [(4, 1)]], by decide +kernel⟩,
   ⟨0, 1, dsc 2 [(4, 1)], sQ 0 1 [dsc 2 [(4, 1)]], by decide +kernel⟩,
   ⟨0, 1, dsc 3 [(4, 1)], sQ 0 1 [dsc 3 [(4, 1)]], by decide +kernel⟩,
   ⟨0, 1, dsc 4 [(2, 8)], sQ 0 1 [dsc 4 [(2, 8)]], by decide +kernel⟩,
   ⟨0, 1, dsc 4 [(2, 7)], sQ 0 1 [dsc 4 [(2, 7)]], by decide +kernel⟩,
   ⟨0, 1, dsc 5 [(2, 16)], sQ 0 1 [dsc 5 [(2, 16)]], by decide +kernel⟩,
   ⟨0, 1, dsc 5 [(2, 8)], sQ 0 1 [dsc 5 [(2, 8)]], by decide +kernel⟩,
   ⟨0, 1, dsc 6 [(2, 8)], sQ 0 1 [dsc 6 [(2, 8)]], by decide +kernel⟩,
   ⟨0, 1, dsc 6 [(2, 1)], sQ 0 1 [dsc 6 [(2, 1)]], by decide +kernel⟩,
   ⟨0, 1, dsc 7 [], sQ 0 1 [dsc 7 []], by decide +kernel⟩,
   ⟨0, 1, dsc 8 [(4, 1)], sQ 0 1 [dsc 8 [(4, 1)]], by decide +kernel⟩,
   ⟨0, 1, st dFence, 0, fence1, by decide +kernel⟩⟩

theorem test_wit_fence_scope_and_wait_counts :
    (∃ (d : Device) (fn q : Nat) (x : DescState) (sq : Sq), dFlag x.dw 10 = false ∧ AMap.sorted d.hrg.sqs = true ∧ q < 256 ∧ d.sq? fn q = some sq) ∧
    (∃ (d : Device) (fn q p : Nat) (x : DescState) (sq : Sq), dFlag x.dw 10 = false ∧ AMap.sorted d.hrg.sqs = true ∧ p < 256 ∧ p ≠ q ∧ d.sq? fn p =
      some sq) ∧
    (∃ (fn q : Nat) (x : DescState) (s : State), s.dev.takes fn q 0x0A x = true ∧ s.dev.rst.svcOpen = true ∧
      let d := s.dev.takenDesc fn q x
      (dwF x.dw 8 7 0 = q ∨ d.sq? fn (dwF x.dw 8 7 0) = none)) ∧
    (∃ (fn q : Nat) (x : DescState) (s : State), s.dev.takes fn q 0x0A x = true ∧ s.dev.rst.svcOpen = true ∧
      let d := s.dev.takenDesc fn q x
      ∃ t, dwF x.dw 8 7 0 ≠ q ∧ d.sq? fn (dwF x.dw 8 7 0) = some t ∧ (t.count + 4294967296 - (dwAt x.dw 9).toNat) % 4294967296 < 2147483648) ∧
    (∃ (fn q : Nat) (x : DescState) (s : State), s.dev.takes fn q 0x0A x = true ∧ s.dev.rst.svcOpen = true ∧
      let d := s.dev.takenDesc fn q x
      ∃ t, dwF x.dw 8 7 0 ≠ q ∧ d.sq? fn (dwF x.dw 8 7 0) = some t ∧ 2147483648 ≤ (t.count + 4294967296 - (dwAt x.dw 9).toNat) % 4294967296) ∧
    (∃ (fn q : Nat) (x : DescState) (s : State), ∃ t, s.dev.waitingOn fn q = some x ∧ s.dev.sq? fn (dwF x.dw 8 7 0) = some t ∧ (t.count + 4294967296 -
      (dwAt x.dw 9).toNat) % 4294967296 < 2147483648) ∧
    (∃ (fn q : Nat) (x : DescState) (s : State), ∃ t, s.dev.waitingOn fn q = some x ∧ s.dev.sq? fn (dwF x.dw 8 7 0) = some t ∧ 2147483648 ≤ (t.count +
      4294967296 - (dwAt x.dw 9).toNat) % 4294967296 ∧ dwF x.dw 10 15 0 ≠ 0) :=
  ⟨⟨withQ dOn 0 1 [run (dsc 2 []), { dsc 7 [] with seq := 1 }], 0, 1, { dsc 7 [] with seq := 1 }, sqOf [run (dsc 2 []), { dsc 7 [] with seq := 1 }],
     by decide +kernel⟩,
   ⟨(withQ dOn 0 1 [{ dsc 7 [] with fetchNo := 1 }]).putSq 0 2 (sqOf [run (dsc 2 [])]), 0, 1, 2, { dsc 0x107 [] with fetchNo := 1 }, sqOf [run (dsc 2
     [])], by decide +kernel⟩,
   ⟨0, 1, dsc 10 [(8, 1)], sQ 0 1 [dsc 10 [(8, 1)]], by decide +kernel⟩,
   ⟨0, 1, dsc 10 [(8, 2)], st ((withQ dOn 0 1 [dsc 10 [(8, 2)]]).putSq 0 2 (sqOf [])), by decide +kernel, by decide +kernel, sqOf [],
     by decide +kernel⟩,
   ⟨0, 1, dsc 10 [(8, 2), (9, 1)], st ((withQ dOn 0 1 [dsc 10 [(8, 2), (9, 1)]]).putSq 0 2 (sqOf [])), by decide +kernel, by decide +kernel, sqOf [],
     by decide +kernel⟩,
   ⟨0, 1, run (dsc 10 [(8, 2)]), st ((withQ dOn 0 1 [run (dsc 10 [(8, 2)])]).putSq 0 2 (sqOf [])), sqOf [], by decide +kernel⟩,
   ⟨0, 1, run (dsc 10 [(8, 2), (9, 1), (10, 5)]), st ((withQ dOn 0 1 [run (dsc 10 [(8, 2), (9, 1), (10, 5)])]).putSq 0 2 (sqOf [])), sqOf [],
     by decide +kernel⟩⟩

theorem test_wit_streams :
    (∃ (fn q : Nat) (x : DescState) (s : State),
      let d := s.dev.takenDesc fn q x
      s.dev.takesIo fn q 0x18 x = true ∧ ∃ e, d.checks (.ring fn) .read (dCask x.dw) (dOffset x.dw / 65536 * 65536) 1 = none ∧ d.csk.casks.find?
        (dCask x.dw) = some e ∧ e.place ≠ .streamed) ∧
    (∃ (fn q : Nat) (x : DescState) (s : State),
      let d := s.dev.takenDesc fn q x
      s.dev.takesIo fn q 0x18 x = true ∧ ∃ e, d.checks (.ring fn) .read (dCask x.dw) (dOffset x.dw / 65536 * 65536) 1 = none ∧ d.csk.casks.find?
        (dCask x.dw) = some e ∧ e.place = .streamed ∧ 16384 ≤ d.csk.streams.length) ∧
    (∃ (fn q : Nat) (x : DescState) (s : State),
      let d := s.dev.takenDesc fn q x
      s.dev.takesIo fn q 0x18 x = true ∧ ∃ e, d.checks (.ring fn) .read (dCask x.dw) (dOffset x.dw / 65536 * 65536) 1 = none ∧ d.csk.casks.find?
        (dCask x.dw) = some e ∧ e.place = .streamed ∧ d.csk.streams.length < 16384) ∧
    (∃ (fn q : Nat) (x : DescState) (s : State),
      let d := s.dev.takenDesc fn q x
      s.dev.takesIo fn q 0x18 x = true ∧ ∃ st, d.checks (.ring fn) .read (dCask x.dw) (dOffset x.dw / 65536 * 65536) 1 = some st) ∧
    (∃ (fn q : Nat) (x : DescState) (s : State),
      let d := s.dev.takenDesc fn q x
      s.dev.takesIo fn q 0x19 x = true ∧ ∃ st, d.streamFor fn q (dwF x.dw 8 13 0) = .ok st ∧ st.pos ≤ dOffset x.dw / 65536 ∧ dOffset x.dw < 2 ^ 52) ∧
    (∃ (fn q : Nat) (x : DescState) (s : State),
      let d := s.dev.takenDesc fn q x
      s.dev.takesIo fn q 0x19 x = true ∧ ∃ st, d.streamFor fn q (dwF x.dw 8 13 0) = .ok st ∧ (dOffset x.dw / 65536 < st.pos ∨ 2 ^ 52 ≤ dOffset x.dw)) ∧
    (∃ (fn q : Nat) (x : DescState) (s : State),
      let d := s.dev.takenDesc fn q x
      s.dev.takesIo fn q 0x19 x = true ∧ ∃ st, d.csk.streams.find? (dwF x.dw 8 13 0) = some st ∧ (st.fn ≠ fn ∨ st.q ≠ q)) ∧
    (∃ (fn q : Nat) (x : DescState) (s : State),
      let d := s.dev.takenDesc fn q x
      s.dev.takesIo fn q 0x1A x = true ∧ ∃ st, d.streamFor fn q (dwF x.dw 8 13 0) = .ok st) ∧
    (∃ (fn q : Nat) (x : DescState) (s : State),
      let d := s.dev.takenDesc fn q x
      s.dev.takesIo fn q 0x1A x = true ∧ d.csk.streams.find? (dwF x.dw 8 13 0) = none ∧ d.csk.closedStreams.contains (fn, q, dwF x.dw 8 13 0) = true) :=
  ⟨⟨0, 1, dsc 24 [(1, 4)], st (withCask (withQ dOn 0 1 [dsc 24 [(1, 4)]])), by decide +kernel, ce, by decide +kernel⟩,
   ⟨0, 1, dsc 24 [(1, 4)], st (manyStreams (withCask (withQ dOn 0 1 [dsc 24 [(1, 4)]]) ceS)), by decide +kernel, ceS, by decide +kernel⟩,
   ⟨0, 1, dsc 24 [(1, 4)], st (withCask (withQ dOn 0 1 [dsc 24 [(1, 4)]]) ceS), by decide +kernel, ceS, by decide +kernel⟩,
   ⟨0, 1, dsc 24 [(1, 4)], st (withQ dOn 0 1 [dsc 24 [(1, 4)]]), by decide +kernel, stProt, by decide +kernel⟩,
   ⟨0, 1, dsc 25 [(8, 3)], st (withStream (withCask (withQ dOn 0 1 [dsc 25 [(8, 3)]]) ceS) { strm with pos := 0 }), by decide +kernel,
     { strm with pos := 0 }, rfl, by decide +kernel, by decide +kernel⟩,
   ⟨0, 1, dsc 25 [(8, 3)], st (withStream (withCask (withQ dOn 0 1 [dsc 25 [(8, 3)]]) ceS) strm), by decide +kernel, strm, rfl, by decide +kernel⟩,
   ⟨0, 1, dsc 25 [(8, 3)], st (withStream (withCask (withQ dOn 0 1 [dsc 25 [(8, 3)]]) ceS) { strm with q := 2 }), by decide +kernel,
     { strm with q := 2 }, by decide +kernel⟩,
   ⟨0, 1, dsc 26 [(8, 3)], st (withStream (withCask (withQ dOn 0 1 [dsc 26 [(8, 3)]]) ceS) strm), by decide +kernel, strm, rfl⟩,
   ⟨0, 1, dsc 26 [(8, 3)], st { withQ dOn 0 1 [dsc 26 [(8, 3)]] with csk := { dOn.csk with closedStreams := [(0, 1, 3)] } }, by decide +kernel⟩⟩

theorem test_wit_cask_commands :
    (∃ (fn : Nat) (x : DescState) (s : State),
      let d := s.dev.takenDesc fn 0 x
      s.dev.takesCask fn 0x90 x = true ∧ ((d.csk.casks.find? (dCask x.dw)).isSome ∨ caskFieldsOk x.dw = false)) ∧
    (∃ (fn : Nat) (x : DescState) (s : State),
      let d := s.dev.takenDesc fn 0 x
      s.dev.takesCask fn 0x90 x = true ∧
      let keyOk := dwF x.dw 9 11 0 = 0 ∨ (d.keyLoaded (dwF x.dw 9 11 0)).any (fun k => k.persist && natBit k.use 3) = true
      d.csk.casks.find? (dCask x.dw) = none ∧ caskFieldsOk x.dw = true ∧ ¬ keyOk) ∧
    (∃ (fn : Nat) (x : DescState) (s : State),
      let d := s.dev.takenDesc fn 0 x
      s.dev.takesCask fn 0x90 x = true ∧
      let e := caskOf x.dw fn 0
      let keyOk := dwF x.dw 9 11 0 = 0 ∨ (d.keyLoaded (dwF x.dw 9 11 0)).any (fun k => k.persist && natBit k.use 3) = true
      d.csk.casks.find? (dCask x.dw) = none ∧ caskFieldsOk x.dw = true ∧ keyOk ∧ d.spaceOk none e = false) ∧
    (∃ (fn : Nat) (x : DescState) (s : State),
      let d := s.dev.takenDesc fn 0 x
      s.dev.takesCask fn 0x90 x = true ∧
      let e := caskOf x.dw fn 0
      let keyOk := dwF x.dw 9 11 0 = 0 ∨ (d.keyLoaded (dwF x.dw 9 11 0)).any (fun k => k.persist && natBit k.use 3) = true
      d.csk.casks.find? (dCask x.dw) = none ∧ caskFieldsOk x.dw = true ∧ keyOk ∧ d.spaceOk none e = true) ∧
    (∃ (fn : Nat) (x : DescState) (s : State),
      let d := s.dev.takenDesc fn 0 x
      s.dev.takesCask fn 0x91 x = true ∧ d.csk.casks.find? (dCask x.dw) = none) ∧
    (∃ (fn : Nat) (x : DescState) (s : State),
      let d := s.dev.takenDesc fn 0 x
      s.dev.takesCask fn 0x91 x = true ∧ ∃ old, d.csk.casks.find? (dCask x.dw) = some old ∧
      let m := (dwAt x.dw 14).toNat
      natBit m 11 = true) ∧
    (∃ (fn : Nat) (x : DescState) (s : State),
      let d := s.dev.takenDesc fn 0 x
      s.dev.takesCask fn 0x91 x = true ∧ ∃ old, d.csk.casks.find? (dCask x.dw) = some old ∧
      let m := (dwAt x.dw 14).toNat
      let badField := (natBit m 1 = true ∧ dwF x.dw 8 25 24 = 3) ∨ (natBit m 8 = true ∧ dwF x.dw 9 19 12 = 0)
      natBit m 11 = false ∧ badField) ∧
    (∃ (fn : Nat) (x : DescState) (s : State),
      let d := s.dev.takenDesc fn 0 x
      s.dev.takesCask fn 0x91 x = true ∧ ∃ old, d.csk.casks.find? (dCask x.dw) = some old ∧
      let m := (dwAt x.dw 14).toNat
      let e := caskMerge old (caskOf x.dw old.owner old.rtPtr) m
      let badField := (natBit m 1 = true ∧ dwF x.dw 8 25 24 = 3) ∨ (natBit m 8 = true ∧ dwF x.dw 9 19 12 = 0)
      natBit m 11 = false ∧ ¬ badField ∧ d.spaceOk (some old) e = false) ∧
    (∃ (fn : Nat) (x : DescState) (s : State),
      let d := s.dev.takenDesc fn 0 x
      s.dev.takesCask fn 0x91 x = true ∧ ∃ old, d.csk.casks.find? (dCask x.dw) = some old ∧
      let m := (dwAt x.dw 14).toNat
      let e := caskMerge old (caskOf x.dw old.owner old.rtPtr) m
      let badField := (natBit m 1 = true ∧ dwF x.dw 8 25 24 = 3) ∨ (natBit m 8 = true ∧ dwF x.dw 9 19 12 = 0)
      natBit m 11 = false ∧ ¬ badField ∧ d.spaceOk (some old) e = true) ∧
    (∃ (fn : Nat) (x : DescState) (s : State),
      let d := s.dev.takenDesc fn 0 x
      s.dev.takesCask fn 0x92 x = true ∧ d.csk.casks.find? (dCask x.dw) = none) ∧
    (∃ (fn : Nat) (x : DescState) (s : State),
      let d := s.dev.takenDesc fn 0 x
      s.dev.takesCask fn 0x92 x = true ∧ (d.csk.casks.find? (dCask x.dw)).isSome) ∧
    (∃ (fn : Nat) (x : DescState) (s : State),
      let d := s.dev.takenDesc fn 0 x
      s.dev.takesCask fn 0x98 x = true ∧ d.freeSlot = none) ∧
    (∃ (fn : Nat) (x : DescState) (s : State),
      let d := s.dev.takenDesc fn 0 x
      s.dev.takesCask fn 0x98 x = true ∧ ∃ slot, d.freeSlot = some slot ∧
      let g := grantOf x.dw fn (((d.grant slot).gen + 1) % 4096)
      d.csk.casks.find? g.cask = none) ∧
    (∃ (fn : Nat) (x : DescState) (s : State),
      let d := s.dev.takenDesc fn 0 x
      s.dev.takesCask fn 0x98 x = true ∧ ∃ slot, d.freeSlot = some slot ∧
      let g := grantOf x.dw fn (((d.grant slot).gen + 1) % 4096)
      ∃ e, d.csk.casks.find? g.cask = some e ∧ g.bind = 3) ∧
    (∃ (fn : Nat) (x : DescState) (s : State),
      let d := s.dev.takenDesc fn 0 x
      s.dev.takesCask fn 0x98 x = true ∧ ∃ slot, d.freeSlot = some slot ∧
      let g := grantOf x.dw fn (((d.grant slot).gen + 1) % 4096)
      ∃ e, d.csk.casks.find? g.cask = some e ∧
      let rights := e.grantable = true ∧ (g.rd = false ∨ e.rd = true) ∧ (g.wr = false ∨ e.wr = true) ∧ (g.atom = false ∨ e.atom = true)
      g.bind ≠ 3 ∧ ¬ rights) ∧
    (∃ (fn : Nat) (x : DescState) (s : State),
      let d := s.dev.takenDesc fn 0 x
      s.dev.takesCask fn 0x98 x = true ∧ ∃ slot, d.freeSlot = some slot ∧
      let g := grantOf x.dw fn (((d.grant slot).gen + 1) % 4096)
      ∃ e, d.csk.casks.find? g.cask = some e ∧
      let rights := e.grantable = true ∧ (g.rd = false ∨ e.rd = true) ∧ (g.wr = false ∨ e.wr = true) ∧ (g.atom = false ∨ e.atom = true)
      let inside := g.len ≠ 0 ∧ g.base + g.len ≤ e.size * 65536
      g.bind ≠ 3 ∧ rights ∧ ¬ inside) ∧
    (∃ (fn : Nat) (x : DescState) (s : State),
      let d := s.dev.takenDesc fn 0 x
      s.dev.takesCask fn 0x98 x = true ∧ ∃ slot, d.freeSlot = some slot ∧
      let g := grantOf x.dw fn (((d.grant slot).gen + 1) % 4096)
      ∃ e, d.csk.casks.find? g.cask = some e ∧
      let rights := e.grantable = true ∧ (g.rd = false ∨ e.rd = true) ∧ (g.wr = false ∨ e.wr = true) ∧ (g.atom = false ∨ e.atom = true)
      let inside := g.len ≠ 0 ∧ g.base + g.len ≤ e.size * 65536
      g.bind ≠ 3 ∧ rights ∧ inside) ∧
    (∃ (fn : Nat) (x : DescState) (s : State),
      let d := s.dev.takenDesc fn 0 x
      s.dev.takesCask fn 0x99 x = true ∧
      let h := (dwAt x.dw 8).toNat
      let g := d.grant (h % 1048576)
      (g.gen ≠ h / 1048576 ∨ g.state ≠ .live)) ∧
    (∃ (fn : Nat) (x : DescState) (s : State),
      let d := s.dev.takenDesc fn 0 x
      s.dev.takesCask fn 0x99 x = true ∧
      let h := (dwAt x.dw 8).toNat
      let g := d.grant (h % 1048576)
      g.gen = h / 1048576 ∧ g.state = .live) ∧
    (∃ (s : State), s.dev.csk.jobs ≠ []) ∧
    (∃ (fn : Nat) (s : State), s.dev.caskTurn fn 0x92 = false) :=
  ⟨⟨0, dCreate 1, sC (dCreate 1), by decide +kernel⟩,
   ⟨0, dsc 144 [(1, 4), (8, 0x80F0000), (9, 0x1001), (10, 1)], sC (dsc 144 [(1, 4), (8, 0x80F0000), (9, 0x1001), (10, 1)]) false, by decide +kernel⟩,
   ⟨0, dCreate 101, sC (dCreate 101) false, by decide +kernel⟩,
   ⟨0, dCreate 100, sC (dCreate 100) false, by decide +kernel⟩,
   ⟨0, dModify 1 0, sC (dModify 1 0) false, by decide +kernel⟩,
   ⟨0, dModify 1 0x800, sC (dModify 1 0x800), by decide +kernel, ce, by decide +kernel⟩,
   ⟨0, dsc 145 [(1, 4), (8, 0x3000000), (14, 2)], sC (dsc 145 [(1, 4), (8, 0x3000000), (14, 2)]), by decide +kernel, ce, by decide +kernel⟩,
   ⟨0, dModify 101 0x200, sC (dModify 101 0x200), by decide +kernel, ce, by decide +kernel⟩,
   ⟨0, dModify 100 0x700, sC (dModify 100 0x700), by decide +kernel, ce, by decide +kernel⟩,
   ⟨0, dsc 146 [(1, 4)], sC (dsc 146 [(1, 4)]) false, by decide +kernel⟩,
   ⟨0, dsc 146 [(1, 4)], sC (dsc 146 [(1, 4)]), by decide +kernel⟩,
   ⟨0, dIssue, withFresh (sC dIssue) 1048576, by decide +kernel⟩,
   ⟨0, dIssue, withFresh (sC dIssue false) 1048575, by decide +kernel, 1048575, by decide +kernel⟩,
   ⟨0, dsc 152 [(8, 0x4C00000), (9, 4), (14, 1)], withFresh (sC (dsc 152 [(8, 0x4C00000), (9, 4), (14, 1)])) 1048575, by decide +kernel, 1048575,
     by decide +kernel, ce, by decide +kernel⟩,
   ⟨0, dIssue, withFresh (st (withCask (withQ dCap 0 0 [dIssue]) { ce with rd := false })) 1048575, by decide +kernel, 1048575, by decide +kernel,
     { ce with rd := false }, by decide +kernel⟩,
   ⟨0, dsc 152 [(8, 0x4000000), (9, 4), (14, 0x100001)], withFresh (sC (dsc 152 [(8, 0x4000000), (9, 4), (14, 0x100001)])) 1048575, by decide +kernel,
     1048575, by decide +kernel, ce, by decide +kernel⟩,
   ⟨0, dIssue, withFresh (sC dIssue) 1048575, by decide +kernel, 1048575, by decide +kernel, ce, by decide +kernel⟩,
   ⟨0, dsc 153 [], sC (dsc 153 []), by decide +kernel⟩,
   ⟨0, dsc 153 [(8, 0x100000)], st (withGrant (sC (dsc 153 [(8, 0x100000)])).dev), by decide +kernel⟩,
   ⟨st { dCap with csk := { dCap.csk with jobs := [job1] } }, by decide +kernel⟩,
   ⟨1, st (withQ (withQ { dCap with hrg := { dCap.hrg with links := [(0, { up := true, vfEn := false, numVfs := 0 })] } } 0 0 [dsc 144 []]) 1 0
     [{ dsc 146 [(1, 4)] with fetchNo := 1 }]), by decide +kernel⟩⟩

theorem test_wit_metadata_commits :
    (∃ (d : Device) (id : Nat), d.csk.casks.find? id = none) ∧
    (∃ (d : Device) (id : Nat), ∃ old, d.csk.casks.find? id = some old) ∧
    (∃ (id : Nat), ∃ i, i ≠ id) ∧
    (∃ (d : Device) (id : Nat) (old : CaskEntry), d.csk.casks.find? id = some old) ∧
    (∃ (d : Device) (id m : Nat) (old : CaskEntry), d.csk.casks.find? id = some old ∧ natBit m 9 = false) ∧
    (∃ (d : Device) (id : Nat), AMap.sorted d.csk.casks = true ∧ AMap.sorted d.csk.grants = true ∧ ∃ (st : Nat × Machine.Stream), st ∈ (d.commitMeta
      (.caskDelete id)).csk.streams) ∧
    (∃ (d : Device) (id : Nat), AMap.sorted d.csk.casks = true ∧ AMap.sorted d.csk.grants = true ∧ ∃ slot, (d.grant slot).cask = id ∧ (d.grant
      slot).state = .live) :=
  ⟨⟨dOn, 4, by decide +kernel⟩,
   ⟨withCask dOn, 4, ce, by decide +kernel⟩,
   ⟨4, 5, by decide +kernel⟩,
   ⟨withCask dOn, 4, ce, by decide +kernel⟩,
   ⟨withCask dOn, 4, 1, ce, by decide +kernel⟩,
   ⟨withStream (withCask dOn) { strm with cask := 5 }, 4, by decide +kernel, by decide +kernel, (3, { strm with cask := 5 }), by decide +kernel⟩,
   ⟨withGrant (withCask dOn), 4, by decide +kernel, by decide +kernel, 0, by decide +kernel⟩⟩

theorem test_wit_request_checks :
    (∃ (off len : Nat), (2 ^ 52 ≤ off ∨ len = 0 ∨ 2 ^ 52 < off + len)) ∧
    (∃ (d : Device) (cask off len : Nat), off < 2 ^ 52 ∧ len ≠ 0 ∧ off + len ≤ 2 ^ 52 ∧ d.csk.casks.find? cask = none) ∧
    (∃ (d : Device) (fn : Nat) (cask off len : Nat), off < 2 ^ 52 ∧ len ≠ 0 ∧ off + len ≤ 2 ^ 52 ∧ ∃ e, d.csk.casks.find? cask = some e ∧ d.fld
      Fld.HRG_FN_CFG_PDOM fn ≠ e.pdom) ∧
    (∃ (d : Device) (fn : Nat) (acc : Access) (cask off len : Nat), off < 2 ^ 52 ∧ len ≠ 0 ∧ off + len ≤ 2 ^ 52 ∧ ∃ e, d.csk.casks.find? cask = some e
      ∧ d.fld Fld.HRG_FN_CFG_PDOM fn = e.pdom ∧ (match acc with | .read => e.rd | .write => e.wr | .atomic => e.atom) = false) ∧
    (∃ (d : Device) (fn : Nat) (acc : Access) (cask off len : Nat), off < 2 ^ 52 ∧ len ≠ 0 ∧ off + len ≤ 2 ^ 52 ∧ ∃ e, d.csk.casks.find? cask = some e
      ∧ d.fld Fld.HRG_FN_CFG_PDOM fn = e.pdom ∧ (match acc with | .read => e.rd | .write => e.wr | .atomic => e.atom) = true) ∧
    (∃ (d : Device) (p : Path) (h : Nat) (off len : Nat), off < 2 ^ 52 ∧ len ≠ 0 ∧ off + len ≤ 2 ^ 52 ∧
      let g := d.grant (h % 1048576)
      let live := g.state = .live ∧ g.gen = h / 1048576 % 4096
      ((∃ q, p = .roce h q) ∨ ∃ e gcm, p = .pdt h e gcm) ∧ ¬live) ∧
    (∃ (d : Device) (p : Path) (h : Nat) (acc : Access) (off len : Nat), off < 2 ^ 52 ∧ len ≠ 0 ∧ off + len ≤ 2 ^ 52 ∧
      let g := d.grant (h % 1048576)
      let live := g.state = .live ∧ g.gen = h / 1048576 % 4096
      let may := match acc with | .read => g.rd | .write => g.wr | .atomic => g.atom
      let fits := match p with | .roce _ q => g.roceOk && (g.bind == 0 || (g.bind == 1 && g.bindId == q)) && !g.gcmReq | .pdt _ e gcm => g.pdtOk &&
        (g.bind == 0 || (g.bind == 2 && g.bindId == e)) && (!g.gcmReq || gcm) && (!gcm || d.slotPermits g.gcmSlot 1) | _ => false
      ((∃ q, p = .roce h q) ∨ ∃ e gcm, p = .pdt h e gcm) ∧ live ∧ (fits = false ∨ may = false)) ∧
    (∃ (d : Device) (p : Path) (h : Nat) (acc : Access) (off len : Nat), off < 2 ^ 52 ∧ len ≠ 0 ∧ off + len ≤ 2 ^ 52 ∧
      let g := d.grant (h % 1048576)
      let live := g.state = .live ∧ g.gen = h / 1048576 % 4096
      let may := match acc with | .read => g.rd | .write => g.wr | .atomic => g.atom
      let fits := match p with | .roce _ q => g.roceOk && (g.bind == 0 || (g.bind == 1 && g.bindId == q)) && !g.gcmReq | .pdt _ e gcm => g.pdtOk &&
        (g.bind == 0 || (g.bind == 2 && g.bindId == e)) && (!g.gcmReq || gcm) && (!gcm || d.slotPermits g.gcmSlot 1) | _ => false
      ((∃ q, p = .roce h q) ∨ ∃ e gcm, p = .pdt h e gcm) ∧ live ∧ fits = true ∧ may = true ∧ (off < g.base ∨ g.base + g.len < off + len)) ∧
    (∃ (d : Device) (p : Path) (h : Nat) (acc : Access) (off len : Nat), off < 2 ^ 52 ∧ len ≠ 0 ∧ off + len ≤ 2 ^ 52 ∧
      let g := d.grant (h % 1048576)
      let live := g.state = .live ∧ g.gen = h / 1048576 % 4096
      let may := match acc with | .read => g.rd | .write => g.wr | .atomic => g.atom
      let fits := match p with | .roce _ q => g.roceOk && (g.bind == 0 || (g.bind == 1 && g.bindId == q)) && !g.gcmReq | .pdt _ e gcm => g.pdtOk &&
        (g.bind == 0 || (g.bind == 2 && g.bindId == e)) && (!g.gcmReq || gcm) && (!gcm || d.slotPermits g.gcmSlot 1) | _ => false
      ((∃ q, p = .roce h q) ∨ ∃ e gcm, p = .pdt h e gcm) ∧ live ∧ fits = true ∧ may = true ∧ g.base ≤ off ∧ off + len ≤ g.base + g.len ∧
        d.csk.casks.find? g.cask = none) ∧
    (∃ (d : Device) (p : Path) (h : Nat) (acc : Access) (off len : Nat), off < 2 ^ 52 ∧ len ≠ 0 ∧ off + len ≤ 2 ^ 52 ∧
      let g := d.grant (h % 1048576)
      let live := g.state = .live ∧ g.gen = h / 1048576 % 4096
      let may := match acc with | .read => g.rd | .write => g.wr | .atomic => g.atom
      let fits := match p with | .roce _ q => g.roceOk && (g.bind == 0 || (g.bind == 1 && g.bindId == q)) && !g.gcmReq | .pdt _ e gcm => g.pdtOk &&
        (g.bind == 0 || (g.bind == 2 && g.bindId == e)) && (!g.gcmReq || gcm) && (!gcm || d.slotPermits g.gcmSlot 1) | _ => false
      ((∃ q, p = .roce h q) ∨ ∃ e gcm, p = .pdt h e gcm) ∧ live ∧ fits = true ∧ may = true ∧ g.base ≤ off ∧ off + len ≤ g.base + g.len ∧ ∃ c,
        d.csk.casks.find? g.cask = some c ∧
      let right := match acc with | .read => c.rd | .write => c.wr | .atomic => c.atom
      right = false) ∧
    (∃ (d : Device) (p : Path) (h : Nat) (acc : Access) (off len : Nat), off < 2 ^ 52 ∧ len ≠ 0 ∧ off + len ≤ 2 ^ 52 ∧
      let g := d.grant (h % 1048576)
      let live := g.state = .live ∧ g.gen = h / 1048576 % 4096
      let may := match acc with | .read => g.rd | .write => g.wr | .atomic => g.atom
      let fits := match p with | .roce _ q => g.roceOk && (g.bind == 0 || (g.bind == 1 && g.bindId == q)) && !g.gcmReq | .pdt _ e gcm => g.pdtOk &&
        (g.bind == 0 || (g.bind == 2 && g.bindId == e)) && (!g.gcmReq || gcm) && (!gcm || d.slotPermits g.gcmSlot 1) | _ => false
      ((∃ q, p = .roce h q) ∨ ∃ e gcm, p = .pdt h e gcm) ∧ live ∧ fits = true ∧ may = true ∧ g.base ≤ off ∧ off + len ≤ g.base + g.len ∧ ∃ c,
        d.csk.casks.find? g.cask = some c ∧
      let right := match acc with | .read => c.rd | .write => c.wr | .atomic => c.atom
      right = true) :=
  ⟨⟨4503599627370495, 2, by decide +kernel⟩,
   ⟨dOn, 4, 4503599627370495, 1, by decide +kernel⟩,
   ⟨withCask dOn { ce with pdom := 1 }, 0, 4, 0, 1, by decide +kernel, by decide +kernel, by decide +kernel, { ce with pdom := 1 }, by decide +kernel⟩,
   ⟨withCask dOn { ce with wr := false }, 0, .write, 4, 0, 1, by decide +kernel, by decide +kernel, by decide +kernel, { ce with wr := false },
     by decide +kernel⟩,
   ⟨withCask dOn, 0, .write, 4, 1048575, 2, by decide +kernel, by decide +kernel, by decide +kernel, ce, by decide +kernel⟩,
   ⟨withGrant dOn, .roce 0x200000 0, 0x200000, 0, 1, by decide +kernel, by decide +kernel, by decide +kernel, .inl ⟨0, rfl⟩, by decide +kernel⟩,
   ⟨withGrant dOn { gr with roceOk := false }, .roce 0x100000 0, 0x100000, .read, 0, 1, by decide +kernel, by decide +kernel, by decide +kernel,
     .inl ⟨0, rfl⟩, by decide +kernel, by decide +kernel⟩,
   ⟨withGrant dOn, .pdt 0x100000 0 false, 0x100000, .write, 65535, 2, by decide +kernel, by decide +kernel, by decide +kernel, .inr ⟨0, false, rfl⟩,
     by decide +kernel, by decide +kernel, by decide +kernel, by decide +kernel⟩,
   ⟨withGrant dOn, .pdt 0x100000 0 false, 0x100000, .write, 65535, 1, by decide +kernel, by decide +kernel, by decide +kernel, .inr ⟨0, false, rfl⟩,
     by decide +kernel, by decide +kernel, by decide +kernel, by decide +kernel, by decide +kernel, by decide +kernel⟩,
   ⟨withCask (withGrant dOn) { ce with rd := false }, .roce 0x100000 0, 0x100000, .read, 65535, 1, by decide +kernel, by decide +kernel,
     by decide +kernel, .inl ⟨0, rfl⟩, by decide +kernel, by decide +kernel, by decide +kernel, by decide +kernel, by decide +kernel,
     { ce with rd := false }, by decide +kernel⟩,
   ⟨withCask (withGrant dOn), .roce 0x100000 0, 0x100000, .atomic, 8, 8, by decide +kernel, by decide +kernel, by decide +kernel, .inl ⟨0, rfl⟩,
     by decide +kernel, by decide +kernel, by decide +kernel, by decide +kernel, by decide +kernel, ce, by decide +kernel⟩⟩

theorem test_wit_racking :
    (∃ (cask rack : Nat) (s : State), s.dev.fetchKeyed cask rack = true) ∧
    (∃ (cask rack : Nat) (s : State), s.dev.fetchKeyed cask rack = false) ∧
    (∃ (d : Device) (cask rack : Nat), (d.rack cask rack).fetch = true ∧ AMap.sorted d.csk.racks = true ∧ (d.rack cask rack).res = true ∧ AMap.wf
      memDflt d.mem = true ∧ ∃ k, (k < dramKey (d.rack cask rack).frame 0 ∨ dramKey (d.rack cask rack).frame 65536 ≤ k)) ∧
    (∃ (cask rack cptr : Nat) (s : State),
      let r := s.dev.rack cask rack
      s.dev.coreUp 1 = true ∧ r.dirty ≠ 0 ∧ r.res = true ∧ r.wb = false ∧ r.present = allPages ∧ s.dev.hold.bottle = none ∧ s.dev.spareBelow 10 =
        false ∧ s.dev.mkeyMissing cask = false ∧ s.dev.siteOk cptr = true ∧ s.dev.wbTurn r = true) ∧
    (∃ (cask rack cptr : Nat) (s : State), s.dev.csk.wbJobs.find? (rackKey cask rack) = some cptr ∧ (s.dev.rack cask rack).wb = true ∧
      s.dev.hold.bottle = none ∧ s.dev.mkeyMissing cask = false) ∧
    (∃ (d : Device), d.drm.short = false) ∧
    (∃ (d : Device) (cask rack : Nat), (d.rack cask rack).res = true ∧ AMap.sorted d.csk.racks = true ∧ AMap.wf memDflt d.mem = true ∧ ∃ k, k ≠
      rackKey cask rack) ∧
    (∃ (d : Device) (cask rack : Nat), (d.rack cask rack).res = true ∧ AMap.sorted d.csk.racks = true ∧ AMap.wf memDflt d.mem = true ∧ ∃ k, (k <
      dramKey (d.rack cask rack).frame 0 ∨ dramKey (d.rack cask rack).frame 65536 ≤ k)) ∧
    (∃ (s : State), (s.dev.csk.racks.filter (fun p => s.dev.evictable p.1 p.2) = [])) ∧
    (∃ (s : State), 1024 * s.dev.fld Fld.CSK_FREE_LOW_FREE_LOW_K ≤ s.dev.framesFree ∧ s.dev.drm.short = false) ∧
    (∃ (slot : Nat) (s : State), (s.dev.grant slot).state = .quarantine ∧ AMap.sorted s.dev.csk.grants = true) ∧
    (∃ (cask rack cptr : Nat) (s : State),
      let e := ((s.dev.programRack cask rack cptr).homeRack cask rack cptr).refreshPhase
      (s.dev.rack cask rack).vault = true ∧ s.dev.rst.svcOpen = true ∧ s.dev.rst.wave0 = false ∧ s.dev.hold.bottle = none ∧ s.dev.coreUp 1 = true ∧
        s.dev.homingTurn (rackKey cask rack) = true ∧ s.dev.siteOk cptr = true ∧ s.dev.fetchKeyed cask rack = true ∧ s.dev.mkeyMissing cask = false ∧
        e.targetGen.isSome = true) ∧
    (∃ (d : Device) (cask rack : Nat), AMap.sorted d.csk.racks = true ∧ (d.rack cask rack).wb = true) ∧
    (∃ (d : Device) (cask rack : Nat), AMap.sorted d.csk.racks = true ∧ AMap.wf memDflt d.mem = true ∧ (d.rackBytes cask (rack * 65536) 65536).length
      = 65536 ∧ ∃ i, i < 65536) ∧
    (∃ (d : Device) (cask rack cptr : Nat), AMap.sorted d.csk.racks = true ∧ AMap.wf memDflt d.mem = true ∧ (d.rackBytes cask (rack * 65536)
      65536).length = 65536 ∧ ∃ k, (k < cellKey cptr 0 ∨ cellKey cptr 65536 ≤ k)) :=
  ⟨⟨4, 0, st (withHw0 (withCask (withRack dOn { rk with cptr := 77, cvalid := true, res := false, present := 0, fetch := true }))), by decide +kernel⟩,
   ⟨4, 0, st (withRack dOn { rk with vault := true }), by decide +kernel⟩,
   ⟨withRack dOn { rk with fetch := true }, 4, 0, by decide +kernel, by decide +kernel, by decide +kernel, by decide +kernel, 196607,
     by decide +kernel⟩,
   ⟨4, 0, 9, st (withRack dOn { rk with dirty := 1 }), by decide +kernel⟩,
   ⟨4, 0, 9, st
     { withRack dOn { rk with dirty := 1, wb := true } with csk := { (withRack dOn { rk with dirty := 1, wb := true }).csk with wbJobs := [(rackKey 4 0, 9)] } },
     by decide +kernel⟩,
   ⟨dOn, by decide +kernel⟩,
   ⟨withRack dOn, 4, 0, by decide +kernel, by decide +kernel, by decide +kernel, 5, by decide +kernel⟩,
   ⟨withRack dOn, 4, 0, by decide +kernel, by decide +kernel, by decide +kernel, 5, by decide +kernel⟩,
   ⟨st dOn, by decide +kernel⟩,
   ⟨st (dOn.setFld Fld.CSK_FREE_LOW_FREE_LOW_K 0), by decide +kernel⟩,
   ⟨0, st (withGrant dOn { gr with state := .quarantine }), by decide +kernel⟩,
   ⟨4, 0, 9, st (withHw1 (withRack dOn { rk with vault := true })), by decide +kernel⟩,
   ⟨withRack dOn { rk with wb := true }, 4, 0, by decide +kernel⟩,
   ⟨dOn, 4, 0, by decide +kernel, by decide +kernel, by decide +kernel, 65535, by decide +kernel⟩,
   ⟨withRack dOn { rk with wb := true }, 4, 0, 9, by decide +kernel, by decide +kernel, by decide +kernel, cellKey 9 65536, by decide +kernel⟩⟩

theorem test_wit_admission_rule :
    (∃ (dd limit high : Nat) (stop : Bool), stop = false ∧ dd < limit ∧ high ≤ dd) ∧
    (∃ (d : Device), d.fld Fld.PST_DB_CAP_CAP_RACKS ≠ 0) ∧
    (∃ (d : Device), d.targetGen = none) ∧
    (∃ (d : Device), ∃ g, d.targetGen = some g) :=
  ⟨⟨90, 100, 90, false, by decide +kernel⟩,
   ⟨dLim.setFld Fld.PST_DB_CAP_CAP_RACKS 50, by decide +kernel⟩,
   ⟨{ dOn with hold := { dOn.hold with genE := { VaultGen.empty with state := .sealed }, genO := { VaultGen.empty with state := .sealed } } },
     by decide +kernel⟩,
   ⟨dLim, 0, by decide +kernel⟩⟩

theorem test_wit_admission_events :
    (∃ (s : State), s.dev.adm.held = []) ∧
    (∃ (s : State) (r : WriteReq) (rest : List WriteReq), s.dev.adm.held = r :: rest ∧ s.dev.admitNow.1 = .opened) ∧
    (∃ (s : State) (r : WriteReq) (rest : List WriteReq), s.dev.adm.held = r :: rest ∧ s.dev.admitNow.1 = .throttled ∧ s.dev.adm.state = .throttled ∧
      chargeOf r.off r.op ≤ s.dev.adm.credit) ∧
    (∃ (s : State) (r : WriteReq) (rest : List WriteReq), s.dev.adm.held = r :: rest ∧ s.dev.admitNow.1 = .throttled ∧ s.dev.adm.state = .throttled ∧
      s.dev.adm.credit < chargeOf r.off r.op) ∧
    (∃ (s : State) (r : WriteReq) (rest : List WriteReq), s.dev.adm.held = r :: rest ∧ s.dev.admitNow.1 = .stopped) ∧
    (∃ (s : State) (r : WriteReq) (rest : List WriteReq), s.dev.adm.held = r :: rest ∧
      let e := s.dev.waitUntil (r.heldAt + 1000 * s.dev.fld Fld.PST_ADMIT_CTRL_WAIT_MS)
      let d := e.reevalAdmit
      (d.adm.state = .opened ∨ (d.adm.state = .throttled ∧ chargeOf r.off r.op ≤ d.adm.credit))) ∧
    (∃ (s : State) (r : WriteReq) (rest : List WriteReq), s.dev.adm.held = r :: rest ∧
      let e := s.dev.waitUntil (r.heldAt + 1000 * s.dev.fld Fld.PST_ADMIT_CTRL_WAIT_MS)
      let d := e.reevalAdmit
      (d.adm.state = .stopped ∨ (d.adm.state = .throttled ∧ d.adm.credit < chargeOf r.off r.op))) ∧
    (∃ (s : State), s.dev.hubOn = true) :=
  ⟨⟨st dLim, by decide +kernel⟩,
   ⟨st (withHeld dLim 0), wreq, [], by decide +kernel⟩,
   ⟨st (withHeld dThr 1060864), wreq, [], by decide +kernel⟩,
   ⟨st (withHeld dThr 0), wreq, [], by decide +kernel⟩,
   ⟨st (withHeld dOn 0), wreq, [], by decide +kernel⟩,
   ⟨st (withHeld dLim 0), wreq, [], by decide +kernel⟩,
   ⟨st (withHeld dOn 0), wreq, [], by decide +kernel⟩,
   ⟨st dThr, by decide +kernel⟩⟩

theorem test_wit_vintage_events :
    (∃ (s : State) (r : WriteReq), s.dev.nextPlace s.dev.pst.placeWait [] = some r) ∧
    (∃ (s : State), s.dev.cascadeShared = false ∧
      let d := s.dev.waitUntil (s.dev.pst.openAt + s.dev.pst.openPeriod)
      d.pst.openRecs = []) ∧
    (∃ (s : State), s.dev.cascadeShared = false ∧
      let d := s.dev.waitUntil (s.dev.pst.openAt + s.dev.pst.openPeriod)
      d.pst.openRecs ≠ []) ∧
    (∃ (s : State) (v : Vintage), (s.dev.pst.vints.find? (fun v => v.own && !v.shipped && v.state == .sealed) = some v) ∧ s.dev.ships = true ∧
      s.dev.hold.stopAdm = false ∧ s.dev.mir.linkUp = true ∧ s.dev.mir.attached = true ∧ imageLen v ≤ s.dev.twinRoom ∧ s.dev.mayReserve 0x40 frameMax
      0x410 = true ∧ s.dev.mir.joinPrev0 = false) ∧
    (∃ (s : State) (v : Vintage) (rest : List Vintage), s.dev.pst.vints = v :: rest ∧ v.state = .committed ∧ s.dev.cascadeShared = false ∧
      s.dev.applyWaits v = false) ∧
    (∃ (s : State) (v : Vintage) (rest : List Vintage), s.dev.pst.vints = v :: rest ∧ v.state = .committed ∧ s.dev.cascadeShared = false ∧
      s.dev.applyWaits v = true) ∧
    (∃ (d : Device), d.pst.openRecs ≠ [] ∧ d.cascadeShared = false ∧ d.mir.role = .active ∧ d.pst.vints = [] ∧ (∀ r ∈ d.pst.openRecs, r.wire.policy ≠
      .locally)) :=
  ⟨⟨st (withPst dLim (fun p => { p with placeWait := [wreq] })), wreq, by decide +kernel⟩,
   ⟨st dOn, by decide +kernel⟩,
   ⟨st (withPst dOn (fun p => { p with openRecs := [vrec] })), by decide +kernel⟩,
   ⟨st (withPst dAct (fun p => { p with vints := [vint1] })), vint1, by decide +kernel⟩,
   ⟨st (withPst (withRack dOn) (fun p => { p with vints := [vintC] })), vintC, [], by decide +kernel⟩,
   ⟨st { withPst (withCask dOn) (fun p => { p with vints := [vintC] }) with drm := { dOn.drm with short := true } }, vintC, [], by decide +kernel⟩,
   ⟨withPst dAct (fun p => { p with openRecs := [vrec] }), by decide +kernel⟩⟩

theorem test_wit_apply_stores_the_bytes :
    (∃ (d : Device) (w : WireRec) (idx : Nat), (d.rack w.cask idx).res = true ∧ (d.rack w.cask idx).present = allPages ∧ w.off < idx * 65536 + 65536 ∧
      idx * 65536 < w.off + w.len ∧ w.zero = false ∧ w.bytes.length = w.len ∧ AMap.sorted d.csk.racks = true ∧ AMap.wf memDflt d.mem = true ∧
      let lo := max w.off (idx * 65536)
      let hi := min (w.off + w.len) (idx * 65536 + 65536)
      ∃ a, lo ≤ a ∧ a < hi) ∧
    (∃ (d : Device) (w : WireRec) (idx : Nat), (d.rack w.cask idx).res = true ∧ (d.rack w.cask idx).present = allPages ∧ w.off < idx * 65536 + 65536 ∧
      idx * 65536 < w.off + w.len ∧ w.zero = false ∧ w.bytes.length = w.len ∧ AMap.sorted d.csk.racks = true ∧ AMap.wf memDflt d.mem = true ∧
      let r := d.rack w.cask idx
      let lo := max w.off (idx * 65536)
      let hi := min (w.off + w.len) (idx * 65536 + 65536)
      ∃ k, (k < dramKey r.frame (lo - idx * 65536) ∨ dramKey r.frame (hi - idx * 65536) ≤ k)) ∧
    (∃ (d : Device) (w : WireRec) (idx : Nat), (d.rack w.cask idx).res = true ∧ (d.rack w.cask idx).present = allPages ∧ w.off < idx * 65536 + 65536 ∧
      idx * 65536 < w.off + w.len ∧ w.zero = false ∧ w.bytes.length = w.len ∧ AMap.sorted d.csk.racks = true ∧ AMap.wf memDflt d.mem = true ∧ ∃ c i,
      rackKey c i ≠ rackKey w.cask idx) :=
  ⟨⟨withRack dOn, wrec, 0, by decide +kernel, by decide +kernel, by decide +kernel, by decide +kernel, by decide +kernel, by decide +kernel,
     by decide +kernel, by decide +kernel, 0, by decide +kernel⟩,
   ⟨withRack dOn, wrec, 0, by decide +kernel, by decide +kernel, by decide +kernel, by decide +kernel, by decide +kernel, by decide +kernel,
     by decide +kernel, by decide +kernel, 196609, by decide +kernel⟩,
   ⟨withRack dOn, wrec, 0, by decide +kernel, by decide +kernel, by decide +kernel, by decide +kernel, by decide +kernel, by decide +kernel,
     by decide +kernel, by decide +kernel, 4, 1, by decide +kernel⟩⟩

theorem test_wit_reads_see_the_newest :
    (∃ (d : Device) (cask off len i : Nat), i < (d.rackBytes cask off len).length) ∧
    (∃ (r : VRecord) (cask a : Nat), r.wire.metaOp = none ∧ r.wire.cask = cask ∧ r.wire.off ≤ a ∧ a < r.wire.off + r.wire.len) ∧
    (∃ (r : VRecord) (cask a : Nat), r.wire.metaOp = none ∧ (r.wire.cask ≠ cask ∨ a < r.wire.off ∨ r.wire.off + r.wire.len ≤ a)) ∧
    (∃ (d : Device) (x : Source) (snap : Nat) (r : VRecord), d.trl.mode = 0 ∧ r ∈ d.visible x snap) ∧
    (∃ (d : Device) (x : Source) (r : VRecord), r ∈ d.pst.openRecs ∧ r.src = x) :=
  ⟨⟨withRack dOn, 4, 0, 2, 1, by decide +kernel⟩,
   ⟨vrec, 4, 0, by decide +kernel⟩,
   ⟨vrec, 4, 1, by decide +kernel⟩,
   ⟨withPst dOn (fun p => { p with vints := [vintC] }), .sq 0 1, 5, vrec, by decide +kernel⟩,
   ⟨withPst dOn (fun p => { p with openRecs := [vrec] }), .device, vrec, by decide +kernel⟩⟩

theorem test_wit_above_the_absolute_maximum :
    (∃ (i : Instr), hvinOf i ≤ 8000) ∧
    (∃ (i : Instr), 8000 < hvinOf i) :=
  ⟨⟨.hvinUvlo 8000, by decide +kernel⟩,
   ⟨.inputBad 8001 0 false, by decide +kernel⟩⟩

theorem test_wit_supply_monitor :
    (∃ (hvin hu : Nat) (pfi : Bool) (s : State), hvin ≤ 8000 ∧ s.dev.sup.supOn = true ∧
      let d := s.dev.takeInput hvin hu pfi
      d.hold.inputBad = true ∧ d.hold.waitIn = false ∧ (d.hold.supply = .normal ∨ d.hold.supply = .dwell)) ∧
    (∃ (hvin hu : Nat) (pfi : Bool) (s : State), hvin ≤ 8000 ∧ s.dev.sup.supOn = true ∧
      let d := s.dev.takeInput hvin hu pfi
      d.hold.inputBad = false) ∧
    (∃ (hvin hu : Nat) (pfi : Bool) (s : State), hvin ≤ 8000 ∧ s.dev.sup.supOn = true ∧
      let d := s.dev.takeInput hvin hu pfi
      d.hold.inputBad = true ∧ d.hold.waitIn = true ∧ d.hold.pfDrive = true) ∧
    (∃ (hvin hu : Nat) (pfi : Bool) (s : State), hvin ≤ 8000 ∧ s.dev.sup.supOn = true ∧
      let d := s.dev.takeInput hvin hu pfi
      d.hold.inputBad = true ∧ d.hold.waitIn = true ∧ d.hold.pfDrive = false) ∧
    (∃ (hvin hu : Nat) (pfi : Bool) (s : State), hvin ≤ 8000 ∧ s.dev.sup.supOn = true ∧
      let d := s.dev.takeInput hvin hu pfi
      d.hold.inputGood = true ∧ d.hold.supply = .warn) ∧
    (∃ (hvin hu : Nat) (pfi : Bool) (s : State), hvin ≤ 8000 ∧ s.dev.sup.supOn = true ∧
      let d := s.dev.takeInput hvin hu pfi
      (d.hold.inputGood = false ∨ d.hold.supply ≠ .warn)) ∧
    (∃ (hvin hu : Nat) (pfi : Bool) (s : State), hvin ≤ 8000 ∧ s.dev.sup.supOn = true ∧
      let d := s.dev.takeInput hvin hu pfi
      hvin < d.fld Fld.SUP_HV_BOTTLE_LEVEL) ∧
    (∃ (hvin hu : Nat) (pfi : Bool) (s : State), hvin ≤ 8000 ∧ s.dev.sup.supOn = true ∧
      let d := s.dev.takeInput hvin hu pfi
      pfi = true ∧ d.fld Fld.PST_ADMIT_CTRL_PFI_MODE = 2) ∧
    (∃ (hvin hu : Nat) (pfi : Bool) (s : State), hvin ≤ 8000 ∧ s.dev.sup.supOn = true ∧
      let d := s.dev.takeInput hvin hu pfi
      d.fld Fld.SUP_HV_BOTTLE_LEVEL ≤ hvin ∧ (pfi = false ∨ d.fld Fld.PST_ADMIT_CTRL_PFI_MODE ≠ 2)) ∧
    (∃ (hvin : Nat) (s : State), hvin ≤ 8000 ∧ s.dev.sup.supOn = true ∧ s.dev.hold.supply = .dwell) ∧
    (∃ (hvin : Nat) (s : State), hvin ≤ 8000 ∧ s.dev.sup.supOn = true ∧ s.dev.hold.supply ≠ .dwell) ∧
    (∃ (d : Device), d.hold.bottle.isSome) ∧
    (∃ (d : Device), d.hold.bottle = none ∧ d.sup.state = .on) ∧
    (∃ (d : Device), d.hold.bottle = none ∧ d.sup.state = .flush) ∧
    (∃ (d : Device), d.hold.bottle = none ∧ d.sup.state = .lowPower ∧ d.sup.target = 1 ∧ d.sup.cur ≠ 2) ∧
    (∃ (d : Device), d.hold.bottle = none ∧ d.sup.state = .lowPower ∧ d.sup.target = 1 ∧ d.sup.cur = 2 ∧ d.sup.nullSealed = false) ∧
    (∃ (d : Device), d.hold.bottle = none ∧ d.sup.state = .powerUp) ∧
    (∃ (d : Device), d.hold.bottle = none ∧ d.sup.state = .powerDown) ∧
    (∃ (d : Device), d.hold.bottle = none ∧ d.sup.state = .lowPower ∧ d.sup.target ≠ 1) ∧
    (∃ (d : Device), d.hold.bottle = none ∧ (d.sup.state = .init ∨ d.sup.state = .off ∨ d.sup.state = .holdoff ∨ d.sup.state = .lockout)) :=
  ⟨⟨4000, 0, false, st dOn, by decide +kernel⟩,
   ⟨5400, 0, false, st dOn, by decide +kernel⟩,
   ⟨4000, 0, false, st (withHold (dWait btl) (fun h => { h with pfDrive := true })), by decide +kernel⟩,
   ⟨4000, 0, false, st (dWait btl), by decide +kernel⟩,
   ⟨8000, 0, false, st (dSup .warn), by decide +kernel⟩,
   ⟨8000, 0, false, st dOn, by decide +kernel⟩,
   ⟨4000, 0, false, st dOn, by decide +kernel⟩,
   ⟨8000, 0, true, st (dOn.setFld Fld.PST_ADMIT_CTRL_PFI_MODE 2), by decide +kernel⟩,
   ⟨8000, 0, false, st dOn, by decide +kernel⟩,
   ⟨8000, st (dSup .dwell), by decide +kernel⟩,
   ⟨8000, st dOn, by decide +kernel⟩,
   ⟨dBot btl 3, by decide +kernel⟩,
   ⟨dOn, by decide +kernel⟩,
   ⟨withSup dOn (fun p => { p with state := .flush }), by decide +kernel⟩,
   ⟨withSup dOn (fun p => { p with state := .lowPower, target := 1 }), by decide +kernel⟩,
   ⟨withSup dOn (fun p => { p with state := .lowPower, target := 1, cur := 2 }), by decide +kernel⟩,
   ⟨withSup dOn (fun p => { p with state := .powerUp }), by decide +kernel⟩,
   ⟨withSup dOn (fun p => { p with state := .powerDown }), by decide +kernel⟩,
   ⟨dLow 4 2, by decide +kernel⟩,
   ⟨withSup dOn (fun p => { p with state := .off }), by decide +kernel⟩⟩

theorem test_wit_bottling_steps :
    (∃ (b : Bottle) (s : State), s.dev.hold.bottle = some b ∧ b.streamDone = false ∧ s.dev.hold.phase = 3) ∧
    (∃ (b : Bottle) (s : State), s.dev.hold.bottle = some b ∧ (s.dev.hold.phase = 3 ∨ s.dev.hold.phase = 4)) ∧
    (∃ (b : Bottle) (s : State), s.dev.hold.bottle = some b ∧ b.streamDone = true ∧ s.dev.hold.phase = 4) ∧
    (∃ (d : Device) (b : Bottle) (g : Nat), d.hold.bottle = some b ∧ b.preOpen = false ∧ b.target = some g ∧ g < 2) ∧
    (∃ (d : Device) (b : Bottle), d.hold.bottle = some b ∧ b.preOpen = true) ∧
    (∃ (s : State), s.dev.hold.waitIn = true ∧ s.dev.hold.inputGood = true) ∧
    (∃ (d : Device) (b : Bottle), d.hold.bottle = some b ∧ (b.noResume = true ∨ d.hold.inputBad = true)) ∧
    (∃ (d : Device) (b : Bottle), d.hold.bottle = some b ∧ b.noResume = false ∧ d.hold.inputBad = false ∧ d.hold.inputGood = true ∧ d.hold.goodAt +
      20000 ≤ d.now) ∧
    (∃ (d : Device) (b : Bottle), d.hold.bottle = some b ∧ b.noResume = false ∧ d.hold.inputBad = false ∧ d.hold.inputGood = false) ∧
    (∃ (hvin : Nat) (s : State), s.dev.sup.supOn = true ∧ hvin < 750) ∧
    (∃ (hvin : Nat) (s : State), s.dev.sup.supOn = true ∧ 750 ≤ hvin ∧ hvin ≤ 8000) :=
  ⟨⟨btl, st (dBot btl 3), by decide +kernel⟩,
   ⟨btl, st (dBot btl 4), by decide +kernel⟩,
   ⟨{ btl with streamDone := true }, st (dBot { btl with streamDone := true } 4), by decide +kernel⟩,
   ⟨dBot { btl with target := some 1 } 4, { btl with target := some 1 }, 1, by decide +kernel⟩,
   ⟨dBot { btl with preOpen := true } 4, { btl with preOpen := true }, by decide +kernel⟩,
   ⟨st (dWait btl), by decide +kernel⟩,
   ⟨dBot { btl with noResume := true } 4, { btl with noResume := true }, by decide +kernel⟩,
   ⟨{ dBot btl 4 with now := 20000 }, btl, by decide +kernel⟩,
   ⟨withHold (dBot btl 4) (fun h => { h with inputGood := false }), btl, by decide +kernel⟩,
   ⟨749, st dOn, by decide +kernel⟩,
   ⟨750, st dOn, by decide +kernel⟩⟩

theorem test_wit_hold_up_measurement :
    (∃ (s : State), s.dev.sup.supOn = true ∧ s.dev.fld Fld.SUP_HU_CTRL_PERIOD_H ≠ 0) ∧
    (∃ (s : State), s.dev.hold.setStart = true ∧ s.dev.hold.testAt = none ∧ s.dev.hold.probing = false) ∧
    (∃ (v0 vm v60 vend t : Nat) (s : State), s.dev.hold.testAt = some t ∧ 10 * s.dev.fld Fld.SUP_HU_CTRL_DV ≤ v60 - vend ∧ 100 ≤ v60 - vend ∧ vm ≤ v0) ∧
    (∃ (v0 vm v60 vend us t : Nat) (inRange : Bool) (s : State), s.dev.hold.testAt = some t ∧ (4000000 ≤ us ∨ inRange = false ∨ v0 < vm) ∧ (v60 - vend
      < 100 ∨ v0 < vm ∨ inRange = false)) ∧
    (∃ (us : Nat) (s : State), s.dev.hold.probing = true ∧ us ≠ 0 ∧ s.dev.drm.short = false) ∧
    (∃ (s : State), s.dev.hold.replan = true ∧ s.dev.drm.short = false) ∧
    (∃ (c c' : Nat), c ≤ c') :=
  ⟨⟨st (dOn.setFld Fld.SUP_HU_CTRL_PERIOD_H 1), by decide +kernel⟩,
   ⟨st (withHold dOn (fun h => { h with setStart := true })), by decide +kernel⟩,
   ⟨54000, 53900, 53800, 52800, 0, st (withHold (dOn.setFld Fld.SUP_HU_CTRL_DV 100) (fun h => { h with testAt := some 0 })), by decide +kernel⟩,
   ⟨54000, 53900, 53800, 52800, 100, 0, false, st (withHold (dOn.setFld Fld.SUP_HU_CTRL_DV 100) (fun h => { h with testAt := some 0 })),
     by decide +kernel⟩,
   ⟨1, st (withHold dOn (fun h => { h with probing := true })), by decide +kernel⟩,
   ⟨st (withHold dOn (fun h => { h with replan := true })), by decide +kernel⟩,
   ⟨5200, 6000, by decide +kernel⟩⟩

theorem test_wit_emergence_steps :
    (∃ (s : State), s.dev.hubOn = true ∧ s.dev.hold.bottle = none ∧ s.dev.coreUp 1 = true ∧ s.dev.rst.phase = 1) ∧
    (∃ (s : State), s.dev.hubOn = true ∧ s.dev.hold.bottle = none ∧ s.dev.coreUp 1 = true ∧ s.dev.rst.phase = 2) ∧
    (∃ (m : MetaImage) (s : State), s.dev.hubOn = true ∧ s.dev.hold.bottle = none ∧ s.dev.rst.phase = 9 ∧ s.dev.rst.image = some m) ∧
    (∃ (s : State), s.dev.rst.phase = 3 ∧ s.dev.hold.bottle = none ∧ s.dev.coreUp 1 = true) ∧
    (∃ (s : State), (s.dev.rst.phase = 4 ∨ s.dev.rst.phase = 9) ∧ s.dev.rst.resolved = false ∧ s.dev.rst.image = none ∧ s.dev.hold.bottle = none) ∧
    (∃ (s : State), (s.dev.rst.phase = 4 ∨ s.dev.rst.phase = 9) ∧ s.dev.rst.resolved = true ∧ s.dev.rst.awaits = [] ∧ s.dev.hold.bottle = none) ∧
    (∃ (s : State), (s.dev.rst.resolved = false ∨ s.dev.rst.awaits ≠ [])) ∧
    (∃ (w : WarmReset) (s : State), s.dev.sup.warm = some w ∧ w.quiesced = false ∧ w.overran = false ∧ s.dev.hold.bottle = none) ∧
    (∃ (s : State), s.dev.sup.warm = none) ∧
    (∃ (w : WarmReset) (s : State), s.dev.sup.warm = some w ∧ w.held = true) ∧
    (∃ (s : State), s.dev.rst.cleared = true ∧ s.dev.mir.role = .detached) ∧
    (∃ (s : State), (s.dev.rst.cleared = false ∨ s.dev.mir.role ≠ .detached)) :=
  ⟨⟨st (withRst dOn (fun r => { r with phase := 1 })), by decide +kernel⟩,
   ⟨st (withRst dOn (fun r => { r with phase := 2 })), by decide +kernel⟩,
   ⟨dOn.captureMeta [], st (withRst dOn (fun r => { r with phase := 9, image := some (dOn.captureMeta []) })), by decide +kernel, by decide +kernel,
     by decide +kernel, rfl⟩,
   ⟨st (withRst dOn (fun r => { r with phase := 3 })), by decide +kernel⟩,
   ⟨st (withRst dOn (fun r => { r with phase := 4, resolved := false })), by decide +kernel⟩,
   ⟨st (withRst dOn (fun r => { r with phase := 4 })), by decide +kernel⟩,
   ⟨st (withRst dOn (fun r => { r with resolved := false })), by decide +kernel⟩,
   ⟨warm1, st (withSup dOn (fun p => { p with warm := some warm1 })), by decide +kernel⟩,
   ⟨st dOn, by decide +kernel⟩,
   ⟨{ warm1 with held := true }, st (withSup dOn (fun p => { p with warm := some { warm1 with held := true } })), by decide +kernel⟩,
   ⟨st (withMir (withRst dOn (fun r => { r with cleared := true })) (fun m => { m with role := .detached })), by decide +kernel⟩,
   ⟨st dOn, by decide +kernel⟩⟩

theorem test_wit_arbiter_replies :
    (∃ (ok : Bool) (pair echo epoch result holder stale last remain vf : Nat) (s : State),
      let r : ArbReply :=
        { ok := ok, pair := pair, echo := echo, epoch := epoch, result := result, holder := holder, stale := stale, lastHolder := last, remain := remain, vf := 0 }
      s.dev.coreUp 2 = true ∧ ((s.dev.takeArb r).2.ok = false ∨ pair ≠ (s.dev.takeArb r).1.pair Reg.MIR_PAIR_LO ∨ epoch < (s.dev.takeArb
        r).1.mir.epoch)) ∧
    (∃ (ok : Bool) (pair echo epoch result holder stale last remain vf : Nat) (s : State),
      let r : ArbReply :=
        { ok := ok, pair := pair, echo := echo, epoch := epoch, result := result, holder := holder, stale := stale, lastHolder := last, remain := remain, vf := 0 }
      let rh : ArbReply := { r with remain := 0, vf := vf }
      s.dev.coreUp 2 = true ∧ ((s.dev.takeArb rh).2.ok = false ∨ pair ≠ (s.dev.takeArb rh).1.pair Reg.MIR_PAIR_LO ∨ epoch < (s.dev.takeArb
        rh).1.mir.epoch)) ∧
    (∃ (s : State), s.dev.coreUp 2 = false) ∧
    (∃ (m : ArbMsg) (rest : List ArbMsg) (pair echo epoch result holder stale last remain : Nat) (s : State),
      let r : ArbReply :=
        { ok := true, pair := pair, echo := echo, epoch := epoch, result := result, holder := holder, stale := stale, lastHolder := last, remain := remain, vf := 0 }
      let d0 := (s.dev.takeArb r).1
      let d := d0.setMir
        { d0.mir with waitArb := rest, epoch := epoch, lastResult := result, stale := natBit stale d0.unit, staleKnown := true, chainOpen := d0.mir.chainOpen || decide (d0.mir.epoch < epoch) }
      s.dev.coreUp 2 = true ∧ (s.dev.takeArb r).2 = r ∧ pair = d0.pair Reg.MIR_PAIR_LO ∧ d0.mir.waitArb = m :: rest ∧ m.seq = echo ∧ echo < 2 ^ 64 ∧
        d0.mir.epoch ≤ epoch ∧ d0.hold.phase < 3 ∧ d0.mir.unitConflict = false ∧ m.kind = arbLeaseRenew ∧ result = 0 ∧ m.flags = 0 ∧ d.placesWrites =
        true) ∧
    (∃ (m : ArbMsg) (rest : List ArbMsg) (pair echo epoch result holder stale last remain : Nat) (s : State),
      let r : ArbReply :=
        { ok := true, pair := pair, echo := echo, epoch := epoch, result := result, holder := holder, stale := stale, lastHolder := last, remain := remain, vf := 0 }
      let d0 := (s.dev.takeArb r).1
      let d := d0.setMir
        { d0.mir with waitArb := rest, epoch := epoch, lastResult := result, stale := natBit stale d0.unit, staleKnown := true, chainOpen := d0.mir.chainOpen || decide (d0.mir.epoch < epoch) }
      s.dev.coreUp 2 = true ∧ (s.dev.takeArb r).2 = r ∧ pair = d0.pair Reg.MIR_PAIR_LO ∧ d0.mir.waitArb = m :: rest ∧ m.seq = echo ∧ echo < 2 ^ 64 ∧
        d0.mir.epoch ≤ epoch ∧ d0.hold.phase < 3 ∧ d0.mir.unitConflict = false ∧ m.kind = arbLeaseRenew ∧ result = 0 ∧ m.flags = 2 ∧ d.placesWrites =
        true) ∧
    (∃ (m : ArbMsg) (rest : List ArbMsg) (pair echo epoch result holder stale last remain : Nat) (s : State),
      let r : ArbReply :=
        { ok := true, pair := pair, echo := echo, epoch := epoch, result := result, holder := holder, stale := stale, lastHolder := last, remain := remain, vf := 0 }
      let d0 := (s.dev.takeArb r).1
      let d := d0.setMir
        { d0.mir with waitArb := rest, epoch := epoch, lastResult := result, stale := natBit stale d0.unit, staleKnown := true, chainOpen := d0.mir.chainOpen || decide (d0.mir.epoch < epoch) }
      s.dev.coreUp 2 = true ∧ (s.dev.takeArb r).2 = r ∧ pair = d0.pair Reg.MIR_PAIR_LO ∧ d0.mir.waitArb = m :: rest ∧ m.seq = echo ∧ echo < 2 ^ 64 ∧
        d0.mir.epoch ≤ epoch ∧ d0.hold.phase < 3 ∧ d0.mir.unitConflict = false ∧ m.kind = arbLeaseRenew ∧ (result = 3 ∨ result = 4) ∧ d.placesWrites =
        true) ∧
    (∃ (m : ArbMsg) (rest : List ArbMsg) (pair echo epoch result holder stale last remain : Nat) (s : State),
      let r : ArbReply :=
        { ok := true, pair := pair, echo := echo, epoch := epoch, result := result, holder := holder, stale := stale, lastHolder := last, remain := remain, vf := 0 }
      let d0 := (s.dev.takeArb r).1
      let d := d0.setMir
        { d0.mir with waitArb := rest, epoch := epoch, lastResult := result, stale := natBit stale d0.unit, staleKnown := true, chainOpen := d0.mir.chainOpen || decide (d0.mir.epoch < epoch) }
      s.dev.coreUp 2 = true ∧ (s.dev.takeArb r).2 = r ∧ pair = d0.pair Reg.MIR_PAIR_LO ∧ d0.mir.waitArb = m :: rest ∧ m.seq = echo ∧ echo < 2 ^ 64 ∧
        d0.mir.epoch ≤ epoch ∧ d0.hold.phase < 3 ∧ d0.mir.unitConflict = false ∧ m.kind = arbLeaseRenew ∧ d.placesWrites = false) ∧
    (∃ (m : ArbMsg) (rest : List ArbMsg) (pair echo epoch result holder stale last remain : Nat) (s : State),
      let r : ArbReply :=
        { ok := true, pair := pair, echo := echo, epoch := epoch, result := result, holder := holder, stale := stale, lastHolder := last, remain := remain, vf := 0 }
      let d0 := (s.dev.takeArb r).1
      let d := d0.setMir
        { d0.mir with waitArb := rest, epoch := epoch, lastResult := result, stale := natBit stale d0.unit, staleKnown := true, chainOpen := d0.mir.chainOpen || decide (d0.mir.epoch < epoch) }
      s.dev.coreUp 2 = true ∧ (s.dev.takeArb r).2 = r ∧ pair = d0.pair Reg.MIR_PAIR_LO ∧ d0.mir.waitArb = m :: rest ∧ m.seq = echo ∧ echo < 2 ^ 64 ∧
        d0.mir.epoch ≤ epoch ∧ d0.hold.phase < 3 ∧ d0.mir.unitConflict = false ∧ m.kind = arbLeaseRequest ∧ result = 0 ∧ m.flags = 8 ∧ d.mir.role =
        .detached ∧ d.noLease = false) ∧
    (∃ (m : ArbMsg) (rest : List ArbMsg) (pair echo epoch result holder stale last remain : Nat) (s : State),
      let r : ArbReply :=
        { ok := true, pair := pair, echo := echo, epoch := epoch, result := result, holder := holder, stale := stale, lastHolder := last, remain := remain, vf := 0 }
      let d0 := (s.dev.takeArb r).1
      let d := d0.setMir
        { d0.mir with waitArb := rest, epoch := epoch, lastResult := result, stale := natBit stale d0.unit, staleKnown := true, chainOpen := d0.mir.chainOpen || decide (d0.mir.epoch < epoch) }
      s.dev.coreUp 2 = true ∧ (s.dev.takeArb r).2 = r ∧ pair = d0.pair Reg.MIR_PAIR_LO ∧ d0.mir.waitArb = m :: rest ∧ m.seq = echo ∧ echo < 2 ^ 64 ∧
        d0.mir.epoch ≤ epoch ∧ d0.hold.phase < 3 ∧ d0.mir.unitConflict = false ∧ m.kind = arbLeaseRequest ∧ result = 0 ∧ m.flags = 4 ∧ d.mir.role =
        .detached ∧ d.noLease = false ∧ d.rst.resolved = true) ∧
    (∃ (m : ArbMsg) (rest : List ArbMsg) (pair echo epoch result holder stale last remain : Nat) (s : State),
      let r : ArbReply :=
        { ok := true, pair := pair, echo := echo, epoch := epoch, result := result, holder := holder, stale := stale, lastHolder := last, remain := remain, vf := 0 }
      let d0 := (s.dev.takeArb r).1
      let d := d0.setMir
        { d0.mir with waitArb := rest, epoch := epoch, lastResult := result, stale := natBit stale d0.unit, staleKnown := true, chainOpen := d0.mir.chainOpen || decide (d0.mir.epoch < epoch) }
      s.dev.coreUp 2 = true ∧ (s.dev.takeArb r).2 = r ∧ pair = d0.pair Reg.MIR_PAIR_LO ∧ d0.mir.waitArb = m :: rest ∧ m.seq = echo ∧ echo < 2 ^ 64 ∧
        d0.mir.epoch ≤ epoch ∧ d0.hold.phase < 3 ∧ d0.mir.unitConflict = false ∧ m.kind = arbLeaseRequest ∧ result = 0 ∧ d.mir.role = .detached ∧
        d.noLease = true) ∧
    (∃ (m : ArbMsg) (rest : List ArbMsg) (pair echo epoch result holder stale last remain : Nat) (s : State),
      let r : ArbReply :=
        { ok := true, pair := pair, echo := echo, epoch := epoch, result := result, holder := holder, stale := stale, lastHolder := last, remain := remain, vf := 0 }
      let d0 := (s.dev.takeArb r).1
      let d := d0.setMir
        { d0.mir with waitArb := rest, epoch := epoch, lastResult := result, stale := natBit stale d0.unit, staleKnown := true, chainOpen := d0.mir.chainOpen || decide (d0.mir.epoch < epoch) }
      s.dev.coreUp 2 = true ∧ (s.dev.takeArb r).2 = r ∧ pair = d0.pair Reg.MIR_PAIR_LO ∧ d0.mir.waitArb = m :: rest ∧ m.seq = echo ∧ echo < 2 ^ 64 ∧
        d0.mir.epoch ≤ epoch ∧ d0.hold.phase < 3 ∧ d0.mir.unitConflict = false ∧ m.kind = arbLeaseRequest ∧ result = 1 ∧ d.mir.role = .detached) ∧
    (∃ (m : ArbMsg) (rest : List ArbMsg) (pair echo epoch result holder stale last remain : Nat) (s : State),
      let r : ArbReply :=
        { ok := true, pair := pair, echo := echo, epoch := epoch, result := result, holder := holder, stale := stale, lastHolder := last, remain := remain, vf := 0 }
      let d0 := (s.dev.takeArb r).1
      let d := d0.setMir
        { d0.mir with waitArb := rest, epoch := epoch, lastResult := result, stale := natBit stale d0.unit, staleKnown := true, chainOpen := d0.mir.chainOpen || decide (d0.mir.epoch < epoch) }
      s.dev.coreUp 2 = true ∧ (s.dev.takeArb r).2 = r ∧ pair = d0.pair Reg.MIR_PAIR_LO ∧ d0.mir.waitArb = m :: rest ∧ m.seq = echo ∧ echo < 2 ^ 64 ∧
        d0.mir.epoch ≤ epoch ∧ d0.hold.phase < 3 ∧ d0.mir.unitConflict = false ∧ m.kind = arbLeaseRequest ∧ result = 2 ∧ d.mir.role = .detached ∧
        d.rst.cleared = false ∧ d.mir.twinNoImage = false) ∧
    (∃ (m : ArbMsg) (rest : List ArbMsg) (pair echo epoch result holder stale last remain : Nat) (s : State),
      let r : ArbReply :=
        { ok := true, pair := pair, echo := echo, epoch := epoch, result := result, holder := holder, stale := stale, lastHolder := last, remain := remain, vf := 0 }
      let d0 := (s.dev.takeArb r).1
      let d := d0.setMir
        { d0.mir with waitArb := rest, epoch := epoch, lastResult := result, stale := natBit stale d0.unit, staleKnown := true, chainOpen := d0.mir.chainOpen || decide (d0.mir.epoch < epoch) }
      s.dev.coreUp 2 = true ∧ (s.dev.takeArb r).2 = r ∧ pair = d0.pair Reg.MIR_PAIR_LO ∧ d0.mir.waitArb = m :: rest ∧ m.seq = echo ∧ echo < 2 ^ 64 ∧
        d0.mir.epoch ≤ epoch ∧ d0.hold.phase < 3 ∧ d0.mir.unitConflict = false ∧ m.kind = arbLeaseRequest ∧ result = 2 ∧ d.mir.role = .detached ∧
        d.rst.cleared = true) ∧
    (∃ (m : ArbMsg) (rest : List ArbMsg) (pair echo epoch result holder stale last remain : Nat) (s : State),
      let r : ArbReply :=
        { ok := true, pair := pair, echo := echo, epoch := epoch, result := result, holder := holder, stale := stale, lastHolder := last, remain := remain, vf := 0 }
      let d0 := (s.dev.takeArb r).1
      let d := d0.setMir
        { d0.mir with waitArb := rest, epoch := epoch, lastResult := result, stale := natBit stale d0.unit, staleKnown := true, chainOpen := d0.mir.chainOpen || decide (d0.mir.epoch < epoch) }
      s.dev.coreUp 2 = true ∧ (s.dev.takeArb r).2 = r ∧ pair = d0.pair Reg.MIR_PAIR_LO ∧ d0.mir.waitArb = m :: rest ∧ m.seq = echo ∧ echo < 2 ^ 64 ∧
        d0.mir.epoch ≤ epoch ∧ d0.hold.phase < 3 ∧ d0.mir.unitConflict = false ∧ m.kind = arbLeaseRequest ∧ result = 2 ∧ d.mir.role = .standby) ∧
    (∃ (m : ArbMsg) (rest : List ArbMsg) (pair echo epoch result holder stale last remain : Nat) (s : State),
      let r : ArbReply :=
        { ok := true, pair := pair, echo := echo, epoch := epoch, result := result, holder := holder, stale := stale, lastHolder := last, remain := remain, vf := 0 }
      let d0 := (s.dev.takeArb r).1
      let d := d0.setMir
        { d0.mir with waitArb := rest, epoch := epoch, lastResult := result, stale := natBit stale d0.unit, staleKnown := true, chainOpen := d0.mir.chainOpen || decide (d0.mir.epoch < epoch) }
      s.dev.coreUp 2 = true ∧ (s.dev.takeArb r).2 = r ∧ pair = d0.pair Reg.MIR_PAIR_LO ∧ d0.mir.waitArb = m :: rest ∧ m.seq = echo ∧ echo < 2 ^ 64 ∧
        d0.mir.epoch ≤ epoch ∧ d0.hold.phase < 3 ∧ d0.mir.unitConflict = false ∧ m.kind = arbPromoteRequest ∧ result = 1 ∧ d.mir.role = .standby) ∧
    (∃ (m : ArbMsg) (rest : List ArbMsg) (pair echo epoch result holder stale last remain : Nat) (s : State),
      let r : ArbReply :=
        { ok := true, pair := pair, echo := echo, epoch := epoch, result := result, holder := holder, stale := stale, lastHolder := last, remain := remain, vf := 0 }
      let d0 := (s.dev.takeArb r).1
      let d := d0.setMir
        { d0.mir with waitArb := rest, epoch := epoch, lastResult := result, stale := natBit stale d0.unit, staleKnown := true, chainOpen := d0.mir.chainOpen || decide (d0.mir.epoch < epoch) }
      s.dev.coreUp 2 = true ∧ (s.dev.takeArb r).2 = r ∧ pair = d0.pair Reg.MIR_PAIR_LO ∧ d0.mir.waitArb = m :: rest ∧ m.seq = echo ∧ echo < 2 ^ 64 ∧
        d0.mir.epoch ≤ epoch ∧ d0.hold.phase < 3 ∧ d0.mir.unitConflict = false ∧ m.kind = arbPromoteRequest ∧ result = 2 ∧ d.mir.role = .standby) ∧
    (∃ (m : ArbMsg) (rest : List ArbMsg) (pair echo epoch result holder stale last remain : Nat) (s : State),
      let r : ArbReply :=
        { ok := true, pair := pair, echo := echo, epoch := epoch, result := result, holder := holder, stale := stale, lastHolder := last, remain := remain, vf := 0 }
      let d0 := (s.dev.takeArb r).1
      let d := d0.setMir
        { d0.mir with waitArb := rest, epoch := epoch, lastResult := result, stale := natBit stale d0.unit, staleKnown := true, chainOpen := d0.mir.chainOpen || decide (d0.mir.epoch < epoch) }
      s.dev.coreUp 2 = true ∧ (s.dev.takeArb r).2 = r ∧ pair = d0.pair Reg.MIR_PAIR_LO ∧ d0.mir.waitArb = m :: rest ∧ m.seq = echo ∧ echo < 2 ^ 64 ∧
        d0.mir.epoch ≤ epoch ∧ d0.hold.phase < 3 ∧ d0.mir.unitConflict = false ∧ m.kind = arbPromoteRequest ∧ result = 0 ∧ d.mir.role = .standby ∧
        d.noLease = true) ∧
    (∃ (m : ArbMsg) (rest : List ArbMsg) (pair echo epoch result holder stale last remain : Nat) (s : State),
      let r : ArbReply :=
        { ok := true, pair := pair, echo := echo, epoch := epoch, result := result, holder := holder, stale := stale, lastHolder := last, remain := remain, vf := 0 }
      let d0 := (s.dev.takeArb r).1
      let d := d0.setMir
        { d0.mir with waitArb := rest, epoch := epoch, lastResult := result, stale := natBit stale d0.unit, staleKnown := true, chainOpen := d0.mir.chainOpen || decide (d0.mir.epoch < epoch) }
      s.dev.coreUp 2 = true ∧ (s.dev.takeArb r).2 = r ∧ pair = d0.pair Reg.MIR_PAIR_LO ∧ d0.mir.waitArb = m :: rest ∧ m.seq = echo ∧ echo < 2 ^ 64 ∧
        d0.mir.epoch ≤ epoch ∧ d0.hold.phase < 3 ∧ d0.mir.unitConflict = false ∧ m.kind = arbPromoteRequest ∧ result = 0 ∧ d.mir.role = .standby ∧
        d.noLease = false) ∧
    (∃ (m : ArbMsg) (rest : List ArbMsg) (pair echo epoch result holder stale last vf : Nat) (s : State),
      let r : ArbReply :=
        { ok := true, pair := pair, echo := echo, epoch := epoch, result := result, holder := holder, stale := stale, lastHolder := last, remain := 0, vf := vf }
      let d0 := (s.dev.takeArb r).1
      let d := d0.setMir
        { d0.mir with waitArb := rest, epoch := epoch, lastResult := result, stale := natBit stale d0.unit, staleKnown := true, chainOpen := d0.mir.chainOpen || decide (d0.mir.epoch < epoch) }
      s.dev.coreUp 2 = true ∧ (s.dev.takeArb r).2 = r ∧ pair = d0.pair Reg.MIR_PAIR_LO ∧ d0.hold.phase < 3 ∧ d0.mir.unitConflict = false ∧
        d0.mir.waitArb = m :: rest ∧ m.seq = echo ∧ echo < 2 ^ 64 ∧ d0.mir.epoch ≤ epoch ∧ m.kind = arbHandbackRequest ∧ result = 0 ∧ d.mir.hbHolder ≠
        0) ∧
    (∃ (m : ArbMsg) (rest : List ArbMsg) (pair echo epoch result holder stale last vf : Nat) (s : State),
      let r : ArbReply :=
        { ok := true, pair := pair, echo := echo, epoch := epoch, result := result, holder := holder, stale := stale, lastHolder := last, remain := 0, vf := vf }
      let d0 := (s.dev.takeArb r).1
      let d := d0.setMir
        { d0.mir with waitArb := rest, epoch := epoch, lastResult := result, stale := natBit stale d0.unit, staleKnown := true, chainOpen := d0.mir.chainOpen || decide (d0.mir.epoch < epoch) }
      s.dev.coreUp 2 = true ∧ (s.dev.takeArb r).2 = r ∧ pair = d0.pair Reg.MIR_PAIR_LO ∧ d0.hold.phase < 3 ∧ d0.mir.unitConflict = false ∧
        d0.mir.waitArb = m :: rest ∧ m.seq = echo ∧ echo < 2 ^ 64 ∧ d0.mir.epoch ≤ epoch ∧ m.kind = arbHandbackRequest ∧ result ≠ 0 ∧ d.mir.hbHolder ≠
        0) ∧
    (∃ (pair echo epoch result holder stale last vf : Nat) (s : State),
      let r : ArbReply :=
        { ok := true, pair := pair, echo := echo, epoch := epoch, result := result, holder := holder, stale := stale, lastHolder := last, remain := 0, vf := vf }
      let d0 := (s.dev.takeArb r).1
      s.dev.coreUp 2 = true ∧ (s.dev.takeArb r).2 = r ∧ pair = d0.pair Reg.MIR_PAIR_LO ∧ d0.hold.phase < 3 ∧ d0.mir.unitConflict = false ∧ ∃ (t :
        Nat), d0.mir.waitArb = [] ∧ d0.mir.role = .standby ∧ d0.mir.hbProposed = some t ∧ d0.noLease = false ∧ epoch = d0.mir.epoch + 1 ∧ result = 0 ∧
        holder = d0.unit) :=
  ⟨⟨false, 0, 7, 0, 0, 0, 0, 255, 0, 0, sArb arbLeaseRenew .solo, by decide +kernel⟩,
   ⟨true, 1, 8, 0, 0, 0, 0, 255, 0, 0, sArb arbHandbackRequest .active, by decide +kernel⟩,
   ⟨st (mc2Off dOn), by decide +kernel⟩,
   ⟨arbM arbLeaseRenew, [], 0, 7, 0, 0, 0, 0, 255, 0, sArb arbLeaseRenew .solo, by decide +kernel⟩,
   ⟨{ arbM arbLeaseRenew with flags := 2 }, [], 0, 7, 0, 0, 0, 0, 255, 0, st (withMir dOn (fun m =>
     { m with role := .active, waitArb := [{ arbM arbLeaseRenew with flags := 2 }] })), by decide +kernel⟩,
   ⟨arbM arbLeaseRenew, [], 0, 7, 0, 3, 0, 0, 255, 0, sArb arbLeaseRenew .solo, by decide +kernel⟩,
   ⟨arbM arbLeaseRenew, [], 0, 7, 0, 4, 0, 0, 255, 0, sArb arbLeaseRenew .fenced, by decide +kernel⟩,
   ⟨{ arbM arbLeaseRequest with flags := 8 }, [], 0, 7, 0, 0, 0, 0, 255, 0, st (withMir dOn (fun m =>
     { m with role := .detached, waitArb := [{ arbM arbLeaseRequest with flags := 8 }] })), by decide +kernel⟩,
   ⟨{ arbM arbLeaseRequest with flags := 4 }, [], 0, 7, 0, 0, 0, 0, 255, 0, st (withMir dOn (fun m =>
     { m with role := .detached, waitArb := [{ arbM arbLeaseRequest with flags := 4 }] })), by decide +kernel⟩,
   ⟨arbM arbLeaseRequest, [], 0, 7, 0, 0, 0, 0, 255, 0, sArb arbLeaseRequest .detached (fun m => { m with fenceIn := true }), by decide +kernel⟩,
   ⟨arbM arbLeaseRequest, [], 0, 7, 0, 1, 0, 0, 255, 0, sArb arbLeaseRequest .detached, by decide +kernel⟩,
   ⟨arbM arbLeaseRequest, [], 0, 7, 0, 2, 0, 0, 255, 0, sArb arbLeaseRequest .detached, by decide +kernel⟩,
   ⟨arbM arbLeaseRequest, [], 0, 7, 0, 2, 0, 0, 255, 0, st (withRst (withMir dOn (fun m =>
     { m with role := .detached, waitArb := [arbM arbLeaseRequest] })) (fun r => { r with cleared := true })), by decide +kernel⟩,
   ⟨arbM arbLeaseRequest, [], 0, 7, 0, 2, 0, 0, 255, 0, sArb arbLeaseRequest .standby, by decide +kernel⟩,
   ⟨arbM arbPromoteRequest, [], 0, 7, 0, 1, 0, 0, 255, 120, sArb arbPromoteRequest .standby, by decide +kernel⟩,
   ⟨arbM arbPromoteRequest, [], 0, 7, 0, 2, 0, 0, 255, 0, sArb arbPromoteRequest .standby, by decide +kernel⟩,
   ⟨arbM arbPromoteRequest, [], 0, 7, 1, 0, 0, 0, 255, 0, sArb arbPromoteRequest .standby (fun m => { m with fenceIn := true }), by decide +kernel⟩,
   ⟨arbM arbPromoteRequest, [], 0, 7, 1, 0, 0, 0, 255, 0, sArb arbPromoteRequest .standby, by decide +kernel⟩,
   ⟨arbM arbHandbackRequest, [], 0, 7, 1, 0, 0, 0, 255, 0, sArb arbHandbackRequest .active (fun m => { m with hbHolder := 2 }), by decide +kernel⟩,
   ⟨arbM arbHandbackRequest, [], 0, 7, 0, 1, 0, 0, 255, 0, sArb arbHandbackRequest .active (fun m => { m with hbHolder := 2 }), by decide +kernel⟩,
   ⟨0, 7, 1, 0, 0, 0, 255, 0, st (withMir dOn (fun m => { m with role := .standby, hbProposed := some 3 })), by decide +kernel, by decide +kernel,
     by decide +kernel, by decide +kernel, by decide +kernel, 3, by decide +kernel⟩⟩

theorem test_wit_lease_and_role_timers :
    (∃ (t : Nat) (s : State), s.dev.mir.deadline = some t ∧ s.dev.placesWrites = true) ∧
    (∃ (s : State), (s.dev.mir.deadline = none ∨ s.dev.placesWrites = false)) ∧
    (∃ (s : State), s.dev.mir.notices ≠ 0) ∧
    (∃ (s : State), s.dev.mir.notices = 0) ∧
    (∃ (s : State), s.dev.coreUp 2 = false) ∧
    (∃ (s : State), s.dev.coreUp 2 = true ∧ s.dev.placesWrites = true ∧ s.dev.hold.bottle = none) ∧
    (∃ (m : ArbMsg) (rest : List ArbMsg) (s : State), s.dev.coreUp 2 = true ∧ s.dev.mir.waitArb = m :: rest ∧ m.tried = false ∧
      let d := s.dev.waitUntil (m.sentAt + 10000)
      let e := d.setMir { d.mir with waitArb := if m.seq < 2 ^ 64 then { m with tried := true } :: rest else rest }
      m.kind = arbLeaseRenew ∧ e.placesWrites = true) ∧
    (∃ (m : ArbMsg) (rest : List ArbMsg) (s : State), s.dev.coreUp 2 = true ∧ s.dev.mir.waitArb = m :: rest ∧ m.tried = false ∧
      let d := s.dev.waitUntil (m.sentAt + 10000)
      let e := d.setMir { d.mir with waitArb := if m.seq < 2 ^ 64 then { m with tried := true } :: rest else rest }
      m.kind = arbPromoteRequest ∧ e.mir.role = .standby) ∧
    (∃ (m : ArbMsg) (rest : List ArbMsg) (s : State), s.dev.coreUp 2 = true ∧ s.dev.mir.waitArb = m :: rest ∧ m.tried = false ∧
      let d := s.dev.waitUntil (m.sentAt + 10000)
      let e := d.setMir { d.mir with waitArb := if m.seq < 2 ^ 64 then { m with tried := true } :: rest else rest }
      m.kind = arbLeaseRequest ∧ (e.mir.role = .detached ∨ e.mir.role = .fenced)) ∧
    (∃ (m : ArbMsg) (rest : List ArbMsg) (s : State), s.dev.coreUp 2 = true ∧ s.dev.mir.waitArb = m :: rest ∧ m.tried = false ∧ m.kind =
      arbHandbackRequest) ∧
    (∃ (s : State), s.dev.mir.waitArb = []) ∧
    (∃ (t : Nat) (s : State), s.dev.mir.pinsDue = some t) ∧
    (∃ (s : State), s.dev.coreUp 2 = true ∧ s.dev.mir.role = .detached ∧ s.dev.rst.resolved = true ∧ s.dev.rst.awaits = [] ∧ s.dev.mir.serving = false
      ∧ s.dev.preferred = false ∧ s.dev.mir.twinRole ≠ some .active ∧ s.dev.mir.twinRole ≠ some .solo) ∧
    (∃ (t : Nat) (s : State), s.dev.coreUp 2 = true ∧ s.dev.mir.promoteAt = some t ∧ s.dev.mir.role ≠ .standby) ∧
    (∃ (t : Nat) (s : State), s.dev.coreUp 2 = true ∧ s.dev.mir.promoteAt = some t ∧ s.dev.mir.role = .standby) ∧
    (∃ (t : Nat) (s : State), s.dev.coreUp 2 = true ∧ s.dev.mir.hbArmedAt = some t ∧ s.dev.hbRuns = true) ∧
    (∃ (s : State), s.dev.coreUp 2 = true ∧ s.dev.mir.hbHolder = 1 ∧ s.dev.mir.role = .active ∧ s.dev.pst.openRecs = [] ∧ s.dev.sealedCount = 0) ∧
    (∃ (s : State), s.dev.coreUp 2 = true ∧ s.dev.mir.hbHolder = 2 ∧ s.dev.mir.role = .active) :=
  ⟨⟨100000, st (withMir dOn (fun m => { m with deadline := some 100000 })), by decide +kernel⟩,
   ⟨st dOn, by decide +kernel⟩,
   ⟨st (withMir dOn (fun m => { m with role := .fenced, notices := 2 })), by decide +kernel⟩,
   ⟨st dOn, by decide +kernel⟩,
   ⟨st (mc2Off dOn), by decide +kernel⟩,
   ⟨st dOn, by decide +kernel⟩,
   ⟨arbM arbLeaseRenew, [], sArb arbLeaseRenew .solo, by decide +kernel⟩,
   ⟨arbM arbPromoteRequest, [], sArb arbPromoteRequest .standby, by decide +kernel⟩,
   ⟨arbM arbLeaseRequest, [], sArb arbLeaseRequest .detached, by decide +kernel⟩,
   ⟨arbM arbHandbackRequest, [], sArb arbHandbackRequest .active (fun m => { m with hbHolder := 2 }), by decide +kernel⟩,
   ⟨st dOn, by decide +kernel⟩,
   ⟨10000, st (withMir dOn (fun m => { m with role := .fenced, pinsDue := some 10000 })), by decide +kernel⟩,
   ⟨st (withMir (dOn.setFld Fld.MIR_CTRL_PREF_STANDBY 1) (fun m => { m with role := .detached, serving := false })), by decide +kernel⟩,
   ⟨7, st (withMir dOn (fun m => { m with promoteAt := some 7 })), by decide +kernel⟩,
   ⟨120000, st (withMir dOn (fun m => { m with role := .standby, promoteAt := some 120000 })), by decide +kernel⟩,
   ⟨5, st (withMir dOn (fun m => { m with role := .standby, hbArmedAt := some 5, twinPref := some true, twinHb := true })), by decide +kernel⟩,
   ⟨st (withMir dOn (fun m => { m with role := .active, hbHolder := 1 })), by decide +kernel⟩,
   ⟨st (withMir dOn (fun m => { m with role := .active, hbHolder := 2 })), by decide +kernel⟩⟩

theorem test_wit_fencing_stops_writes :
    (∃ (d : Device), d.placesWrites = false) ∧
    (∃ (d : Device), d.placesWrites = true ∧ d.mir.step10 = [] ∧ d.adm.held = [] ∧ d.pst.placeWait = [] ∧ d.pst.fences = [] ∧ d.csk.gate = [] ∧
      d.pst.openRecs = [] ∧ d.cascadeShared = false ∧ d.cascadeMember = false ∧ d.cascadeMaster = false) :=
  ⟨⟨stby dOn, by decide +kernel⟩,
   ⟨withPst dOn (fun p => { p with vints := [vint1] }), by decide +kernel⟩⟩

theorem test_wit_link_events :
    (∃ (lane : Nat) (s : State), lane < 16 ∧ page? s.dev.mir.lanes lane = true) ∧
    (∃ (lane : Nat) (s : State), (16 ≤ lane ∨ page? s.dev.mir.lanes lane = false)) ∧
    (∃ (lanes : BitVec 16) (s : State), s.dev.hubOn = true ∧ s.dev.hold.bottle = none ∧ bestWidth lanes (s.dev.fld Fld.MIR_LINK_CFG_MIN_LANES) = 0) ∧
    (∃ (s : State), (s.dev.hubOn = false ∨ s.dev.hold.bottle ≠ none)) ∧
    (∃ (lanes : BitVec 16) (s : State), s.dev.hubOn = true ∧ s.dev.hold.bottle = none ∧
      let w := bestWidth lanes (s.dev.fld Fld.MIR_LINK_CFG_MIN_LANES)
      let was := s.dev.mir.width
      w ≠ 0 ∧ ∃ t, s.dev.mir.widenAt = some t ∧ s.dev.now < t + 10000000 ∧ was < w ∧ was ≠ 0) ∧
    (∃ (lanes : BitVec 16) (s : State), s.dev.hubOn = true ∧ s.dev.hold.bottle = none ∧
      let w := bestWidth lanes (s.dev.fld Fld.MIR_LINK_CFG_MIN_LANES)
      let was := s.dev.mir.width
      let d := s.dev.setMir { s.dev.mir with lanes := lanes, retests := (List.range 16).filter (fun n => !page? lanes n) }
      w ≠ 0 ∧ (∀ t, s.dev.mir.widenAt = some t → was < w → was ≠ 0 → t + 10000000 ≤ s.dev.now) ∧
      let d : Device := if was < w ∧ was ≠ 0 then (d.setMir { d.mir with widenAt := some d.now }).bumpSat Fld.MIR_LINK_STATUS_RETRAINS else d
      let d := (d.setMir
        { d.mir with width := w, linkUp := true, lastGoodAt := d.now, twinOther := d.mir.twinOther && d.mir.linkUp, rxSkip := false, rxWant := none, rxFirst := d.mir.rxFirst || was == 0 }).endAbsence
      let d : Device := if w < was then d.raise Reg.MIR_INT_STATUS 3 3 else d
      d.sup.joinBack = true ∧ d.sup.state = .on ∧ d.mir.role = .detached) ∧
    (∃ (lanes : BitVec 16) (s : State), s.dev.hubOn = true ∧ s.dev.hold.bottle = none ∧
      let w := bestWidth lanes (s.dev.fld Fld.MIR_LINK_CFG_MIN_LANES)
      let was := s.dev.mir.width
      let d := s.dev.setMir { s.dev.mir with lanes := lanes, retests := (List.range 16).filter (fun n => !page? lanes n) }
      w ≠ 0 ∧ (∀ t, s.dev.mir.widenAt = some t → was < w → was ≠ 0 → t + 10000000 ≤ s.dev.now) ∧
      let d : Device := if was < w ∧ was ≠ 0 then (d.setMir { d.mir with widenAt := some d.now }).bumpSat Fld.MIR_LINK_STATUS_RETRAINS else d
      let d := (d.setMir
        { d.mir with width := w, linkUp := true, lastGoodAt := d.now, twinOther := d.mir.twinOther && d.mir.linkUp, rxSkip := false, rxWant := none, rxFirst := d.mir.rxFirst || was == 0 }).endAbsence
      let d : Device := if w < was then d.raise Reg.MIR_INT_STATUS 3 3 else d
      (d.sup.joinBack = false ∨ d.sup.state ≠ .on ∨ d.mir.role ≠ .detached) ∧ (d.rst.phase = 4 ∨ d.rst.phase = 9)) ∧
    (∃ (lanes : BitVec 16) (s : State), s.dev.hubOn = true ∧ s.dev.hold.bottle = none ∧
      let w := bestWidth lanes (s.dev.fld Fld.MIR_LINK_CFG_MIN_LANES)
      let was := s.dev.mir.width
      let d := s.dev.setMir { s.dev.mir with lanes := lanes, retests := (List.range 16).filter (fun n => !page? lanes n) }
      w ≠ 0 ∧ (∀ t, s.dev.mir.widenAt = some t → was < w → was ≠ 0 → t + 10000000 ≤ s.dev.now) ∧
      let d : Device := if was < w ∧ was ≠ 0 then (d.setMir { d.mir with widenAt := some d.now }).bumpSat Fld.MIR_LINK_STATUS_RETRAINS else d
      let d := (d.setMir
        { d.mir with width := w, linkUp := true, lastGoodAt := d.now, twinOther := d.mir.twinOther && d.mir.linkUp, rxSkip := false, rxWant := none, rxFirst := d.mir.rxFirst || was == 0 }).endAbsence
      let d : Device := if w < was then d.raise Reg.MIR_INT_STATUS 3 3 else d
      (d.sup.joinBack = false ∨ d.sup.state ≠ .on ∨ d.mir.role ≠ .detached) ∧ d.rst.phase ≠ 4 ∧ d.rst.phase ≠ 9) ∧
    (∃ (lanes : BitVec 16) (s : State), s.dev.hubOn = true ∧ s.dev.hold.bottle = none ∧ s.dev.mir.width = 0 ∧ bestWidth lanes (s.dev.fld
      Fld.MIR_LINK_CFG_MIN_LANES) ≠ 0 ∧ s.dev.sup.joinBack = false ∧ s.dev.rst.phase ≠ 4 ∧ s.dev.rst.phase ≠ 9) ∧
    (∃ (lane : Nat) (s : State), s.dev.mir.retests.contains lane = true) ∧
    (∃ (lane : Nat) (s : State), s.dev.mir.retests.contains lane = false) ∧
    (∃ (s : State), s.dev.mir.linkUp = true ∧ s.dev.receives = false) ∧
    (∃ (s : State), s.dev.mir.linkUp = false ∧ s.dev.mir.absent = false) ∧
    (∃ (s : State), (s.dev.mir.linkUp = true ∨ s.dev.mir.absent = true)) ∧
    (∃ (s : State), (s.dev.placesWrites = false ∨ s.dev.mir.twinRole ≠ some .detached ∨ s.dev.mir.absent = true ∨ s.dev.mir.attached = true)) ∧
    (∃ (s : State), s.dev.placesWrites = true ∧ s.dev.mir.twinRole = some .detached ∧ s.dev.mir.absent = false ∧ s.dev.mir.attached = false) ∧
    (∃ (s : State), s.dev.mir.attached = true) ∧
    (∃ (lanes : BitVec 16) (m : Nat), bestWidth lanes m = 16) ∧
    (∃ (m : Nat), m = 1) ∧
    (∃ (m : Nat), m = 2) ∧
    (∃ (lanes : BitVec 16) (m : Nat), lanes.toNat % 16 = 15 ∧ m = 0) ∧
    (∃ (lanes : BitVec 16), lanes = 0) :=
  ⟨⟨15, st dAct, by decide +kernel⟩,
   ⟨3, st dOn, by decide +kernel⟩,
   ⟨0x0007, st dOn, by decide +kernel⟩,
   ⟨st { dOn with hubOn := false }, by decide +kernel⟩,
   ⟨0xFFFF, st (withMir dAct (fun m => { m with width := 4, widenAt := some 0 })), by decide +kernel, by decide +kernel, by decide +kernel, 0,
     by decide +kernel⟩,
   ⟨0xFFFF, st (withSup (withMir dAct (fun m => { m with role := .detached })) (fun u => { u with joinBack := true })), by decide +kernel,
     by decide +kernel, by decide +kernel, (fun _ h => nomatch h), by decide +kernel, by decide +kernel, by decide +kernel⟩,
   ⟨0xFFFF, st (withRst dAct (fun r => { r with phase := 4 })), by decide +kernel, by decide +kernel, by decide +kernel, (fun _ h => nomatch h),
     by decide +kernel, by decide +kernel⟩,
   ⟨0xFFFF, st dAct, by decide +kernel, by decide +kernel, by decide +kernel, (fun _ h => nomatch h), by decide +kernel, by decide +kernel,
     by decide +kernel⟩,
   ⟨0x000F, st (withRst dOn (fun r => { r with phase := 5 })), by decide +kernel⟩,
   ⟨3, st (withMir dOn (fun m => { m with retests := [3] })), by decide +kernel⟩,
   ⟨3, st dOn, by decide +kernel⟩,
   ⟨st dAct, by decide +kernel⟩,
   ⟨st dOn, by decide +kernel⟩,
   ⟨st dAct, by decide +kernel⟩,
   ⟨st dOn, by decide +kernel⟩,
   ⟨st (withMir dOn (fun m => { m with twinRole := some .detached })), by decide +kernel⟩,
   ⟨st dAct, by decide +kernel⟩,
   ⟨0xFFFF, 0, by decide +kernel⟩,
   ⟨1, by decide +kernel⟩,
   ⟨2, by decide +kernel⟩,
   ⟨0x000F, 0, by decide +kernel⟩,
   ⟨0, by decide +kernel⟩⟩

theorem test_wit_vintage_frames :
    (∃ (epoch : Nat) (s : State), s.dev.mir.linkUp = true ∧ s.dev.qmg.bad.contains 0x41 = false ∧ s.dev.mayReserve 0x41 frameMax 0x410 = true ∧
      s.dev.receives = true ∧ epoch = s.dev.mir.epoch) ∧
    (∃ (num : Nat) (s : State), s.dev.mir.linkUp = true ∧ s.dev.qmg.bad.contains 0x41 = false ∧ s.dev.mayReserve 0x41 frameMax 0x410 = true ∧
      s.dev.receives = false ∧ s.dev.rst.awaits.contains num = false ∧ s.dev.placesWrites = false) ∧
    (∃ (lseq num off : Nat) (x : RxImage) (s : State), s.dev.hears lseq = true ∧ s.dev.mir.rxWant = none ∧ s.dev.pst.rx = some x ∧ x.num = num ∧ x.got
      = off) ∧
    (∃ (lseq num len count : Nat) (imageOk : Bool) (x : RxImage) (s : State), s.dev.hears lseq = true ∧ s.dev.pst.rx = some x ∧ x.num = num ∧ (x.got ≠
      len ∨ x.len ≠ len ∨ x.recs.length ≠ count ∨ imageOk = false)) ∧
    (∃ (lseq num len count : Nat) (x : RxImage) (s : State), s.dev.hears lseq = true ∧ s.dev.pst.rx = some x ∧ x.num = num ∧ x.got = len ∧ x.len = len
      ∧ x.recs.length = count ∧ s.dev.rst.awaits = [] ∧ x.epoch = s.dev.mir.epoch ∧ x.prev = s.dev.mir.lastWhole) ∧
    (∃ (lseq : Nat) (s : State), s.dev.hears lseq = true) ∧
    (∃ (lseq num : Nat) (v : Vintage) (s : State), s.dev.hears lseq = true ∧
      let sent := (if s.dev.ships then s.dev.pst.vints else []) ++ s.dev.rst.sentPend.map s.dev.pendVint
      (sent.find? (fun v => v.own && v.shipped && v.num == num) = some v) ∧
      let n := AMap.getD (fun _ => 0) s.dev.mir.vnaks num + 1
      n ≤ 8) ∧
    (∃ (lseq num : Nat) (v : Vintage) (s : State), s.dev.hears lseq = true ∧
      let sent := (if s.dev.ships then s.dev.pst.vints else []) ++ s.dev.rst.sentPend.map s.dev.pendVint
      (sent.find? (fun v => v.own && v.shipped && v.num == num) = some v) ∧
      let n := AMap.getD (fun _ => 0) s.dev.mir.vnaks num + 1
      8 < n) ∧
    (∃ (s : State), s.dev.mir.linkUp = false) ∧
    (∃ (crc : Bool) (s : State), s.dev.mir.linkUp = true ∧ (crc = false ∨ s.dev.qmg.bad.contains 0x41 = true) ∧
      let d := (s.dev.passing 0x41).2
      (d.vintagesCome = false ∨ d.mir.rxSkip = true)) ∧
    (∃ (crc : Bool) (s : State), s.dev.mir.linkUp = true ∧ (crc = false ∨ s.dev.qmg.bad.contains 0x41 = true) ∧
      let d := (s.dev.passing 0x41).2
      d.vintagesCome = true ∧ d.mir.rxSkip = false) ∧
    (∃ (s : State), s.dev.mir.linkUp = true ∧ s.dev.qmg.bad.contains 0x41 = false ∧ s.dev.mayReserve 0x41 frameMax 0x410 = false) ∧
    (∃ (x : RxImage) (d : Device), d.pst.rx = some x) ∧
    (∃ (d : Device), d.pst.rx = none) :=
  ⟨⟨0, st (dLink .standby), by decide +kernel⟩,
   ⟨5, st (dLink .detached), by decide +kernel⟩,
   ⟨1, 5, 50, { rx1 with got := 50, recs := [] }, st (withPst (dLink .standby) (fun p => { p with rx := some { rx1 with got := 50, recs := [] } })),
     by decide +kernel⟩,
   ⟨1, 5, 100, 2, true, rx1, st (withPst (dLink .standby) (fun p => { p with rx := some rx1 })), by decide +kernel⟩,
   ⟨1, 5, 100, 1, rx1, st (withPst (dLink .standby) (fun p => { p with rx := some rx1 })), by decide +kernel⟩,
   ⟨1, st (withPst dAct (fun p => { p with vints := [vintS] })), by decide +kernel⟩,
   ⟨1, 5, vintS, st (withPst dAct (fun p => { p with vints := [vintS] })), by decide +kernel⟩,
   ⟨1, 5, vintS, st (withMir (withPst dAct (fun p => { p with vints := [vintS] })) (fun m => { m with vnaks := [(5, 8)] })), by decide +kernel⟩,
   ⟨st dOn, by decide +kernel⟩,
   ⟨false, st dAct, by decide +kernel⟩,
   ⟨false, st (dLink .standby), by decide +kernel⟩,
   ⟨st ((dLink .standby).setQueue 0x41 { state := 2, cls := 1, owner := 0x410, pkts := [] }), by decide +kernel⟩,
   ⟨rx1, withPst (dLink .standby) (fun p => { p with rx := some rx1 }), by decide +kernel⟩,
   ⟨dLink .standby, by decide +kernel⟩⟩

theorem test_wit_role_frames :
    (∃ (lseq : Nat) (s : State), s.dev.hears lseq = true ∧ s.dev.coreUp 2 = false) ∧
    (∃ (lseq : Nat) (s : State), s.dev.hears lseq = true ∧ s.dev.coreUp 2 = true ∧ s.dev.mir.role ≠ .detached) ∧
    (∃ (lseq : Nat) (s : State), s.dev.hears lseq = true ∧ s.dev.coreUp 2 = true ∧ s.dev.mir.role = .detached ∧ s.dev.rst.resolved = true ∧
      s.dev.rst.awaits = [] ∧ s.dev.mir.serving = false ∧ s.dev.preferred = false ∧ s.dev.mir.waitArb = []) ∧
    (∃ (lseq : Nat) (s : State), s.dev.hears lseq = true ∧ s.dev.coreUp 2 = true ∧ s.dev.mir.joinReq = true) ∧
    (∃ (lseq : Nat) (s : State), s.dev.hears lseq = true ∧ s.dev.coreUp 2 = true ∧ s.dev.mir.joinReq = false) ∧
    (∃ (lseq : Nat) (s : State), s.dev.hears lseq = true ∧ s.dev.coreUp 2 = true ∧ s.dev.mir.role ≠ .resync) ∧
    (∃ (lseq : Nat) (s : State), s.dev.hears lseq = true ∧ s.dev.coreUp 2 = true ∧ (s.dev.mir.role ≠ .active ∨ s.dev.mir.hbHolder ≠ 0)) ∧
    (∃ (lseq : Nat) (s : State), s.dev.hears lseq = true ∧ s.dev.coreUp 2 = true ∧ s.dev.mir.role = .resync) ∧
    (∃ (lseq : Nat) (s : State), s.dev.hears lseq = true ∧ s.dev.coreUp 2 = true ∧ s.dev.mir.role = .active ∧ s.dev.mir.hbHolder = 0) ∧
    (∃ (lseq : Nat) (s : State), s.dev.hears lseq = true ∧ ∃ (width : Nat), s.dev.placesWrites = true ∧ s.dev.mir.unitConflict = false ∧ width ≤ 16 ∧
      s.dev.csk.gate = [] ∧ s.dev.mir.step10 = [] ∧ s.dev.adm.held = [] ∧ s.dev.pst.placeWait = [] ∧ s.dev.pst.fences = [] ∧ s.dev.pst.openRecs = [] ∧
      s.dev.trl.mode = 0) ∧
    (∃ (lseq : Nat) (s : State), s.dev.hears lseq = true ∧ ∃ (unit width : Nat) (same : Bool), width ≤ 16 ∧ unit ≠ s.dev.unit ∧ same = false) ∧
    (∃ (lseq : Nat) (s : State), s.dev.hears lseq = true ∧ ∃ (role unit width : Nat) (same : Bool), width ≤ 16 ∧ unit ≠ s.dev.unit ∧
      let r := roleOf role
      same = true ∧ r = .detached ∧ s.dev.mir.twinOther = true) ∧
    (∃ (lseq : Nat) (s : State), s.dev.hears lseq = true ∧
      let d := s.dev.heard lseq
      ∃ (h epoch role unit width dp limit high freeKib wbRate admState : Nat) (pref hb same : Bool), width ≤ 16 ∧ unit ≠ s.dev.unit ∧
      let r := roleOf role
      let e := d.setMir
        { d.mir with twinRole := some r, twinUnit := some unit, twinPref := some pref, twinHb := hb, twinEpoch := epoch, twinOther := d.mir.twinOther || r != .detached, learned := max d.mir.learned h }
      let b : Budget := { dirtyPages := dp, limit := limit, high := high, freeKib := freeKib, wbRate := wbRate, admState := admState }
      let e := if r = .active ∨ r = .solo then (e.setMir { e.mir with budget := some b, budgetAt := e.now }).reevalAdmit else e.takeBudget h b
      let e := (e.setMir { e.mir with unitConflict := false }).learnEpoch epoch
      same = true ∧ r ≠ .detached ∧
      let e := e.endAbsence
      let e := if (r = .standby ∨ r = .resync) ∧ e.mir.role = .active then e.attachTwin else e
      e.mir.role = .standby ∧ r = .fenced) ∧
    (∃ (lseq : Nat) (s : State), s.dev.hears lseq = true ∧ ∃ (role unit width : Nat) (same : Bool), width ≤ 16 ∧ unit ≠ s.dev.unit ∧
      let r := roleOf role
      same = true ∧ r ≠ .detached ∧ (r = .standby ∨ r = .resync)) ∧
    (∃ (lseq : Nat) (s : State), s.dev.hears lseq = true ∧
      let d := s.dev.heard lseq
      ∃ (h epoch role unit width dp limit high freeKib wbRate admState : Nat) (pref hb same : Bool), width ≤ 16 ∧ unit ≠ s.dev.unit ∧
      let r := roleOf role
      let e := d.setMir
        { d.mir with twinRole := some r, twinUnit := some unit, twinPref := some pref, twinHb := hb, twinEpoch := epoch, twinOther := d.mir.twinOther || r != .detached, learned := max d.mir.learned h }
      let b : Budget := { dirtyPages := dp, limit := limit, high := high, freeKib := freeKib, wbRate := wbRate, admState := admState }
      let e := if r = .active ∨ r = .solo then (e.setMir { e.mir with budget := some b, budgetAt := e.now }).reevalAdmit else e.takeBudget h b
      let e := (e.setMir { e.mir with unitConflict := false }).learnEpoch epoch
      same = true ∧ r ≠ .detached ∧
      let e := e.endAbsence
      let e := if (r = .standby ∨ r = .resync) ∧ e.mir.role = .active then e.attachTwin else e
      (r = .active ∨ r = .solo) ∧ e.coreUp 2 = false) ∧
    (∃ (lseq : Nat) (s : State), s.dev.hears lseq = true ∧
      let d := s.dev.heard lseq
      ∃ (h epoch role unit width dp limit high freeKib wbRate admState : Nat) (pref hb same : Bool), width ≤ 16 ∧ unit ≠ s.dev.unit ∧
      let r := roleOf role
      let e := d.setMir
        { d.mir with twinRole := some r, twinUnit := some unit, twinPref := some pref, twinHb := hb, twinEpoch := epoch, twinOther := d.mir.twinOther || r != .detached, learned := max d.mir.learned h }
      let b : Budget := { dirtyPages := dp, limit := limit, high := high, freeKib := freeKib, wbRate := wbRate, admState := admState }
      let e := if r = .active ∨ r = .solo then (e.setMir { e.mir with budget := some b, budgetAt := e.now }).reevalAdmit else e.takeBudget h b
      let e := (e.setMir { e.mir with unitConflict := false }).learnEpoch epoch
      same = true ∧ r ≠ .detached ∧
      let e := e.endAbsence
      let e := if (r = .standby ∨ r = .resync) ∧ e.mir.role = .active then e.attachTwin else e
      (r = .active ∨ r = .solo) ∧ e.coreUp 2 = true ∧ e.mir.role = .fenced ∧ e.mir.joinReq = false) ∧
    (∃ (lseq : Nat) (s : State), s.dev.hears lseq = true ∧
      let d := s.dev.heard lseq
      ∃ (h epoch role unit width dp limit high freeKib wbRate admState : Nat) (pref hb same : Bool), width ≤ 16 ∧ unit ≠ s.dev.unit ∧
      let r := roleOf role
      let e := d.setMir
        { d.mir with twinRole := some r, twinUnit := some unit, twinPref := some pref, twinHb := hb, twinEpoch := epoch, twinOther := d.mir.twinOther || r != .detached, learned := max d.mir.learned h }
      let b : Budget := { dirtyPages := dp, limit := limit, high := high, freeKib := freeKib, wbRate := wbRate, admState := admState }
      let e := if r = .active ∨ r = .solo then (e.setMir { e.mir with budget := some b, budgetAt := e.now }).reevalAdmit else e.takeBudget h b
      let e := (e.setMir { e.mir with unitConflict := false }).learnEpoch epoch
      same = true ∧ r ≠ .detached ∧
      let e := e.endAbsence
      let e := if (r = .standby ∨ r = .resync) ∧ e.mir.role = .active then e.attachTwin else e
      (r = .active ∨ r = .solo) ∧ e.coreUp 2 = true ∧ e.mir.role = .detached ∧ e.rst.cleared = false ∧ e.rst.noImage = false ∧ e.agreed = true ∧
        e.mir.serving = false) ∧
    (∃ (lseq : Nat) (s : State), s.dev.hears lseq = true ∧ ∃ (width : Nat), 16 < width) ∧
    (∃ (lseq : Nat) (s : State), s.dev.hears lseq = true ∧ ∃ (role : Nat) (noImage : Bool), role ≤ 15 ∧ noImage = false) ∧
    (∃ (lseq : Nat) (s : State), s.dev.hears lseq = true ∧ ∃ (role : Nat), role ≤ 15 ∧ s.dev.rst.phase = 4 ∧ s.dev.rst.resolved = true ∧
      s.dev.rst.noImage = false) ∧
    (∃ (lseq : Nat) (s : State), s.dev.hears lseq = true ∧ ∃ (role : Nat), role ≤ 15 ∧ (s.dev.rst.phase = 4 ∨ s.dev.rst.phase = 9) ∧
      s.dev.rst.resolved = false) :=
  ⟨⟨1, st (mc2Off dAct), by decide +kernel⟩,
   ⟨1, st dAct, by decide +kernel⟩,
   ⟨1, st ((dLink .detached (fun m => { m with serving := false })).setFld Fld.MIR_CTRL_PREF_STANDBY 1), by decide +kernel⟩,
   ⟨1, st (dLink .detached (fun m => { m with joinReq := true })), by decide +kernel⟩,
   ⟨1, st dAct, by decide +kernel⟩,
   ⟨1, st dAct, by decide +kernel⟩,
   ⟨1, st (dLink .active (fun m => { m with hbHolder := 1 })), by decide +kernel⟩,
   ⟨1, st (dLink .resync), by decide +kernel⟩,
   ⟨1, st dAct, by decide +kernel⟩,
   ⟨1, st dAct, by decide +kernel, 16, by decide +kernel⟩,
   ⟨1, st dAct, by decide +kernel, 1, 16, false, by decide +kernel⟩,
   ⟨1, st (dLink .active (fun m => { m with twinOther := true })), by decide +kernel, 0, 1, 16, true, by decide +kernel⟩,
   ⟨1, st (dLink .standby), by decide +kernel, 5, 0, 5, 1, 16, 0, 100, 90, 1000, 1, 0, false, false, true, by decide +kernel⟩,
   ⟨1, st dAct, by decide +kernel, 3, 1, 16, true, by decide +kernel⟩,
   ⟨1, st (mc2Off (dLink .fenced)), by decide +kernel, 5, 0, 1, 1, 16, 0, 100, 90, 1000, 1, 0, false, false, true, by decide +kernel⟩,
   ⟨1, st (dLink .fenced), by decide +kernel, 5, 0, 1, 1, 16, 0, 100, 90, 1000, 1, 0, false, false, true, by decide +kernel⟩,
   ⟨1, st (dLink .detached (fun m => { m with serving := false })), by decide +kernel, 5, 0, 1, 1, 16, 0, 100, 90, 1000, 1, 0, false, false, true,
     by decide +kernel⟩,
   ⟨1, st dAct, by decide +kernel, 17, by decide +kernel⟩,
   ⟨1, st dAct, by decide +kernel, 3, false, by decide +kernel⟩,
   ⟨1, st (withRst dAct (fun r => { r with phase := 4 })), by decide +kernel, 3, by decide +kernel⟩,
   ⟨1, st (withRst dAct (fun r => { r with phase := 4, resolved := false })), by decide +kernel, 0, by decide +kernel⟩⟩

theorem test_wit_resolution_and_joins :
    (∃ (d : Device), d.rst.resolved = true) ∧
    (∃ (d : Device), d.rst.resolved = false ∧ d.cascadeShared = false ∧ d.rst.pend = [] ∧ d.rst.phase ≠ 4) ∧
    (∃ (d : Device) (h epoch : Nat), d.placesWrites = true ∧ d.mir.soloPend = false ∧ ∃ p, d.joinPoint h epoch = some p ∧ p < h) ∧
    (∃ (d : Device) (h epoch : Nat), d.placesWrites = true ∧ d.mir.soloPend = false ∧ d.joinPoint h epoch = none) ∧
    (∃ (d : Device), bitAt (d.reg Reg.MIR_INT_STATUS) 7 = false) ∧
    (∃ (d : Device), (d.placesWrites = false ∨ d.mir.soloPend = true)) ∧
    (∃ (h : Nat), h ≠ 0) ∧
    (∃ (d : Device) (h epoch p : Nat), d.mir.role = .active ∧ d.mir.soloPend = false ∧ d.drm.short = false ∧ h ≠ 0 ∧ d.joinPoint h epoch = some p ∧ h
      ≤ p) :=
  ⟨⟨dOn, by decide +kernel⟩,
   ⟨withRst dOn (fun r => { r with resolved := false }), by decide +kernel⟩,
   ⟨dAct, 5, 0, by decide +kernel, by decide +kernel, 0, by decide +kernel⟩,
   ⟨dAct, 5, 9, by decide +kernel⟩,
   ⟨dAct, by decide +kernel⟩,
   ⟨stby dOn, by decide +kernel⟩,
   ⟨3, by decide +kernel⟩,
   ⟨withPst dAct (fun p => { p with commitNum := 5 }), 5, 0, 5, by decide +kernel⟩⟩

theorem test_wit_recovery_and_resync :
    (∃ (lseq aMin : Nat) (s : State), s.dev.hears lseq = true ∧
      let d := s.dev.heard lseq
      d.pst.appliedNum < aMin) ∧
    (∃ (lseq cask rack page aMin : Nat) (s : State), s.dev.hears lseq = true ∧
      let d := s.dev.heard lseq
      aMin ≤ d.pst.appliedNum ∧ (d.pagePoisoned cask rack page = true ∨ d.pageRefetch cask rack page = true)) ∧
    (∃ (lseq cask rack page aMin : Nat) (s : State), s.dev.hears lseq = true ∧
      let d := s.dev.heard lseq
      aMin ≤ d.pst.appliedNum ∧ d.pagePoisoned cask rack page = false ∧ d.pageRefetch cask rack page = false) ∧
    (∃ (lseq cask rack page tag : Nat) (f : Pfetch) (s : State), s.dev.hears lseq = true ∧ (s.dev.mir.pfetch.find? (fun f => f.cask == cask && f.rack
      == rack && f.page == page && f.tag == tag) = some f)) ∧
    (∃ (cask rack page : Nat) (f : Pfetch) (s : State), (s.dev.mir.pfetch.find? (fun f => f.cask == cask && f.rack == rack && f.page == page) = some
      f)) ∧
    (∃ (b : Budget) (s : State), s.dev.mir.role = .active ∧ s.dev.mir.twinRole = some .resync ∧ s.dev.mir.budget = some b ∧ b.admState = 0 ∧
      s.dev.targetGen.isSome ∧ s.dev.coreUp 2 = true) ∧
    (∃ (s : State), s.dev.mir.role ≠ .active) ∧
    (∃ (s : State), s.dev.mir.role = .active ∧ s.dev.mir.twinRole = some .resync ∧ s.dev.mir.absence = [] ∧ s.dev.mir.absCasks = [] ∧
      s.dev.mir.absGrants = [] ∧ s.dev.mir.syncLast = none ∧ s.dev.trl.mode = 0 ∧ s.dev.others = [] ∧ s.dev.coreUp 2 = true) ∧
    (∃ (s : State), s.dev.mir.joinReq = false ∧ s.dev.mir.hbProposed = none ∧ s.dev.rst.phase ≠ 4 ∧ s.dev.rst.phase ≠ 9 ∧ s.dev.mir.pfetch = []) ∧
    (∃ (s : State), s.dev.joins = true ∧ s.dev.coreUp 2 = true ∧ s.dev.mir.hbProposed = none ∧ s.dev.rst.phase ≠ 4 ∧ s.dev.rst.phase ≠ 9 ∧
      s.dev.mir.pfetch = []) ∧
    (∃ (t : Nat) (s : State), s.dev.mir.joinReq = false ∧ s.dev.mir.hbProposed = some t ∧ s.dev.mir.role = .standby ∧ s.dev.rst.phase ≠ 4 ∧
      s.dev.rst.phase ≠ 9 ∧ s.dev.mir.pfetch = []) ∧
    (∃ (s : State), s.dev.mir.joinReq = false ∧ s.dev.mir.hbProposed = none ∧ (s.dev.rst.phase = 4 ∨ s.dev.rst.phase = 9) ∧ s.dev.rst.resolved = false
      ∧ s.dev.mir.pfetch = []) ∧
    (∃ (f : Pfetch) (s : State), s.dev.mir.joinReq = false ∧ s.dev.mir.hbProposed = none ∧ s.dev.rst.phase ≠ 4 ∧ s.dev.rst.phase ≠ 9 ∧
      s.dev.mir.pfetch = [f] ∧ f.got = none ∧ f.asked = true) :=
  ⟨⟨1, 1, st (dLink .standby), by decide +kernel⟩,
   ⟨1, 4, 0, 0, 0, st (dPoison (dLink .standby)), by decide +kernel⟩,
   ⟨1, 4, 0, 0, 0, st (withRack (dLink .standby)), by decide +kernel⟩,
   ⟨1, 4, 0, 0, 9, pf1, st (dLink .active (fun m => { m with pfetch := [pf1] })), by decide +kernel⟩,
   ⟨4, 0, 0, pf1, st (dLink .active (fun m => { m with pfetch := [pf1] })), by decide +kernel⟩,
   ⟨bud, st (dLink .active (fun m => { m with twinRole := some .resync, absence := [rackKey 4 0] })), by decide +kernel⟩,
   ⟨st dOn, by decide +kernel⟩,
   ⟨st (dLink .active (fun m => { m with twinRole := some .resync })), by decide +kernel⟩,
   ⟨st dOn, by decide +kernel⟩,
   ⟨st (dLink .detached (fun m => { m with joinReq := true })), by decide +kernel⟩,
   ⟨7, st (dLink .standby (fun m => { m with hbProposed := some 7 })), by decide +kernel⟩,
   ⟨st (withRst dAct (fun r => { r with phase := 4, resolved := false })), by decide +kernel⟩,
   ⟨{ pf1 with asked := true }, st (dLink .active (fun m => { m with pfetch := [{ pf1 with asked := true }] })), by decide +kernel⟩⟩

theorem test_wit_converse_descriptors :
    (∃ (fn q : Nat) (x : DescState) (s : State),
      let d := s.dev.startDesc fn q x
      s.dev.takesIo fn q 0x10 x = true ∧ ∃ st, d.remoteRefuse fn x.dw = some st) ∧
    (∃ (fn q : Nat) (x : DescState) (s : State),
      let d := s.dev.startDesc fn q x
      s.dev.takesIo fn q 0x10 x = true ∧ d.remoteRefuse fn x.dw = none ∧ dCaskIo x.dw = false) ∧
    (∃ (fn q : Nat) (x : DescState) (s : State),
      let d := s.dev.startDesc fn q x
      s.dev.takesIo fn q 0x10 x = true ∧ d.remoteRefuse fn x.dw = none ∧ dCaskIo x.dw = true) ∧
    (∃ (fn q : Nat) (x : DescState) (s : State),
      let t := s.dev.takenDesc fn q x
      s.dev.takesIo fn q 0x11 x = true ∧ ∃ st, t.remoteRefuse fn x.dw = some st) ∧
    (∃ (fn q : Nat) (x : DescState) (s : State),
      let t := s.dev.takenDesc fn q x
      s.dev.takesIo fn q 0x11 x = true ∧ t.remoteRefuse fn x.dw = none) ∧
    (∃ (fn q : Nat) (x : DescState) (s : State), s.dev.takesIo fn q 0x12 x = true ∧ (2 ≤ dwF x.dw 8 31 30 ∨ (dwF x.dw 8 31 30 = 1 ∧ dwAt x.dw 12 ≠ 0))) ∧
    (∃ (fn q : Nat) (x : DescState) (s : State),
      let t := s.dev.takenDesc fn q x
      s.dev.takesIo fn q 0x12 x = true ∧ ((dwF x.dw 8 31 30 = 1 ∧ dwAt x.dw 12 = 0 ∧ t.qp? (dwF x.dw 8 23 0) = none) ∨ (dwF x.dw 8 31 30 = 0 ∧ t.ep?
        (dwF x.dw 8 23 0) = none))) ∧
    (∃ (fn q : Nat) (x : DescState) (s : State),
      let t := s.dev.takenDesc fn q x
      s.dev.takesIo fn q 0x12 x = true ∧ ∃ c, dwF x.dw 8 31 30 = 1 ∧ dwAt x.dw 12 = 0 ∧ t.qp? (dwF x.dw 8 23 0) = some c ∧ c.owner ≠ fn) ∧
    (∃ (fn q : Nat) (x : DescState) (s : State),
      let t := s.dev.takenDesc fn q x
      s.dev.takesIo fn q 0x12 x = true ∧ ∃ c, dwF x.dw 8 31 30 = 1 ∧ dwAt x.dw 12 = 0 ∧ t.qp? (dwF x.dw 8 23 0) = some c ∧ c.owner = fn ∧ c.state = 4) ∧
    (∃ (fn q : Nat) (x : DescState) (s : State),
      let t := s.dev.takenDesc fn q x
      s.dev.takesIo fn q 0x12 x = true ∧ ∃ c, dwF x.dw 8 31 30 = 1 ∧ dwAt x.dw 12 = 0 ∧ t.qp? (dwF x.dw 8 23 0) = some c ∧ c.owner = fn ∧ c.state ≠ 4
        ∧ 4096 ≤ c.recvs.length) ∧
    (∃ (fn q : Nat) (x : DescState) (s : State),
      let t := s.dev.takenDesc fn q x
      s.dev.takesIo fn q 0x12 x = true ∧ ∃ c, dwF x.dw 8 31 30 = 1 ∧ dwAt x.dw 12 = 0 ∧ t.qp? (dwF x.dw 8 23 0) = some c ∧ c.owner = fn ∧ c.state ≠ 4
        ∧ c.recvs.length < 4096) ∧
    (∃ (fn q : Nat) (x : DescState) (s : State),
      let t := s.dev.takenDesc fn q x
      s.dev.takesIo fn q 0x12 x = true ∧ ∃ g, dwF x.dw 8 31 30 = 0 ∧ t.ep? (dwF x.dw 8 23 0) = some g ∧ g.owner ≠ fn) ∧
    (∃ (fn q : Nat) (x : DescState) (s : State),
      let t := s.dev.takenDesc fn q x
      s.dev.takesIo fn q 0x12 x = true ∧ ∃ g, dwF x.dw 8 31 30 = 0 ∧ t.ep? (dwF x.dw 8 23 0) = some g ∧ g.owner = fn ∧ 4096 ≤ g.recvs.length) ∧
    (∃ (fn q : Nat) (x : DescState) (s : State),
      let t := s.dev.takenDesc fn q x
      s.dev.takesIo fn q 0x12 x = true ∧ ∃ g, dwF x.dw 8 31 30 = 0 ∧ t.ep? (dwF x.dw 8 23 0) = some g ∧ g.owner = fn ∧ g.recvs.length < 4096) ∧
    (∃ (fn : Nat) (x : DescState) (s : State),
      let e := s.dev.takenDesc fn 0 x
      s.dev.takesCore 6 fn 0xB0 x = true ∧ e.fnExists (dwF x.dw 8 9 0) = false) ∧
    (∃ (fn : Nat) (x : DescState) (s : State),
      let e := s.dev.takenDesc fn 0 x
      s.dev.takesCore 6 fn 0xB0 x = true ∧ e.fnExists (dwF x.dw 8 9 0) = true ∧ e.freeQpc = none) ∧
    (∃ (fn : Nat) (x : DescState) (s : State),
      let e := s.dev.takenDesc fn 0 x
      s.dev.takesCore 6 fn 0xB0 x = true ∧ ∃ i, e.fnExists (dwF x.dw 8 9 0) = true ∧ e.freeQpc = some i) ∧
    (∃ (fn : Nat) (x : DescState) (s : State),
      let e := s.dev.takenDesc fn 0 x
      s.dev.takesCore 6 fn 0xB1 x = true ∧ e.qp? (dwF x.dw 8 23 0) = none) ∧
    (∃ (fn : Nat) (x : DescState) (s : State),
      let e := s.dev.takenDesc fn 0 x
      s.dev.takesCore 6 fn 0xB1 x = true ∧ ∃ c, e.qp? (dwF x.dw 8 23 0) = some c ∧ (attrZeros x.data = false ∨ attrTake c.state (byteAt x.data 0)
        x.data c.attr = none)) ∧
    (∃ (fn : Nat) (x : DescState) (s : State),
      let e := s.dev.takenDesc fn 0 x
      s.dev.takesCore 6 fn 0xB1 x = true ∧ ∃ c, e.qp? (dwF x.dw 8 23 0) = some c ∧ ∃ a, attrZeros x.data = true ∧ attrTake c.state (byteAt x.data 0)
        x.data c.attr = some a ∧ byteAt x.data 0 = 4) ∧
    (∃ (fn : Nat) (x : DescState) (s : State),
      let e := s.dev.takenDesc fn 0 x
      s.dev.takesCore 6 fn 0xB1 x = true ∧ ∃ c, e.qp? (dwF x.dw 8 23 0) = some c ∧ ∃ a, attrZeros x.data = true ∧ attrTake c.state (byteAt x.data 0)
        x.data c.attr = some a ∧ byteAt x.data 0 = 0) ∧
    (∃ (fn : Nat) (x : DescState) (s : State),
      let e := s.dev.takenDesc fn 0 x
      s.dev.takesCore 6 fn 0xB1 x = true ∧ ∃ c, e.qp? (dwF x.dw 8 23 0) = some c ∧ ∃ a, attrZeros x.data = true ∧ attrTake c.state (byteAt x.data 0)
        x.data c.attr = some a ∧ byteAt x.data 0 = 1) ∧
    (∃ (fn : Nat) (x : DescState) (s : State),
      let e := s.dev.takenDesc fn 0 x
      s.dev.takesCore 6 fn 0xB1 x = true ∧ ∃ c, e.qp? (dwF x.dw 8 23 0) = some c ∧ ∃ a, attrZeros x.data = true ∧ attrTake c.state (byteAt x.data 0)
        x.data c.attr = some a ∧ byteAt x.data 0 = 2) ∧
    (∃ (fn : Nat) (x : DescState) (s : State),
      let e := s.dev.takenDesc fn 0 x
      s.dev.takesCore 6 fn 0xB1 x = true ∧ ∃ c, e.qp? (dwF x.dw 8 23 0) = some c ∧ ∃ a, attrZeros x.data = true ∧ attrTake c.state (byteAt x.data 0)
        x.data c.attr = some a ∧ byteAt x.data 0 = 3) ∧
    (∃ (fn : Nat) (x : DescState) (s : State),
      let e := s.dev.takenDesc fn 0 x
      s.dev.takesCore 6 fn 0xB2 x = true ∧ e.qp? (dwF x.dw 8 23 0) = none) ∧
    (∃ (fn : Nat) (x : DescState) (s : State),
      let e := s.dev.takenDesc fn 0 x
      s.dev.takesCore 6 fn 0xB2 x = true ∧ (e.qp? (dwF x.dw 8 23 0)).isSome) ∧
    (∃ (fn : Nat) (x : DescState) (s : State),
      let e := s.dev.takenDesc fn 0 x
      s.dev.takesDev fn 0xB3 x = true ∧ e.qp? (dwF x.dw 8 23 0) = none) ∧
    (∃ (fn : Nat) (x : DescState) (s : State),
      let e := s.dev.takenDesc fn 0 x
      s.dev.takesDev fn 0xB3 x = true ∧ ∃ c, e.qp? (dwF x.dw 8 23 0) = some c) :=
  ⟨⟨0, 1, dRemQ 16 0, sNet 1 (dRemQ 16 0), by decide +kernel, stProt, by decide +kernel⟩,
   ⟨0, 1, dRemQ 16 0, sNet 1 (dRemQ 16 0) (withQp dOn (qpS 3)), by decide +kernel⟩,
   ⟨0, 1, dRemQ 16 0x40000000, sNet 1 (dRemQ 16 0x40000000) (withQp dOn (qpS 3)), by decide +kernel⟩,
   ⟨0, 1, dRemQ 17 0, sNet 1 (dRemQ 17 0), by decide +kernel, stProt, by decide +kernel⟩,
   ⟨0, 1, dRemQ 17 0, sNet 1 (dRemQ 17 0) (withQp dOn (qpS 3)), by decide +kernel⟩,
   ⟨0, 1, dsc 18 [(8, 0x80000000)], sNet 1 (dsc 18 [(8, 0x80000000)]), by decide +kernel⟩,
   ⟨0, 1, dRecvE, sNet 1 dRecvE, by decide +kernel⟩,
   ⟨0, 1, dRecvQ, sNet 1 dRecvQ (withQp dOn { qpS 3 with owner := 1 }), by decide +kernel, { qpS 3 with owner := 1 }, by decide +kernel⟩,
   ⟨0, 1, dRecvQ, sNet 1 dRecvQ (withQp dOn (qpS 4)), by decide +kernel, qpS 4, by decide +kernel⟩,
   ⟨0, 1, dRecvQ, sNet 1 dRecvQ (withQp dOn { qpS 3 with recvs := List.replicate 4096 (0, 1, 0) }), by decide +kernel,
     { qpS 3 with recvs := List.replicate 4096 (0, 1, 0) }, by decide +kernel⟩,
   ⟨0, 1, dRecvQ, sNet 1 dRecvQ (withQp dOn (qpS 0)), by decide +kernel, qpS 0, by decide +kernel⟩,
   ⟨0, 1, dRecvE, sNet 1 dRecvE (withEp dOn { ep1 with owner := 1 }), by decide +kernel, { ep1 with owner := 1 }, by decide +kernel⟩,
   ⟨0, 1, dRecvE, sNet 1 dRecvE (withEp dOn { ep1 with recvs := List.replicate 4096 (0, 1, 0) }), by decide +kernel,
     { ep1 with recvs := List.replicate 4096 (0, 1, 0) }, by decide +kernel⟩,
   ⟨0, 1, dRecvE, sNet 1 dRecvE (withEp dOn), by decide +kernel, ep1, by decide +kernel⟩,
   ⟨0, dsc 176 [(8, 3)], sNet 0 (dsc 176 [(8, 3)]), by decide +kernel⟩,
   ⟨0, dsc 176 [], st (withNet (withQ dOn 0 0 [dsc 176 []]) (fun n => { n with qps := filled 1048576 (qpS 0) })), by decide +kernel,
     by decide +kernel, freeQpc_filled (qpS 0) (by rw [(takenDesc_net _ _ _ _).1]; simp only [st, withNet])⟩,
   ⟨0, dsc 176 [(8, 2)], sNet 0 (dsc 176 [(8, 2)]), by decide +kernel, 0, by decide +kernel⟩,
   ⟨0, dQpMod [4], sNet 0 (dQpMod [4]), by decide +kernel⟩,
   ⟨0, dQpMod [4, 0, 0, 255], sNet 0 (dQpMod [4, 0, 0, 255]) (withQp dOn (qpS 3)), by decide +kernel, qpS 3, by decide +kernel⟩,
   ⟨0, dQpMod [4], sNet 0 (dQpMod [4]) (withQp dOn (qpS 3)), by decide +kernel, qpS 3, by decide +kernel, (qpS 3).attr, by decide +kernel⟩,
   ⟨0, dQpMod [0], sNet 0 (dQpMod [0]) (withQp dOn (qpS 3)), by decide +kernel, qpS 3, by decide +kernel, (qpS 3).attr, by decide +kernel⟩,
   ⟨0, dQpMod [1], sNet 0 (dQpMod [1]) (withQp dOn (qpS 0)), by decide +kernel, qpS 0, by decide +kernel, (attrTake 0 1 (dQpMod [1]).data (qpS
     0).attr).getD [], by decide +kernel⟩,
   ⟨0, dQpMod rtr, sNet 0 (dQpMod rtr) (withQp dOn (qpS 1)), by decide +kernel, qpS 1, by decide +kernel, (attrTake 1 2 (dQpMod rtr).data (qpS
     1).attr).getD [], by decide +kernel⟩,
   ⟨0, dQpMod rts, sNet 0 (dQpMod rts) (withQp dOn (qpS 2)), by decide +kernel, qpS 2, by decide +kernel, (attrTake 2 3 (dQpMod rts).data (qpS
     2).attr).getD [], by decide +kernel⟩,
   ⟨0, dsc 178 [(8, 0x100001)], sNet 0 (dsc 178 [(8, 0x100001)]), by decide +kernel⟩,
   ⟨0, dsc 178 [(8, 0x100001)], sNet 0 (dsc 178 [(8, 0x100001)]) (withQp dOn (qpS 3)), by decide +kernel⟩,
   ⟨0, dsc 179 [(8, 0x100001)], sNet 0 (dsc 179 [(8, 0x100001)]), by decide +kernel⟩,
   ⟨0, dsc 179 [(8, 0x100001)], sNet 0 (dsc 179 [(8, 0x100001)]) (withQp dOn (qpS 3)), by decide +kernel, qpS 3, by decide +kernel⟩⟩

theorem test_wit_ethernet_ports :
    (∃ (f : EthFrame) (s : State), s.dev.ifUp f.iface = true ∧ s.dev.hubOn = true ∧ (9600 < f.len ∨ f.pause = true)) ∧
    (∃ (f : EthFrame) (s : State), s.dev.ifUp f.iface = true ∧ s.dev.hubOn = true ∧ (s.dev.ifAccepts f.iface f = false ∨ s.dev.classify f = none)) ∧
    (∃ (f : EthFrame) (s : State), s.dev.ifUp f.iface = true ∧ s.dev.hubOn = true ∧ s.dev.ifAccepts f.iface f = true ∧ s.dev.classify f = some 1 ∧
      (f.bad = true ∨ f.bth % 256 / 32 = 0 ∨ f.bth % 256 = 0x81)) ∧
    (∃ (f : EthFrame) (s : State), s.dev.ifUp f.iface = true ∧ s.dev.hubOn = true ∧ s.dev.ifAccepts f.iface f = true ∧ s.dev.classify f = some 1 ∧
      f.bad = false ∧ f.bth % 256 / 32 ≠ 0 ∧ f.bth % 256 ≠ 0x81) ∧
    (∃ (f : EthFrame) (s : State), s.dev.ifUp f.iface = true ∧ s.dev.hubOn = true ∧ s.dev.ifAccepts f.iface f = true ∧ s.dev.classify f = some 2 ∧
      (f.bad = true ∨ Device.pdtOpcode f.bth = true)) ∧
    (∃ (f : EthFrame) (s : State), s.dev.ifUp f.iface = true ∧ s.dev.hubOn = true ∧ s.dev.ifAccepts f.iface f = true ∧ s.dev.classify f = some 2 ∧
      f.bad = false ∧ Device.pdtOpcode f.bth = false) ∧
    (∃ (f : EthFrame) (s : State), s.dev.ifUp f.iface = true ∧ s.dev.hubOn = true ∧ s.dev.ifAccepts f.iface f = true ∧ s.dev.classify f = some 3) ∧
    (∃ (f : EthFrame) (s : State), s.dev.ifUp f.iface = true ∧ s.dev.hubOn = true ∧
      let n := f.iface / 8
      s.dev.ifAccepts f.iface f = true ∧ s.dev.classify f = some 4 ∧ s.dev.mc6Room n = false) ∧
    (∃ (f : EthFrame) (s : State), s.dev.ifUp f.iface = true ∧ s.dev.hubOn = true ∧
      let n := f.iface / 8
      s.dev.ifAccepts f.iface f = true ∧ s.dev.classify f = some 4 ∧ s.dev.mc6Room n = true) ∧
    (∃ (f : EthFrame) (s : State), s.dev.ifUp f.iface = false) ∧
    (∃ (d : Device) (qn len owner : Nat),
      let cells := (8 + len + 255) / 256
      (d.queue qn).state ≠ 3 ∧ d.mayReserve qn cells owner = false) ∧
    (∃ (d : Device) (qn len owner : Nat),
      let cells := (8 + len + 255) / 256
      (d.queue qn).state ≠ 3 ∧ d.mayReserve qn cells owner = true) ∧
    (∃ (iface : Nat) (s : State), s.dev.hubOn = true ∧ s.dev.coreUp 6 = true ∧
      let e := s.dev.popIn (0x300 + iface / 8)
      e.2 = none) ∧
    (∃ (iface : Nat) (s : State), s.dev.hubOn = true ∧ s.dev.coreUp 6 = true ∧
      let e := s.dev.popIn (0x300 + iface / 8)
      ∃ mark, e.2 = some (mark, true)) ∧
    (∃ (iface : Nat) (s : State), s.dev.hubOn = true ∧ s.dev.coreUp 6 = true ∧
      let e := s.dev.popIn (0x300 + iface / 8)
      ∃ mark, e.2 = some (mark, false) ∧ e.1.ifUp iface = true) ∧
    (∃ (s : State), (s.dev.hubOn = false ∨ s.dev.coreUp 6 = false)) ∧
    (∃ (iface : Nat) (s : State), s.dev.hubOn = true ∧ iface < 64 ∧ s.dev.flag Fld.NET_P_MODE_EN (iface / 8) = true ∧ iface % 8 < 2 ^ s.dev.fld
      Fld.NET_P_MODE_BRK (iface / 8) ∧ s.dev.ifUp iface = false ∧ s.dev.sup.plls.contains 4 = true) ∧
    (∃ (iface : Nat) (s : State), s.dev.ifUp iface = true ∧ (s.dev.ifDown iface).fld Fld.NET_P_STATUS_UP (iface / 8) ≠ 0) ∧
    (∃ (iface : Nat) (s : State), s.dev.ifUp iface = true ∧ (s.dev.ifDown iface).fld Fld.NET_P_STATUS_UP (iface / 8) = 0) ∧
    (∃ (iface prio quanta : Nat) (s : State), s.dev.ifUp iface = true ∧ prio < 8 ∧ quanta = 0) ∧
    (∃ (iface prio quanta : Nat) (s : State), s.dev.ifUp iface = true ∧ prio < 8 ∧ quanta ≠ 0) ∧
    (∃ (port prio t : Nat) (s : State), s.dev.net.xoff.find? (8 * port + prio) = some t ∧
      let d := s.dev.waitUntil (t + s.dev.pauseUs (8 * port) 65535 / 2)
      d.fld Fld.NET_P_XOFF_XON port ≤ queueCells (d.queue (0x200 + 8 * port + prio))) ∧
    (∃ (port prio t : Nat) (s : State), s.dev.net.xoff.find? (8 * port + prio) = some t ∧
      let d := s.dev.waitUntil (t + s.dev.pauseUs (8 * port) 65535 / 2)
      queueCells (d.queue (0x200 + 8 * port + prio)) < d.fld Fld.NET_P_XOFF_XON port) ∧
    (∃ (iface prio t : Nat) (s : State), s.dev.net.paused.find? (8 * iface + prio) = some t) ∧
    (∃ (port prio t : Nat) (s : State), s.dev.net.pausedAt.find? (8 * port + prio) = some t ∧ s.dev.fld Fld.NET_P_PFC_STORM_MS port = 0) ∧
    (∃ (port prio t : Nat) (s : State), s.dev.net.pausedAt.find? (8 * port + prio) = some t ∧ s.dev.fld Fld.NET_P_PFC_STORM_MS port ≠ 0 ∧
      s.dev.net.storm.has (8 * port + prio) = false ∧ (∃ i, i < 8 ∧ t + 1000 * s.dev.fld Fld.NET_P_PFC_STORM_MS port ≤ (s.dev.net.paused.find? (8 * (8
      * port + i) + prio)).getD 0)) ∧
    (∃ (port prio t : Nat) (s : State), s.dev.net.storm.find? (8 * port + prio) = some t) :=
  ⟨⟨{ fr with len := 9601 }, st dNet, by decide +kernel⟩,
   ⟨{ fr with dstIp := 2 }, st dNet, by decide +kernel⟩,
   ⟨{ fr with bth := 0x81 }, st dNet, by decide +kernel⟩,
   ⟨{ fr with bth := 0x24 }, st dNet, by decide +kernel⟩,
   ⟨{ fr with dport := dNet.pdt.port }, st dNet, by decide +kernel⟩,
   ⟨{ fr with bth := 0x80, dport := dNet.pdt.port }, st dNet, by decide +kernel⟩,
   ⟨{ fr with srcIp := 0x0A000009, sport := dNet.fld Fld.MIR_ARB_PORT_DST, dport := 1 }, st dNet, by decide +kernel⟩,
   ⟨{ fr with arp := true, group := true }, st (withNet dNet (fun n => { n with mc6 := [(0, (0, 10000))] })), by decide +kernel⟩,
   ⟨{ fr with arp := true, group := true }, st dNet, by decide +kernel⟩,
   ⟨fr, st dOn, by decide +kernel⟩,
   ⟨dNet.setQueue 0x200 { state := 2, cls := 3, owner := 0, pkts := [] }, 0x200, 64, 0x400, by decide +kernel⟩,
   ⟨dNet, 0x200, 64, 0x400, by decide +kernel⟩,
   ⟨0, st (withNet dNet (fun n => { n with marks := [(0x300, [none])] })), by decide +kernel⟩,
   ⟨0, st { dNet with qmg := { dNet.qmg with bad := [0x300] } }, by decide +kernel, by decide +kernel, false, by decide +kernel⟩,
   ⟨0, st dNet, by decide +kernel, by decide +kernel, false, by decide +kernel⟩,
   ⟨st { dNet with hubOn := false }, by decide +kernel⟩,
   ⟨63, st ((dNet.setFld Fld.NET_P_MODE_EN 1 7).setFld Fld.NET_P_MODE_BRK 3 7), by decide +kernel⟩,
   ⟨0, st (dNet.setReg Reg.NET_P_STATUS 3 0), by decide +kernel⟩,
   ⟨0, st dNet, by decide +kernel⟩,
   ⟨0, 7, 0, st dNet, by decide +kernel⟩,
   ⟨0, 7, 65535, st dNet, by decide +kernel⟩,
   ⟨0, 7, 5, st ((withNet dNet (fun n => { n with xoff := [(7, 5)] })).setFld Fld.NET_P_XOFF_XON 0 0), by decide +kernel⟩,
   ⟨0, 7, 5, st (withNet dNet (fun n => { n with xoff := [(7, 5)] })), by decide +kernel⟩,
   ⟨0, 7, 5, st (withNet dNet (fun n => { n with paused := [(7, 5)] })), by decide +kernel⟩,
   ⟨0, 7, 5, st ((withNet dNet (fun n => { n with pausedAt := [(7, 5)] })).setFld Fld.NET_P_PFC_STORM_MS 0 0), by decide +kernel⟩,
   ⟨0, 7, 5, st ((withNet dNet (fun n => { n with pausedAt := [(7, 5)], paused := [(7, 1005)] })).setFld Fld.NET_P_PFC_STORM_MS 1 0),
     by decide +kernel⟩,
   ⟨0, 7, 5, st (withNet dNet (fun n => { n with storm := [(7, 5)] })), by decide +kernel⟩⟩

theorem test_wit_roce_requests :
    (∃ (p : RoceIn) (q : Qp) (s : State), s.dev.hearsRoce p q = true ∧ (q.state = 2 ∨ q.state = 3) ∧ q.naked = false ∧
      let e := s.dev.heardRoce p
      e.rst.svcOpen = true ∧ e.placesWrites = true ∧ p.psn = q.ePsn ∧ ∃ (variant : Nat), variant ≠ 0) ∧
    (∃ (p : RoceIn) (q : Qp) (s : State), s.dev.hearsRoce p q = true ∧ (q.state = 2 ∨ q.state = 3) ∧ q.naked = false ∧
      let e := s.dev.heardRoce p
      e.rst.svcOpen = true ∧ e.placesWrites = true ∧ p.psn = q.ePsn ∧ ∃ (len : Nat), 2147483648 < len) ∧
    (∃ (p : RoceIn) (q : Qp) (s : State), s.dev.hearsRoce p q = true ∧ (q.state = 2 ∨ q.state = 3) ∧ q.naked = false ∧
      let e := s.dev.heardRoce p
      e.rst.svcOpen = true ∧ e.placesWrites = true ∧ p.psn = q.ePsn ∧ ∃ (len : Nat), len ≤ 2147483648) ∧
    (∃ (p : RoceIn) (q : Qp) (s : State), s.dev.hearsRoce p q = true ∧ (q.state = 2 ∨ q.state = 3) ∧ q.naked = false ∧
      let e := s.dev.heardRoce p
      e.rst.svcOpen = true ∧ e.placesWrites = true ∧ p.psn = q.ePsn ∧ ∃ (kind : Nat), 2 ≤ kind) ∧
    (∃ (p : RoceIn) (q : Qp) (s : State), s.dev.hearsRoce p q = true ∧ (q.state = 2 ∨ q.state = 3) ∧ q.naked = false ∧
      let e := s.dev.heardRoce p
      e.rst.svcOpen = true ∧ e.placesWrites = true ∧ p.psn = q.ePsn ∧ ∃ (kind : Nat), kind < 2) ∧
    (∃ (p : RoceIn) (q : Qp) (s : State), s.dev.hearsRoce p q = true ∧ (q.state = 2 ∨ q.state = 3) ∧ q.naked = false ∧
      let e := s.dev.heardRoce p
      e.rst.svcOpen = true ∧ e.placesWrites = true ∧ p.psn ≠ q.ePsn ∧ seqBefore 24 p.psn q.ePsn = false) ∧
    (∃ (p : RoceIn) (q : Qp) (s : State), s.dev.hearsRoce p q = true ∧ (q.state = 2 ∨ q.state = 3) ∧ q.naked = false ∧
      let e := s.dev.heardRoce p
      e.rst.svcOpen = true ∧ e.placesWrites = true ∧ p.psn ≠ q.ePsn ∧ seqBefore 24 p.psn q.ePsn = true ∧ ∃ x, (q.saved.find? (fun x => x.1 == p.psn) =
        some x)) ∧
    (∃ (p : RoceIn) (q : Qp) (s : State), s.dev.hearsRoce p q = true ∧ (q.state = 2 ∨ q.state = 3) ∧ q.naked = false ∧
      let e := s.dev.heardRoce p
      e.rst.svcOpen = true ∧ e.placesWrites = true ∧ p.psn ≠ q.ePsn ∧ seqBefore 24 p.psn q.ePsn = true ∧ (q.saved.find? (fun x => x.1 == p.psn) =
        none)) ∧
    (∃ (p : RoceIn) (q : Qp) (s : State), s.dev.hearsRoce p q = true ∧ (q.state = 2 ∨ q.state = 3) ∧ q.naked = false ∧
      let e := s.dev.heardRoce p
      (e.rst.svcOpen = false ∨ e.placesWrites = false)) :=
  ⟨⟨rin 0, qpS 3, st (withQp dNet (qpS 3)), by decide +kernel, by decide +kernel, by decide +kernel, by decide +kernel, by decide +kernel,
     by decide +kernel, 1, by decide +kernel⟩,
   ⟨rin 0, qpS 3, st (withQp dNet (qpS 3)), by decide +kernel, by decide +kernel, by decide +kernel, by decide +kernel, by decide +kernel,
     by decide +kernel, 2147483649, by decide +kernel⟩,
   ⟨rin 0, qpS 3, st (withGrant (withCask (withQp dNet (qpS 3)))), by decide +kernel, by decide +kernel, by decide +kernel, by decide +kernel,
     by decide +kernel, by decide +kernel, 4, by decide +kernel⟩,
   ⟨rin 0, qpS 3, st (withQp dNet (qpS 3)), by decide +kernel, by decide +kernel, by decide +kernel, by decide +kernel, by decide +kernel,
     by decide +kernel, 2, by decide +kernel⟩,
   ⟨rin 0, qpS 3, st (withQp dNet (qpS 3)), by decide +kernel, by decide +kernel, by decide +kernel, by decide +kernel, by decide +kernel,
     by decide +kernel, 1, by decide +kernel⟩,
   ⟨rin 1, qpS 3, st (withQp dNet (qpS 3)), by decide +kernel⟩,
   ⟨rin 16777215, { qpS 3 with saved := [(16777215, 7)] }, st (withQp dNet { qpS 3 with saved := [(16777215, 7)] }), by decide +kernel,
     by decide +kernel, by decide +kernel, by decide +kernel, by decide +kernel, by decide +kernel, by decide +kernel, (16777215, 7),
     by decide +kernel⟩,
   ⟨rin 16777215, qpS 3, st (withQp dNet (qpS 3)), by decide +kernel⟩,
   ⟨rin 0, qpS 3, st (withQp { dNet with rst := { dNet.rst with svcOpen := false } } (qpS 3)), by decide +kernel⟩⟩

theorem test_wit_roce_requester :
    (∃ (p : RoceIn) (q : Qp) (s : State), s.dev.hearsRoce p q = true ∧ q.state = 3) ∧
    (∃ (p : RoceIn) (q : Qp) (s : State), s.dev.hearsRoce p q = true ∧ q.state ≠ 3) ∧
    (∃ (d : Device) (i psn : Nat) (c : Qp) (o : RoceOut) (rest : List RoceOut), d.net.qps.find? i = some c ∧ c.out = o :: rest ∧ o.read = true ∧
      o.sent = true ∧ psn ≠ (o.psn + o.got / pmtuBytes (byteAt c.attr 1)) % 16777216) ∧
    (∃ (d : Device) (i psn : Nat) (bytes : List Byte) (c : Qp) (o : RoceOut) (rest : List RoceOut), d.net.qps.find? i = some c ∧ c.out = o :: rest ∧
      o.read = true ∧ o.sent = true ∧ psn = (o.psn + o.got / pmtuBytes (byteAt c.attr 1)) % 16777216 ∧ o.got + bytes.length < o.len) ∧
    (∃ (d : Device) (i psn : Nat) (bytes : List Byte) (c : Qp) (o : RoceOut) (rest : List RoceOut), d.net.qps.find? i = some c ∧ c.out = o :: rest ∧
      o.read = true ∧ o.sent = true ∧ psn = (o.psn + o.got / pmtuBytes (byteAt c.attr 1)) % 16777216 ∧ o.len ≤ o.got + bytes.length) ∧
    (∃ (qpn : Nat) (q : Qp) (s : State), s.dev.qp? qpn = some q ∧ q.ackDue = true ∧ (q.state = 2 ∨ q.state = 3)) ∧
    (∃ (qpn : Nat) (q : Qp) (s : State), s.dev.qp? qpn = some q ∧ q.ackDue = false) ∧
    (∃ (qpn : Nat) (q : Qp) (s : State), s.dev.qp? qpn = some q ∧ q.state = 3 ∧ byteAt q.attr 20 % 32 ≠ 0 ∧ q.rnrAt = none ∧ q.out.any (·.sent) = true) ∧
    (∃ (qpn : Nat) (q : Qp) (s : State), s.dev.qp? qpn = some q ∧ byteAt q.attr 20 % 32 = 0) ∧
    (∃ (qpn : Nat) (q : Qp) (s : State), s.dev.qp? qpn = some q ∧ ∃ t, q.rnrAt = some t ∧ q.state = 3) ∧
    (∃ (qpn : Nat) (q : Qp) (s : State), s.dev.qp? qpn = some q ∧ qpn ≠ 0 ∧ q.state = 3 ∧
      let n := s.dev.fld Fld.NET_DCQCN_C_BC_MIB * 1048576
      n ≤ q.rate.bytes) ∧
    (∃ (qpn : Nat) (q : Qp) (s : State), s.dev.qp? qpn = some q ∧ qpn ≠ 0 ∧ q.state = 3 ∧
      let n := s.dev.fld Fld.NET_DCQCN_C_BC_MIB * 1048576
      q.rate.bytes < n) ∧
    (∃ (loc rem : Nat) (s : State),
      let n := s.dev.fld Fld.NET_DCQCN_C_BC_MIB * 1048576
      ∃ f, s.dev.tx? loc rem = some f ∧ n ≤ f.rate.bytes) ∧
    (∃ (loc rem : Nat) (s : State),
      let n := s.dev.fld Fld.NET_DCQCN_C_BC_MIB * 1048576
      ∃ f, s.dev.tx? loc rem = none ∧ s.dev.rx? loc rem = some f ∧ n ≤ f.rate.bytes) :=
  ⟨⟨rin 0, qpS 3, st (withQp dNet (qpS 3)), by decide +kernel⟩,
   ⟨rin 0, qpS 2, st (withQp dNet (qpS 2)), by decide +kernel⟩,
   ⟨withQp dNet { qpS 3 with out := [ro] }, 1, 1, { qpS 3 with out := [ro] }, ro, [], by decide +kernel⟩,
   ⟨withQp dNet { qpS 3 with out := [ro] }, 1, 0, [1], { qpS 3 with out := [ro] }, ro, [], by decide +kernel⟩,
   ⟨withQp dNet { qpS 3 with out := [ro] }, 1, 0, [1, 2, 3, 4, 5, 6, 7, 8], { qpS 3 with out := [ro] }, ro, [], by decide +kernel⟩,
   ⟨0x100001, { qpS 3 with ackDue := true }, st (withQp dNet { qpS 3 with ackDue := true }), by decide +kernel⟩,
   ⟨0x100001, qpS 3, st (withQp dNet (qpS 3)), by decide +kernel⟩,
   ⟨0x100001, { qpS 3 with attr := List.replicate 20 0 ++ [14] ++ List.replicate 107 0, out := [ro] }, st (withQp dNet
     { qpS 3 with attr := List.replicate 20 0 ++ [14] ++ List.replicate 107 0, out := [ro] }), by decide +kernel⟩,
   ⟨0x100001, qpS 3, st (withQp dNet (qpS 3)), by decide +kernel⟩,
   ⟨0x100001, { qpS 3 with rnrAt := some 5 }, st (withQp dNet { qpS 3 with rnrAt := some 5 }), by decide +kernel, 5, by decide +kernel⟩,
   ⟨0x100001, { qpS 3 with rate := { rateAt 80000 0 with bytes := 1000000000000 } }, st (withQp dNet
     { qpS 3 with rate := { rateAt 80000 0 with bytes := 1000000000000 } }), by decide +kernel⟩,
   ⟨0x100001, qpS 3, st (withQp dNet (qpS 3)), by decide +kernel⟩,
   ⟨65537, 5, st (withTx dNet { tx1 with rate := { rateAt 80000 0 with bytes := 1000000000000 } }),
     { tx1 with rate := { rateAt 80000 0 with bytes := 1000000000000 } }, by decide +kernel⟩,
   ⟨65537, 5, st (withRx dPdt [{ rx0 with rate := { rateAt 80000 0 with bytes := 1000000000000 } }]),
     { rx0 with rate := { rateAt 80000 0 with bytes := 1000000000000 } }, by decide +kernel⟩⟩

theorem test_wit_pdt_endpoints :
    (∃ (fn : Nat) (x : DescState) (s : State),
      let d := s.dev.takenDesc fn 0 x
      s.dev.takesCore 6 fn 0xB8 x = true ∧ d.cfgOk x.data = false) ∧
    (∃ (fn : Nat) (x : DescState) (s : State),
      let d := s.dev.takenDesc fn 0 x
      s.dev.takesCore 6 fn 0xB8 x = true ∧ d.cfgOk x.data = true) ∧
    (∃ (fn : Nat) (x : DescState) (s : State),
      let d := s.dev.takenDesc fn 0 x
      s.dev.takesCore 6 fn 0xB9 x = true ∧
      let owner := dwF x.dw 8 9 0
      (d.fnExists owner = false ∨ epOk x.data = false)) ∧
    (∃ (fn : Nat) (x : DescState) (s : State),
      let d := s.dev.takenDesc fn 0 x
      s.dev.takesCore 6 fn 0xB9 x = true ∧
      let owner := dwF x.dw 8 9 0
      d.fnExists owner = true ∧ epOk x.data = true ∧ d.freeEp = none) ∧
    (∃ (fn : Nat) (x : DescState) (s : State),
      let d := s.dev.takenDesc fn 0 x
      s.dev.takesCore 6 fn 0xB9 x = true ∧
      let owner := dwF x.dw 8 9 0
      ∃ i, d.fnExists owner = true ∧ epOk x.data = true ∧ d.freeEp = some i) ∧
    (∃ (fn : Nat) (x : DescState) (s : State),
      let d := s.dev.takenDesc fn 0 x
      let loc := dwF x.dw 8 23 0
      s.dev.takesCore 6 fn 0xBA x = true ∧ d.ep? loc = none) ∧
    (∃ (fn : Nat) (x : DescState) (s : State),
      let d := s.dev.takenDesc fn 0 x
      let loc := dwF x.dw 8 23 0
      s.dev.takesCore 6 fn 0xBA x = true ∧ ∃ e, d.ep? loc = some e ∧ epOk x.data = false) ∧
    (∃ (fn : Nat) (x : DescState) (s : State),
      let d := s.dev.takenDesc fn 0 x
      let loc := dwF x.dw 8 23 0
      s.dev.takesCore 6 fn 0xBA x = true ∧ ∃ e, d.ep? loc = some e ∧ epOk x.data = true) ∧
    (∃ (fn : Nat) (x : DescState) (s : State),
      let d := s.dev.takenDesc fn 0 x
      let loc := dwF x.dw 8 23 0
      s.dev.takesCore 6 fn 0xBB x = true ∧ d.ep? loc = none) ∧
    (∃ (fn : Nat) (x : DescState) (s : State),
      let d := s.dev.takenDesc fn 0 x
      let loc := dwF x.dw 8 23 0
      s.dev.takesCore 6 fn 0xBB x = true ∧ (d.ep? loc).isSome) ∧
    (∃ (fn : Nat) (x : DescState) (s : State),
      let d := s.dev.takenDesc fn 0 x
      let loc := dwF x.dw 8 23 0
      s.dev.takesCore 6 fn 0xBC x = true ∧ (d.ep? loc = none ∨ peerOk x.data = false)) ∧
    (∃ (fn : Nat) (x : DescState) (s : State),
      let d := s.dev.takenDesc fn 0 x
      let loc := dwF x.dw 8 23 0
      s.dev.takesCore 6 fn 0xBC x = true ∧ (d.ep? loc).isSome ∧ peerOk x.data = true ∧ ∃ f, d.tx? loc (leAt x.data 0 3) = some f) ∧
    (∃ (fn : Nat) (x : DescState) (s : State),
      let d := s.dev.takenDesc fn 0 x
      let loc := dwF x.dw 8 23 0
      s.dev.takesCore 6 fn 0xBC x = true ∧ (d.ep? loc).isSome ∧ peerOk x.data = true ∧ d.tx? loc (leAt x.data 0 3) = none ∧ 1048576 ≤ d.pdt.rx.length
        + d.pdt.tx.length) ∧
    (∃ (fn : Nat) (x : DescState) (s : State),
      let d := s.dev.takenDesc fn 0 x
      let loc := dwF x.dw 8 23 0
      s.dev.takesCore 6 fn 0xBC x = true ∧ (d.ep? loc).isSome ∧ peerOk x.data = true ∧ d.tx? loc (leAt x.data 0 3) = none ∧ d.pdt.rx.length +
        d.pdt.tx.length < 1048576) ∧
    (∃ (fn : Nat) (x : DescState) (s : State), s.dev.takesDev fn 0xBD x = true) :=
  ⟨⟨0, dBlk 184 0 [], sNet 0 (dBlk 184 0 []), by decide +kernel⟩,
   ⟨0, dBlk 184 0 cfgB, sNet 0 (dBlk 184 0 cfgB), by decide +kernel⟩,
   ⟨0, dBlk 185 3 epBlock, sNet 0 (dBlk 185 3 epBlock), by decide +kernel⟩,
   ⟨0, dBlk 185 0 epBlock, st (withPdt (withQ dOn 0 0 [dBlk 185 0 epBlock]) (fun p => { p with eps := filled 65536 ep1 })), by decide +kernel,
     by decide +kernel, by decide +kernel, freeEp_filled ep1 (by rw [(takenDesc_net _ _ _ _).2]; simp only [st, withPdt])⟩,
   ⟨0, dBlk 185 2 epBlock, sNet 0 (dBlk 185 2 epBlock), by decide +kernel, 0, by decide +kernel⟩,
   ⟨0, dBlk 186 65537 epBlock, sNet 0 (dBlk 186 65537 epBlock), by decide +kernel⟩,
   ⟨0, dBlk 186 65537 [], sNet 0 (dBlk 186 65537 []) (withEp dOn), by decide +kernel, ep1, by decide +kernel⟩,
   ⟨0, dBlk 186 65537 epBlock, sNet 0 (dBlk 186 65537 epBlock) (withEp dOn), by decide +kernel, ep1, by decide +kernel⟩,
   ⟨0, dBlk 187 65537 [], sNet 0 (dBlk 187 65537 []), by decide +kernel⟩,
   ⟨0, dBlk 187 65537 [], sNet 0 (dBlk 187 65537 []) (withEp dOn), by decide +kernel⟩,
   ⟨0, dBlk 188 65537 [], sNet 0 (dBlk 188 65537 []), by decide +kernel⟩,
   ⟨0, dBlk 188 65537 peerB, sNet 0 (dBlk 188 65537 peerB) (withTx dOn), by decide +kernel, by decide +kernel, by decide +kernel, tx1,
     by decide +kernel⟩,
   ⟨0, dBlk 188 65537 peerB, st (withPdt (withQ (withEp dOn) 0 0 [dBlk 188 65537 peerB]) (fun p =>
     { p with tx := List.replicate 1048576 { tx1 with rem := 6 } })), by decide +kernel, by decide +kernel, by decide +kernel,
     tx?_replicate (n := 1048576) (f := { tx1 with rem := 6 }) (by rw [(takenDesc_net _ _ _ _).2]; simp only [st, withPdt]) (by decide +kernel),
     by simp only [(takenDesc_net _ _ _ _).2, st, withPdt, List.length_replicate]; omega⟩,
   ⟨0, dBlk 188 65537 peerB, sNet 0 (dBlk 188 65537 peerB) (withEp dOn), by decide +kernel⟩,
   ⟨0, dBlk 189 0 [], sNet 0 (dBlk 189 0 []), by decide +kernel⟩⟩

theorem test_wit_pdt_requests :
    (∃ (p : PdtIn) (s : State) (x : Nat × Instr), x ∈ [(1, .pdtWrite p), (2, .pdtWriteImm p), (3, .pdtSend p), (4, .pdtReadReq p), (5, .pdtCas8 p),
      (6, .pdtCas16 p), (7, .pdtFadd8 p), (8, .pdtPersist p), (9, .pdtQueryPkt p)] ∧ ∃ (f : PdtRx) (d : Device), s.dev.takesPdt x.1 p f d = true) ∧
    (∃ (p : PdtIn) (s : State) (x : Nat × Instr), x ∈ [(1, .pdtWrite p), (2, .pdtWriteImm p), (3, .pdtSend p), (4, .pdtReadReq p), (5, .pdtCas8 p),
      (6, .pdtCas16 p), (7, .pdtFadd8 p), (8, .pdtPersist p), (9, .pdtQueryPkt p)] ∧
      let h := s.dev.heardPdt x.1 p
      let r := s.dev.seenPdt x.1 p
      let broken : Bool := x.1 != 9 && (h.queue (h.groupQ p.dst)).state == 3
      s.dev.hearsPdt p = true ∧ (h.pdtKeyPending x.1 r = true ∨ broken = true)) ∧
    (∃ (p : PdtIn) (s : State) (x : Nat × Instr), x ∈ [(1, .pdtWrite p), (2, .pdtWriteImm p), (3, .pdtSend p), (4, .pdtReadReq p), (5, .pdtCas8 p),
      (6, .pdtCas16 p), (7, .pdtFadd8 p), (8, .pdtPersist p), (9, .pdtQueryPkt p)] ∧
      let h := s.dev.heardPdt x.1 p
      let r := s.dev.seenPdt x.1 p
      let broken : Bool := x.1 != 9 && (h.queue (h.groupQ p.dst)).state == 3
      s.dev.hearsPdt p = true ∧ h.pdtKeyPending x.1 r = false ∧ broken = false ∧ ∃ st, h.pdtBusy (h.rx? p.dst p.src).isNone = some st) ∧
    (∃ (p : PdtIn) (s : State) (x : Nat × Instr), x ∈ [(1, .pdtWrite p), (2, .pdtWriteImm p), (3, .pdtSend p), (4, .pdtReadReq p), (5, .pdtCas8 p),
      (6, .pdtCas16 p), (7, .pdtFadd8 p), (8, .pdtPersist p), (9, .pdtQueryPkt p)] ∧
      let h := s.dev.heardPdt x.1 p
      let r := s.dev.seenPdt x.1 p
      let broken : Bool := x.1 != 9 && (h.queue (h.groupQ p.dst)).state == 3
      s.dev.hearsPdt p = true ∧ h.pdtKeyPending x.1 r = false ∧ broken = false ∧ h.pdtBusy (h.rx? p.dst p.src).isNone = none ∧ h.pdtFlow r
        (s.dev.pdtCe x.1 p) = none) ∧
    (∃ (p : PdtIn) (s : State) (x : Nat × Instr), x ∈ [(1, .pdtWrite p), (2, .pdtWriteImm p), (3, .pdtSend p), (4, .pdtReadReq p), (5, .pdtCas8 p),
      (6, .pdtCas16 p), (7, .pdtFadd8 p), (8, .pdtPersist p), (9, .pdtQueryPkt p)] ∧ s.dev.hubOn = true ∧ s.dev.portStopped = false ∧
      let e := s.dev.popIngress p.iface p.prio
      e.2 = none) ∧
    (∃ (p : PdtIn) (s : State) (x : Nat × Instr), x ∈ [(1, .pdtWrite p), (2, .pdtWriteImm p), (3, .pdtSend p), (4, .pdtReadReq p), (5, .pdtCas8 p),
      (6, .pdtCas16 p), (7, .pdtFadd8 p), (8, .pdtPersist p), (9, .pdtQueryPkt p)] ∧ s.dev.hubOn = true ∧ s.dev.portStopped = false ∧
      let e := s.dev.popIngress p.iface p.prio
      ∃ m, e.2 = some m ∧ (p.ok = false ∨ e.1.pdt.on = false ∨ e.1.ep? p.dst = none)) ∧
    (∃ (p : PdtIn) (s : State) (x : Nat × Instr), x ∈ [(1, .pdtWrite p), (2, .pdtWriteImm p), (3, .pdtSend p), (4, .pdtReadReq p), (5, .pdtCas8 p),
      (6, .pdtCas16 p), (7, .pdtFadd8 p), (8, .pdtPersist p), (9, .pdtQueryPkt p)] ∧ s.dev.hubOn = true ∧ s.dev.portStopped = false ∧
      let e := s.dev.popIngress p.iface p.prio
      ∃ mark, e.2 = some (mark, true) ∧ p.ok = true ∧ e.1.pdt.on = true ∧ (e.1.ep? p.dst).isSome) ∧
    (∃ (p : PdtIn) (s : State) (x : Nat × Instr), x ∈ [(1, .pdtWrite p), (2, .pdtWriteImm p), (3, .pdtSend p), (4, .pdtReadReq p), (5, .pdtCas8 p),
      (6, .pdtCas16 p), (7, .pdtFadd8 p), (8, .pdtPersist p), (9, .pdtQueryPkt p)] ∧ (s.dev.hubOn = false ∨ s.dev.portStopped = true)) ∧
    (∃ (f : PdtRx) (p : PdtIn), ∃ op, op ≠ 9 ∧ msnBefore ((f.ack + 128) % 4294967296) p.psn = true) ∧
    (∃ (f : PdtRx) (p : PdtIn), ∃ op, op ≠ 9 ∧ msnBefore ((f.ack + 128) % 4294967296) p.psn = false ∧ (msnBefore p.psn f.ack = true ∨ msnBefore p.msn
      f.exp = true ∨ f.done.any (fun q => q.1 == p.msn) = true)) ∧
    (∃ (f : PdtRx) (p : PdtIn), ∃ op, op ≠ 9 ∧ msnBefore ((f.ack + 128) % 4294967296) p.psn = false ∧ msnBefore p.psn f.ack = false ∧ msnBefore p.msn
      f.exp = false ∧ (f.done.any (fun q => q.1 == p.msn) = false) ∧ ∃ e, (f.entries.find? (fun e => e.msn == p.msn) = some e) ∧ (e.len ≠ p.msgLen ∨
      e.op ≠ op ∨ e.grant ≠ p.grant ∨ e.off ≠ p.off ∨ e.imm ≠ p.imm ∨ e.gcm ≠ natBit p.flags 15)) ∧
    (∃ (f : PdtRx) (p : PdtIn), ∃ op, op ≠ 9 ∧ msnBefore ((f.ack + 128) % 4294967296) p.psn = false ∧ msnBefore p.psn f.ack = false ∧ msnBefore p.msn
      f.exp = false ∧ (f.done.any (fun q => q.1 == p.msn) = false) ∧ ∃ e, (f.entries.find? (fun e => e.msn == p.msn) = some e) ∧ e.len = p.msgLen ∧
      e.op = op ∧ e.grant = p.grant ∧ e.off = p.off ∧ e.imm = p.imm ∧ e.gcm = natBit p.flags 15 ∧
      let e := if op = 4 then { e with att := p.flags % 16 } else e
      e.status ≠ 0) ∧
    (∃ (d : Device) (f : PdtRx) (p : PdtIn), ∃ op, op ≠ 9 ∧ msnBefore ((f.ack + 128) % 4294967296) p.psn = false ∧ msnBefore p.psn f.ack = false ∧
      msnBefore p.msn f.exp = false ∧ (f.done.any (fun q => q.1 == p.msn) = false) ∧
      let c := if natBit p.flags 15 then d.cipherBytes p.bytes.length else d
      ∃ e, (f.entries.find? (fun e => e.msn == p.msn) = some e) ∧ e.len = p.msgLen ∧ e.op = op ∧ e.grant = p.grant ∧ e.off = p.off ∧ e.imm = p.imm ∧
        e.gcm = natBit p.flags 15 ∧
      let c := if op = 4 then c.retagPkt (c.groupQ p.dst) (.pdt p.dst p.src e.att e.msn) (.pdt p.dst p.src (p.flags % 16) e.msn) else c
      let e := if op = 4 then { e with att := p.flags % 16 } else e
      e.status = 0 ∧ (c.pdtClear op p).2 = true) ∧
    (∃ (d : Device) (f : PdtRx) (p : PdtIn), ∃ op, op ≠ 9 ∧ msnBefore ((f.ack + 128) % 4294967296) p.psn = false ∧ msnBefore p.psn f.ack = false ∧
      msnBefore p.msn f.exp = false ∧ (f.done.any (fun q => q.1 == p.msn) = false) ∧
      let c := if natBit p.flags 15 then d.cipherBytes p.bytes.length else d
      ∃ e, (f.entries.find? (fun e => e.msn == p.msn) = some e) ∧ e.len = p.msgLen ∧ e.op = op ∧ e.grant = p.grant ∧ e.off = p.off ∧ e.imm = p.imm ∧
        e.gcm = natBit p.flags 15 ∧
      let c := if op = 4 then c.retagPkt (c.groupQ p.dst) (.pdt p.dst p.src e.att e.msn) (.pdt p.dst p.src (p.flags % 16) e.msn) else c
      let e := if op = 4 then { e with att := p.flags % 16 } else e
      e.status = 0 ∧ (c.pdtClear op p).2 = false) ∧
    (∃ (d : Device) (f : PdtRx) (p : PdtIn), ∃ op, op ≠ 9 ∧ msnBefore ((f.ack + 128) % 4294967296) p.psn = false ∧ msnBefore p.psn f.ack = false ∧
      msnBefore p.msn f.exp = false ∧ (f.done.any (fun q => q.1 == p.msn) = false) ∧
      let c := if natBit p.flags 15 then d.cipherBytes p.bytes.length else d
      (f.entries.find? (fun e => e.msn == p.msn) = none) ∧
      let held := c.pdt.rx.foldl (fun a f => a + f.entries.length) 0
      16384 ≤ held) ∧
    (∃ (d : Device) (f : PdtRx) (p : PdtIn), ∃ op, op ≠ 9 ∧ msnBefore ((f.ack + 128) % 4294967296) p.psn = false ∧ msnBefore p.psn f.ack = false ∧
      msnBefore p.msn f.exp = false ∧ (f.done.any (fun q => q.1 == p.msn) = false) ∧
      let c := if natBit p.flags 15 then d.cipherBytes p.bytes.length else d
      (f.entries.find? (fun e => e.msn == p.msn) = none) ∧
      let st := c.pdtFirst f op p
      let held := c.pdt.rx.foldl (fun a f => a + f.entries.length) 0
      held < 16384 ∧ st ≠ 0 ∧ c.pdtGrantSt f op p = some st) ∧
    (∃ (d : Device) (f : PdtRx) (p : PdtIn), ∃ op, op ≠ 9 ∧ msnBefore ((f.ack + 128) % 4294967296) p.psn = false ∧ msnBefore p.psn f.ack = false ∧
      msnBefore p.msn f.exp = false ∧ (f.done.any (fun q => q.1 == p.msn) = false) ∧
      let c := if natBit p.flags 15 then d.cipherBytes p.bytes.length else d
      (f.entries.find? (fun e => e.msn == p.msn) = none) ∧
      let st := c.pdtFirst f op p
      let held := c.pdt.rx.foldl (fun a f => a + f.entries.length) 0
      held < 16384 ∧ st ≠ 0 ∧ c.pdtGrantSt f op p = none) ∧
    (∃ (d : Device) (f : PdtRx) (p : PdtIn), ∃ op, op ≠ 9 ∧ msnBefore ((f.ack + 128) % 4294967296) p.psn = false ∧ msnBefore p.psn f.ack = false ∧
      msnBefore p.msn f.exp = false ∧ (f.done.any (fun q => q.1 == p.msn) = false) ∧
      let c := if natBit p.flags 15 then d.cipherBytes p.bytes.length else d
      (f.entries.find? (fun e => e.msn == p.msn) = none) ∧
      let st := c.pdtFirst f op p
      let held := c.pdt.rx.foldl (fun a f => a + f.entries.length) 0
      let qn := c.groupQ p.dst
      let cells := (p.msgLen + 255) / 256 + 4
      held < 16384 ∧ st = 0 ∧ c.mayReserve qn cells (c.queue qn).owner = false) ∧
    (∃ (d : Device) (f : PdtRx) (p : PdtIn), ∃ op, op ≠ 9 ∧ msnBefore ((f.ack + 128) % 4294967296) p.psn = false ∧ msnBefore p.psn f.ack = false ∧
      msnBefore p.msn f.exp = false ∧ (f.done.any (fun q => q.1 == p.msn) = false) ∧
      let c := if natBit p.flags 15 then d.cipherBytes p.bytes.length else d
      (f.entries.find? (fun e => e.msn == p.msn) = none) ∧
      let st := c.pdtFirst f op p
      let e : PdtEntry :=
        { msn := p.msn, op := op, len := p.msgLen, grant := p.grant, off := p.off, imm := p.imm, gcm := natBit p.flags 15, flags := p.flags, att := p.flags % 16, status := st, units := [], parts := [], lastAt := c.now, nonce := p.nonce, via := viaOf p, psn := p.psn }
      let held := c.pdt.rx.foldl (fun a f => a + f.entries.length) 0
      let qn := c.groupQ p.dst
      let cells := (p.msgLen + 255) / 256 + 4
      held < 16384 ∧ st = 0 ∧ c.mayReserve qn cells (c.queue qn).owner = true ∧
      let d' := c.addPkt qn
        { tok := .pdt p.dst p.src e.att p.msn, owner := (c.queue qn).owner, cells := cells, whole := false, poison := false, void := false, len := p.msgLen }
      (d'.pdtClear op p).2 = true) ∧
    (∃ (d : Device) (f : PdtRx) (p : PdtIn), ∃ op, op ≠ 9 ∧ msnBefore ((f.ack + 128) % 4294967296) p.psn = false ∧ msnBefore p.psn f.ack = false ∧
      msnBefore p.msn f.exp = false ∧ (f.done.any (fun q => q.1 == p.msn) = false) ∧
      let c := if natBit p.flags 15 then d.cipherBytes p.bytes.length else d
      (f.entries.find? (fun e => e.msn == p.msn) = none) ∧
      let st := c.pdtFirst f op p
      let e : PdtEntry :=
        { msn := p.msn, op := op, len := p.msgLen, grant := p.grant, off := p.off, imm := p.imm, gcm := natBit p.flags 15, flags := p.flags, att := p.flags % 16, status := st, units := [], parts := [], lastAt := c.now, nonce := p.nonce, via := viaOf p, psn := p.psn }
      let held := c.pdt.rx.foldl (fun a f => a + f.entries.length) 0
      let qn := c.groupQ p.dst
      let cells := (p.msgLen + 255) / 256 + 4
      held < 16384 ∧ st = 0 ∧ c.mayReserve qn cells (c.queue qn).owner = true ∧
      let d' := c.addPkt qn
        { tok := .pdt p.dst p.src e.att p.msn, owner := (c.queue qn).owner, cells := cells, whole := false, poison := false, void := false, len := p.msgLen }
      (d'.pdtClear op p).2 = false) :=
  ⟨⟨pin 0 0, st dPdt, (1, .pdtWrite (pin 0 0)), by decide +kernel, flowOf dPdt 1 (pin 0 0), devOf dPdt 1 (pin 0 0), takesPdt_flow (by decide +kernel)⟩,
   ⟨{ pin 0 0 with flags := 32768 }, st dPend, (1, .pdtWrite { pin 0 0 with flags := 32768 }), by decide +kernel⟩,
   ⟨pin 0 0, st { dPdt with rst := { dPdt.rst with svcOpen := false } }, (2, .pdtWriteImm (pin 0 0)), by decide +kernel, by decide +kernel,
     by decide +kernel, by decide +kernel, stNotReady, by decide +kernel⟩,
   ⟨pin 7 7, st dFlows, (3, .pdtSend (pin 7 7)), by decide +kernel, by decide +kernel, by decide +kernel, by decide +kernel, by decide +kernel,
     pdtFlow_full (by decide +kernel) dFlows_full⟩,
   ⟨pin 0 0, st (withNet dPdt (fun n => { n with marks := [(0x200, [none])] })), (4, .pdtReadReq (pin 0 0)), by decide +kernel⟩,
   ⟨{ pin 0 0 with ok := false }, st dPdt, (5, .pdtCas8 { pin 0 0 with ok := false }), by decide +kernel, by decide +kernel, by decide +kernel,
     (false, false), by decide +kernel⟩,
   ⟨pin 0 0, st { dPdt with qmg := { dPdt.qmg with bad := [0x200] } }, (8, .pdtPersist (pin 0 0)), by decide +kernel, by decide +kernel,
     by decide +kernel, false, by decide +kernel⟩,
   ⟨pin 0 0, st { dPdt with hubOn := false }, (9, .pdtQueryPkt (pin 0 0)), by decide +kernel⟩,
   ⟨flowOf dPdt 1 (pin 129 0), pin 129 0, 1, by decide +kernel⟩,
   ⟨flowOf (withRx dPdt [rx0]) 3 (pin 2 2), pin 2 2, 3, by decide +kernel⟩,
   ⟨flowOf (withRx dPdt [{ rx0 with entries := [ent 1] }]) 2 (pin 3 4), pin 3 4, 2, by decide +kernel, by decide +kernel, by decide +kernel,
     by decide +kernel, by decide +kernel, ent 1, by decide +kernel⟩,
   ⟨{ rx0 with entries := [{ ent 1 with status := 3 }] }, { pin 3 4 with msgLen := 300 }, 1, by decide +kernel, by decide +kernel, by decide +kernel,
     by decide +kernel, by decide +kernel, { ent 1 with status := 3 }, by decide +kernel⟩,
   ⟨devOf (withRx dPdt [{ rx0 with entries := [ent 1] }]) 1 { pin 3 4 with msgLen := 300 }, flowOf (withRx dPdt [{ rx0 with entries := [ent 1] }]) 1
     { pin 3 4 with msgLen := 300 }, { pin 3 4 with msgLen := 300 }, 1, by decide +kernel, by decide +kernel, by decide +kernel, by decide +kernel,
     by decide +kernel, ent 1, by decide +kernel⟩,
   ⟨devOf (withRx dPdt [{ rx0 with entries := [{ ent 1 with gcm := true }] }]) 1 { pin 3 4 with msgLen := 300, flags := 32768 }, flowOf (withRx dPdt
     [{ rx0 with entries := [{ ent 1 with gcm := true }] }]) 1 { pin 3 4 with msgLen := 300, flags := 32768 },
     { pin 3 4 with msgLen := 300, flags := 32768 }, 1, by decide +kernel, by decide +kernel, by decide +kernel, by decide +kernel, by decide +kernel,
     { ent 1 with gcm := true }, by decide +kernel⟩,
   ⟨dFull, rxFull, pin 0 4, 1, by decide +kernel⟩,
   ⟨devOf dPdt 4 { pin 0 0 with grant := 0 }, flowOf dPdt 4 { pin 0 0 with grant := 0 }, { pin 0 0 with grant := 0 }, 4, by decide +kernel⟩,
   ⟨devOf (withEp dPdt { ep1 with block := 0x80 :: epBlock.drop 1 }) 3 (pin 0 0), flowOf dPdt 3 (pin 0 0), pin 0 0, 3, by decide +kernel⟩,
   ⟨devOf dPdtQ 1 (pin 0 0), flowOf dPdtQ 1 (pin 0 0), pin 0 0, 1, by decide +kernel⟩,
   ⟨devOf dPdt 1 (pin 0 0), flowOf dPdt 1 (pin 0 0), pin 0 0, 1, by decide +kernel⟩,
   ⟨devOf dPdt 8 { pin 0 0 with flags := 32768 }, flowOf dPdt 8 (pin 0 0), { pin 0 0 with flags := 32768 }, 8, by decide +kernel⟩⟩

theorem test_wit_pdt_sender :
    (∃ (p : PdtIn) (g f : PdtTx) (s : State), s.dev.hearsPdt p = true ∧
      let note (op : Nat) (d : Device) : Device := let d := if s.dev.pdtCe op p then d.updTx p.dst p.src (fun f => { f with ece := true }) else d; if
        natBit p.flags 13 then d.takeEce p.dst p.src else d
      let h := s.dev.heardPdt 0x12 p
      h.tx? p.dst p.src = some g ∧ (note 0x12 h).tx? p.dst p.src = some f) ∧
    (∃ (p : PdtIn) (g f : PdtTx) (s : State), s.dev.hearsPdt p = true ∧
      let note (op : Nat) (d : Device) : Device := let d := if s.dev.pdtCe op p then d.updTx p.dst p.src (fun f => { f with ece := true }) else d; if
        natBit p.flags 13 then d.takeEce p.dst p.src else d
      let h := s.dev.heardPdt 0x13 p
      h.tx? p.dst p.src = some g ∧ (note 0x13 h).tx? p.dst p.src = some f) ∧
    (∃ (p : PdtIn) (g f : PdtTx) (s : State), s.dev.hearsPdt p = true ∧
      let note (op : Nat) (d : Device) : Device := let d := if s.dev.pdtCe op p then d.updTx p.dst p.src (fun f => { f with ece := true }) else d; if
        natBit p.flags 13 then d.takeEce p.dst p.src else d
      let h := (s.dev.heardPdt 0x14 p).bumpPdt 7
      let d := note 0x14 h
      h.tx? p.dst p.src = some g ∧ d.tx? p.dst p.src = some f ∧ msgOf f p.msn = none) ∧
    (∃ (p : PdtIn) (g f : PdtTx) (s : State), s.dev.hearsPdt p = true ∧
      let note (op : Nat) (d : Device) : Device := let d := if s.dev.pdtCe op p then d.updTx p.dst p.src (fun f => { f with ece := true }) else d; if
        natBit p.flags 13 then d.takeEce p.dst p.src else d
      let h := (s.dev.heardPdt 0x14 p).bumpPdt 7
      let d := note 0x14 h
      h.tx? p.dst p.src = some g ∧ d.tx? p.dst p.src = some f ∧ ∃ m, msgOf f p.msn = some m ∧ byteAt p.bytes 0 = 4) ∧
    (∃ (p : PdtIn) (g f : PdtTx) (s : State), s.dev.hearsPdt p = true ∧
      let note (op : Nat) (d : Device) : Device := let d := if s.dev.pdtCe op p then d.updTx p.dst p.src (fun f => { f with ece := true }) else d; if
        natBit p.flags 13 then d.takeEce p.dst p.src else d
      let h := (s.dev.heardPdt 0x14 p).bumpPdt 7
      let d := note 0x14 h
      h.tx? p.dst p.src = some g ∧ d.tx? p.dst p.src = some f ∧ ∃ m, msgOf f p.msn = some m ∧ byteAt p.bytes 0 ≠ 4) ∧
    (∃ (p : PdtIn) (g f : PdtTx) (s : State), s.dev.hearsPdt p = true ∧
      let note (op : Nat) (d : Device) : Device := let d := if s.dev.pdtCe op p then d.updTx p.dst p.src (fun f => { f with ece := true }) else d; if
        natBit p.flags 13 then d.takeEce p.dst p.src else d
      let h := (s.dev.heardPdt 0x15 p).bumpPdt 9
      h.tx? p.dst p.src = some g ∧ (note 0x15 h).tx? p.dst p.src = some f) ∧
    (∃ (p : PdtIn) (s : State), s.dev.hearsPdt p = true ∧
      let h := s.dev.heardPdt 0x11 p
      let r := s.dev.seenPdt 0x11 p
      h.respPending r = true) ∧
    (∃ (p : PdtIn) (g f : PdtTx) (s : State), s.dev.hearsPdt p = true ∧
      let note (op : Nat) (d : Device) : Device := let d := if s.dev.pdtCe op p then d.updTx p.dst p.src (fun f => { f with ece := true }) else d; if
        natBit p.flags 13 then d.takeEce p.dst p.src else d
      let h := s.dev.heardPdt 0x11 p
      let r := s.dev.seenPdt 0x11 p
      let d := note 0x11 h
      h.respPending r = false ∧ h.tx? p.dst p.src = some g ∧ d.tx? p.dst p.src = some f ∧ msgOf f p.msn = none) ∧
    (∃ (p : PdtIn) (g f : PdtTx) (s : State), s.dev.hearsPdt p = true ∧
      let note (op : Nat) (d : Device) : Device := let d := if s.dev.pdtCe op p then d.updTx p.dst p.src (fun f => { f with ece := true }) else d; if
        natBit p.flags 13 then d.takeEce p.dst p.src else d
      let h := s.dev.heardPdt 0x11 p
      let r := s.dev.seenPdt 0x11 p
      let d := note 0x11 h
      h.respPending r = false ∧ h.tx? p.dst p.src = some g ∧ d.tx? p.dst p.src = some f ∧ ∃ m, msgOf f p.msn = some m ∧ (m.read = false ∨ m.att ≠
        p.flags % 16)) ∧
    (∃ (p : PdtIn) (g f : PdtTx) (s : State), s.dev.hearsPdt p = true ∧
      let note (op : Nat) (d : Device) : Device := let d := if s.dev.pdtCe op p then d.updTx p.dst p.src (fun f => { f with ece := true }) else d; if
        natBit p.flags 13 then d.takeEce p.dst p.src else d
      let h := s.dev.heardPdt 0x11 p
      let r := s.dev.seenPdt 0x11 p
      let d := note 0x11 h
      h.respPending r = false ∧ h.tx? p.dst p.src = some g ∧ d.tx? p.dst p.src = some f ∧ ∃ m, msgOf f p.msn = some m ∧ m.read = true ∧ m.att =
        p.flags % 16 ∧ m.gcm = true ∧ (d.pdtUnseal m.kslot 0x11 r).2 = false) ∧
    (∃ (p : PdtIn) (g f : PdtTx) (s : State), s.dev.hearsPdt p = true ∧
      let note (op : Nat) (d : Device) : Device := let d := if s.dev.pdtCe op p then d.updTx p.dst p.src (fun f => { f with ece := true }) else d; if
        natBit p.flags 13 then d.takeEce p.dst p.src else d
      let h := s.dev.heardPdt 0x11 p
      let r := s.dev.seenPdt 0x11 p
      let d := note 0x11 h
      h.respPending r = false ∧ h.tx? p.dst p.src = some g ∧ d.tx? p.dst p.src = some f ∧ ∃ m, msgOf f p.msn = some m ∧ m.read = true ∧ m.att =
        p.flags % 16 ∧ (m.gcm = false ∨ (d.pdtUnseal m.kslot 0x11 r).2 = true) ∧
      let got := m.got.put p.msgOff (if m.gcm then (d.pdtUnseal m.kslot 0x11 r).1 else p.bytes)
      gotBytes got < m.len) ∧
    (∃ (p : PdtIn) (g f : PdtTx) (s : State), s.dev.hearsPdt p = true ∧
      let note (op : Nat) (d : Device) : Device := let d := if s.dev.pdtCe op p then d.updTx p.dst p.src (fun f => { f with ece := true }) else d; if
        natBit p.flags 13 then d.takeEce p.dst p.src else d
      let h := s.dev.heardPdt 0x11 p
      let r := s.dev.seenPdt 0x11 p
      let d := note 0x11 h
      h.respPending r = false ∧ h.tx? p.dst p.src = some g ∧ d.tx? p.dst p.src = some f ∧ ∃ m, msgOf f p.msn = some m ∧ m.read = true ∧ m.att =
        p.flags % 16 ∧ (m.gcm = false ∨ (d.pdtUnseal m.kslot 0x11 r).2 = true) ∧
      let got := m.got.put p.msgOff (if m.gcm then (d.pdtUnseal m.kslot 0x11 r).1 else p.bytes)
      m.len ≤ gotBytes got) ∧
    (∃ (loc src : Nat) (f : PdtRx) (s : State), s.dev.rx? loc src = some f ∧ f.unacked = 0) ∧
    (∃ (loc src : Nat) (f : PdtRx) (s : State), s.dev.rx? loc src = some f ∧ f.unacked ≠ 0) ∧
    (∃ (loc src : Nat) (f : PdtRx) (s : State), s.dev.rx? loc src = some f ∧ ∃ msn e, (f.entries.find? (fun e => e.msn == msn) = some e) ∧ e.status ≠
      0) ∧
    (∃ (loc src : Nat) (f : PdtRx) (s : State), s.dev.rx? loc src = some f ∧ ∃ msn e, (f.entries.find? (fun e => e.msn == msn) = some e) ∧ e.status =
      0) ∧
    (∃ (loc src : Nat) (f : PdtRx) (s : State), s.dev.rx? loc src = some f ∧ (f.entries ≠ [] ∨ f.runs ≠ [])) ∧
    (∃ (loc src : Nat) (f : PdtRx) (s : State), s.dev.rx? loc src = some f ∧ f.entries = [] ∧ f.runs = []) ∧
    (∃ (loc rem : Nat) (f : PdtTx) (s : State), s.dev.tx? loc rem = some f ∧ s.dev.pdtNextPkt f = none) ∧
    (∃ (loc rem : Nat) (f : PdtTx) (s : State), s.dev.tx? loc rem = some f ∧ ∃ m, s.dev.pdtNextPkt f = some m) ∧
    (∃ (loc rem : Nat) (f : PdtTx) (s : State), s.dev.tx? loc rem = some f ∧ ∃ m t, msgOf f m.msn = some m ∧ m.timerAt = some t) ∧
    (∃ (loc rem : Nat) (f : PdtTx) (s : State), s.dev.tx? loc rem = some f ∧ ∃ m t, msgOf f m.msn = some m ∧ m.repAt = some t) ∧
    (∃ (s : State), s.dev.rst.svcOpen = true) ∧
    (∃ (s : State), s.dev.rst.svcOpen = false) ∧
    (∃ (d : Device) (f : PdtTx) (m : PdtMsg), d.pdtNextPkt f = some m ∧ m.next = 0) :=
  ⟨⟨pin 0 0, txM msgR, txM msgR, st (dTx msgR), by decide +kernel⟩,
   ⟨{ pin 0 0 with bytes := List.replicate 48 0 }, txM msgR, txM msgR, st (dTx msgR), by decide +kernel⟩,
   ⟨pin 0 1, txM msgR, txM msgR, st (dTx msgR), by decide +kernel⟩,
   ⟨{ pin 0 0 with bytes := [4, 0, 0, 0] }, txM msgR, txM msgR, st (dTx msgR), by decide +kernel, by decide +kernel, by decide +kernel, msgR,
     by decide +kernel⟩,
   ⟨{ pin 0 0 with bytes := [1, 0, 0, 0] }, txM msgR, txM msgR, st (dTx msgR), by decide +kernel, by decide +kernel, by decide +kernel, msgR,
     by decide +kernel⟩,
   ⟨{ pin 0 0 with bytes := [1, 0, 0, 0] }, txM msgR, txM msgR, st (dTx msgR), by decide +kernel⟩,
   ⟨pin 0 0, st (dPendTx), by decide +kernel⟩,
   ⟨pin 0 1, txM msgR, txM msgR, st (dTx msgR), by decide +kernel⟩,
   ⟨{ pin 0 0 with flags := 1 }, txM msgR, txM msgR, st (dTx msgR), by decide +kernel, by decide +kernel, by decide +kernel, by decide +kernel, msgR,
     by decide +kernel⟩,
   ⟨pin 0 0, txM { msgR with gcm := true }, txM { msgR with gcm := true }, st (dTx { msgR with gcm := true }), by decide +kernel, by decide +kernel,
     by decide +kernel, by decide +kernel, { msgR with gcm := true }, by decide +kernel⟩,
   ⟨pin 0 0, txM { msgR with len := 2 }, txM { msgR with len := 2 }, st (dTx { msgR with len := 2 }), by decide +kernel, by decide +kernel,
     by decide +kernel, by decide +kernel, { msgR with len := 2 }, by decide +kernel⟩,
   ⟨pin 0 0, txM msgR, txM msgR, st (dTx msgR), by decide +kernel, by decide +kernel, by decide +kernel, by decide +kernel, msgR, by decide +kernel⟩,
   ⟨65537, 5, rx0, st (withRx dPdt [rx0]), by decide +kernel⟩,
   ⟨65537, 5, { rx0 with unacked := 1 }, st (withRx dPdt [{ rx0 with unacked := 1 }]), by decide +kernel⟩,
   ⟨65537, 5, { rx0 with entries := [{ ent 1 with status := 3 }] }, st (withRx dPdt [{ rx0 with entries := [{ ent 1 with status := 3 }] }]),
     by decide +kernel, 4, { ent 1 with status := 3 }, by decide +kernel⟩,
   ⟨65537, 5, { rx0 with entries := [ent 1] }, st (withRx dPdt [{ rx0 with entries := [ent 1] }]), by decide +kernel, 4, ent 1, by decide +kernel⟩,
   ⟨65537, 5, { rx0 with entries := [ent 1] }, st (withRx dPdt [{ rx0 with entries := [ent 1] }]), by decide +kernel⟩,
   ⟨65537, 5, rx0, st (withRx dPdt [rx0]), by decide +kernel⟩,
   ⟨65537, 5, txM msgR, st (dTx msgR), by decide +kernel⟩,
   ⟨65537, 5, txM msg1, st (dTx msg1), by decide +kernel, msg1, by decide +kernel⟩,
   ⟨65537, 5, txM msgR, st (dTx msgR), by decide +kernel, msgR, 65000, by decide +kernel⟩,
   ⟨65537, 5, txM { msgR with repAt := some 64000 }, st (dTx { msgR with repAt := some 64000 }), by decide +kernel, { msgR with repAt := some 64000 },
     64000, by decide +kernel⟩,
   ⟨st dOn, by decide +kernel⟩,
   ⟨st dShut, by decide +kernel⟩,
   ⟨dTx msg1, txM msg1, msg1, by decide +kernel⟩⟩

theorem test_wit_dram_commands :
    (∃ (ch : Nat) (s : State), s.dev.fld Fld.DRM_CH_STATUS_STATE ch ≠ 1) ∧
    (∃ (ch : Nat) (s : State), s.dev.fld Fld.DRM_CH_STATUS_STATE ch = 1 ∧ s.dev.flag Fld.DRM_CH_STATUS_RFM_ON ch = true) ∧
    (∃ (ch rank : Nat) (queued : List Nat) (s : State), s.dev.fld Fld.DRM_CH_STATUS_STATE ch = 1 ∧ s.dev.flag Fld.DRM_CH_STATUS_RFM_ON ch = false ∧
      AMap.sorted (s.dev.dramCh ch).postponed = true ∧
      let busy (b : Nat) : Bool := queued.any (fun q => q % 4 == b)
      let late := (List.range 4).any (fun b => busy b && decide (s.dev.fld Fld.DRM_CH_REF_POSTPONE_MAX ch ≤ s.dev.postponedOf ch rank b + 1))
      late = true) ∧
    (∃ (ch rank : Nat) (queued : List Nat) (s : State), s.dev.fld Fld.DRM_CH_STATUS_STATE ch = 1 ∧ s.dev.flag Fld.DRM_CH_STATUS_RFM_ON ch = false ∧
      AMap.sorted (s.dev.dramCh ch).postponed = true ∧
      let busy (b : Nat) : Bool := queued.any (fun q => q % 4 == b)
      let late := (List.range 4).any (fun b => busy b && decide (s.dev.fld Fld.DRM_CH_REF_POSTPONE_MAX ch ≤ s.dev.postponedOf ch rank b + 1))
      late = false) ∧
    (∃ (d : Device) (ch rank : Nat), (∀ bank, bank < 32 → ((d.dramCh ch).raa.find? (32 * rank + bank)).getD 0 < (d.raaLimits ch).1)) ∧
    (∃ (ch cls age : Nat) (s : State), s.dev.chLive ch = true ∧
      let limit := s.dev.fld (match cls with | 0 => Fld.DRM_AGE_A_C0 | 1 => Fld.DRM_AGE_A_C1 | 2 => Fld.DRM_AGE_B_C2 | _ => Fld.DRM_AGE_B_C3)
      limit < age) ∧
    (∃ (ch cls age : Nat) (s : State), s.dev.chLive ch = true ∧
      let limit := s.dev.fld (match cls with | 0 => Fld.DRM_AGE_A_C0 | 1 => Fld.DRM_AGE_A_C1 | 2 => Fld.DRM_AGE_B_C2 | _ => Fld.DRM_AGE_B_C3)
      age ≤ limit) ∧
    (∃ (ch : Nat) (s : State), (s.dev.drm.dimms.any (fun m => m.ch == ch) = false ∨ s.dev.hubOn = false ∨ s.dev.coreUp 5 = false)) ∧
    (∃ (ch temp : Nat) (s : State), (s.dev.drm.dimms.any (fun m => m.ch == ch) = true) ∧ s.dev.hubOn = true ∧ s.dev.coreUp 5 = true ∧
      let d := s.dev.setFld Fld.DRM_CH_STATUS_TEMP (min temp 255) ch
      85 ≤ temp ∧ temp < (d.setFld Fld.DRM_CH_STATUS_HOT 1 ch).fld Fld.DRM_CH_REF_TCRIT ch) ∧
    (∃ (ch temp : Nat) (s : State), (s.dev.drm.dimms.any (fun m => m.ch == ch) = true) ∧ s.dev.hubOn = true ∧ s.dev.coreUp 5 = true ∧
      let d := s.dev.setFld Fld.DRM_CH_STATUS_TEMP (min temp 255) ch
      85 ≤ temp ∧ (d.setFld Fld.DRM_CH_STATUS_HOT 1 ch).fld Fld.DRM_CH_REF_TCRIT ch ≤ temp) ∧
    (∃ (ch temp : Nat) (s : State), (s.dev.drm.dimms.any (fun m => m.ch == ch) = true) ∧ s.dev.hubOn = true ∧ s.dev.coreUp 5 = true ∧
      let d := s.dev.setFld Fld.DRM_CH_STATUS_TEMP (min temp 255) ch
      temp < 83 ∧ temp < (d.setFld Fld.DRM_CH_STATUS_HOT 0 ch).fld Fld.DRM_CH_REF_TCRIT ch) ∧
    (∃ (ch temp : Nat) (s : State), (s.dev.drm.dimms.any (fun m => m.ch == ch) = true) ∧ s.dev.hubOn = true ∧ s.dev.coreUp 5 = true ∧
      let d := s.dev.setFld Fld.DRM_CH_STATUS_TEMP (min temp 255) ch
      83 ≤ temp ∧ temp < 85 ∧ temp < d.fld Fld.DRM_CH_REF_TCRIT ch) ∧
    (∃ (ch : Nat) (s : State), s.dev.fld Fld.DRM_CTRL_SR_IDLE_US ≠ 0 ∧ s.dev.hold.bottle = none ∧ s.dev.fld Fld.DRM_CH_STATUS_STATE ch = 1 ∧
      s.dev.flag Fld.DRM_CH_STATUS_SWITCHING ch = false ∧ s.dev.sup.cur ≤ 1) ∧
    (∃ (s : State), s.dev.fld Fld.DRM_CTRL_SR_IDLE_US = 0) ∧
    (∃ (w : DramWalk) (c : Nat) (rest : List Nat) (s : State), s.dev.drm.walk = some w ∧ w.left = c :: rest ∧ rest = []) ∧
    (∃ (w : DramWalk) (c : Nat) (rest : List Nat) (s : State), s.dev.drm.walk = some w ∧ w.left = c :: rest ∧ ∃ n l, rest = n :: l ∧ w.stop = true) ∧
    (∃ (w : DramWalk) (c : Nat) (rest : List Nat) (s : State), s.dev.drm.walk = some w ∧ w.left = c :: rest ∧ ∃ n l, rest = n :: l ∧ w.stop = false) ∧
    (∃ (s : State), s.dev.drm.walk = none) ∧
    (∃ (ch slot subch rank dev bank row : Nat) (s : State), s.dev.chLive ch = true ∧
      let r : DramRow := { slot := slot, subch := subch, rank := rank, bank := bank, row := row }
      let d := ((s.dev.bumpSat Fld.DRM_CH_ERR_CE 1 ch).bumpPair Reg.DRM_CE_TOTAL_LO).noteError ch r dev false
      let d : Device := { d with age := { d.age with ceAll := d.age.ceAll.put ch ((d.age.ceAll.find? ch).getD 0 + 1) } }
      let ces := ((d.dramCh ch).ces.filter (fun p => decide (d.now < p.2 + dayUs))) ++ [(r, d.now)]
      let e := d.setDramCh ch { d.dramCh ch with ces := ces }
      (e.fld Fld.DRM_ERR_CFG_ROW_CE_THR ≤ (ces.filter (fun p => p.1 == r)).length)) ∧
    (∃ (ch slot subch rank dev bank row : Nat) (s : State), s.dev.chLive ch = true ∧
      let r : DramRow := { slot := slot, subch := subch, rank := rank, bank := bank, row := row }
      let d := ((s.dev.bumpSat Fld.DRM_CH_ERR_CE 1 ch).bumpPair Reg.DRM_CE_TOTAL_LO).noteError ch r dev false
      let d : Device := { d with age := { d.age with ceAll := d.age.ceAll.put ch ((d.age.ceAll.find? ch).getD 0 + 1) } }
      let ces := ((d.dramCh ch).ces.filter (fun p => decide (d.now < p.2 + dayUs))) ++ [(r, d.now)]
      let e := d.setDramCh ch { d.dramCh ch with ces := ces }
      ((ces.filter (fun p => p.1 == r)).length < e.fld Fld.DRM_ERR_CFG_ROW_CE_THR)) ∧
    (∃ (ch slot subch rank dev bank row : Nat) (s : State), s.dev.chLive ch = true ∧
      let r : DramRow := { slot := slot, subch := subch, rank := rank, bank := bank, row := row }
      ∃ (what : DramPage),
      let d := ((s.dev.bumpSat Fld.DRM_CH_ERR_UE 1 ch).bumpPair Reg.DRM_UE_TOTAL_LO).noteError ch r dev true
      let d := ((d.raise Reg.DRM_INT_STATUS 5 4).queueRow ch r).ueAct what
      let ues := ((d.dramCh ch).ues.filter (fun t => decide (d.now < t + 1000000))) ++ [d.now]
      let e := d.setDramCh ch { d.dramCh ch with ues := ues }
      e.fld Fld.DRM_ERR_CFG_CH_UE_MAX ≤ ues.length) ∧
    (∃ (ch slot subch rank dev bank row : Nat) (s : State), s.dev.chLive ch = true ∧
      let r : DramRow := { slot := slot, subch := subch, rank := rank, bank := bank, row := row }
      ∃ (what : DramPage),
      let d := ((s.dev.bumpSat Fld.DRM_CH_ERR_UE 1 ch).bumpPair Reg.DRM_UE_TOTAL_LO).noteError ch r dev true
      let d := ((d.raise Reg.DRM_INT_STATUS 5 4).queueRow ch r).ueAct what
      let ues := ((d.dramCh ch).ues.filter (fun t => decide (d.now < t + 1000000))) ++ [d.now]
      let e := d.setDramCh ch { d.dramCh ch with ues := ues }
      ues.length < e.fld Fld.DRM_ERR_CFG_CH_UE_MAX) ∧
    (∃ (s : State), s.dev.flag Fld.DRM_SCRUB_EN = true ∧ s.dev.hubOn = true ∧
      let cs := s.dev.liveChans.filter (fun c => !s.dev.chPaused c)
      cs = []) ∧
    (∃ (lines : Nat) (s : State), s.dev.flag Fld.DRM_SCRUB_EN = true ∧ s.dev.hubOn = true ∧
      let cs := s.dev.liveChans.filter (fun c => !s.dev.chPaused c)
      let size := (s.dev.drm.dimms.filter (fun m => s.dev.drm.dimms.head?.any (fun h => h.ch == m.ch))).foldl (fun a m => a + m.gib) 0 * 16777216
      let scrub := cs.foldl (fun (m : AMap Nat) c => m.put c (min size ((m.find? c).getD 0 + lines))) s.dev.drm.scrub
      cs ≠ [] ∧ (s.dev.liveChans.any (fun c => decide ((scrub.find? c).getD 0 < size)) = true)) ∧
    (∃ (lines : Nat) (s : State), s.dev.flag Fld.DRM_SCRUB_EN = true ∧ s.dev.hubOn = true ∧
      let cs := s.dev.liveChans.filter (fun c => !s.dev.chPaused c)
      let size := (s.dev.drm.dimms.filter (fun m => s.dev.drm.dimms.head?.any (fun h => h.ch == m.ch))).foldl (fun a m => a + m.gib) 0 * 16777216
      let scrub := cs.foldl (fun (m : AMap Nat) c => m.put c (min size ((m.find? c).getD 0 + lines))) s.dev.drm.scrub
      cs ≠ [] ∧ (s.dev.liveChans.any (fun c => decide ((scrub.find? c).getD 0 < size)) = false)) ∧
    (∃ (s : State), s.dev.hold.bottle.isSome) ∧
    (∃ (ch : Nat) (r : DramRow) (rest : List DramRow) (s : State), (s.dev.dramCh ch).queue = r :: rest ∧ s.dev.chPaused ch = false ∧ s.dev.chLive ch =
      true ∧ s.dev.coreUp 5 = true ∧
      let d := (s.dev.wakeCh ch).setDramCh ch { s.dev.dramCh ch with queue := rest }
      let listed := (d.learned.repairs.find? ch).getD []
      listed.contains r = false ∧ 32 ≤ listed.length) ∧
    (∃ (ch : Nat) (r : DramRow) (rest : List DramRow) (s : State), (s.dev.dramCh ch).queue = r :: rest ∧ s.dev.chPaused ch = false ∧ s.dev.chLive ch =
      true ∧ s.dev.coreUp 5 = true ∧
      let d := (s.dev.wakeCh ch).setDramCh ch { s.dev.dramCh ch with queue := rest }
      let listed := (d.learned.repairs.find? ch).getD []
      listed.contains r = false ∧ listed.length < 32) ∧
    (∃ (ch : Nat) (r : DramRow) (rest : List DramRow) (s : State), (s.dev.dramCh ch).queue = r :: rest ∧ s.dev.chPaused ch = false ∧ s.dev.chLive ch =
      true ∧ s.dev.coreUp 5 = true ∧
      let d := (s.dev.wakeCh ch).setDramCh ch { s.dev.dramCh ch with queue := rest }
      let listed := (d.learned.repairs.find? ch).getD []
      listed.contains r = true) ∧
    (∃ (ch : Nat) (s : State), (s.dev.dramCh ch).queue = []) ∧
    (∃ (ch : Nat) (d : Device), (d.drm.retired.contains ch = true ∨ d.chLive ch = false)) ∧
    (∃ (d : Device) (p : DupPage), ∃ c, d.copyLost p 1 = false ∧ d.copyCh p 0 = some c) ∧
    (∃ (d : Device) (p : DupPage), d.copyLost p 0 = false ∧ d.drm.bad.contains (p, 1) = false) ∧
    (∃ (d : Device) (p : DupPage), ∃ copy, d.copyLost p (1 - copy) = true ∧ d.drm.bad.contains (p, copy) = true) ∧
    (∃ (s : State), s.dev.drm.quietUntil = 0) ∧
    (∃ (s : State), s.dev.drm.quietUntil ≠ 0) :=
  ⟨⟨3, st dOn, by decide +kernel⟩,
   ⟨3, st (((withDimm dCh).setFld Fld.DRM_CH_STATUS_RFM_ON 1 3)), by decide +kernel⟩,
   ⟨3, 1, [31], st (dCh.setFld Fld.DRM_CH_REF_POSTPONE_MAX 1 3), by decide +kernel⟩,
   ⟨3, 1, [31], st (dCh.setFld Fld.DRM_CH_REF_POSTPONE_MAX 7 3), by decide +kernel⟩,
   ⟨withDimm dCh, 3, 1, by decide +kernel⟩,
   ⟨3, 0, 1000000, st dCh, by decide +kernel⟩,
   ⟨3, 2, 0, st dCh, by decide +kernel⟩,
   ⟨40, st dOn, by decide +kernel⟩,
   ⟨3, 85, st (dCh.setFld Fld.DRM_CH_REF_TCRIT 95 3), by decide +kernel⟩,
   ⟨3, 95, st (dCh.setFld Fld.DRM_CH_REF_TCRIT 95 3), by decide +kernel⟩,
   ⟨3, 82, st (dCh.setFld Fld.DRM_CH_REF_TCRIT 95 3), by decide +kernel⟩,
   ⟨3, 84, st (dCh.setFld Fld.DRM_CH_REF_TCRIT 95 3), by decide +kernel⟩,
   ⟨3, st (dCh.setFld Fld.DRM_CTRL_SR_IDLE_US 5 0), by decide +kernel⟩,
   ⟨st (dCh.setFld Fld.DRM_CTRL_SR_IDLE_US 0 0), by decide +kernel⟩,
   ⟨{ left := [3], stop := false }, 3, [], st (withWalk dCh { left := [3], stop := false }), by decide +kernel⟩,
   ⟨{ left := [3, 4], stop := true }, 3, [4], st (withWalk dCh { left := [3, 4], stop := true }), by decide +kernel, by decide +kernel, 4, [],
     by decide +kernel⟩,
   ⟨{ left := [3, 4], stop := false }, 3, [4], st (withWalk dCh { left := [3, 4], stop := false }), by decide +kernel, by decide +kernel, 4, [],
     by decide +kernel⟩,
   ⟨st dCh, by decide +kernel⟩,
   ⟨3, 0, 0, 0, 1, 2, 9, st (withDch dCh { DramCh.blank with ces := List.replicate 40 (row1, 0) }), by decide +kernel⟩,
   ⟨3, 0, 0, 0, 1, 2, 9, st dCh, by decide +kernel⟩,
   ⟨3, 0, 0, 0, 1, 2, 9, st (withDch dCh { DramCh.blank with ues := List.replicate 40 0 }), by decide +kernel, .data 3 0, by decide +kernel⟩,
   ⟨3, 0, 0, 0, 1, 2, 9, st dCh, by decide +kernel, .data 3 0, by decide +kernel⟩,
   ⟨st (dOn.setFld Fld.DRM_SCRUB_EN 1 0), by decide +kernel⟩,
   ⟨10, st (withDimm dCh), by decide +kernel⟩,
   ⟨33554432, st (withDimm dCh), by decide +kernel⟩,
   ⟨st (dBot btl 1), by decide +kernel⟩,
   ⟨3, row1, [], st (withRep ((List.range 32).map (fun i => { row1 with row := 100 + i }))), by decide +kernel⟩,
   ⟨3, row1, [], st (withDch dCh { DramCh.blank with queue := [row1] }), by decide +kernel⟩,
   ⟨3, row1, [], st (withRep [row1]), by decide +kernel⟩,
   ⟨3, st dCh, by decide +kernel⟩,
   ⟨3, { dCh with drm := { dCh.drm with retired := [3] } }, by decide +kernel⟩,
   ⟨dupOn, dup1, (dupOn.copyCh dup1 0).getD 0, dup_copy 1 (.inr rfl), dup_copy0⟩,
   ⟨dupOn, dup1, dup_copy 0 (.inl rfl), by decide +kernel⟩,
   ⟨{ dupOn with drm := { dupOn.drm with bad := [(dup1, 0), (dup1, 1)] } }, dup1, 0, by decide +kernel⟩,
   ⟨st dCh, by decide +kernel⟩,
   ⟨st { dCh with drm := { dCh.drm with quietUntil := 50 } }, by decide +kernel⟩⟩

theorem test_wit_cellar_commands :
    (∃ (ch lun block : Nat) (s : State), s.dev.lunState ch lun = 1 ∧ s.dev.freeFirst ch lun block = false) ∧
    (∃ (ch lun block page : Nat) (slc : Bool) (s : State), s.dev.lunState ch lun = 1 ∧ s.dev.freeFirst ch lun block = true ∧ s.dev.programOk ch lun
      block page slc = false) ∧
    (∃ (ch lun block page : Nat) (slc : Bool) (s : State), s.dev.lunState ch lun = 1 ∧ s.dev.freeFirst ch lun block = true ∧ s.dev.programOk ch lun
      block page slc = true) ∧
    (∃ (ch lun block page : Nat) (s : State), s.dev.lunState ch lun = 1 ∧ page ≠ (s.dev.blk ch lun block).wp) ∧
    (∃ (ch lun block : Nat) (s : State), s.dev.lunState ch lun = 1 ∧ s.dev.erasable ch lun block = false) ∧
    (∃ (ch lun block : Nat) (s : State), s.dev.lunState ch lun = 1 ∧ s.dev.erasable ch lun block = true) ∧
    (∃ (ch lun block vault : Nat) (s : State), s.dev.lunState ch lun = 1 ∧ s.dev.erasable ch lun block = true ∧ (vault = 1 ∨ vault = 2)) ∧
    (∃ (ch lun block vault : Nat) (s : State), s.dev.lunState ch lun = 1 ∧ s.dev.erasable ch lun block = true ∧ vault = 0) ∧
    (∃ (sb : Nat) (x : Super) (s : State), s.dev.cel.supers.find? sb = some x ∧
      let ms := s.dev.cel.blocks.filter (fun (p : Nat × Blk) => p.2.sb == sb && (p.2.state == .opened || p.2.state == .full))
      let top := ms.foldl (fun (a : Nat) (p : Nat × Blk) => max a p.2.wp) 0
      let low := ms.filter (fun (p : Nat × Blk) => decide (p.2.wp < top))
      low = []) ∧
    (∃ (sb : Nat) (x : Super) (s : State), s.dev.cel.supers.find? sb = some x ∧
      let ms := s.dev.cel.blocks.filter (fun (p : Nat × Blk) => p.2.sb == sb && (p.2.state == .opened || p.2.state == .full))
      let top := ms.foldl (fun (a : Nat) (p : Nat × Blk) => max a p.2.wp) 0
      let low := ms.filter (fun (p : Nat × Blk) => decide (p.2.wp < top))
      low ≠ []) ∧
    (∃ (sb : Nat) (s : State), s.dev.cel.supers.find? sb = none) ∧
    (∃ (ch lun cask rack page : Nat) (isRack : Bool) (s : State), s.dev.lunState ch lun ≠ 0 ∧
      let d := s.dev.bumpPair Reg.CEL_READ_CNT_LO
      s.dev.lunState ch lun = 1 ∧ (isRack = true → d.headBad cask rack page = false)) ∧
    (∃ (ch lun bin bits retry cask rack page : Nat) (isRack : Bool) (s : State), s.dev.lunState ch lun ≠ 0 ∧
      let d := s.dev.bumpPair Reg.CEL_READ_CNT_LO
      let key := 8 * lunKey ch lun + bin % 8
      s.dev.lunState ch lun = 1 ∧ (isRack = true → d.headBad cask rack page = false) ∧ 1 ≤ retry ∧ retry ≤ d.fld Fld.CEL_RETRY_MAX ∧
      let e := (d.noteNand key bits retry).bumpSat Fld.CEL_C_ERR_RETRIES 1 ch
      e.fld Fld.CEL_RETRY_RELOC ≤ retry ∧ isRack = true) ∧
    (∃ (ch lun bin bits retry cask rack page : Nat) (isRack : Bool) (s : State), s.dev.lunState ch lun ≠ 0 ∧
      let d := s.dev.bumpPair Reg.CEL_READ_CNT_LO
      let key := 8 * lunKey ch lun + bin % 8
      s.dev.lunState ch lun = 1 ∧ (isRack = true → d.headBad cask rack page = false) ∧ 1 ≤ retry ∧ retry ≤ d.fld Fld.CEL_RETRY_MAX ∧
      let e := (d.noteNand key bits retry).bumpSat Fld.CEL_C_ERR_RETRIES 1 ch
      retry < e.fld Fld.CEL_RETRY_RELOC) ∧
    (∃ (ch lun retry cask rack page : Nat) (isRack : Bool) (s : State), s.dev.lunState ch lun ≠ 0 ∧
      let d := s.dev.bumpPair Reg.CEL_READ_CNT_LO
      s.dev.lunState ch lun = 1 ∧ (isRack = true → d.headBad cask rack page = false) ∧ retry = 0 ∧ d.flag Fld.CEL_RETRY_SOFT_EN = true ∧ isRack = true) ∧
    (∃ (ch lun retry cask rack page : Nat) (isRack : Bool) (s : State), s.dev.lunState ch lun ≠ 0 ∧
      let d := s.dev.bumpPair Reg.CEL_READ_CNT_LO
      s.dev.lunState ch lun = 1 ∧ (isRack = true → d.headBad cask rack page = false) ∧ retry = 0 ∧ isRack = true ∧ d.rowCut ch lun = false) ∧
    (∃ (ch lun cask rack page : Nat) (isRack : Bool) (s : State), s.dev.lunState ch lun ≠ 0 ∧
      let d := s.dev.bumpPair Reg.CEL_READ_CNT_LO
      s.dev.lunState ch lun ≠ 1 ∧ isRack = true ∧ d.headBad cask rack page = false ∧ d.rowCut ch lun = false) ∧
    (∃ (ch lun retry : Nat) (s : State), s.dev.lunState ch lun ≠ 0 ∧ retry = 0) ∧
    (∃ (ch lun retry cask rack page : Nat) (hard offset soft rebuild : Bool) (s : State), s.dev.lunState ch lun ≠ 0 ∧
      let d := s.dev.bumpPair Reg.CEL_READ_CNT_LO
      (d.headBad cask rack page = true ∨ (hard = false ∧ offset = false ∧ retry = 0 ∧ soft = false ∧ rebuild = false)) ∧ d.mir.attached = true ∧
        d.mir.absent = false) ∧
    (∃ (ch lun retry cask rack page : Nat) (hard offset soft rebuild : Bool) (s : State), s.dev.lunState ch lun ≠ 0 ∧
      let d := s.dev.bumpPair Reg.CEL_READ_CNT_LO
      (d.headBad cask rack page = true ∨ (hard = false ∧ offset = false ∧ retry = 0 ∧ soft = false ∧ rebuild = false)) ∧ d.mir.attached = false) ∧
    (∃ (ch lun level : Nat) (s : State), 4 ≤ level ∧ level ≤ 6 ∧ s.dev.lunState ch lun = 1 ∧ s.dev.hold.bottle = none) ∧
    (∃ (cask rack read : Nat) (s : State),
      let r := s.dev.rack cask rack
      r.cptr ≠ read) ∧
    (∃ (cask rack read new : Nat) (s : State), (s.dev.siteOk new = false ∨ s.dev.moveTurn (rackKey cask rack) read = false)) ∧
    (∃ (cask rack read new : Nat) (s : State),
      let r := s.dev.rack cask rack
      r.wb = false ∧ r.fetch = false ∧ r.vault = false ∧ r.cvalid = true ∧ r.homed = true ∧ r.cptr = read ∧ s.dev.hold.bottle = none ∧
        s.dev.mkeyMissing cask = false ∧ s.dev.siteOk new = true ∧ s.dev.moveTurn (rackKey cask rack) read = true ∧ s.dev.coreUp (edgeCore read) =
        true ∧ s.dev.coreUp (edgeCore new) = true ∧ AMap.sorted s.dev.csk.racks = true) ∧
    (∃ (ch lun : Nat) (s : State), s.dev.lunState ch lun = 1 ∧ s.dev.hold.bottle = none ∧ (s.dev.coreUp (if ch < 32 then 3 else 4) = true)) ∧
    (∃ (s : State), s.dev.hubOn = true) ∧
    (∃ (s : State), s.dev.hubOn = false) ∧
    (∃ (ch lun : Nat) (s : State), s.dev.lunState ch lun = 1 ∧ s.dev.cel.hungAt.find? (lunKey ch lun) = none) :=
  ⟨⟨3, 5, 9, st (dOn.setBlk 3 5 9 { Blk.blank with erases := 1 }), by decide +kernel⟩,
   ⟨3, 5, 9, 4, false, st dOn, by decide +kernel⟩,
   ⟨3, 5, 9, 0, false, st dOn, by decide +kernel⟩,
   ⟨3, 5, 9, 4, st dOn, by decide +kernel⟩,
   ⟨3, 5, 9, st dOn, by decide +kernel⟩,
   ⟨3, 5, 9, st dRel, by decide +kernel⟩,
   ⟨3, 5, 9, 1, st dRel, by decide +kernel⟩,
   ⟨3, 5, 9, 0, st dRel, by decide +kernel⟩,
   ⟨1, sup1, st (withSb dOn), by decide +kernel⟩,
   ⟨1, sup1, st (((withSb dOn).setBlk 3 5 9 { Blk.blank with state := .opened, sb := 1, wp := 4 }).setBlk 3 5 10
     { Blk.blank with state := .opened, sb := 1, wp := 2, member := 1 }), by decide +kernel⟩,
   ⟨1, st dOn, by decide +kernel⟩,
   ⟨3, 5, 4, 0, 0, true, st dOn, by decide +kernel⟩,
   ⟨3, 5, 0, 2, 9, 4, 0, 0, true, st (dOn.setFld Fld.CEL_RETRY_MAX 12 0), by decide +kernel⟩,
   ⟨3, 5, 0, 2, 1, 4, 0, 0, true, st ((dOn.setFld Fld.CEL_RETRY_MAX 12 0).setFld Fld.CEL_RETRY_RELOC 4 0), by decide +kernel⟩,
   ⟨3, 5, 0, 4, 0, 0, true, st (dOn.setFld Fld.CEL_RETRY_SOFT_EN 1 0), by decide +kernel⟩,
   ⟨3, 5, 0, 4, 0, 0, true, st dOn, by decide +kernel⟩,
   ⟨3, 5, 4, 0, 0, true, st (dOn.setFld Fld.CEL_C_STATUS_ISO_VOL 1 3), by decide +kernel⟩,
   ⟨3, 5, 0, st dOn, by decide +kernel⟩,
   ⟨3, 5, 0, 4, 0, 0, false, false, false, false, st dAct, by decide +kernel⟩,
   ⟨3, 5, 0, 4, 0, 0, false, false, false, false, st dOn, by decide +kernel⟩,
   ⟨3, 5, 4, st dOn, by decide +kernel⟩,
   ⟨4, 0, 77, st dOn, by decide +kernel⟩,
   ⟨4, 0, 77, 0, st (dOn.setFld Fld.CEL_C_STATUS_ISO_VOL 1 3), by decide +kernel⟩,
   ⟨4, 0, 77, 78, st (withReloc (withHw0 (withRack (withCask dOn) { rk with cvalid := true, homed := true, cptr := 77 }))), by decide +kernel⟩,
   ⟨40, 5, st dOn, by decide +kernel⟩,
   ⟨st dOn, by decide +kernel⟩,
   ⟨st { dOn with hubOn := false }, by decide +kernel⟩,
   ⟨3, 5, st dOn, by decide +kernel⟩⟩

theorem test_wit_cipher_and_alarms :
    (∃ (fn q : Nat) (x : DescState) (s : State), s.dev.takesIo fn q 0x09 x false = true ∧ cipherForm x.dw = false) ∧
    (∃ (fn q : Nat) (x : DescState) (s : State), s.dev.takesIo fn q 0x09 x false = true ∧
      let d := s.dev.startDesc fn q x
      cipherForm x.dw = true ∧ (d.flag Fld.CPH_CTRL_HOST_EN = false ∨ d.slotPermits (cipSlot x.dw) 0 = false)) ∧
    (∃ (fn q : Nat) (x : DescState) (s : State), s.dev.takesIo fn q 0x09 x false = true ∧
      let d := s.dev.startDesc fn q x
      cipherForm x.dw = true ∧ d.flag Fld.CPH_CTRL_HOST_EN = true ∧ d.slotPermits (cipSlot x.dw) 0 = true ∧ (dCaskIo x.dw = true ∨ cipToCask x.dw =
        true) ∧ s.dev.placesWrites = false) ∧
    (∃ (fn q : Nat) (x : DescState) (s : State), s.dev.takesIo fn q 0x09 x false = true ∧
      let d := s.dev.startDesc fn q x
      cipherForm x.dw = true ∧ d.flag Fld.CPH_CTRL_HOST_EN = true ∧ d.slotPermits (cipSlot x.dw) 0 = true ∧ dCaskIo x.dw = false ∧ (cipToCask x.dw =
        false ∨ s.dev.placesWrites = true)) ∧
    (∃ (fn q : Nat) (x : DescState) (s : State), s.dev.takesIo fn q 0x09 x false = true ∧
      let d := s.dev.startDesc fn q x
      cipherForm x.dw = true ∧ d.flag Fld.CPH_CTRL_HOST_EN = true ∧ d.slotPermits (cipSlot x.dw) 0 = true ∧ dCaskIo x.dw = true ∧ s.dev.placesWrites =
        true) ∧
    (∃ (source : Nat) (s : State), s.dev.sup.supOn = true ∧ s.dev.hubOn = true ∧ 1 ≤ source ∧ source ≤ 5 ∧ s.dev.cph.quiet.find? source = none ∧
      source ≠ 4) ∧
    (∃ (source : Nat) (s : State), s.dev.sup.supOn = true ∧ s.dev.hubOn = true ∧ 1 ≤ source ∧ source ≤ 5 ∧ s.dev.cph.quiet.find? source = none ∧
      source = 4) ∧
    (∃ (source t : Nat) (s : State), s.dev.sup.supOn = true ∧ s.dev.cph.quiet.find? source = some t ∧ s.dev.now < t + 1000) ∧
    (∃ (t : Nat) (s : State), s.dev.sup.supOn = true ∧ s.dev.cph.alarmAt = some t) ∧
    (∃ (s : State), s.dev.sup.supOn = true ∧ s.dev.cph.alarmAt = none) ∧
    (∃ (levels : Nat) (s : State),
      let old := s.dev.fld Fld.SUP_TAMPER_STATUS_LATCH
      let hit := Nat.land (15 - levels % 16) (s.dev.fld Fld.SUP_TAMPER_CFG_EN)
      s.dev.sup.supOn = true ∧ Nat.land hit (15 - old) = 0) ∧
    (∃ (levels : Nat) (s : State),
      let old := s.dev.fld Fld.SUP_TAMPER_STATUS_LATCH
      let hit := Nat.land (15 - levels % 16) (s.dev.fld Fld.SUP_TAMPER_CFG_EN)
      let d := (s.dev.setFld Fld.SUP_TAMPER_STATUS_PIN levels).setFld Fld.SUP_TAMPER_STATUS_LATCH (Nat.lor old hit)
      s.dev.sup.supOn = true ∧ Nat.land hit (15 - old) ≠ 0 ∧ d.flag Fld.SUP_TAMPER_CFG_POLICY = true) ∧
    (∃ (levels : Nat) (s : State),
      let old := s.dev.fld Fld.SUP_TAMPER_STATUS_LATCH
      let hit := Nat.land (15 - levels % 16) (s.dev.fld Fld.SUP_TAMPER_CFG_EN)
      let d := (s.dev.setFld Fld.SUP_TAMPER_STATUS_PIN levels).setFld Fld.SUP_TAMPER_STATUS_LATCH (Nat.lor old hit)
      s.dev.sup.supOn = true ∧ Nat.land hit (15 - old) ≠ 0 ∧ d.flag Fld.SUP_TAMPER_CFG_POLICY = false) ∧
    (∃ (levels : Nat) (s : State),
      let old := s.dev.fld Fld.SUP_TAMPER_STATUS_LATCH
      let hit := Nat.land (15 - levels % 16) (s.dev.fld Fld.SUP_TAMPER_CFG_EN)
      s.dev.sup.supOn = false ∧ 1000 ≤ s.dev.sup.vbat ∧ Nat.land hit (15 - old) ≠ 0) ∧
    (∃ (s : State), s.dev.sup.supOn = false ∧ s.dev.sup.vbat < 1000) :=
  ⟨⟨0, 1, dsc 9 [], sQ 0 1 [dsc 9 []], by decide +kernel⟩,
   ⟨0, 1, dCip [], sQ 0 1 [dCip []], by decide +kernel⟩,
   ⟨0, 1, dCip [(5, 0x40000000)], st (stby (withQ dKey 0 1 [dCip [(5, 0x40000000)]])), by decide +kernel⟩,
   ⟨0, 1, dCip [], st (withQ dKey 0 1 [dCip []]), by decide +kernel⟩,
   ⟨0, 1, dCip [(5, 0x40000000)], st (withCask (withQ dKey 0 1 [dCip [(5, 0x40000000)]])), by decide +kernel⟩,
   ⟨1, st dKey, by decide +kernel⟩,
   ⟨4, st dKey, by decide +kernel⟩,
   ⟨2, 5, st (withCph dKey (fun c => { c with quiet := [(2, 5)] })), by decide +kernel⟩,
   ⟨5, st (withCph dKey (fun c => { c with alarmAt := some 5 })), by decide +kernel⟩,
   ⟨st dKey, by decide +kernel⟩,
   ⟨15, st dKey, by decide +kernel⟩,
   ⟨14, st ((dKey.setFld Fld.SUP_TAMPER_CFG_EN 15 0).setFld Fld.SUP_TAMPER_CFG_POLICY 1 0), by decide +kernel⟩,
   ⟨14, st ((dKey.setFld Fld.SUP_TAMPER_CFG_EN 15 0).setFld Fld.SUP_TAMPER_CFG_POLICY 0 0), by decide +kernel⟩,
   ⟨14, st (dBat.setFld Fld.SUP_TAMPER_CFG_EN 15 0), by decide +kernel⟩,
   ⟨st (withSup dBat (fun u => { u with vbat := 900 })), by decide +kernel⟩⟩

theorem test_wit_rail_commands :
    (∃ (s : State), s.dev.sup.supOn = true ∧ ∃ (slot : Nat), s.dev.sup.state = .powerUp ∧ s.dev.sup.phase = .prestart ∧ (s.dev.workSlots
      s.dev.sup.dpExit).contains slot = true ∧ s.dev.belowOff slot (s.dev.rail slot).mv = false) ∧
    (∃ (s : State), s.dev.sup.supOn = true ∧ ∃ (slot mv : Nat) (pg : Bool), s.dev.inRegulation slot mv pg = true ∧ s.dev.slotUsed slot = true ∧
      let d := s.dev.noteRail slot mv pg
      (d.rail slot).state ≠ .rising) ∧
    (∃ (s : State), s.dev.sup.supOn = true ∧ ∃ (slot mv : Nat) (pg : Bool), s.dev.inRegulation slot mv pg = true ∧ s.dev.slotUsed slot = true ∧
      let d := s.dev.noteRail slot mv pg
      (d.rail slot).state = .rising ∧
      let e := d.setRail slot { d.rail slot with state := .inReg }
      e.sup.state = .powerUp ∧ e.sup.phase = .rising ∧ (e.stepSlots.all (fun n => (e.rail n).state == .inReg) = true)) ∧
    (∃ (s : State), s.dev.sup.supOn = true ∧ ∃ (slot mv : Nat) (pg : Bool), s.dev.inRegulation slot mv pg = true ∧ s.dev.slotUsed slot = true ∧
      let d := s.dev.noteRail slot mv pg
      (d.rail slot).state = .rising ∧
      let e := d.setRail slot { d.rail slot with state := .inReg }
      e.sup.state ≠ .powerUp) ∧
    (∃ (s : State), s.dev.sup.supOn = true ∧ ∃ (slot mv : Nat) (pg : Bool), s.dev.inRegulation slot mv pg = false) ∧
    (∃ (s : State), s.dev.sup.supOn = true ∧ s.dev.sup.state = .powerUp ∧ s.dev.sup.phase = .delay) ∧
    (∃ (s : State), s.dev.sup.supOn = true ∧ s.dev.sup.state ≠ .powerUp) ∧
    (∃ (s : State), s.dev.sup.supOn = true ∧ ∃ (slot : Nat), s.dev.sup.state = .powerUp ∧ s.dev.sup.phase = .rising ∧ s.dev.stepSlots.contains slot =
      true ∧ (s.dev.rail slot).state = .rising) ∧
    (∃ (s : State), s.dev.sup.supOn = true ∧ ∃ (pll : Nat), pll < 6 ∧ s.dev.sup.state = .powerUp ∧ s.dev.refEnabled (pllRef pll) = false) ∧
    (∃ (s : State), s.dev.sup.supOn = true ∧ ∃ (pll : Nat), pll < 6 ∧ s.dev.sup.state = .powerUp ∧ s.dev.sup.plls.contains pll = false ∧
      s.dev.refEnabled (pllRef pll) = true) ∧
    (∃ (s : State), s.dev.sup.supOn = true ∧ ∃ (pll : Nat), pll < 6 ∧ s.dev.sup.state = .powerUp ∧ s.dev.sup.plls.contains pll = true) ∧
    (∃ (s : State), s.dev.sup.supOn = true ∧ ∃ (slot mv : Nat) (pg : Bool), s.dev.slotUsed slot = true ∧
      let d := s.dev.noteRail slot mv pg
      d.faultTrig slot mv pg = none) ∧
    (∃ (s : State), s.dev.sup.supOn = true ∧ ∃ (slot mv : Nat) (pg : Bool), s.dev.slotUsed slot = true ∧
      let d := s.dev.noteRail slot mv pg
      ∃ t, d.faultTrig slot mv pg = some t ∧ (d.sup.state = .on ∨ d.sup.state = .flush ∨ d.sup.state = .lowPower) ∧ (s.dev.rail slot).state = .inReg) ∧
    (∃ (s : State), s.dev.sup.supOn = true ∧ ∃ (slot mv : Nat) (pg : Bool), s.dev.slotUsed slot = true ∧
      let d := s.dev.noteRail slot mv pg
      ∃ t, d.faultTrig slot mv pg = some t ∧ (d.sup.state = .on ∨ d.sup.state = .flush ∨ d.sup.state = .lowPower) ∧ (s.dev.rail slot).state ≠ .inReg) ∧
    (∃ (s : State), s.dev.sup.supOn = true ∧ ∃ (slot mv : Nat) (pg : Bool), s.dev.slotUsed slot = true ∧
      let d := s.dev.noteRail slot mv pg
      ∃ t, d.faultTrig slot mv pg = some t ∧ d.sup.state = .powerUp ∧ (s.dev.rail slot).state = .rising ∧ t = 6) ∧
    (∃ (s : State), s.dev.sup.supOn = true ∧ ∃ (slot mv : Nat) (pg : Bool), s.dev.slotUsed slot = true ∧
      let d := s.dev.noteRail slot mv pg
      ∃ t, d.faultTrig slot mv pg = some t ∧ d.sup.state = .powerUp ∧ (s.dev.rail slot).state = .inReg ∧ d.sup.dpExit = true ∧ d.flag
        Fld.SUP_R_CFG_KEEP_DP slot = true) ∧
    (∃ (s : State), s.dev.sup.supOn = true ∧ ∃ (slot mv : Nat) (pg : Bool), s.dev.slotUsed slot = true ∧
      let d := s.dev.noteRail slot mv pg
      ∃ t, d.faultTrig slot mv pg = some t ∧ d.sup.state = .powerUp ∧ (s.dev.rail slot).state = .inReg ∧ (d.sup.dpExit = false ∨ d.flag
        Fld.SUP_R_CFG_KEEP_DP slot = false)) ∧
    (∃ (s : State), s.dev.sup.supOn = true ∧ ∃ (slot mv : Nat) (pg : Bool), s.dev.slotUsed slot = true ∧
      let d := s.dev.noteRail slot mv pg
      ∃ t, d.faultTrig slot mv pg = some t ∧ d.sup.state = .powerDown ∧ (s.dev.rail slot).en = true ∧ (s.dev.rail slot).state = .inReg) ∧
    (∃ (s : State), s.dev.sup.supOn = true ∧ ∃ (slot mv : Nat), s.dev.slotUsed slot = true ∧ s.dev.belowOff slot mv = true ∧
      let d := s.dev.setRail slot { s.dev.rail slot with mv := mv, state := if (s.dev.rail slot).en then (s.dev.rail slot).state else .off }
      d.sup.state = .powerUp ∧ d.sup.phase = .prestart ∧ ((d.workSlots d.sup.dpExit).all (fun n => d.belowOff n (d.rail n).mv) = true)) ∧
    (∃ (s : State), s.dev.sup.supOn = true ∧ ∃ (slot mv : Nat), s.dev.slotUsed slot = true ∧ s.dev.belowOff slot mv = true ∧
      let d := s.dev.setRail slot { s.dev.rail slot with mv := mv, state := if (s.dev.rail slot).en then (s.dev.rail slot).state else .off }
      d.sup.state = .powerUp ∧ d.sup.phase = .prestart ∧ ((d.workSlots d.sup.dpExit).all (fun n => d.belowOff n (d.rail n).mv) = false)) ∧
    (∃ (s : State), s.dev.sup.supOn = true ∧ ∃ (slot mv : Nat), s.dev.slotUsed slot = true ∧ s.dev.belowOff slot mv = true ∧
      let d := s.dev.setRail slot { s.dev.rail slot with mv := mv, state := if (s.dev.rail slot).en then (s.dev.rail slot).state else .off }
      d.sup.state ≠ .powerUp) ∧
    (∃ (s : State), s.dev.sup.supOn = true ∧ ∃ (slot : Nat), s.dev.sup.state = .powerDown ∧ (s.dev.workSlots s.dev.sup.dnKeep).contains slot = true ∧
      s.dev.fld Fld.SUP_R_CFG_DN_STEP slot = s.dev.sup.step ∧ (s.dev.rail slot).en = false ∧ (s.dev.rail slot).state ≠ .off ∧ (s.dev.rail slot).dnTmo
      = false) ∧
    (∃ (s : State), s.dev.sup.supOn = true ∧ ∃ (slot : Nat), s.dev.sup.state = .powerDown ∧ (s.dev.rail slot).dnTmo = true ∧ (s.dev.rail slot).handled
      = false ∧ (s.dev.rail slot).state ≠ .off) ∧
    (∃ (s : State), s.dev.sup.supOn = true ∧ s.dev.sup.state = .holdoff) ∧
    (∃ (s : State), s.dev.sup.supOn = true ∧ (s.dev.seqState = .on ∨ s.dev.seqState = .lowPower)) ∧
    (∃ (s : State), s.dev.sup.supOn = true ∧ s.dev.seqState = .holdoff) ∧
    (∃ (s : State), s.dev.sup.supOn = true ∧ ∃ (n : Nat), s.dev.avsSlot = some n ∧ s.dev.sup.state = .on ∧ s.dev.flag Fld.SUP_PMB_STATUS_DEAD = false
      ∧ s.dev.fld Fld.SUP_R_MARGIN_STEPS n = 0 ∧ s.dev.sup.avsMv ≠ 1000 * s.dev.sup.avsTarget) ∧
    (∃ (s : State), s.dev.sup.supOn = true ∧ s.dev.avsSlot = none) :=
  ⟨⟨st (dRail .powerUp .off (fun u => { u with phase := .prestart })), by decide +kernel, 1, by decide +kernel⟩,
   ⟨st (dRail .on .inReg), by decide +kernel, 1, 1000, true, by decide +kernel⟩,
   ⟨st (dRail .powerUp .rising (fun u => { u with phase := .rising })), by decide +kernel, 1, 1000, true, by decide +kernel⟩,
   ⟨st (dRail .on .rising), by decide +kernel, 1, 1000, true, by decide +kernel⟩,
   ⟨st (dRail .on .rising), by decide +kernel, 1, 899, true, by decide +kernel⟩,
   ⟨st (dRail .powerUp .inReg (fun u => { u with phase := .delay })), by decide +kernel⟩,
   ⟨st dOn, by decide +kernel⟩,
   ⟨st (dRail .powerUp .rising (fun u => { u with phase := .rising })), by decide +kernel, 1, by decide +kernel⟩,
   ⟨st ((dRail .powerUp .rising (fun u => { u with phase := .rising })).setFld Fld.SUP_R_CFG_CLK 1 1), by decide +kernel, 0, by decide +kernel⟩,
   ⟨st (dRail .powerUp .inReg (fun u => { u with phase := .clocks })), by decide +kernel, 4, by decide +kernel⟩,
   ⟨st (dRail .powerUp .inReg (fun u => { u with phase := .clocks, plls := [0, 1, 2, 3, 4] })), by decide +kernel, 4, by decide +kernel⟩,
   ⟨st (dRail .on .inReg), by decide +kernel, 1, 1000, true, by decide +kernel⟩,
   ⟨st (dRail .on .inReg), by decide +kernel, 1, 900, false, by decide +kernel, 7, by decide +kernel⟩,
   ⟨st (dRail .on .rising), by decide +kernel, 1, 900, false, by decide +kernel, 7, by decide +kernel⟩,
   ⟨st (dRail .powerUp .rising), by decide +kernel, 1, 1101, true, by decide +kernel, 6, by decide +kernel⟩,
   ⟨st ((dRail .powerUp .inReg (fun u => { u with dpExit := true })).setFld Fld.SUP_R_CFG_KEEP_DP 1 1), by decide +kernel, 1, 900, false,
     by decide +kernel, 7, by decide +kernel⟩,
   ⟨st (dRail .powerUp .inReg), by decide +kernel, 1, 900, false, by decide +kernel, 7, by decide +kernel⟩,
   ⟨st ((dRail .powerDown).setRail 1 { Rail.blank with state := .inReg, en := true }), by decide +kernel, 1, 1101, true, by decide +kernel, 6,
     by decide +kernel⟩,
   ⟨st (dRail .powerUp .off (fun u => { u with phase := .prestart })), by decide +kernel, 1, 199, by decide +kernel⟩,
   ⟨st (((dRail .powerUp .off (fun u => { u with phase := .prestart })).setFld Fld.SUP_R_CFG_USED 1 2).setRail 2 { Rail.blank with mv := 900 }),
     by decide +kernel, 1, 199, by decide +kernel⟩,
   ⟨st (dRail .powerDown .falling), by decide +kernel, 1, 199, by decide +kernel⟩,
   ⟨st (dRail .powerDown .falling), by decide +kernel, 1, by decide +kernel⟩,
   ⟨st ((dRail .powerDown).setRail 1 { Rail.blank with state := .falling, dnTmo := true }), by decide +kernel, 1, by decide +kernel⟩,
   ⟨st (dRail .holdoff), by decide +kernel⟩,
   ⟨st (dRail .on), by decide +kernel⟩,
   ⟨st (dRail .holdoff), by decide +kernel⟩,
   ⟨st ((dRail .on .inReg (fun u => { u with avsMv := 1000000, avsTarget := 1010 })).setFld Fld.SUP_R_CFG_AVS 1 1), by decide +kernel, 1,
     by decide +kernel⟩,
   ⟨st (dRail .on), by decide +kernel⟩⟩

theorem test_wit_supervisor_commands :
    (∃ (s : State), s.dev.sup.supOn = true ∧ ∃ (mv : Nat), 1000 ≤ mv ∧ mv ≤ 2600) ∧
    (∃ (s : State), s.dev.sup.supOn = true ∧ ∃ (mv : Nat), (mv < 1000 ∨ 2600 < mv)) ∧
    (∃ (s : State), s.dev.sup.supOn = true ∧
      let d := s.dev
      ∃ c, d.sup.capsule = some c ∧ c.done = false ∧ c.lost = false) ∧
    (∃ (s : State), s.dev.sup.supOn = true ∧
      let d := s.dev
      d.sup.capsule = none) ∧
    (∃ (s : State), s.dev.sup.supOn = true ∧
      let d := s.dev
      let b := d.setSup { d.sup with btn := false }
      b.entering = true) ∧
    (∃ (s : State), s.dev.sup.supOn = true ∧
      let d := s.dev
      let b := d.setSup { d.sup with btn := false }
      b.entering = false ∧ b.seqState = .off) ∧
    (∃ (s : State), s.dev.sup.supOn = true ∧
      let d := s.dev
      let b := d.setSup { d.sup with btn := false }
      b.entering = false ∧ b.seqState = .on ∧ b.flag Fld.SUP_BTN_SHORT_EN = true ∧ b.hold.bottle = none) ∧
    (∃ (s : State), s.dev.sup.supOn = true ∧
      let d := s.dev
      let b := d.setSup { d.sup with btn := false }
      b.entering = false ∧ b.seqState = .on ∧ (b.flag Fld.SUP_BTN_SHORT_EN = false ∨ b.hold.bottle.isSome)) ∧
    (∃ (s : State), s.dev.sup.supOn = true ∧
      let d := s.dev
      let b := d.setSup { d.sup with btn := false }
      b.entering = false ∧ b.seqState = .lowPower) ∧
    (∃ (s : State), s.dev.sup.supOn = true ∧
      let d := s.dev
      let b := d.setSup { d.sup with btn := false }
      b.entering = false ∧ b.seqState = .lockout ∧ b.hold.bottle = none) ∧
    (∃ (s : State), s.dev.sup.supOn = true ∧
      let d := s.dev
      let b := d.setSup { d.sup with btn := false }
      b.entering = false ∧ b.seqState = .lockout ∧ b.hold.bottle.isSome) ∧
    (∃ (s : State), s.dev.sup.supOn = true ∧
      let d := s.dev
      let b := d.setSup { d.sup with btn := false }
      b.entering = false ∧ b.seqState = .powerDown) ∧
    (∃ (s : State), s.dev.sup.supOn = true ∧
      let d := s.dev
      let b := d.setSup { d.sup with btn := true }
      b.seqState = .holdoff) ∧
    (∃ (s : State), s.dev.sup.supOn = true ∧
      let d := s.dev
      let b := d.setSup { d.sup with btn := true }
      b.seqState = .powerUp) ∧
    (∃ (s : State), s.dev.sup.supOn = true ∧
      let d := s.dev
      let b := d.setSup { d.sup with btn := true }
      b.seqState = .lockout) ∧
    (∃ (s : State), s.dev.sup.supOn = true ∧
      let d := s.dev
      let b := d.setSup { d.sup with btn := true }
      (b.seqState = .on ∨ b.seqState = .flush)) ∧
    (∃ (s : State), s.dev.sup.supOn = true ∧
      let d := s.dev
      let b := d.setSup { d.sup with btn := true }
      b.seqState = .lowPower ∧ b.sup.target = 1 ∧ b.sup.cur = 3) ∧
    (∃ (s : State), s.dev.sup.supOn = true ∧
      let d := s.dev
      let b := d.setSup { d.sup with btn := true }
      b.seqState = .lowPower ∧ b.sup.target = 1 ∧ b.sup.cur ≠ 3) ∧
    (∃ (s : State), s.dev.sup.supOn = true ∧
      let d := s.dev
      let b := d.setSup { d.sup with btn := true }
      b.seqState = .lowPower ∧ b.sup.target ≠ 1) ∧
    (∃ (s : State), s.dev.sup.supOn = true ∧
      let d := s.dev
      d.hold.bottle.isSome) ∧
    (∃ (s : State), s.dev.sup.supOn = true ∧
      let d := s.dev
      d.hold.bottle = none ∧ d.sup.cur < 2) ∧
    (∃ (s : State), s.dev.sup.supOn = true ∧
      let d := s.dev
      d.hold.bottle = none ∧ d.sup.cur = 2) ∧
    (∃ (s : State), s.dev.sup.supOn = true ∧
      let d := s.dev
      d.hold.bottle = none ∧ (d.sup.cur = 3 ∨ d.sup.cur = 4)) ∧
    (∃ (s : State), s.dev.sup.supOn = true ∧
      let d := s.dev
      d.hold.bottle = none ∧ d.sup.cur = 5 ∧ d.sup.latched = none) ∧
    (∃ (s : State), s.dev.sup.supOn = true ∧
      let d := s.dev
      d.hold.bottle = none ∧ d.sup.cur = 5 ∧ d.sup.latched.isSome) ∧
    (∃ (s : State), s.dev.sup.supOn = true ∧
      let d := s.dev
      d.hold.bottle = none ∧ 5 < d.sup.cur) ∧
    (∃ (s : State), s.dev.sup.supOn = true ∧
      let d := s.dev
      ∃ (sclLow : Bool),
      let e := d.bumpSat Fld.SUP_PMB_STATUS_RECOVERIES
      let e := if sclLow then (e.pin "PMB_RST_N" 0).pin "PMB_RST_N" 1 else e
      let fs := (e.now :: e.sup.recFails).filter (fun t => decide (e.now < t + 1000000))
      fs.length < 3) ∧
    (∃ (s : State), s.dev.sup.supOn = true ∧
      let d := s.dev
      ∃ (sclLow : Bool),
      let e := d.bumpSat Fld.SUP_PMB_STATUS_RECOVERIES
      let e := if sclLow then (e.pin "PMB_RST_N" 0).pin "PMB_RST_N" 1 else e
      let fs := (e.now :: e.sup.recFails).filter (fun t => decide (e.now < t + 1000000))
      let g := e.setSup { e.sup with recFails := fs }
      3 ≤ fs.length ∧ g.flag Fld.SUP_PMB_STATUS_DEAD = false) ∧
    (∃ (s : State), s.dev.sup.supOn = true ∧
      let d := s.dev
      d.flag Fld.SUP_PMB_STATUS_DEAD = true) ∧
    (∃ (s : State), s.dev.sup.supOn = true ∧
      let d := s.dev
      ∃ (slot : Nat), d.flag Fld.SUP_R_CFG_PMB slot = true ∧ d.slotUsed slot = true ∧ d.flag Fld.SUP_PMB_STATUS_DEAD = false) ∧
    (∃ (s : State), s.dev.sup.supOn = true ∧
      let d := s.dev
      ∃ (engine : Nat), d.flag Fld.SUP_PWR_CFG_PERCH_EN = true ∧ d.sup.state = .on ∧ engine < 16 ∧ d.sup.cur ≤ 1) ∧
    (∃ (s : State), s.dev.sup.supOn = true ∧ ∃ (port : Nat), port < 4) ∧
    (∃ (s : State), s.dev.sup.supOn = true ∧
      let d := s.dev
      d.flag Fld.SUP_RTC_SCHED_WAKE_EN = true ∧ d.fld Fld.SUP_RTC_SEC_SEC ≤ d.fld Fld.SUP_RTC_WAKE_SEC) ∧
    (∃ (s : State), s.dev.sup.supOn = true ∧
      let d := s.dev
      d.flag Fld.SUP_RTC_SCHED_WAKE_EN = false) ∧
    (∃ (s : State), s.dev.sup.supOn = true ∧
      let d := s.dev
      ∃ (core : Nat), core < 8 ∧ d.hubOn = true ∧ d.hold.bottle = none ∧ d.sup.wdtAt.find? core = none ∧
      let e := (((d.setFld Fld.SUP_WDT_STATUS_EXPIRED (Nat.lor (d.fld Fld.SUP_WDT_STATUS_EXPIRED) (2 ^ core))).raise Reg.SUP_PWR_INT_STATUS 3
        4).noteWatchdog).testStop
      e.sup.wdtAt.find? core = none) ∧
    (∃ (s : State), s.dev.sup.supOn = true ∧
      let d := s.dev
      ∃ (core : Nat), core < 8 ∧ core ≠ 2 ∧ d.hubOn = true ∧ (d.hold.bottle = none ∨ d.hold.phase < 3)) ∧
    (∃ (s : State), s.dev.sup.supOn = true ∧
      let d := s.dev
      ∃ (core : Nat), core = 2 ∧ d.hubOn = true ∧ (d.hold.bottle = none ∨ d.hold.phase < 3)) ∧
    (∃ (s : State), s.dev.sup.supOn = true ∧ ∃ (core : Nat), 8 < core) ∧
    (∃ (s : State), s.dev.sup.supOn = true ∧ ∃ (core : Nat), core = 8) ∧
    (∃ (s : State), s.dev.sup.supOn = true ∧
      let d := s.dev
      ∃ (core : Nat), core < 8 ∧ (d.hubOn = false ∨ (d.hold.bottle.isSome ∧ 3 ≤ d.hold.phase))) ∧
    (∃ (s : State), s.dev.sup.supOn = true ∧
      let d := s.dev
      d.sup.state ≠ .init ∧ d.sup.state ≠ .holdoff) ∧
    (∃ (s : State), s.dev.sup.supOn = true ∧
      let d := s.dev
      (d.sup.state = .init ∨ d.sup.state = .holdoff)) ∧
    (∃ (s : State), s.dev.sup.supOn = true ∧
      let d := s.dev
      d.hold.waitIn = false) ∧
    (∃ (s : State), s.dev.sup.supOn = true ∧
      let d := s.dev
      d.hold.waitIn = true ∧ d.hold.pfDrive = false ∧ d.sup.pfLow = true) ∧
    (∃ (s : State), s.dev.sup.supOn = true ∧
      let d := s.dev
      d.sup.pfLow = false) :=
  ⟨⟨st dOn, by decide +kernel, 2600, by decide +kernel⟩,
   ⟨st dOn, by decide +kernel, 999, by decide +kernel⟩,
   ⟨st (withSup dOn (fun u => { u with capsule := some caps })), by decide +kernel, caps, by decide +kernel⟩,
   ⟨st dOn, by decide +kernel⟩,
   ⟨st (dLow 2 1), by decide +kernel⟩,
   ⟨st (dSt .off), by decide +kernel⟩,
   ⟨st (dOn.setFld Fld.SUP_BTN_SHORT_EN 1 0), by decide +kernel⟩,
   ⟨st (dOn.setFld Fld.SUP_BTN_SHORT_EN 0 0), by decide +kernel⟩,
   ⟨st (dLow 3 1), by decide +kernel⟩,
   ⟨st (dSt .lockout), by decide +kernel⟩,
   ⟨st (withHold (dSt .lockout) (fun h => { h with bottle := some btl, phase := 1 })), by decide +kernel⟩,
   ⟨st (dSt .powerDown), by decide +kernel⟩,
   ⟨st (dSt .holdoff), by decide +kernel⟩,
   ⟨st (dSt .powerUp), by decide +kernel⟩,
   ⟨st (dSt .lockout), by decide +kernel⟩,
   ⟨st (dSt .flush), by decide +kernel⟩,
   ⟨st (dLow 3 1), by decide +kernel⟩,
   ⟨st (dLow 2 1), by decide +kernel⟩,
   ⟨st (dLow 4 2), by decide +kernel⟩,
   ⟨st (dBot btl 1), by decide +kernel⟩,
   ⟨st dOn, by decide +kernel⟩,
   ⟨st (dLow 2 1), by decide +kernel⟩,
   ⟨st (dLow 3 1), by decide +kernel⟩,
   ⟨st (dLow 5 1), by decide +kernel⟩,
   ⟨st (withSup (dLow 5 1) (fun u => { u with latched := some (1, 0) })), by decide +kernel⟩,
   ⟨st (dLow 6 1), by decide +kernel⟩,
   ⟨st dOn, by decide +kernel, true, by decide +kernel⟩,
   ⟨st (withSup dOn (fun u => { u with recFails := [0, 0, 0] })), by decide +kernel, true, by decide +kernel⟩,
   ⟨st (dOn.setFld Fld.SUP_PMB_STATUS_DEAD 1 0), by decide +kernel⟩,
   ⟨st ((dRail .on .inReg).setFld Fld.SUP_R_CFG_PMB 1 1), by decide +kernel, 1, by decide +kernel⟩,
   ⟨st (dOn.setFld Fld.SUP_PWR_CFG_PERCH_EN 1 0), by decide +kernel, 3, by decide +kernel⟩,
   ⟨st (dLow 4 2), by decide +kernel, 3, by decide +kernel⟩,
   ⟨st ((dOn.setFld Fld.SUP_RTC_SCHED_WAKE_EN 1 0).setFld Fld.SUP_RTC_WAKE_SEC 10 0), by decide +kernel⟩,
   ⟨st dOn, by decide +kernel⟩,
   ⟨st dOn, by decide +kernel, 3, by decide +kernel⟩,
   ⟨st (withSup dOn (fun u => { u with coresDown := [3] })), by decide +kernel, 3, by decide +kernel⟩,
   ⟨st (mc2Off dOn), by decide +kernel, 2, by decide +kernel⟩,
   ⟨st dOn, by decide +kernel, 9, by decide +kernel⟩,
   ⟨st (withSup dOn (fun u => { u with coresDown := [8] })), by decide +kernel, 8, by decide +kernel⟩,
   ⟨st { dOn with hubOn := false }, by decide +kernel, 3, by decide +kernel⟩,
   ⟨st dOn, by decide +kernel⟩,
   ⟨st (dSt .init), by decide +kernel⟩,
   ⟨st dOn, by decide +kernel⟩,
   ⟨st (withSup (dWait btl) (fun u => { u with pfLow := true, pfLowAt := 5 })), by decide +kernel⟩,
   ⟨st dOn, by decide +kernel⟩⟩

theorem test_wit_low_power_entries :
    (∃ (fn : Nat) (x : DescState) (s : State), s.dev.takesDev fn 0xD0 x = true ∧
      let mode := dwF x.dw 8 1 0
      (mode = 0 ∨ mode = 3)) ∧
    (∃ (fn : Nat) (x : DescState) (s : State),
      let d := s.dev.takenDesc fn 0 x
      s.dev.takesDev fn 0xD0 x = true ∧
      let mode := dwF x.dw 8 1 0
      (mode = 1 ∨ mode = 2) ∧ d.pwrRefuse mode ≠ 0) ∧
    (∃ (fn : Nat) (x : DescState) (s : State),
      let d := s.dev.takenDesc fn 0 x
      s.dev.takesDev fn 0xD0 x = true ∧
      let mode := dwF x.dw 8 1 0
      (mode = 1 ∨ mode = 2) ∧ d.pwrRefuse mode = 0 ∧ d.pwrAsks = false) ∧
    (∃ (fn : Nat) (x : DescState) (s : State),
      let d := s.dev.takenDesc fn 0 x
      s.dev.takesDev fn 0xD0 x = true ∧
      let mode := dwF x.dw 8 1 0
      (mode = 1 ∨ mode = 2) ∧ d.pwrRefuse mode = 0 ∧ d.pwrAsks = true) ∧
    (∃ (fn : Nat) (x : DescState) (s : State), s.dev.takesDev fn 0xD8 x = true ∧ (dwAt x.dw 8).toNat ≠ 0xA5A5) ∧
    (∃ (fn : Nat) (x : DescState) (s : State), s.dev.takesDev fn 0xD8 x = true ∧ (dwAt x.dw 8).toNat = 0xA5A5 ∧ s.dev.sup.state ≠ .on) ∧
    (∃ (fn : Nat) (x : DescState) (s : State), s.dev.takesDev fn 0xD8 x = true ∧ (dwAt x.dw 8).toNat = 0xA5A5 ∧ s.dev.sup.state = .on) ∧
    (∃ (fn : Nat) (x : DescState) (s : State), s.dev.takesDev fn 0xD9 x = true) ∧
    (∃ (fn : Nat) (x : DescState) (s : State), s.dev.takesDev fn 0xDA x = true) ∧
    (∃ (hvin : Nat) (s : State), hvin ≤ 8000 ∧ s.dev.sup.supOn = false ∧ 780 < hvin) ∧
    (∃ (hvin : Nat) (s : State), hvin ≤ 8000 ∧ (s.dev.sup.supOn = true ∨ hvin ≤ 780)) ∧
    (∃ (s : State), s.dev.sup.supOn = true ∧ s.dev.sup.state = .flush ∧ s.dev.hold.bottle = none) ∧
    (∃ (s : State), s.dev.sup.supOn = true ∧ s.dev.sup.state ≠ .flush) ∧
    (∃ (s : State), s.dev.sup.supOn = true ∧ s.dev.flag Fld.SUP_RTC_SCHED_SLEEP_EN = true ∧ s.dev.fld Fld.SUP_RTC_SEC_SEC ≤ s.dev.fld
      Fld.SUP_RTC_SLEEP_SEC) ∧
    (∃ (s : State), s.dev.sup.supOn = true ∧ s.dev.flag Fld.SUP_RTC_SCHED_SLEEP_EN = false) ∧
    (∃ (d : Device), d.sup.state ≠ .on) ∧
    (∃ (d : Device), d.sup.state = .on ∧ d.sup.cur ≠ 2 ∧ d.sup.cur ≠ 5 ∧ d.sup.warm = none ∧ d.trl.ask = none ∧ d.hold.supply ≠ .normal) ∧
    (∃ (d : Device), d.sup.state = .on ∧ d.sup.cur ≠ 2 ∧ d.sup.cur ≠ 5 ∧ d.sup.warm = none ∧ d.trl.ask = none ∧ d.hold.supply = .normal ∧
      d.placesWrites = true) ∧
    (∃ (d : Device), d.sup.state = .on ∧ d.sup.cur ≠ 2 ∧ d.sup.cur ≠ 5 ∧ d.sup.warm = none ∧ d.trl.ask = none ∧ d.hold.supply = .normal ∧ d.rst.phase
      ≠ 0) ∧
    (∃ (d : Device), d.sup.state = .on ∧ d.sup.cur ≠ 2 ∧ d.sup.cur ≠ 5 ∧ d.sup.warm = none ∧ d.trl.ask = none ∧ d.hold.supply = .normal ∧ d.rst.phase
      = 0 ∧ d.pwrBusy = true) :=
  ⟨⟨0, dsc 208 [(8, 3)], sQ 0 0 [dsc 208 [(8, 3)]], by decide +kernel⟩,
   ⟨0, dsc 208 [(8, 1)], sQ 0 0 [dsc 208 [(8, 1)]], by decide +kernel⟩,
   ⟨0, dsc 208 [(8, 1)], st (stby (withQ dOn 0 0 [dsc 208 [(8, 1)]])), by decide +kernel⟩,
   ⟨0, dsc 208 [(8, 2)], st (master (withQ dOn 0 0 [dsc 208 [(8, 2)]])), by decide +kernel⟩,
   ⟨0, dsc 216 [(8, 1)], sQ 0 0 [dsc 216 [(8, 1)]], by decide +kernel⟩,
   ⟨0, dsc 216 [(8, 42405)], st (withQ (dSt .flush) 0 0 [dsc 216 [(8, 42405)]]), by decide +kernel⟩,
   ⟨0, dsc 216 [(8, 42405)], sQ 0 0 [dsc 216 [(8, 42405)]], by decide +kernel⟩,
   ⟨0, dsc 217 [], sQ 0 0 [dsc 217 []], by decide +kernel⟩,
   ⟨0, dsc 218 [], sQ 0 0 [dsc 218 []], by decide +kernel⟩,
   ⟨1200, st dBat, by decide +kernel⟩,
   ⟨780, st dBat, by decide +kernel⟩,
   ⟨st (dSt .flush), by decide +kernel⟩,
   ⟨st dOn, by decide +kernel⟩,
   ⟨st ((dOn.setFld Fld.SUP_RTC_SCHED_SLEEP_EN 1 0).setFld Fld.SUP_RTC_SLEEP_SEC 10 0), by decide +kernel⟩,
   ⟨st dOn, by decide +kernel⟩,
   ⟨dSt .off, by decide +kernel⟩,
   ⟨dSup .warn, by decide +kernel⟩,
   ⟨dOn, by decide +kernel⟩,
   ⟨withRst dOn (fun r => { r with phase := 3 }), by decide +kernel⟩,
   ⟨dOn.setFld Fld.SUP_R_MARGIN_STEPS 1 4, by decide +kernel⟩⟩

theorem test_wit_firmware_commands :
    (∃ (fn : Nat) (x : DescState) (s : State),
      let d := s.dev.takenDesc fn 0 x
      s.dev.takesFlash fn 0xC0 x = true ∧ d.fws.trial = true) ∧
    (∃ (fn : Nat) (x : DescState) (s : State),
      let d := s.dev.takenDesc fn 0 x
      let u := d.updSlot
      s.dev.takesFlash fn 0xC0 x = true ∧ d.fws.trial = false ∧
      let todo := ((List.range 96).map (fun i => 96 * u + i)).filter (fun b => !d.blockBlank b)
      todo = []) ∧
    (∃ (fn : Nat) (x : DescState) (s : State),
      let d := s.dev.takenDesc fn 0 x
      let u := d.updSlot
      s.dev.takesFlash fn 0xC0 x = true ∧ d.fws.trial = false ∧
      let todo := ((List.range 96).map (fun i => 96 * u + i)).filter (fun b => !d.blockBlank b)
      todo ≠ []) ∧
    (∃ (fn : Nat) (x : DescState) (s : State), s.dev.takesFlash fn 0xC1 x = true ∧
      let off := (dwAt x.dw 8).toNat
      fwRange off (dLength x.dw) = false) ∧
    (∃ (fn : Nat) (x : DescState) (s : State),
      let d := s.dev.takenDesc fn 0 x
      s.dev.takesFlash fn 0xC1 x = true ∧
      let off := (dwAt x.dw 8).toNat
      fwRange off (dLength x.dw) = true ∧ d.fws.begun = false) ∧
    (∃ (fn : Nat) (x : DescState) (s : State),
      let d := s.dev.takenDesc fn 0 x
      let u := d.updSlot
      s.dev.takesFlash fn 0xC1 x = true ∧
      let off := (dwAt x.dw 8).toNat
      fwRange off (dLength x.dw) = true ∧ d.fws.begun = true ∧
      let r := d.programAt (6291456 * u + off) (x.data.take (dLength x.dw)) .update
      r.2 = 0) ∧
    (∃ (fn : Nat) (x : DescState) (s : State),
      let d := s.dev.takenDesc fn 0 x
      let u := d.updSlot
      s.dev.takesFlash fn 0xC1 x = true ∧
      let off := (dwAt x.dw 8).toNat
      fwRange off (dLength x.dw) = true ∧ d.fws.begun = true ∧
      let r := d.programAt (6291456 * u + off) (x.data.take (dLength x.dw)) .update
      r.2 ≠ 0) ∧
    (∃ (fn : Nat) (x : DescState) (s : State),
      let d := s.dev.takenDesc fn 0 x
      s.dev.takesFlash fn 0xC2 x = true ∧ d.fws.begun = false) ∧
    (∃ (fn : Nat) (x : DescState) (s : State),
      let d := s.dev.takenDesc fn 0 x
      let u := d.updSlot
      s.dev.takesFlash fn 0xC2 x = true ∧ d.fws.begun = true ∧ d.verifies u = false) ∧
    (∃ (fn : Nat) (x : DescState) (s : State),
      let d := s.dev.takenDesc fn 0 x
      let u := d.updSlot
      s.dev.takesFlash fn 0xC3 x = true ∧ (d.fws.begun = false ∨ d.marker u mkValid = false)) ∧
    (∃ (fn : Nat) (x : DescState) (s : State),
      let d := s.dev.takenDesc fn 0 x
      let u := d.updSlot
      s.dev.takesFlash fn 0xC3 x = true ∧ d.fws.begun = true ∧ d.marker u mkValid = true) ∧
    (∃ (fn : Nat) (x : DescState) (s : State),
      let d := s.dev.takenDesc fn 0 x
      s.dev.fws.job = none ∧ s.dev.takesDev fn 0xC0 x = true ∧ d.flashBarred = true) ∧
    (∃ (fn : Nat) (x : DescState) (s : State), s.dev.takesDev fn 0xC4 x = true ∧
      let off := (dwAt x.dw 9).toNat
      (dLength x.dw = 0 ∨ 6291456 < off + dLength x.dw)) ∧
    (∃ (fn : Nat) (x : DescState) (s : State), s.dev.takesDev fn 0xC4 x = true ∧
      let off := (dwAt x.dw 9).toNat
      dLength x.dw ≠ 0 ∧ off + dLength x.dw ≤ 6291456 ∧ ∃ (ecc : Nat), ecc ≠ 2) ∧
    (∃ (fn : Nat) (x : DescState) (s : State), s.dev.takesDev fn 0xC4 x = true ∧
      let off := (dwAt x.dw 9).toNat
      dLength x.dw ≠ 0 ∧ off + dLength x.dw ≤ 6291456 ∧ ∃ (ecc : Nat), ecc = 2) ∧
    (∃ (fn : Nat) (x : DescState) (s : State),
      let d := s.dev.takenDesc fn 0 x
      s.dev.takesDev fn 0xC8 x = true ∧ d.flashBarred = true) ∧
    (∃ (fn : Nat) (x : DescState) (s : State),
      let d := s.dev.takenDesc fn 0 x
      s.dev.takesDev fn 0xC8 x = true ∧ d.flashBarred = false ∧ ∃ (ecc : Nat), ecc = 2) ∧
    (∃ (fn : Nat) (x : DescState) (s : State),
      let d := s.dev.takenDesc fn 0 x
      s.dev.takesDev fn 0xC8 x = true ∧ d.flashBarred = false ∧
      let p := dwF x.dw 8 1 0
      ∃ (ecc : Nat),
      let r := (d.flashEcc ecc).flashRead (65536 * (192 + 4 * p)) (min (leField (d.flashBytes (65536 * (192 + 4 * p) / 32) 1) 8 4) 131040)
      ecc ≠ 2 ∧ r.2.fws.learned.find? p = none) ∧
    (∃ (fn : Nat) (x : DescState) (s : State),
      let d := s.dev.takenDesc fn 0 x
      s.dev.takesDev fn 0xC8 x = true ∧ d.flashBarred = false ∧
      let p := dwF x.dw 8 1 0
      ∃ (ecc : Nat),
      let r := (d.flashEcc ecc).flashRead (65536 * (192 + 4 * p)) (min (leField (d.flashBytes (65536 * (192 + 4 * p) / 32) 1) 8 4) 131040)
      ecc ≠ 2 ∧ (r.2.fws.learned.find? p).isSome) ∧
    (∃ (fn : Nat) (x : DescState) (s : State), s.dev.takesFlash fn 0xC9 x = true ∧ (dLength x.dw = 0 ∨ 131040 < dLength x.dw)) ∧
    (∃ (fn : Nat) (x : DescState) (s : State),
      let d := s.dev.takenDesc fn 0 x
      s.dev.takesFlash fn 0xC9 x = true ∧ 1 ≤ dLength x.dw ∧ dLength x.dw ≤ 131040 ∧ d.flag Fld.FWS_CTRL_PROF_WP = true) ∧
    (∃ (fn : Nat) (x : DescState) (s : State),
      let d := s.dev.takenDesc fn 0 x
      s.dev.takesFlash fn 0xC9 x = true ∧ 1 ≤ dLength x.dw ∧ dLength x.dw ≤ 131040 ∧ d.flag Fld.FWS_CTRL_PROF_WP = false) ∧
    (∃ (fn : Nat) (x : DescState) (s : State),
      let d := s.dev.takenDesc fn 0 x
      s.dev.takesDev fn 0xCA x = true ∧ d.flashBarred = true) ∧
    (∃ (fn : Nat) (x : DescState) (s : State),
      let d := s.dev.takenDesc fn 0 x
      s.dev.takesDev fn 0xCA x = true ∧ d.flashBarred = false ∧ dLength x.dw < d.captureSection.length) ∧
    (∃ (fn : Nat) (x : DescState) (s : State),
      let d := s.dev.takenDesc fn 0 x
      s.dev.takesDev fn 0xCA x = true ∧ d.flashBarred = false ∧ d.captureSection.length ≤ dLength x.dw) ∧
    (∃ (s : State), s.dev.sup.supOn = true ∧ s.dev.fws.trial = true ∧ s.dev.fws.run < 2 ∧ (s.dev.seqState = .on ∨ s.dev.seqState = .lowPower)) ∧
    (∃ (s : State), s.dev.sup.supOn = true ∧ s.dev.fws.trial = false) ∧
    (∃ (d : Device) (j : FwJob) (b : Nat), d.fws.job = some j ∧ j.left = [b] ∧ d.now < j.at_ + 20000) ∧
    (∃ (d : Device) (j : FwJob) (b : Nat), d.fws.job = some j ∧ j.left = [b] ∧ j.at_ + 20000 ≤ d.now) :=
  ⟨⟨0, dsc 192 [], st (withQ ({ dOn with fws := { dOn.fws with trial := true } }) 0 0 [dsc 192 []]), by decide +kernel⟩,
   ⟨0, dsc 192 [], st (withQ dOn 0 0 [dsc 192 []]), by decide +kernel⟩,
   ⟨0, dsc 192 [], st (withQ dImg 0 0 [dsc 192 []]), by decide +kernel⟩,
   ⟨0, { dsc 193 [(4, 33)] with data := List.replicate 33 0 }, st (withQ (dOn) 0 0 [{ dsc 193 [(4, 33)] with data := List.replicate 33 0 }]),
     by decide +kernel⟩,
   ⟨0, { dsc 193 [(4, 32), (8, 4096)] with data := List.replicate 32 0 }, st (withQ (dOn) 0 0
     [{ dsc 193 [(4, 32), (8, 4096)] with data := List.replicate 32 0 }]), by decide +kernel⟩,
   ⟨0, { dsc 193 [(4, 32), (8, 4096)] with data := List.replicate 32 0 }, st (withQ (dUpd) 0 0
     [{ dsc 193 [(4, 32), (8, 4096)] with data := List.replicate 32 0 }]), by decide +kernel⟩,
   ⟨0, { dsc 193 [(4, 32), (8, 4096)] with data := List.replicate 32 0 }, st (withQ (dUpd.putUnit ((6291456 + 4096) / 32) markUnit) 0 0
     [{ dsc 193 [(4, 32), (8, 4096)] with data := List.replicate 32 0 }]), by decide +kernel⟩,
   ⟨0, dsc 194 [], st (withQ (dOn) 0 0 [dsc 194 []]), by decide +kernel⟩,
   ⟨0, dsc 194 [], st (withQ dUpd 0 0 [dsc 194 []]), by decide +kernel⟩,
   ⟨0, dsc 195 [], st (withQ (dUpd) 0 0 [dsc 195 []]), by decide +kernel⟩,
   ⟨0, dsc 195 [], st (withQ (dUpd.setMarker 1 mkValid) 0 0 [dsc 195 []]), by decide +kernel⟩,
   ⟨0, dsc 192 [], st (withQ (withHold (dSt .powerDown) (fun h => { h with stopAdm := true })) 0 0 [dsc 192 []]), by decide +kernel⟩,
   ⟨0, dsc 196 [(4, 32), (9, 6291456)], st (withQ dOn 0 0 [dsc 196 [(4, 32), (9, 6291456)]]), by decide +kernel⟩,
   ⟨0, dsc 196 [(4, 32), (9, 4096)], st (withQ dOn 0 0 [dsc 196 [(4, 32), (9, 4096)]]), by decide +kernel, by decide +kernel, by decide +kernel, 1,
     by decide +kernel⟩,
   ⟨0, dsc 196 [(4, 32), (9, 4096)], st (withQ dOn 0 0 [dsc 196 [(4, 32), (9, 4096)]]), by decide +kernel, by decide +kernel, by decide +kernel, 2,
     by decide +kernel⟩,
   ⟨0, dsc 0xC8 [], st (withQ (withHold (dSt .powerDown) (fun h => { h with stopAdm := true })) 0 0 [dsc 0xC8 []]), by decide +kernel⟩,
   ⟨0, dsc 200 [], st (withQ dOn 0 0 [dsc 200 []]), by decide +kernel, by decide +kernel, 2, by decide +kernel⟩,
   ⟨0, dsc 200 [], st (withQ dOn 0 0 [dsc 200 []]), by decide +kernel, by decide +kernel, 0, by decide +kernel⟩,
   ⟨0, dsc 200 [], st (withQ { dOn with fws := { dOn.fws with learned := [(0, Learned.blank)] } } 0 0 [dsc 200 []]), by decide +kernel,
     by decide +kernel, 0, by decide +kernel⟩,
   ⟨0, dsc 201 [], st (withQ (dOn) 0 0 [dsc 201 []]), by decide +kernel⟩,
   ⟨0, { dsc 201 [(4, 8)] with data := List.replicate 8 0 }, st (withQ (dOn.setFld Fld.FWS_CTRL_PROF_WP 1 0) 0 0
     [{ dsc 201 [(4, 8)] with data := List.replicate 8 0 }]), by decide +kernel⟩,
   ⟨0, { dsc 201 [(4, 8)] with data := List.replicate 8 0 }, st (withQ (dOn) 0 0 [{ dsc 201 [(4, 8)] with data := List.replicate 8 0 }]),
     by decide +kernel⟩,
   ⟨0, dsc 0xCA [], st (withQ (withHold (dSt .powerDown) (fun h => { h with stopAdm := true })) 0 0 [dsc 0xCA []]), by decide +kernel⟩,
   ⟨0, dsc 202 [], st (withQ (dOn) 0 0 [dsc 202 []]), by decide +kernel⟩,
   ⟨0, dsc 202 [(4, 0x100000)], st (withQ dOn 0 0 [dsc 202 [(4, 0x100000)]]), by decide +kernel⟩,
   ⟨st { dOn with fws := { dOn.fws with trial := true, run := 0 } }, by decide +kernel⟩,
   ⟨st dOn, by decide +kernel⟩,
   ⟨{ dUpd with fws := { dUpd.fws with job := some { fn := 0, seq := 0, left := [100], at_ := 1 } }, now := 20000 },
     { fn := 0, seq := 0, left := [100], at_ := 1 }, 100, by decide +kernel⟩,
   ⟨{ dUpd with fws := { dUpd.fws with job := some { fn := 0, seq := 0, left := [100], at_ := 1 } }, now := 20001 },
     { fn := 0, seq := 0, left := [100], at_ := 1 }, 100, by decide +kernel⟩⟩

theorem test_wit_event_commands :
    (∃ (fn : Nat) (x : DescState) (s : State), s.dev.takesDev fn 0xCC x = true) ∧
    (∃ (fn : Nat) (x : DescState) (s : State), s.dev.takesDev fn 0xCD x = true) ∧
    (∃ (fn : Nat) (x : DescState) (s : State), s.dev.takesDev fn 0xCE x = true ∧ (4 < dwF x.dw 8 2 0 ∨ dwF x.dw 9 15 0 < 0xF000)) ∧
    (∃ (fn : Nat) (x : DescState) (s : State), s.dev.takesDev fn 0xCE x = true ∧ dwF x.dw 8 2 0 ≤ 4 ∧ 0xF000 ≤ dwF x.dw 9 15 0) ∧
    (∃ (s : State), s.dev.sup.supOn = true ∧ s.dev.evr.fifo = []) ∧
    (∃ (e : EventIn) (rest : List EventIn) (s : State), s.dev.sup.supOn = true ∧ s.dev.evr.fifo = e :: rest ∧ ∃ i r, s.dev.evr.last = some i ∧
      s.dev.evr.ring.find? i = some r ∧ r.ev = e ∧ r.repeats < 65535) ∧
    (∃ (e : EventIn) (rest : List EventIn) (s : State), s.dev.sup.supOn = true ∧ s.dev.evr.fifo = e :: rest ∧ ∃ i, s.dev.evr.last = none ∧ (freeRing
      6144 0 s.dev.evr.ring = some i ∨ (freeRing 6144 0 s.dev.evr.ring = none ∧ ∃ r, oldestSlot (s.dev.evr.ring.filter (fun p => decide (p.2.ev.sev ≤
      e.sev) && !p.2.deferred)) = some (i, r)))) ∧
    (∃ (e : EventIn) (rest : List EventIn) (s : State), s.dev.sup.supOn = true ∧ s.dev.evr.fifo = e :: rest ∧ s.dev.evr.last = none ∧ freeRing 6144 0
      s.dev.evr.ring = none ∧ (oldestSlot (s.dev.evr.ring.filter (fun p => decide (p.2.ev.sev ≤ e.sev) && !p.2.deferred)) = none)) ∧
    (∃ (s : State), s.dev.sup.supOn = true ∧ s.dev.evr.todo = []) ∧
    (∃ (i : Nat) (rest : List Nat) (r : EventRec) (s : State), s.dev.sup.supOn = true ∧ s.dev.evr.todo = i :: rest ∧ s.dev.evr.ring.find? i = some r ∧
      s.dev.flashBarred = true) ∧
    (∃ (i : Nat) (rest : List Nat) (r : EventRec) (s : State), s.dev.sup.supOn = true ∧ s.dev.evr.todo = i :: rest ∧ s.dev.evr.ring.find? i = some r ∧
      s.dev.flashBarred = false ∧ ∃ b, (((List.range 16).filter (fun b => decide ((s.dev.archBlock b).length < 2048))).head? = some b)) :=
  ⟨⟨0, dsc 204 [], st (withQ dOn 0 0 [dsc 204 []]), by decide +kernel⟩,
   ⟨0, dsc 205 [], st (withQ dOn 0 0 [dsc 205 []]), by decide +kernel⟩,
   ⟨0, dsc 206 [(8, 5), (9, 61440)], st (withQ (dOn) 0 0 [dsc 206 [(8, 5), (9, 61440)]]), by decide +kernel⟩,
   ⟨0, dsc 206 [(8, 4), (9, 61440)], st (withQ (dOn) 0 0 [dsc 206 [(8, 4), (9, 61440)]]), by decide +kernel⟩,
   ⟨st (withEvr dOn (fun e => { e with fifo := [] })), by decide +kernel⟩,
   ⟨ev1, [], st (withEvr dOn (fun e => { e with fifo := [ev1], last := some 0, ring := [(0, er1)] })), by decide +kernel, by decide +kernel, 0, er1,
     by decide +kernel⟩,
   ⟨ev1, [], st (withEvr dOn (fun e => { e with fifo := [ev1], last := none, ring := [(0, er1)] })), by decide +kernel, by decide +kernel, 1,
     by decide +kernel, .inl (by decide +kernel)⟩,
   ⟨ev1, [], st (withEvr dOn (fun e => { e with fifo := [ev1], last := none, ring := filled 6144 { er1 with deferred := true } })), by decide +kernel,
     by decide +kernel, by decide +kernel, freeRing_filled 6144 0 (fun j h => has_filled _ (by omega)),
     by rw [List.filter_eq_nil_iff.2 (by simp [st, withEvr, filled, er1])]; rfl⟩,
   ⟨st dOn, by decide +kernel⟩,
   ⟨0, [], er1, st (withEvr (dBot btl 1) (fun e => { e with todo := [0], ring := [(0, er1)] })), by decide +kernel⟩,
   ⟨0, [], er1, st (withEvr dOn (fun e => { e with todo := [0], ring := [(0, er1)] })), by decide +kernel, by decide +kernel, by decide +kernel,
     by decide +kernel, 0, by decide +kernel⟩⟩

theorem test_wit_ageing_commands :
    (∃ (s : State), s.dev.hubOn = false) ∧
    (∃ (d : Device), d.age.changed.isSome) ∧
    (∃ (d : Device), d.age.changed = none ∧ d.planMay = false) ∧
    (∃ (ch : Nat) (s : State), s.dev.hubOn = true ∧ s.dev.chLive ch = true) ∧
    (∃ (hub edge : Nat) (s : State), s.dev.hubOn = true ∧
      let d := ((s.dev.notePath).setFld Fld.AGE_PATH_HUB_PS (min hub 255)).setFld Fld.AGE_PATH_EDGE_PS (min edge 255)
      d.fld Fld.AGE_PATH_FAST_THR ≤ min hub 255) ∧
    (∃ (hub edge : Nat) (s : State), s.dev.hubOn = true ∧
      let d := ((s.dev.notePath).setFld Fld.AGE_PATH_HUB_PS (min hub 255)).setFld Fld.AGE_PATH_EDGE_PS (min edge 255)
      d.flag Fld.AGE_CTRL_AVS_EN = false) ∧
    (∃ (hub edge : Nat) (s : State), s.dev.hubOn = true ∧
      let d := ((s.dev.notePath).setFld Fld.AGE_PATH_HUB_PS (min hub 255)).setFld Fld.AGE_PATH_EDGE_PS (min edge 255)
      min hub 255 < d.fld Fld.AGE_PATH_FAST_THR ∧ d.flag Fld.AGE_CTRL_AVS_EN = true ∧ s.dev.age.fastAt = none ∧ s.dev.sup.avsMv ≠ 0 ∧
        s.dev.hold.bottle = none) ∧
    (∃ (d : Device) (older later : List XbarReq) (r : XbarReq), d.qmg.xbar = older ++ r :: later ∧ xbarClass r ≤ 4 ∧ (∀ x ∈ older, xbarClass r <
      xbarClass x) ∧ (∀ x ∈ later, xbarClass r ≤ xbarClass x)) ∧
    (∃ (r : XbarReq), 4096 ≤ r.waited) ∧
    (∃ (r : XbarReq), r.waited < 4096) ∧
    (∃ (hits : AMap Nat) (e : Nat), bestHit hits = some e) ∧
    (∃ (d : Device), d.fld Fld.AGE_PATH_HUB_PS < d.fld Fld.AGE_PATH_SLACK_REQ) :=
  ⟨⟨st { dOn with hubOn := false }, by decide +kernel⟩,
   ⟨withAge dOn (fun a => { a with changed := some 1 }), by decide +kernel⟩,
   ⟨dSup .warn, by decide +kernel⟩,
   ⟨3, st dCh, by decide +kernel⟩,
   ⟨60, 70, st (dOn.setFld Fld.AGE_PATH_FAST_THR 20 0), by decide +kernel⟩,
   ⟨10, 70, st ((dOn.setFld Fld.AGE_PATH_FAST_THR 20 0).setFld Fld.AGE_CTRL_AVS_EN 0 0), by decide +kernel⟩,
   ⟨10, 70, st (withSup ((dOn.setFld Fld.AGE_PATH_FAST_THR 20 0).setFld Fld.AGE_CTRL_AVS_EN 1 0) (fun u => { u with avsMv := 750000 })),
     by decide +kernel⟩,
   ⟨{ dOn with qmg := { dOn.qmg with xbar := [{ src := 1, cls := 2, waited := 5 }, { src := 2, cls := 1, waited := 0 }, { src := 3, cls := 1, waited := 0 }] } },
     [{ src := 1, cls := 2, waited := 5 }], [{ src := 3, cls := 1, waited := 0 }], { src := 2, cls := 1, waited := 0 }, by decide +kernel⟩,
   ⟨{ src := 1, cls := 3, waited := 4096 }, by decide +kernel⟩,
   ⟨{ src := 1, cls := 3, waited := 4095 }, by decide +kernel⟩,
   ⟨[(3, 2), (5, 7)], 5, by decide +kernel⟩,
   ⟨(dOn.setFld Fld.AGE_PATH_HUB_PS 10 0).setFld Fld.AGE_PATH_SLACK_REQ 30 0, by decide +kernel⟩⟩

theorem test_wit_trellis_commands :
    (∃ (f : TrlIn) (d : Device) (s : State) (mode n stripe pair cap : Nat) (shared : Bool), s.dev.takesTrl f
      { kind := "HELLO", args := helloArgs mode n stripe shared pair cap } d = true ∧ mode = s.dev.trl.mode ∧ n = s.dev.trl.n ∧ stripe =
      s.dev.trl.stripe ∧ shared = s.dev.flag Fld.TRL_CFG_SHARED_BANK ∧ pair = s.dev.pair Reg.MIR_PAIR_LO) ∧
    (∃ (f : TrlIn) (s : State) (mode : Nat), s.dev.trlOn = true ∧ s.dev.trlPortUp f.port = true ∧ f.crc = true ∧ mode ≠ s.dev.trl.mode) ∧
    (∃ (f : TrlIn) (d : Device) (s : State), ∃ upTo, s.dev.takesTrl f { kind := "ACK", args := [upTo, 0] } d = true) ∧
    (∃ (f : TrlIn) (d : Device) (s : State), ∃ t, s.dev.takesTrl f { kind := "TIME", args := [t, 0] } d = true ∧ f.src ≠ 0) ∧
    (∃ (f : TrlIn) (d : Device) (s : State), ∃ t err, s.dev.takesTrl f { kind := "TIME", args := [t, 0] } d = true ∧ f.src = 0 ∧ err ≤ 50) ∧
    (∃ (f : TrlIn) (d : Device) (s : State), ∃ t err, s.dev.takesTrl f { kind := "TIME", args := [t, 0] } d = true ∧ f.src = 0 ∧ 50 < err) ∧
    (∃ (f : TrlIn) (d : Device) (s : State), ∃ n, s.dev.takesTrl f { kind := "VCLK", args := [n, 0] } d = true ∧ f.src = 0 ∧ d.cascadeShared = true) ∧
    (∃ (f : TrlIn) (d : Device) (s : State), ∃ n, s.dev.takesTrl f { kind := "MARK", args := [n, 0] } d = true ∧
      let e := d.updDev f.src (fun x => { x with markN := max x.markN n })
      e.cascadeShared = true) ∧
    (∃ (f : TrlIn) (d : Device) (s : State), ∃ n, s.dev.takesTrl f { kind := "MARK", args := [n, 0] } d = true ∧
      let e := d.updDev f.src (fun x => { x with markN := max x.markN n })
      e.cascadeShared = false) ∧
    (∃ (f : TrlIn) (d : Device) (s : State), ∃ n acked dist, s.dev.takesTrl f { kind := "SEALED", args := [n, acked * 2 ^ 32 + dist] } d = true ∧
      let e := d.updDev f.src (fun x => { x with sealedN := max x.sealedN n, ackedN := max x.ackedN acked, commitN := max x.commitN (n - dist) })
      e.cascadeShared = true ∧ e.cascadeMaster = true) ∧
    (∃ (f : TrlIn) (d : Device) (s : State), ∃ n acked dist, s.dev.takesTrl f { kind := "SEALED", args := [n, acked * 2 ^ 32 + dist] } d = true ∧
      let e := d.updDev f.src (fun x => { x with sealedN := max x.sealedN n, ackedN := max x.ackedN acked, commitN := max x.commitN (n - dist) })
      e.cascadeMaster = false) ∧
    (∃ (f : TrlIn) (d : Device) (s : State), ∃ n m, s.dev.takesTrl f { kind := "COMMIT", args := [n, m] } d = true ∧ f.src = 0 ∧ d.cascadeShared =
      true) ∧
    (∃ (f : TrlIn) (d : Device) (s : State), ∃ n source rec, s.dev.takesTrl f
      { kind := "PIECE", args := [n, source], recs := [rec], bytes := recordBytes rec ++ atomBytes none } d = true ∧ d.cascadeShared = true) ∧
    (∃ (f : TrlIn) (d : Device) (s : State), ∃ n source rec a, s.dev.takesTrl f
      { kind := "PIECE", args := [n, source], recs := [rec], bytes := recordBytes rec ++ atomBytes (some a) } d = true ∧ d.cascadeShared = true) ∧
    (∃ (f : TrlIn) (d : Device) (s : State), ∃ snap tag cask off len source, s.dev.takesTrl f (readBody snap tag (.ask cask off len source)) d = true
      ∧ d.cascadeShared = true) ∧
    (∃ (f : TrlIn) (d : Device) (s : State), ∃ snap tag pos st bytes, s.dev.takesTrl f (readBody snap tag (.data pos st bytes)) d = true ∧
      d.trl.atoms.find? tag = none ∧ d.trl.reads.find? tag = none) ∧
    (∃ (f : TrlIn) (d : Device) (s : State), ∃ snap tag pos st bytes, s.dev.takesTrl f (readBody snap tag (.data pos st bytes)) d = true ∧
      d.trl.atoms.find? tag = none ∧ ∃ r, d.trl.reads.find? tag = some r ∧
      let got := spliceBytes r.data pos bytes
      st = stOk ∧ got.length < r.len) ∧
    (∃ (f : TrlIn) (d : Device) (s : State), ∃ snap tag pos st bytes, s.dev.takesTrl f (readBody snap tag (.data pos st bytes)) d = true ∧
      d.trl.atoms.find? tag = none ∧ ∃ r, d.trl.reads.find? tag = some r ∧
      let got := spliceBytes r.data pos bytes
      st = stOk ∧ r.len ≤ got.length) ∧
    (∃ (f : TrlIn) (d : Device) (s : State), ∃ snap tag pos st bytes, s.dev.takesTrl f (readBody snap tag (.data pos st bytes)) d = true ∧
      d.trl.atoms.find? tag = none ∧ ∃ r, d.trl.reads.find? tag = some r ∧ st ≠ stOk) ∧
    (∃ (f : TrlIn) (d : Device) (s : State), ∃ start epoch role, s.dev.takesTrl f { kind := "LEASE", args := [start, epoch * 2 ^ 32 + role] } d = true
      ∧ (f.src ≠ 0 ∨ epoch < d.mir.epoch)) ∧
    (∃ (f : TrlIn) (d : Device) (s : State), ∃ start epoch role, s.dev.takesTrl f { kind := "LEASE", args := [start, epoch * 2 ^ 32 + role] } d = true
      ∧ f.src = 0 ∧ d.mir.epoch ≤ epoch) ∧
    (∃ (f : TrlIn) (d : Device) (s : State) (dirty cMf esr dp limit high freeKib wbRate admState : Nat),
      let b : Budget := { dirtyPages := dp, limit := limit, high := high, freeKib := freeKib, wbRate := wbRate, admState := admState }
      s.dev.takesTrl f { kind := "STATUS", args := statusArgs dirty cMf esr, bytes := budgetBytes b } d = true ∧ (f.src ≠ 0 ∨ d.flag
        Fld.TRL_CFG_SHARED_BANK = false ∨ cMf = 0)) ∧
    (∃ (f : TrlIn) (d : Device) (s : State), ∃ n op home, s.dev.takesTrl f
      { kind := "META", args := [n, home], recs := [metaRec op false], bytes := recordBytes (metaRec op false) } d = true ∧ f.src = 0 ∧
      d.cascadeShared = true) ∧
    (∃ (f : TrlIn) (d : Device) (s : State), ∃ n op home, s.dev.takesTrl f
      { kind := "META", args := [n, home], recs := [metaRec op false], bytes := recordBytes (metaRec op false) } d = true ∧ (f.src ≠ 0 ∨
      d.cascadeShared = false)) ∧
    (∃ (f : TrlIn) (d : Device) (s : State), ∃ action arg nums, s.dev.takesTrl f { kind := "CTRL", args := [action, arg], bytes := ctlBytes nums } d =
      true) ∧
    (∃ (f : TrlIn) (s : State), s.dev.trlReaches f = false) ∧
    (∃ (port : Nat) (s : State), s.dev.trlOn = true ∧ s.dev.trlPortUp port = true) ∧
    (∃ (s : State), s.dev.trlOn = true ∧ s.dev.trl.formed = false ∧ s.dev.others = []) ∧
    (∃ (s : State), s.dev.trlOn = true ∧
      let d := s.dev.others.foldl (fun (d : Device) i => if (d.trlDev i).seen then d.trlSend i "ACK" [(d.trlDev i).rxSeq, 0] else d) s.dev
      d.trl.formed = true) ∧
    (∃ (s : State), s.dev.trlOn = true ∧ s.dev.cascadeMaster = true) ∧
    (∃ (s : State), s.dev.trlOn = true ∧ s.dev.cascadeMaster = false) ∧
    (∃ (s : State), s.dev.trlOn = true ∧ s.dev.trl.formed = false ∧ s.dev.trl.late = false) ∧
    (∃ (s : State), s.dev.trlOn = true ∧ ∃ port p, s.dev.trl.ports.find? port = some p ∧ p.up = true) ∧
    (∃ (s : State), s.dev.trlOn = true ∧ ∃ port p, s.dev.trl.ports.find? port = some p ∧ p.up = false) ∧
    (∃ (s : State), s.dev.trlOn = true ∧ ∃ dev, s.dev.trl.formed = true ∧ s.dev.others.contains dev = true ∧ (s.dev.trlDev dev).lost = false ∧
      let d := s.dev.waitUntil ((s.dev.trlDev dev).lastAt + s.dev.fld Fld.TRL_TIMERS_LOST_US)
      let e := (d.updDev dev (fun x => { x with lost := true })).raise Reg.TRL_INT_STATUS 2 5
      e.cascadeMaster = true) ∧
    (∃ (s : State), s.dev.trlOn = true ∧ ∃ dev, s.dev.trl.formed = true ∧ s.dev.others.contains dev = true ∧ (s.dev.trlDev dev).lost = false ∧
      let d := s.dev.waitUntil ((s.dev.trlDev dev).lastAt + s.dev.fld Fld.TRL_TIMERS_LOST_US)
      let e := (d.updDev dev (fun x => { x with lost := true })).raise Reg.TRL_INT_STATUS 2 5
      e.cascadeMaster = false) ∧
    (∃ (s : State), s.dev.trlOn = true ∧ ∃ port, port < 4 ∧ s.dev.trl.ports.find? port = none ∧ s.dev.sup.plls.contains 3 = true) ∧
    (∃ (s : State), s.dev.trlOn = true ∧ ∃ port p, s.dev.trl.ports.find? port = some p ∧ p.held = true) ∧
    (∃ (s : State), s.dev.trlOn = false) :=
  ⟨⟨fin 0 1, took (dTrl 1) (fin 0 1) (body "HELLO" (helloArgs 1 3 (dTrl 1).trl.stripe ((dTrl 1).flag Fld.TRL_CFG_SHARED_BANK) ((dTrl 1).pair
     Reg.MIR_PAIR_LO) 100)), st (dTrl 1), 1, 3, (dTrl 1).trl.stripe, (dTrl 1).pair Reg.MIR_PAIR_LO, 100, (dTrl 1).flag Fld.TRL_CFG_SHARED_BANK,
     by decide +kernel⟩,
   ⟨fin 0 1, st (dTrl 1), 2, by decide +kernel⟩,
   ⟨fin 0 1, took (dTrl 1) (fin 0 1) (body "ACK" [5, 0]), st (dTrl 1), 5, by decide +kernel⟩,
   ⟨fin 2 255, took (dTrl 1) (fin 2 255) (body "TIME" [5, 0]), st (dTrl 1), 5, by decide +kernel⟩,
   ⟨fin 0 255, took (dTrl 1) (fin 0 255) (body "TIME" [5, 0]), st (dTrl 1), 5, 50, by decide +kernel⟩,
   ⟨fin 0 255, took (dTrl 1) (fin 0 255) (body "TIME" [5, 0]), st (dTrl 1), 5, 51, by decide +kernel⟩,
   ⟨fin 0 255, took (dTrl 1) (fin 0 255) (body "VCLK" [5, 0]), st (dTrl 1), 5, by decide +kernel⟩,
   ⟨fin 0 255, took (withTrl (dTrl 1) (fun t => { t with closing := [(5, [])], devs := [(2, { (dTrl 1).trlDev 2 with markN := 5 })] })) (fin 0 255)
     (body "MARK" [5, 0]), st (withTrl (dTrl 1) (fun t => { t with closing := [(5, [])], devs := [(2, { (dTrl 1).trlDev 2 with markN := 5 })] })), 5,
     by decide +kernel⟩,
   ⟨fin 0 255, took (dTrl 1 3) (fin 0 255) (body "MARK" [5, 0]), st (dTrl 1 3), 5, by decide +kernel⟩,
   ⟨fin 1 0, took (dTrl 0) (fin 1 0) (body "SEALED" [5, 4 * 2 ^ 32 + 2]), st (dTrl 0), 5, 4, 2, by decide +kernel⟩,
   ⟨fin 0 1, took (dTrl 1) (fin 0 1) (body "SEALED" [5, 4 * 2 ^ 32 + 2]), st (dTrl 1), 5, 4, 2, by decide +kernel⟩,
   ⟨fin 0 255, took (dTrl 1) (fin 0 255) (body "COMMIT" [5, 4]), st (dTrl 1), 5, 4, by decide +kernel⟩,
   ⟨fin 0 1, took (dTrl 1) (fin 0 1) { kind := "PIECE", args := [5, 3], recs := [wrec], bytes := recordBytes wrec ++ atomBytes none }, st (dTrl 1), 5,
     3, wrec, by decide +kernel⟩,
   ⟨fin 0 1, took (dTrl 1) (fin 0 1) { kind := "PIECE", args := [5, 3], recs := [wrec], bytes := recordBytes wrec ++ atomBytes (some atom1) }, st
     (dTrl 1), 5, 3, wrec, atom1, by decide +kernel⟩,
   ⟨fin 0 1, took (dTrl 1) (fin 0 1) (readBody 0 7 (.ask 4 0 8 3)), st (dTrl 1), 0, 7, 4, 0, 8, 3, by decide +kernel⟩,
   ⟨fin 0 1, took (dTrl 1) (fin 0 1) (readBody 0 7 (.data 0 0 [1])), st (dTrl 1), 0, 7, 0, 0, [1], by decide +kernel⟩,
   ⟨fin 0 1, took (dRead) (fin 0 1) (readBody 0 7 (.data 0 stOk [1])), st (dRead), 0, 7, 0, stOk, [1], by decide +kernel, by decide +kernel, rd1,
     by decide +kernel⟩,
   ⟨fin 0 1, took (dRead) (fin 0 1) (readBody 0 7 (.data 0 stOk [1, 2])), st (dRead), 0, 7, 0, stOk, [1, 2], by decide +kernel, by decide +kernel,
     rd1, by decide +kernel⟩,
   ⟨fin 0 1, took (dRead) (fin 0 1) (readBody 0 7 (.data 0 2 [])), st (dRead), 0, 7, 0, 2, [], by decide +kernel, by decide +kernel, rd1,
     by decide +kernel⟩,
   ⟨fin 0 255, took (withMir (dTrl 1) (fun m => { m with epoch := 3 })) (fin 0 255) (body "LEASE" [5, 2 * 2 ^ 32 + 1]), st (withMir (dTrl 1) (fun m =>
     { m with epoch := 3 })), 5, 2, 1, by decide +kernel⟩,
   ⟨fin 0 255, took (dTrl 1) (fin 0 255) (body "LEASE" [5, 7 * 2 ^ 32 + 1]), st (dTrl 1), 5, 7, 1, by decide +kernel⟩,
   ⟨fin 2 0, took (dTrl 0) (fin 2 0) { kind := "STATUS", args := statusArgs 1 0 3, bytes := budgetBytes bud }, st (dTrl 0), 1, 0, 3, 0, 100, 90, 1000,
     1, 0, by decide +kernel⟩,
   ⟨fin 0 255, took (dTrl 1) (fin 0 255)
     { kind := "META", args := [5, 1], recs := [metaRec (.caskDelete 3) false], bytes := recordBytes (metaRec (.caskDelete 3) false) }, st (dTrl 1),
     5, .caskDelete 3, 1, by decide +kernel⟩,
   ⟨fin 2 1, took (dTrl 1) (fin 2 1)
     { kind := "META", args := [5, 0], recs := [metaRec (.caskDelete 4) false], bytes := recordBytes (metaRec (.caskDelete 4) false) }, st (dTrl 1),
     5, .caskDelete 4, 0, by decide +kernel⟩,
   ⟨fin 0 1, took (dTrl 1) (fin 0 1) { kind := "CTRL", args := [1, 0], bytes := ctlBytes [] }, st (dTrl 1), 1, 0, [], by decide +kernel⟩,
   ⟨{ fin 0 1 with crc := false }, st (dTrl 1), by decide +kernel⟩,
   ⟨0, st (dTrl 1), by decide +kernel⟩,
   ⟨st (withTrl dOn (fun t => { t with mode := 1, n := 1 })), by decide +kernel⟩,
   ⟨st (dTrl 1), by decide +kernel⟩,
   ⟨st (dTrl 0), by decide +kernel⟩,
   ⟨st (dTrl 1), by decide +kernel⟩,
   ⟨st (withTrl (dTrl 1) (fun t => { t with formed := false })), by decide +kernel⟩,
   ⟨st (dTrl 1), by decide +kernel, 0, { up := true, peer := 0, lastAt := 0, held := false }, by decide +kernel⟩,
   ⟨st (withTrl (dTrl 1) (fun t => { t with ports := [(0, { up := false, peer := 0, lastAt := 0, held := false })] })), by decide +kernel, 0,
     { up := false, peer := 0, lastAt := 0, held := false }, by decide +kernel⟩,
   ⟨st (dTrl 0), by decide +kernel, 2, by decide +kernel⟩,
   ⟨st (dTrl 1 3), by decide +kernel, 2, by decide +kernel⟩,
   ⟨st (withSup (dTrl 1) (fun u => { u with plls := [3] })), by decide +kernel, 1, by decide +kernel⟩,
   ⟨st (withTrl (dTrl 1) (fun t => { t with ports := [(0, { up := false, peer := 0, lastAt := 0, held := true })] })), by decide +kernel, 0,
     { up := false, peer := 0, lastAt := 0, held := true }, by decide +kernel⟩,
   ⟨st dOn, by decide +kernel⟩⟩

end Sys2Proof.Tests
end

section
/-! PROOF. What a reader sees (O30): the newest record that covers a byte, and the records that a source may see. -/

namespace Sys2Proof.Machine

/-- A data record gives a byte of its range: zero for a zero-fill, else the byte that it carries (R46). -/
theorem recByte_of_covers {w : WireRec} {cask a : Nat} (hd : w.metaOp = none) (hc : w.cask = cask) (hlo : w.off ≤ a)
    (hhi : a < w.off + w.len) : recByte w cask a = some (if w.zero then 0 else w.bytes.getD (a - w.off) 0) := by
  unfold recByte
  rw [hd]
  show (if w.cask = cask ∧ w.off ≤ a ∧ a < w.off + w.len then _ else none) = _
  rw [if_pos ⟨hc, hlo, hhi⟩, apply_ite some]

/-- A data record gives no byte outside its range. -/
theorem recByte_of_misses {w : WireRec} {cask a : Nat} (hd : w.metaOp = none)
    (hm : w.cask ≠ cask ∨ a < w.off ∨ w.off + w.len ≤ a) : recByte w cask a = none := by
  have h : ¬(w.cask = cask ∧ w.off ≤ a ∧ a < w.off + w.len) := by
    rintro ⟨hc, hlo, hhi⟩
    rcases hm with hm | hm | hm
    · exact hm hc
    · omega
    · omega
  unfold recByte
  rw [hd]
  exact if_neg h

theorem newestByte_cons_of_some {r : VRecord} {rs : List VRecord} {cask a : Nat} {b : Byte} (h : recByte r.wire cask a = some b) :
    newestByte (r :: rs) cask a = some b := by
  rw [newestByte, h]

theorem newestByte_cons_of_none {r : VRecord} {rs : List VRecord} {cask a : Nat} (h : recByte r.wire cask a = none) :
    newestByte (r :: rs) cask a = newestByte rs cask a := by
  rw [newestByte, h]

namespace Device

theorem seenBytes_getD {d : Device} {rs : List VRecord} {cask off len i : Nat} (hi : i < (d.rackBytes cask off len).length) :
    (d.seenBytes rs cask off len).getD i 0 = (newestByte rs cask (off + i)).getD ((d.rackBytes cask off len).getD i 0) := by
  simp [seenBytes, List.getD_eq_getElem?_getD, List.getElem?_mapIdx, List.getElem?_eq_getElem hi]

/-- Outside a cascade that shares, a record that a source sees is its own or stands in a committed vintage of the snapshot (R21, R52). -/
theorem own_or_committed_of_mem_visible {d : Device} {x : Source} {snap : Nat} {r : VRecord} (hmode : d.trl.mode = 0)
    (h : r ∈ d.visible x snap) : r.src = x ∨ ∃ v ∈ d.pst.vints, r ∈ v.recs ∧ v.state = .committed ∧ v.num ≤ snap := by
  have own : ∀ rs : List VRecord, r ∈ (rs.filter (fun r => r.src == x)).reverse → r.src = x := fun rs hr =>
    eq_of_beq (List.mem_filter.1 (List.mem_reverse.1 hr)).2
  rcases List.mem_append.1 h with h | h
  · exact .inl (own _ h)
  · obtain ⟨l, hl, hr⟩ := List.mem_flatten.1 h
    obtain ⟨v, hv, rfl⟩ := List.mem_map.1 hl
    split at hr
    next hc =>
      refine .inr ⟨v, List.mem_reverse.1 hv, List.mem_reverse.1 hr, ?_, hc.2⟩
      simpa [hmode] using hc.1
    next => exact .inl (own _ hr)

/-- A source sees what it has placed in the open vintage at once (R52). -/
theorem mem_visible_of_own_open {d : Device} {x : Source} {r : VRecord} (snap : Nat) (hopen : r ∈ d.pst.openRecs) (hown : r.src = x) :
    r ∈ d.visible x snap :=
  List.mem_append_left _ (List.mem_reverse.2 (List.mem_filter.2 ⟨List.mem_append_right _ hopen, beq_iff_eq.2 hown⟩))

end Device

/-- Settles O30: the byte that `seenBytes` gives, record by record, and the records that `visible` lists. -/
theorem readsSeeTheNewest : Obligations.ReadsSeeTheNewest := by
  refine ⟨?_, ?_, ?_, ?_, ?_⟩
  · exact fun _ _ _ _ _ _ hi => Device.seenBytes_getD hi
  · exact fun _ _ _ _ hd hc hlo hhi => newestByte_cons_of_some (recByte_of_covers hd hc hlo hhi)
  · exact fun _ _ _ _ hd hm => newestByte_cons_of_none (recByte_of_misses hd hm)
  · exact fun _ _ _ _ hmode h => Device.own_or_committed_of_mem_visible hmode h
  · exact fun _ _ snap _ hopen hown => Device.mem_visible_of_own_open snap hopen hown

end Sys2Proof.Machine
end

section
/-! PROOF. Rails and clocks by the supervisor's state (O54): what each command answers in each of its cases, while SUP runs. -/

namespace Sys2Proof.Machine

open Device

/-- A command of the supervisor answers what its function makes of the device, while SUP runs. -/
theorem gives_of_runSup {i : Instr} {s : State} {o : Host.Outcome State Fault Refusal} {f : Device → Device} {d : Device}
    (on : s.dev.sup.supOn = true) (hi : exec i s = o) (ho : o = s.runSup f) (hd : f s.dev = d) : Gives i s d := by
  unfold Gives
  rw [hi, ho, State.runSup, State.run, if_pos on, hd]

/-! ### The meaning of each command -/

theorem exec_prestartTimeout (slot : Nat) (s : State) : exec (.prestartTimeout slot) s = execPrestartTimeout slot s := by rfl
theorem exec_railInRegulation (slot mv : Nat) (pg : Bool) (s : State) :
    exec (.railInRegulation slot mv pg) s = execRailInRegulation slot mv pg s := by rfl
theorem exec_railStepDelay (s : State) : exec .railStepDelay s = execRailStepDelay s := by rfl
theorem exec_railUpTimeout (slot : Nat) (s : State) : exec (.railUpTimeout slot) s = execRailUpTimeout slot s := by rfl
theorem exec_pllLock (pll : Nat) (s : State) : exec (.pllLock pll) s = execPllLock pll s := by rfl
theorem exec_pllLockTimeout (pll : Nat) (s : State) : exec (.pllLockTimeout pll) s = execPllLockTimeout pll s := by rfl
theorem exec_railFault (slot mv : Nat) (pg : Bool) (s : State) : exec (.railFault slot mv pg) s = execRailFault slot mv pg s := by rfl
theorem exec_railBelowOff (slot mv : Nat) (s : State) : exec (.railBelowOff slot mv) s = execRailBelowOff slot mv s := by rfl
theorem exec_railDnTimeout (slot : Nat) (s : State) : exec (.railDnTimeout slot) s = execRailDnTimeout slot s := by rfl
theorem exec_dischargeTimeout (slot : Nat) (s : State) : exec (.dischargeTimeout slot) s = execDischargeTimeout slot s := by rfl
theorem exec_restartHoldoffExpire (s : State) : exec .restartHoldoffExpire s = execRestartHoldoffExpire s := by rfl
theorem exec_attemptClear (s : State) : exec .attemptClear s = execAttemptClear s := by rfl
theorem exec_avsStep (s : State) : exec .avsStep s = execAvsStep s := by rfl

namespace Device

theorem fld_setSup (d : Device) (x : Sup) (f : Fld) (inst : Nat) : (d.setSup x).fld f inst = d.fld f inst := by rfl

theorem waitUntil_avsMv (d : Device) (t : Nat) : (d.waitUntil t).sup.avsMv = d.sup.avsMv := by
  obtain ⟨c, hc⟩ := waitUntil_sup d t
  rw [hc]

theorem waitUntil_avsTarget (d : Device) (t : Nat) : (d.waitUntil t).sup.avsTarget = d.sup.avsTarget := by
  obtain ⟨c, hc⟩ := waitUntil_sup d t
  rw [hc]

end Device

section Rails
variable {s : State} (on : s.dev.sup.supOn = true)
include on

/-! ### Power-up (R396, R397, R399) -/

theorem prestartTimeout_gives {slot : Nat} (up : s.dev.sup.state = .powerUp) (pre : s.dev.sup.phase = .prestart)
    (works : (s.dev.workSlots s.dev.sup.dpExit).contains slot = true) (above : s.dev.belowOff slot (s.dev.rail slot).mv = false) :
    Gives (.prestartTimeout slot) s
      ((s.dev.waitUntil (s.dev.sup.stepAt + 1000 * s.dev.fld Fld.SUP_R_TIME_DIS_TMO_MS slot)).failAttempt 3 (some slot)) :=
  gives_of_runSup on (exec_prestartTimeout slot s) rfl (if_pos ⟨up, pre, works, by rw [above]; rfl⟩)

theorem railInRegulation_ignored {slot mv : Nat} {pg : Bool} (out : s.dev.inRegulation slot mv pg = false) :
    Gives (.railInRegulation slot mv pg) s s.dev :=
  gives_of_runSup on (exec_railInRegulation slot mv pg s) rfl (if_pos (by simp [out]))

/-- A reading in regulation is stored; a rail that is not rising has no step to end. -/
theorem railInRegulation_notRising {slot mv : Nat} {pg : Bool} (reg : s.dev.inRegulation slot mv pg = true) (used : s.dev.slotUsed slot = true)
    (still : ((s.dev.noteRail slot mv pg).rail slot).state ≠ .rising) :
    Gives (.railInRegulation slot mv pg) s (s.dev.noteRail slot mv pg) :=
  gives_of_runSup on (exec_railInRegulation slot mv pg s) rfl ((if_neg (by simp [reg, used])).trans (if_pos still))

section Rising
variable {slot mv : Nat} {pg : Bool} {e : Device} (reg : s.dev.inRegulation slot mv pg = true) (used : s.dev.slotUsed slot = true)
  (rising : ((s.dev.noteRail slot mv pg).rail slot).state = .rising)
  (he : (s.dev.noteRail slot mv pg).setRail slot { (s.dev.noteRail slot mv pg).rail slot with state := .inReg } = e)
include reg used rising he

/-- The last rail of a step to rise ends the step; its delay begins. -/
theorem railInRegulation_endsStep (up : e.sup.state = .powerUp) (phase : e.sup.phase = .rising)
    (all : e.stepSlots.all (fun n => (e.rail n).state == .inReg) = true) :
    Gives (.railInRegulation slot mv pg) s (e.setSup { e.sup with phase := .delay, stepAt := e.now }) := by
  subst he
  exact gives_of_runSup on (exec_railInRegulation slot mv pg s) rfl
    ((if_neg (by simp [reg, used])).trans ((if_neg fun h => h rising).trans (if_pos ⟨up, phase, all⟩)))

theorem railInRegulation_notPoweringUp (up : e.sup.state ≠ .powerUp) : Gives (.railInRegulation slot mv pg) s e := by
  subst he
  exact gives_of_runSup on (exec_railInRegulation slot mv pg s) rfl
    ((if_neg (by simp [reg, used])).trans ((if_neg fun h => h rising).trans (if_neg fun h => up h.1)))

end Rising

theorem railStepDelay_gives (up : s.dev.sup.state = .powerUp) (delay : s.dev.sup.phase = .delay) :
    let ms := s.dev.stepSlots.foldl (fun a n => max a (s.dev.fld Fld.SUP_R_TIME_DELAY_MS n)) 0
    Gives .railStepDelay s ((s.dev.waitUntil (s.dev.sup.stepAt + 1000 * ms)).upFrom (s.dev.sup.step + 1)).clocksDone :=
  gives_of_runSup on (exec_railStepDelay s) rfl (if_pos ⟨up, delay⟩)

theorem railStepDelay_ignored (up : s.dev.sup.state ≠ .powerUp) : Gives .railStepDelay s s.dev :=
  gives_of_runSup on (exec_railStepDelay s) rfl (if_neg fun h => up h.1)

theorem railUpTimeout_gives {slot : Nat} (up : s.dev.sup.state = .powerUp) (phase : s.dev.sup.phase = .rising)
    (steps : s.dev.stepSlots.contains slot = true) (rising : (s.dev.rail slot).state = .rising) :
    Gives (.railUpTimeout slot) s
      ((s.dev.waitUntil (s.dev.sup.stepAt + 1000 * s.dev.fld Fld.SUP_R_TIME_UP_TMO_MS slot)).failAttempt 1 (some slot)) :=
  gives_of_runSup on (exec_railUpTimeout slot s) rfl (if_pos ⟨up, phase, steps, rising⟩)

/-! ### Clocks (R27, R428) -/

theorem pllLock_gives {pll : Nat} (lt : pll < 6) (up : s.dev.sup.state = .powerUp) (ref : s.dev.refEnabled (pllRef pll) = true) :
    Gives (.pllLock pll) s (s.dev.setSup { s.dev.sup with plls := insertNat pll s.dev.sup.plls }).clocksDone :=
  gives_of_runSup on (exec_pllLock pll s) rfl (if_pos ⟨up, lt, ref⟩)

theorem pllLock_ignored {pll : Nat} (ref : s.dev.refEnabled (pllRef pll) = false) : Gives (.pllLock pll) s s.dev :=
  gives_of_runSup on (exec_pllLock pll s) rfl (if_neg fun h => by simp [ref] at h)

theorem pllLockTimeout_gives {pll : Nat} (lt : pll < 6) (up : s.dev.sup.state = .powerUp) (unlocked : s.dev.sup.plls.contains pll = false)
    (ref : s.dev.refEnabled (pllRef pll) = true) :
    Gives (.pllLockTimeout pll) s
      ((s.dev.waitUntil ((s.dev.sup.refAt.find? (pllRef pll)).getD s.dev.sup.stepAt + 1000)).failAttempt 4 none) :=
  gives_of_runSup on (exec_pllLockTimeout pll s) rfl (if_pos ⟨up, lt, by rw [unlocked]; rfl, ref⟩)

theorem pllLockTimeout_ignored {pll : Nat} (locked : s.dev.sup.plls.contains pll = true) : Gives (.pllLockTimeout pll) s s.dev :=
  gives_of_runSup on (exec_pllLockTimeout pll s) rfl (if_neg fun ⟨_, _, h, _⟩ => by rw [locked] at h; cases h)

/-! ### A fault by the supervisor's state (R399, R401, R403) -/

theorem railFault_notFaulting {slot mv : Nat} {pg : Bool} (used : s.dev.slotUsed slot = true)
    (quiet : (s.dev.noteRail slot mv pg).faultTrig slot mv pg = none) : Gives (.railFault slot mv pg) s (s.dev.noteRail slot mv pg) :=
  gives_of_runSup on (exec_railFault slot mv pg s) rfl (by simp only [used, quiet]; rfl)

section Faults
variable {slot mv t : Nat} {pg : Bool} {d : Device} (used : s.dev.slotUsed slot = true) (hd : s.dev.noteRail slot mv pg = d)
  (trig : d.faultTrig slot mv pg = some t)
include used hd trig

/-- Where the rails are up, a rail in regulation that faults is a running fault (R401). -/
theorem railFault_running (state : d.sup.state = .on ∨ d.sup.state = .flush ∨ d.sup.state = .lowPower)
    (inReg : (s.dev.rail slot).state = .inReg) : Gives (.railFault slot mv pg) s (d.runFault slot t) := by
  refine gives_of_runSup on (exec_railFault slot mv pg s) rfl ?_
  rcases state with h | h | h <;> simp [used, hd, trig, h, inReg]

theorem railFault_notInReg (state : d.sup.state = .on ∨ d.sup.state = .flush ∨ d.sup.state = .lowPower)
    (inReg : (s.dev.rail slot).state ≠ .inReg) : Gives (.railFault slot mv pg) s d := by
  refine gives_of_runSup on (exec_railFault slot mv pg s) rfl ?_
  rcases state with h | h | h <;> simp [used, hd, trig, h, inReg]

/-- An overvoltage of a rising rail fails the attempt (R399). -/
theorem railFault_rising (state : d.sup.state = .powerUp) (rising : (s.dev.rail slot).state = .rising) (ov : t = 6) :
    Gives (.railFault slot mv pg) s (((d.countFault slot 6).markFault slot 6).failAttempt 2 (some slot)) :=
  gives_of_runSup on (exec_railFault slot mv pg s) rfl (by simp [used, hd, trig, state, rising, ov])

/-- A kept rail that faults while the device leaves Diapause ends Diapause (R426). -/
theorem railFault_keptRail (state : d.sup.state = .powerUp) (inReg : (s.dev.rail slot).state = .inReg) (exit : d.sup.dpExit = true)
    (keep : d.flag Fld.SUP_R_CFG_KEEP_DP slot = true) :
    Gives (.railFault slot mv pg) s
      ((((d.countFault slot t).markFault slot t).noteTrigger t (some slot)).raise Reg.SUP_SEQ_INT_STATUS 2 5).dropDiapause :=
  gives_of_runSup on (exec_railFault slot mv pg s) rfl (by simp [used, hd, trig, state, inReg, exit, keep])

theorem railFault_poweringUp (state : d.sup.state = .powerUp) (inReg : (s.dev.rail slot).state = .inReg)
    (other : d.sup.dpExit = false ∨ d.flag Fld.SUP_R_CFG_KEEP_DP slot = false) :
    Gives (.railFault slot mv pg) s (((d.countFault slot t).markFault slot t).failAttempt t (some slot)) := by
  refine gives_of_runSup on (exec_railFault slot mv pg s) rfl ?_
  rcases other with h | h <;> simp [used, hd, trig, state, inReg, h]

/-- A rail that falls before its step of the power-down is a case of R403. -/
theorem railFault_poweringDown (state : d.sup.state = .powerDown) (en : (s.dev.rail slot).en = true)
    (inReg : (s.dev.rail slot).state = .inReg) :
    Gives (.railFault slot mv pg) s
      (((d.setRail slot { d.rail slot with state := .fault }).bumpSat Fld.SUP_R_FAULT_EARLY 1 slot).downCase 9 slot) :=
  gives_of_runSup on (exec_railFault slot mv pg s) rfl (by simp [used, hd, trig, state, en, inReg])

end Faults

/-! ### Slots below OFF, and power-down (R397, R402, R403) -/

section BelowOff
variable {slot mv : Nat} {d : Device} (used : s.dev.slotUsed slot = true) (below : s.dev.belowOff slot mv = true)
  (hd : s.dev.setRail slot { s.dev.rail slot with mv := mv, state := if (s.dev.rail slot).en then (s.dev.rail slot).state else .off } = d)
include used below hd

theorem railBelowOff_beginsPowerUp (up : d.sup.state = .powerUp) (pre : d.sup.phase = .prestart)
    (all : (d.workSlots d.sup.dpExit).all (fun n => d.belowOff n (d.rail n).mv) = true) : Gives (.railBelowOff slot mv) s (d.upFrom 0) := by
  subst hd
  exact gives_of_runSup on (exec_railBelowOff slot mv s) rfl
    ((if_neg (by simp [used, below])).trans ((if_pos ⟨up, pre⟩).trans (if_pos all)))

theorem railBelowOff_waits (up : d.sup.state = .powerUp) (pre : d.sup.phase = .prestart)
    (all : (d.workSlots d.sup.dpExit).all (fun n => d.belowOff n (d.rail n).mv) = false) : Gives (.railBelowOff slot mv) s d := by
  subst hd
  exact gives_of_runSup on (exec_railBelowOff slot mv s) rfl
    ((if_neg (by simp [used, below])).trans ((if_pos ⟨up, pre⟩).trans (if_neg (Bool.eq_false_iff.1 all))))

theorem railBelowOff_powerDownGoesOn (up : d.sup.state ≠ .powerUp) : Gives (.railBelowOff slot mv) s d.downGoOn := by
  subst hd
  exact gives_of_runSup on (exec_railBelowOff slot mv s) rfl ((if_neg (by simp [used, below])).trans (if_neg fun h => up h.1))

end BelowOff

theorem railDnTimeout_gives {slot : Nat} (down : s.dev.sup.state = .powerDown)
    (works : (s.dev.workSlots s.dev.sup.dnKeep).contains slot = true) (step : s.dev.fld Fld.SUP_R_CFG_DN_STEP slot = s.dev.sup.step)
    (en : (s.dev.rail slot).en = false) (notOff : (s.dev.rail slot).state ≠ .off) (first : (s.dev.rail slot).dnTmo = false) :
    let d := s.dev.waitUntil (s.dev.sup.stepAt + 1000 * s.dev.fld Fld.SUP_R_TIME_DN_TMO_MS slot)
    let e := (d.bumpSat Fld.SUP_R_FAULT_DN_TMO 1 slot).downCase 8 slot
    Gives (.railDnTimeout slot) s ((e.setRail slot { e.rail slot with dnTmo := true, disAt := e.now }).discharge slot) :=
  gives_of_runSup on (exec_railDnTimeout slot s) rfl
    (if_pos ⟨down, works, step, by rw [en]; rfl, notOff, by rw [first]; rfl⟩)

theorem dischargeTimeout_gives {slot : Nat} (down : s.dev.sup.state = .powerDown) (late : (s.dev.rail slot).dnTmo = true)
    (first : (s.dev.rail slot).handled = false) (notOff : (s.dev.rail slot).state ≠ .off) :
    let d := s.dev.waitUntil ((s.dev.rail slot).disAt + 1000 * s.dev.fld Fld.SUP_R_TIME_DIS_TMO_MS slot)
    Gives (.dischargeTimeout slot) s (d.setRail slot { d.rail slot with handled := true }).downGoOn :=
  gives_of_runSup on (exec_dischargeTimeout slot s) rfl (if_pos ⟨down, late, by rw [first]; rfl, notOff⟩)

/-! ### The hold-off, the attempt count and the core voltage (R393, R398, R399) -/

theorem restartHoldoffExpire_gives (state : s.dev.sup.state = .holdoff) :
    Gives .restartHoldoffExpire s (s.dev.waitUntil (s.dev.sup.offAt + 1000 * s.dev.fld Fld.SUP_SEQ_CTRL_HOLDOFF_MS)).supplyNormal :=
  gives_of_runSup on (exec_restartHoldoffExpire s) rfl (if_pos (.inl state))

theorem restartHoldoffExpire_ignored (state : s.dev.sup.state = .on) : Gives .restartHoldoffExpire s s.dev :=
  gives_of_runSup on (exec_restartHoldoffExpire s) rfl (if_neg (by simp [state]))

theorem attemptClear_gives (state : s.dev.seqState = .on ∨ s.dev.seqState = .lowPower) :
    Gives .attemptClear s ((s.dev.waitUntil (s.dev.sup.upAt + 60000000)).setFld Fld.SUP_SEQ_STATUS_ATTEMPT 0) :=
  gives_of_runSup on (exec_attemptClear s) rfl (if_pos state)

theorem attemptClear_ignored (state : s.dev.seqState = .holdoff) : Gives .attemptClear s s.dev :=
  gives_of_runSup on (exec_attemptClear s) rfl (if_neg (by simp [state]))

/-- The core voltage moves by at most 5 mV toward its target. -/
theorem avsStep_gives {n : Nat} (slot : s.dev.avsSlot = some n) (state : s.dev.sup.state = .on)
    (alive : s.dev.flag Fld.SUP_PMB_STATUS_DEAD = false) (margin : s.dev.fld Fld.SUP_R_MARGIN_STEPS n = 0)
    (away : s.dev.sup.avsMv ≠ 1000 * s.dev.sup.avsTarget) :
    let d := s.dev.waitUntil (s.dev.sup.avsAt + 100)
    let new := if s.dev.sup.avsMv < 1000 * s.dev.sup.avsTarget then min (1000 * s.dev.sup.avsTarget) (s.dev.sup.avsMv + 5000)
      else max (1000 * s.dev.sup.avsTarget) (s.dev.sup.avsMv - 5000)
    let e := (d.avsMove n new).setSup { (d.avsMove n new).sup with avsAt := (d.avsMove n new).now }
    Gives .avsStep s (e.emit (.pmbus (e.fld Fld.SUP_R_PMB_ADDR n) (e.fld Fld.SUP_R_PMB_PAGE n) 0x21 (new / 1000))) := by
  have due : s.dev.sup.state = .on ∧ (!s.dev.flag Fld.SUP_PMB_STATUS_DEAD) = true ∧ s.dev.fld Fld.SUP_R_MARGIN_STEPS n = 0 ∧
      s.dev.sup.avsMv ≠ 1000 * s.dev.sup.avsTarget := ⟨state, by rw [alive]; rfl, margin, away⟩
  exact gives_of_runSup on (exec_avsStep s) rfl
    (by simp only [slot, if_pos due, waitUntil_avsMv, waitUntil_avsTarget, fld_setSup])

theorem avsStep_ignored (slot : s.dev.avsSlot = none) : Gives .avsStep s s.dev :=
  gives_of_runSup on (exec_avsStep s) rfl (by simp only [slot])

end Rails

/-- Settles O54, command by command, from what each answers in each of its cases. -/
theorem railCommands : Obligations.RailCommands := by
  intro s on
  refine ⟨?prestart, ?inReg, ?outOfReg, ?delay, ?noDelay, ?late, ?plls, ?fault, ?below, ?notFalling, ?discharged, ?holdoff, ?noHoldoff,
    ?attempt, ?noAttempt, ?avs, ?noAvs⟩
  case prestart => exact fun _ up pre works above => prestartTimeout_gives on up pre works above
  case inReg =>
    intro slot mv pg reg used
    refine ⟨railInRegulation_notRising on reg used, fun rising => ⟨?_, ?_⟩⟩
    · exact railInRegulation_endsStep on reg used rising rfl
    · exact railInRegulation_notPoweringUp on reg used rising rfl
  case outOfReg => exact fun _ _ _ out => railInRegulation_ignored on out
  case delay => exact railStepDelay_gives on
  case noDelay => exact railStepDelay_ignored on
  case late => exact fun _ up phase steps rising => railUpTimeout_gives on up phase steps rising
  case plls =>
    exact fun pll lt up => ⟨pllLock_gives on lt up, pllLock_ignored on, pllLockTimeout_gives on lt up, pllLockTimeout_ignored on⟩
  case fault =>
    intro slot mv pg used
    refine ⟨railFault_notFaulting on used, fun t trig => ⟨fun state => ⟨?_, ?_⟩, ?_, fun state inReg => ⟨?_, ?_⟩, ?_⟩⟩
    · exact railFault_running on used rfl trig state
    · exact railFault_notInReg on used rfl trig state
    · exact railFault_rising on used rfl trig
    · exact railFault_keptRail on used rfl trig state inReg
    · exact railFault_poweringUp on used rfl trig state inReg
    · exact railFault_poweringDown on used rfl trig
  case below =>
    intro slot mv used below
    refine ⟨fun up pre => ⟨?_, ?_⟩, ?_⟩
    · exact railBelowOff_beginsPowerUp on used below rfl up pre
    · exact railBelowOff_waits on used below rfl up pre
    · exact railBelowOff_powerDownGoesOn on used below rfl
  case notFalling => exact fun _ down works step en notOff first => railDnTimeout_gives on down works step en notOff first
  case discharged => exact fun _ down late first notOff => dischargeTimeout_gives on down late first notOff
  case holdoff => exact restartHoldoffExpire_gives on
  case noHoldoff => exact restartHoldoffExpire_ignored on
  case attempt => exact attemptClear_gives on
  case noAttempt => exact attemptClear_ignored on
  case avs => exact fun _ slot state alive margin away => avsStep_gives on slot state alive margin away
  case noAvs => exact avsStep_ignored on

end Sys2Proof.Machine
end

section
/-! PROOF. The panel, the reset inputs, the PMBus, watchdogs, wakes and PF_SHARE (O55): what each command answers in each of its cases, while
SUP runs. -/

namespace Sys2Proof.Machine

open Device

/-! ### The meaning of each command -/

theorem exec_refclk156Loss (s : State) : exec .refclk156Loss s = execRefclk156Loss s := by rfl
theorem exec_vbatLow (mv : Nat) (s : State) : exec (.vbatLow mv) s = execVbatLow mv s := by rfl
theorem exec_capsuleComplete (s : State) : exec .capsuleComplete s = execCapsuleComplete s := by rfl
theorem exec_shortPress (s : State) : exec .shortPress s = execShortPress s := by rfl
theorem exec_otherPress (s : State) : exec .otherPress s = execOtherPress s := by rfl
theorem exec_longPress (s : State) : exec .longPress s = execLongPress s := by rfl
theorem exec_resetInput (mrst : Bool) (s : State) : exec (.resetInput mrst) s = execResetInput mrst s := by rfl
theorem exec_pmbusStuck (sclLow ok : Bool) (s : State) : exec (.pmbusStuck sclLow ok) s = execPmbusStuck sclLow ok s := by rfl
theorem exec_pmbusRecoveryRetry (ok : Bool) (s : State) : exec (.pmbusRecoveryRetry ok) s = execPmbusRecoveryRetry ok s := by rfl
theorem exec_pmbusTelemetry (slot : Nat) (nack : Bool) (s : State) :
    exec (.pmbusTelemetry slot nack) s = execPmbusTelemetry slot nack s := by rfl
theorem exec_perchGate (engine : Nat) (s : State) : exec (.perchGate engine) s = execPerchGate engine s := by rfl
theorem exec_lowPowerWake (src : Nat) (s : State) : exec (.lowPowerWake src) s = execLowPowerWake src s := by rfl
theorem exec_wakeN (s : State) : exec .wakeN s = execWakeN s := by rfl
theorem exec_trellisWake (port : Nat) (s : State) : exec (.trellisWake port) s = execTrellisWake port s := by rfl
theorem exec_rtcWakeAlarm (s : State) : exec .rtcWakeAlarm s = execRtcWakeAlarm s := by rfl
theorem exec_watchdogExpire (core : Nat) (s : State) : exec (.watchdogExpire core) s = execWatchdogExpire core s := by rfl
theorem exec_mcStateRebuilt (core : Nat) (s : State) : exec (.mcStateRebuilt core) s = execMcStateRebuilt core s := by rfl
theorem exec_pfShareLow (s : State) : exec .pfShareLow s = execPfShareLow s := by rfl
theorem exec_pfShareHigh (s : State) : exec .pfShareHigh s = execPfShareHigh s := by rfl
theorem exec_pfShareReleaseTimeout (s : State) : exec .pfShareReleaseTimeout s = execPfShareReleaseTimeout s := by rfl

namespace Device

/-- The device that has seen MRST_N (`mrst`) or RESET_N asserted (R407). -/
def noteResetInput (d : Device) (mrst : Bool) : Device :=
  if mrst then d.setSup { d.sup with mrstN := true } else d.setSup { d.sup with rstN := true }

@[simp] theorem noteResetInput_hold (d : Device) (mrst : Bool) : (d.noteResetInput mrst).hold = d.hold := by cases mrst <;> rfl
@[simp] theorem noteResetInput_cur (d : Device) (mrst : Bool) : (d.noteResetInput mrst).sup.cur = d.sup.cur := by cases mrst <;> rfl
@[simp] theorem noteResetInput_latched (d : Device) (mrst : Bool) : (d.noteResetInput mrst).sup.latched = d.sup.latched := by
  cases mrst <;> rfl

/-- The wake of a reset input leaves its cause only in Diapause (R440). -/
theorem wokenBy_eq (d : Device) (cause : Nat) :
    d.wokenBy cause =
      (let w := d.setSup { d.sup with resetWake := true }
       if w.sup.target = 1 then w.setFld Fld.SUP_RST_STATUS_CAUSE cause else w) := by
  by_cases h : d.sup.target = 1 <;> simp [wokenBy, Device.when, h]

end Device

/-- MC0–MC7 run while HUB is powered and no bottling has reached its step 5 (R122, R436). -/
theorem not_halted {d : Device} (hub : d.hubOn = true) (early : d.hold.bottle = none ∨ d.hold.phase < 3) :
    ¬(!d.hubOn ∨ (d.hold.bottle.isSome ∧ 3 ≤ d.hold.phase)) := by
  rintro (off | ⟨bottling, late⟩)
  · rw [hub] at off
    cases off
  · rcases early with free | early
    · rw [free] at bottling
      cases bottling
    · omega

section Supervisor
variable {s : State} (on : s.dev.sup.supOn = true)
include on

/-! ### The references, VBAT and the capsule (R28, R391, R412) -/

theorem refclk156Loss_gives : Gives .refclk156Loss s s.dev.vaeDown.ethDown :=
  gives_of_runSup on (exec_refclk156Loss s) rfl rfl

theorem vbatLow_low {mv : Nat} (lo : 1000 ≤ mv) (hi : mv ≤ 2600) :
    Gives (.vbatLow mv) s ((s.dev.setSup { s.dev.sup with vbat := mv }).raise Reg.SUP_SEQ_INT_STATUS 0 3) :=
  gives_of_runSup on (exec_vbatLow mv s) rfl (if_pos ⟨lo, hi⟩)

theorem vbatLow_outside {mv : Nat} (out : mv < 1000 ∨ 2600 < mv) : Gives (.vbatLow mv) s (s.dev.setSup { s.dev.sup with vbat := mv }) :=
  gives_of_runSup on (exec_vbatLow mv s) rfl (if_neg (by omega))

theorem capsuleComplete_gives {c : Capsule} (cap : s.dev.sup.capsule = some c) (running : c.done = false) (kept : c.lost = false) :
    Gives .capsuleComplete s ((s.dev.setSup { s.dev.sup with capsule := some { c with done := true } }).raise Reg.SUP_SEQ_INT_STATUS 5 4) :=
  gives_of_runSup on (exec_capsuleComplete s) rfl (by simp only [cap]; exact if_neg (by simp [running, kept]))

theorem capsuleComplete_ignored (cap : s.dev.sup.capsule = none) : Gives .capsuleComplete s s.dev :=
  gives_of_runSup on (exec_capsuleComplete s) rfl (by simp only [cap])

/-! ### The button (R406, R433) -/

section ShortPress
variable {b : Device} (hb : s.dev.setSup { s.dev.sup with btn := false } = b)
include hb

theorem otherPress_gives : Gives .otherPress s (b.eventR 1 supBlk 406) :=
  gives_of_runSup on (exec_otherPress s) rfl (by rw [hb, pressEvent])

/-- While a request to enter a low-power state is carried out, a press is a wake. -/
theorem shortPress_entering (entering : b.entering = true) : Gives .shortPress s (b.wake 1) :=
  gives_of_runSup on (exec_shortPress s) rfl (by simp only [hb, if_pos entering])

variable (idle : b.entering = false)
include idle

theorem shortPress_off (state : b.seqState = .off) : Gives .shortPress s (b.setSup { b.sup with state := .holdoff }).supplyNormal :=
  gives_of_runSup on (exec_shortPress s) rfl (by simp [hb, idle, state])

/-- In ON a press that is enabled begins an orderly shutdown. -/
theorem shortPress_on (state : b.seqState = .on) (en : b.flag Fld.SUP_BTN_SHORT_EN = true) (free : b.hold.bottle = none) :
    Gives .shortPress s (b.startFlush false) :=
  gives_of_runSup on (exec_shortPress s) rfl (by simp [hb, idle, state, en, free])

theorem shortPress_onBarred (state : b.seqState = .on) (barred : b.flag Fld.SUP_BTN_SHORT_EN = false ∨ b.hold.bottle.isSome) :
    Gives .shortPress s (b.eventR 1 supBlk 406) := by
  have shut : (b.flag Fld.SUP_BTN_SHORT_EN && b.hold.bottle.isNone) = false := by
    rcases barred with h | h
    · rw [h, Bool.false_and]
    · rw [Option.isNone_eq_false_iff.2 h, Bool.and_false]
  exact gives_of_runSup on (exec_shortPress s) rfl (by simp [hb, idle, state, shut, pressEvent])

theorem shortPress_lowPower (state : b.seqState = .lowPower) : Gives .shortPress s (b.wake 1) :=
  gives_of_runSup on (exec_shortPress s) rfl (by simp [hb, idle, state])

/-- In LOCKOUT a press starts over: ATTEMPT is cleared and POWER_UP begins. -/
theorem shortPress_lockout (state : b.seqState = .lockout) (free : b.hold.bottle = none) :
    let e := b.setFld Fld.SUP_SEQ_STATUS_ATTEMPT 0
    Gives .shortPress s (e.setSup { e.sup with cold := false }).powerUp :=
  gives_of_runSup on (exec_shortPress s) rfl (by simp [hb, idle, state, free])

theorem shortPress_lockoutBottling (state : b.seqState = .lockout) (bottling : b.hold.bottle.isSome) :
    Gives .shortPress s (b.eventR 1 supBlk 406) :=
  gives_of_runSup on (exec_shortPress s) rfl (by simp [hb, idle, state, bottling, pressEvent])

theorem shortPress_powerDown (state : b.seqState = .powerDown) : Gives .shortPress s (b.eventR 1 supBlk 406) :=
  gives_of_runSup on (exec_shortPress s) rfl (by simp [hb, idle, state, pressEvent])

end ShortPress

section LongPress
variable {b : Device} (hb : s.dev.setSup { s.dev.sup with btn := true } = b)
include hb

theorem longPress_holdoff (state : b.seqState = .holdoff) : Gives .longPress s (b.setSup { b.sup with state := .off }) :=
  gives_of_runSup on (exec_longPress s) rfl (by simp only [hb, state])

theorem longPress_powerUp (state : b.seqState = .powerUp) : Gives .longPress s (b.powerDown .off) :=
  gives_of_runSup on (exec_longPress s) rfl (by simp only [hb, state])

theorem longPress_lockout (state : b.seqState = .lockout) : Gives .longPress s (b.eventR 1 supBlk 406) :=
  gives_of_runSup on (exec_longPress s) rfl (by simp only [hb, state, pressEvent])

/-- In ON and in a flush a long press bottles, and the device stays off after. -/
theorem longPress_bottles (state : b.seqState = .on ∨ b.seqState = .flush) : Gives .longPress s (b.latchBottling true .off) := by
  refine gives_of_runSup on (exec_longPress s) rfl ?_
  rcases state with h | h <;> simp only [hb, h]

/-- In Diapause a long press is held over to the exit, which it begins. -/
theorem longPress_diapause (state : b.seqState = .lowPower) (diapause : b.sup.target = 1) (inside : b.sup.cur = 3) :
    Gives .longPress s (b.setSup { b.sup with pressOff := true }).beginExit :=
  gives_of_runSup on (exec_longPress s) rfl (by simp [hb, state, diapause, inside])

theorem longPress_diapauseChanging (state : b.seqState = .lowPower) (diapause : b.sup.target = 1) (moving : b.sup.cur ≠ 3) :
    Gives .longPress s (b.setSup { b.sup with pressOff := true }) :=
  gives_of_runSup on (exec_longPress s) rfl (by simp [hb, state, diapause, moving])

theorem longPress_chrysalis (state : b.seqState = .lowPower) (other : b.sup.target ≠ 1) :
    Gives .longPress s ((b.setSup { b.sup with state := .off, cur := 0, target := 0 }).setFld Fld.SUP_PWR_TARGET_MODE 0) :=
  gives_of_runSup on (exec_longPress s) rfl (by simp only [hb, state, if_neg other])

end LongPress

/-! ### The reset inputs (R407, R440) -/

section ResetInput
variable {mrst : Bool}

/-- A reset input asks for a warm reset during a bottling, and outside the low-power states. -/
theorem resetInput_requests (h : s.dev.hold.bottle.isSome ∨ s.dev.hold.bottle = none ∧ (s.dev.sup.cur < 2 ∨ 5 < s.dev.sup.cur)) :
    Gives (.resetInput mrst) s ((s.dev.noteResetInput mrst).resetRequest (if mrst then 2 else 1) 0) := by
  refine gives_of_runSup on (exec_resetInput mrst s) rfl ?_
  rw [← noteResetInput]
  rcases h with bottling | ⟨free, cur⟩
  · exact if_pos (by simpa using bottling)
  · have outside : s.dev.sup.cur ≠ 2 ∧ s.dev.sup.cur ≠ 3 ∧ s.dev.sup.cur ≠ 4 ∧ s.dev.sup.cur ≠ 5 := by omega
    simp [free, outside]

variable (free : s.dev.hold.bottle = none)
include free

/-- During an entry the reset waits for the entry's end. -/
theorem resetInput_entering (cur : s.dev.sup.cur = 2) :
    Gives (.resetInput mrst) s (((s.dev.noteResetInput mrst).wokenBy (if mrst then 2 else 1)).setFld Fld.SUP_PWR_STATUS_RST_PEND 1) := by
  refine gives_of_runSup on (exec_resetInput mrst s) rfl ?_
  rw [← noteResetInput]
  simp [free, cur]

/-- In Diapause and Chrysalis the exit begins. -/
theorem resetInput_wakes (cur : s.dev.sup.cur = 3 ∨ s.dev.sup.cur = 4) :
    Gives (.resetInput mrst) s ((s.dev.noteResetInput mrst).wokenBy (if mrst then 2 else 1)).beginExit := by
  have entered : s.dev.sup.cur ≠ 2 := by omega
  refine gives_of_runSup on (exec_resetInput mrst s) rfl ?_
  rw [← noteResetInput]
  simp [free, entered, cur]

/-- During an exit the first reset is latched. -/
theorem resetInput_latches (cur : s.dev.sup.cur = 5) (first : s.dev.sup.latched = none) :
    Gives (.resetInput mrst) s
      ((s.dev.noteResetInput mrst).setSup { (s.dev.noteResetInput mrst).sup with latched := some (if mrst then 2 else 1, 0) }) := by
  refine gives_of_runSup on (exec_resetInput mrst s) rfl ?_
  rw [← noteResetInput]
  simp [free, cur, first]

theorem resetInput_latchedBefore (cur : s.dev.sup.cur = 5) (before : s.dev.sup.latched.isSome) :
    Gives (.resetInput mrst) s (s.dev.noteResetInput mrst) := by
  refine gives_of_runSup on (exec_resetInput mrst s) rfl ?_
  rw [← noteResetInput]
  simp [free, cur, Option.isSome_iff_ne_none.1 before]

end ResetInput

/-! ### The PMBus (R410, R411) -/

section PmbusStuck
variable {sclLow : Bool} {e : Device}
  (he : (if sclLow then ((s.dev.bumpSat Fld.SUP_PMB_STATUS_RECOVERIES).pin "PMB_RST_N" 0).pin "PMB_RST_N" 1
    else s.dev.bumpSat Fld.SUP_PMB_STATUS_RECOVERIES) = e)
include he

theorem pmbusStuck_recovers : Gives (.pmbusStuck sclLow true) s (e.setSup { e.sup with recFails := [] }) := by
  subst he
  exact gives_of_runSup on (exec_pmbusStuck sclLow true s) rfl (if_pos rfl)

variable {g : Device} {fs : List Nat} (hfs : (e.now :: e.sup.recFails).filter (fun t => decide (e.now < t + 1000000)) = fs)
  (hg : e.setSup { e.sup with recFails := fs } = g)
include hfs hg

theorem pmbusStuck_failsAgain (few : fs.length < 3) : Gives (.pmbusStuck sclLow false) s g := by
  subst he hfs hg
  exact gives_of_runSup on (exec_pmbusStuck sclLow false s) rfl ((if_neg Bool.false_ne_true).trans (if_neg fun h => by omega))

/-- The third failure in a second makes the bus dead. -/
theorem pmbusStuck_dies (many : 3 ≤ fs.length) (alive : g.flag Fld.SUP_PMB_STATUS_DEAD = false) :
    Gives (.pmbusStuck sclLow false) s (((g.setFld Fld.SUP_PMB_STATUS_DEAD 1).noteTrigger 10 none).raise Reg.SUP_SEQ_INT_STATUS 4 5) := by
  subst he hfs hg
  exact gives_of_runSup on (exec_pmbusStuck sclLow false s) rfl
    ((if_neg Bool.false_ne_true).trans (if_pos ⟨many, by rw [alive]; rfl⟩))

end PmbusStuck

theorem pmbusRecoveryRetry_fails (dead : s.dev.flag Fld.SUP_PMB_STATUS_DEAD = true) :
    Gives (.pmbusRecoveryRetry false) s ((s.dev.advance 10000000).bumpSat Fld.SUP_PMB_STATUS_RECOVERIES) :=
  gives_of_runSup on (exec_pmbusRecoveryRetry false s) rfl ((if_pos dead).trans (if_neg Bool.false_ne_true))

theorem pmbusRecoveryRetry_recovers (dead : s.dev.flag Fld.SUP_PMB_STATUS_DEAD = true) :
    let e := (s.dev.advance 10000000).bumpSat Fld.SUP_PMB_STATUS_RECOVERIES
    Gives (.pmbusRecoveryRetry true) s ((e.setSup { e.sup with recFails := [] }).setFld Fld.SUP_PMB_STATUS_DEAD 0) :=
  gives_of_runSup on (exec_pmbusRecoveryRetry true s) rfl ((if_pos dead).trans (if_pos rfl))

theorem pmbusRecoveryRetry_ignored (alive : s.dev.flag Fld.SUP_PMB_STATUS_DEAD = false) : Gives (.pmbusRecoveryRetry true) s s.dev :=
  gives_of_runSup on (exec_pmbusRecoveryRetry true s) rfl (if_neg (Bool.eq_false_iff.1 alive))

/-- Telemetry drives three reads of its slot and changes neither registers nor memory. -/
theorem pmbusTelemetry_reads {slot : Nat} (pmb : s.dev.flag Fld.SUP_R_CFG_PMB slot = true) (used : s.dev.slotUsed slot = true)
    (alive : s.dev.flag Fld.SUP_PMB_STATUS_DEAD = false) :
    Reaches (.pmbusTelemetry slot false) s (fun e => e.regs = s.dev.regs ∧ e.mem = s.dev.mem ∧
      e.out.take 3 =
        [0x8D, 0x8C, 0x8B].map (fun c => Out.pmbus (s.dev.fld Fld.SUP_R_PMB_ADDR slot) (s.dev.fld Fld.SUP_R_PMB_PAGE slot) c 0)) :=
  ⟨_, gives_of_runSup on (exec_pmbusTelemetry slot false s) rfl
    ((if_pos (by simp [pmb, used, alive])).trans (if_neg Bool.false_ne_true)), rfl, rfl, rfl⟩

/-! ### Perch, wakes and the RTC alarm (R419, R432–R434) -/

theorem perchGate_gives {engine : Nat} (en : s.dev.flag Fld.SUP_PWR_CFG_PERCH_EN = true) (state : s.dev.sup.state = .on) (lt : engine < 16)
    (cur : s.dev.sup.cur ≤ 1) :
    Gives (.perchGate engine) s (s.dev.setSup { s.dev.sup with
      gated := insertNat engine s.dev.sup.gated, cur := if (insertNat engine s.dev.sup.gated).length = 16 then 1 else 0 }) :=
  gives_of_runSup on (exec_perchGate engine s) rfl (if_pos ⟨en, state, lt, cur⟩)

theorem lowPowerWake_gives (src : Nat) : Gives (.lowPowerWake src) s (s.dev.wake src) :=
  gives_of_runSup on (exec_lowPowerWake src s) rfl rfl

theorem wakeN_gives : Gives .wakeN s ((s.dev.advance 100).wake 2) := gives_of_runSup on (exec_wakeN s) rfl rfl

theorem trellisWake_gives {port : Nat} (lt : port < 4) : Gives (.trellisWake port) s (s.dev.wake 4) :=
  gives_of_runSup on (exec_trellisWake port s) rfl (if_pos lt)

theorem rtcWakeAlarm_gives (en : s.dev.flag Fld.SUP_RTC_SCHED_WAKE_EN = true)
    (ahead : s.dev.fld Fld.SUP_RTC_SEC_SEC ≤ s.dev.fld Fld.SUP_RTC_WAKE_SEC) :
    let e := s.dev.advance ((s.dev.fld Fld.SUP_RTC_WAKE_SEC - s.dev.fld Fld.SUP_RTC_SEC_SEC) * 1000000)
    Gives .rtcWakeAlarm s ((e.setFld Fld.SUP_RTC_SCHED_WAKE_EN 0).wake 0) :=
  gives_of_runSup on (exec_rtcWakeAlarm s) rfl (if_pos ⟨en, ahead⟩)

theorem rtcWakeAlarm_ignored (en : s.dev.flag Fld.SUP_RTC_SCHED_WAKE_EN = false) : Gives .rtcWakeAlarm s s.dev :=
  gives_of_runSup on (exec_rtcWakeAlarm s) rfl (if_neg fun h => by simp [en] at h)

/-! ### Watchdogs and restarted cores (R436, R437, R507) -/

/-- The first expiry of the watchdog of MC0–MC7 halts the core. -/
theorem watchdogExpire_first {core : Nat} {e : Device} (lt : core < 8) (hub : s.dev.hubOn = true) (free : s.dev.hold.bottle = none)
    (he : (((s.dev.setFld Fld.SUP_WDT_STATUS_EXPIRED (Nat.lor (s.dev.fld Fld.SUP_WDT_STATUS_EXPIRED) (2 ^ core))).raise
      Reg.SUP_PWR_INT_STATUS 3 4).noteWatchdog).testStop = e)
    (first : e.sup.wdtAt.find? core = none) :
    Gives (.watchdogExpire core) s ((e.bumpSat Fld.SUP_WDT_STATUS_STAGE1).setSup
      { e.sup with wdtAt := e.sup.wdtAt.put core e.now, coresDown := insertNat core e.sup.coresDown }) := by
  have runs : ¬(8 < core ∨ (core < 8 ∧ (!s.dev.hubOn ∨ (s.dev.hold.bottle.isSome ∧ 3 ≤ s.dev.hold.phase)))) := by
    rintro (h | h)
    · omega
    · exact not_halted hub (.inl free) h.2
  have notSc : (core == 8) = false := beq_false_of_ne (by omega)
  refine gives_of_runSup on (exec_watchdogExpire core s) rfl ((if_neg runs).trans ?_)
  simp only [he, first, notSc, Device.when, Bool.false_and, Bool.false_eq_true, if_false]

theorem mcStateRebuilt_halted {core : Nat} (lt : core < 8)
    (halted : s.dev.hubOn = false ∨ (s.dev.hold.bottle.isSome ∧ 3 ≤ s.dev.hold.phase)) : Gives (.mcStateRebuilt core) s s.dev :=
  gives_of_runSup on (exec_mcStateRebuilt core s) rfl (if_pos ⟨lt, halted.imp_left fun h => by rw [h]; rfl⟩)

section Rebuilt
variable {core : Nat} {e : Device}
  (he : s.dev.setSup { s.dev.sup with coresDown := s.dev.sup.coresDown.filter (fun c => decide (c ≠ core)) } = e)
include he

/-- A core that may run is up again: SC and MC2 act on what came for them meanwhile. -/
theorem mcStateRebuilt_resumes (runs : ¬(core < 8 ∧ (!s.dev.hubOn ∨ (s.dev.hold.bottle.isSome ∧ 3 ≤ s.dev.hold.phase)))) :
    Gives (.mcStateRebuilt core) s (if core = 8 then e.scResume else if core = 2 then e.mc2Resume else e).settle := by
  subst he
  exact gives_of_runSup on (exec_mcStateRebuilt core s) rfl (if_neg runs)

theorem mcStateRebuilt_sc (sc : core = 8) : Gives (.mcStateRebuilt core) s e.scResume.settle := by
  have h := mcStateRebuilt_resumes on he fun h => Nat.ne_of_lt h.1 sc
  rwa [if_pos sc] at h

theorem mcStateRebuilt_above (above : 8 < core) : Gives (.mcStateRebuilt core) s e.settle := by
  have h := mcStateRebuilt_resumes on he fun h => Nat.lt_asymm h.1 above
  rwa [if_neg (Nat.ne_of_gt above), if_neg (show core ≠ 2 by omega)] at h

variable (hub : s.dev.hubOn = true) (early : s.dev.hold.bottle = none ∨ s.dev.hold.phase < 3)
include hub early

theorem mcStateRebuilt_mc2 (mc2 : core = 2) : Gives (.mcStateRebuilt core) s e.mc2Resume.settle := by
  have h := mcStateRebuilt_resumes on he fun h => not_halted hub early h.2
  rwa [if_neg (show core ≠ 8 by omega), if_pos mc2] at h

theorem mcStateRebuilt_mc (lt : core < 8) (other : core ≠ 2) : Gives (.mcStateRebuilt core) s e.settle := by
  have h := mcStateRebuilt_resumes on he fun h => not_halted hub early h.2
  rwa [if_neg (Nat.ne_of_lt lt), if_neg other] at h

end Rebuilt

/-! ### PF_SHARE (R499) -/

theorem pfShareLow_triggers (init : s.dev.sup.state ≠ .init) (holdoff : s.dev.sup.state ≠ .holdoff) :
    Gives .pfShareLow s (s.dev.setSup { s.dev.sup with pfLow := true, pfLowAt := s.dev.now }).bottleTrigger :=
  gives_of_runSup on (exec_pfShareLow s) rfl (if_neg fun h => h.elim init holdoff)

theorem pfShareLow_noted (state : s.dev.sup.state = .init ∨ s.dev.sup.state = .holdoff) :
    Gives .pfShareLow s (s.dev.setSup { s.dev.sup with pfLow := true, pfLowAt := s.dev.now }) :=
  gives_of_runSup on (exec_pfShareLow s) rfl (if_pos state)

theorem pfShareHigh_resumes (waits : s.dev.hold.waitIn = true) (released : s.dev.hold.pfDrive = false) :
    Gives .pfShareHigh s (s.dev.setSup { s.dev.sup with pfLow := false }).goResume :=
  gives_of_runSup on (exec_pfShareHigh s) rfl (if_pos (by simp [waits, released]))

theorem pfShareHigh_mayPowerUp (waits : s.dev.hold.waitIn = false) :
    Gives .pfShareHigh s (s.dev.setSup { s.dev.sup with pfLow := false }).supplyNormal :=
  gives_of_runSup on (exec_pfShareHigh s) rfl (if_neg (by simp [waits]))

theorem pfShareReleaseTimeout_gives (waits : s.dev.hold.waitIn = true) (released : s.dev.hold.pfDrive = false)
    (low : s.dev.sup.pfLow = true) : Gives .pfShareReleaseTimeout s (s.dev.waitUntil (s.dev.sup.pfLowAt + 500000)).stepTenNow :=
  gives_of_runSup on (exec_pfShareReleaseTimeout s) rfl (if_pos (by simp [waits, released, low]))

theorem pfShareReleaseTimeout_ignored (high : s.dev.sup.pfLow = false) : Gives .pfShareReleaseTimeout s s.dev :=
  gives_of_runSup on (exec_pfShareReleaseTimeout s) rfl (if_neg (by simp [high]))

end Supervisor

/-- Settles O55, command by command, from what each answers in each of its cases. -/
theorem supervisorCommands : Obligations.SupervisorCommands := by
  intro s on
  refine ⟨refclk156Loss_gives on, ?vbat, ?capsule, capsuleComplete_ignored on, ?shortPress, ?longPress, ?resetInput, ?pmbusStuck, ?retry,
    pmbusRecoveryRetry_ignored on, ?telemetry, ?perch, lowPowerWake_gives on, wakeN_gives on, ?trellisWake, ?rtc, rtcWakeAlarm_ignored on,
    ?watchdog, ?rebuilt, ?pfLow, ?pfHighResumes, pfShareHigh_mayPowerUp on, ?pfTimeout, pfShareReleaseTimeout_ignored on⟩
  case vbat => exact fun mv => ⟨vbatLow_low on, vbatLow_outside on⟩
  case capsule => exact fun _ cap running kept => capsuleComplete_gives on cap running kept
  case shortPress =>
    refine ⟨shortPress_entering on rfl, fun idle => ⟨?_, ?_, ?_, ?_, ?_, ?_, ?_⟩, otherPress_gives on rfl⟩
    · exact shortPress_off on rfl idle
    · exact shortPress_on on rfl idle
    · exact shortPress_onBarred on rfl idle
    · exact shortPress_lowPower on rfl idle
    · exact shortPress_lockout on rfl idle
    · exact shortPress_lockoutBottling on rfl idle
    · exact shortPress_powerDown on rfl idle
  case longPress =>
    refine ⟨?_, ?_, ?_, ?_, ?_, ?_, ?_⟩
    · exact longPress_holdoff on rfl
    · exact longPress_powerUp on rfl
    · exact longPress_lockout on rfl
    · exact longPress_bottles on rfl
    · exact longPress_diapause on rfl
    · exact longPress_diapauseChanging on rfl
    · exact longPress_chrysalis on rfl
  case resetInput =>
    intro mrst
    refine ⟨?_, ?_, ⟨?_, ?_⟩, fun free cur => ⟨?_, ?_⟩, ?_⟩
    · exact fun bottling => resetInput_requests on (.inl bottling)
    · exact fun free cur => resetInput_requests on (.inr ⟨free, .inl cur⟩)
    · exact fun free cur => wokenBy_eq _ _ ▸ resetInput_entering on free cur
    · exact fun free cur => wokenBy_eq _ _ ▸ resetInput_wakes on free cur
    · exact resetInput_latches on free cur
    · exact resetInput_latchedBefore on free cur
    · exact fun free cur => resetInput_requests on (.inr ⟨free, .inr cur⟩)
  case pmbusStuck =>
    exact fun _ => ⟨pmbusStuck_recovers on rfl, pmbusStuck_failsAgain on rfl rfl rfl, pmbusStuck_dies on rfl rfl rfl⟩
  case retry => exact fun dead => ⟨pmbusRecoveryRetry_fails on dead, pmbusRecoveryRetry_recovers on dead⟩
  case telemetry => exact fun _ pmb used alive => pmbusTelemetry_reads on pmb used alive
  case perch => exact fun _ en state lt cur => perchGate_gives on en state lt cur
  case trellisWake => exact fun _ lt => trellisWake_gives on lt
  case rtc => exact rtcWakeAlarm_gives on
  case watchdog => exact fun _ lt hub free _ first => watchdogExpire_first on lt hub free rfl first
  case rebuilt =>
    refine fun core => ⟨?_, ?_, ?_, ?_, ?_⟩
    · exact fun lt other hub early => mcStateRebuilt_mc on rfl hub early lt other
    · exact fun mc2 hub early => mcStateRebuilt_mc2 on rfl hub early mc2
    · exact mcStateRebuilt_above on rfl
    · exact mcStateRebuilt_sc on rfl
    · exact mcStateRebuilt_halted on
  case pfLow => exact ⟨pfShareLow_triggers on, pfShareLow_noted on⟩
  case pfHighResumes => exact pfShareHigh_resumes on
  case pfTimeout => exact pfShareReleaseTimeout_gives on

end Sys2Proof.Machine
end

section
/-! PROOF. Register commands of DRM, CEL, CPH, AGE, FWS and SUP (O10): an accepted write stores its word and starts the action that the
register's own law names. -/

namespace Sys2Proof.Machine

open Device

/-! ### The meaning of each command -/

theorem exec_drmTsetGo (agent : Nat) (all : Bool) (s : State) : exec (.drmTsetGo agent all) s = execDrmTsetGo agent all s := by rfl
theorem exec_celRawGo (agent seq block : Nat) (m : MediaAns) (s : State) :
    exec (.celRawGo agent seq block m) s = execCelRawGo agent seq block m s := by rfl
theorem exec_keyLoad (agent : Nat) (s : State) : exec (.keyLoad agent) s = execKeyLoad agent s := by rfl
theorem exec_keyGenerate (agent : Nat) (s : State) : exec (.keyGenerate agent) s = execKeyGenerate agent s := by rfl
theorem exec_keyErase (agent : Nat) (s : State) : exec (.keyErase agent) s = execKeyErase agent s := by rfl
theorem exec_agePlanNow (agent : Nat) (value : Word) (s : State) : exec (.agePlanNow agent value) s = execAgePlanNow agent value s := by rfl
theorem exec_fwsRead (agent ecc : Nat) (s : State) : exec (.fwsRead agent ecc) s = execFwsRead agent ecc s := by rfl
theorem exec_fwsProgram (agent : Nat) (s : State) : exec (.fwsProgram agent) s = execFwsProgram agent s := by rfl
theorem exec_fwsErase (agent : Nat) (s : State) : exec (.fwsErase agent) s = execFwsErase agent s := by rfl
theorem exec_fwsCommit (agent : Nat) (s : State) : exec (.fwsCommit agent) s = execFwsCommit agent s := by rfl
theorem exec_supHuGo (agent : Nat) (value : Word) (s : State) : exec (.supHuGo agent value) s = execSupHuGo agent value s := by rfl
theorem exec_pwrCmdOn (agent : Nat) (s : State) : exec (.pwrCmdOn agent) s = execPwrCmdOn agent s := by rfl
theorem exec_pwrCmdOff (agent key : Nat) (s : State) : exec (.pwrCmdOff agent key) s = execPwrCmdOff agent key s := by rfl
theorem exec_marginWrite (agent steps : Nat) (s : State) : exec (.marginWrite agent steps) s = execMarginWrite agent steps s := by rfl
theorem exec_marginUnlockWrite (agent key : Nat) (s : State) :
    exec (.marginUnlockWrite agent key) s = execMarginUnlockWrite agent key s := by rfl
theorem exec_capClearWrite (agent key : Nat) (s : State) : exec (.capClearWrite agent key) s = execCapClearWrite agent key s := by rfl
theorem exec_pwrTargetMode (agent mode : Nat) (s : State) : exec (.pwrTargetMode agent mode) s = execPwrTargetMode agent mode s := by rfl
theorem exec_pwrTargetWake (agent : Nat) (s : State) : exec (.pwrTargetWake agent) s = execPwrTargetWake agent s := by rfl

/-! ### Accepted writes -/

/-- A command that writes a register answers, when the write is accepted, what the write starts on the stored word, the alert noted. -/
theorem gives_of_accepted_write {i : Instr} {s : State} {agent off inst : Nat} {v : Word} {m : MediaAns} {e : Device}
    (hi : exec i s = s.run (fun d => d.writeCmd agent off 4 v m)) (acc : s.dev.accepts agent off inst v = true)
    (he : (s.dev.stored off inst v).writeEffect agent off inst (s.dev.reg off inst) v m = e) :
    Gives i s (e.noteAlert s.dev.alertOn) := by
  unfold Gives
  rw [hi, State.run, writeCmd_accepts acc, he]

/-- Setting a bit that stands changes nothing. -/
theorem or_twoPow_of_bitAt {w : Word} {n : Nat} (h : bitAt w n = true) : w ||| BitVec.twoPow 32 n = w := by
  have bit : w.getLsbD n = true := by
    rw [BitVec.getLsbD, Nat.testBit_eq_decide_div_mod_eq, decide_eq_true_eq]
    exact beq_iff_eq.1 h
  ext i hi
  rw [BitVec.getElem_or, BitVec.getElem_twoPow]
  by_cases hn : i = n
  · subst hn
    simp [← BitVec.getLsbD_eq_getElem, bit]
  · simp [hn]

namespace Device

/-- Storing a word halts and starts no core. -/
theorem stored_coreUp (d : Device) (off inst : Nat) (v : Word) (core : Nat) : (d.stored off inst v).coreUp core = d.coreUp core := by
  rw [coreUp, coreUp, stored_sup]

/-- SC being stopped, a write of SUP_PWR_CMD waits for it (R540). -/
theorem writeEffect_pwrCmd_waits {d : Device} (agent inst : Nat) (was v : Word) (m : MediaAns) (stopped : d.coreUp 8 = false) :
    d.writeEffect agent Reg.SUP_PWR_CMD inst was v m =
      d.setSup { d.sup with scWait := d.sup.scWait ++ [(agent, Reg.SUP_PWR_CMD, inst, v, m.ecc)] } := by
  simp [writeEffect, supStart, stopped, scActs, Reg.SUP_PWR_CMD, Reg.FWS_CMD, Reg.SUP_R_MARGIN, Reg.SUP_PWR_TARGET]

end Device

theorem rawCmd_go (sq block : Nat) : bitAt (BitVec.ofNat 32 (2147483648 + sq % 64 * 1048576 + block % 1048576)) 31 = true := by
  simp only [bitAt, BitVec.toNat_ofNat, beq_iff_eq]
  omega

theorem tsetCmd_goBit (all : Bool) : bitAt (BitVec.ofNat 32 (2147483648 + b2n all * 1073741824)) 31 = true := by
  cases all <;> decide

section MediaCommands
variable {s : State} {agent inst : Nat}

/-! ### DRM, CEL, CPH, AGE (R328, R348, R371, R473) -/

theorem drmTsetGo_gives {all : Bool}
    (acc : s.dev.accepts agent Reg.DRM_TSET_CMD inst (BitVec.ofNat 32 (2147483648 + b2n all * 1073741824)) = true)
    (normal : s.dev.hold.supply = .normal) (free : s.dev.hold.bottle = none) (still : s.dev.drm.walk = none) :
    let d := s.dev.stored Reg.DRM_TSET_CMD inst (BitVec.ofNat 32 (2147483648 + b2n all * 1073741824))
    let c := d.fld Fld.DRM_CHSEL_CH agent
    Gives (.drmTsetGo agent all) s
      ((d.tsetGo (if all then d.liveChans else if d.chLive c then [c] else [])).noteAlert s.dev.alertOn) :=
  gives_of_accepted_write (exec_drmTsetGo agent all s) acc
    ((writeEffect_tsetCmd _ _ _ _ _ _ (tsetCmd_goBit all)).trans
      (tsetCmd_go _ _ _ (by rw [stored_hold, normal]) (by rw [stored_hold, free]) (by rw [stored_drm, still])))

theorem celRawGo_gives {sq block : Nat} {m : MediaAns}
    (acc : s.dev.accepts agent Reg.CEL_L_RAW_CMD inst (BitVec.ofNat 32 (2147483648 + sq % 64 * 1048576 + block % 1048576)) = true) :
    Gives (.celRawGo agent sq block m) s
      (((s.dev.stored Reg.CEL_L_RAW_CMD inst (BitVec.ofNat 32 (2147483648 + sq % 64 * 1048576 + block % 1048576))).rawGo agent
        { status := m.status, ready := m.ready, ldpc := m.ldpc, din := m.din }).noteAlert s.dev.alertOn) :=
  gives_of_accepted_write (exec_celRawGo agent sq block m s) acc (writeEffect_rawCmd _ _ _ _ _ _ (rawCmd_go sq block))

theorem keyLoad_gives (acc : s.dev.accepts agent Reg.CPH_K_CMD inst 0x80000000 = true) :
    Gives (.keyLoad agent) s (((s.dev.stored Reg.CPH_K_CMD inst 0x80000000).keyCmd agent 0).noteAlert s.dev.alertOn) :=
  gives_of_accepted_write (exec_keyLoad agent s) acc (writeEffect_keyCmd _ _ _ _ _ 0x80000000 (by decide))

theorem keyGenerate_gives (acc : s.dev.accepts agent Reg.CPH_K_CMD inst 0x80000001 = true) :
    Gives (.keyGenerate agent) s (((s.dev.stored Reg.CPH_K_CMD inst 0x80000001).keyCmd agent 1).noteAlert s.dev.alertOn) :=
  gives_of_accepted_write (exec_keyGenerate agent s) acc (writeEffect_keyCmd _ _ _ _ _ 0x80000001 (by decide))

theorem keyErase_gives (acc : s.dev.accepts agent Reg.CPH_K_CMD inst 0x80000002 = true) :
    Gives (.keyErase agent) s (((s.dev.stored Reg.CPH_K_CMD inst 0x80000002).keyCmd agent 2).noteAlert s.dev.alertOn) :=
  gives_of_accepted_write (exec_keyErase agent s) acc (writeEffect_keyCmd _ _ _ _ _ 0x80000002 (by decide))

theorem agePlanNow_gives {value : Word} (go : bitAt value 30 = true) (acc : s.dev.accepts agent Reg.AGE_CTRL inst value = true) :
    Gives (.agePlanNow agent value) s (((s.dev.stored Reg.AGE_CTRL inst value).replan).noteAlert s.dev.alertOn) := by
  have word : value ||| 0x40000000#32 = value := or_twoPow_of_bitAt go
  have hi := exec_agePlanNow agent value s
  rw [execAgePlanNow, word] at hi
  exact gives_of_accepted_write hi acc (writeEffect_agePlan _ _ _ _ _ _ go)

/-! ### FWS (R448, R449, R455) -/

section Fws
variable (sc : s.dev.coreUp 8 = true)
include sc

theorem fwsRead_gives {ecc : Nat} (acc : s.dev.accepts agent Reg.FWS_CMD inst 0x80000000 = true) :
    Gives (.fwsRead agent ecc) s (((s.dev.stored Reg.FWS_CMD inst 0x80000000).fwsGo agent 0 ecc).noteAlert s.dev.alertOn) :=
  gives_of_accepted_write (exec_fwsRead agent ecc s) acc
    (writeEffect_fwsCmd _ _ _ _ _ 0x80000000 (by decide) (by rw [stored_coreUp, sc]))

theorem fwsProgram_gives (acc : s.dev.accepts agent Reg.FWS_CMD inst 0x80000001 = true) :
    Gives (.fwsProgram agent) s (((s.dev.stored Reg.FWS_CMD inst 0x80000001).fwsGo agent 1 0).noteAlert s.dev.alertOn) :=
  gives_of_accepted_write (exec_fwsProgram agent s) acc
    (writeEffect_fwsCmd _ _ _ _ _ 0x80000001 (by decide) (by rw [stored_coreUp, sc]))

theorem fwsErase_gives (acc : s.dev.accepts agent Reg.FWS_CMD inst 0x80000002 = true) :
    Gives (.fwsErase agent) s (((s.dev.stored Reg.FWS_CMD inst 0x80000002).fwsGo agent 2 0).noteAlert s.dev.alertOn) :=
  gives_of_accepted_write (exec_fwsErase agent s) acc
    (writeEffect_fwsCmd _ _ _ _ _ 0x80000002 (by decide) (by rw [stored_coreUp, sc]))

theorem fwsCommit_gives (acc : s.dev.accepts agent Reg.FWS_CMD inst 0x80000003 = true) :
    Gives (.fwsCommit agent) s (((s.dev.stored Reg.FWS_CMD inst 0x80000003).fwsGo agent 3 0).noteAlert s.dev.alertOn) :=
  gives_of_accepted_write (exec_fwsCommit agent s) acc
    (writeEffect_fwsCmd _ _ _ _ _ 0x80000003 (by decide) (by rw [stored_coreUp, sc]))

end Fws
end MediaCommands

section SupplyCommands
variable {s : State} {agent inst : Nat}

/-! ### SUP (R106, R393, R405, R408, R409, R412, R421, R432, R540) -/

theorem pwrCmdOff_waits {key : Nat} (stopped : s.dev.coreUp 8 = false)
    (acc : s.dev.accepts agent Reg.SUP_PWR_CMD inst (BitVec.ofNat 32 (key % 65536 * 65536 + 2)) = true) :
    Gives (.pwrCmdOff agent key) s
      (((s.dev.stored Reg.SUP_PWR_CMD inst (BitVec.ofNat 32 (key % 65536 * 65536 + 2))).setSup
        { s.dev.sup with scWait := s.dev.sup.scWait ++ [(agent, Reg.SUP_PWR_CMD, inst, BitVec.ofNat 32 (key % 65536 * 65536 + 2), 0)] }).noteAlert
          s.dev.alertOn) :=
  gives_of_accepted_write (exec_pwrCmdOff agent key s) acc
    ((writeEffect_pwrCmd_waits _ _ _ _ _ (by rw [stored_coreUp, stopped])).trans (by rw [stored_sup]; rfl))

theorem marginUnlockWrite_gives (acc : s.dev.accepts agent Reg.SUP_MARGIN_UNLOCK inst 0x3A5C0000 = true)
    (unlocked : (s.dev.stored Reg.SUP_MARGIN_UNLOCK inst 0x3A5C0000).flag Fld.SUP_SEQ_CTRL_LOCK = false) :
    Gives (.marginUnlockWrite agent 0x3A5C) s
      (((s.dev.stored Reg.SUP_MARGIN_UNLOCK inst 0x3A5C0000).setFld Fld.SUP_MARGIN_UNLOCK_UNLOCKED 1).noteAlert s.dev.alertOn) :=
  gives_of_accepted_write (exec_marginUnlockWrite agent 0x3A5C s) acc (writeEffect_marginUnlock _ _ _ _ _ unlocked)

section ScRuns
variable (sc : s.dev.coreUp 8 = true)
include sc

theorem supHuGo_gives {value : Word} (go : bitAt value 0 = true) (acc : s.dev.accepts agent Reg.SUP_HU_CTRL inst value = true) :
    Gives (.supHuGo agent value) s (((s.dev.stored Reg.SUP_HU_CTRL inst value).startSet).noteAlert s.dev.alertOn) := by
  have word : value ||| 1#32 = value := or_twoPow_of_bitAt go
  have hi := exec_supHuGo agent value s
  rw [execSupHuGo, word] at hi
  exact gives_of_accepted_write hi acc (writeEffect_huCtrl _ _ _ _ _ _ go (by rw [stored_coreUp, sc]))

/-- Only the management port switches the device on (R393). -/
theorem pwrCmdOn_gives (acc : s.dev.accepts 1024 Reg.SUP_PWR_CMD inst 1 = true) (off : s.dev.sup.state = .off) :
    Gives (.pwrCmdOn 1024) s
      ((((s.dev.stored Reg.SUP_PWR_CMD inst 1).setSup { s.dev.sup with state := .holdoff }).supplyNormal).noteAlert s.dev.alertOn) :=
  gives_of_accepted_write (exec_pwrCmdOn 1024 s) acc
    ((writeEffect_pwrCmd _ _ _ _ _ _ (by rw [stored_coreUp, sc])).trans
      ((pwrCmd_on _ (by rw [stored_sup, off])).trans (by rw [stored_sup])))

theorem pwrCmdOff_gives (acc : s.dev.accepts agent Reg.SUP_PWR_CMD inst 0xA5A50002 = true) (on : s.dev.sup.state = .on)
    (free : s.dev.hold.bottle = none) :
    Gives (.pwrCmdOff agent 0xA5A5) s (((s.dev.stored Reg.SUP_PWR_CMD inst 0xA5A50002).startFlush false).noteAlert s.dev.alertOn) :=
  gives_of_accepted_write (exec_pwrCmdOff agent 0xA5A5 s) acc
    ((writeEffect_pwrCmd _ _ _ _ _ _ (by rw [stored_coreUp, sc])).trans
      (pwrCmd_off _ _ (by rw [stored_sup, on]) (by rw [stored_hold, free])))

theorem marginWrite_gives {steps : Nat} (lt : steps < 32)
    (acc : s.dev.accepts agent Reg.SUP_R_MARGIN inst (BitVec.ofNat 32 steps) = true) :
    Gives (.marginWrite agent steps) s
      ((((s.dev.stored Reg.SUP_R_MARGIN inst (BitVec.ofNat 32 steps)).setReg Reg.SUP_R_MARGIN (s.dev.reg Reg.SUP_R_MARGIN inst) inst).marginWrite
        agent inst steps).noteAlert s.dev.alertOn) := by
  have hi := exec_marginWrite agent steps s
  rw [execMarginWrite, Nat.mod_eq_of_lt lt] at hi
  have field : bitsGet (BitVec.ofNat 32 steps) 4 0 = steps := by
    simp only [bitsGet, BitVec.toNat_ofNat]
    omega
  exact gives_of_accepted_write hi acc
    ((writeEffect_margin _ _ _ _ _ _ (by rw [stored_coreUp, sc])).trans (by rw [field]))

theorem capClearWrite_gives (acc : s.dev.accepts agent Reg.SUP_CAP_CTRL inst 0xCA950001 = true) :
    Gives (.capClearWrite agent 0xCA95) s
      (((s.dev.stored Reg.SUP_CAP_CTRL inst 0xCA950001).setSup { s.dev.sup with capsule := none }).noteAlert s.dev.alertOn) :=
  gives_of_accepted_write (exec_capClearWrite agent 0xCA95 s) acc
    ((writeEffect_capClear _ _ _ _ _ (by rw [stored_coreUp, sc])).trans (by rw [stored_sup]; rfl))

/-- Only a function asks for a low-power state (R421). -/
theorem pwrTargetMode_gives {mode : Nat} (pos : 0 < mode) (lt : mode < 4) (host : agent ≠ 1024)
    (acc : s.dev.accepts agent Reg.SUP_PWR_TARGET inst (BitVec.ofNat 32 mode) = true) :
    Gives (.pwrTargetMode agent mode) s
      ((((s.dev.stored Reg.SUP_PWR_TARGET inst (BitVec.ofNat 32 mode)).setReg Reg.SUP_PWR_TARGET (s.dev.reg Reg.SUP_PWR_TARGET inst)).pwrRequest
        mode).noteAlert s.dev.alertOn) := by
  have hi := exec_pwrTargetMode agent mode s
  rw [execPwrTargetMode, Nat.mod_eq_of_lt lt] at hi
  exact gives_of_accepted_write hi acc
    ((writeEffect_pwrTarget _ _ _ _ _ _ (by rw [stored_coreUp, sc])).trans (pwrTarget_mode _ _ _ pos lt host))

/-- Only the management port wakes the device by a write (R432). -/
theorem pwrTargetWake_gives (acc : s.dev.accepts 1024 Reg.SUP_PWR_TARGET inst 256 = true) :
    Gives (.pwrTargetWake 1024) s
      ((((s.dev.stored Reg.SUP_PWR_TARGET inst 256).setReg Reg.SUP_PWR_TARGET (s.dev.reg Reg.SUP_PWR_TARGET inst)).wake 3).noteAlert s.dev.alertOn) :=
  gives_of_accepted_write (exec_pwrTargetWake 1024 s) acc
    ((writeEffect_pwrTarget _ _ _ _ _ _ (by rw [stored_coreUp, sc])).trans (pwrTarget_wake _))

end ScRuns
end SupplyCommands

/-- Settles O10, command by command, from what an accepted write of its register starts. -/
theorem mediaAndSupplyRegisterCommands : Obligations.MediaAndSupplyRegisterCommands := by
  refine ⟨fun agent inst s => ?media, fun _ _ _ _ stopped acc => pwrCmdOff_waits stopped acc, fun agent inst s sc => ?supply⟩
  case media =>
    refine ⟨?_, ?_, keyLoad_gives, keyGenerate_gives, keyErase_gives, ?_, ?_, ?_, ?_, ?_⟩
    · exact fun _ acc normal free still => drmTsetGo_gives acc normal free still
    · exact fun _ _ _ acc => celRawGo_gives acc
    · exact fun _ go acc => agePlanNow_gives go acc
    · exact fun _ sc acc => fwsRead_gives sc acc
    · exact fun sc acc => fwsProgram_gives sc acc
    · exact fun sc acc => fwsErase_gives sc acc
    · exact fun sc acc => fwsCommit_gives sc acc
  case supply =>
    refine ⟨?_, ?_, pwrCmdOff_gives sc, ?_, marginUnlockWrite_gives, capClearWrite_gives sc, ?_, pwrTargetWake_gives sc⟩
    · exact fun _ go acc => supHuGo_gives sc go acc
    · exact fun port => port ▸ pwrCmdOn_gives sc
    · exact fun _ lt acc => marginWrite_gives sc lt acc
    · exact fun _ pos lt host acc => pwrTargetMode_gives sc pos lt host acc

end Sys2Proof.Machine
end

section
/-! PROOF. Admission events (O27): what a re-evaluation of the admission state changes, what a microsecond of admission does to the credit, and
the three commands case by case. -/

namespace Sys2Proof.Machine
namespace Device

/-! ### Fills and fetches leave admission alone (R89, R92, R324) -/

section FillKeeps
variable {β : Type} (p : Device → β) (reg : ∀ d off v inst, p (setReg d off v inst) = p d)
  (csk : ∀ (d : Device) c, p { d with csk := c } = p d)
include reg csk

/-- The issue of a cellar read changes registers and racks alone. -/
theorem issueFetch_keeps (d : Device) (cask idx : Nat) : p (d.issueFetch cask idx) = p d := by
  have issued : ∀ c e, p ((setRack { d with csk := c } cask idx e).bumpPair Reg.CSK_FETCH_CNT_LO) = p d := by
    intro c e
    rw [bumpPair, setPair, reg, reg, setRack, csk, csk]
  simp only [issueFetch, apply_ite p, issued, csk, ite_self]

theorem fillCask_keeps (d : Device) (cask : Nat) : p (d.fillCask cask) = p d := by
  refine foldl_keeps p _ (fun e k => ?_) _ d
  simp only [apply_ite p, issueFetch_keeps p reg csk, ite_self]

theorem refillPinned_keeps (d : Device) : p d.refillPinned = p d := by
  unfold refillPinned
  exact foldl_keeps p _ (fun e (c : Nat × CaskEntry) => fillCask_keeps p reg csk e c.1) _ d

end FillKeeps

/-! ### The re-evaluation of the admission state (R114, R115, R131) -/

/-- The first part of a re-evaluation: R_ADMIT, the fill that a recovery ends with, and the frame guard. -/
def regauge (d : Device) : Device :=
  let d' : Device := { d with adm := { d.adm with rate := d.admitNow.2 } }
  let d' : Device := if d'.drm.short && !d'.guardOn then refillPinned { d' with drm := { d'.drm with short := false, freed := 0 } } else d'
  let d' : Device := if d'.guardOn && !d'.adm.guard then d'.raise Reg.CSK_INT_STATUS 3 3 else d'
  { d' with adm := { d'.adm with guard := d'.guardOn } }

/-- The bit that the entry to an admission state sets. -/
def raiseAdmit (d : Device) : Admit → Device
  | .throttled => d.raise Reg.PST_BDG_INT_STATUS 0 2
  | .stopped => d.raise Reg.PST_BDG_INT_STATUS 1 3
  | .opened => d

theorem reevalAdmit_eq (d : Device) :
    d.reevalAdmit = if d.admitNow.1 = d.regauge.adm.state then d.regauge
      else raiseAdmit { d.regauge with adm := { d.regauge.adm with state := d.admitNow.1, credit := 0 } } d.admitNow.1 := by
  unfold reevalAdmit raiseAdmit regauge
  rfl

theorem raiseAdmit_keeps {β : Type} (p : Device → β) (hraise : ∀ d r n sev, p (raise d r n sev) = p d) (d : Device) (st : Admit) :
    p (d.raiseAdmit st) = p d := by
  cases st with
  | opened => rfl
  | throttled => exact hraise ..
  | stopped => exact hraise ..

theorem regauge_adm (d : Device) : ∃ g, d.regauge.adm = { d.adm with rate := d.admitNow.2, guard := g } := by
  unfold regauge
  simp only [ite_adm, raise_adm, refillPinned_keeps Device.adm (fun _ _ _ _ => rfl) (fun _ _ => rfl), ite_self]
  exact ⟨_, rfl⟩

/-- What a re-evaluation changes of admission: the rate, the guard and the state, and the credit with a change of the state. -/
theorem reevalAdmit_adm (d : Device) :
    ∃ g, d.reevalAdmit.adm = { d.adm with
      rate := d.admitNow.2, guard := g, state := d.admitNow.1, credit := if d.admitNow.1 = d.adm.state then d.adm.credit else 0 } := by
  obtain ⟨g, hg⟩ := regauge_adm d
  refine ⟨g, ?_⟩
  rw [reevalAdmit_eq, hg]
  by_cases same : d.admitNow.1 = d.adm.state
  · rw [if_pos same, if_pos same, hg, same]
  · rw [if_neg same, if_neg same, raiseAdmit_keeps Device.adm raise_adm]

@[simp] theorem reevalAdmit_state (d : Device) : d.reevalAdmit.adm.state = d.admitNow.1 := by
  obtain ⟨g, hg⟩ := reevalAdmit_adm d
  rw [hg]

@[simp] theorem reevalAdmit_rate (d : Device) : d.reevalAdmit.adm.rate = d.admitNow.2 := by
  obtain ⟨g, hg⟩ := reevalAdmit_adm d
  rw [hg]

@[simp] theorem reevalAdmit_held (d : Device) : d.reevalAdmit.adm.held = d.adm.held := by
  obtain ⟨g, hg⟩ := reevalAdmit_adm d
  rw [hg]

theorem reevalAdmit_credit (d : Device) : d.reevalAdmit.adm.credit = if d.admitNow.1 = d.adm.state then d.adm.credit else 0 := by
  obtain ⟨g, hg⟩ := reevalAdmit_adm d
  rw [hg]

/-- A re-evaluation keeps what neither admission nor an interrupt touches; the fill that may end a recovery from a retirement runs only while
frames are short. -/
theorem reevalAdmit_keeps {β : Type} (p : Device → β) {d : Device} (hraise : ∀ d r n sev, p (raise d r n sev) = p d)
    (upd : ∀ (d : Device) a x, p { d with adm := a, drm := x } = p d)
    (fill : d.drm.short = true → ∀ d : Device, p d.refillPinned = p d) : p d.reevalAdmit = p d := by
  have gauge : p d.regauge = p d := by
    unfold regauge
    by_cases short : d.drm.short = true
    · simp only [upd, apply_ite p, hraise, fill short, ite_self]
    · simp [upd, apply_ite p, hraise, short]
  rw [reevalAdmit_eq]
  split
  · exact gauge
  · rw [raiseAdmit_keeps p hraise, upd, gauge]

@[simp] theorem reevalAdmit_now (d : Device) : d.reevalAdmit.now = d.now :=
  reevalAdmit_keeps Device.now raise_now (fun _ _ _ => rfl) fun _ =>
    refillPinned_keeps Device.now (fun _ _ _ _ => rfl) fun _ _ => rfl

@[simp] theorem reevalAdmit_mem (d : Device) : d.reevalAdmit.mem = d.mem :=
  reevalAdmit_keeps Device.mem raise_mem (fun _ _ _ => rfl) fun _ =>
    refillPinned_keeps Device.mem (fun _ _ _ _ => rfl) fun _ _ => rfl

@[simp] theorem reevalAdmit_pst (d : Device) : d.reevalAdmit.pst = d.pst :=
  reevalAdmit_keeps Device.pst raise_pst (fun _ _ _ => rfl) fun _ =>
    refillPinned_keeps Device.pst (fun _ _ _ _ => rfl) fun _ _ => rfl

@[simp] theorem reevalAdmit_hold (d : Device) : d.reevalAdmit.hold = d.hold :=
  reevalAdmit_keeps Device.hold raise_hold (fun _ _ _ => rfl) fun _ =>
    refillPinned_keeps Device.hold (fun _ _ _ _ => rfl) fun _ _ => rfl

theorem reevalAdmit_csk {d : Device} (enough : d.drm.short = false) : d.reevalAdmit.csk = d.csk :=
  reevalAdmit_keeps Device.csk raise_csk (fun _ _ _ => rfl) fun short =>
    absurd (enough.symm.trans short) Bool.false_ne_true

/-! ### A microsecond of admission (R115) -/

@[simp] theorem advance_now (d : Device) (n : Nat) : (d.advance n).now = d.now + n := by
  unfold advance
  simp only [ite_now, rtcRun_now, bumpSat_now, admitRun_now, ite_self]

@[simp] theorem advance_admState (d : Device) (n : Nat) : (d.advance n).adm.state = d.adm.state := by
  obtain ⟨c, hc⟩ := advance_adm d n
  rw [hc]

@[simp] theorem advance_admHeld (d : Device) (n : Nat) : (d.advance n).adm.held = d.adm.held := by
  obtain ⟨c, hc⟩ := advance_adm d n
  rw [hc]

/-- R_ADMIT turns at no moment of a single microsecond. -/
theorem rateTurns_microsecond (d : Device) : d.rateTurns (d.now + 1) = [] := by
  have none : ∀ l : List Nat, l.filter (fun t => decide (d.now + 1 < t ∧ t < d.now + 1)) = [] := fun l =>
    List.filter_eq_nil_iff.2 fun t _ => by simp only [decide_eq_true_eq]; omega
  simp only [rateTurns, none, List.foldl_nil]

/-- In a microsecond the credit grows by R_ADMIT as last recomputed, up to the greatest credit. -/
theorem advance_microsecond_credit {d : Device} (hub : d.hubOn = true) (throttled : d.adm.state = .throttled) :
    (d.advance 1).adm.credit = min creditCap (d.adm.credit + d.adm.rate) := by
  have grows : (d.admitRun 1).adm.credit = min creditCap (d.adm.credit + d.adm.rate) := by
    simp [admitRun, hub, throttled, rateTurns_microsecond, accrued]
  unfold advance
  simp only [ite_adm, rtcRun_adm, bumpSat_adm, ite_self]
  exact grows

end Device

open Device

/-! ### The three commands -/

theorem exec_writeAdmit (s : State) : exec .writeAdmit s = execWriteAdmit s := by rfl
theorem exec_admitWaitTimeout (s : State) : exec .admitWaitTimeout s = execAdmitWaitTimeout s := by rfl
theorem exec_admitRateTick (s : State) : exec .admitRateTick s = execAdmitRateTick s := by rfl

/-- A command answers what its function makes of the device. -/
theorem gives_of_run {i : Instr} {s : State} {o : Host.Outcome State Fault Refusal} {f : Device → Device} {d : Device}
    (hi : exec i s = o) (ho : o = s.run f) (hd : f s.dev = d) : Gives i s d := by
  unfold Gives
  rw [hi, ho, State.run, hd]

theorem writeAdmit_noHead {s : State} (none : s.dev.adm.held = []) : Gives .writeAdmit s s.dev.reevalAdmit :=
  gives_of_run (exec_writeAdmit s) rfl (by simp only [reevalAdmit_held, none])

theorem admitWaitTimeout_noHead {s : State} (none : s.dev.adm.held = []) : Gives .admitWaitTimeout s s.dev :=
  gives_of_run (exec_admitWaitTimeout s) rfl (by simp only [none])

section Head
variable {s : State} {r : WriteReq} {rest : List WriteReq} (head : s.dev.adm.held = r :: rest)
include head

theorem writeAdmit_opened {d : Device} (hd : s.dev.reevalAdmit = d) (opened : s.dev.admitNow.1 = .opened) :
    Gives .writeAdmit s ((({ d with adm := { d.adm with held := rest } }.takeCharge r).toPlace r placeWaiting).settle) := by
  subst hd
  exact gives_of_run (exec_writeAdmit s) rfl (by simp only [reevalAdmit_held, head, reevalAdmit_state, if_pos opened])

section Throttled
variable (throttled : s.dev.admitNow.1 = .throttled) (still : s.dev.adm.state = .throttled)
include throttled still

theorem writeAdmit_credited {d : Device} (hd : s.dev.reevalAdmit = d) (enough : chargeOf r.off r.op ≤ s.dev.adm.credit) :
    Gives .writeAdmit s
      ((({ d with adm := { d.adm with held := rest, credit := s.dev.adm.credit - chargeOf r.off r.op } }.takeCharge r).toPlace r
        placeWaiting).settle) := by
  subst hd
  exact gives_of_run (exec_writeAdmit s) rfl (by
    simp [head, reevalAdmit_credit, throttled, still, enough])

theorem writeAdmit_waitsForCredit (short : s.dev.adm.credit < chargeOf r.off r.op) : Gives .writeAdmit s s.dev.reevalAdmit :=
  gives_of_run (exec_writeAdmit s) rfl (by
    simp [head, reevalAdmit_credit, throttled, still, Nat.not_le.2 short])

end Throttled

theorem writeAdmit_stopped (stopped : s.dev.admitNow.1 = .stopped) : Gives .writeAdmit s s.dev.reevalAdmit :=
  gives_of_run (exec_writeAdmit s) rfl (by simp [head, stopped])

section WaitMs
variable {d : Device} (hd : (s.dev.waitUntil (r.heldAt + 1000 * s.dev.fld Fld.PST_ADMIT_CTRL_WAIT_MS)).reevalAdmit = d)
include hd

/-- The state or the credit admits the head by then. -/
theorem admitWaitTimeout_admits (admits : d.adm.state = .opened ∨ (d.adm.state = .throttled ∧ chargeOf r.off r.op ≤ d.adm.credit)) :
    Gives .admitWaitTimeout s d := by
  subst hd
  exact gives_of_run (exec_admitWaitTimeout s) rfl (by simp only [head, if_pos admits])

theorem admitWaitTimeout_rejects (refuses : d.adm.state = .stopped ∨ (d.adm.state = .throttled ∧ d.adm.credit < chargeOf r.off r.op)) :
    Gives .admitWaitTimeout s ((({ d with adm := { d.adm with held := rest } }.rejectBudget r).fenceSeals).settle) := by
  subst hd
  refine gives_of_run (exec_admitWaitTimeout s) rfl ?_
  simp only [head]
  refine if_neg ?_
  rintro (opened | ⟨throttled, enough⟩)
  · simp only [opened, reduceCtorEq, false_and, or_self] at refuses
  · simp only [throttled, reduceCtorEq, true_and, false_or] at refuses
    omega

end WaitMs
end Head

theorem admitRateTick_gives (s : State) : Gives .admitRateTick s (s.dev.advance 1).reevalAdmit :=
  gives_of_run (exec_admitRateTick s) rfl rfl

theorem admitRateTick_credit {s : State} (hub : s.dev.hubOn = true) :
    Reaches .admitRateTick s (fun d =>
      d.now = s.dev.now + 1 ∧ d.adm.state = (s.dev.advance 1).admitNow.1 ∧ d.adm.rate = (s.dev.advance 1).admitNow.2 ∧
      (s.dev.adm.state = .throttled → d.adm.state = .throttled → d.adm.credit = min creditCap (s.dev.adm.credit + s.dev.adm.rate)) ∧
      (d.adm.state ≠ s.dev.adm.state → d.adm.credit = 0) ∧ d.adm.held = s.dev.adm.held ∧ d.mem = s.dev.mem ∧ d.pst = s.dev.pst) := by
  refine ⟨_, admitRateTick_gives s, by simp, reevalAdmit_state _, reevalAdmit_rate _, fun was is => ?_, fun changed => ?_,
    by simp, by simp, by simp⟩
  · rw [reevalAdmit_state] at is
    rw [reevalAdmit_credit, is, advance_admState, was, if_pos rfl, advance_microsecond_credit hub was]
  · rw [reevalAdmit_state] at changed
    rw [reevalAdmit_credit, advance_admState, if_neg changed]

/-- Settles O27, from what a re-evaluation of the admission state changes. -/
theorem admissionEvents : Obligations.AdmissionEvents := by
  refine ⟨fun s none => ⟨writeAdmit_noHead none, admitWaitTimeout_noHead none⟩, fun s r rest head => ⟨?_, ?_, ?_, ?_⟩,
    fun s r rest head => ⟨?_, ?_⟩, admitRateTick_gives, fun s hub => admitRateTick_credit hub⟩
  · exact writeAdmit_opened head rfl
  · exact fun throttled still => writeAdmit_credited head throttled still rfl
  · exact writeAdmit_waitsForCredit head
  · exact writeAdmit_stopped head
  · exact admitWaitTimeout_admits head rfl
  · exact admitWaitTimeout_rejects head rfl

end Sys2Proof.Machine
end

section
/-! PROOF. The supply monitor and the BOTTLE trigger (O32): each monitor command by the input as assessed, and the trigger by the supervisor's
state. -/

namespace Sys2Proof.Machine
namespace Device

/-! ### The BOTTLE trigger by the supervisor's state (R118, R405, R426) -/

/-- One bottling runs at a time. -/
theorem bottleTrigger_bottling {d : Device} (running : d.hold.bottle.isSome) : d.bottleTrigger = d := by
  unfold bottleTrigger
  exact if_pos running

section Free
variable {d : Device} (free : d.hold.bottle = none)
include free

theorem bottleTrigger_on (state : d.sup.state = .on) : d.bottleTrigger = d.latchBottling false .holdoff := by
  simp [bottleTrigger, free, state]

/-- In the flush the bottling ends where the flush would. -/
theorem bottleTrigger_flush (state : d.sup.state = .flush) :
    d.bottleTrigger = d.latchBottling true (if d.sup.target = 2 then .lowPower else .off) := by
  simp [bottleTrigger, free, state]

theorem bottleTrigger_diapause (state : d.sup.state = .lowPower) (diapause : d.sup.target = 1) (entered : d.sup.cur ≠ 2) :
    d.bottleTrigger = d.dropDiapause := by
  simp [bottleTrigger, free, state, diapause, entered]

/-- A Diapause entry before its null seal turns back into ON and bottles. -/
theorem bottleTrigger_enteringDiapause (state : d.sup.state = .lowPower) (diapause : d.sup.target = 1) (entering : d.sup.cur = 2)
    (unsealed : d.sup.nullSealed = false) :
    d.bottleTrigger =
      ((d.setSup { d.sup with state := .on, cur := 0, target := 0 }).setFld Fld.SUP_PWR_TARGET_MODE 0).latchBottling false .holdoff := by
  simp [bottleTrigger, free, state, diapause, entering, unsealed]

theorem bottleTrigger_powerUp (state : d.sup.state = .powerUp) :
    d.bottleTrigger = if d.sup.dpExit then d.dropDiapause else d.bottleEarly := by
  simp [bottleTrigger, free, state]

theorem bottleTrigger_powerDown (state : d.sup.state = .powerDown) : d.bottleTrigger = d := by
  simp [bottleTrigger, free, state]

theorem bottleTrigger_chrysalis (state : d.sup.state = .lowPower) (other : d.sup.target ≠ 1) : d.bottleTrigger = d := by
  simp [bottleTrigger, free, state, other]

/-- Where no rail stands the trigger latches all the same (log 45). -/
theorem bottleTrigger_noRail (state : d.sup.state = .init ∨ d.sup.state = .off ∨ d.sup.state = .holdoff ∨ d.sup.state = .lockout) :
    d.bottleTrigger = d.latchBottling false d.sup.state := by
  rcases state with h | h | h | h <;> simp [bottleTrigger, free, h]

end Free

/-! ### Step 10 (R122, R127) -/

theorem stepTenNow_asserted {d : Device} (asserted : d.hold.pfDrive = true) : d.stepTenNow = d.stepTen := by
  rw [stepTenNow, if_pos asserted]

theorem stepTenNow_released {d : Device} (released : d.hold.pfDrive = false) :
    d.stepTenNow = ((d.setHold { d.hold with pfDrive := true }).pin "PF_SHARE" 0).stepTen := by
  rw [stepTenNow, if_neg (Bool.eq_false_iff.1 released)]

end Device

open Device

/-! ### The commands of the monitor (R117, R118) -/

theorem exec_inputBad (hvin hu : Nat) (pfi : Bool) (s : State) : exec (.inputBad hvin hu pfi) s = execInputBad hvin hu pfi s := by rfl
theorem exec_inputGood (hvin hu : Nat) (pfi : Bool) (s : State) : exec (.inputGood hvin hu pfi) s = execInputGood hvin hu pfi s := by rfl
theorem exec_bottleTrigger (hvin hu : Nat) (pfi : Bool) (s : State) :
    exec (.bottleTrigger hvin hu pfi) s = execBottleTrigger hvin hu pfi s := by rfl
theorem exec_guardDwellExpire (s : State) : exec .guardDwellExpire s = execGuardDwellExpire s := by rfl

/-- A command with an HVIN reading within the absolute maximum answers what its function makes of the device, while SUP runs (R524). -/
theorem gives_of_runHvin {i : Instr} {s : State} {hvin : Nat} {o : Host.Outcome State Fault Refusal} {f : Device → Device} {d : Device}
    (within : hvin ≤ 8000) (on : s.dev.sup.supOn = true) (hi : exec i s = o) (ho : o = s.runHvin hvin f) (hd : f s.dev = d) : Gives i s d := by
  unfold Gives
  rw [hi, ho, State.runHvin, if_neg (show ¬hvinMax < hvin from Nat.not_lt.2 within), State.run, if_pos on, hd]

section Monitor
variable {s : State} {hvin hu : Nat} {pfi : Bool} (within : hvin ≤ 8000) (on : s.dev.sup.supOn = true)
  {d : Device} (hd : s.dev.takeInput hvin hu pfi = d)
include within on hd

theorem inputBad_stillGood (fine : d.hold.inputBad = false) : Gives (.inputBad hvin hu pfi) s d :=
  gives_of_runHvin within on (exec_inputBad hvin hu pfi s) rfl (by simp only [hd, fine, Bool.not_false, if_true])

section Bad
variable (bad : d.hold.inputBad = true)
include bad

theorem inputBad_enters (working : d.hold.waitIn = false) (state : d.hold.supply = .normal ∨ d.hold.supply = .dwell) :
    Gives (.inputBad hvin hu pfi) s d.inputLost :=
  gives_of_runHvin within on (exec_inputBad hvin hu pfi s) rfl (by simp [hd, bad, working, state])

/-- While SC waits at step 9 of a bottling, a bad input begins step 10. -/
theorem inputBad_waiting (waits : d.hold.waitIn = true) : Gives (.inputBad hvin hu pfi) s d.stepTenNow :=
  gives_of_runHvin within on (exec_inputBad hvin hu pfi s) rfl (by simp [hd, bad, waits])

end Bad

theorem inputGood_dwells (good : d.hold.inputGood = true) (warn : d.hold.supply = .warn) :
    Gives (.inputGood hvin hu pfi) s (d.setHold { d.hold with supply := .dwell, dwellAt := d.now }) :=
  gives_of_runHvin within on (exec_inputGood hvin hu pfi s) rfl (by simp only [hd]; exact if_pos ⟨good, warn⟩)

theorem inputGood_noted (h : d.hold.inputGood = false ∨ d.hold.supply ≠ .warn) : Gives (.inputGood hvin hu pfi) s d := by
  refine gives_of_runHvin within on (exec_inputGood hvin hu pfi s) rfl ?_
  simp only [hd]
  refine if_neg fun ⟨good, warn⟩ => ?_
  rcases h with h | h
  · exact Bool.false_ne_true (h.symm.trans good)
  · exact h warn

theorem bottleTrigger_triggers
    (h : hvin < d.fld Fld.SUP_HV_BOTTLE_LEVEL ∨ (pfi = true ∧ d.fld Fld.PST_ADMIT_CTRL_PFI_MODE = 2)) :
    Gives (.bottleTrigger hvin hu pfi) s d.bottleTrigger :=
  gives_of_runHvin within on (exec_bottleTrigger hvin hu pfi s) rfl (by simp only [hd]; exact if_pos h)

theorem bottleTrigger_noted (above : d.fld Fld.SUP_HV_BOTTLE_LEVEL ≤ hvin)
    (h : pfi = false ∨ d.fld Fld.PST_ADMIT_CTRL_PFI_MODE ≠ 2) : Gives (.bottleTrigger hvin hu pfi) s d := by
  refine gives_of_runHvin within on (exec_bottleTrigger hvin hu pfi s) rfl ?_
  simp only [hd]
  refine if_neg ?_
  rintro (below | ⟨asserted, mode⟩)
  · exact Nat.not_lt.2 above below
  · rcases h with h | h
    · exact Bool.false_ne_true (h.symm.trans asserted)
    · exact h mode

end Monitor

theorem guardDwellExpire_ends {s : State} (on : s.dev.sup.supOn = true) (dwell : s.dev.hold.supply = .dwell) {e : Device}
    (he : s.dev.waitUntil (s.dev.hold.dwellAt + 20000) = e) :
    Gives .guardDwellExpire s (((e.setHold { e.hold with supply := .normal }).reevalAdmit).supplyNormal).settle := by
  subst he
  exact gives_of_run (exec_guardDwellExpire s) rfl (if_pos ⟨on, dwell⟩)

theorem guardDwellExpire_ignored {s : State} (other : s.dev.hold.supply ≠ .dwell) : Gives .guardDwellExpire s s.dev :=
  gives_of_run (exec_guardDwellExpire s) rfl (if_neg fun h => other h.2)

/-- Settles O32: the monitor's commands case by case, then the trigger state by state. -/
theorem supplyMonitor : Obligations.SupplyMonitor := by
  refine ⟨fun hvin hu pfi s within on => ⟨?_, ?_, ?_, ?_, ?_, ?_, ?_, ?_, ?_, ?_, ?_⟩,
    fun d => ⟨bottleTrigger_bottling, bottleTrigger_on, bottleTrigger_flush, bottleTrigger_diapause, bottleTrigger_enteringDiapause,
      bottleTrigger_powerUp, bottleTrigger_powerDown, bottleTrigger_chrysalis, bottleTrigger_noRail⟩⟩
  · exact inputBad_enters within on rfl
  · exact inputBad_stillGood within on rfl
  · exact fun bad waits asserted => stepTenNow_asserted asserted ▸ inputBad_waiting within on rfl bad waits
  · exact fun bad waits released => stepTenNow_released released ▸ inputBad_waiting within on rfl bad waits
  · exact inputGood_dwells within on rfl
  · exact inputGood_noted within on rfl
  · exact fun below => bottleTrigger_triggers within on rfl (.inl below)
  · exact fun asserted mode => bottleTrigger_triggers within on rfl (.inr ⟨asserted, mode⟩)
  · exact bottleTrigger_noted within on rfl
  · exact fun dwell => guardDwellExpire_ends on dwell rfl
  · exact guardDwellExpire_ignored

end Sys2Proof.Machine
end

section
/-! PROOF. The steps of a bottling (O33): the stream, a LUN that does not answer, the seal record, the decision at step 9, the resume, and UVLO. -/

namespace Sys2Proof.Machine
namespace Device

/-! ### The seal record (R126, R133) -/

@[simp] theorem journalAdd_newestSaid (d : Device) (r : JRec) : (d.journalAdd r).newestSaid = some r := rfl

@[simp] theorem setHold_newestSaid (d : Device) (h : Hold) (same : h.journal = d.hold.journal) : (d.setHold h).newestSaid = d.newestSaid := by
  rw [newestSaid, setHold_hold, same, newestSaid]

@[simp] theorem setGen_gen (d : Device) (g : Nat) (v : VaultGen) : (d.setGen g v).gen g = v := by
  by_cases even : g = 0 <;> simp [gen, setGen, even]

/-- A change of the journal, the sequence number and the generation used last leaves the vault generations. -/
theorem gen_of_hold {d e : Device} (even : e.hold.genE = d.hold.genE) (odd : e.hold.genO = d.hold.genO) (g : Nat) : e.gen g = d.gen g := by
  rw [gen, gen, even, odd]

/-- Where a spine copy lies hangs on the cellar's blocks, not on the checkpoint or on the generation's own record. -/
theorem spineAt_checkpoint (d : Device) (g : Nat) (v : VaultGen) (h : Nat) (skipped : List Nat) (east : Bool) :
    (d.checkpoint.setGen h v).spineAt g skipped east = d.spineAt g skipped east := by
  rfl

section Seal
variable {d : Device} {b : Bottle} (bottling : d.hold.bottle = some b)
include bottling

/-- Before the open record the journal stays as it is (R140). -/
theorem writeSeal_preOpen (okA okB : Bool) (early : b.preOpen = true) : d.writeSeal okA okB = d := by
  simp only [writeSeal, bottling, if_pos early]

variable {g : Nat} (opened : b.preOpen = false) (target : b.target = some g)
include opened target

/-- The seal record of the target generation: its number, the locations of the spine copies and their CRC. -/
theorem writeSeal_eq (okA okB : Bool) :
    d.writeSeal okA okB =
      (let w := d.spineAt g b.skipped false
       let e := d.spineAt g b.skipped true
       let v := (d.checkpoint.setGen g { d.gen g with state := .sealed, copyA := okA, copyB := okB }).journalAdd
         (.sealRec g (d.hold.bseq + 1) w e (sealCrc g (d.hold.bseq + 1) w e))
       v.setHold { v.hold with bseq := d.hold.bseq + 1, lastGen := g }) := by
  simp only [writeSeal, bottling, if_neg (Bool.eq_false_iff.1 opened), target, spineAt_checkpoint]
  rfl

theorem writeSeal_newestSaid (okA okB : Bool) :
    let w := d.spineAt g b.skipped false
    let e := d.spineAt g b.skipped true
    (d.writeSeal okA okB).newestSaid = some (.sealRec g (d.hold.bseq + 1) w e (sealCrc g (d.hold.bseq + 1) w e)) := by
  simp [writeSeal_eq bottling opened target]

theorem writeSeal_bseq (okA okB : Bool) : (d.writeSeal okA okB).hold.bseq = d.hold.bseq + 1 := by
  simp [writeSeal_eq bottling opened target]

theorem writeSeal_lastGen (okA okB : Bool) : (d.writeSeal okA okB).hold.lastGen = g := by
  simp [writeSeal_eq bottling opened target]

theorem writeSeal_gen (okA okB : Bool) :
    (d.writeSeal okA okB).gen g = { d.gen g with state := .sealed, copyA := okA, copyB := okB } := by
  rw [writeSeal_eq bottling opened target]
  exact (gen_of_hold rfl rfl g).trans (setGen_gen ..)

end Seal

/-! ### The decision at step 9 (R127) -/

section Nine
variable {d : Device} {b : Bottle} (bottling : d.hold.bottle = some b)
include bottling

theorem decideNine_ends (h : b.noResume = true ∨ d.hold.inputBad = true) : d.decideNine = d.stepTen := by
  simp only [decideNine, bottling]
  exact if_pos (Bool.or_eq_true_iff.2 h)

variable (may : b.noResume = false) (notBad : d.hold.inputBad = false)
include may notBad

theorem decideNine_resumes (good : d.hold.inputGood = true) (dwelt : d.hold.goodAt + 20000 ≤ d.now) :
    d.decideNine = (d.setHold { d.hold with waitIn := true }).goResume := by
  simp [decideNine, bottling, may, notBad, good, guardDwell, dwelt]

theorem decideNine_waits (notGood : d.hold.inputGood = false) : d.decideNine = d.setHold { d.hold with waitIn := true } := by
  simp [decideNine, bottling, may, notBad, notGood]

end Nine

/-! ### The balls after the loss of SUP's supply (R521, R522) -/

/-- The unit that has lost its power: DETACHED, the balls at the levels the board holds. -/
def unpowered (d : Device) : Device := (d.startDetached.pinsTo 0).driveFenceOut.pin "PF_SHARE" 0

theorem startDetached_keeps {β : Type} (p : Device → β) (mir : ∀ (d : Device) m, p (setMir d m) = p d)
    (emit : ∀ (d : Device) o, p (emit d o) = p d) (d : Device) : p d.startDetached = p d := by
  simp only [startDetached, leaveRole, apply_ite p, pinsTo, pin, mir, emit, ite_self]

theorem unpowered_keeps {β : Type} (p : Device → β) (mir : ∀ (d : Device) m, p (setMir d m) = p d)
    (emit : ∀ (d : Device) o, p (emit d o) = p d) (d : Device) : p d.unpowered = p d := by
  simp only [unpowered, driveFenceOut, pinsTo, pin, mir, emit, startDetached_keeps p mir emit]

theorem unpowered_role (d : Device) : d.unpowered.mir.role = .detached := by
  unfold unpowered startDetached
  dsimp only
  split <;> rfl

end Device

open Device

/-! ### The commands of a bottling (R119, R122, R123, R127) -/

theorem exec_bottleStreamDone (s : State) : exec .bottleStreamDone s = execBottleStreamDone s := by rfl
theorem exec_vaultProgramTimeout (ch lun : Nat) (s : State) : exec (.vaultProgramTimeout ch lun) s = execVaultProgramTimeout ch lun s := by rfl
theorem exec_spineSealed (okA okB : Bool) (s : State) : exec (.spineSealed okA okB) s = execSpineSealed okA okB s := by rfl
theorem exec_bottleResume (s : State) : exec .bottleResume s = execBottleResume s := by rfl
theorem exec_hvinUvlo (hvin : Nat) (s : State) : exec (.hvinUvlo hvin) s = execHvinUvlo hvin s := by rfl

section Steps
variable {s : State} {b : Bottle} (bottling : s.dev.hold.bottle = some b)
include bottling

/-- The dirty pages and the spine are written. -/
theorem bottleStreamDone_gives (streaming : b.streamDone = false) (phase : s.dev.hold.phase = 3) :
    Gives .bottleStreamDone s
      (let d := s.dev.needVaultKey.streamOut
       (d.setHold { d.hold with bottle := d.hold.bottle.map (fun b => { b with streamDone := true }) }).journalPhase 4) :=
  gives_of_run (exec_bottleStreamDone s) rfl (by simp [bottling, streaming, phase])

/-- A LUN that does not answer in 2 ms is skipped for the rest of the bottling. -/
theorem vaultProgramTimeout_skips {ch lun : Nat} (phase : s.dev.hold.phase = 3 ∨ s.dev.hold.phase = 4) :
    Reaches (.vaultProgramTimeout ch lun) s (fun d =>
      d.hold.bottle = some { b with skipped := insertNat (lunKey ch lun) b.skipped } ∧ d.now = s.dev.now + 2000 ∧ d.csk = s.dev.csk ∧
      d.mem = s.dev.mem) := by
  refine ⟨_, gives_of_run (exec_vaultProgramTimeout ch lun s) rfl (by simp only [bottling]; exact if_pos phase), ?_⟩
  simp

theorem spineSealed_gives {okA okB : Bool} (streamed : b.streamDone = true) (phase : s.dev.hold.phase = 4) :
    Gives (.spineSealed okA okB) s
      (let d := (s.dev.writeSeal okA okB).journalPhase 5
       (d.setHold { d.hold with supply := .bottled }).decideNine) :=
  gives_of_run (exec_spineSealed okA okB s) rfl (by simp [bottling, streamed, phase])

end Steps

theorem bottleResume_gives {s : State} (waits : s.dev.hold.waitIn = true) (good : s.dev.hold.inputGood = true) :
    Gives .bottleResume s ((s.dev.waitUntil (s.dev.hold.goodAt + 20000)).goResume) :=
  gives_of_run (exec_bottleResume s) rfl (by simp [waits, good, guardDwell])

/-- Below UVLO the unit loses its power with SUP's supply gone. -/
theorem hvinUvlo_unpowers {hvin : Nat} {s : State} (on : s.dev.sup.supOn = true) (low : hvin < 750) :
    ∃ e : Device, Gives (.hvinUvlo hvin) s e.unpowered ∧ e.sup.supOn = false ∧ e.sup.state = .init ∧ e.sup.rails = [] ∧
      e.hold.supply = .warn ∧ e.hold.bottle = none ∧ e.hold.stopAdm = false ∧ e.rst.svcOpen = false ∧ e.evr.fifo = [] :=
  ⟨_, gives_of_runHvin (by omega) on (exec_hvinUvlo hvin s) rfl (if_pos low), rfl, rfl, rfl, rfl, rfl, rfl, rfl, rfl⟩

/-- Everything that SUP's supply kept is lost. -/
theorem hvinUvlo_loses {hvin : Nat} {s : State} (on : s.dev.sup.supOn = true) (low : hvin < 750) :
    Reaches (.hvinUvlo hvin) s (fun d =>
      d.sup.supOn = false ∧ d.sup.state = .init ∧ d.sup.rails = [] ∧ d.hold.supply = .warn ∧ d.hold.bottle = none ∧ d.hold.stopAdm = false ∧
      d.rst.svcOpen = false ∧ d.mir.role = .detached ∧ d.evr.fifo = []) := by
  obtain ⟨e, gives, sup, state, rails, supply, bottle, stop, svc, fifo⟩ := hvinUvlo_unpowers on low
  refine ⟨e.unpowered, gives, ?_⟩
  simp only [unpowered_role, unpowered_keeps Device.sup setMir_sup emit_sup, unpowered_keeps Device.hold setMir_hold emit_hold,
    unpowered_keeps Device.rst setMir_rst emit_rst, unpowered_keeps Device.evr setMir_evr emit_evr]
  exact ⟨sup, state, rails, supply, bottle, stop, svc, trivial, fifo⟩

theorem hvinUvlo_above {hvin : Nat} {s : State} (on : s.dev.sup.supOn = true) (high : 750 ≤ hvin) (within : hvin ≤ 8000) :
    Gives (.hvinUvlo hvin) s s.dev :=
  gives_of_runHvin within on (exec_hvinUvlo hvin s) rfl (if_neg (Nat.not_lt.2 high))

/-- Settles O33, step by step. -/
theorem bottlingSteps : Obligations.BottlingSteps := by
  refine ⟨?stream, ?skip, ?spine, ?sealRecord, ?preOpen, fun _ => bottleResume_gives, ?nine, fun _ _ => hvinUvlo_loses, fun _ _ => hvinUvlo_above⟩
  case stream => exact fun _ _ bottling streaming phase => bottleStreamDone_gives bottling streaming phase
  case skip => exact fun _ _ _ _ bottling phase => vaultProgramTimeout_skips bottling phase
  case spine => exact fun _ _ _ _ bottling streamed phase => spineSealed_gives bottling streamed phase
  case sealRecord =>
    intro d okA okB b g bottling opened target
    refine ⟨writeSeal_newestSaid bottling opened target okA okB, writeSeal_bseq bottling opened target okA okB,
      writeSeal_lastGen bottling opened target okA okB, fun _ => ?_⟩
    rw [writeSeal_gen bottling opened target]
    exact ⟨rfl, rfl, rfl⟩
  case preOpen => exact fun _ okA okB _ bottling early => writeSeal_preOpen bottling okA okB early
  case nine => exact fun _ _ bottling => ⟨decideNine_ends bottling, decideNine_resumes bottling, decideNine_waits bottling⟩

end Sys2Proof.Machine
end

section
/-! PROOF. The hold-up measurement (O34): the sets, the bank test, the probe, the plan, and that the plan grows with C. -/

namespace Sys2Proof.Machine

/-- A field below the one that is set is as it was. -/
theorem bitsGet_bitsSet_below (w : Word) {hi lo hi' lo' : Nat} (v : Nat) (h1 : lo ≤ hi) (h2 : hi < 32) (h3 : lo' ≤ hi') (below : hi' < lo) :
    bitsGet (bitsSet w hi lo v) hi' lo' = bitsGet w hi' lo' := by
  have cut : ∀ x : Nat, x / 2 ^ lo' % 2 ^ (hi' + 1 - lo') = x % 2 ^ (hi' + 1) / 2 ^ lo' := fun x => by
    rw [← Nat.mod_mul_right_div_self, ← Nat.pow_add, show lo' + (hi' + 1 - lo') = hi' + 1 by omega]
  have low : (bitsSet w hi lo v).toNat % 2 ^ lo = w.toNat % 2 ^ lo := by
    rw [bitsSet_toNat w v h1 h2, Nat.mul_left_comm, Nat.add_assoc, Nat.mul_add_mod, Nat.mul_comm (v % _), Nat.mul_add_mod,
      Nat.mod_mod]
  have same : (bitsSet w hi lo v).toNat % 2 ^ (hi' + 1) = w.toNat % 2 ^ (hi' + 1) := by
    have wider : 2 ^ (hi' + 1) ∣ 2 ^ lo := Nat.pow_dvd_pow 2 below
    rw [← Nat.mod_mod_of_dvd _ wider, low, Nat.mod_mod_of_dvd _ wider]
  rw [bitsGet, bitsGet, cut, cut, same]

/-- The plan grows with the capacity that was measured (R110). -/
theorem planRacks_mono (level vlow pw eta km tf esrMax esr bw : Nat) {c c' : Nat} (h : c ≤ c') :
    planRacks level vlow pw eta km tf esrMax c esr bw ≤ planRacks level vlow pw eta km tf esrMax c' esr bw := by
  have energy : ∀ x : Nat, c * eta * x * 1000 ≤ c' * eta * x * 1000 := fun x =>
    Nat.mul_le_mul_right _ (Nat.mul_le_mul_right x (Nat.mul_le_mul_right eta h))
  unfold planRacks
  exact Nat.div_le_div_right (Nat.div_le_div_right (Nat.mul_le_mul_left _ (Nat.sub_le_sub_right (energy _) _)))

namespace Device

theorem fld_setHold (d : Device) (h : Hold) (f : Fld) (inst : Nat) : (d.setHold h).fld f inst = d.fld f inst := by rfl
theorem fld_pin (d : Device) (n : String) (l : Nat) (f : Fld) (inst : Nat) : (d.pin n l).fld f inst = d.fld f inst := by rfl

/-- A field of a register is as it was when a higher field of it is set. -/
theorem fld_setFld_above {d : Device} (form : d.regForm) {f g : Fld} (v inst : Nat) (same : g.reg = f.reg) (h1 : f.lo ≤ f.hi) (h2 : f.hi < 32)
    (h3 : g.lo ≤ g.hi) (below : g.hi < f.lo) : (d.setFld f v inst).fld g inst = d.fld g inst := by
  unfold setFld fld
  rw [reg_setReg form, same, if_pos rfl, bitsGet_bitsSet_below _ _ h1 h2 h3 below]

/-- C reads as it was computed: what is set after it lies above it in its register, or in another one (R107, R108). -/
theorem fld_measured {d : Device} (form : d.regForm) (c esr : Nat) :
    ((((d.setFld Fld.SUP_HU_MEAS_C_C_MF c).setFld Fld.SUP_HU_MEAS_C_VALID 1).setFld Fld.SUP_HU_MEAS_ESR_ESR_UOHM esr).setFld
      Fld.SUP_HU_MEAS_ESR_VALID 1).fld Fld.SUP_HU_MEAS_C_C_MF =
      c % 2 ^ (Fld.SUP_HU_MEAS_C_C_MF.hi + 1 - Fld.SUP_HU_MEAS_C_C_MF.lo) := by
  have formC := regForm_setFld form Fld.SUP_HU_MEAS_C_C_MF c 0
  have formV := regForm_setFld formC Fld.SUP_HU_MEAS_C_VALID 1 0
  rw [fld_setFld_ne (regForm_setFld formV ..) Fld.SUP_HU_MEAS_ESR_VALID Fld.SUP_HU_MEAS_C_C_MF _ _ _ (by decide),
    fld_setFld_ne formV Fld.SUP_HU_MEAS_ESR_ESR_UOHM Fld.SUP_HU_MEAS_C_C_MF _ _ _ (by decide),
    fld_setFld_above (f := Fld.SUP_HU_MEAS_C_VALID) (g := Fld.SUP_HU_MEAS_C_C_MF) formC _ _ rfl (by decide) (by decide) (by decide) (by decide),
    fld_setFld form Fld.SUP_HU_MEAS_C_C_MF _ _ (by decide) (by decide)]

/-! ### What a new plan leaves as it was (R112, R474) -/

/-- A plan that takes effect changes registers, admission and what an interrupt drives, as a re-evaluation does. -/
theorem setPlan_keeps {β : Type} (p : Device → β) {d : Device} (reeval : ∀ e : Device, e.drm = d.drm → p e.reevalAdmit = p e)
    (raise : ∀ d r n sev, p (raise d r n sev) = p d) (fld : ∀ d f v inst, p (setFld d f v inst) = p d) (racks : Nat) :
    p (d.setPlan racks) = p d := by
  unfold setPlan
  rw [reeval]
  · simp only [apply_ite p, raise, fld, ite_self]
  · simp only [ite_drm, raise_drm, setFld_drm, ite_self]

@[simp] theorem setPlan_hold (d : Device) (racks : Nat) : (d.setPlan racks).hold = d.hold :=
  setPlan_keeps Device.hold (fun _ _ => reevalAdmit_hold _) raise_hold setFld_hold racks

@[simp] theorem setPlan_mem (d : Device) (racks : Nat) : (d.setPlan racks).mem = d.mem :=
  setPlan_keeps Device.mem (fun _ _ => reevalAdmit_mem _) raise_mem setFld_mem racks

theorem setPlan_csk {d : Device} (enough : d.drm.short = false) (racks : Nat) : (d.setPlan racks).csk = d.csk :=
  setPlan_keeps Device.csk (fun _ he => reevalAdmit_csk (he ▸ enough)) raise_csk setFld_csk racks

/-- The trend changes registers and the ageing record alone. -/
theorem trend_keeps {β : Type} (p : Device → β) (fld : ∀ d f v inst, p (setFld d f v inst) = p d)
    (age : ∀ (d : Device) a, p { d with age := a } = p d) (d : Device) : p d.trend = p d := by
  unfold trend
  dsimp only
  split
  · exact age ..
  · simp only [apply_ite p, age, fld, ite_self]

@[simp] theorem trend_hold (d : Device) : d.trend.hold = d.hold := trend_keeps Device.hold setFld_hold (fun _ _ => rfl) d
@[simp] theorem trend_mem (d : Device) : d.trend.mem = d.mem := trend_keeps Device.mem setFld_mem (fun _ _ => rfl) d
@[simp] theorem trend_csk (d : Device) : d.trend.csk = d.csk := trend_keeps Device.csk setFld_csk (fun _ _ => rfl) d

/-- The flush probe changes registers and the record of the cellar's blocks alone. -/
theorem probeBlocks_keeps {β : Type} (p : Device → β) (reg : ∀ d off v inst, p (setReg d off v inst) = p d)
    (cel : ∀ (d : Device) c, p (setCel d c) = p d) (d : Device) : p d.probeBlocks = p d := by
  unfold probeBlocks
  dsimp only
  split
  · rfl
  · refine (foldl_keeps p _ (fun e (b : Nat × Nat × Nat) => cel ..) _ _).trans ?_
    simp only [mediaBytes, bumpPair, setPair, reg]

@[simp] theorem probeBlocks_hold (d : Device) : d.probeBlocks.hold = d.hold := probeBlocks_keeps Device.hold setReg_hold setCel_hold d
@[simp] theorem probeBlocks_mem (d : Device) : d.probeBlocks.mem = d.mem := probeBlocks_keeps Device.mem setReg_mem setCel_mem d
@[simp] theorem probeBlocks_csk (d : Device) : d.probeBlocks.csk = d.csk := probeBlocks_keeps Device.csk setReg_csk setCel_csk d
@[simp] theorem probeBlocks_drm (d : Device) : d.probeBlocks.drm = d.drm := probeBlocks_keeps Device.drm setReg_drm setCel_drm d

end Device

open Device

/-! ### Sets and tests that start (R106) -/

theorem exec_huMeasPeriod (hu : Nat) (s : State) : exec (.huMeasPeriod hu) s = execHuMeasPeriod hu s := by rfl
theorem exec_huTestRetry (hu : Nat) (s : State) : exec (.huTestRetry hu) s = execHuTestRetry hu s := by rfl
theorem exec_bankTestEnd (v0 vm v60 vend sum us : Nat) (inRange : Bool) (s : State) :
    exec (.bankTestEnd v0 vm v60 vend sum us inRange) s = execBankTestEnd v0 vm v60 vend sum us inRange s := by rfl
theorem exec_flushProbeDone (us : Nat) (s : State) : exec (.flushProbeDone us) s = execFlushProbeDone us s := by rfl
theorem exec_planRecompute (s : State) : exec .planRecompute s = execPlanRecompute s := by rfl

theorem huMeasPeriod_gives {hu : Nat} {s : State} (on : s.dev.sup.supOn = true) (period : s.dev.fld Fld.SUP_HU_CTRL_PERIOD_H ≠ 0) :
    let t := s.dev.hold.lastSetAt + 3600000000 * s.dev.fld Fld.SUP_HU_CTRL_PERIOD_H
    Gives (.huMeasPeriod hu) s (((s.dev.waitUntil (min t (s.dev.age.early.getD t))).readHu hu).startSet) :=
  gives_of_run (exec_huMeasPeriod hu s) rfl (if_pos ⟨on, period⟩)

theorem huTestRetry_gives {hu : Nat} {s : State} (due : s.dev.hold.setStart = true) (idle : s.dev.hold.testAt = none)
    (noProbe : s.dev.hold.probing = false) : Gives (.huTestRetry hu) s (((s.dev.advance 60000000).readHu hu).tryTest) :=
  gives_of_run (exec_huTestRetry hu s) rfl (by simp [due, idle, noProbe])

/-! ### The bank test (R107, R108) -/

section BankTest
variable {v0 vm v60 vend sum us t : Nat} {s : State} (running : s.dev.hold.testAt = some t)
include running

/-- C and ESR as a bank test that stays in range gives them, and the start of the probe. -/
theorem bankTestEnd_measures (swing : 10 * s.dev.fld Fld.SUP_HU_CTRL_DV ≤ v60 - vend) (enough : 100 ≤ v60 - vend) (sags : vm ≤ v0)
    {d : Device} (hd : s.dev.waitUntil (t + us) = d) :
    Gives (.bankTestEnd v0 vm v60 vend sum us true) s
      (let rl := d.fld Fld.SUP_HU_CTRL_RLOAD
       let e := (d.setFld Fld.SUP_HU_MEAS_C_C_MF (sum / (10 * rl * (v60 - vend)))).setFld Fld.SUP_HU_MEAS_C_VALID 1
       let e := (e.setFld Fld.SUP_HU_MEAS_ESR_ESR_UOHM (min 65535 ((v0 - vm) * rl * 100000 / vm))).setFld Fld.SUP_HU_MEAS_ESR_VALID 1
       (e.setHold { e.hold with testAt := none, probing := true }).pin "HU_TEST_N" 1) := by
  subst hd
  refine gives_of_run (exec_bankTestEnd v0 vm v60 vend sum us true s) rfl ?_
  simp only [running]
  rw [if_neg (by omega), if_neg (by simp; omega)]

/-- The probe starts, and C reads as it was computed. -/
theorem bankTestEnd_reads (swing : 10 * s.dev.fld Fld.SUP_HU_CTRL_DV ≤ v60 - vend) (enough : 100 ≤ v60 - vend) (sags : vm ≤ v0) :
    let d := s.dev.waitUntil (t + us)
    let rl := d.fld Fld.SUP_HU_CTRL_RLOAD
    Reaches (.bankTestEnd v0 vm v60 vend sum us true) s (fun e =>
      e.hold.testAt = none ∧ e.hold.probing = true ∧ e.out.head? = some (.pin "HU_TEST_N" 1) ∧ e.mem = s.dev.mem ∧
      (s.regsWf = true → d.regs = s.dev.regs →
        e.fld Fld.SUP_HU_MEAS_C_C_MF =
          sum / (10 * rl * (v60 - vend)) % 2 ^ (Fld.SUP_HU_MEAS_C_C_MF.hi + 1 - Fld.SUP_HU_MEAS_C_C_MF.lo))) := by
  refine ⟨_, bankTestEnd_measures running swing enough sags rfl, rfl, rfl, rfl, ?_, fun wf still => ?_⟩
  · simp
  · have form : (s.dev.waitUntil (t + us)).regForm := by rw [regForm, still]; exact wf
    rw [fld_pin, fld_setHold]
    exact fld_measured form _ _

/-- A test that leaves its range, or whose swing is too small, is discarded. -/
theorem bankTestEnd_fails {inRange : Bool} (late : 4000000 ≤ us ∨ inRange = false ∨ v0 < vm)
    (bad : v60 - vend < 100 ∨ v0 < vm ∨ inRange = false) :
    Gives (.bankTestEnd v0 vm v60 vend sum us inRange) s ((s.dev.waitUntil (t + us)).failTest) := by
  refine gives_of_run (exec_bankTestEnd v0 vm v60 vend sum us inRange s) rfl ?_
  have ended : ¬(v60 - vend < 10 * s.dev.fld Fld.SUP_HU_CTRL_DV ∧ us < 4000000 ∧ inRange = true ∧ vm ≤ v0) := by
    rintro ⟨-, time, inside, sags⟩
    simp only [inside, Bool.true_eq_false, false_or] at late
    omega
  simp only [running, if_neg ended]
  exact if_pos (bad.imp_right (Or.imp_right fun h => by rw [h]; rfl))

end BankTest

/-! ### The probe and the plan (R109–R111, R130) -/

/-- The probe gives the bandwidth and a new plan; the plan before it is kept beside it. -/
theorem flushProbeDone_measures {us : Nat} {s : State} (probing : s.dev.hold.probing = true) (took : us ≠ 0) (enough : s.dev.drm.short = false) :
    Reaches (.flushProbeDone us) s (fun d =>
      d.hold.probing = false ∧ d.hold.bwMeas = 1073741824 / us ∧ d.hold.planPrev = s.dev.hold.planL ∧ d.hold.lastSetAt = s.dev.now ∧
      d.mem = s.dev.mem ∧ d.csk = s.dev.csk) := by
  refine ⟨_, gives_of_run (exec_flushProbeDone us s) rfl (if_pos ⟨probing, took⟩), ?_⟩
  simp [setPlan_csk, enough]

theorem planRecompute_replans {s : State} (due : s.dev.hold.replan = true) (enough : s.dev.drm.short = false) :
    Reaches .planRecompute s (fun d =>
      d.hold.replan = false ∧ d.hold.planPrev = none ∧
      d.hold.planL = (if s.dev.flag Fld.SUP_HU_MEAS_C_VALID then some s.dev.planNow else none) ∧ d.mem = s.dev.mem ∧ d.csk = s.dev.csk) := by
  refine ⟨_, gives_of_run (exec_planRecompute s) rfl (if_pos due), ?_⟩
  simp [setPlan_csk, enough]

/-- Settles O34, command by command, and by the growth of the plan with C. -/
theorem holdUpMeasurement : Obligations.HoldUpMeasurement := by
  refine ⟨fun _ _ => huMeasPeriod_gives, fun _ _ => huTestRetry_gives, ?_, ?_, fun _ _ => flushProbeDone_measures,
    fun _ => planRecompute_replans, ?_⟩
  · exact fun _ _ _ _ _ _ _ _ running swing enough sags => bankTestEnd_reads running swing enough sags
  · exact fun _ _ _ _ _ _ _ _ _ running late bad => bankTestEnd_fails running late bad
  · exact fun level vlow pw eta km tf esrMax _ _ esr bw h => planRacks_mono level vlow pw eta km tf esrMax esr bw h

end Sys2Proof.Machine
end

section
/-! PROOF. What stops a descriptor before its operation (O18): the gates that every descriptor meets when it starts, in their order, and what
the I/O queues, the function commands and the device commands ask of one that has passed them. -/

namespace Sys2Proof.Machine
namespace Device

/-! ### The gates that every descriptor meets (R209, R229) -/

section Start
variable {d : Device} {fn q op : Nat} {x : DescState} {used : List (Nat × Nat)} {body : Device → DescState → Device}
  (ready : d.ready? fn q op = some x) (listed : opUsed op = some used)
include ready listed

theorem withDesc_malformed (zeros : descZeros x.dw used = false) :
    d.withDesc fn q op body = (d.startDesc fn q x).complete fn q x.seq stInvalid 0 0 := by
  simp [withDesc, ready, listed, zeros]

section WellFormed
variable (zeros : descZeros x.dw used = true)
include zeros

theorem withDesc_hostErr (failed : x.hostErr = true) :
    d.withDesc fn q op body =
      ((d.startDesc fn q x).setFld Fld.HRG_FN_STATUS_HOST_ERR 1 fn).complete fn q x.seq stHostErr 0 0 := by
  simp [withDesc, ready, listed, zeros, failed]

section HostRead
variable (delivered : x.hostErr = false)
include delivered

theorem withDesc_badList (bad : sglOk x = false) :
    d.withDesc fn q op body = (d.startDesc fn q x).complete fn q x.seq stInvalid 0 0 := by
  simp [withDesc, ready, listed, zeros, delivered, bad]

/-- Poisoned data stops a command of a management core, which records an event, and a WRITE. -/
theorem withDesc_poisoned (list : sglOk x = true) (poisoned : (d.startDesc fn q x).descPoisoned fn q x.seq = true)
    (stops : 0x80 ≤ op ∨ op = 0x02) :
    d.withDesc fn q op body =
      (if 0x80 ≤ op then (d.startDesc fn q x).eventR 3 qmgBlk 229 else d.startDesc fn q x).complete fn q x.seq stPoison 0 0 := by
  simp [withDesc, ready, listed, zeros, delivered, list, poisoned, stops]

end HostRead
end WellFormed
end Start

/-! ### What a queue asks of a descriptor that has passed them (R75, R146, R160, R215) -/

/-- A WRITE waits for the shrink or the deletion of its cask (R75). -/
theorem descGated_write {d : Device} {fn q : Nat} {x : DescState} (ready : d.ready? fn q 0x02 = some x) :
    d.descGated fn q 0x02 = d.gated (.ring fn) (dCask x.dw) := by
  simp [descGated, ready]

section Io
variable {d : Device} {fn q op : Nat} {x : DescState} {role : Bool} {body : Device → DescState → Device}

theorem ioDesc_gated (gated : d.descGated fn q op = true) : d.ioDesc fn q op role body = d := by
  unfold ioDesc
  exact if_pos gated

theorem ioDesc_ungated (free : d.descGated fn q op = false) :
    d.ioDesc fn q op role body = d.withDesc fn q op (fun d x => d.ioGate fn q x role (fun d => body d x)) := by
  unfold ioDesc
  exact if_neg (Bool.eq_false_iff.1 free)

section Taken
variable (free : d.descGated fn q op = false) (takes : d.takes fn q op x = true)
include free takes

theorem ioDesc_notReady (closed : d.rst.svcOpen = false) :
    d.ioDesc fn q op role body = (d.beginDesc fn q op x).complete fn q x.seq stNotReady 0 0 := by
  rw [ioDesc_ungated free, withDesc_takes takes]
  simp [ioGate, closed]

theorem ioDesc_fenced (opened : d.rst.svcOpen = true) (fenced : d.placesWrites = false) :
    d.ioDesc fn q op true body = (d.beginDesc fn q op x).complete fn q x.seq stFenced 0 0 := by
  rw [ioDesc_ungated free, withDesc_takes takes]
  simp [ioGate, opened, beginDesc_placesWrites, fenced]

end Taken
end Io

section Admin
variable {d : Device} {fn op : Nat} {x : DescState} {body : Device → DescState → Device} (takes : d.takes fn 0 op x = true)
  (other : d.isAdmin fn = false)
include takes other

theorem devCmd_notAdmin : d.devCmd fn op body = (d.beginDesc fn 0 op x).complete fn 0 x.seq stProt 0 0 := by
  rw [devCmd, withDesc_takes takes]
  simp [beginDesc_isAdmin, other]

theorem fnCmd_notReady (closed : d.rst.svcOpen = false) :
    d.fnCmd fn op body = (d.beginDesc fn 0 op x).complete fn 0 x.seq stNotReady 0 0 := by
  rw [fnCmd, withDesc_takes takes]
  simp [beginDesc_isAdmin, other, closed]

end Admin
end Device

open Device

/-! ### The commands -/

theorem exec_write (fn q : Nat) (s : State) : exec (.write fn q) s = execWrite fn q s := by rfl
theorem exec_caskQuery (fn : Nat) (s : State) : exec (.caskQuery fn) s = execCaskQuery fn s := by rfl
theorem exec_identify (fn : Nat) (s : State) : exec (.identify fn) s = execIdentify fn s := by rfl

theorem write_gated {fn q : Nat} {x : DescState} {s : State} (ready : s.dev.ready? fn q 0x02 = some x)
    (gated : s.dev.gated (.ring fn) (dCask x.dw) = true) : Gives (.write fn q) s s.dev :=
  gives_of_run (exec_write fn q s) rfl (ioDesc_gated ((descGated_write ready).trans gated))

section Write
variable {fn q : Nat} {x : DescState} {s : State} (ready : s.dev.ready? fn q 0x02 = some x)
  (free : s.dev.gated (.ring fn) (dCask x.dw) = false)
include ready free

theorem write_malformed (zeros : descZeros x.dw (mCask ++ mOffset ++ mLength ++ mHaddr) = false) :
    Gives (.write fn q) s ((s.dev.startDesc fn q x).complete fn q x.seq stInvalid 0 0) :=
  gives_of_run (exec_write fn q s) rfl
    ((ioDesc_ungated ((descGated_write ready).trans free)).trans (withDesc_malformed ready rfl zeros))

section WellFormed
variable (zeros : descZeros x.dw (mCask ++ mOffset ++ mLength ++ mHaddr) = true)
include zeros

theorem write_hostErr (failed : x.hostErr = true) :
    Gives (.write fn q) s
      (((s.dev.startDesc fn q x).setFld Fld.HRG_FN_STATUS_HOST_ERR 1 fn).complete fn q x.seq stHostErr 0 0) :=
  gives_of_run (exec_write fn q s) rfl
    ((ioDesc_ungated ((descGated_write ready).trans free)).trans (withDesc_hostErr ready rfl zeros failed))

theorem write_badList (delivered : x.hostErr = false) (bad : sglOk x = false) :
    Gives (.write fn q) s ((s.dev.startDesc fn q x).complete fn q x.seq stInvalid 0 0) :=
  gives_of_run (exec_write fn q s) rfl
    ((ioDesc_ungated ((descGated_write ready).trans free)).trans (withDesc_badList ready rfl zeros delivered bad))

theorem write_poisoned (delivered : x.hostErr = false) (list : sglOk x = true)
    (poisoned : (s.dev.startDesc fn q x).descPoisoned fn q x.seq = true) :
    Gives (.write fn q) s ((s.dev.startDesc fn q x).complete fn q x.seq stPoison 0 0) :=
  gives_of_run (exec_write fn q s) rfl
    ((ioDesc_ungated ((descGated_write ready).trans free)).trans
      (withDesc_poisoned ready rfl zeros delivered list poisoned (.inr rfl)))

end WellFormed

theorem write_notReady (takes : s.dev.takes fn q 0x02 x = true) (closed : s.dev.rst.svcOpen = false) :
    Gives (.write fn q) s ((s.dev.startDesc fn q x).complete fn q x.seq stNotReady 0 0) :=
  gives_of_run (exec_write fn q s) rfl (ioDesc_notReady ((descGated_write ready).trans free) takes closed)

theorem write_fenced (takes : s.dev.takes fn q 0x02 x = true) (opened : s.dev.rst.svcOpen = true)
    (fenced : s.dev.placesWrites = false) :
    Gives (.write fn q) s ((s.dev.startDesc fn q x).complete fn q x.seq stFenced 0 0) :=
  gives_of_run (exec_write fn q s) rfl (ioDesc_fenced ((descGated_write ready).trans free) takes opened fenced)

end Write

theorem caskQuery_notAdmin {fn : Nat} {x : DescState} {s : State} (takes : s.dev.takes fn 0 0x93 x = true)
    (other : s.dev.isAdmin fn = false) :
    Gives (.caskQuery fn) s ((s.dev.takenDesc fn 0 x).complete fn 0 x.seq stProt 0 0) :=
  gives_of_run (exec_caskQuery fn s) rfl (devCmd_notAdmin takes other)

theorem caskQuery_poisoned {fn : Nat} {x : DescState} {s : State} (ready : s.dev.ready? fn 0 0x93 = some x)
    (zeros : descZeros x.dw (mCask ++ mHaddr) = true) (delivered : x.hostErr = false) (list : sglOk x = true)
    (poisoned : (s.dev.startDesc fn 0 x).descPoisoned fn 0 x.seq = true) :
    Gives (.caskQuery fn) s (((s.dev.startDesc fn 0 x).eventR 3 qmgBlk 229).complete fn 0 x.seq stPoison 0 0) :=
  gives_of_run (exec_caskQuery fn s) rfl (withDesc_poisoned ready rfl zeros delivered list poisoned (.inl (by decide)))

theorem identify_notReady {fn : Nat} {x : DescState} {s : State} (takes : s.dev.takes fn 0 0x84 x = true)
    (other : s.dev.isAdmin fn = false) (closed : s.dev.rst.svcOpen = false) :
    Gives (.identify fn) s ((s.dev.takenDesc fn 0 x).complete fn 0 x.seq stNotReady 0 0) :=
  gives_of_run (exec_identify fn s) rfl (fnCmd_notReady takes other closed)

/-- Settles O18, gate by gate, in the order in which a descriptor meets them. -/
theorem descriptorGates : Obligations.DescriptorGates := by
  intro fn q x s
  refine ⟨write_gated, fun ready free => ⟨?_, ?_, ?_, ?_, ?_, ?_⟩, ?_, ?_, ?_⟩
  · exact write_malformed ready free
  · exact write_hostErr ready free
  · exact write_badList ready free
  · exact write_poisoned ready free
  · exact write_notReady ready free
  · exact write_fenced ready free
  · rintro rfl
    exact caskQuery_notAdmin
  · rintro rfl
    exact caskQuery_poisoned
  · rintro rfl
    exact identify_notReady

end Sys2Proof.Machine
end

section
/-! PROOF. Emergence and the warm reset (O35): what each command answers in each phase, and where it changes nothing. -/

namespace Sys2Proof.Machine
namespace Device

/-- The device that has loaded its spine and, when it restores a vault generation, the index of that generation (R137). -/
def loadSpine (d : Device) : Device :=
  let d := match d.rst.image with
    | some m => d.loadImage m (if d.rst.source = 1 then some (d.gen d.rst.srcGen) else none)
    | none => d
  if d.rst.source = 1 then d.loadDir d.rst.srcGen else d

end Device

open Device

/-! ### The meaning of each command -/

theorem exec_spineLoadDone (s : State) : exec .spineLoadDone s = execSpineLoadDone s := by rfl
theorem exec_consolidationDone (s : State) : exec .consolidationDone s = execConsolidationDone s := by rfl
theorem exec_twinWaitExpire (s : State) : exec .twinWaitExpire s = execTwinWaitExpire s := by rfl
theorem exec_serviceOpen (s : State) : exec .serviceOpen s = execServiceOpen s := by rfl
theorem exec_quiesceTimeout (s : State) : exec .quiesceTimeout s = execQuiesceTimeout s := by rfl
theorem exec_quiesceDone (s : State) : exec .quiesceDone s = execQuiesceDone s := by rfl
theorem exec_resetInputRelease (s : State) : exec .resetInputRelease s = execResetInputRelease s := by rfl
theorem exec_aloneRequestRetry (s : State) : exec .aloneRequestRetry s = execAloneRequestRetry s := by rfl

/-! ### Training and the spine load (R136, R137, R156) -/

section SpineLoad
variable {s : State} (hub : s.dev.hubOn = true) (free : s.dev.hold.bottle = none)
include hub free

section Mc1
variable (mc1 : s.dev.coreUp 1 = true)
include mc1

theorem spineLoadDone_trained (phase : s.dev.rst.phase = 1) :
    Gives .spineLoadDone s (s.dev.setRst { s.dev.rst with phase := 2 }) :=
  gives_of_run (exec_spineLoadDone s) rfl (by simp [hub, free, phase, mc1])

theorem spineLoadDone_loads (phase : s.dev.rst.phase = 2) :
    Gives .spineLoadDone s (s.dev.loadSpine.setRst { s.dev.loadSpine.rst with phase := 3 }) := by
  refine gives_of_run (exec_spineLoadDone s) rfl ((if_neg (by simp [hub, free])).trans ((if_neg (by simp [phase])).trans ?_))
  exact if_pos ⟨phase, mc1⟩

end Mc1

/-- In a recovery in place the load of the spine gives the pending vintages, and resolution begins (R141, R156). -/
theorem spineLoadDone_resolves {m : MetaImage} (phase : s.dev.rst.phase = 9) (image : s.dev.rst.image = some m) :
    Gives .spineLoadDone s
      (s.dev.setRst { s.dev.rst with pend := m.pend, image := none, linkUpAt := s.dev.now }).sendResolve :=
  gives_of_run (exec_spineLoadDone s) rfl (by simp [hub, free, phase, image])

end SpineLoad

/-! ### Consolidation, resolution, service (R139, R141, R145) -/

section Emerging
variable {s : State} (free : s.dev.hold.bottle = none)
include free

theorem consolidationDone_resolves (phase : s.dev.rst.phase = 3) (mc1 : s.dev.coreUp 1 = true) :
    let d : Device := { s.dev with adm := { s.dev.adm with metaDirty := [] } }
    Gives .consolidationDone s (d.setRst { d.rst with phase := 4, linkUpAt := d.now }).sendResolve :=
  gives_of_run (exec_consolidationDone s) rfl (if_pos ⟨phase, by rw [free]; rfl, mc1⟩)

theorem twinWaitExpire_asksAlone (phase : s.dev.rst.phase = 4 ∨ s.dev.rst.phase = 9) (unresolved : s.dev.rst.resolved = false)
    (loaded : s.dev.rst.image = none) :
    Gives .twinWaitExpire s
      ((s.dev.waitUntil (s.dev.rst.linkUpAt + 1000 * s.dev.fld Fld.PST_RST_CTRL_TWIN_WAIT_MS)).requestLease true) :=
  gives_of_run (exec_twinWaitExpire s) rfl
    (if_pos ⟨phase, by rw [unresolved]; rfl, by rw [loaded]; rfl, by rw [free]; rfl⟩)

theorem serviceOpen_opens (phase : s.dev.rst.phase = 4 ∨ s.dev.rst.phase = 9) (resolved : s.dev.rst.resolved = true)
    (held : s.dev.rst.awaits = []) : Gives .serviceOpen s s.dev.openService.settle.runLatched :=
  gives_of_run (exec_serviceOpen s) rfl (if_pos ⟨phase, resolved, by rw [held]; rfl, by rw [free]; rfl⟩)

end Emerging

theorem serviceOpen_waits {s : State} (early : s.dev.rst.resolved = false ∨ s.dev.rst.awaits ≠ []) : Gives .serviceOpen s s.dev := by
  refine gives_of_run (exec_serviceOpen s) rfl (if_neg ?_)
  rintro ⟨-, resolved, held, -⟩
  rcases early with unresolved | lacking
  · rw [unresolved] at resolved
    cases resolved
  · exact lacking (List.isEmpty_iff.1 held)

/-! ### The quiesce of a warm reset (R155, R407) -/

section Warm
variable {w : WarmReset} {s : State} (warm : s.dev.sup.warm = some w)
include warm

section Quiescing
variable (quiescing : w.quiesced = false) (inTime : w.overran = false)
include quiescing inTime

theorem quiesceTimeout_bottles :
    Gives .quiesceTimeout s
      (let d := s.dev.waitUntil (w.startAt + 5000)
       (d.setSup { d.sup with warm := some { w with overran := true } }).latchBottling false .holdoff) :=
  gives_of_run (exec_quiesceTimeout s) rfl (by simp [warm, quiescing, inTime])

theorem quiesceDone_resets (free : s.dev.hold.bottle = none) :
    Gives .quiesceDone s
      (((s.dev.setSup { s.dev.sup with warm := some { w with quiesced := true } }).applyCommitted.selfRefresh true).warmGo) :=
  gives_of_run (exec_quiesceDone s) rfl (by simp [warm, quiescing, inTime, free])

end Quiescing

theorem resetInputRelease_goesOn (held : w.held = true) :
    Gives .resetInputRelease s
      ((s.dev.setSup { s.dev.sup with rstN := false, mrstN := false, warm := some { w with held := false } }).warmGo) :=
  gives_of_run (exec_resetInputRelease s) rfl (by simp [warm, held, setSup])

end Warm

theorem resetInputRelease_idle {s : State} (idle : s.dev.sup.warm = none) :
    Gives .resetInputRelease s (s.dev.setSup { s.dev.sup with rstN := false, mrstN := false }) :=
  gives_of_run (exec_resetInputRelease s) rfl (by simp [idle])

/-! ### The request of a cleared unit (R154) -/

theorem aloneRequestRetry_asks {s : State} (cleared : s.dev.rst.cleared = true) (detached : s.dev.mir.role = .detached) :
    Gives .aloneRequestRetry s ((s.dev.advance 1000000).requestLease true) :=
  gives_of_run (exec_aloneRequestRetry s) rfl (if_pos ⟨cleared, detached⟩)

theorem aloneRequestRetry_ignored {s : State} (other : s.dev.rst.cleared = false ∨ s.dev.mir.role ≠ .detached) :
    Gives .aloneRequestRetry s s.dev := by
  refine gives_of_run (exec_aloneRequestRetry s) rfl (if_neg ?_)
  rintro ⟨cleared, detached⟩
  rcases other with kept | attached
  · rw [kept] at cleared
    cases cleared
  · exact attached detached

/-- Settles O35, command by command and phase by phase. -/
theorem emergenceSteps : Obligations.EmergenceSteps := by
  refine ⟨?trained, ?loads, ?resolves, ?consolidated, ?alone, ?opens, fun _ => serviceOpen_waits, ?overruns, ?quiesced,
    fun _ => resetInputRelease_idle, fun _ _ => resetInputRelease_goesOn, fun _ => aloneRequestRetry_asks,
    fun _ => aloneRequestRetry_ignored⟩
  case trained => exact fun _ hub free mc1 phase => spineLoadDone_trained hub free mc1 phase
  case loads => exact fun _ hub free mc1 phase => spineLoadDone_loads hub free mc1 phase
  case resolves => exact fun _ _ hub free phase image => spineLoadDone_resolves hub free phase image
  case consolidated => exact fun _ phase free mc1 => consolidationDone_resolves free phase mc1
  case alone => exact fun _ phase unresolved loaded free => twinWaitExpire_asksAlone free phase unresolved loaded
  case opens => exact fun _ phase resolved held free => serviceOpen_opens free phase resolved held
  case overruns => exact fun _ _ warm quiescing inTime => quiesceTimeout_bottles warm quiescing inTime
  case quiesced => exact fun _ _ warm quiescing inTime free => quiesceDone_resets warm quiescing inTime free

end Sys2Proof.Machine
end

section
/-! PROOF. Resolution and JOIN (O42): which pending vintages stand outside a shared cascade, what the end of a resolution leaves when nothing is
pending, and how a JOIN is answered. -/

namespace Sys2Proof.Machine
namespace Device

/-! ### Resolution (R142) -/

section Unshared
variable {d : Device} (unshared : d.cascadeShared = false)
include unshared

theorem reports_unshared : d.reports = [] := by simp [reports, unshared]

theorem hAll_unshared : d.hAll = d.hNum := by
  rw [hAll, reports_unshared unshared, List.foldl_nil]

/-- A pending vintage stands when the twin holds it, or when it lies at K or above and one at or above it carries REL. -/
theorem pendingStands_iff (hTwin num : Nat) (held : Nat → Bool) :
    d.pendingStands hTwin held num = true ↔
      held num = true ∨ (max d.hNum hTwin ≤ num ∧ ∃ q ∈ d.pendAll, q.2 = true ∧ num ≤ q.1) := by
  simp only [pendingStands, hAll_unshared unshared, unshared, Bool.false_and, Bool.or_false, Bool.or_eq_true, Bool.and_eq_true,
    decide_eq_true_eq, List.any_eq_true]

theorem pendAll_of_nonePending (none : d.rst.pend = []) : d.pendAll = [] := by
  rw [pendAll, reports_unshared unshared, none]
  rfl

end Unshared

theorem resolve_resolved {d : Device} (resolved : d.rst.resolved = true) (hTwin : Nat) (held : Nat → Bool) (alone : Bool) :
    d.resolve hTwin held alone = d := by
  unfold resolve
  exact if_pos (by rw [resolved]; rfl)

section NonePending
variable {d : Device} (none : d.rst.pend = []) (phase : d.rst.phase ≠ 4)
include none phase

section EndResolve
variable (k hTwin : Nat) (stands : Nat → Bool) (alone : Bool)

theorem endResolve_rst :
    (d.endResolve k hTwin stands alone).rst =
      { d.rst with pend := [], resolved := true, vR := k, alone := alone, twinH := some hTwin } := by
  simp [endResolve, none, phase, sortBy, ite_rst]

/-- The end of a resolution with nothing pending changes registers, what the units know of each other and what an interrupt drives. -/
theorem endResolve_keeps {β : Type} (p : Device → β) (reg : ∀ d off v inst, p (setReg d off v inst) = p d) (rst : ∀ d x, p (setRst d x) = p d)
    (mir : ∀ d x, p (setMir d x) = p d) (raise : ∀ d r n sev, p (raise d r n sev) = p d) :
    p (d.endResolve k hTwin stands alone) = p d := by
  simp [endResolve, none, phase, sortBy, apply_ite p, raise, mir, rst, setFld, setPair, reg]

end EndResolve

variable (unresolved : d.rst.resolved = false) (unshared : d.cascadeShared = false) (hTwin : Nat) (held : Nat → Bool) (alone : Bool)
include unresolved unshared

/-- Outside a shared cascade the resolution is this unit's own, and K is all that it agrees on. -/
theorem resolve_of_nonePending : d.resolve hTwin held alone = d.endResolve (max d.hNum hTwin) hTwin (fun _ => false) alone := by
  have still : (d.endResolve (max d.hNum hTwin) hTwin (fun _ => false) alone).cascadeShared = false := by
    rw [cascadeShared, endResolve_keeps none phase _ _ _ _ Device.trl setReg_trl setRst_trl setMir_trl raise_trl]
    exact unshared
  simp [resolve, unresolved, unshared, hAll_unshared unshared, pendAll_of_nonePending unshared none, still]

theorem resolve_ends :
    let e := d.resolve hTwin held alone
    e.rst.resolved = true ∧ e.rst.pend = [] ∧ e.rst.vR = max d.hNum hTwin ∧ e.rst.alone = alone ∧ e.pst = d.pst ∧ e.mem = d.mem := by
  simp only [resolve_of_nonePending none phase unresolved unshared, endResolve_rst none phase, true_and]
  constructor
  · exact endResolve_keeps none phase _ _ _ _ Device.pst setReg_pst setRst_pst setMir_pst raise_pst
  · exact endResolve_keeps none phase _ _ _ _ Device.mem setReg_mem setRst_mem setMir_mem raise_mem

end NonePending

/-! ### A frame that is sent (R176) -/

section Frame
variable (d : Device) (kind : String) (args : List Nat) (recs : List WireRec) (payload : List Byte) (flags : Nat)

/-- A frame changes the poisoned words of its queue, the number of the next frame and the outputs alone. -/
theorem vae_keeps {β : Type} (p : Device → β) (qmg : ∀ (d : Device) x, p { d with qmg := x } = p d)
    (lseq : ∀ (d : Device) n, p (d.setMir { d.mir with txLseq := n }) = p d) (emit : ∀ d o, p (emit d o) = p d) :
    p (d.vae kind args recs payload flags) = p d := by
  unfold vae leaving passing
  split
  · rw [emit, lseq]
    split
    · rw [if_pos rfl, emit, qmg]
    · rw [if_neg Bool.false_ne_true]
  · rfl

@[simp] theorem vae_role : (d.vae kind args recs payload flags).mir.role = d.mir.role :=
  vae_keeps d kind args recs payload flags (fun d => d.mir.role) (fun _ _ => rfl) (fun _ _ => rfl) (fun _ _ => rfl)

@[simp] theorem vae_mem : (d.vae kind args recs payload flags).mem = d.mem :=
  vae_keeps d kind args recs payload flags Device.mem (fun _ _ => rfl) (fun _ _ => rfl) emit_mem

@[simp] theorem vae_csk : (d.vae kind args recs payload flags).csk = d.csk :=
  vae_keeps d kind args recs payload flags Device.csk (fun _ _ => rfl) (fun _ _ => rfl) emit_csk

@[simp] theorem vae_drm : (d.vae kind args recs payload flags).drm = d.drm :=
  vae_keeps d kind args recs payload flags Device.drm (fun _ _ => rfl) (fun _ _ => rfl) emit_drm

end Frame

/-! ### The answer to a JOIN (R188) -/

theorem joinPoint_empty (d : Device) (epoch : Nat) : d.joinPoint 0 epoch = some 0 := if_pos rfl

/-- In the joiner's own epoch P is the last vintage that this unit has sealed or committed. -/
theorem joinPoint_sameEpoch (d : Device) {h : Nat} (holds : h ≠ 0) :
    d.joinPoint h d.mir.epoch = some (max d.pst.commitNum d.pst.sealedNum) :=
  (if_neg holds).trans (if_pos rfl)

theorem answerJoin_unanswered {d : Device} (silent : d.placesWrites = false ∨ d.mir.soloPend = true) (h epoch : Nat) (ok : Bool) :
    d.answerJoin h epoch ok = d := by
  unfold answerJoin
  exact if_pos (by rcases silent with silent | silent <;> simp [silent])

section Answered
variable {d : Device} (places : d.placesWrites = true) (confirmed : d.mir.soloPend = false)
include places confirmed

theorem answerJoin_tooOld {h epoch : Nat} {ok : Bool} (old : d.joinPoint h epoch = none) :
    d.answerJoin h epoch ok = (d.vae "ROLE" [3, 0]).joinRefused := by
  simp [answerJoin, places, confirmed, old]

theorem answerJoin_refused {h epoch p : Nat} {ok : Bool} (point : d.joinPoint h epoch = some p) (bad : ok = false ∨ p < h) :
    d.answerJoin h epoch ok = (d.vae "ROLE" [3, 0]).joinRefused := by
  simp only [answerJoin, places, confirmed, point, Bool.not_true, Bool.or_self, Bool.false_eq_true, if_false]
  exact if_pos (by simpa using bad)

theorem answerJoin_otherPair (h epoch : Nat) : d.answerJoin h epoch false = (d.vae "ROLE" [3, 0]).joinRefused := by
  cases point : d.joinPoint h epoch with
  | none => exact answerJoin_tooOld places confirmed point
  | some p => exact answerJoin_refused places confirmed point (.inl rfl)

end Answered

theorem joinRefused_first {d : Device} (clear : bitAt (d.reg Reg.MIR_INT_STATUS) 7 = false) :
    d.joinRefused = d.raise Reg.MIR_INT_STATUS 7 7 := by
  unfold joinRefused
  exact if_neg (Bool.eq_false_iff.1 clear)

/-- The device that has sent JOIN_ACCEPT with P, its twin attached. -/
def acceptJoin (d : Device) (p : Nat) : Device :=
  let e := d.vae "ROLE" [2, p]
  e.setMir { e.mir with joinPrev0 := true, attached := true, absent := false, syncLast := none, marking := true, markBelow := none }

@[simp] theorem acceptJoin_role (d : Device) (p : Nat) : (d.acceptJoin p).mir.role = d.mir.role := vae_role ..
@[simp] theorem acceptJoin_mem (d : Device) (p : Nat) : (d.acceptJoin p).mem = d.mem := vae_mem ..
@[simp] theorem acceptJoin_csk (d : Device) (p : Nat) : (d.acceptJoin p).csk = d.csk := vae_csk ..
@[simp] theorem acceptJoin_drm (d : Device) (p : Nat) : (d.acceptJoin p).drm = d.drm := vae_drm ..

@[simp] theorem reevalAdmit_mir (d : Device) : d.reevalAdmit.mir = d.mir :=
  reevalAdmit_keeps Device.mir raise_mir (fun _ _ _ => rfl) fun _ =>
    refillPinned_keeps Device.mir (fun _ _ _ _ => rfl) fun _ _ => rfl

section Accepted
variable {d : Device} {h epoch p : Nat} (active : d.mir.role = .active) (confirmed : d.mir.soloPend = false) (holds : h ≠ 0)
  (point : d.joinPoint h epoch = some p) (within : h ≤ p)
include active confirmed holds point within

/-- An ACTIVE unit that takes back a twin that holds something marks and seals nothing for it. -/
theorem answerJoin_accepted : d.answerJoin h epoch true = (d.acceptJoin p).reevalAdmit := by
  simp [answerJoin, acceptJoin, placesWrites, active, confirmed, point, holds, Nat.not_lt.2 within]

theorem answerJoin_attaches (enough : d.drm.short = false) :
    let e := d.answerJoin h epoch true
    e.mir.attached = true ∧ e.mir.absent = false ∧ e.mir.joinPrev0 = true ∧ e.mir.role = .active ∧ e.mem = d.mem ∧ e.csk = d.csk := by
  have short : (d.acceptJoin p).drm.short = false := by rw [acceptJoin_drm, enough]
  simp only [answerJoin_accepted active confirmed holds point within, reevalAdmit_mir, reevalAdmit_mem, reevalAdmit_csk short,
    acceptJoin_role, acceptJoin_mem, acceptJoin_csk, active, and_true]
  exact ⟨rfl, rfl, rfl⟩

end Accepted
end Device

open Device

/-- Settles O42: the pending vintages that stand, the end of a resolution, and each answer to a JOIN. -/
theorem resolutionAndJoins : Obligations.ResolutionAndJoins := by
  refine ⟨⟨?stands, ?once, ?ends⟩, ?refused, ?firstRefusal, ?unanswered, joinPoint_empty, ?sameEpoch, ?accepted⟩
  case stands => exact fun _ hTwin num held unshared => pendingStands_iff unshared hTwin num held
  case once => exact fun _ hTwin held alone resolved => resolve_resolved resolved hTwin held alone
  case ends =>
    exact fun _ hTwin held alone unresolved unshared none phase => resolve_ends none phase unresolved unshared hTwin held alone
  case refused =>
    intro d h epoch places confirmed
    refine ⟨answerJoin_otherPair places confirmed h epoch, fun p point more => ?_, fun old => ?_⟩
    · exact answerJoin_refused places confirmed point (.inr more)
    · exact answerJoin_tooOld places confirmed old
  case firstRefusal => exact fun _ clear => joinRefused_first clear
  case unanswered => exact fun _ h epoch ok silent => answerJoin_unanswered silent h epoch ok
  case sameEpoch => exact fun d _ holds => joinPoint_sameEpoch d holds
  case accepted =>
    exact fun _ _ _ _ active confirmed enough holds point within =>
      answerJoin_attaches active confirmed holds point within enough

end Sys2Proof.Machine
end

section
/-! PROOF. Doorbells and shadow tails (O11): the entries that a head index releases, and what each doorbell and each read of a shadow slot
answers. -/

namespace Sys2Proof.Machine
namespace Device

/-! ### Queues read back, and what leaves through PCIe egress (R198, R229) -/

@[simp] theorem sq?_putSq (d : Device) (fn q : Nat) (x : Sq) : (d.putSq fn q x).sq? fn q = some x := AMap.find?_put_same ..
@[simp] theorem cq?_putCq (d : Device) (fn q : Nat) (x : Cq) : (d.putCq fn q x).cq? fn q = some x := AMap.find?_put_same ..

/-- A packet that leaves an egress queue changes the poisoned words that wait for one, and the outputs. -/
theorem leaving_keeps {β : Type} (p : Device → β) (qmg : ∀ (d : Device) x, p { d with qmg := x } = p d) (emit : ∀ d o, p (emit d o) = p d)
    (d : Device) (qn : Nat) : p (d.leaving qn).2 = p d := by
  unfold leaving passing
  split
  · simp only [reduceIte, emit, qmg]
  · rfl

/-- The shadow words of an SQ go out through PCIe egress (R207). -/
theorem writeShadow_keeps {β : Type} (p : Device → β) (qmg : ∀ (d : Device) x, p { d with qmg := x } = p d) (emit : ∀ d o, p (emit d o) = p d)
    (d : Device) (fn q : Nat) (x : Sq) : p (d.writeShadow fn q x) = p d := by
  unfold writeShadow
  split
  · rw [emit, leaving_keeps p qmg emit]
  · rfl

theorem newTail_keeps {β : Type} (p : Device → β) (qmg : ∀ (d : Device) x, p { d with qmg := x } = p d) (emit : ∀ d o, p (emit d o) = p d)
    (putSq : ∀ d fn q x, p (putSq d fn q x) = p d) (d : Device) (fn q : Nat) (x : Sq) (t : Nat) : p (d.newTail fn q x t) = p d := by
  unfold newTail
  split
  · rw [writeShadow_keeps p qmg emit, putSq]
  · exact putSq ..

theorem newTail_sq? (d : Device) (fn q : Nat) (x : Sq) (t : Nat) :
    (d.newTail fn q x t).sq? fn q = some { x with tail := t, poll := x.poll || x.shadow } := by
  unfold newTail
  split
  · rw [writeShadow_keeps (fun d => d.sq? fn q) (fun _ _ => rfl) (fun _ _ => rfl), sq?_putSq]
  · exact sq?_putSq ..

/-- A queue that is polled has told the host so already (R207). -/
theorem newTail_polled (d : Device) (fn q : Nat) {x : Sq} (polled : x.poll = true) (t : Nat) :
    d.newTail fn q x t = d.putSq fn q { x with tail := t } := by
  simp [newTail, polled]

/-! ### The entries that a head index releases (R202, R204) -/

/-- A head that moves on by the slots up to `value` stands there. -/
theorem add_slots_mod {size value : Nat} (r : Nat) (lt : value < size) : (r + (value + size - r % size) % size) % size = value := by
  have below : r % size < size := Nat.mod_lt _ (by omega)
  have whole : r + (value + size - r % size) = value + size * (r / size + 1) := by
    have split := Nat.div_add_mod r size
    rw [Nat.mul_add]
    omega
  rw [Nat.add_mod_mod, whole, Nat.add_mul_mod_self_left, Nat.mod_eq_of_lt lt]

theorem cqRelease_beyond {c : Cq} {value : Nat} (beyond : 2 ^ c.log2 ≤ value ∨
      c.posted - c.released < (value + 2 ^ c.log2 - c.released % 2 ^ c.log2) % 2 ^ c.log2) :
    cqRelease c value = none := by
  unfold cqRelease
  refine if_pos (beyond.imp_right fun h => ?_)
  rwa [if_neg (by omega)]

theorem cqRelease_some {c : Cq} {value n : Nat} (h : cqRelease c value = some n) :
    value < 2 ^ c.log2 ∧ n ≤ c.posted - c.released ∧ (c.released + n) % 2 ^ c.log2 = value := by
  unfold cqRelease at h
  obtain ⟨inRange, rfl⟩ := Option.ite_none_left_eq_some.1 h |>.imp_right Option.some.inj
  obtain ⟨lt, enough⟩ := not_or.1 inRange
  have moved := add_slots_mod c.released (Nat.not_le.1 lt)
  refine ⟨Nat.not_le.1 lt, Nat.not_lt.1 enough, ?_⟩
  split
  next full =>
    rw [full.1, Nat.add_zero] at moved
    rw [Nat.add_mod_right, moved]
  next => exact moved

/-- A head that has moved on: nothing counts as unsignalled once every entry is released (R205). -/
theorem releaseCq_eq (d : Device) (fn q : Nat) (c : Cq) (n : Nat) :
    d.releaseCq fn q c n =
      let e := (d.putCq fn q { c with released := c.released + n, unsig := if c.released + n = c.posted then 0 else c.unsig }).drainCq fn q
        c.wait.length
      if q = 0 then e.aqDrain fn else e := by
  unfold releaseCq
  by_cases all : c.released + n = c.posted
  · simp only [all, if_true]
  · simp only [all, if_false]

end Device

open Device

theorem doorbellOk_iff {byte width : Nat} : doorbellOk byte width = true ↔ byte = 0 ∧ (width = 4 ∨ width = 8) := by
  simp [doorbellOk]

theorem not_doorbellOk {byte width : Nat} (odd : byte ≠ 0 ∨ width ≠ 4 ∧ width ≠ 8) : doorbellOk byte width = false := by
  rw [Bool.eq_false_iff, Ne, doorbellOk_iff]
  omega

/-! ### The commands -/

theorem exec_sqDoorbell (fn q byte width value : Nat) (s : State) :
    exec (.sqDoorbell fn q byte width value) s = execSqDoorbell fn q byte width value s := by rfl
theorem exec_cqDoorbell (fn q byte width value : Nat) (s : State) :
    exec (.cqDoorbell fn q byte width value) s = execCqDoorbell fn q byte width value s := by rfl
theorem exec_shadowTailPoll (fn q tail head : Nat) (s : State) :
    exec (.shadowTailPoll fn q tail head) s = execShadowTailPoll fn q tail head s := by rfl
theorem exec_shadowPollIdle (fn q tail : Nat) (s : State) :
    exec (.shadowPollIdle fn q tail) s = execShadowPollIdle fn q tail s := by rfl

section Doorbells
variable {fn q : Nat} {s : State} (present : s.dev.fnExists fn = true) (runs : s.dev.fnStopped fn = false)
  (taking : s.dev.portStopped = false)
include present runs taking

theorem sqDoorbell_taken {width value : Nat} {sq : Sq} (found : s.dev.sq? fn q = some sq) (wide : width = 4 ∨ width = 8)
    (lt : value < 2 ^ sq.log2) : Gives (.sqDoorbell fn q 0 width value) s (s.dev.newTail fn q sq value) := by
  refine gives_of_run (exec_sqDoorbell fn q 0 width value s) rfl ?_
  rw [if_neg (by simp [present, runs, taking])]
  simp only [found, doorbellOk_iff.2 ⟨rfl, wide⟩, Bool.not_true, Bool.false_eq_true, false_or, if_neg (Nat.not_le.2 lt)]

theorem sqDoorbell_refused {byte width value : Nat}
    (bad : ∀ sq, s.dev.sq? fn q = some sq → byte ≠ 0 ∨ (width ≠ 4 ∧ width ≠ 8) ∨ 2 ^ sq.log2 ≤ value) :
    Gives (.sqDoorbell fn q byte width value) s (s.dev.badDoorbell fn) := by
  refine gives_of_run (exec_sqDoorbell fn q byte width value s) rfl ?_
  rw [if_neg (by simp [present, runs, taking])]
  cases found : s.dev.sq? fn q with
  | none => rfl
  | some sq =>
    refine if_pos ?_
    rcases or_assoc.2 (bad sq found) with odd | beyond
    · exact .inl (by rw [not_doorbellOk odd]; rfl)
    · exact .inr beyond

theorem cqDoorbell_taken {width value n : Nat} {cq : Cq} (found : s.dev.cq? fn q = some cq) (wide : width = 4 ∨ width = 8)
    (releases : cqRelease cq value = some n) : Gives (.cqDoorbell fn q 0 width value) s (s.dev.releaseCq fn q cq n) :=
  gives_of_run (exec_cqDoorbell fn q 0 width value s) rfl
    (by simp [present, runs, taking, found, doorbellOk_iff.2 ⟨rfl, wide⟩, releases])

theorem cqDoorbell_refused {byte width value : Nat}
    (bad : ∀ cq, s.dev.cq? fn q = some cq → byte ≠ 0 ∨ (width ≠ 4 ∧ width ≠ 8) ∨ cqRelease cq value = none) :
    Gives (.cqDoorbell fn q byte width value) s (s.dev.badDoorbell fn) := by
  refine gives_of_run (exec_cqDoorbell fn q byte width value s) rfl ?_
  rw [if_neg (by simp [present, runs, taking])]
  cases found : s.dev.cq? fn q with
  | none => rfl
  | some cq =>
    rcases or_assoc.2 (bad cq found) with odd | beyond
    · simp only [not_doorbellOk odd, Bool.false_eq_true, if_false]
    · simp only [beyond, ite_self]

end Doorbells

section Shadow
variable {fn q : Nat} {s : State} (shadows : s.dev.flag Fld.HRG_SHADOW_LO_EN fn = true) (runs : s.dev.fnStopped fn = false)
include shadows runs

theorem shadowTailPoll_gives (tail head : Nat) :
    Gives (.shadowTailPoll fn q tail head) s ((s.dev.takeShadowHead fn q head).takeShadowTail fn q tail) :=
  gives_of_run (exec_shadowTailPoll fn q tail head s) rfl (if_pos (by simp [shadows, runs]))

/-- The tail of a polled SQ is taken, and nothing else of the slot (R207). -/
theorem shadowTailPoll_tail {tail : Nat} (head : Nat) {sq : Sq} (found : s.dev.sq? fn q = some sq) (shadow : sq.shadow = true)
    (polled : sq.poll = true) (lt : tail % 65536 < 2 ^ sq.log2) (settled : ∀ cq, s.dev.cq? fn q = some cq → cq.reread = false) :
    Gives (.shadowTailPoll fn q tail head) s
      ((s.dev.emit (.hostRead fn (s.dev.shadowSlot fn q) 8)).putSq fn q { sq with tail := tail % 65536 }) := by
  have headTaken : s.dev.takeShadowHead fn q head = s.dev := by
    unfold takeShadowHead
    cases found : s.dev.cq? fn q with
    | none => rfl
    | some cq => exact if_neg (by simp [settled cq found])
  have tailTaken : s.dev.takeShadowTail fn q tail =
      (s.dev.emit (.hostRead fn (s.dev.shadowSlot fn q) 8)).newTail fn q sq (tail % 65536) := by
    unfold takeShadowTail
    rw [found]
    exact if_pos (by simp [shadow, polled, lt])
  have both := shadowTailPoll_gives (q := q) shadows runs tail head
  rwa [headTaken, tailTaken, newTail_polled _ _ _ polled] at both

/-- The head of a CQ that stood full is taken; one that stands where it stood releases nothing (R204; log 8). -/
theorem shadowTailPoll_head (tail : Nat) {head n : Nat} {cq : Cq} (found : s.dev.cq? fn q = some cq) (asked : cq.reread = true)
    (releases : cqRelease { cq with reread := false } (head % 65536) = some n) :
    Gives (.shadowTailPoll fn q tail head) s
      ((if head % 65536 = cq.released % 2 ^ cq.log2 then s.dev.putCq fn q { cq with reread := false }
        else s.dev.releaseCq fn q { cq with reread := false } n).takeShadowTail fn q tail) := by
  have headTaken : s.dev.takeShadowHead fn q head = if head % 65536 = cq.released % 2 ^ cq.log2 then s.dev.putCq fn q { cq with reread := false }
      else s.dev.releaseCq fn q { cq with reread := false } n := by
    unfold takeShadowHead
    simp only [found, asked, if_true, releases]
  have both := shadowTailPoll_gives (q := q) shadows runs tail head
  rwa [headTaken] at both

/-- IDLE_US passes on an empty SQ with no new tail: polling ends (R207). -/
theorem shadowPollIdle_ends {sq : Sq} (found : s.dev.sq? fn q = some sq) (shadow : sq.shadow = true) (polled : sq.poll = true)
    (empty : sq.descs = []) (idle : hasWork sq = false) (lt : sq.tail < 65536) :
    let d := s.dev.waitUntil (sq.emptyAt + s.dev.fld Fld.HRG_POLL_IDLE_US)
    let d := (d.putSq fn q { sq with poll := false }).writeShadow fn q { sq with poll := false }
    Gives (.shadowPollIdle fn q sq.tail) s (d.emit (.hostRead fn (d.shadowSlot fn q) 8)) :=
  gives_of_run (exec_shadowPollIdle fn q sq.tail s) rfl
    (by simp [found, shadow, polled, shadows, runs, empty, idle, Nat.mod_eq_of_lt lt])

end Shadow

/-- Settles O11: the entries that a head index releases, then each doorbell and each read of a shadow slot. -/
theorem doorbells : Obligations.Doorbells := by
  refine ⟨?_, ?_, ?_, ?_, ?_, ?_, ?_, ?_, ?_⟩
  · intro fn q width value sq s present runs taking found wide lt
    refine ⟨_, sqDoorbell_taken present runs taking found wide lt, newTail_sq? .., ?_, ?_⟩
    · exact newTail_keeps Device.regs (fun _ _ => rfl) emit_regs putSq_regs ..
    · exact newTail_keeps Device.mem (fun _ _ => rfl) emit_mem putSq_mem ..
  · exact fun fn q byte width value s present runs taking bad => sqDoorbell_refused present runs taking bad
  · intro fn q width value n cq s present runs taking found wide releases
    have taken := cqDoorbell_taken present runs taking found wide releases
    rwa [releaseCq_eq] at taken
  · exact fun fn q byte width value s present runs taking bad => cqDoorbell_refused present runs taking bad
  · exact fun cq value n => cqRelease_some
  · exact fun cq value => cqRelease_beyond
  · intro fn q tail head sq s found shadow polled shadows runs lt settled
    exact ⟨_, shadowTailPoll_tail shadows runs head found shadow polled lt settled, sq?_putSq .., rfl, rfl⟩
  · exact fun fn q tail head n cq s found asked shadows runs releases => shadowTailPoll_head shadows runs tail found asked releases
  · exact fun fn q sq s found shadow polled shadows runs empty idle lt => shadowPollIdle_ends shadows runs found shadow polled empty idle lt

end Sys2Proof.Machine
end

section
/-! PROOF. The fetch of a descriptor (O12): whose turn it is, the descriptor that its queue takes, refused cells, and the arrival of host data. -/

namespace Sys2Proof.Machine

theorem AMap.getD_setD_ne {α : Type} [DecidableEq α] {dflt : Nat → α} (m : AMap α) {k x : Nat} (v : α) (h : x ≠ k) :
    AMap.getD dflt (AMap.setD dflt m k v) x = AMap.getD dflt m x := by
  unfold AMap.setD AMap.getD
  split
  · rw [AMap.find?_del_ne m h]
  · rw [AMap.find?_put_ne m v h]

/-- Registers at different offsets lie at different keys: a BAR0 offset is less than the distance between the copies of a register. -/
theorem rkey_ne {o off : Nat} (i inst : Nat) (ho : o < 67108864) (hoff : off < 67108864) (ne : o ≠ off) : rkey i o ≠ rkey inst off := by
  unfold rkey
  omega

namespace Device

/-! ### Who may be admin-capable, and what a queue refuses (R199, R209, R215) -/

theorem reg_setReg_ne (d : Device) {off o : Nat} (v : Word) {inst i : Nat} (h : rkey i o ≠ rkey inst off) :
    (d.setReg off v inst).reg o i = d.reg o i := AMap.getD_setD_ne d.regs v h

/-- Admin-capable functions follow from the links and HRG_FN_CFG (R199). -/
theorem isAdmin_congr {d e : Device} (links : e.hrg.links = d.hrg.links) (cfg : ∀ i, e.reg Reg.HRG_FN_CFG i = d.reg Reg.HRG_FN_CFG i) (fn : Nat) :
    e.isAdmin fn = d.isAdmin fn := by
  have same : ∀ i, e.flag Fld.HRG_FN_CFG_ADMIN i = d.flag Fld.HRG_FN_CFG_ADMIN i := fun i => by
    unfold flag fld
    rw [show e.reg Fld.HRG_FN_CFG_ADMIN.reg i = _ from cfg i]
  simp only [isAdmin, adminPfs, links, same]

theorem refusedBy_congr {d e : Device} {fn : Nat} (admin : e.isAdmin fn = d.isAdmin fn) (q : Nat) (dw : List Word) :
    e.refusedBy fn q dw = d.refusedBy fn q dw := by
  unfold refusedBy
  rw [admin]

theorem mem_of_nextStart {xs : List DescState} {allDone : Bool} {x : DescState} (h : nextStart xs allDone = some x) : x ∈ xs := by
  induction xs generalizing allDone with
  | nil => cases h
  | cons y ys ih =>
    unfold nextStart at h
    split at h
    · split at h
      · exact Option.some.inj h ▸ List.mem_cons_self ..
      · cases h
    · split at h
      · cases h
      · exact List.mem_cons_of_mem _ (ih h)

/-- A queue that refuses none of its descriptors stays as it is. -/
theorem reapRefused_noneRefused {d : Device} {fn q : Nat} {sq : Sq} (found : d.sq? fn q = some sq)
    (accepted : ∀ x ∈ sq.descs, d.refusedBy fn q x.dw = none) (n : Nat) : reapRefused fn q n d = d := by
  cases n with
  | zero => rfl
  | succ n =>
    unfold reapRefused
    cases next : nextStart sq.descs true with
    | none => simp only [found, next]
    | some x => simp only [found, next, accepted x (mem_of_nextStart next)]

/-! ### Whose turn it is (R203) -/

theorem mem_of_nextAfter {last x : Nat} {l : List Nat} (h : nextAfter last l = some x) : x ∈ l := by
  unfold nextAfter at h
  split at h
  next found => exact Option.some.inj h ▸ List.mem_of_find?_eq_some found
  next => exact List.mem_of_mem_head? h

/-- The turn is that of an SQ which takes part in the arbitration. -/
theorem mem_fetchable_of_fetchTurn {d : Device} {fn q : Nat} (turn : d.fetchTurn = some (fn, q)) : q ∈ d.fetchable fn := by
  unfold fetchTurn at turn
  split at turn
  · cases turn
  next g _ =>
    dsimp only at turn
    split at turn
    next p left _ =>
      split at turn
      next inHand =>
        cases turn
        exact List.contains_iff_mem.1 inHand.2
      next =>
        obtain ⟨p, next, same⟩ := Option.map_eq_some_iff.1 turn
        cases same
        exact mem_of_nextAfter next
    next =>
      obtain ⟨p, next, same⟩ := Option.map_eq_some_iff.1 turn
      cases same
      exact List.mem_of_mem_head? next

theorem exists_sq_of_mem_fetchable {d : Device} {fn q : Nat} (h : q ∈ d.fetchable fn) :
    ∃ sq, ((256 * fn + q, sq) ∈ d.hrg.sqs ∧ q < 256) ∧ d.mayFetch fn sq = true ∧ sq.refused = false := by
  obtain ⟨⟨k, sq⟩, listed, rfl⟩ := List.mem_map.1 h
  obtain ⟨mem, takesPart⟩ := List.mem_filter.1 listed
  simp only [Bool.and_eq_true, decide_eq_true_eq, Bool.not_eq_true'] at takesPart
  obtain ⟨⟨mine, may⟩, fresh⟩ := takesPart
  refine ⟨sq, ⟨?_, Nat.mod_lt _ (by decide)⟩, may, fresh⟩
  rwa [← mine, Nat.div_add_mod]

/-! ### A descriptor that its queue takes (R203, R225) -/

/-- The descriptor as its queue takes it. -/
def fetchedDesc (sq : Sq) (dw : List Word) (fetchNo : Nat) : DescState :=
  { seq := sq.fetchSeq, dw := dw, phase := .fetched, need := hostNeed dw, data := [], hostErr := false, parts := 1, status := 0, r0 := 0, r1 := 0,
    startedAt := 0, sgl := [], fetchNo := fetchNo }

/-- The packet that its cells make up. -/
def fetchedPkt (fn q : Nat) (sq : Sq) (dw : List Word) : Pkt :=
  { tok := .desc fn q sq.fetchSeq, owner := fn, cells := cellsFor (min (hostNeed dw) 1048576), whole := hostNeed dw == 0, poison := false,
    void := false, len := 64 + min (hostNeed dw) 1048576 }

/-- The device with the descriptor in its queue and its cells reserved. -/
def admitDesc (d : Device) (fn q : Nat) (sq : Sq) (dw : List Word) : Device :=
  let e := (d.unperch.addPkt sq.qmq (fetchedPkt fn q sq dw)).putSq fn q
    { sq with fetchSeq := sq.fetchSeq + 1, descs := sq.descs ++ [fetchedDesc sq dw d.hrg.fetches], refused := false }
  { e with hrg := { e.hrg with fetches := e.hrg.fetches + 1 } }

/-- The device that asks for the host data that a descriptor needs (R208). -/
def askHost (d : Device) (fn : Nat) (dw : List Word) : Device :=
  if hostNeed dw = 0 then d else d.emit (.hostRead fn (dHaddr dw) (hostNeed dw))

theorem askHost_keeps {β : Type} (p : Device → β) (emit : ∀ d o, p (emit d o) = p d) (d : Device) (fn : Nat) (dw : List Word) :
    p (d.askHost fn dw) = p d := by
  unfold askHost
  rw [apply_ite p, emit, ite_self]

theorem askHost_out (d : Device) (fn : Nat) (dw : List Word) :
    (d.askHost fn dw).out = if hostNeed dw = 0 then d.out else .hostRead fn (dHaddr dw) (hostNeed dw) :: d.out :=
  apply_ite Device.out ..

section Keeps
variable {β : Type} (p : Device → β) (qmg : ∀ (d : Device) x, p { d with qmg := x } = p d)
  (peak : ∀ (d : Device) v qn, p (d.setFld Fld.QMG_Q_PEAK_PEAK v qn) = p d)
include qmg peak

/-- The reservation of a packet's cells changes the queue manager and the queue's peak. -/
theorem addPkt_keeps (d : Device) (qn : Nat) (k : Pkt) : p (d.addPkt qn k) = p d := by
  have noted : ∀ d : Device, p (d.notePeak qn) = p d := fun d => by
    unfold notePeak
    dsimp only
    split
    · exact peak ..
    · rfl
  unfold addPkt
  rw [noted, setQueue, qmg, qmg]

theorem admitDesc_keeps (sup : ∀ (d : Device) x, p { d with sup := x } = p d) (put : ∀ d fn q x, p (putSq d fn q x) = p d)
    (count : ∀ (d : Device) n, p { d with hrg := { d.hrg with fetches := n } } = p d) (d : Device) (fn q : Nat) (sq : Sq) (dw : List Word) :
    p (d.admitDesc fn q sq dw) = p d := by
  unfold admitDesc
  rw [count, put, addPkt_keeps p qmg peak, unperch, sup]

end Keeps

section Admit
variable {d : Device} {fn q : Nat} {sq : Sq} {dw : List Word}

@[simp] theorem admitDesc_out : (d.admitDesc fn q sq dw).out = d.out :=
  admitDesc_keeps Device.out (fun _ _ => rfl) (fun _ _ _ => setFld_out ..) (fun _ _ => rfl) putSq_out (fun _ _ => rfl) ..

@[simp] theorem admitDesc_mem : (d.admitDesc fn q sq dw).mem = d.mem :=
  admitDesc_keeps Device.mem (fun _ _ => rfl) (fun _ _ _ => setFld_mem ..) (fun _ _ => rfl) putSq_mem (fun _ _ => rfl) ..

theorem admitDesc_sq? : (d.admitDesc fn q sq dw).sq? fn q =
    some { sq with fetchSeq := sq.fetchSeq + 1, descs := sq.descs ++ [fetchedDesc sq dw d.hrg.fetches], refused := false } :=
  sq?_putSq ..

theorem admitDesc_isAdmin (g : Nat) : (d.admitDesc fn q sq dw).isAdmin g = d.isAdmin g := by
  refine isAdmin_congr ?_ (fun i => ?_) g
  · exact admitDesc_keeps (fun d => d.hrg.links) (fun _ _ => rfl) (fun _ _ _ => rfl) (fun _ _ => rfl) (fun _ _ _ _ => rfl) (fun _ _ => rfl) ..
  · exact admitDesc_keeps (fun d => d.reg Reg.HRG_FN_CFG i) (fun _ _ => rfl)
      (fun d v qn => reg_setReg_ne d _ (rkey_ne i qn (by decide) (by decide) (by decide)))
      (fun _ _ => rfl) (fun _ _ _ _ => rfl) (fun _ _ => rfl) ..

/-- A descriptor that its queue accepts, as it does those before it, and whose cells are granted, is taken. -/
theorem fetchDesc_admits {words : List Word} (found : d.sq? fn q = some sq) (may : d.mayFetch fn sq = true)
    (hdw : dw = (words ++ List.replicate 16 0).take 16)
    (granted : d.mayReserve sq.qmq (cellsFor (min (hostNeed dw) 1048576)) fn = true)
    (accepted : d.refusedBy fn q dw = none) (before : ∀ x ∈ sq.descs, d.refusedBy fn q x.dw = none) :
    d.fetchDesc fn q words = (d.admitDesc fn q sq dw).askHost fn dw := by
  have same : ∀ y, (d.admitDesc fn q sq dw).refusedBy fn q y = d.refusedBy fn q y := refusedBy_congr (admitDesc_isAdmin fn) q
  have sameAsked : ∀ y, ((d.admitDesc fn q sq dw).askHost fn dw).refusedBy fn q y = d.refusedBy fn q y := fun y => by
    exact (askHost_keeps (fun e => e.refusedBy fn q y) (fun _ _ => rfl) ..).trans (same y)
  have steps : d.fetchDesc fn q words =
      (let e := d.admitDesc fn q sq dw
       let e := if hostNeed dw = 0 ∨ (e.refusedBy fn q dw).isSome then e else e.emit (.hostRead fn (dHaddr dw) (hostNeed dw))
       reapRefused fn q 65536 (if (e.refusedBy fn q dw).isSome then e.updDesc fn q sq.fetchSeq (fun y => { y with need := 0 }) else e)) := by
    subst hdw
    unfold fetchDesc
    simp only [found, may, granted, Bool.not_true, Bool.false_eq_true, if_false]
    rfl
  have asks : (if hostNeed dw = 0 ∨ ((d.admitDesc fn q sq dw).refusedBy fn q dw).isSome then d.admitDesc fn q sq dw
      else (d.admitDesc fn q sq dw).emit (.hostRead fn (dHaddr dw) (hostNeed dw))) = (d.admitDesc fn q sq dw).askHost fn dw := by
    simp only [same, accepted, Option.isSome_none, Bool.false_eq_true, or_false]
    rfl
  rw [steps]
  dsimp only
  rw [asks, sameAsked, accepted, if_neg (by simp)]
  refine reapRefused_noneRefused ((askHost_keeps (fun e : Device => e.sq? fn q) (fun _ _ => rfl) ..).trans admitDesc_sq?) (fun x hx => ?_) _
  rw [sameAsked]
  rcases List.mem_append.1 hx with old | new
  · exact before x old
  · rw [List.mem_singleton.1 new]
    exact accepted

theorem fetchDesc_refused {words : List Word} (found : d.sq? fn q = some sq) (may : d.mayFetch fn sq = true)
    (hdw : dw = (words ++ List.replicate 16 0).take 16)
    (refused : d.mayReserve sq.qmq (cellsFor (min (hostNeed dw) 1048576)) fn = false) :
    d.fetchDesc fn q words = (d.refuseCells sq.qmq (cellsFor (min (hostNeed dw) 1048576))).putSq fn q { sq with refused := true } := by
  subst hdw
  unfold fetchDesc
  simp only [found, may, refused, Bool.not_true, Bool.not_false, Bool.false_eq_true, if_false, if_true]

end Admit
end Device

open Device

/-! ### The commands -/

theorem exec_descriptorFetch (fn q : Nat) (words : List Word) (s : State) :
    exec (.descriptorFetch fn q words) s = execDescriptorFetch fn q words s := by rfl
theorem exec_cellReserveRetry (fn q : Nat) (words : List Word) (s : State) :
    exec (.cellReserveRetry fn q words) s = execCellReserveRetry fn q words s := by rfl
theorem exec_hostReadCompletion (fn q seq : Nat) (sgl : List (Nat × Nat × Nat)) (data : List Byte) (err : Bool) (s : State) :
    exec (.hostReadCompletion fn q seq sgl data err) s = execHostReadCompletion fn q seq sgl data err s := by rfl

section Fetch
variable {fn q : Nat} (words : List Word) {s : State}

theorem descriptorFetch_inTurn (turn : s.dev.fetchTurn = some (fn, q)) :
    Gives (.descriptorFetch fn q words) s ((s.dev.useTurn fn q).fetchDesc fn q words) :=
  gives_of_run (exec_descriptorFetch fn q words s) rfl (if_pos turn)

variable {sq : Sq} (found : s.dev.sq? fn q = some sq)
include found

theorem descriptorFetch_outOfTurn (turn : s.dev.fetchTurn ≠ some (fn, q)) :
    Gives (.descriptorFetch fn q words) s (s.dev.rereadHead fn sq.cq) :=
  gives_of_run (exec_descriptorFetch fn q words s) rfl (by simp only [turn, if_false, found])

theorem cellReserveRetry_refused (refused : sq.refused = true) :
    Gives (.cellReserveRetry fn q words) s (s.dev.fetchDesc fn q words) :=
  gives_of_run (exec_cellReserveRetry fn q words s) rfl (by simp only [found, refused, if_true])

theorem cellReserveRetry_ignored (fresh : sq.refused = false) : Gives (.cellReserveRetry fn q words) s s.dev :=
  gives_of_run (exec_cellReserveRetry fn q words s) rfl (by simp only [found, fresh, Bool.false_eq_true, if_false])

end Fetch

/-- Settles O12: the turn, the descriptor that is taken or refused its cells, and the host data that arrives. -/
theorem descriptorFetches : Obligations.DescriptorFetches := by
  refine ⟨?_, ?_, ?_, ?_⟩
  · exact fun fn q words sq s found => ⟨descriptorFetch_inTurn words, descriptorFetch_outOfTurn words found,
      cellReserveRetry_refused words found, cellReserveRetry_ignored words found⟩
  · intro fn q words sq d found may
    refine ⟨fun granted accepted before => ?_, fetchDesc_refused found may rfl⟩
    rw [fetchDesc_admits found may rfl granted accepted before]
    refine ⟨⟨fetchedDesc sq _ d.hrg.fetches, ?_, rfl, rfl, rfl, rfl, rfl⟩, ?_, ?_⟩
    · exact (askHost_keeps (fun e : Device => e.sq? fn q) (fun _ _ => rfl) ..).trans admitDesc_sq?
    · rw [askHost_out, admitDesc_out]
    · exact (askHost_keeps Device.mem emit_mem ..).trans admitDesc_mem
  · exact fun d fn q turn => exists_sq_of_mem_fetchable (mem_fetchable_of_fetchTurn turn)
  · intro fn q seq sgl data err sq x s runs found desc phase need
    exact gives_of_run (exec_hostReadCompletion fn q seq sgl data err s) rfl (by simp [runs, found, desc, phase, need])

end Sys2Proof.Machine
end

section
/-! PROOF. The completion-count word (O13) as stated fails: PCIe egress may carry a poisoned word, and the packet of the completion-count word that
meets it says so in the outputs as well (R229). -/

namespace Sys2Proof.Machine
namespace Device

theorem emit_out (d : Device) (o : Out) : (d.emit o).out = o :: d.out := rfl

/-- The next packet of an egress queue leaves with the poisoned word that waits for one (R229). -/
theorem leaving_out_of_poisoned {d : Device} {qn : Nat} (poisoned : d.qmg.bad.contains qn = true) :
    (d.leaving qn).2.out = .badWord qn :: d.out := by
  simp only [leaving, passing, poisoned, if_true, emit_out]

/-- The device that writes the completion-count word of an SQ (R206). -/
def writeCcw (d : Device) (fn q : Nat) (sq : Sq) : Device :=
  let e := d.waitUntil (sq.ccwAt + 1)
  ((e.putSq fn q { sq with ccwDue := false, ccwAt := e.now }).leaving (pcieQ fn)).2.emit
    (.hostWrite fn sq.ccwAddr (leBytes 4 sq.count ++ leBytes 4 0))

theorem writeCcw_out_of_poisoned {d : Device} {fn : Nat} (poisoned : d.qmg.bad.contains (pcieQ fn) = true) (q : Nat) (sq : Sq) :
    (d.writeCcw fn q sq).out =
      .hostWrite fn sq.ccwAddr (leBytes 4 sq.count ++ leBytes 4 0) :: .badWord (pcieQ fn) :: d.out := by
  rw [writeCcw, emit_out, leaving_out_of_poisoned, putSq_out, waitUntil_out]
  rwa [putSq_qmg, waitUntil_qmg]

end Device

open Device

theorem exec_ccwWrite (fn q : Nat) (s : State) : exec (.ccwWrite fn q) s = execCcwWrite fn q s := by rfl

theorem ccwWrite_gives {fn q : Nat} {sq : Sq} {s : State} (found : s.dev.sq? fn q = some sq) (en : sq.ccwEn = true) (due : sq.ccwDue = true)
    (may : s.dev.mayWriteWords fn q = true) (runs : s.dev.fnStopped fn = false) (posted : s.dev.entryWaits fn q sq = false) :
    Gives (.ccwWrite fn q) s (s.dev.writeCcw fn q sq) :=
  gives_of_run (exec_ccwWrite fn q s) rfl (by
    simp only [found]
    exact if_pos (by simp [en, due, may, runs, posted]))

/-- A command answers one state: the device that it gives has every property that it reaches. -/
theorem of_reaches_of_gives {i : Instr} {s : State} {p : Device → Prop} {d : Device} (reaches : Reaches i s p) (gives : Gives i s d) : p d := by
  obtain ⟨e, givesE, holds⟩ := reaches
  have same : e = d := congrArg State.dev (Host.Outcome.next.inj (givesE.symm.trans gives))
  exact same ▸ holds

/-- SQ 1 of function 0 whose completion-count word is due. -/
def ccwSq : Sq := { newSq 4096 6 1 0x400 false false true 0x8000 1 0 with count := 1, ccwDue := true }

/-- A device in which an uncorrectable cell word has met the PCIe egress queue of link 0: the next packet that leaves there carries it. -/
def poisonedEgress : Device :=
  { Device.reset with
    hrg := { Device.reset.hrg with sqs := [(1, ccwSq)], cqs := [(1, newCq 8192 6 false 0 0 0)] }
    qmg := { Device.reset.qmg with bad := [0x100] } }

/-- Refutes O13: on `poisonedEgress` the write of SQ 1's completion-count word drives `badWord 0x100` too, and the clause has no place for it. -/
theorem not_completionWords : ¬ Obligations.CompletionWords := by
  intro h
  have gives := ccwWrite_gives (fn := 0) (q := 1) (sq := ccwSq) (s := { dev := poisonedEgress, pending := [] }) rfl rfl rfl rfl rfl rfl
  obtain ⟨said, -⟩ := of_reaches_of_gives (h.2 0 1 ccwSq { dev := poisonedEgress, pending := [] } rfl rfl rfl rfl rfl rfl) gives
  rw [writeCcw_out_of_poisoned rfl] at said
  exact absurd (congrArg List.length said) (by simp)

end Sys2Proof.Machine
end

section
/-! PROOF. Completion entries (O14) as stated fail: an entry whose CQ has room waits all the same while PCIe egress has none (R230, R237). -/

namespace Sys2Proof.Machine

open Device

/-- A NOP that runs. -/
def runningNop : DescState :=
  { seq := 0, dw := List.replicate 16 0, phase := .running, need := 0, data := [], hostErr := false, parts := 1, status := 0, r0 := 0, r1 := 0,
    startedAt := 0, sgl := [] }

/-- A device whose SQ 1 of function 0 runs a NOP, with room in its CQ, while the PCIe egress queue of link 0 is broken (R230). -/
def brokenEgress : Device :=
  { Device.reset with
    hrg := { Device.reset.hrg with
      sqs := [(1, { newSq 4096 6 1 0x400 false false false 0 1 0 with tail := 1, fetchSeq := 1, descs := [runningNop] })]
      cqs := [(1, newCq 8192 6 false 0 0 0)] }
    qmg := { Device.reset.qmg with queues := [(0x100, { qmqDefault 0x100 with state := 3 })] } }

/-- The NOP completes, and nothing leaves the device: its entry waits. -/
theorem brokenEgress_completeOne_out : (brokenEgress.completeOne 0 1 runningNop.seq 0 0 0).out = [] := by rfl

/-- Refutes O14: on `brokenEgress` the NOP that completes posts no entry, though its CQ has room. -/
theorem not_completionEntries : ¬ Obligations.CompletionEntries := by
  intro h
  obtain ⟨posted, -⟩ := h.1 brokenEgress 0 1 0 0 0 _ _ runningNop [] rfl rfl rfl rfl rfl rfl rfl rfl rfl (.inl rfl) rfl
  rw [brokenEgress_completeOne_out] at posted
  cases posted

end Sys2Proof.Machine
end

section
/-! PROOF. The queue manager (O16) as stated fails: the interrupt that a broken link word raises may set the pending bit of a masked vector, which
lies in the host rings' state (R200, R230). -/

namespace Sys2Proof.Machine

open Device

/-- The packet of one cell that queue 0x400 holds: cell 0. -/
def cellPkt : Pkt :=
  { tok := .desc 0 1 0, owner := 0, cells := 1, whole := true, poison := false, void := false, runs := [(0, 1)], len := 64 }

/-- A device in service with queue 0x400 live, whose PF 0 has block interrupts enabled on vector 0 but left masked, and QMG's interrupt of a broken
link word enabled. -/
def maskedVector : Device :=
  ({ Device.reset with
      hubOn := true
      hrg := { Device.reset.hrg with links := [(0, { up := true, vfEn := false, numVfs := 0 })] }
      qmg := { Device.reset.qmg with queues := [(0x400, { state := 1, cls := 3, owner := 0, pkts := [cellPkt] })], free := [(1, 262143)] }
    }.setFld Fld.HRG_FN_EVT_EN 1).setReg Reg.QMG_INT_ENABLE 0x10

/-- The broken link word leaves vector 0 of PF 0 pending. -/
theorem maskedVector_brokenWord_msixPend : (maskedVector.brokenWord 0x400 0).hrg.msixPend = [0] := by rfl

/-- Refutes O16: on `maskedVector` a broken link word of queue 0x400 sets a pending bit, so the host rings' state does not stay as it was. -/
theorem not_queueManagerCommands : ¬ Obligations.QueueManagerCommands := by
  intro h
  obtain ⟨⟨-, broken, -⟩, -⟩ := h
  obtain ⟨-, -, -, -, -, -, kept, -⟩ := broken maskedVector 0x400 0 rfl
  have pending := maskedVector_brokenWord_msixPend
  rw [kept] at pending
  cases pending

end Sys2Proof.Machine
end

section
/-! PROOF. The cipher engine and its alarms (O53): how a CIPHER descriptor starts, E alarms and the restoration after one, and what a tamper
input that is low does. -/

namespace Sys2Proof.Machine
namespace Device

/-! ### The start of a CIPHER descriptor (R214, R367, R369, R370) -/

section Start
variable {d : Device} {fn q : Nat} {x : DescState}

theorem cipherStart_badForm (form : cipherForm x.dw = false) : d.cipherStart fn q x = d.complete fn q x.seq stRange 0 0 :=
  if_pos (by rw [form]; rfl)

variable (form : cipherForm x.dw = true)
include form

theorem cipherStart_barred (barred : d.flag Fld.CPH_CTRL_HOST_EN = false ∨ d.slotPermits (cipSlot x.dw) 0 = false) :
    d.cipherStart fn q x = d.complete fn q x.seq stProt 0 0 := by
  have bars : (!d.flag Fld.CPH_CTRL_HOST_EN || !d.slotPermits (cipSlot x.dw) 0) = true := by
    rcases barred with off | no
    · rw [off]; rfl
    · rw [no, Bool.not_false, Bool.or_true]
  simp only [cipherStart, form, bars, Bool.not_true, Bool.false_eq_true, if_false, if_true]

section Permitted
variable (on : d.flag Fld.CPH_CTRL_HOST_EN = true) (permits : d.slotPermits (cipSlot x.dw) 0 = true)
include on permits

theorem cipherStart_fenced (cask : dCaskIo x.dw = true ∨ cipToCask x.dw = true) (fenced : d.placesWrites = false) :
    d.cipherStart fn q x = d.complete fn q x.seq stFenced 0 0 := by
  have uses : (dCaskIo x.dw || cipToCask x.dw) = true := Bool.or_eq_true_iff.2 cask
  simp [cipherStart, form, on, permits, uses, fenced]

theorem cipherStart_hostInput (host : dCaskIo x.dw = false) (mayPlace : cipToCask x.dw = false ∨ d.placesWrites = true) :
    d.cipherStart fn q x = d.cipherGo fn q x := by
  have serves : (cipToCask x.dw && !d.placesWrites) = false := by rcases mayPlace with no | places <;> simp [*]
  simp [cipherStart, form, on, permits, host, serves]

theorem cipherStart_caskInput (cask : dCaskIo x.dw = true) (places : d.placesWrites = true) :
    let r := d.startRead (.sq fn q) (.desc fn q x.seq) (.ring fn) (dCask x.dw) (dOffset x.dw) (dLength x.dw) (fun p => .cipherIn p)
    d.cipherStart fn q x = if r.2 = stOk then r.1 else r.1.complete fn q x.seq r.2 0 0 := by
  simp [cipherStart, form, on, permits, cask, places]

end Permitted
end Start
end Device

open Device

/-! ### The commands -/

theorem exec_cipher (fn q : Nat) (s : State) : exec (.cipher fn q) s = execCipher fn q s := by rfl
theorem exec_eAlarm (source : Nat) (s : State) : exec (.eAlarm source) s = execEAlarm source s := by rfl
theorem exec_keyRestoreDone (s : State) : exec .keyRestoreDone s = execKeyRestoreDone s := by rfl
theorem exec_tAlarm (levels : Nat) (s : State) : exec (.tAlarm levels) s = execTAlarm levels s := by rfl

/-- A CIPHER descriptor that its queue takes starts. -/
theorem cipher_starts {fn q : Nat} {x : DescState} {s : State} {d : Device} (takes : s.dev.takesIo fn q 0x09 x false = true)
    (starts : (s.dev.startDesc fn q x).cipherStart fn q x = d) : Gives (.cipher fn q) s d.settle := by
  subst starts
  exact gives_of_run (exec_cipher fn q s) rfl (ioDesc_takes takes)

theorem startDesc_placesWrites (d : Device) (fn q : Nat) (x : DescState) : (d.startDesc fn q x).placesWrites = d.placesWrites := by
  simp [placesWrites]

section EAlarm
variable {source : Nat} {s : State} (on : s.dev.sup.supOn = true)
include on

/-- A source of R379 that was clear acts; the loss of REFCLK100 starts bottling too (R28). -/
theorem eAlarm_gives (hub : s.dev.hubOn = true) (lo : 1 ≤ source) (hi : source ≤ 5) (clear : s.dev.cph.quiet.find? source = none) :
    Gives (.eAlarm source) s (if source = 4 then (s.dev.eAlarm source).refclkBottle.settle else (s.dev.eAlarm source).settle) :=
  gives_of_runSup on (exec_eAlarm source s) rfl (by
    simp only [hub, clear]
    exact if_neg (by simp; omega))

/-- A source that acted less than 1 ms ago has not been clear for 1 ms (R379). -/
theorem eAlarm_soon {t : Nat} (acted : s.dev.cph.quiet.find? source = some t) (soon : s.dev.now < t + 1000) :
    Gives (.eAlarm source) s s.dev :=
  gives_of_runSup on (exec_eAlarm source s) rfl (if_pos (by simp [acted, soon]))

end EAlarm

/-! ### Tamper inputs (R382, R383, R386, R554) -/

/-- The tamper inputs that are low and enabled. -/
def Device.tamperHit (d : Device) (levels : Nat) : Nat := Nat.land (15 - levels % 16) (d.fld Fld.SUP_TAMPER_CFG_EN)

/-- The inputs among them that are not latched yet. -/
def Device.tamperNew (d : Device) (levels : Nat) : Nat := Nat.land (d.tamperHit levels) (15 - d.fld Fld.SUP_TAMPER_STATUS_LATCH)

/-- The device with the levels and the latches in SUP_TAMPER_STATUS. -/
def Device.noteTamper (d : Device) (levels : Nat) : Device :=
  (d.setFld Fld.SUP_TAMPER_STATUS_PIN levels).setFld Fld.SUP_TAMPER_STATUS_LATCH
    (Nat.lor (d.fld Fld.SUP_TAMPER_STATUS_LATCH) (d.tamperHit levels))

@[simp] theorem Device.noteTamper_sup (d : Device) (levels : Nat) : (d.noteTamper levels).sup = d.sup := by
  simp [noteTamper]

/-- The device on VBAT alone that keeps an alarm for the next power-up (R385, R554). -/
def Device.keepTamper (d : Device) (new : Nat) : Device :=
  (d.setFld Fld.SUP_TAMPER_STATUS_VBAT_EVT 1).setCph { d.cph with vbatLatch := Nat.lor d.cph.vbatLatch new }

section TAlarm
variable {levels : Nat} {s : State}

theorem tAlarm_unpowered (off : s.dev.sup.supOn = false) (low : s.dev.sup.vbat < 1000) : Gives (.tAlarm levels) s s.dev :=
  gives_of_run (exec_tAlarm levels s) rfl (if_pos (by simp [off, low]))

/-- While SUP or its battery cell has power the levels are noted, and an input that latches acts (R383, R385). -/
theorem tAlarm_powered (power : s.dev.sup.supOn = true ∨ 1000 ≤ s.dev.sup.vbat) :
    Gives (.tAlarm levels) s
      (if s.dev.tamperNew levels = 0 then s.dev.noteTamper levels
       else if (s.dev.noteTamper levels).sup.supOn then (s.dev.noteTamper levels).tamperAct
       else (s.dev.noteTamper levels).keepTamper (s.dev.tamperNew levels)) :=
  gives_of_run (exec_tAlarm levels s) rfl (if_neg (by
    rcases power with on | charged
    · simp [on]
    · simp [Nat.not_lt.2 charged]))

theorem tAlarm_nothingNew (on : s.dev.sup.supOn = true) (none : s.dev.tamperNew levels = 0) :
    Gives (.tAlarm levels) s (s.dev.noteTamper levels) := by
  have gives := tAlarm_powered (levels := levels) (.inl on)
  rwa [if_pos none] at gives

section Latches
variable (new : s.dev.tamperNew levels ≠ 0)
include new

theorem tAlarm_acts (on : s.dev.sup.supOn = true) : Gives (.tAlarm levels) s (s.dev.noteTamper levels).tamperAct := by
  have gives := tAlarm_powered (levels := levels) (.inl on)
  rwa [if_neg new, noteTamper_sup, if_pos on] at gives

theorem tAlarm_zeroizes (on : s.dev.sup.supOn = true) (policy : (s.dev.noteTamper levels).flag Fld.SUP_TAMPER_CFG_POLICY = true) :
    Gives (.tAlarm levels) s ((s.dev.noteTamper levels).raiseQuiet Reg.CPH_INT_STATUS 1).zeroize := by
  have gives := tAlarm_acts new on
  rwa [tamperAct, if_pos policy] at gives

theorem tAlarm_warns (on : s.dev.sup.supOn = true) (policy : (s.dev.noteTamper levels).flag Fld.SUP_TAMPER_CFG_POLICY = false) :
    Gives (.tAlarm levels) s ((s.dev.noteTamper levels).raise Reg.CPH_INT_STATUS 1 6) := by
  have gives := tAlarm_acts new on
  rwa [tamperAct, if_neg (Bool.eq_false_iff.1 policy)] at gives

theorem tAlarm_onVbat (off : s.dev.sup.supOn = false) (charged : 1000 ≤ s.dev.sup.vbat) :
    Gives (.tAlarm levels) s ((s.dev.noteTamper levels).keepTamper (s.dev.tamperNew levels)) := by
  have gives := tAlarm_powered (levels := levels) (.inr charged)
  rwa [if_neg new, noteTamper_sup, if_neg (Bool.eq_false_iff.1 off)] at gives

end Latches
end TAlarm

/-- Settles O53: the start of a CIPHER descriptor rule by rule, then each alarm and the restoration. -/
theorem cipherAndAlarms : Obligations.CipherAndAlarms := by
  refine ⟨?_, ?_, ?_, ?_, ?_, ?_⟩
  · intro fn q x s takes
    have places := startDesc_placesWrites s.dev fn q x
    refine ⟨fun form => ?_, fun form barred => ?_, fun form on permits => ⟨fun cask fenced => ?_, fun host mayPlace => ?_, fun cask serves => ?_⟩⟩
    · exact cipher_starts takes (cipherStart_badForm form)
    · exact cipher_starts takes (cipherStart_barred form barred)
    · exact cipher_starts takes (cipherStart_fenced form on permits cask (places.trans fenced))
    · exact cipher_starts takes (cipherStart_hostInput form on permits host (mayPlace.imp_right places.trans))
    · exact cipher_starts takes (cipherStart_caskInput form on permits cask (places.trans serves))
  · intro source s on hub lo hi clear
    have gives := eAlarm_gives on hub lo hi clear
    exact ⟨fun other => by rwa [if_neg other] at gives, fun refclk => by rwa [if_pos refclk] at gives⟩
  · exact fun source t s on acted soon => eAlarm_soon on acted soon
  · exact fun t s on alarm => gives_of_runSup on (exec_keyRestoreDone s) rfl (by simp only [alarm])
  · exact fun s on quiet => gives_of_runSup on (exec_keyRestoreDone s) rfl (by simp only [quiet])
  · exact fun levels s => ⟨tAlarm_nothingNew, fun on new policy => tAlarm_zeroizes new on policy, fun on new policy => tAlarm_warns new on policy,
      fun off charged new => tAlarm_onVbat new off charged, tAlarm_unpowered⟩

end Sys2Proof.Machine
end

section
/-! PROOF. RoCEv2 requests at a QP (O46): what a request packet meets before service opens and at, below and above the expected PSN. -/

namespace Sys2Proof.Machine

theorem AMap.find?_upd_same {α : Type} {m : AMap α} {k : Nat} {v : α} (found : m.find? k = some v) (f : α → α) :
    (m.upd k f).find? k = some (f v) := by
  simp [upd, found]

namespace Device

theorem updQp_find? {d : Device} {i : Nat} {q : Qp} (found : d.net.qps.find? i = some q) (f : Qp → Qp) :
    (d.updQp i f).net.qps.find? i = some (f q) :=
  AMap.find?_upd_same found f

theorem hearsRoce_found {d : Device} {p : RoceIn} {q : Qp} (hears : d.hearsRoce p q = true) :
    (d.heardRoce p).net.qps.find? (p.qpn % 1048576) = some q := by
  simp only [hearsRoce, Bool.and_eq_true, beq_iff_eq] at hears
  exact hears.2

/-! ### What a request packet meets (R254, R256, R257) -/

section Request
variable {d : Device} {p : RoceIn} {q : Qp} (hears : d.hearsRoce p q = true) (receives : q.state = 2 ∨ q.state = 3)
  (clear : q.naked = false) {dup go : Device → Nat → Qp → Device}
include hears receives clear

/-- Before service opens, and at a unit that places no writes, an RNR NAK answers for the PSN that the QP expects. -/
theorem roceReq_closed (closed : (d.heardRoce p).rst.svcOpen = false ∨ (d.heardRoce p).placesWrites = false) :
    d.roceReq p dup go = ((d.heardRoce p).updQp (p.qpn % 1048576) (fun q => { q with naked := true })).qpFrame q "NAK"
      [q.ePsn, 0x20 + (d.heardRoce p).fld Fld.NET_CTRL_RNR_FENCE] := by
  have shut : (!(d.heardRoce p).rst.svcOpen || !(d.heardRoce p).placesWrites) = true := by rcases closed with no | no <;> simp [no]
  rw [roceReq, rocePkt_hears hears, if_neg (by omega), clear, Bool.false_and, if_neg Bool.false_ne_true, if_pos shut]

section Serving
variable (opened : (d.heardRoce p).rst.svcOpen = true) (places : (d.heardRoce p).placesWrites = true)
include opened places

/-- While the unit serves, the PSN decides. -/
theorem roceReq_serving :
    d.roceReq p dup go =
      let e := d.heardRoce p
      let i := p.qpn % 1048576
      if p.psn = q.ePsn then roceRun i 4096 (go (e.updQp i (fun q => { q with naked := false })) i q)
      else if seqBefore 24 p.psn q.ePsn then roceRun i 4096 (dup e i q)
      else roceRun i 4096 (e.roceNakAt i q.ePsn rocePsnErr) := by
  have same : { q with naked := false } = q := by rw [← clear]
  have found := updQp_find? (hearsRoce_found hears) (fun q => { q with naked := false })
  rw [same] at found
  rw [roceReq, rocePkt_hears hears, if_neg (by omega), clear, Bool.false_and, if_neg Bool.false_ne_true,
    if_neg (by simp [opened, places])]
  simp only [Bool.false_and, Bool.false_eq_true, if_false, found]

theorem roceReq_expected (expected : p.psn = q.ePsn) :
    d.roceReq p dup go = roceRun (p.qpn % 1048576) 4096
      (go ((d.heardRoce p).updQp (p.qpn % 1048576) (fun q => { q with naked := false })) (p.qpn % 1048576) q) := by
  rw [roceReq_serving hears receives clear opened places]
  exact if_pos expected

theorem roceReq_duplicate (ne : p.psn ≠ q.ePsn) (before : seqBefore 24 p.psn q.ePsn = true) :
    d.roceReq p dup go = roceRun (p.qpn % 1048576) 4096 (dup (d.heardRoce p) (p.qpn % 1048576) q) := by
  rw [roceReq_serving hears receives clear opened places]
  exact (if_neg ne).trans (if_pos before)

theorem roceReq_above (ne : p.psn ≠ q.ePsn) (above : seqBefore 24 p.psn q.ePsn = false) :
    d.roceReq p dup go = roceRun (p.qpn % 1048576) 4096 ((d.heardRoce p).roceNakAt (p.qpn % 1048576) q.ePsn rocePsnErr) := by
  rw [roceReq_serving hears receives clear opened places]
  exact (if_neg ne).trans (if_neg (Bool.eq_false_iff.1 above))

end Serving
end Request
end Device

open Device

/-! ### The commands: each is a request with its own duplicate and its own effect -/

theorem exec_roceSend (p : RoceIn) (place variant : Nat) (bytes : List Byte) (s : State) :
    exec (.roceSend p place variant bytes) s = execRoceSend p place variant bytes s := by rfl
theorem exec_roceRdmaWrite (p : RoceIn) (place handle off dmaLen : Nat) (hasImm : Bool) (imm : Nat) (bytes : List Byte) (s : State) :
    exec (.roceRdmaWrite p place handle off dmaLen hasImm imm bytes) s = execRoceRdmaWrite p place handle off dmaLen hasImm imm bytes s := by rfl
theorem exec_roceRdmaReadReq (p : RoceIn) (handle off len : Nat) (s : State) :
    exec (.roceRdmaReadReq p handle off len) s = execRoceRdmaReadReq p handle off len s := by rfl
theorem exec_roceAtomic (p : RoceIn) (kind handle off a b : Nat) (s : State) :
    exec (.roceAtomic p kind handle off a b) s = execRoceAtomic p kind handle off a b s := by rfl

/-- A command that is a request answers what its packet meets. -/
theorem gives_of_roceReq {c : Instr} {p : RoceIn} {dup go : Device → Nat → Qp → Device} {s : State} {e : Device}
    (runs : exec c s = s.run (fun d => (d.roceReq p dup go).settle)) (answers : s.dev.roceReq p dup go = e) : Gives c s e.settle :=
  gives_of_run runs rfl (congrArg settle answers)

/-- What answers every request packet alike answers the four commands. -/
theorem roceCommands_give {p : RoceIn} {s : State} {e : Device} (answers : ∀ dup go, s.dev.roceReq p dup go = e)
    (place handle off n a b : Nat) (hasImm : Bool) (bytes : List Byte) :
    Gives (.roceSend p place n bytes) s e.settle ∧ Gives (.roceRdmaWrite p place handle off n hasImm a bytes) s e.settle ∧
    Gives (.roceRdmaReadReq p handle off n) s e.settle ∧ Gives (.roceAtomic p n handle off a b) s e.settle :=
  ⟨gives_of_roceReq (exec_roceSend ..) (answers ..), gives_of_roceReq (exec_roceRdmaWrite ..) (answers ..),
    gives_of_roceReq (exec_roceRdmaReadReq ..) (answers ..), gives_of_roceReq (exec_roceAtomic ..) (answers ..)⟩

section Commands
variable {p : RoceIn} {q : Qp} {s : State} (hears : s.dev.hearsRoce p q = true) (receives : q.state = 2 ∨ q.state = 3)
  (clear : q.naked = false) (opened : (s.dev.heardRoce p).rst.svcOpen = true) (places : (s.dev.heardRoce p).placesWrites = true)
include hears receives clear opened places

/-- A command whose request is at the expected PSN does what `go` makes of the device. -/
theorem roceCommand_expected {c : Instr} {dup go : Device → Nat → Qp → Device} {e : Device} (expected : p.psn = q.ePsn)
    (runs : exec c s = s.run (fun d => (d.roceReq p dup go).settle))
    (goes : go ((s.dev.heardRoce p).updQp (p.qpn % 1048576) (fun q => { q with naked := false })) (p.qpn % 1048576) q = e) :
    Gives c s (roceRun (p.qpn % 1048576) 4096 e).settle :=
  gives_of_roceReq runs (by rw [roceReq_expected hears receives clear opened places expected, goes])

/-- A command whose request is below it does what `dup` makes of the device. -/
theorem roceCommand_duplicate {c : Instr} {dup go : Device → Nat → Qp → Device} {e : Device} (ne : p.psn ≠ q.ePsn)
    (before : seqBefore 24 p.psn q.ePsn = true) (runs : exec c s = s.run (fun d => (d.roceReq p dup go).settle))
    (again : dup (s.dev.heardRoce p) (p.qpn % 1048576) q = e) : Gives c s (roceRun (p.qpn % 1048576) 4096 e).settle :=
  gives_of_roceReq runs (by rw [roceReq_duplicate hears receives clear opened places ne before, again])

end Commands

/-- Settles O46: the commands by the PSN of the packet, then before service opens. -/
theorem roceRequests : Obligations.RoceRequests := by
  intro p q s hears receives clear
  refine ⟨fun opened places expected => ⟨?_, ?_, ?_, fun handle off len => ⟨fun long => ?_, fun fits => ?_⟩,
      fun kind handle off a b => ⟨fun other => ?_, fun known => ?_⟩⟩,
    fun opened places ne above place handle off n a b hasImm bytes => ?_,
    fun opened places ne before place handle off n a hasImm bytes => ⟨?_, ?_, ?_, fun kind b x saved => ?_, fun kind b unsaved => ?_⟩,
    fun closed place handle off n a b hasImm bytes => ?_⟩
  · exact fun place bytes => roceCommand_expected hears receives clear opened places expected (exec_roceSend ..) rfl
  · exact fun place variant bytes refused =>
      roceCommand_expected hears receives clear opened places expected (exec_roceSend ..) (if_pos refused)
  · exact fun place handle off dmaLen imm hasImm bytes =>
      roceCommand_expected hears receives clear opened places expected (exec_roceRdmaWrite ..) rfl
  · exact roceCommand_expected hears receives clear opened places expected (exec_roceRdmaReadReq ..) (if_pos long)
  · exact roceCommand_expected hears receives clear opened places expected (exec_roceRdmaReadReq ..) (if_neg (Nat.not_lt.2 fits))
  · exact roceCommand_expected hears receives clear opened places expected (exec_roceAtomic ..) (if_pos other)
  · exact roceCommand_expected hears receives clear opened places expected (exec_roceAtomic ..) (if_neg (Nat.not_le.2 known))
  · exact roceCommands_give (fun dup go => roceReq_above hears receives clear opened places ne above) place handle off n a b hasImm bytes
  · exact roceCommand_duplicate hears receives clear opened places ne before (exec_roceSend ..) rfl
  · exact roceCommand_duplicate hears receives clear opened places ne before (exec_roceRdmaWrite ..) rfl
  · exact roceCommand_duplicate hears receives clear opened places ne before (exec_roceRdmaReadReq ..) rfl
  · exact roceCommand_duplicate hears receives clear opened places ne before (exec_roceAtomic ..) (by simp only [saved])
  · exact roceCommand_duplicate hears receives clear opened places ne before (exec_roceAtomic ..) (by simp only [unsaved])
  · exact roceCommands_give (fun dup go => roceReq_closed hears receives clear closed) place handle off n a b hasImm bytes

end Sys2Proof.Machine
end

section
/-! PROOF. A QP as requester (O47): its replies, what a read's response lands, its timers, and the bounds of its limiter, which a PDT flow shares. -/

namespace Sys2Proof.Machine

/-! ### Exact rates (R263) -/

theorem dyLe_iff (a b : Dy) : dyLe a b = true ↔ a.num * 2 ^ b.exp ≤ b.num * 2 ^ a.exp := decide_eq_true_iff

theorem dyLe_refl (a : Dy) : dyLe a a = true := (dyLe_iff a a).2 (Nat.le_refl _)

theorem dyLe_total {a b : Dy} (no : ¬ dyLe a b = true) : dyLe b a = true := by
  rw [dyLe_iff] at no ⊢
  omega

theorem dyMin_le_right (a b : Dy) : dyLe (dyMin a b) b = true := by
  unfold dyMin
  split
  · assumption
  · exact dyLe_refl b

theorem dyLe_dyMax_left (a b : Dy) : dyLe a (dyMax a b) = true := by
  unfold dyMax
  split
  · assumption
  · exact dyLe_refl a

theorem dyDecay_le (a : Dy) (g : Nat) : dyLe (dyDecay a g) a = true := by
  rw [dyLe_iff]
  calc a.num * (2 ^ g - 1) * 2 ^ a.exp ≤ a.num * 2 ^ g * 2 ^ a.exp := Nat.mul_le_mul_right _ (Nat.mul_le_mul_left _ (Nat.sub_le ..))
    _ = a.num * 2 ^ (a.exp + g) := by rw [Nat.pow_add, Nat.mul_assoc, Nat.mul_comm (2 ^ g)]

namespace Device

@[simp] theorem waitUntil_qp? (d : Device) (t qpn : Nat) : (d.waitUntil t).qp? qpn = d.qp? qpn := by
  unfold qp?
  rw [waitUntil_net]

@[simp] theorem waitUntil_tx? (d : Device) (t loc rem : Nat) : (d.waitUntil t).tx? loc rem = d.tx? loc rem := by
  unfold tx?
  rw [waitUntil_pdt]

@[simp] theorem waitUntil_rx? (d : Device) (t loc src : Nat) : (d.waitUntil t).rx? loc src = d.rx? loc src := by
  unfold rx?
  rw [waitUntil_pdt]

/-! ### Replies (R259) -/

section Replies
variable {d : Device} {p : RoceIn} {q : Qp} (hears : d.hearsRoce p q = true) {body : Device → Nat → Qp → Device}
include hears

theorem roceRsp_rts (rts : q.state = 3) : d.roceRsp p body = body (d.heardRoce p) (p.qpn % 1048576) q := by
  rw [roceRsp, rocePkt_hears hears, if_neg (by simp [rts])]

theorem roceRsp_notRts (idle : q.state ≠ 3) : d.roceRsp p body = d.heardRoce p := by
  rw [roceRsp, rocePkt_hears hears, if_pos (.inl idle)]

end Replies

section Landing
variable {d : Device} {i psn : Nat} {bytes : List Byte} {c : Qp} {o : RoceOut} {rest : List RoceOut}
  (found : d.net.qps.find? i = some c) (head : c.out = o :: rest) (read : o.read = true) (sent : o.sent = true)
include found head read sent

/-- What a read response does, by its PSN and by what it leaves to come. -/
theorem roceLand_eq :
    d.roceLand i psn bytes =
      if psn ≠ (o.psn + o.got / pmtuBytes (byteAt c.attr 1)) % 16777216 then d
      else if o.got + bytes.length < o.len then
        d.updQp i (fun q => { q with out := { o with got := o.got + bytes.length, bytes := o.bytes ++ bytes } :: rest, sentAt := d.now, tries := 0 })
      else rocePump i 4096 ((d.updQp i (fun q => { q with out := rest, sentAt := d.now, tries := 0, rnrs := 0 })).landRead o.fn o.q o.seq 0
          (o.bytes ++ bytes) stOk 0) := by
  simp only [roceLand, found, head, read, sent, Bool.not_true, Bool.false_or, bne_iff_ne]

end Landing

/-! ### The limiter that a command names (R263, R284) -/

/-- In device `d` a command names a limiter that stands at `r`; `top` is the rate of its interface, and `put` gives it another rate. -/
def NamesRate (d : Device) (qpn loc rem : Nat) (r : Rate) (top : Device → Nat) (put : Device → Rate → Device) : Prop :=
  d.rateOf qpn loc rem = some r ∧ ∀ g, d.onRate qpn loc rem g = ((g d r (top d)).map (put d)).getD d

theorem namesRate_qp {d : Device} {qpn : Nat} {q : Qp} (named : qpn ≠ 0) (found : d.qp? qpn = some q) (rts : q.state = 3) :
    d.NamesRate qpn 0 0 q.rate (fun d => d.ifRate (byteAt q.attr 2)) (fun d r => d.updQp (qpn % 1048576) (fun c => { c with rate := r })) := by
  refine ⟨by simp [rateOf, named, found], fun g => ?_⟩
  simp only [onRate, ne_eq, named, not_false_eq_true, if_true, found, rts]
  cases g d q.rate (d.ifRate (byteAt q.attr 2)) <;> rfl

theorem namesRate_tx {d : Device} {loc rem : Nat} {f : PdtTx} (found : d.tx? loc rem = some f) :
    d.NamesRate 0 loc rem f.rate (fun d => d.ifRate (byteAt f.peer 4)) (fun d r => d.setTx { f with rate := r }) := by
  refine ⟨by simp [rateOf, found], fun g => ?_⟩
  simp only [onRate, ne_eq, not_true_eq_false, if_false, found]
  cases g d f.rate (d.ifRate (byteAt f.peer 4)) <;> rfl

theorem namesRate_rx {d : Device} {loc rem : Nat} {f : PdtRx} (none : d.tx? loc rem = none) (found : d.rx? loc rem = some f) :
    d.NamesRate 0 loc rem f.rate (fun d => d.ifRate f.via.iface) (fun d r => d.setRx { f with rate := r }) := by
  refine ⟨by simp [rateOf, none, found], fun g => ?_⟩
  simp only [onRate, ne_eq, not_true_eq_false, if_false, none, found]
  cases g d f.rate (d.ifRate f.via.iface) <;> rfl

/-! ### The bounds of a rate (R263) -/

theorem rateUp_le (d : Device) (r : Rate) (top : Nat) :
    dyLe (d.rateUp r top).rc (dyOf top) = true ∧ dyLe (d.rateUp r top).rt (dyOf top) = true :=
  ⟨dyMin_le_right .., dyMin_le_right ..⟩

theorem le_rateHit (d : Device) (r : Rate) : dyLe (dyOf (d.fld Fld.NET_DCQCN_C_RMIN)) (d.rateHit r).rc = true := dyLe_dyMax_left ..

theorem rateAlpha_le (d : Device) (r : Rate) : dyLe (d.rateAlpha r).alpha r.alpha = true := dyDecay_le ..

end Device

open Device

/-! ### The commands -/

theorem exec_roceAcknowledge (p : RoceIn) (syndrome : Nat) (s : State) :
    exec (.roceAcknowledge p syndrome) s = execRoceAcknowledge p syndrome s := by rfl
theorem exec_roceReadResponse (p : RoceIn) (bytes : List Byte) (s : State) :
    exec (.roceReadResponse p bytes) s = execRoceReadResponse p bytes s := by rfl
theorem exec_roceCnp (p : RoceIn) (s : State) : exec (.roceCnp p) s = execRoceCnp p s := by rfl
theorem exec_roceAckSend (qpn : Nat) (s : State) : exec (.roceAckSend qpn) s = execRoceAckSend qpn s := by rfl
theorem exec_roceAckTimeout (qpn : Nat) (s : State) : exec (.roceAckTimeout qpn) s = execRoceAckTimeout qpn s := by rfl
theorem exec_roceRnrTimer (qpn : Nat) (s : State) : exec (.roceRnrTimer qpn) s = execRoceRnrTimer qpn s := by rfl
theorem exec_dcqcnAlphaTimer (qpn loc rem : Nat) (s : State) :
    exec (.dcqcnAlphaTimer qpn loc rem) s = execDcqcnAlphaTimer qpn loc rem s := by rfl
theorem exec_dcqcnIncTimer (qpn loc rem : Nat) (s : State) :
    exec (.dcqcnIncTimer qpn loc rem) s = execDcqcnIncTimer qpn loc rem s := by rfl
theorem exec_dcqcnByteCounter (qpn loc rem : Nat) (s : State) :
    exec (.dcqcnByteCounter qpn loc rem) s = execDcqcnByteCounter qpn loc rem s := by rfl

section Replies
variable {p : RoceIn} {q : Qp} {s : State} (hears : s.dev.hearsRoce p q = true)
include hears

section Rts
variable (rts : q.state = 3)
include rts

theorem roceAcknowledge_rts (syndrome : Nat) :
    Gives (.roceAcknowledge p syndrome) s ((s.dev.heardRoce p).roceReply (p.qpn % 1048576) p.psn syndrome).settle :=
  gives_of_run (exec_roceAcknowledge ..) rfl (by rw [roceRsp_rts hears rts])

theorem roceReadResponse_rts (bytes : List Byte) :
    Gives (.roceReadResponse p bytes) s
      ((roceCover (p.qpn % 1048576) ((p.psn + 16777215) % 16777216) 4096 (s.dev.heardRoce p)).roceLand (p.qpn % 1048576) p.psn bytes).settle :=
  gives_of_run (exec_roceReadResponse ..) rfl (by rw [roceRsp_rts hears rts])

end Rts

theorem roceAcknowledge_notRts (idle : q.state ≠ 3) (syndrome : Nat) : Gives (.roceAcknowledge p syndrome) s (s.dev.heardRoce p).settle :=
  gives_of_run (exec_roceAcknowledge ..) rfl (by rw [roceRsp_notRts hears idle])

theorem roceReadResponse_notRts (idle : q.state ≠ 3) (bytes : List Byte) :
    Gives (.roceReadResponse p bytes) s (s.dev.heardRoce p).settle :=
  gives_of_run (exec_roceReadResponse ..) rfl (by rw [roceRsp_notRts hears idle])

/-- A CNP is counted, and cuts the rate of a QP in RTS. -/
theorem roceCnp_rts (rts : q.state = 3) :
    let c := (s.dev.heardRoce p).bumpPair Reg.NET_P_CNP_RX_LO 1 (p.iface / 8)
    Gives (.roceCnp p) s (c.updQp (p.qpn % 1048576) (fun q => { q with rate := c.rateHit q.rate })) :=
  gives_of_run (exec_roceCnp ..) rfl (by rw [rocePkt_hears hears]; exact (if_neg Bool.false_ne_true).trans (if_pos rts))

theorem roceCnp_notRts (idle : q.state ≠ 3) :
    Gives (.roceCnp p) s ((s.dev.heardRoce p).bumpPair Reg.NET_P_CNP_RX_LO 1 (p.iface / 8)) :=
  gives_of_run (exec_roceCnp ..) rfl (by rw [rocePkt_hears hears]; exact (if_neg Bool.false_ne_true).trans (if_neg idle))

end Replies

section Timers
variable {qpn : Nat} {q : Qp} {s : State} (found : s.dev.qp? qpn = some q)
include found

theorem roceAckSend_due (due : q.ackDue = true) (receives : q.state = 2 ∨ q.state = 3) :
    Gives (.roceAckSend qpn) s
      ((s.dev.updQp (qpn % 1048576) (fun q => { q with ackDue := false })).qpFrame q "ACK" [q.ackPsn, 0x1F]) := by
  refine gives_of_run (exec_roceAckSend ..) rfl ?_
  rw [found]
  exact if_pos (by simpa [due] using receives)

theorem roceAckSend_notDue (none : q.ackDue = false) : Gives (.roceAckSend qpn) s s.dev := by
  refine gives_of_run (exec_roceAckSend ..) rfl ?_
  rw [found]
  exact if_neg (by simp [none])

theorem roceAckTimeout_resends (rts : q.state = 3) (timed : byteAt q.attr 20 % 32 ≠ 0) (calm : q.rnrAt = none)
    (waits : q.out.any (·.sent) = true) :
    Gives (.roceAckTimeout qpn) s
      ((s.dev.waitUntil (q.sentAt + 4096 * 2 ^ (byteAt q.attr 20 % 32) / 1000)).roceRetry (qpn % 1048576)).settle := by
  refine gives_of_run (exec_roceAckTimeout ..) rfl ?_
  rw [found]
  exact if_neg (by rw [calm, waits]; simp [rts, timed])

theorem roceAckTimeout_off (off : byteAt q.attr 20 % 32 = 0) : Gives (.roceAckTimeout qpn) s s.dev := by
  refine gives_of_run (exec_roceAckTimeout ..) rfl ?_
  rw [found]
  exact if_pos (.inr (.inl off))

theorem roceRnrTimer_resends {t : Nat} (waits : q.rnrAt = some t) (rts : q.state = 3) :
    Gives (.roceRnrTimer qpn) s
      (rocePump (qpn % 1048576) 4096
        (((s.dev.waitUntil t).updQp (qpn % 1048576) (fun q => { q with rnrAt := none })).roceResend (qpn % 1048576))) := by
  refine gives_of_run (exec_roceRnrTimer ..) rfl ?_
  simp only [found, waits]
  exact if_neg (by simp [rts])

theorem roceRnrTimer_calm (calm : q.rnrAt = none) : Gives (.roceRnrTimer qpn) s s.dev :=
  gives_of_run (exec_roceRnrTimer ..) rfl (by simp only [found, calm])

end Timers

section Limiter
variable {qpn loc rem : Nat} {s : State} {r : Rate} {top : Device → Nat} {put : Device → Rate → Device}
  (names : s.dev.NamesRate qpn loc rem r top put)
include names

section Wait
variable (waited : ∀ t, (s.dev.waitUntil t).NamesRate qpn loc rem r top put)
include waited

theorem dcqcnAlphaTimer_gives :
    let d := s.dev.waitUntil (r.alphaAt + s.dev.fld Fld.NET_DCQCN_A_ALPHA_US)
    Gives (.dcqcnAlphaTimer qpn loc rem) s (put d (d.rateAlpha r)) := by
  refine gives_of_run (exec_dcqcnAlphaTimer ..) rfl ?_
  simp only [names.1]
  exact (waited _).2 _

theorem dcqcnIncTimer_gives :
    let d := s.dev.waitUntil (r.incAt + s.dev.fld Fld.NET_DCQCN_A_INC_US)
    Gives (.dcqcnIncTimer qpn loc rem) s (put d (d.rateUp { r with t := r.t + 1, incAt := d.now } (top d))) := by
  refine gives_of_run (exec_dcqcnIncTimer ..) rfl ?_
  simp only [names.1]
  exact (waited _).2 _

end Wait

theorem dcqcnByteCounter_steps (sent : s.dev.fld Fld.NET_DCQCN_C_BC_MIB * 1048576 ≤ r.bytes) :
    Gives (.dcqcnByteCounter qpn loc rem) s (put s.dev
      (s.dev.rateUp { r with b := r.b + 1, bytes := r.bytes - s.dev.fld Fld.NET_DCQCN_C_BC_MIB * 1048576 } (top s.dev))) := by
  refine gives_of_run (exec_dcqcnByteCounter ..) rfl ((names.2 _).trans ?_)
  rw [if_neg (Nat.not_lt.2 sent)]
  rfl

theorem dcqcnByteCounter_early (early : r.bytes < s.dev.fld Fld.NET_DCQCN_C_BC_MIB * 1048576) :
    Gives (.dcqcnByteCounter qpn loc rem) s s.dev := by
  refine gives_of_run (exec_dcqcnByteCounter ..) rfl ((names.2 _).trans ?_)
  rw [if_pos early]
  rfl

end Limiter

/-- Settles O47: replies, landing, the timers of a QP, those of a PDT flow, and the bounds. -/
theorem roceRequester : Obligations.RoceRequester := by
  refine ⟨fun p q s hears => ⟨fun syn rts => ?_, fun syn idle => ?_, fun bytes rts => ?_, fun bytes idle => ?_, fun rts => ?_, fun idle => ?_⟩,
    fun d i psn bytes c o rest found head read sent => ?_,
    fun qpn q s found => ⟨?_, ?_, ?_, ?_, fun t waits rts => ?_, ?_, fun named rts => ?_⟩,
    fun loc rem s => ⟨fun f found => ?_, fun f none found => ?_⟩, fun d r top => ?_⟩
  · exact roceAcknowledge_rts hears rts syn
  · exact roceAcknowledge_notRts hears idle syn
  · exact roceReadResponse_rts hears rts bytes
  · exact roceReadResponse_notRts hears idle bytes
  · exact roceCnp_rts hears rts
  · exact roceCnp_notRts hears idle
  · have lands := roceLand_eq (psn := psn) (bytes := bytes) found head read sent
    refine ⟨fun other => lands.trans (if_pos other), fun next => ?_⟩
    rw [if_neg (not_not_intro next)] at lands
    exact ⟨fun more => lands.trans (if_pos more), fun last => lands.trans (if_neg (Nat.not_lt.2 last))⟩
  · exact roceAckSend_due found
  · exact roceAckSend_notDue found
  · exact roceAckTimeout_resends found
  · exact roceAckTimeout_off found
  · exact roceRnrTimer_resends found waits rts
  · exact roceRnrTimer_calm found
  · have names := namesRate_qp named found rts
    have waited (t) := namesRate_qp named ((waitUntil_qp? s.dev t qpn).trans found) rts
    exact ⟨dcqcnAlphaTimer_gives names waited, dcqcnIncTimer_gives names waited, dcqcnByteCounter_steps names, dcqcnByteCounter_early names⟩
  · have names := namesRate_tx found
    have waited (t) := namesRate_tx ((waitUntil_tx? s.dev t loc rem).trans found)
    exact ⟨dcqcnAlphaTimer_gives names waited, dcqcnIncTimer_gives names waited, dcqcnByteCounter_steps names⟩
  · have names := namesRate_rx none found
    have waited (t) := namesRate_rx ((waitUntil_tx? s.dev t loc rem).trans none) ((waitUntil_rx? s.dev t loc rem).trans found)
    exact ⟨dcqcnAlphaTimer_gives names waited, dcqcnIncTimer_gives names waited, dcqcnByteCounter_steps names⟩
  · obtain ⟨rc, rt⟩ := rateUp_le d r top
    exact ⟨rc, rt, le_rateHit d r, rfl, rateAlpha_le d r⟩

end Sys2Proof.Machine
end

section
/-! PROOF. Remote descriptors and QP commands (O44): the rules that end each one, and what it does where none is broken. -/

namespace Sys2Proof.Machine
namespace Device

/-! ### Remote requests (R209, R259, R299) -/

section Remote
variable {d : Device} {fn q : Nat} {x : DescState}

theorem remoteWrite_refused {st : Nat} (refused : d.remoteRefuse fn x.dw = some st) :
    d.remoteWrite fn q x = d.complete fn q x.seq st 0 0 := by
  simp only [remoteWrite, refused]

theorem remoteRead_refused {st : Nat} (refused : d.remoteRefuse fn x.dw = some st) :
    d.remoteRead fn q x = d.complete fn q x.seq st 0 0 := by
  simp only [remoteRead, refused]

variable (allowed : d.remoteRefuse fn x.dw = none)
include allowed

theorem remoteWrite_host (host : dCaskIo x.dw = false) : d.remoteWrite fn q x = d.remoteGo fn q x.seq x.dw x.data := by
  simp [remoteWrite, allowed, host]

theorem remoteWrite_cask (cask : dCaskIo x.dw = true) :
    let r := d.startRead (.sq fn q) (.desc fn q x.seq) (.ring fn) (dCask x.dw) (dOffset x.dw) (dLength x.dw) (fun p => .remoteSrc p)
    d.remoteWrite fn q x = if r.2 = stOk then r.1 else r.1.complete fn q x.seq r.2 0 0 := by
  simp [remoteWrite, allowed, cask]

theorem remoteRead_goes : d.remoteRead fn q x = d.remoteGo fn q x.seq x.dw [] := by
  simp only [remoteRead, allowed]

end Remote

/-! ### RECV (R258, R291) -/

section Recv
variable {d : Device} {fn q : Nat} {x : DescState}

theorem postRecv_invalid (bad : 2 ≤ dwF x.dw 8 31 30 ∨ (dwF x.dw 8 31 30 = 1 ∧ dwAt x.dw 12 ≠ 0)) :
    d.postRecv fn q x = d.complete fn q x.seq stInvalid 0 0 := if_pos bad

theorem postRecv_noTarget
    (none : (dwF x.dw 8 31 30 = 1 ∧ dwAt x.dw 12 = 0 ∧ d.qp? (dwF x.dw 8 23 0) = none) ∨
      (dwF x.dw 8 31 30 = 0 ∧ d.ep? (dwF x.dw 8 23 0) = none)) : d.postRecv fn q x = d.complete fn q x.seq stProt 0 0 := by
  rcases none with ⟨toQp, zero, none⟩ | ⟨toEp, none⟩
  · simp [postRecv, toQp, zero, none]
  · simp [postRecv, toEp, none]

section Qp
variable {c : Qp} (toQp : dwF x.dw 8 31 30 = 1) (zero : dwAt x.dw 12 = 0) (found : d.qp? (dwF x.dw 8 23 0) = some c)
include toQp zero found

/-- A RECV for a QP: the checks of its QP in their order. -/
theorem postRecv_qp :
    d.postRecv fn q x =
      if c.owner ≠ fn then d.complete fn q x.seq stProt 0 0
      else if c.state = 4 then d.complete fn q x.seq stAborted 0 0
      else if 4096 ≤ c.recvs.length then d.complete fn q x.seq stBudget 0 0
      else d.updQp (dwF x.dw 8 23 0 % 1048576) (fun c => { c with recvs := c.recvs ++ [(fn, q, x.seq)] }) := by
  simp only [postRecv, found]
  rw [if_neg (by simp [toQp, zero]), if_pos toQp]

theorem postRecv_qp_foreign (foreign : c.owner ≠ fn) : d.postRecv fn q x = d.complete fn q x.seq stProt 0 0 := by
  rw [postRecv_qp toQp zero found, if_pos foreign]

variable (own : c.owner = fn)
include own

theorem postRecv_qp_error (error : c.state = 4) : d.postRecv fn q x = d.complete fn q x.seq stAborted 0 0 := by
  rw [postRecv_qp toQp zero found, if_neg (not_not_intro own), if_pos error]

theorem postRecv_qp_full (alive : c.state ≠ 4) (full : 4096 ≤ c.recvs.length) :
    d.postRecv fn q x = d.complete fn q x.seq stBudget 0 0 := by
  rw [postRecv_qp toQp zero found, if_neg (not_not_intro own), if_neg alive, if_pos full]

theorem postRecv_qp_joins (alive : c.state ≠ 4) (room : c.recvs.length < 4096) :
    d.postRecv fn q x = d.updQp (dwF x.dw 8 23 0 % 1048576) (fun c => { c with recvs := c.recvs ++ [(fn, q, x.seq)] }) := by
  rw [postRecv_qp toQp zero found, if_neg (not_not_intro own), if_neg alive, if_neg (Nat.not_le.2 room)]

end Qp

section Endpoint
variable {g : PdtEp} (toEp : dwF x.dw 8 31 30 = 0) (found : d.ep? (dwF x.dw 8 23 0) = some g)
include toEp found

/-- A RECV for an endpoint of PDT. -/
theorem postRecv_ep :
    d.postRecv fn q x =
      if g.owner ≠ fn then d.complete fn q x.seq stProt 0 0
      else if 4096 ≤ g.recvs.length then d.complete fn q x.seq stBudget 0 0
      else d.setPdt { d.pdt with eps := d.pdt.eps.put (dwF x.dw 8 23 0 % 65536) { g with recvs := g.recvs ++ [(fn, q, x.seq)] } } := by
  simp only [postRecv, found]
  rw [if_neg (by simp [toEp]), if_neg (by simp [toEp])]

theorem postRecv_ep_foreign (foreign : g.owner ≠ fn) : d.postRecv fn q x = d.complete fn q x.seq stProt 0 0 := by
  rw [postRecv_ep toEp found, if_pos foreign]

theorem postRecv_ep_full (own : g.owner = fn) (full : 4096 ≤ g.recvs.length) :
    d.postRecv fn q x = d.complete fn q x.seq stBudget 0 0 := by
  rw [postRecv_ep toEp found, if_neg (not_not_intro own), if_pos full]

theorem postRecv_ep_joins (own : g.owner = fn) (room : g.recvs.length < 4096) :
    d.postRecv fn q x =
      d.setPdt { d.pdt with eps := d.pdt.eps.put (dwF x.dw 8 23 0 % 65536) { g with recvs := g.recvs ++ [(fn, q, x.seq)] } } := by
  rw [postRecv_ep toEp found, if_neg (not_not_intro own), if_neg (Nat.not_le.2 room)]

end Endpoint
end Recv

/-! ### QP_MODIFY (R262) -/

/-- The device with QP context `i` moved to state `tgt`, with the attributes `a` that the block `b` gives it. -/
def moveQp (d : Device) (i tgt : Nat) (b a : List Byte) : Device :=
  if tgt = 4 then d.errQp i 0 false
  else if tgt = 0 then (d.abortQp i).updQp i (fun c => { newQp c.inc c.owner d.now with recvs := c.recvs, cnpAt := c.cnpAt })
  else d.updQp i (fun c => { c with
    state := tgt, attr := a
    ePsn := if tgt = 2 then leAt b 16 3 else c.ePsn
    ackPsn := if tgt = 2 then (leAt b 16 3 + 16777215) % 16777216 else c.ackPsn
    sPsn := if c.state = 2 ∧ tgt = 3 then leAt b 12 3 else c.sPsn
    rate := if c.state = 2 ∧ tgt = 3 then rateAt (d.ifRate (byteAt a 2)) d.now else c.rate })

theorem moveQp_error (d : Device) (i : Nat) (b a : List Byte) : d.moveQp i 4 b a = d.errQp i 0 false := if_pos rfl

theorem moveQp_reset (d : Device) (i : Nat) (b a : List Byte) : d.moveQp i 0 b a =
    (d.abortQp i).updQp i (fun c => { newQp c.inc c.owner d.now with recvs := c.recvs, cnpAt := c.cnpAt }) := rfl

theorem moveQp_init (d : Device) (i : Nat) (b a : List Byte) : d.moveQp i 1 b a =
    d.updQp i (fun c => { c with state := 1, attr := a }) := by
  simp [moveQp]

theorem moveQp_rtr (d : Device) (i : Nat) (b a : List Byte) : d.moveQp i 2 b a =
    d.updQp i (fun c => { c with
      state := 2, attr := a, ePsn := leAt b 16 3, ackPsn := (leAt b 16 3 + 16777215) % 16777216 }) := by
  simp [moveQp]

theorem moveQp_rts (d : Device) (i : Nat) (b a : List Byte) : d.moveQp i 3 b a =
    d.updQp i (fun c => { c with
      state := 3, attr := a, sPsn := if c.state = 2 then leAt b 12 3 else c.sPsn,
      rate := if c.state = 2 then rateAt (d.ifRate (byteAt a 2)) d.now else c.rate }) := by
  simp [moveQp]

section Modify
variable {d : Device} {fn : Nat} {x : DescState}

theorem qpModify_noQp (none : d.qp? (dwF x.dw 8 23 0) = none) : d.qpModify fn x = d.complete fn 0 x.seq stRange 0 0 := by
  simp only [qpModify, none]

variable {c : Qp} (found : d.qp? (dwF x.dw 8 23 0) = some c)
include found

theorem qpModify_badBlock (bad : attrZeros x.data = false ∨ attrTake c.state (byteAt x.data 0) x.data c.attr = none) :
    d.qpModify fn x = d.complete fn 0 x.seq stRange 0 0 := by
  simp only [qpModify, found]
  rcases bad with fields | range
  · exact if_pos (by rw [fields]; rfl)
  · simp only [range, ite_self]

section Taken
variable {a : List Byte} (zeros : attrZeros x.data = true) (takes : attrTake c.state (byteAt x.data 0) x.data c.attr = some a)
include zeros takes

theorem qpModify_moves :
    d.qpModify fn x = (d.moveQp (dwF x.dw 8 23 0 % 1048576) (byteAt x.data 0) x.data a).complete fn 0 x.seq stOk 0 0 := by
  simp only [qpModify, found, zeros, takes, Bool.not_true, Bool.false_eq_true, if_false, moveQp]

end Taken
end Modify

/-! ### A command whose packet is released when it starts (R226) -/

theorem beginDesc_released (d : Device) (fn : Nat) (x : DescState) {op : Nat} (late : 0x11 ≤ op) :
    d.beginDesc fn 0 op x = d.takenDesc fn 0 x := by
  have releases : keepsCells op = false := by simp [keepsCells]; omega
  simp [beginDesc, releases]

section Released
variable {d : Device} {fn op : Nat} {x : DescState} {body : Device → DescState → Device} (late : 0x11 ≤ op)
include late

theorem devCmd_released (takes : d.takesDev fn op x = true) : d.devCmd fn op body = body (d.takenDesc fn 0 x) x := by
  rw [devCmd_takes takes, beginDesc_released d fn x late]

theorem coreCmd_released {core : Nat} (takes : d.takesCore core fn op x = true) : d.coreCmd core fn op body = body (d.takenDesc fn 0 x) x := by
  rw [coreCmd_takes takes, beginDesc_released d fn x late]

end Released
end Device

open Device

/-! ### The commands -/

theorem exec_remoteWrite (fn q : Nat) (s : State) : exec (.remoteWrite fn q) s = execRemoteWrite fn q s := by rfl
theorem exec_remoteRead (fn q : Nat) (s : State) : exec (.remoteRead fn q) s = execRemoteRead fn q s := by rfl
theorem exec_recv (fn q : Nat) (s : State) : exec (.recv fn q) s = execRecv fn q s := by rfl
theorem exec_qpCreate (fn : Nat) (s : State) : exec (.qpCreate fn) s = execQpCreate fn s := by rfl
theorem exec_qpModify (fn : Nat) (s : State) : exec (.qpModify fn) s = execQpModify fn s := by rfl
theorem exec_qpDestroy (fn : Nat) (s : State) : exec (.qpDestroy fn) s = execQpDestroy fn s := by rfl
theorem exec_qpQuery (fn : Nat) (s : State) : exec (.qpQuery fn) s = execQpQuery fn s := by rfl

section Taken
variable {fn q : Nat} {x : DescState} {s : State} {e : Device}

theorem remoteWrite_gives (takes : s.dev.takesIo fn q 0x10 x = true) (does : (s.dev.startDesc fn q x).remoteWrite fn q x = e) :
    Gives (.remoteWrite fn q) s e.settle := by
  subst does
  exact gives_of_run (exec_remoteWrite fn q s) rfl (ioDesc_takes takes)

theorem remoteRead_gives (takes : s.dev.takesIo fn q 0x11 x = true) (does : (s.dev.takenDesc fn q x).remoteRead fn q x = e) :
    Gives (.remoteRead fn q) s e.settle := by
  subst does
  exact gives_of_run (exec_remoteRead fn q s) rfl (ioDesc_takes takes)

theorem recv_gives (takes : s.dev.takesIo fn q 0x12 x = true) (does : (s.dev.takenDesc fn q x).postRecv fn q x = e) :
    Gives (.recv fn q) s e := by
  subst does
  exact gives_of_run (exec_recv fn q s) rfl (ioDesc_takes takes)

theorem qpModify_gives (takes : s.dev.takesCore 6 fn 0xB1 x = true) (does : (s.dev.takenDesc fn 0 x).qpModify fn x = e) :
    Gives (.qpModify fn) s e := by
  subst does
  exact gives_of_run (exec_qpModify fn s) rfl (coreCmd_released (by decide) takes)

section Create
variable (takes : s.dev.takesCore 6 fn 0xB0 x = true)
include takes

theorem qpCreate_noFn (absent : (s.dev.takenDesc fn 0 x).fnExists (dwF x.dw 8 9 0) = false) :
    Gives (.qpCreate fn) s ((s.dev.takenDesc fn 0 x).complete fn 0 x.seq stRange 0 0) :=
  gives_of_run (exec_qpCreate fn s) rfl ((coreCmd_released (by decide) takes).trans (if_pos (congrArg not absent)))

variable (present : (s.dev.takenDesc fn 0 x).fnExists (dwF x.dw 8 9 0) = true)
include present

theorem qpCreate_full (full : (s.dev.takenDesc fn 0 x).freeQpc = none) :
    Gives (.qpCreate fn) s ((s.dev.takenDesc fn 0 x).complete fn 0 x.seq stBudget 0 0) :=
  gives_of_run (exec_qpCreate fn s) rfl ((coreCmd_released (by decide) takes).trans (by
    simp only [present, full, Bool.not_true, Bool.false_eq_true, if_false]))

theorem qpCreate_makes {i : Nat} (free : (s.dev.takenDesc fn 0 x).freeQpc = some i) :
    let e := s.dev.takenDesc fn 0 x
    let inc := nextInc e.net.qpInc i 15
    let g := e.setNet { e.net with qps := e.net.qps.put i (newQp inc (dwF x.dw 8 9 0) e.now), qpInc := e.net.qpInc.put i inc }
    let g := (g.setFld Fld.NET_QP_LIVE_COUNT g.net.qps.length).openOnce (0x8800 + dwF x.dw 8 9 0) 3 (dwF x.dw 8 9 0)
    Gives (.qpCreate fn) s (g.complete fn 0 x.seq stOk (inc * 1048576 + i) 0) :=
  gives_of_run (exec_qpCreate fn s) rfl ((coreCmd_released (by decide) takes).trans (by
    simp only [present, free, Bool.not_true, Bool.false_eq_true, if_false, countQps]))

end Create

section Destroy
variable (takes : s.dev.takesCore 6 fn 0xB2 x = true)
include takes

theorem qpDestroy_noQp (none : (s.dev.takenDesc fn 0 x).qp? (dwF x.dw 8 23 0) = none) :
    Gives (.qpDestroy fn) s ((s.dev.takenDesc fn 0 x).complete fn 0 x.seq stRange 0 0) :=
  gives_of_run (exec_qpDestroy fn s) rfl ((coreCmd_released (by decide) takes).trans (by simp only [none]))

theorem qpDestroy_drops (found : ((s.dev.takenDesc fn 0 x).qp? (dwF x.dw 8 23 0)).isSome) :
    Gives (.qpDestroy fn) s (((s.dev.takenDesc fn 0 x).dropQp (dwF x.dw 8 19 0)).complete fn 0 x.seq stOk 0 0) := by
  obtain ⟨c, found⟩ := Option.isSome_iff_exists.1 found
  exact gives_of_run (exec_qpDestroy fn s) rfl ((coreCmd_released (by decide) takes).trans (by simp only [found]))

end Destroy

section Query
variable (takes : s.dev.takesDev fn 0xB3 x = true)
include takes

theorem qpQuery_noQp (none : (s.dev.takenDesc fn 0 x).qp? (dwF x.dw 8 23 0) = none) :
    Gives (.qpQuery fn) s ((s.dev.takenDesc fn 0 x).complete fn 0 x.seq stRange 0 0) :=
  gives_of_run (exec_qpQuery fn s) rfl ((devCmd_released (by decide) takes).trans (by simp only [none]))

theorem qpQuery_writes {c : Qp} (found : (s.dev.takenDesc fn 0 x).qp? (dwF x.dw 8 23 0) = some c) :
    Gives (.qpQuery fn) s ((s.dev.takenDesc fn 0 x).answerHost fn 0 x (qpBlock c)) :=
  gives_of_run (exec_qpQuery fn s) rfl ((devCmd_released (by decide) takes).trans (by simp only [found]))

end Query
end Taken

/-- Settles O44: remote requests, RECV, then each QP command rule by rule. -/
theorem converseDescriptors : Obligations.ConverseDescriptors := by
  intro fn q x s
  refine ⟨fun takes => ⟨fun st refused => ?_, fun allowed host => ?_, fun allowed cask => ?_⟩,
    fun takes => ⟨fun st refused => ?_, fun allowed => ?_⟩,
    fun takes => ⟨fun bad => ?_, fun none => ?_, fun c toQp zero found => ⟨fun foreign => ?_, fun own error => ?_, fun own alive full => ?_,
      fun own alive room => ?_⟩, fun g toEp found => ⟨fun foreign => ?_, fun own full => ?_, fun own room => ?_⟩⟩,
    fun takes => ⟨fun absent => ?_, fun present full => ?_, fun i present free => ?_⟩,
    fun takes => ⟨fun none => ?_, fun c found => ⟨fun bad => ?_, fun a zeros taken => ?_⟩⟩,
    fun takes => ⟨fun none => ?_, fun found => ?_⟩, fun takes => ⟨fun none => ?_, fun c found => ?_⟩⟩
  · exact remoteWrite_gives takes (remoteWrite_refused refused)
  · exact remoteWrite_gives takes (remoteWrite_host allowed host)
  · exact remoteWrite_gives takes (remoteWrite_cask allowed cask)
  · exact remoteRead_gives takes (remoteRead_refused refused)
  · exact remoteRead_gives takes (remoteRead_goes allowed)
  · exact recv_gives takes (postRecv_invalid bad)
  · exact recv_gives takes (postRecv_noTarget none)
  · exact recv_gives takes (postRecv_qp_foreign toQp zero found foreign)
  · exact recv_gives takes (postRecv_qp_error toQp zero found own error)
  · exact recv_gives takes (postRecv_qp_full toQp zero found own alive full)
  · exact recv_gives takes (postRecv_qp_joins toQp zero found own alive room)
  · exact recv_gives takes (postRecv_ep_foreign toEp found foreign)
  · exact recv_gives takes (postRecv_ep_full toEp found own full)
  · exact recv_gives takes (postRecv_ep_joins toEp found own room)
  · exact qpCreate_noFn takes absent
  · exact qpCreate_full takes present full
  · exact qpCreate_makes takes present free
  · exact qpModify_gives takes (qpModify_noQp none)
  · exact qpModify_gives takes (qpModify_badBlock found bad)
  · have moves := qpModify_moves (fn := fn) found zeros taken
    refine ⟨fun tgt => ?_, fun tgt => ?_, fun tgt => ?_, fun tgt => ?_, fun tgt => ?_⟩ <;> rw [tgt] at moves
    · exact qpModify_gives takes (by rw [moves, moveQp_error])
    · exact qpModify_gives takes (by rw [moves, moveQp_reset])
    · exact qpModify_gives takes (by rw [moves, moveQp_init])
    · exact qpModify_gives takes (by rw [moves, moveQp_rtr])
    · exact qpModify_gives takes (by rw [moves, moveQp_rts])
  · exact qpDestroy_noQp takes none
  · exact qpDestroy_drops takes found
  · exact qpQuery_noQp takes none
  · exact qpQuery_writes takes found

end Sys2Proof.Machine
end

section
/-! PROOF. The Ethernet ports (O45): where a frame goes, the room its queue has, MC6, the links, pauses and the storm watchdog. -/

namespace Sys2Proof.Machine
namespace Device

/-- A wait ends at its time, or is over already. -/
theorem waitUntil_now (d : Device) (t : Nat) : (d.waitUntil t).now = max d.now t := by
  unfold waitUntil
  split
  · rw [advance_now]
    omega
  · omega

theorem ifAccepts_malformed {d : Device} {i : Nat} {f : EthFrame} (bad : 9600 < f.len ∨ f.pause = true) : d.ifAccepts i f = false := by
  rcases bad with long | pause
  · simp [ifAccepts, Nat.not_le.2 long]
  · simp [ifAccepts, pause]

/-! ### Room in a queue (R225, R227, R237) -/

section Receive
variable {d : Device} {qn len owner : Nat} {mark : Bool} (alive : (d.queue qn).state ≠ 3)
include alive

theorem receive_noRoom (full : d.mayReserve qn ((8 + len + 255) / 256) owner = false) (bad : Bool) :
    d.receive qn len owner mark bad =
      if bad then d.refuseCells qn ((8 + len + 255) / 256) else (d.refuseCells qn ((8 + len + 255) / 256)).addMark qn none := by
  simp [receive, alive, full]

theorem receive_room (room : d.mayReserve qn ((8 + len + 255) / 256) owner = true) (bad : Bool) :
    d.receive qn len owner mark bad =
      if bad then d.bumpSat Fld.QMG_Q_DROP_REWOUND 1 qn
      else d.enterQueue qn { tok := .none, owner := owner, cells := (8 + len + 255) / 256, whole := true, poison := false, void := false,
                             len := len } mark := by
  simp [receive, alive, room]

end Receive
end Device

open Device

/-! ### Frames (R246, R247, R252) -/

theorem exec_ethFrameRx (f : EthFrame) (s : State) : exec (.ethFrameRx f) s = execEthFrameRx f s := by rfl
theorem exec_exceptionFrame (iface kind : Nat) (target : Bool) (bytes : List Byte) (s : State) :
    exec (.exceptionFrame iface kind target bytes) s = execExceptionFrame iface kind target bytes s := by rfl
theorem exec_ethLinkUp (iface : Nat) (s : State) : exec (.ethLinkUp iface) s = execEthLinkUp iface s := by rfl
theorem exec_ethLinkDown (iface : Nat) (s : State) : exec (.ethLinkDown iface) s = execEthLinkDown iface s := by rfl
theorem exec_pfcFrameRx (iface prio quanta : Nat) (s : State) : exec (.pfcFrameRx iface prio quanta) s = execPfcFrameRx iface prio quanta s := by rfl
theorem exec_pfcRefreshTimer (port prio : Nat) (s : State) : exec (.pfcRefreshTimer port prio) s = execPfcRefreshTimer port prio s := by rfl
theorem exec_pauseExpire (iface prio : Nat) (s : State) : exec (.pauseExpire iface prio) s = execPauseExpire iface prio s := by rfl
theorem exec_pfcStormExpire (port prio : Nat) (s : State) : exec (.pfcStormExpire port prio) s = execPfcStormExpire port prio s := by rfl
theorem exec_pfcStormClear (port prio : Nat) (s : State) : exec (.pfcStormClear port prio) s = execPfcStormClear port prio s := by rfl

/-- A received frame is counted when it is good. -/
def Device.countFrame (d : Device) (f : EthFrame) : Device := if f.bad then d else d.bumpPair Reg.NET_P_RX_FRAMES_LO 1 (f.iface / 8)

theorem Device.when_good (d : Device) (f : EthFrame) :
    d.when (!f.bad) (·.bumpPair Reg.NET_P_RX_FRAMES_LO 1 (f.iface / 8)) = d.countFrame f := by
  unfold when countFrame
  cases f.bad <;> rfl

/-- The frames that MC6 has taken from a port in this second. -/
def Device.mc6Taken (d : Device) (n : Nat) : Nat :=
  match d.net.mc6.find? n with
  | some (t, c) => if t = d.now / 1000000 then c else 0
  | none => 0

/-- Where a counted frame of each class goes. -/
def Device.routeFrame (d : Device) (f : EthFrame) (k : Nat) : Device :=
  if k = 1 ∧ !f.bad ∧ f.bth % 256 / 32 ≠ 0 ∧ f.bth % 256 ≠ 0x81 then d.netDrop (f.iface / 8)
  else if k = 2 ∧ !f.bad ∧ !pdtOpcode f.bth then (d.bumpPdt 1).bumpPdt 13
  else if k = 1 ∨ k = 2 then d.enterIngress (f.iface / 8) (d.rxPrio f) f.len (d.rxOwner k f) f.bad
  else if k = 3 then d.receive (0x30 + f.iface / 8) f.len 0x430 false f.bad
  else
    let g := d.receive (0x300 + f.iface / 8) f.len (0x400 + f.iface / 8) false f.bad
    g.setNet { g.net with mc6 := g.net.mc6.put (f.iface / 8) (g.now / 1000000, g.mc6Taken (f.iface / 8) + 1) }

section Route
variable {d : Device} {f : EthFrame}

theorem Device.routeFrame_roce (kept : f.bad = true ∨ f.bth % 256 / 32 = 0 ∨ f.bth % 256 = 0x81) :
    d.routeFrame f 1 = d.enterIngress (f.iface / 8) (d.rxPrio f) f.len (d.rxOwner 1 f) f.bad := by
  have stays : ¬(1 = 1 ∧ (!f.bad) = true ∧ f.bth % 256 / 32 ≠ 0 ∧ f.bth % 256 ≠ 0x81) := by
    rintro ⟨-, good, notRc, notCnp⟩
    rcases kept with bad | rc | cnp
    · rw [bad] at good
      exact Bool.false_ne_true good
    · exact notRc rc
    · exact notCnp cnp
  rw [routeFrame, if_neg stays, if_neg (by omega), if_pos (.inl rfl)]

theorem Device.routeFrame_notRc (good : f.bad = false) (notRc : f.bth % 256 / 32 ≠ 0) (notCnp : f.bth % 256 ≠ 0x81) :
    d.routeFrame f 1 = d.netDrop (f.iface / 8) := by
  rw [routeFrame, if_pos ⟨rfl, by rw [good]; rfl, notRc, notCnp⟩]

theorem Device.routeFrame_pdt (kept : f.bad = true ∨ pdtOpcode f.bth = true) :
    d.routeFrame f 2 = d.enterIngress (f.iface / 8) (d.rxPrio f) f.len (d.rxOwner 2 f) f.bad := by
  have stays : ¬(2 = 2 ∧ (!f.bad) = true ∧ (!pdtOpcode f.bth) = true) := by
    rcases kept with bad | known
    · simp [bad]
    · simp [known]
  rw [routeFrame, if_neg (by omega), if_neg stays, if_pos (.inr rfl)]

theorem Device.routeFrame_otherOpcode (good : f.bad = false) (other : pdtOpcode f.bth = false) :
    d.routeFrame f 2 = (d.bumpPdt 1).bumpPdt 13 := by
  rw [routeFrame, if_neg (by omega), if_pos ⟨rfl, by rw [good]; rfl, by rw [other]; rfl⟩]

end Route

section Frames
variable {f : EthFrame} {s : State}

theorem ethFrameRx_down (down : s.dev.ifUp f.iface = false) : Gives (.ethFrameRx f) s s.dev :=
  gives_of_run (exec_ethFrameRx f s) rfl (if_pos (.inl (by rw [down]; rfl)))

variable (up : s.dev.ifUp f.iface = true) (on : s.dev.hubOn = true)
include up on

theorem ethFrameRx_refused (refused : s.dev.ifAccepts f.iface f = false) : Gives (.ethFrameRx f) s (s.dev.netDrop (f.iface / 8)) :=
  gives_of_run (exec_ethFrameRx f s) rfl (by simp [up, on, refused])

theorem ethFrameRx_unclassified (nowhere : s.dev.classify f = none) : Gives (.ethFrameRx f) s (s.dev.netDrop (f.iface / 8)) :=
  gives_of_run (exec_ethFrameRx f s) rfl (by simp [up, on, nowhere])

theorem ethFrameRx_noMc6Room (exception : s.dev.classify f = some 4) (full : s.dev.mc6Room (f.iface / 8) = false) :
    Gives (.ethFrameRx f) s (s.dev.netDrop (f.iface / 8)) :=
  gives_of_run (exec_ethFrameRx f s) rfl (by simp [up, on, exception, full])

/-- An accepted frame that its class has room for is counted and goes where its class says. -/
theorem ethFrameRx_routed {k : Nat} (accepts : s.dev.ifAccepts f.iface f = true) (goes : s.dev.classify f = some k)
    (room : k = 4 → s.dev.mc6Room (f.iface / 8) = true) : Gives (.ethFrameRx f) s ((s.dev.countFrame f).routeFrame f k) := by
  refine gives_of_run (exec_ethFrameRx f s) rfl ?_
  rw [if_neg (by simp [up, on]), if_neg (by simp [accepts])]
  simp only [goes]
  rw [if_neg (by rintro ⟨exception, full⟩; simp [room exception] at full), when_good]
  rfl

end Frames

/-! ### MC6 (R246) -/

section Mc6
variable {iface kind : Nat} {target : Bool} {bytes : List Byte} {s : State} {d : Device}

theorem exceptionFrame_stopped (stopped : s.dev.hubOn = false ∨ s.dev.coreUp 6 = false) :
    Gives (.exceptionFrame iface kind target bytes) s s.dev :=
  gives_of_run (exec_exceptionFrame ..) rfl (if_pos (by rcases stopped with off | down <;> simp [*]))

variable (on : s.dev.hubOn = true) (runs : s.dev.coreUp 6 = true)
include on runs

theorem exceptionFrame_lost (taken : s.dev.popIn (0x300 + iface / 8) = (d, none)) : Gives (.exceptionFrame iface kind target bytes) s d :=
  gives_of_run (exec_exceptionFrame ..) rfl (by simp [on, runs, taken])

theorem exceptionFrame_poisoned {mark : Bool} (taken : s.dev.popIn (0x300 + iface / 8) = (d, some (mark, true))) :
    Gives (.exceptionFrame iface kind target bytes) s (d.eventR 3 qmgBlk 229) :=
  gives_of_run (exec_exceptionFrame ..) rfl (by simp [on, runs, taken])

variable {mark : Bool} (taken : s.dev.popIn (0x300 + iface / 8) = (d, some (mark, false)))
include taken

theorem exceptionFrame_otherTarget : Gives (.exceptionFrame iface kind false bytes) s d :=
  gives_of_run (exec_exceptionFrame ..) rfl (by simp [on, runs, taken])

theorem exceptionFrame_answered (up : d.ifUp iface = true) :
    Gives (.exceptionFrame iface kind true bytes) s
      (if kind = 1 then d.sendFrame iface 0 "ARP_REPLY" [] bytes
       else if kind = 2 then d.sendFrame iface 0 "NEIGHBOUR_ADVERTISEMENT" [] bytes
       else if kind = 3 then d.sendFrame iface 0 "ICMP_ECHO_REPLY" [] bytes
       else d) :=
  gives_of_run (exec_exceptionFrame ..) rfl (by simp [on, runs, taken, up])

end Mc6

/-! ### Links (R244, R264) -/

theorem ethLinkUp_comes {iface : Nat} {s : State} (on : s.dev.hubOn = true) (lt : iface < 64)
    (enabled : s.dev.flag Fld.NET_P_MODE_EN (iface / 8) = true) (present : iface % 8 < 2 ^ s.dev.fld Fld.NET_P_MODE_BRK (iface / 8))
    (down : s.dev.ifUp iface = false) (clocked : s.dev.sup.plls.contains 4 = true) :
    Gives (.ethLinkUp iface) s
      ((s.dev.setReg Reg.NET_P_STATUS (bitsSet (s.dev.reg Reg.NET_P_STATUS (iface / 8)) (iface % 8) (iface % 8) 1) (iface / 8)).raise
        Reg.NET_INT_STATUS 0 1) := by
  refine gives_of_run (exec_ethLinkUp iface s) rfl ?_
  have mayCome : (!s.dev.hubOn || decide (64 ≤ iface) || !s.dev.flag Fld.NET_P_MODE_EN (iface / 8) ||
      decide (2 ^ s.dev.fld Fld.NET_P_MODE_BRK (iface / 8) ≤ iface % 8) || s.dev.ifUp iface || !s.dev.sup.plls.contains 4) = false := by
    rw [on, enabled, down, clocked, decide_eq_false (Nat.not_le.2 lt), decide_eq_false (Nat.not_le.2 present)]
    rfl
  exact if_neg (Bool.eq_false_iff.1 mayCome)

theorem ethLinkDown_goes {iface : Nat} {s : State} (up : s.dev.ifUp iface = true) :
    Gives (.ethLinkDown iface) s
      (if (s.dev.ifDown iface).fld Fld.NET_P_STATUS_UP (iface / 8) = 0 then (s.dev.ifDown iface).npDown (iface / 8)
       else s.dev.ifDown iface) :=
  gives_of_run (exec_ethLinkDown iface s) rfl (if_neg (by simp [up]))

/-! ### Pauses (R248, R249) -/

section Pfc
variable {iface prio quanta : Nat} {s : State} (up : s.dev.ifUp iface = true) (lt : prio < 8)
include up lt

theorem pfcFrameRx_ends :
    Gives (.pfcFrameRx iface prio 0) s ((s.dev.bumpPair Reg.NET_P_PFC_RX_LO 1 (iface / 8)).unpause iface prio).settle :=
  gives_of_run (exec_pfcFrameRx ..) rfl ((if_neg (by simp [up, lt])).trans (if_pos rfl))

theorem pfcFrameRx_holds (pauses : quanta ≠ 0) :
    let d := s.dev.bumpPair Reg.NET_P_PFC_RX_LO 1 (iface / 8)
    let k := 8 * (iface / 8) + prio
    Gives (.pfcFrameRx iface prio quanta) s
      (d.setNet { d.net with
        paused := d.net.paused.put (8 * iface + prio) (d.now + d.pauseUs iface (min quanta 65535))
        pausedAt := if d.net.pausedAt.has k then d.net.pausedAt else d.net.pausedAt.put k d.now
        storm := d.net.storm.upd k (fun _ => d.now), pauseRx := d.net.pauseRx.put k d.now }) :=
  gives_of_run (exec_pfcFrameRx ..) rfl ((if_neg (by simp [up, lt])).trans (if_neg pauses))

end Pfc

theorem pauseExpire_ends {iface prio t : Nat} {s : State} (paused : s.dev.net.paused.find? (8 * iface + prio) = some t) :
    Gives (.pauseExpire iface prio) s ((s.dev.waitUntil t).unpause iface prio).settle :=
  gives_of_run (exec_pauseExpire ..) rfl (by simp only [paused])

section Refresh
variable {port prio t : Nat} {s : State} {d : Device} (off : s.dev.net.xoff.find? (8 * port + prio) = some t)
  (half : s.dev.waitUntil (t + s.dev.pauseUs (8 * port) 65535 / 2) = d)
include off half

theorem pfcRefreshTimer_above (above : d.fld Fld.NET_P_XOFF_XON port ≤ queueCells (d.queue (0x200 + 8 * port + prio))) :
    Gives (.pfcRefreshTimer port prio) s ((d.setNet { d.net with xoff := d.net.xoff.put (8 * port + prio) d.now }).sendPfc port prio 0xFFFF) :=
  gives_of_run (exec_pfcRefreshTimer ..) rfl (by simp only [off, half, if_pos above])

theorem pfcRefreshTimer_below (below : queueCells (d.queue (0x200 + 8 * port + prio)) < d.fld Fld.NET_P_XOFF_XON port) :
    Gives (.pfcRefreshTimer port prio) s d :=
  gives_of_run (exec_pfcRefreshTimer ..) rfl (by simp only [off, half, if_neg (Nat.not_le.2 below)])

end Refresh

/-! ### The storm watchdog (R250) -/

section Storm
variable {port prio t : Nat} {s : State}

section Expire
variable (pausedAt : s.dev.net.pausedAt.find? (8 * port + prio) = some t)
include pausedAt

theorem pfcStormExpire_off (off : s.dev.fld Fld.NET_P_PFC_STORM_MS port = 0) : Gives (.pfcStormExpire port prio) s s.dev :=
  gives_of_run (exec_pfcStormExpire ..) rfl (by simp [pausedAt, off])

theorem pfcStormExpire_fires (timed : s.dev.fld Fld.NET_P_PFC_STORM_MS port ≠ 0) (calm : s.dev.net.storm.has (8 * port + prio) = false)
    (held : ∃ i, i < 8 ∧ t + 1000 * s.dev.fld Fld.NET_P_PFC_STORM_MS port ≤ (s.dev.net.paused.find? (8 * (8 * port + i) + prio)).getD 0) :
    let d := s.dev.waitUntil (t + 1000 * s.dev.fld Fld.NET_P_PFC_STORM_MS port)
    Gives (.pfcStormExpire port prio) s
      (((d.setNet { d.net with storm := d.net.storm.put (8 * port + prio) ((d.net.pauseRx.find? (8 * port + prio)).getD t) }).raise
        Reg.NET_INT_STATUS 3 4).drainOf port prio) := by
  refine gives_of_run (exec_pfcStormExpire ..) rfl ?_
  have lasts : (List.range 8).any (fun i => decide (t + 1000 * s.dev.fld Fld.NET_P_PFC_STORM_MS port ≤
      (s.dev.net.paused.find? (8 * (8 * port + i) + prio)).getD 0)) = true := by
    obtain ⟨i, lt, long⟩ := held
    exact List.any_eq_true.2 ⟨i, List.mem_range.2 lt, decide_eq_true long⟩
  simp only [pausedAt, timed, calm, lasts, Bool.not_true, Bool.false_eq_true, false_or, if_false]

end Expire

theorem pfcStormClear_gives (storms : s.dev.net.storm.find? (8 * port + prio) = some t) :
    let d := s.dev.waitUntil (t + 100000)
    Gives (.pfcStormClear port prio) s
      (d.setNet { d.net with
        storm := d.net.storm.del (8 * port + prio), pausedAt := d.net.pausedAt.del (8 * port + prio)
        paused := d.net.paused.filter (fun p => !(p.1 / 64 == port && p.1 % 8 == prio)) }) :=
  gives_of_run (exec_pfcStormClear ..) rfl (by simp only [storms])

end Storm

/-- Settles O45: frames by their class, room in a queue, MC6, the links, pauses and the watchdog. -/
theorem ethernetPorts : Obligations.EthernetPorts := by
  refine ⟨fun f s up on => ⟨fun malformed => ?_, fun dropped => ?_, fun accepts roce => ⟨fun kept => ?_, fun good notRc notCnp => ?_⟩,
      fun accepts pdt => ⟨fun kept => ?_, fun good other => ?_⟩, fun accepts arbiter => ?_,
      fun accepts exception => ⟨fun full => ?_, fun room => ?_⟩⟩,
    fun f s down => ?_, fun d qn len owner mark alive => ⟨fun full => ?_, fun room => ?_⟩,
    fun iface bytes s on runs => ⟨fun lost kind target => ?_, fun mark poisoned kind target => ?_, fun mark whole up => ?_, fun mark whole kind => ?_⟩,
    fun iface kind target bytes s stopped => ?_, fun iface s on lt enabled present down clocked => ?_,
    fun iface s up => ⟨fun others => ?_, fun last => ?_⟩, fun iface prio quanta s up lt => ⟨fun ends => ?_, fun holds => ?_⟩,
    fun port prio t s off => ⟨fun above => ?_, fun below => ?_⟩, fun iface prio t s paused => ?_,
    fun port prio t s pausedAt => ⟨fun off => ?_, fun timed calm held => ?_⟩, fun port prio t s storms => ?_⟩
  · exact ethFrameRx_refused up on (ifAccepts_malformed malformed)
  · exact dropped.elim (ethFrameRx_refused up on) (ethFrameRx_unclassified up on)
  · have routed := ethFrameRx_routed up on accepts roce (by omega)
    rwa [routeFrame_roce kept] at routed
  · have routed := ethFrameRx_routed up on accepts roce (by omega)
    rwa [routeFrame_notRc good notRc notCnp] at routed
  · have routed := ethFrameRx_routed up on accepts pdt (by omega)
    rwa [routeFrame_pdt kept] at routed
  · have routed := ethFrameRx_routed up on accepts pdt (by omega)
    rwa [routeFrame_otherOpcode good other] at routed
  · exact ethFrameRx_routed up on accepts arbiter (by omega)
  · exact ethFrameRx_noMc6Room up on exception full
  · exact ⟨_, _, ethFrameRx_routed up on accepts exception (fun _ => room), rfl⟩
  · exact ethFrameRx_down down
  · exact ⟨receive_noRoom alive full true, receive_noRoom alive full false⟩
  · exact ⟨receive_room alive room true, receive_room alive room false⟩
  · exact exceptionFrame_lost on runs (Prod.ext rfl lost)
  · exact exceptionFrame_poisoned on runs (Prod.ext rfl poisoned)
  · have taken : s.dev.popIn (0x300 + iface / 8) = (_, some (mark, false)) := Prod.ext rfl whole
    exact ⟨exceptionFrame_answered on runs taken up, exceptionFrame_answered on runs taken up, exceptionFrame_answered on runs taken up⟩
  · exact exceptionFrame_otherTarget on runs (Prod.ext rfl whole)
  · exact exceptionFrame_stopped stopped
  · exact ethLinkUp_comes on lt enabled present down clocked
  · have goes := ethLinkDown_goes up
    rwa [if_neg others] at goes
  · have goes := ethLinkDown_goes up
    rwa [if_pos last] at goes
  · subst ends
    exact pfcFrameRx_ends up lt
  · exact ⟨_, pfcFrameRx_holds up lt holds, by simp, fun held => by simp [held], by simp, by simp, by simp, by simp⟩
  · exact pfcRefreshTimer_above off rfl above
  · exact pfcRefreshTimer_below off rfl below
  · exact pauseExpire_ends paused
  · exact pfcStormExpire_off pausedAt off
  · exact pfcStormExpire_fires pausedAt timed calm held
  · refine ⟨_, pfcStormClear_gives storms, by simp, by simp, waitUntil_now .., by simp, fun k v mem => ?_⟩
    have kept := (List.mem_filter.1 mem).2
    rintro ⟨rfl, rfl⟩
    simp only [beq_self_eq_true, Bool.and_self, Bool.not_true, Bool.false_eq_true] at kept

end Sys2Proof.Machine
end

section
/-! PROOF. PDT set-up (O48): the port and the switch, endpoints, peers and the counters, each device command by the rule that ends it. -/

namespace Sys2Proof.Machine

open Device

theorem exec_pdtConfig (fn : Nat) (s : State) : exec (.pdtConfig fn) s = execPdtConfig fn s := by rfl
theorem exec_epCreate (fn : Nat) (s : State) : exec (.epCreate fn) s = execEpCreate fn s := by rfl
theorem exec_epModify (fn : Nat) (s : State) : exec (.epModify fn) s = execEpModify fn s := by rfl
theorem exec_epDestroy (fn : Nat) (s : State) : exec (.epDestroy fn) s = execEpDestroy fn s := by rfl
theorem exec_epPeer (fn : Nat) (s : State) : exec (.epPeer fn) s = execEpPeer fn s := by rfl
theorem exec_pdtQuery (fn : Nat) (s : State) : exec (.pdtQuery fn) s = execPdtQuery fn s := by rfl

section SetUp
variable {fn : Nat} {x : DescState} {s : State}

/-- A set-up command of MC6 that its queue takes does what its body makes of the device that has released its packet. -/
theorem gives_of_setUp {c : Instr} {op : Nat} {body : Device → DescState → Device} {e : Device} (takes : s.dev.takesCore 6 fn op x = true)
    (late : 0x11 ≤ op) (runs : exec c s = s.run (fun d => d.coreCmd 6 fn op body)) (does : body (s.dev.takenDesc fn 0 x) x = e) : Gives c s e :=
  gives_of_run runs rfl ((coreCmd_released late takes).trans does)

section Config
variable (takes : s.dev.takesCore 6 fn 0xB8 x = true)
include takes

theorem pdtConfig_badBlock (bad : (s.dev.takenDesc fn 0 x).cfgOk x.data = false) :
    Gives (.pdtConfig fn) s ((s.dev.takenDesc fn 0 x).complete fn 0 x.seq stRange 0 0) :=
  gives_of_setUp takes (by decide) (exec_pdtConfig fn s) (if_pos (congrArg not bad))

theorem pdtConfig_sets (good : (s.dev.takenDesc fn 0 x).cfgOk x.data = true) :
    let d := s.dev.takenDesc fn 0 x
    Gives (.pdtConfig fn) s
      ((d.setPdt { d.pdt with port := leAt x.data 0 2, on := byteAt x.data 2 == 1, complMs := leAt x.data 4 2 }).complete fn 0 x.seq stOk 0 0) :=
  gives_of_setUp takes (by decide) (exec_pdtConfig fn s) (if_neg (by simp [good]))

end Config

section Create
variable (takes : s.dev.takesCore 6 fn 0xB9 x = true)
include takes

theorem epCreate_badBlock (bad : (s.dev.takenDesc fn 0 x).fnExists (dwF x.dw 8 9 0) = false ∨ epOk x.data = false) :
    Gives (.epCreate fn) s ((s.dev.takenDesc fn 0 x).complete fn 0 x.seq stRange 0 0) :=
  gives_of_setUp takes (by decide) (exec_epCreate fn s) (if_pos (by rcases bad with no | no <;> simp [no]))

variable (present : (s.dev.takenDesc fn 0 x).fnExists (dwF x.dw 8 9 0) = true) (good : epOk x.data = true)
include present good

theorem epCreate_full (full : (s.dev.takenDesc fn 0 x).freeEp = none) :
    Gives (.epCreate fn) s ((s.dev.takenDesc fn 0 x).complete fn 0 x.seq stBudget 0 0) :=
  gives_of_setUp takes (by decide) (exec_epCreate fn s) ((if_neg (by simp [present, good])).trans (by simp only [full]))

theorem epCreate_makes {i : Nat} (free : (s.dev.takenDesc fn 0 x).freeEp = some i) :
    let d := s.dev.takenDesc fn 0 x
    let owner := dwF x.dw 8 9 0
    let inc := nextInc d.pdt.epInc i 255
    let e := d.setPdt { d.pdt with
      eps := d.pdt.eps.put i { inc := inc, owner := owner, block := x.data, recvs := [] }, epInc := d.pdt.epInc.put i inc }
    Gives (.epCreate fn) s ((e.openOnce (0x8400 + owner) 3 owner).complete fn 0 x.seq stOk (inc * 65536 + i) 0) :=
  gives_of_setUp takes (by decide) (exec_epCreate fn s) ((if_neg (by simp [present, good])).trans (by simp only [free]))

end Create

section Modify
variable (takes : s.dev.takesCore 6 fn 0xBA x = true)
include takes

theorem epModify_noEp (none : (s.dev.takenDesc fn 0 x).ep? (dwF x.dw 8 23 0) = none) :
    Gives (.epModify fn) s ((s.dev.takenDesc fn 0 x).complete fn 0 x.seq stRange 0 0) :=
  gives_of_setUp takes (by decide) (exec_epModify fn s) (by simp only [none])

variable {g : PdtEp} (found : (s.dev.takenDesc fn 0 x).ep? (dwF x.dw 8 23 0) = some g)
include found

theorem epModify_badBlock (bad : epOk x.data = false) : Gives (.epModify fn) s ((s.dev.takenDesc fn 0 x).complete fn 0 x.seq stRange 0 0) :=
  gives_of_setUp takes (by decide) (exec_epModify fn s) (by simp only [found]; exact if_pos (congrArg not bad))

theorem epModify_sets (good : epOk x.data = true) :
    let d := s.dev.takenDesc fn 0 x
    Gives (.epModify fn) s
      ((d.setPdt { d.pdt with eps := d.pdt.eps.put (dwF x.dw 8 15 0) { g with block := x.data } }).complete fn 0 x.seq stOk 0 0) :=
  gives_of_setUp takes (by decide) (exec_epModify fn s) (by simp only [found]; exact if_neg (by simp [good]))

end Modify

section Destroy
variable (takes : s.dev.takesCore 6 fn 0xBB x = true)
include takes

theorem epDestroy_noEp (none : (s.dev.takenDesc fn 0 x).ep? (dwF x.dw 8 23 0) = none) :
    Gives (.epDestroy fn) s ((s.dev.takenDesc fn 0 x).complete fn 0 x.seq stRange 0 0) :=
  gives_of_setUp takes (by decide) (exec_epDestroy fn s) (by simp only [none])

theorem epDestroy_drops (found : ((s.dev.takenDesc fn 0 x).ep? (dwF x.dw 8 23 0)).isSome) :
    Gives (.epDestroy fn) s (((s.dev.takenDesc fn 0 x).dropEp (dwF x.dw 8 23 0)).complete fn 0 x.seq stOk 0 0) := by
  obtain ⟨g, found⟩ := Option.isSome_iff_exists.1 found
  exact gives_of_setUp takes (by decide) (exec_epDestroy fn s) (by simp only [found])

end Destroy

section Peer
variable (takes : s.dev.takesCore 6 fn 0xBC x = true)
include takes

theorem epPeer_noEp (none : (s.dev.takenDesc fn 0 x).ep? (dwF x.dw 8 23 0) = none) :
    Gives (.epPeer fn) s ((s.dev.takenDesc fn 0 x).complete fn 0 x.seq stRange 0 0) :=
  gives_of_setUp takes (by decide) (exec_epPeer fn s) (by simp only [none])

section Endpoint
variable (found : ((s.dev.takenDesc fn 0 x).ep? (dwF x.dw 8 23 0)).isSome)
include found

theorem epPeer_badBlock (bad : peerOk x.data = false) : Gives (.epPeer fn) s ((s.dev.takenDesc fn 0 x).complete fn 0 x.seq stRange 0 0) := by
  obtain ⟨g, found⟩ := Option.isSome_iff_exists.1 found
  exact gives_of_setUp takes (by decide) (exec_epPeer fn s) (by simp only [found]; exact if_pos (congrArg not bad))

variable (good : peerOk x.data = true)
include good

theorem epPeer_replaces {f : PdtTx} (flow : (s.dev.takenDesc fn 0 x).tx? (dwF x.dw 8 23 0) (leAt x.data 0 3) = some f) :
    Gives (.epPeer fn) s (((s.dev.takenDesc fn 0 x).setTx { f with peer := x.data }).complete fn 0 x.seq stOk 0 0) := by
  obtain ⟨g, found⟩ := Option.isSome_iff_exists.1 found
  exact gives_of_setUp takes (by decide) (exec_epPeer fn s)
    (by simp only [found]; exact (if_neg (by simp [good])).trans (by simp only [flow]))

variable (noFlow : (s.dev.takenDesc fn 0 x).tx? (dwF x.dw 8 23 0) (leAt x.data 0 3) = none)
include noFlow

theorem epPeer_full (full : 1048576 ≤ (s.dev.takenDesc fn 0 x).pdt.rx.length + (s.dev.takenDesc fn 0 x).pdt.tx.length) :
    Gives (.epPeer fn) s ((s.dev.takenDesc fn 0 x).complete fn 0 x.seq stBudget 0 0) := by
  obtain ⟨g, found⟩ := Option.isSome_iff_exists.1 found
  exact gives_of_setUp takes (by decide) (exec_epPeer fn s)
    (by simp only [found]; exact (if_neg (by simp [good])).trans (by simp only [noFlow, full, if_true]))

/-- A new sending record goes on with the limiter of the receiving record of its flow, when there is one. -/
theorem epPeer_makes (room : (s.dev.takenDesc fn 0 x).pdt.rx.length + (s.dev.takenDesc fn 0 x).pdt.tx.length < 1048576) :
    let d := s.dev.takenDesc fn 0 x
    let loc := dwF x.dw 8 23 0
    let rem := leAt x.data 0 3
    let f : PdtTx := { loc := loc, rem := rem, peer := x.data, psn := leAt x.data 32 4, msn := leAt x.data 36 4, lowMsn := leAt x.data 36 4,
                       ack := leAt x.data 32 4, sent := d.flowSent loc rem, ece := false, msgs := [],
                       rate := ((d.rx? loc rem).map (·.rate)).getD (rateAt (d.ifRate (byteAt x.data 4)) d.now) }
    Gives (.epPeer fn) s ((d.setPdt { d.pdt with tx := d.pdt.tx ++ [f] }).complete fn 0 x.seq stOk 0 0) := by
  obtain ⟨g, found⟩ := Option.isSome_iff_exists.1 found
  refine gives_of_setUp takes (by decide) (exec_epPeer fn s) ?_
  simp only [found, good, noFlow, Nat.not_le.2 room, Bool.not_true, Bool.false_eq_true, if_false]
  cases (s.dev.takenDesc fn 0 x).rx? (dwF x.dw 8 23 0) (leAt x.data 0 3) <;> rfl

end Endpoint
end Peer

theorem pdtQuery_writes (takes : s.dev.takesDev fn 0xBD x = true) :
    Gives (.pdtQuery fn) s ((s.dev.takenDesc fn 0 x).answerHost fn 0 x (s.dev.takenDesc fn 0 x).pdtCounters) :=
  gives_of_run (exec_pdtQuery fn s) rfl (devCmd_released (by decide) takes)

end SetUp

/-- Settles O48: PDT_CONFIG, the four endpoint commands and PDT_QUERY, rule by rule. -/
theorem pdtEndpoints : Obligations.PdtEndpoints := by
  intro fn x s
  refine ⟨fun takes => ⟨pdtConfig_badBlock takes, pdtConfig_sets takes⟩,
    fun takes => ⟨epCreate_badBlock takes, epCreate_full takes, fun i present good => epCreate_makes takes present good⟩,
    fun takes => ⟨epModify_noEp takes, fun g found => ⟨epModify_badBlock takes found, epModify_sets takes found⟩⟩,
    fun takes => ⟨epDestroy_noEp takes, epDestroy_drops takes⟩,
    fun takes => ⟨fun refused => ?_, fun found good => ⟨fun f => epPeer_replaces takes found good, epPeer_full takes found good,
      epPeer_makes takes found good⟩⟩, pdtQuery_writes⟩
  cases found : (s.dev.takenDesc fn 0 x).ep? (dwF x.dw 8 23 0) with
  | none => exact epPeer_noEp takes found
  | some g => exact epPeer_badBlock takes (found ▸ rfl) (refused.resolve_left (by simp [found]))

end Sys2Proof.Machine
end

section
/-! PROOF. PDT requests (O49): what a packet meets before its flow, at its flow by its PSN and MSN, and at its message. -/

namespace Sys2Proof.Machine
namespace Device

@[simp] theorem bumpPdt_on (d : Device) (n k : Nat) : (d.bumpPdt n k).pdt.on = d.pdt.on := rfl
@[simp] theorem bumpPdt_ep? (d : Device) (n k id : Nat) : (d.bumpPdt n k).ep? id = d.ep? id := rfl

/-! ### Packets that reach no endpoint (R229, R267, R271, R274, R302) -/

section Packet
variable {d : Device} {op : Nat} {p : PdtIn} {body : Device → Bool → Device}

theorem pdtPkt_stopped (stopped : d.hubOn = false ∨ d.portStopped = true) : d.pdtPkt op p body = d :=
  if_pos (by rcases stopped with off | full <;> simp [*])

section Taken
variable (on : d.hubOn = true) (takes : d.portStopped = false)
include on takes

theorem pdtPkt_lost (lost : (d.popIngress p.iface p.prio).2 = none) : d.pdtPkt op p body = (d.popIngress p.iface p.prio).1 := by
  have popped : d.popIngress p.iface p.prio = ((d.popIngress p.iface p.prio).1, none) := Prod.ext rfl lost
  rw [pdtPkt, if_neg (by simp [on, takes]), popped]

/-- A packet that its engine takes is counted; one that is not right, or that names no endpoint, is dropped, and a poisoned word ends the rest. -/
theorem pdtPkt_popped {mark poison : Bool} (popped : (d.popIngress p.iface p.prio).2 = some (mark, poison)) :
    d.pdtPkt op p body =
      let e := (d.popIngress p.iface p.prio).1
      if !p.ok || !e.pdt.on || (e.ep? p.dst).isNone then (e.bumpPdt 1).bumpPdt 13
      else if poison then e.bumpPdt 1
      else
        let ce := pdtData? op && (p.ce || (mark && (e.bumpPdt 1).flag Fld.NET_P_ECN_LOCAL_CE (p.iface / 8)))
        body (if ce then (e.bumpPdt 1).bumpPair Reg.NET_P_CE_LO 1 (p.iface / 8) else e.bumpPdt 1) ce := by
  have popped : d.popIngress p.iface p.prio = ((d.popIngress p.iface p.prio).1, some (mark, poison)) := Prod.ext rfl popped
  rw [pdtPkt, if_neg (by simp [on, takes]), popped]
  rfl

theorem pdtPkt_dropped {m : Bool × Bool} (popped : (d.popIngress p.iface p.prio).2 = some m)
    (bad : p.ok = false ∨ (d.popIngress p.iface p.prio).1.pdt.on = false ∨ (d.popIngress p.iface p.prio).1.ep? p.dst = none) :
    d.pdtPkt op p body = ((d.popIngress p.iface p.prio).1.bumpPdt 1).bumpPdt 13 :=
  (pdtPkt_popped on takes popped).trans (if_pos (by rcases bad with no | no | no <;> simp [no]))

theorem pdtPkt_poisoned {mark : Bool} (popped : (d.popIngress p.iface p.prio).2 = some (mark, true)) (right : p.ok = true)
    (pdtOn : (d.popIngress p.iface p.prio).1.pdt.on = true) (named : ((d.popIngress p.iface p.prio).1.ep? p.dst).isSome) :
    d.pdtPkt op p body = (d.popIngress p.iface p.prio).1.bumpPdt 1 :=
  (pdtPkt_popped on takes popped).trans ((if_neg (by simpa [right, pdtOn, Option.isNone_iff_eq_none, Option.isSome_iff_ne_none] using named)).trans
    (if_pos rfl))

end Taken

/-! ### Packets that reach an endpoint, and no flow (R230, R285, R295, R370) -/

section Heard
variable (hears : d.hearsPdt p = true)
include hears

theorem pdtReq_hears : d.pdtReq op p = (d.heardPdt op p).pdtGo op (d.seenPdt op p) := pdtPkt_hears hears

theorem pdtReq_waits (waits : (d.heardPdt op p).pdtKeyPending op (d.seenPdt op p) = true ∨
      (op != 9 && ((d.heardPdt op p).queue ((d.heardPdt op p).groupQ p.dst)).state == 3) = true) :
    d.pdtReq op p = (d.heardPdt op p).pdtHold op (d.seenPdt op p) :=
  (pdtReq_hears hears).trans (if_pos (Bool.or_eq_true_iff.2 waits))

section Goes
variable (ready : (d.heardPdt op p).pdtKeyPending op (d.seenPdt op p) = false)
  (whole : (op != 9 && ((d.heardPdt op p).queue ((d.heardPdt op p).groupQ p.dst)).state == 3) = false)
include ready whole

theorem pdtReq_goes : d.pdtReq op p = (d.heardPdt op p).pdtRequest op (d.seenPdt op p) (d.pdtCe op p) :=
  (pdtReq_hears hears).trans (if_neg (Bool.eq_false_iff.1 (Bool.or_eq_false_iff.2 ⟨ready, whole⟩)))

theorem pdtReq_busy {st : Nat} (busy : (d.heardPdt op p).pdtBusy ((d.heardPdt op p).rx? p.dst p.src).isNone = some st) :
    d.pdtReq op p = (d.heardPdt op p).pdtSayBusy (d.seenPdt op p) st := by
  have busy : (d.heardPdt op p).pdtBusy ((d.heardPdt op p).rx? (d.seenPdt op p).dst (d.seenPdt op p).src).isNone = some st := busy
  rw [pdtReq_goes hears ready whole, pdtRequest, busy]

theorem pdtReq_noFlow (serves : (d.heardPdt op p).pdtBusy ((d.heardPdt op p).rx? p.dst p.src).isNone = none)
    (noFlow : (d.heardPdt op p).pdtFlow (d.seenPdt op p) (d.pdtCe op p) = none) :
    d.pdtReq op p = (d.heardPdt op p).pdtNak (pdtHere (d.seenPdt op p)) (d.seenPdt op p) 3 := by
  have serves : (d.heardPdt op p).pdtBusy ((d.heardPdt op p).rx? (d.seenPdt op p).dst (d.seenPdt op p).src).isNone = none := serves
  rw [pdtReq_goes hears ready whole, pdtRequest, serves]
  simp only [noFlow]

end Goes
end Heard
end Packet

/-! ### A request at its flow (R285, R288, R289, R294) -/

section Flow
variable {d : Device} {f : PdtRx} {op : Nat} {p : PdtIn}

/-- The device whose cipher has met the payload of a request, when it is protected (R297). -/
def pdtCiphered (d : Device) (p : PdtIn) : Device := if natBit p.flags 15 then d.cipherBytes p.bytes.length else d

theorem pdtAt_query : d.pdtAt f 9 p = (transports 4096 (pdtRun p.dst p.src 64 d)).pdtAck p.dst p.src := if_pos rfl

variable (request : op ≠ 9)
include request

theorem pdtAt_beyond (beyond : msnBefore ((f.ack + 128) % 4294967296) p.psn = true) : d.pdtAt f op p = d.bumpPdt 13 :=
  (if_neg request).trans (if_pos beyond)

variable (within : msnBefore ((f.ack + 128) % 4294967296) p.psn = false)
include within

theorem pdtAt_duplicate
    (old : msnBefore p.psn f.ack = true ∨ msnBefore p.msn f.exp = true ∨ f.done.any (fun q => q.1 == p.msn) = true) :
    d.pdtAt f op p = transports 4096 (pdtRun p.dst p.src 64 (d.pdtDup f op p)) :=
  (if_neg request).trans ((if_neg (Bool.eq_false_iff.1 within)).trans (if_pos (by rcases old with h | h | h <;> simp [h])))

variable (newPsn : msnBefore p.psn f.ack = false) (newMsn : msnBefore p.msn f.exp = false) (undecided : f.done.any (fun q => q.1 == p.msn) = false)
include newPsn newMsn undecided

/-- A packet that is new in the window is one of its message. -/
theorem pdtAt_new :
    d.pdtAt f op p = match f.entries.find? (fun e => e.msn == p.msn) with
      | some e => (d.pdtCiphered p).pdtMore f op p e
      | none => (d.pdtCiphered p).pdtFresh f op p := by
  rw [pdtAt, if_neg request, if_neg (Bool.eq_false_iff.1 within), if_neg (by simp only [newPsn, newMsn, undecided]; decide)]
  rfl

theorem pdtAt_later {e : PdtEntry} (entry : f.entries.find? (fun e => e.msn == p.msn) = some e) :
    d.pdtAt f op p = (d.pdtCiphered p).pdtMore f op p e := by
  rw [pdtAt_new request within newPsn newMsn undecided, entry]

theorem pdtAt_first (noEntry : f.entries.find? (fun e => e.msn == p.msn) = none) : d.pdtAt f op p = (d.pdtCiphered p).pdtFresh f op p := by
  rw [pdtAt_new request within newPsn newMsn undecided, noEntry]

end Flow

/-! ### A later packet of a message (R288, R289, R292, R298) -/

section Later
variable {d : Device} {f : PdtRx} {op : Nat} {p : PdtIn} {e : PdtEntry}

/-- The device in which the reserved packet of a read bears the ATTEMPT of its latest request (R292). -/
def pdtRetagged (d : Device) (op : Nat) (p : PdtIn) (e : PdtEntry) : Device :=
  if op = 4 then d.retagPkt (d.groupQ p.dst) (.pdt p.dst p.src e.att e.msn) (.pdt p.dst p.src (p.flags % 16) e.msn) else d

/-- The entry of a message as its latest request names its attempt (R292). -/
def entryAt (op : Nat) (p : PdtIn) (e : PdtEntry) : PdtEntry := if op = 4 then { e with att := p.flags % 16 } else e

/-- The device in which the entry of a packet's message is what `g` makes of it. -/
def updEntry (d : Device) (p : PdtIn) (g : PdtEntry → PdtEntry) : Device :=
  d.updRx p.dst p.src (fun f => { f with entries := f.entries.map (fun x => if x.msn = p.msn then g x else x) })

theorem pdtMore_contradicts (differs : e.len ≠ p.msgLen ∨ e.op ≠ op ∨ e.grant ≠ p.grant ∨ e.off ≠ p.off ∨ e.imm ≠ p.imm ∨
    e.gcm ≠ natBit p.flags 15) : d.pdtMore f op p e = d.pdtNak f p 4 := if_pos differs

variable (len : e.len = p.msgLen) (sameOp : e.op = op) (grant : e.grant = p.grant) (off : e.off = p.off) (imm : e.imm = p.imm)
  (gcm : e.gcm = natBit p.flags 15)
include len sameOp grant off imm gcm

/-- A packet that agrees with its entry joins it. -/
theorem pdtMore_agrees :
    d.pdtMore f op p e =
      let c := d.pdtRetagged op p e
      if (entryAt op p e).status ≠ 0 then (c.updEntry p (fun x => touchEntry x p c.now)).pdtTaken p
      else if !(c.pdtClear op p).2 then transports 4096 (pdtRun p.dst p.src 64 (c.pdtTagFail p.dst p.src (entryAt op p e)))
      else (c.updEntry p (fun x => storePart x p (c.pdtClear op p).1 c.now)).pdtTaken p :=
  if_neg (by simp [len, sameOp, grant, off, imm, gcm])

theorem pdtMore_ended (ended : (entryAt op p e).status ≠ 0) :
    let c := d.pdtRetagged op p e
    d.pdtMore f op p e = (c.updEntry p (fun x => touchEntry x p c.now)).pdtTaken p :=
  (pdtMore_agrees len sameOp grant off imm gcm).trans (if_pos ended)

variable (lives : (entryAt op p e).status = 0)
include lives

theorem pdtMore_stores (clear : ((d.pdtRetagged op p e).pdtClear op p).2 = true) :
    let c := d.pdtRetagged op p e
    d.pdtMore f op p e = (c.updEntry p (fun x => storePart x p (c.pdtClear op p).1 c.now)).pdtTaken p :=
  (pdtMore_agrees len sameOp grant off imm gcm).trans ((if_neg (not_not_intro lives)).trans (if_neg (by simp [clear])))

theorem pdtMore_tagFails (wrong : ((d.pdtRetagged op p e).pdtClear op p).2 = false) :
    d.pdtMore f op p e =
      transports 4096 (pdtRun p.dst p.src 64 ((d.pdtRetagged op p e).pdtTagFail p.dst p.src (entryAt op p e))) :=
  (pdtMore_agrees len sameOp grant off imm gcm).trans ((if_neg (not_not_intro lives)).trans (if_pos (congrArg not wrong)))

end Later

/-! ### The first packet of a message (R288, R289, R291, R298) -/

section First
variable {d : Device} {f : PdtRx} {op : Nat} {p : PdtIn}

/-- The message entries that the flows hold. -/
def heldEntries (d : Device) : Nat := d.pdt.rx.foldl (fun a f => a + f.entries.length) 0

/-- The entry that the first packet of a message makes, with the status that it meets. -/
def newEntry (d : Device) (f : PdtRx) (op : Nat) (p : PdtIn) : PdtEntry :=
  { msn := p.msn, op := op, len := p.msgLen, grant := p.grant, off := p.off, imm := p.imm, gcm := natBit p.flags 15, flags := p.flags,
    att := p.flags % 16, status := d.pdtFirst f op p, units := [], parts := [], lastAt := d.now, nonce := p.nonce, via := viaOf p, psn := p.psn }

/-- The device whose flow of a packet holds one more entry. -/
def addEntry (d : Device) (p : PdtIn) (e : PdtEntry) : Device := d.updRx p.dst p.src (fun f => { f with entries := f.entries ++ [e] })

/-- The cells that a message reserves (R289). -/
def msgCells (p : PdtIn) : Nat := (p.msgLen + 255) / 256 + 4

/-- The device that has reserved the cells of a message, for its owner. -/
def reserveMsg (d : Device) (p : PdtIn) : Device :=
  d.addPkt (d.groupQ p.dst) { tok := .pdt p.dst p.src (p.flags % 16) p.msn, owner := (d.queue (d.groupQ p.dst)).owner, cells := msgCells p,
                              whole := false, poison := false, void := false, len := p.msgLen }

theorem pdtFresh_noEntry (full : 16384 ≤ d.heldEntries) : d.pdtFresh f op p = d.pdtNak f p 1 := if_pos full

variable (free : d.heldEntries < 16384)
include free

/-- A first packet for which an entry is free: its checks, its cells and its tag decide. -/
theorem pdtFresh_entry :
    d.pdtFresh f op p =
      let e := d.newEntry f op p
      let cells := msgCells p
      let qn := d.groupQ p.dst
      let c := d.reserveMsg p
      if d.pdtFirst f op p ≠ 0 then
        ((if (d.pdtGrantSt f op p).isSome then d.noteReject (.pdt p.grant p.src e.gcm) (d.pdtFirst f op p) else d).addEntry p e).pdtTaken p
      else if !d.mayReserve qn cells (d.queue qn).owner then (d.refuseCells qn cells).pdtNak f p 2
      else if !(c.pdtClear op p).2 then transports 4096 (pdtRun p.dst p.src 64 ((c.addEntry p e).pdtTagFail p.dst p.src e))
      else (c.addEntry p (storePart e p (c.pdtClear op p).1 c.now)).pdtTaken p :=
  if_neg (Nat.not_le.2 free)

theorem pdtFresh_grantRefuses (refused : d.pdtFirst f op p ≠ 0) (grant : d.pdtGrantSt f op p = some (d.pdtFirst f op p)) :
    d.pdtFresh f op p =
      ((d.noteReject (.pdt p.grant p.src (natBit p.flags 15)) (d.pdtFirst f op p)).addEntry p (d.newEntry f op p)).pdtTaken p := by
  rw [pdtFresh_entry free]
  simp only [if_pos refused, grant, Option.isSome_some, if_true]
  rfl

theorem pdtFresh_refused (refused : d.pdtFirst f op p ≠ 0) (noGrant : d.pdtGrantSt f op p = none) :
    d.pdtFresh f op p = (d.addEntry p (d.newEntry f op p)).pdtTaken p := by
  rw [pdtFresh_entry free]
  simp only [if_pos refused, noGrant, Option.isSome_none, Bool.false_eq_true, if_false]

variable (passes : d.pdtFirst f op p = 0)
include passes

theorem pdtFresh_noCells (full : d.mayReserve (d.groupQ p.dst) (msgCells p) (d.queue (d.groupQ p.dst)).owner = false) :
    d.pdtFresh f op p = (d.refuseCells (d.groupQ p.dst) (msgCells p)).pdtNak f p 2 :=
  (pdtFresh_entry free).trans ((if_neg (not_not_intro passes)).trans (if_pos (congrArg not full)))

variable (room : d.mayReserve (d.groupQ p.dst) (msgCells p) (d.queue (d.groupQ p.dst)).owner = true)
include room

theorem pdtFresh_stores (clear : ((d.reserveMsg p).pdtClear op p).2 = true) :
    let c := d.reserveMsg p
    d.pdtFresh f op p = (c.addEntry p (storePart (d.newEntry f op p) p (c.pdtClear op p).1 c.now)).pdtTaken p :=
  (pdtFresh_entry free).trans ((if_neg (not_not_intro passes)).trans ((if_neg (by simp [room])).trans (if_neg (by simp [clear]))))

theorem pdtFresh_tagFails (wrong : ((d.reserveMsg p).pdtClear op p).2 = false) :
    d.pdtFresh f op p =
      transports 4096 (pdtRun p.dst p.src 64 (((d.reserveMsg p).addEntry p (d.newEntry f op p)).pdtTagFail p.dst p.src (d.newEntry f op p))) :=
  (pdtFresh_entry free).trans ((if_neg (not_not_intro passes)).trans ((if_neg (by simp [room])).trans (if_pos (congrArg not wrong))))

end First
end Device

open Device

/-! ### The commands: each is a request of its opcode -/

/-- The request commands of a packet, with their opcodes (R274). -/
def pdtRequestCmds (p : PdtIn) : List (Nat × Instr) :=
  [(1, .pdtWrite p), (2, .pdtWriteImm p), (3, .pdtSend p), (4, .pdtReadReq p), (5, .pdtCas8 p), (6, .pdtCas16 p), (7, .pdtFadd8 p),
   (8, .pdtPersist p), (9, .pdtQueryPkt p)]

theorem exec_pdtRequest {p : PdtIn} {x : Nat × Instr} (mem : x ∈ pdtRequestCmds p) (s : State) :
    exec x.2 s = s.run (fun d => (d.pdtReq x.1 p).settle) := by
  simp only [pdtRequestCmds, List.mem_cons, List.not_mem_nil, or_false] at mem
  rcases mem with rfl | rfl | rfl | rfl | rfl | rfl | rfl | rfl | rfl <;> rfl

theorem gives_of_pdtReq {p : PdtIn} {x : Nat × Instr} {s : State} {e : Device} (mem : x ∈ pdtRequestCmds p)
    (answers : s.dev.pdtReq x.1 p = e) : Gives x.2 s e.settle :=
  gives_of_run (exec_pdtRequest mem s) rfl (congrArg settle answers)

/-- Settles O49: the commands by what their packet meets, then a request at its flow, a later and a first packet of a message. -/
theorem pdtRequests : Obligations.PdtRequests := by
  refine ⟨fun p s x mem => ⟨fun f d takes => ?_, fun hears waits => ?_, fun hears ready whole => ⟨fun st busy => ?_, fun serves noFlow => ?_⟩,
      fun on takes => ⟨fun lost => ?_, fun m popped bad => ?_, fun mark popped right pdtOn named => ?_⟩, fun stopped => ?_⟩,
    fun d f p => ⟨pdtAt_query, fun op request => ⟨pdtAt_beyond request, pdtAt_duplicate request, fun within newPsn newMsn undecided =>
      ⟨fun e entry => ?_, fun noEntry => ?_⟩⟩⟩⟩
  · exact gives_of_pdtReq mem (pdtReq_takes takes)
  · exact gives_of_pdtReq mem (pdtReq_waits hears waits)
  · exact gives_of_pdtReq mem (pdtReq_busy hears ready whole busy)
  · exact gives_of_pdtReq mem (pdtReq_noFlow hears ready whole serves noFlow)
  · exact gives_of_pdtReq mem (pdtPkt_lost on takes lost)
  · exact gives_of_pdtReq mem (pdtPkt_dropped on takes popped bad)
  · exact gives_of_pdtReq mem (pdtPkt_poisoned on takes popped right pdtOn named)
  · exact gives_of_pdtReq mem (pdtPkt_stopped stopped)
  · rw [pdtAt_later request within newPsn newMsn undecided entry]
    exact ⟨pdtMore_contradicts, fun len sameOp grant off imm gcm => ⟨pdtMore_ended len sameOp grant off imm gcm,
      pdtMore_stores len sameOp grant off imm gcm, pdtMore_tagFails len sameOp grant off imm gcm⟩⟩
  · rw [pdtAt_first request within newPsn newMsn undecided noEntry]
    exact ⟨pdtFresh_noEntry, fun free refused => pdtFresh_grantRefuses free refused, fun free refused => pdtFresh_refused free refused,
      fun free passes => pdtFresh_noCells free passes,
      fun free passes room => ⟨pdtFresh_stores free passes room, pdtFresh_tagFails free passes room⟩⟩

end Sys2Proof.Machine
end

section
/-! PROOF. The PDT sender (O50): responses at the flow that sent the request, the timers of both kinds of flow, and the windows of a new packet. -/

namespace Sys2Proof.Machine
namespace Device

/-! ### A packet for the sender at its flow (R283, R284) -/

/-- The device whose sending flow has noted the congestion marks of a packet: a CE falls due as ECE, and an ECE acts on the limiter. -/
def noteMarks (d : Device) (p : PdtIn) (ce : Bool) : Device :=
  let d := if ce then d.updTx p.dst p.src (fun f => { f with ece := true }) else d
  if natBit p.flags 13 then d.takeEce p.dst p.src else d

section Response
variable {d : Device} {p : PdtIn} {g f : PdtTx}

theorem pdtRspGo_flow {body : Device → PdtTx → Device} (known : d.tx? p.dst p.src = some g)
    (found : (d.noteMarks p p.ce).tx? p.dst p.src = some f) : d.pdtRspGo p body = body (d.noteMarks p p.ce) f := by
  simp only [noteMarks] at found ⊢
  simp only [pdtRspGo, known, found]

section Heard
variable {op : Nat} {body : Device → PdtTx → Device} (hears : d.hearsPdt p = true)
include hears

theorem pdtRsp_uncounted (known : (d.heardPdt op p).tx? p.dst p.src = some g)
    (found : ((d.heardPdt op p).noteMarks p (d.pdtCe op p)).tx? p.dst p.src = some f) :
    d.pdtRsp op p none body = body ((d.heardPdt op p).noteMarks p (d.pdtCe op p)) f :=
  (pdtPkt_hears hears).trans (pdtRspGo_flow (p := d.seenPdt op p) known found)

/-- A response that has a counter of R302 is counted before its flow takes it. -/
theorem pdtRsp_counted {cnt : Nat} (known : ((d.heardPdt op p).bumpPdt cnt).tx? p.dst p.src = some g)
    (found : (((d.heardPdt op p).bumpPdt cnt).noteMarks p (d.pdtCe op p)).tx? p.dst p.src = some f) :
    d.pdtRsp op p (some cnt) body = body (((d.heardPdt op p).bumpPdt cnt).noteMarks p (d.pdtCe op p)) f :=
  (pdtPkt_hears hears).trans (pdtRspGo_flow (p := d.seenPdt op p) known found)

end Heard
end Response

/-! ### The response of a read (R292, R297, R298) -/

section ReadResponse
variable {d : Device} {p : PdtIn} {g f : PdtTx} {m : PdtMsg}

theorem respGo_waits (pending : d.respPending p = true) : d.respGo p = d.pdtHold 0x11 p := if_pos pending

/-- The bytes of a message's read, in the order of their offsets. -/
def gotData (got : AMap (List Byte)) : List Byte := got.foldl (fun a q => spliceBytes a q.1 q.2) []

/-- A sending flow without a message, LOW_MSN at the first that is left. -/
def flowWithout (f : PdtTx) (m : PdtMsg) : PdtTx :=
  let ms := f.msgs.filter (fun x => x.msn != m.msn)
  { f with msgs := ms, lowMsn := (ms.head?.map (·.msn)).getD f.msn }

/-- The parts of a read with those of one more response, decrypted when its message is protected. -/
def gotWith (d : Device) (p : PdtIn) (m : PdtMsg) : AMap (List Byte) :=
  m.got.put p.msgOff (if m.gcm then (d.pdtUnseal m.kslot 0x11 p).1 else p.bytes)

variable (ready : d.respPending p = false) (known : d.tx? p.dst p.src = some g) (found : (d.noteMarks p p.ce).tx? p.dst p.src = some f)
include ready known found

theorem respGo_noMsg (none : msgOf f p.msn = none) : d.respGo p = d.noteMarks p p.ce := by
  rw [respGo, if_neg (Bool.eq_false_iff.1 ready), pdtRspGo_flow known found]
  simp only [none]

variable (message : msgOf f p.msn = some m)
include message

/-- What a response does at its message. -/
theorem respGo_msg :
    d.respGo p =
      let e := d.noteMarks p p.ce
      if !m.read || m.att != p.flags % 16 then e
      else if m.gcm && !(e.pdtUnseal m.kslot 0x11 p).2 then (e.authFail.bumpPdt 10).pdtEnd f m stAuthFail 0
      else
        let got := e.gotWith p m
        let c := if m.gcm then e.cipherBytes p.bytes.length else e
        if gotBytes got < m.len then c.updMsg f.loc f.rem m.msn (fun x => { x with got := got })
        else (c.setTx (flowWithout f m)).landRead m.fn m.q m.seq m.pos ((gotData got).take m.len) stOk 0 := by
  rw [respGo, if_neg (Bool.eq_false_iff.1 ready), pdtRspGo_flow known found]
  simp only [message, flowWithout]
  cases f.msgs.filter (fun x => x.msn != m.msn) <;> rfl

theorem respGo_stray (stray : m.read = false ∨ m.att ≠ p.flags % 16) : d.respGo p = d.noteMarks p p.ce :=
  (respGo_msg ready known found message).trans (if_pos (by rcases stray with no | other <;> simp [*]))

variable (read : m.read = true) (att : m.att = p.flags % 16)
include read att

theorem respGo_tagFails (protects : m.gcm = true) (wrong : ((d.noteMarks p p.ce).pdtUnseal m.kslot 0x11 p).2 = false) :
    d.respGo p = (((d.noteMarks p p.ce).authFail).bumpPdt 10).pdtEnd f m stAuthFail 0 :=
  (respGo_msg ready known found message).trans ((if_neg (by simp [read, att])).trans (if_pos (by simp [protects, wrong])))

variable (clear : m.gcm = false ∨ ((d.noteMarks p p.ce).pdtUnseal m.kslot 0x11 p).2 = true)
include clear

/-- A response that passes its tag leaves its bytes at the message, or is the last of a read that lands. -/
theorem respGo_passes :
    d.respGo p =
      let e := d.noteMarks p p.ce
      let got := e.gotWith p m
      let c := if m.gcm then e.cipherBytes p.bytes.length else e
      if gotBytes got < m.len then c.updMsg f.loc f.rem m.msn (fun x => { x with got := got })
      else (c.setTx (flowWithout f m)).landRead m.fn m.q m.seq m.pos ((gotData got).take m.len) stOk 0 :=
  (respGo_msg ready known found message).trans
    ((if_neg (by simp [read, att])).trans (if_neg (by rcases clear with plain | right <;> simp [*])))

theorem respGo_stores (more : gotBytes ((d.noteMarks p p.ce).gotWith p m) < m.len) :
    let e := d.noteMarks p p.ce
    let c := if m.gcm then e.cipherBytes p.bytes.length else e
    d.respGo p = c.updMsg f.loc f.rem m.msn (fun x => { x with got := e.gotWith p m }) :=
  (respGo_passes ready known found message read att clear).trans (if_pos more)

theorem respGo_lands (last : m.len ≤ gotBytes ((d.noteMarks p p.ce).gotWith p m)) :
    let e := d.noteMarks p p.ce
    let c := if m.gcm then e.cipherBytes p.bytes.length else e
    d.respGo p = (c.setTx (flowWithout f m)).landRead m.fn m.q m.seq m.pos ((gotData (e.gotWith p m)).take m.len) stOk 0 :=
  (respGo_passes ready known found message read att clear).trans (if_neg (Nat.not_lt.2 last))

end ReadResponse

/-! ### The windows that bound a new packet (R276, R277) -/

/-- A packet that a flow may send is of a message not wholly sent, within the PSN window and, the first of its message, within the MSN window. -/
theorem pdtNextPkt_some {d : Device} {f : PdtTx} {m : PdtMsg} (next : d.pdtNextPkt f = some m) :
    m ∈ f.msgs ∧ m.allSent = false ∧ seqBefore 32 ((f.ack + 128) % 4294967296) f.psn = false ∧ (m.next = 0 → seqDist 32 f.lowMsn m.msn < 32) := by
  cases found : f.msgs.find? (fun m => !m.allSent) with
  | none => simp [pdtNextPkt, found] at next
  | some x =>
    simp only [pdtNextPkt, found] at next
    obtain ⟨windows, same⟩ := Option.ite_none_right_eq_some.1 next
    obtain rfl : x = m := Option.some.inj same
    simp only [Bool.and_eq_true, Bool.or_eq_true, Bool.not_eq_true', bne_iff_ne, decide_eq_true_eq] at windows
    obtain ⟨⟨-, psn⟩, msn⟩ := windows
    have unsent := List.find?_some found
    exact ⟨List.mem_of_find?_eq_some found, by simpa using unsent, psn, fun first => msn.resolve_left (not_not_intro first)⟩

/-! ### A flow record that is removed (R285) -/

/-- The device without the record of a receiving flow. -/
def removeRx (d : Device) (loc src : Nat) : Device :=
  d.setPdt { d.pdt with rx := d.pdt.rx.filter (fun g => !(g.loc == loc && g.src == src)) }

theorem removeRx_rx? (d : Device) (loc src : Nat) : (d.removeRx loc src).rx? loc src = none :=
  List.find?_eq_none.2 fun g mem named => by
    have kept := (List.mem_filter.1 mem).2
    simp only [named, Bool.not_true, Bool.false_eq_true] at kept

end Device

open Device

/-! ### The commands -/

theorem exec_pdtReadResp (p : PdtIn) (s : State) : exec (.pdtReadResp p) s = execPdtReadResp p s := by rfl
theorem exec_pdtAtomicResp (p : PdtIn) (s : State) : exec (.pdtAtomicResp p) s = execPdtAtomicResp p s := by rfl
theorem exec_pdtAck (p : PdtIn) (s : State) : exec (.pdtAck p) s = execPdtAck p s := by rfl
theorem exec_pdtNak (p : PdtIn) (s : State) : exec (.pdtNak p) s = execPdtNak p s := by rfl
theorem exec_pdtBusy (p : PdtIn) (s : State) : exec (.pdtBusy p) s = execPdtBusy p s := by rfl
theorem exec_pdtMessageExecute (loc src : Nat) (s : State) : exec (.pdtMessageExecute loc src) s = execPdtMessageExecute loc src s := by rfl
theorem exec_pdtAckTimer (loc src : Nat) (s : State) : exec (.pdtAckTimer loc src) s = execPdtAckTimer loc src s := by rfl
theorem exec_pdtPacketSend (loc rem : Nat) (s : State) : exec (.pdtPacketSend loc rem) s = execPdtPacketSend loc rem s := by rfl
theorem exec_pdtRetransmitTimer (loc rem msn : Nat) (s : State) :
    exec (.pdtRetransmitTimer loc rem msn) s = execPdtRetransmitTimer loc rem msn s := by rfl
theorem exec_pdtComplTimeout (loc rem msn : Nat) (s : State) : exec (.pdtComplTimeout loc rem msn) s = execPdtComplTimeout loc rem msn s := by rfl
theorem exec_pdtEntryTimeout (loc src msn : Nat) (s : State) : exec (.pdtEntryTimeout loc src msn) s = execPdtEntryTimeout loc src msn s := by rfl
theorem exec_pdtFlowExpire (loc src : Nat) (s : State) : exec (.pdtFlowExpire loc src) s = execPdtFlowExpire loc src s := by rfl
theorem exec_pdtQuietEnd (s : State) : exec .pdtQuietEnd s = execPdtQuietEnd s := by rfl

/-! ### Responses (R279, R281, R292, R299) -/

section Responses
variable {p : PdtIn} {g f : PdtTx} {s : State} (hears : s.dev.hearsPdt p = true)
include hears

theorem pdtAtomicResp_flow (known : (s.dev.heardPdt 0x12 p).tx? p.dst p.src = some g)
    (found : ((s.dev.heardPdt 0x12 p).noteMarks p (s.dev.pdtCe 0x12 p)).tx? p.dst p.src = some f) :
    Gives (.pdtAtomicResp p) s ((s.dev.heardPdt 0x12 p).noteMarks p (s.dev.pdtCe 0x12 p)).settle :=
  gives_of_run (exec_pdtAtomicResp p s) rfl (congrArg settle (pdtRsp_uncounted hears known found))

theorem pdtAck_flow (known : (s.dev.heardPdt 0x13 p).tx? p.dst p.src = some g)
    (found : ((s.dev.heardPdt 0x13 p).noteMarks p (s.dev.pdtCe 0x13 p)).tx? p.dst p.src = some f) :
    Gives (.pdtAck p) s (((s.dev.heardPdt 0x13 p).noteMarks p (s.dev.pdtCe 0x13 p)).pdtAckIn p f).settle :=
  gives_of_run (exec_pdtAck p s) rfl (congrArg settle (pdtRsp_uncounted hears known found))

theorem pdtBusy_flow (known : ((s.dev.heardPdt 0x15 p).bumpPdt 9).tx? p.dst p.src = some g)
    (found : (((s.dev.heardPdt 0x15 p).bumpPdt 9).noteMarks p (s.dev.pdtCe 0x15 p)).tx? p.dst p.src = some f) :
    Gives (.pdtBusy p) s ((((s.dev.heardPdt 0x15 p).bumpPdt 9).noteMarks p (s.dev.pdtCe 0x15 p)).updMsg f.loc f.rem p.msn
      (fun m => { m with busy := byteAt p.bytes 0 })).settle :=
  gives_of_run (exec_pdtBusy p s) rfl (congrArg settle (pdtRsp_counted hears known found))

section Nak
variable (known : ((s.dev.heardPdt 0x14 p).bumpPdt 7).tx? p.dst p.src = some g)
  (found : (((s.dev.heardPdt 0x14 p).bumpPdt 7).noteMarks p (s.dev.pdtCe 0x14 p)).tx? p.dst p.src = some f)
include known found

theorem pdtNak_noMsg (none : msgOf f p.msn = none) :
    Gives (.pdtNak p) s (((s.dev.heardPdt 0x14 p).bumpPdt 7).noteMarks p (s.dev.pdtCe 0x14 p)).settle :=
  gives_of_run (exec_pdtNak p s) rfl (congrArg settle ((pdtRsp_counted hears known found).trans (by simp only [none])))

variable {m : PdtMsg} (message : msgOf f p.msn = some m)
include message

theorem pdtNak_malformed (malformed : byteAt p.bytes 0 = 4) :
    Gives (.pdtNak p) s ((((s.dev.heardPdt 0x14 p).bumpPdt 7).noteMarks p (s.dev.pdtCe 0x14 p)).pdtEnd f m stRemote 2).settle :=
  gives_of_run (exec_pdtNak p s) rfl (congrArg settle ((pdtRsp_counted hears known found).trans
    (by simp only [message, malformed, if_true])))

theorem pdtNak_loss (loss : byteAt p.bytes 0 ≠ 4) :
    Gives (.pdtNak p) s (((s.dev.heardPdt 0x14 p).bumpPdt 7).noteMarks p (s.dev.pdtCe 0x14 p)).settle :=
  gives_of_run (exec_pdtNak p s) rfl (congrArg settle ((pdtRsp_counted hears known found).trans
    (by simp only [message, loss, if_false])))

end Nak

/-- A read response does what its engine makes of it. -/
theorem pdtReadResp_gives {e : Device} (does : (s.dev.heardPdt 0x11 p).respGo (s.dev.seenPdt 0x11 p) = e) :
    Gives (.pdtReadResp p) s e.settle :=
  gives_of_run (exec_pdtReadResp p s) rfl (congrArg settle ((pdtPkt_hears hears).trans does))

end Responses

/-! ### The timers of a receiving flow (R285, R290, R294, R296) -/

section Receiving
variable {loc src : Nat} {f : PdtRx} {s : State} (found : s.dev.rx? loc src = some f)

theorem pdtMessageExecute_runs : Gives (.pdtMessageExecute loc src) s (pdtRun loc src 64 s.dev).settle :=
  gives_of_run (exec_pdtMessageExecute ..) rfl rfl

include found

theorem pdtAckTimer_none (acked : f.unacked = 0) : Gives (.pdtAckTimer loc src) s s.dev :=
  gives_of_run (exec_pdtAckTimer ..) rfl (by simp only [found, acked, if_true])

theorem pdtAckTimer_acks (unacked : f.unacked ≠ 0) :
    Gives (.pdtAckTimer loc src) s ((s.dev.waitUntil (f.unackedAt + 2)).pdtAck loc src) :=
  gives_of_run (exec_pdtAckTimer ..) rfl (by simp only [found, unacked, if_false])

section Entry
variable {msn : Nat} {e : PdtEntry} (entry : f.entries.find? (fun e => e.msn == msn) = some e)
include entry

theorem pdtEntryTimeout_ended (ended : e.status ≠ 0) : Gives (.pdtEntryTimeout loc src msn) s s.dev :=
  gives_of_run (exec_pdtEntryTimeout ..) rfl (by simp only [found, entry]; exact if_pos ended)

theorem pdtEntryTimeout_aborts (lives : e.status = 0) :
    let d := s.dev.waitUntil (e.lastAt + 64000)
    Gives (.pdtEntryTimeout loc src msn) s
      (pdtRun loc src 64 (((d.rewindPkt (d.groupQ loc) (.pdt loc src e.att msn)).bumpPdt 11).updRx loc src (fun f => { f with
        entries := f.entries.map (fun x => if x.msn = msn then { x with status := stAborted, parts := [], units := [] } else x) }))).settle :=
  gives_of_run (exec_pdtEntryTimeout ..) rfl (by simp only [found, entry]; exact if_neg (not_not_intro lives))

end Entry

theorem pdtFlowExpire_open (isOpen : f.entries ≠ [] ∨ f.runs ≠ []) : Gives (.pdtFlowExpire loc src) s s.dev :=
  gives_of_run (exec_pdtFlowExpire ..) rfl (by simp only [found]; exact if_pos (by simpa using isOpen))

theorem pdtFlowExpire_removes (noEntries : f.entries = []) (noRuns : f.runs = []) :
    Gives (.pdtFlowExpire loc src) s ((s.dev.waitUntil (f.lastAt + 64000)).removeRx loc src) :=
  gives_of_run (exec_pdtFlowExpire ..) rfl (by simp only [found]; exact if_neg (by simp [noEntries, noRuns]))

end Receiving

/-! ### The timers of a sending flow (R276, R277, R279, R280) -/

section Sending
variable {loc rem : Nat} {f : PdtTx} {s : State} (found : s.dev.tx? loc rem = some f)
include found

theorem pdtPacketSend_shut (shut : s.dev.pdtNextPkt f = none) : Gives (.pdtPacketSend loc rem) s s.dev :=
  gives_of_run (exec_pdtPacketSend ..) rfl (by simp only [found, shut])

theorem pdtPacketSend_sends {m : PdtMsg} (next : s.dev.pdtNextPkt f = some m) : Gives (.pdtPacketSend loc rem) s (s.dev.pdtSendNew f m).settle :=
  gives_of_run (exec_pdtPacketSend ..) rfl (by simp only [found, next])

section Message
variable {msn t : Nat} {m : PdtMsg} (message : msgOf f msn = some m)
include message

theorem pdtRetransmitTimer_expires (runs : m.timerAt = some t) :
    Gives (.pdtRetransmitTimer loc rem msn) s ((s.dev.waitUntil t).pdtTimer loc rem f m).settle :=
  gives_of_run (exec_pdtRetransmitTimer ..) rfl (by simp only [found, message, runs])

theorem pdtComplTimeout_stops (reported : m.repAt = some t) :
    Gives (.pdtComplTimeout loc rem msn) s ((s.dev.waitUntil (t + 1000 * s.dev.pdt.complMs)).pdtStop loc rem msn).settle :=
  gives_of_run (exec_pdtComplTimeout ..) rfl (by simp only [found, message, reported])

end Message
end Sending

/-- Settles O50: each response at its flow, the timers of a receiving and of a sending flow, the quiet period, and the windows. -/
theorem pdtSender : Obligations.PdtSender := by
  refine ⟨fun p g f s hears => ⟨pdtAtomicResp_flow hears, pdtAck_flow hears,
      fun known found => ⟨pdtNak_noMsg hears known found, fun m => pdtNak_malformed hears known found, fun m => pdtNak_loss hears known found⟩,
      pdtBusy_flow hears, fun pending => ?_, fun ready known found => ⟨fun none => ?_, fun m message => ⟨fun stray => ?_, fun read att =>
        ⟨fun protects wrong => ?_, fun clear => ⟨fun more => ?_, fun last => ?_⟩⟩⟩⟩⟩,
    fun loc src f s found => ⟨pdtMessageExecute_runs, pdtAckTimer_none found, pdtAckTimer_acks found,
      fun msn e entry => ⟨pdtEntryTimeout_ended found entry, pdtEntryTimeout_aborts found entry⟩, pdtFlowExpire_open found,
      fun noEntries noRuns => ⟨_, pdtFlowExpire_removes found noEntries noRuns, removeRx_rx? .., by simp [removeRx], by simp [removeRx],
        by simp [removeRx, waitUntil_now], by simp [removeRx]⟩⟩,
    fun loc rem f s found => ⟨pdtPacketSend_shut found, fun m => pdtPacketSend_sends found,
      fun m t => pdtRetransmitTimer_expires found, fun m t => pdtComplTimeout_stops found⟩,
    fun s => ⟨fun isOpen => ?_, fun shut => ?_⟩, fun d f m => pdtNextPkt_some⟩
  · exact pdtReadResp_gives hears (respGo_waits pending)
  · exact pdtReadResp_gives hears (respGo_noMsg ready known found none)
  · exact pdtReadResp_gives hears (respGo_stray ready known found message stray)
  · exact pdtReadResp_gives hears (respGo_tagFails ready known found message read att protects wrong)
  · exact pdtReadResp_gives hears (respGo_stores ready known found message read att clear more)
  · exact pdtReadResp_gives hears (respGo_lands ready known found message read att clear last)
  · exact gives_of_run (exec_pdtQuietEnd s) rfl (if_pos isOpen)
  · exact gives_of_run (exec_pdtQuietEnd s) rfl (if_neg (Bool.eq_false_iff.1 shut))

end Sys2Proof.Machine
end

section
/-! PROOF. Ageing (O59): the re-plan and what its monitors keep, the fast raise, the retry entry that a re-plan takes, the core-voltage target,
and the grants of the crossbar. -/

namespace Sys2Proof.Machine

/-! ### The request that the crossbar grants (R24) -/

/-- A fold that no element of its list moves gives its start. -/
theorem foldl_fixed_of_mem {α β : Type} {f : β → α → β} {b : β} {l : List α} (fixed : ∀ a ∈ l, f b a = b) : l.foldl f b = b := by
  induction l with
  | nil => rfl
  | cons a l ih =>
    rw [List.foldl_cons, fixed a List.mem_cons_self]
    exact ih fun x mem => fixed x (List.mem_cons_of_mem _ mem)

theorem le_foldl_xbarClass {l : List XbarReq} {c a : Nat} (start : c ≤ a) (above : ∀ x ∈ l, c ≤ xbarClass x) :
    c ≤ l.foldl (fun a x => min a (xbarClass x)) a := by
  induction l generalizing a with
  | nil => exact start
  | cons x l ih =>
    exact ih (Nat.le_min.2 ⟨start, above x List.mem_cons_self⟩) fun y mem => above y (List.mem_cons_of_mem _ mem)

theorem removeFirst_append_cons {α : Type} {p : α → Bool} {older later : List α} {r : α} (skips : ∀ x ∈ older, p x = false) (takes : p r = true) :
    removeFirst p (older ++ r :: later) = older ++ later := by
  induction older with
  | nil => simp [removeFirst, takes]
  | cons x older ih =>
    have rest := ih fun y mem => skips y (List.mem_cons_of_mem _ mem)
    simp [removeFirst, skips x List.mem_cons_self, rest]

theorem xbarClass_beq_of_lt {x r : XbarReq} (later : xbarClass r < xbarClass x) : (xbarClass x == xbarClass r) = false :=
  beq_eq_false_iff_ne.2 (Nat.ne_of_gt later)

section Grant
variable {older later : List XbarReq} {r : XbarReq} (before : ∀ x ∈ older, xbarClass r < xbarClass x)
include before

/-- The class that competes first is that of `r`, when no request's class comes before it. -/
theorem foldl_xbarClass_eq (four : xbarClass r ≤ 4) (after : ∀ x ∈ later, xbarClass r ≤ xbarClass x) :
    (older ++ r :: later).foldl (fun a x => min a (xbarClass x)) 4 = xbarClass r := by
  have olderOnes := le_foldl_xbarClass four fun x mem => Nat.le_of_lt (before x mem)
  rw [List.foldl_append, List.foldl_cons, Nat.min_eq_right olderOnes]
  exact foldl_fixed_of_mem fun x mem => Nat.min_eq_left (after x mem)

/-- Of the requests of its class, `r` is the oldest. -/
theorem find?_xbarClass_eq : (older ++ r :: later).find? (fun x => xbarClass x == xbarClass r) = some r := by
  have none : older.find? (fun x => xbarClass x == xbarClass r) = none :=
    List.find?_eq_none.2 fun x mem => Bool.eq_false_iff.1 (xbarClass_beq_of_lt (before x mem))
  simp [List.find?_append, none]

theorem xbarGrants_oldest {n : Nat} {d : Device} (waiting : d.qmg.xbar = older ++ r :: later) (four : xbarClass r ≤ 4)
    (after : ∀ x ∈ later, xbarClass r ≤ xbarClass x) : d.xbarGrants (n + 1) =
      Device.xbarGrants n ({ d with qmg := { d.qmg with xbar := older ++ later } }.emit (.xbarGrant r.src (xbarClass r))) := by
  have left : removeFirst (fun x => xbarClass x == xbarClass r) (older ++ r :: later) = older ++ later :=
    removeFirst_append_cons (fun x mem => xbarClass_beq_of_lt (before x mem)) (beq_self_eq_true _)
  simp only [Device.xbarGrants, waiting, foldl_xbarClass_eq before four after, find?_xbarClass_eq before, left]

end Grant

namespace Device

/-! ### The retry entry that a re-plan takes (R479) -/

/-- The fold of `bestHit` ends at its start or at an entry of the list, and none of them has succeeded more often. -/
theorem foldl_bestHit (hits : List (Nat × Nat)) (b : Nat × Nat) :
    let w := hits.foldl (fun (b : Nat × Nat) (p : Nat × Nat) => if b.2 < p.2 then p else b) b
    (w = b ∨ w ∈ hits) ∧ b.2 ≤ w.2 ∧ ∀ p ∈ hits, p.2 ≤ w.2 := by
  induction hits generalizing b with
  | nil => simp
  | cons q hits ih =>
    obtain ⟨found, start, above⟩ := ih (if b.2 < q.2 then q else b)
    have both : b.2 ≤ (if b.2 < q.2 then q else b).2 ∧ q.2 ≤ (if b.2 < q.2 then q else b).2 := by
      split <;> omega
    refine ⟨?_, Nat.le_trans both.1 start, fun p mem => ?_⟩
    · rcases found with same | mem
      · rw [List.foldl_cons, same]
        split
        · exact .inr List.mem_cons_self
        · exact .inl rfl
      · exact .inr (List.mem_cons_of_mem _ mem)
    · rcases List.mem_cons.1 mem with rfl | mem
      · exact Nat.le_trans both.2 start
      · exact above p mem

theorem bestHit_most {hits : AMap Nat} {e : Nat} (best : bestHit hits = some e) : ∃ n, (e, n) ∈ hits ∧ ∀ p ∈ hits, p.2 ≤ n := by
  obtain ⟨found, -, above⟩ := foldl_bestHit hits (0, 0)
  unfold bestHit at best
  split at best
  next => cases best
  next k n notZero winner =>
    cases best
    rw [winner] at found above
    rcases found with start | mem
    · cases start
      exact absurd rfl notZero
    · exact ⟨n, mem, above⟩

/-! ### The re-plan and the core-voltage target (R473, R475) -/

theorem replan_running {d : Device} (runs : d.age.changed.isSome) : d.replan = d := if_pos runs

theorem replan_waits {d : Device} (ended : d.age.changed = none) (barred : d.planMay = false) :
    d.replan = d.setFld Fld.AGE_STATUS_WAITING 1 := by
  simp [replan, ended, barred]

theorem canary_le_wantMv (d : Device) : d.age.canary + d.fld Fld.AGE_VCORE_SRAM_GUARD_MV ≤ d.wantMv := Nat.le_max_right ..

/-- Too little slack calls for at least 5 mV more than the present voltage. -/
theorem avsMv_lt_wantMv {d : Device} (short : d.fld Fld.AGE_PATH_HUB_PS < d.fld Fld.AGE_PATH_SLACK_REQ) : d.sup.avsMv / 1000 < d.wantMv := by
  refine Nat.lt_of_lt_of_le ?_ (Nat.le_max_left ..)
  rw [if_pos short]
  omega

end Device

open Device

/-! ### The commands -/

theorem exec_replanTimer (s : State) : exec .replanTimer s = execReplanTimer s := by rfl
theorem exec_eyeProbe (ch width height : Nat) (s : State) : exec (.eyeProbe ch width height) s = execEyeProbe ch width height s := by rfl
theorem exec_canaryCheck (mv : Nat) (s : State) : exec (.canaryCheck mv) s = execCanaryCheck mv s := by rfl
theorem exec_slackCheck (hub edge : Nat) (s : State) : exec (.slackCheck hub edge) s = execSlackCheck hub edge s := by rfl
theorem exec_crossbarPromote (arrivals : List (Nat × Nat)) (clocks lanes : Nat) (s : State) :
    exec (.crossbarPromote arrivals clocks lanes) s = execCrossbarPromote arrivals clocks lanes s := by rfl

namespace Device

/-- The device with the slacks of the 1 ms check in its registers (R472). -/
def noteSlack (d : Device) (hub edge : Nat) : Device :=
  ((d.notePath).setFld Fld.AGE_PATH_HUB_PS (min hub 255)).setFld Fld.AGE_PATH_EDGE_PS (min edge 255)

theorem noteSlack_fastAt (d : Device) (hub edge : Nat) : (d.noteSlack hub edge).age.fastAt = d.age.fastAt := by
  simp only [noteSlack, notePath, draw, setFld_age]

theorem noteSlack_sup (d : Device) (hub edge : Nat) : (d.noteSlack hub edge).sup = d.sup := by
  simp only [noteSlack, notePath, draw, setFld_sup]

theorem noteSlack_hold (d : Device) (hub edge : Nat) : (d.noteSlack hub edge).hold = d.hold := by
  simp only [noteSlack, notePath, draw, setFld_hold]

end Device

section Slack
variable {hub edge : Nat} {s : State} (on : s.dev.hubOn = true)
include on

theorem slackCheck_enough (enough : (s.dev.noteSlack hub edge).fld Fld.AGE_PATH_FAST_THR ≤ min hub 255) :
    Gives (.slackCheck hub edge) s (s.dev.noteSlack hub edge) := by
  have notShort := Nat.not_lt.2 enough
  refine gives_of_run (exec_slackCheck hub edge s) rfl ((if_neg (by simp [on])).trans (if_neg ?_))
  rw [← noteSlack, decide_eq_false notShort, Bool.and_false]
  exact Bool.false_ne_true

theorem slackCheck_avsOff (off : (s.dev.noteSlack hub edge).flag Fld.AGE_CTRL_AVS_EN = false) :
    Gives (.slackCheck hub edge) s (s.dev.noteSlack hub edge) := by
  refine gives_of_run (exec_slackCheck hub edge s) rfl ((if_neg (by simp [on])).trans (if_neg ?_))
  rw [← noteSlack, off]
  exact Bool.false_ne_true

theorem slackCheck_raises (short : min hub 255 < (s.dev.noteSlack hub edge).fld Fld.AGE_PATH_FAST_THR)
    (avs : (s.dev.noteSlack hub edge).flag Fld.AGE_CTRL_AVS_EN = true) (first : s.dev.age.fastAt = none) (known : s.dev.sup.avsMv ≠ 0)
    (whole : s.dev.hold.bottle = none) : Gives (.slackCheck hub edge) s
      ((({ s.dev.noteSlack hub edge with
          age := { (s.dev.noteSlack hub edge).age with fastAt := some (s.dev.noteSlack hub edge).now } } : Device).aimAt
        (s.dev.sup.avsTarget + 10)).raise Reg.AGE_INT_STATUS 1 3) := by
  rw [← noteSlack_sup s.dev hub edge] at known ⊢
  rw [← noteSlack_fastAt s.dev hub edge] at first
  rw [← noteSlack_hold s.dev hub edge] at whole
  unfold noteSlack at *
  refine gives_of_run (exec_slackCheck hub edge s) rfl ((if_neg (by simp [on])).trans (if_pos ?_))
  rw [avs, decide_eq_true short, first, bne_iff_ne.2 known, whole]
  rfl

end Slack

/-- Settles O59: the re-plan, the monitors, the three cases of the slack check, the grants of the crossbar, the retry entry and the target. -/
theorem ageingCommands : Obligations.AgeingCommands := by
  refine ⟨fun s => ⟨fun on => ?_, fun off => ?_⟩, fun d => ⟨replan_running, replan_waits⟩, fun ch width height s on live => ?_,
    fun mv s on => ?_, fun hub edge s on => ⟨slackCheck_enough on, slackCheck_avsOff on, slackCheck_raises on⟩,
    fun arrivals clocks lanes s => ⟨fun on => ?_, fun off => ?_⟩,
    fun n d older later r waiting four before after => xbarGrants_oldest before waiting four after,
    fun r => ⟨fun old => if_pos old, fun young => if_neg (Nat.not_le.2 young)⟩,
    fun hits e => bestHit_most, fun d => ⟨canary_le_wantMv d, avsMv_lt_wantMv⟩⟩
  · exact gives_of_run (exec_replanTimer s) rfl (if_pos on)
  · exact gives_of_run (exec_replanTimer s) rfl (if_neg (Bool.eq_false_iff.1 off))
  · exact gives_of_run (exec_eyeProbe ch width height s) rfl (if_pos (by simp [on, live]))
  · exact gives_of_run (exec_canaryCheck mv s) rfl (if_pos on)
  · exact gives_of_run (exec_crossbarPromote arrivals clocks lanes s) rfl (if_pos on)
  · exact gives_of_run (exec_crossbarPromote arrivals clocks lanes s) rfl (if_neg (Bool.eq_false_iff.1 off))

end Sys2Proof.Machine
end

section
/-! PROOF. Refresh of the DRAM channels (O51): what a tREFI′ interval makes of the postponed refreshes of a rank, and of its activation counts. -/

namespace Sys2Proof.Machine

namespace Device

/-! ### The state of a channel -/

@[simp] theorem setDramCh_regs (d : Device) (ch : Nat) (x : DramCh) : (d.setDramCh ch x).regs = d.regs := (rfl)
@[simp] theorem setDramCh_mem (d : Device) (ch : Nat) (x : DramCh) : (d.setDramCh ch x).mem = d.mem := (rfl)
@[simp] theorem setDramCh_csk (d : Device) (ch : Nat) (x : DramCh) : (d.setDramCh ch x).csk = d.csk := (rfl)
@[simp] theorem setDramCh_out (d : Device) (ch : Nat) (x : DramCh) : (d.setDramCh ch x).out = d.out := (rfl)

@[simp] theorem dramCh_setDramCh (d : Device) (ch : Nat) (x : DramCh) : (d.setDramCh ch x).dramCh ch = x := by
  simp [setDramCh, dramCh]

@[simp] theorem dramCh_emit (d : Device) (o : Out) (ch : Nat) : (d.emit o).dramCh ch = d.dramCh ch := (rfl)

theorem flag_of_regs {d e : Device} (same : e.regs = d.regs) (f : Fld) (inst : Nat) : e.flag f inst = d.flag f inst := by
  simp only [flag, fld, reg, same]

/-! ### What is postponed (R314) -/

section Postponed
variable {d : Device} {ch rank b n : Nat} (sorted : AMap.sorted (d.dramCh ch).postponed = true)
include sorted

theorem setPostponed_sorted : AMap.sorted ((d.setPostponed ch rank b n).dramCh ch).postponed = true := by
  rw [setPostponed, dramCh_setDramCh]
  split
  · exact AMap.sorted_del sorted
  · exact AMap.sorted_put sorted

theorem postponedOf_setPostponed (x : Nat) : (d.setPostponed ch rank b n).postponedOf ch rank x = if x = b then n else d.postponedOf ch rank x := by
  rw [postponedOf, setPostponed, dramCh_setDramCh]
  split
  next zero =>
    subst zero
    split
    next same => simp [same, AMap.find?_del_same sorted]
    next other => rw [AMap.find?_del_ne _ (by omega), postponedOf]
  next =>
    split
    next same => simp [same]
    next other => rw [AMap.find?_put_ne _ _ (by omega), postponedOf]

end Postponed

/-! ### One bank index of a rank (R314, R316) -/

/-- What a change of activation counts leaves of the device: the registers, memory, the casks, the outputs, what is postponed. -/
def besideRaa (ch : Nat) (d : Device) : AMap Word × AMap Byte × Csk × List Out × AMap Nat :=
  (d.regs, d.mem, d.csk, d.out, (d.dramCh ch).postponed)

theorem raaLess_besideRaa (ch : Nat) (d : Device) (rank bank n : Nat) : (d.raaLess ch rank bank n).besideRaa ch = d.besideRaa ch := by
  rw [raaLess]
  cases (d.dramCh ch).raa.find? (32 * rank + bank)
  · rfl
  · simp only [besideRaa, setDramCh_regs, setDramCh_mem, setDramCh_csk, setDramCh_out, dramCh_setDramCh]

theorem foldl_raaLess_besideRaa (ch : Nat) (d : Device) (l : List Nat) (rank : Nat) (bank : Nat → Nat) (n : Nat) :
    (l.foldl (fun (d : Device) k => d.raaLess ch rank (bank k) n) d).besideRaa ch = d.besideRaa ch :=
  foldl_keeps (besideRaa ch) _ (fun d k => raaLess_besideRaa ch d rank (bank k) n) l d

/-- A refresh command after changes of activation counts is the one new output. -/
theorem besideRaa_emit {ch : Nat} {d e : Device} (counts : e.besideRaa ch = d.besideRaa ch) (o : Out) :
    (e.emit o).besideRaa ch = (d.regs, d.mem, d.csk, o :: d.out, (d.dramCh ch).postponed) := by
  simp only [besideRaa, Prod.mk.injEq] at counts
  obtain ⟨regs, mem, csk, out, postponed⟩ := counts
  simp only [besideRaa, emit_regs, emit_mem, emit_csk, emit_out, dramCh_emit, regs, mem, csk, out, postponed]

/-- Whether a bank index of a rank has a request queued. -/
def bankBusy (queued : List Nat) (b : Nat) : Bool := queued.any (fun q => q % 4 == b)

/-- The refresh of one bank index, or its postponement (R314): one step of `refreshRank`. -/
def refreshBank (ch rank : Nat) (queued : List Nat) (t init : Nat) (d : Device) (b : Nat) : Device :=
  let n := d.postponedOf ch rank b
  if bankBusy queued b then d.setPostponed ch rank b (n + 1)
  else
    let d := (List.range 8).foldl (fun (d : Device) g => d.raaLess ch rank (4 * g + b) ((n + 1) * init)) (d.setPostponed ch rank b 0)
    d.emit (.dram ch "REFsb" [rank, b, t, n + 1])

/-- The REFsb that refreshes a bank index with what was postponed for it. -/
def refsb (d : Device) (ch rank t b : Nat) : Out := .dram ch "REFsb" [rank, b, t, d.postponedOf ch rank b + 1]

section Bank
variable {ch rank : Nat} {queued : List Nat} {t init : Nat} {d : Device}

theorem refreshBank_besideRaa (b : Nat) : (d.refreshBank ch rank queued t init b).besideRaa ch =
    (d.regs, d.mem, d.csk, (if bankBusy queued b then [] else [d.refsb ch rank t b]) ++ d.out,
      ((d.setPostponed ch rank b (if bankBusy queued b then d.postponedOf ch rank b + 1 else 0)).dramCh ch).postponed) := by
  rw [refreshBank]
  cases bankBusy queued b
  case true => simp [besideRaa, setPostponed]
  case false => exact besideRaa_emit (foldl_raaLess_besideRaa ch _ _ rank (fun g => 4 * g + b) _) _

theorem refreshBank_regs (b : Nat) : (d.refreshBank ch rank queued t init b).regs = d.regs := congrArg (·.1) (refreshBank_besideRaa b)
theorem refreshBank_mem (b : Nat) : (d.refreshBank ch rank queued t init b).mem = d.mem := congrArg (·.2.1) (refreshBank_besideRaa b)
theorem refreshBank_csk (b : Nat) : (d.refreshBank ch rank queued t init b).csk = d.csk := congrArg (·.2.2.1) (refreshBank_besideRaa b)

theorem refreshBank_out (b : Nat) :
    (d.refreshBank ch rank queued t init b).out = (if bankBusy queued b then [] else [d.refsb ch rank t b]) ++ d.out :=
  congrArg (·.2.2.2.1) (refreshBank_besideRaa b)

theorem refreshBank_postponed (b : Nat) : ((d.refreshBank ch rank queued t init b).dramCh ch).postponed =
    ((d.setPostponed ch rank b (if bankBusy queued b then d.postponedOf ch rank b + 1 else 0)).dramCh ch).postponed :=
  congrArg (·.2.2.2.2) (refreshBank_besideRaa b)

variable (sorted : AMap.sorted (d.dramCh ch).postponed = true)
include sorted

theorem refreshBank_sorted (b : Nat) : AMap.sorted ((d.refreshBank ch rank queued t init b).dramCh ch).postponed = true := by
  rw [refreshBank_postponed]
  exact setPostponed_sorted sorted

theorem refreshBank_postponedOf (b x : Nat) : (d.refreshBank ch rank queued t init b).postponedOf ch rank x =
    if x = b then (if bankBusy queued b then d.postponedOf ch rank b + 1 else 0) else d.postponedOf ch rank x := by
  rw [postponedOf, refreshBank_postponed, ← postponedOf, postponedOf_setPostponed sorted]

end Bank

/-! ### The bank indexes of a rank in turn (R314) -/

section Banks
variable {ch rank : Nat} {queued : List Nat} {t init : Nat}

theorem refreshBanks_regs (bs : List Nat) (d : Device) : (bs.foldl (refreshBank ch rank queued t init) d).regs = d.regs :=
  foldl_keeps (·.regs) _ (fun _ => refreshBank_regs) bs d
theorem refreshBanks_mem (bs : List Nat) (d : Device) : (bs.foldl (refreshBank ch rank queued t init) d).mem = d.mem :=
  foldl_keeps (·.mem) _ (fun _ => refreshBank_mem) bs d
theorem refreshBanks_csk (bs : List Nat) (d : Device) : (bs.foldl (refreshBank ch rank queued t init) d).csk = d.csk :=
  foldl_keeps (·.csk) _ (fun _ => refreshBank_csk) bs d

/-- Each bank index of a list without repetition is refreshed, or postponed once more, as it stood before the first of them. -/
theorem refreshBanks_postponedOf {bs : List Nat} {d : Device} (once : bs.Nodup) (sorted : AMap.sorted (d.dramCh ch).postponed = true) (x : Nat) :
    (bs.foldl (refreshBank ch rank queued t init) d).postponedOf ch rank x =
      if x ∈ bs then (if bankBusy queued x then d.postponedOf ch rank x + 1 else 0) else d.postponedOf ch rank x := by
  induction bs generalizing d with
  | nil => simp
  | cons b bs ih =>
    obtain ⟨new, once⟩ := List.nodup_cons.1 once
    rw [List.foldl_cons, ih once (refreshBank_sorted sorted b), refreshBank_postponedOf sorted]
    by_cases same : x = b
    · simp [same, new]
    · simp [same]

theorem refreshBanks_out {bs : List Nat} {d : Device} (once : bs.Nodup) (sorted : AMap.sorted (d.dramCh ch).postponed = true) :
    (bs.foldl (refreshBank ch rank queued t init) d).out =
      ((bs.filter (fun b => !bankBusy queued b)).map (d.refsb ch rank t)).reverse ++ d.out := by
  induction bs generalizing d with
  | nil => rfl
  | cons b bs ih =>
    obtain ⟨new, once⟩ := List.nodup_cons.1 once
    have later : (bs.filter (fun b => !bankBusy queued b)).map ((d.refreshBank ch rank queued t init b).refsb ch rank t) =
        (bs.filter (fun b => !bankBusy queued b)).map (d.refsb ch rank t) := by
      refine List.map_congr_left fun x mem => ?_
      have other : x ≠ b := fun same => new (same ▸ (List.mem_filter.1 mem).1)
      rw [refsb, refsb, refreshBank_postponedOf sorted, if_neg other]
    rw [List.foldl_cons, ih once (refreshBank_sorted sorted b), later, refreshBank_out]
    cases busy : bankBusy queued b <;> simp [busy]

end Banks

/-! ### A rank (R314, R316) -/

section Rank
variable {d : Device} {ch rank : Nat} {queued : List Nat}

/-- Whether a bank index of the rank reaches POSTPONE_MAX in this interval. -/
def rankLate (d : Device) (ch rank : Nat) (queued : List Nat) : Bool :=
  (List.range 4).any (fun b => bankBusy queued b && decide (d.fld Fld.DRM_CH_REF_POSTPONE_MAX ch ≤ d.postponedOf ch rank b + 1))

theorem refreshRank_inTime (inTime : d.rankLate ch rank queued = false) : d.refreshRank ch rank queued =
    (List.range 4).foldl (refreshBank ch rank queued (d.refInterval ch) (d.raaLimits ch).1) d :=
  if_neg (Bool.eq_false_iff.1 inTime)

/-- REFab leaves what was postponed before, and of the rest only activation counts change. -/
theorem refreshRank_late (late : d.rankLate ch rank queued = true) : (d.refreshRank ch rank queued).besideRaa ch =
    (d.regs, d.mem, d.csk, .dram ch "REFab" [rank, d.refInterval ch] :: d.out, (d.dramCh ch).postponed) := by
  have ahead : d.refreshRank ch rank queued = _ := if_pos late
  rw [ahead]
  exact besideRaa_emit (foldl_raaLess_besideRaa ch d _ rank id _) _

theorem manageRank_off {acts : List (Nat × Nat)} (off : d.flag Fld.DRM_CH_STATUS_RFM_ON ch = false) : d.manageRank ch rank queued acts = d :=
  if_pos (by rw [off]; rfl)

/-- Below the initial threshold no bank is given RFMsb. -/
theorem manageRank_below (below : ∀ bank, bank < 32 → ((d.dramCh ch).raa.find? (32 * rank + bank)).getD 0 < (d.raaLimits ch).1) :
    d.manageRank ch rank queued [] = d := by
  unfold manageRank
  split
  · rfl
  · exact foldl_fixed_of_mem fun bank mem => if_pos (.inr (.inl (below bank (List.mem_range.1 mem))))

end Rank
end Device
end Sys2Proof.Machine
end

section
/-! PROOF. The commands of the DRAM tier (O51): refresh, age, temperature and self-refresh, the walk of a timing-set switch, errors, scrub, repair
and retirement. -/

namespace Sys2Proof.Machine

open Device

theorem exec_refreshTick (ch rank : Nat) (queued : List Nat) (acts : List (Nat × Nat)) (s : State) :
    exec (.refreshTick ch rank queued acts) s = execRefreshTick ch rank queued acts s := by rfl
theorem exec_requestPromote (ch cls age : Nat) (s : State) : exec (.requestPromote ch cls age) s = execRequestPromote ch cls age s := by rfl
theorem exec_dimmTempRead (ch temp : Nat) (s : State) : exec (.dimmTempRead ch temp) s = execDimmTempRead ch temp s := by rfl
theorem exec_srIdleExpire (ch : Nat) (s : State) : exec (.srIdleExpire ch) s = execSrIdleExpire ch s := by rfl
theorem exec_tsetChannelDone (ok : Bool) (s : State) : exec (.tsetChannelDone ok) s = execTsetChannelDone ok s := by rfl
theorem exec_dramCe (ch slot subch rank dev bank row : Nat) (s : State) :
    exec (.dramCe ch slot subch rank dev bank row) s = execDramCe ch slot subch rank dev bank row s := by rfl
theorem exec_dramUe (ch slot subch rank dev bank row : Nat) (what : DramPage) (s : State) :
    exec (.dramUe ch slot subch rank dev bank row what) s = execDramUe ch slot subch rank dev bank row what s := by rfl
theorem exec_patrolScrub (lines : Nat) (s : State) : exec (.patrolScrub lines) s = execPatrolScrub lines s := by rfl
theorem exec_pprRepair (ch : Nat) (s : State) : exec (.pprRepair ch) s = execPprRepair ch s := by rfl
theorem exec_trainingLost (ch : Nat) (recovered : Bool) (s : State) : exec (.trainingLost ch recovered) s = execTrainingLost ch recovered s := by rfl
theorem exec_flowQuietEnd (s : State) : exec .flowQuietEnd s = execFlowQuietEnd s := by rfl

/-! ### Refresh (R314, R316, R317) -/

section Refresh
variable {ch rank : Nat} {queued : List Nat} {acts : List (Nat × Nat)} {s : State}

theorem refreshTick_notLive (other : s.dev.fld Fld.DRM_CH_STATUS_STATE ch ≠ 1) : Gives (.refreshTick ch rank queued acts) s s.dev :=
  gives_of_run (exec_refreshTick ..) rfl (if_pos other)

variable (live : s.dev.fld Fld.DRM_CH_STATUS_STATE ch = 1)
include live

theorem refreshTick_gives : Gives (.refreshTick ch rank queued acts) s ((s.dev.refreshRank ch rank queued).manageRank ch rank queued acts) :=
  gives_of_run (exec_refreshTick ..) rfl (if_neg fun other => other live)

variable (off : s.dev.flag Fld.DRM_CH_STATUS_RFM_ON ch = false)
include off

/-- Without refresh management a tick is the refresh of its rank. -/
theorem refreshTick_refreshes (regs : (s.dev.refreshRank ch rank queued).regs = s.dev.regs) :
    Gives (.refreshTick ch rank queued acts) s (s.dev.refreshRank ch rank queued) := by
  have unmanaged := refreshTick_gives (rank := rank) (queued := queued) (acts := acts) live
  rwa [manageRank_off (by rw [flag_of_regs regs, off])] at unmanaged

theorem refreshTick_late (late : s.dev.rankLate ch rank queued = true) :
    Reaches (.refreshTick ch rank queued acts) s (fun d => (∀ b, d.postponedOf ch rank b = s.dev.postponedOf ch rank b) ∧
      d.out = .dram ch "REFab" [rank, s.dev.refInterval ch] :: s.dev.out ∧ d.regs = s.dev.regs ∧ d.mem = s.dev.mem ∧ d.csk = s.dev.csk) := by
  have all := refreshRank_late late
  simp only [besideRaa, Prod.mk.injEq] at all
  obtain ⟨regs, mem, csk, out, postponed⟩ := all
  exact ⟨_, refreshTick_refreshes live off regs, fun b => by rw [postponedOf, postponed, postponedOf], out, regs, mem, csk⟩

theorem refreshTick_inTime (inTime : s.dev.rankLate ch rank queued = false) (sorted : AMap.sorted (s.dev.dramCh ch).postponed = true) :
    Reaches (.refreshTick ch rank queued acts) s (fun d =>
      (∀ b, b < 4 → d.postponedOf ch rank b = if bankBusy queued b then s.dev.postponedOf ch rank b + 1 else 0) ∧
      d.out = (((List.range 4).filter (fun b => !bankBusy queued b)).map (s.dev.refsb ch rank (s.dev.refInterval ch))).reverse ++ s.dev.out ∧
      d.regs = s.dev.regs ∧ d.mem = s.dev.mem ∧ d.csk = s.dev.csk) := by
  have banks := refreshRank_inTime inTime
  have tick := refreshTick_refreshes (queued := queued) (acts := acts) live off (by rw [banks, refreshBanks_regs])
  rw [banks] at tick
  refine ⟨_, tick, fun b four => ?_, refreshBanks_out List.nodup_range sorted, refreshBanks_regs .., refreshBanks_mem .., refreshBanks_csk ..⟩
  rw [refreshBanks_postponedOf List.nodup_range sorted, if_pos (List.mem_range.2 four)]

end Refresh

theorem srIdleExpire_enters {ch : Nat} {s : State} (idle : s.dev.fld Fld.DRM_CTRL_SR_IDLE_US ≠ 0) (whole : s.dev.hold.bottle = none)
    (live : s.dev.fld Fld.DRM_CH_STATUS_STATE ch = 1) (steady : s.dev.flag Fld.DRM_CH_STATUS_SWITCHING ch = false) (awake : s.dev.sup.cur ≤ 1) :
    Gives (.srIdleExpire ch) s ((s.dev.advance (s.dev.fld Fld.DRM_CTRL_SR_IDLE_US)).setFld Fld.DRM_CH_STATUS_STATE 2 ch) :=
  gives_of_run (exec_srIdleExpire ch s) rfl (if_neg (by simp [idle, whole, live, steady, awake]))

theorem srIdleExpire_disabled {ch : Nat} {s : State} (zero : s.dev.fld Fld.DRM_CTRL_SR_IDLE_US = 0) : Gives (.srIdleExpire ch) s s.dev :=
  gives_of_run (exec_srIdleExpire ch s) rfl (if_pos (.inl zero))

/-! ### Age (R311) -/

/-- The age beyond which a request of a class goes first. -/
def Device.ageLimit (d : Device) (cls : Nat) : Nat :=
  d.fld (match cls with
    | 0 => Fld.DRM_AGE_A_C0
    | 1 => Fld.DRM_AGE_A_C1
    | 2 => Fld.DRM_AGE_B_C2
    | _ => Fld.DRM_AGE_B_C3)

section Age
variable {ch cls age : Nat} {s : State}

theorem requestPromote_young (young : age ≤ s.dev.ageLimit cls) : Gives (.requestPromote ch cls age) s s.dev :=
  gives_of_run (exec_requestPromote ch cls age s) rfl
    (if_neg fun old => Nat.not_lt.2 young (of_decide_eq_true (Bool.and_eq_true_iff.1 old).2))

theorem requestPromote_old (live : s.dev.chLive ch = true) (old : s.dev.ageLimit cls < age) :
    Gives (.requestPromote ch cls age) s ((s.dev.wakeCh ch).emit (.dram ch "PROMOTE" [cls, age])) :=
  gives_of_run (exec_requestPromote ch cls age s) rfl (if_pos (Bool.and_eq_true_iff.2 ⟨live, decide_eq_true old⟩))

end Age

/-! ### Temperature (R315) -/

section Temperature
variable {ch temp : Nat} {s : State}

theorem dimmTempRead_cannot (cannot : s.dev.drm.dimms.any (fun m => m.ch == ch) = false ∨ s.dev.hubOn = false ∨ s.dev.coreUp 5 = false) :
    Gives (.dimmTempRead ch temp) s s.dev :=
  gives_of_run (exec_dimmTempRead ch temp s) rfl (if_pos (by rcases cannot with h | h | h <;> simp [h]))

variable (populated : s.dev.drm.dimms.any (fun m => m.ch == ch) = true) (on : s.dev.hubOn = true) (mc5 : s.dev.coreUp 5 = true)
include populated on mc5

/-- The reading is kept, HOT follows it with its hysteresis, and the critical temperature raises its bit. -/
theorem dimmTempRead_gives {d : Device}
    (reads : (let e := s.dev.setFld Fld.DRM_CH_STATUS_TEMP (min temp 255) ch
      if 85 ≤ temp then e.setFld Fld.DRM_CH_STATUS_HOT 1 ch else if temp < 83 then e.setFld Fld.DRM_CH_STATUS_HOT 0 ch else e) = d) :
    Gives (.dimmTempRead ch temp) s (if d.fld Fld.DRM_CH_REF_TCRIT ch ≤ temp then d.raise Reg.DRM_INT_STATUS 2 3 else d) := by
  subst reads
  exact gives_of_run (exec_dimmTempRead ch temp s) rfl (if_neg (by simp [populated, on, mc5]))

end Temperature

/-! ### A channel that is woken (R317) -/

namespace Device

/-- A register reads a value that is not its Reset value after a write of it. -/
theorem reg_setReg_of_ne {d : Device} {off inst : Nat} {v : Word} (kept : v ≠ regDflt (rkey inst off)) : (d.setReg off v inst).reg off inst = v := by
  simp [reg, setReg, AMap.setD, AMap.getD, kept]

theorem regDflt_chStatus (ch : Nat) : regDflt (rkey ch Reg.DRM_CH_STATUS) = 0 := by
  have notAdmin : rkey ch Reg.DRM_CH_STATUS ≠ Reg.HRG_FN_CFG := rkey_ne ch 0 (by decide) (by decide) (by decide)
  have offset : rkey ch Reg.DRM_CH_STATUS % 67108864 = Reg.DRM_CH_STATUS := Nat.add_mul_mod_self_left ..
  rw [regDflt, if_neg notAdmin, offset]
  rfl

/-- A channel that is put into operation shows it. -/
theorem chState_setFld_live (d : Device) (ch : Nat) :
    (d.setFld Fld.DRM_CH_STATUS_STATE 1 ch).fld Fld.DRM_CH_STATUS_STATE ch = 1 := by
  have written : bitsGet (bitsSet (d.reg Reg.DRM_CH_STATUS ch) 31 30 1) 31 30 = 1 := bitsGet_bitsSet _ _ (by decide) (by decide)
  have kept : bitsSet (d.reg Reg.DRM_CH_STATUS ch) 31 30 1 ≠ regDflt (rkey ch Reg.DRM_CH_STATUS) := by
    intro same
    rw [same, regDflt_chStatus] at written
    exact absurd written (by decide)
  rw [fld, setFld, reg_setReg_of_ne kept, written]

/-- A channel that is woken was live, and stays so; the others are as they were. -/
theorem chLive_wakeCh (d : Device) (c x : Nat) : (d.wakeCh c).chLive x = d.chLive x := by
  unfold wakeCh
  split
  next asleep =>
    by_cases same : x = c
    · subst same
      simp [chLive, chState_setFld_live, asleep.1]
    · have other : rkey x Reg.DRM_CH_STATUS ≠ rkey c Reg.DRM_CH_STATUS := by unfold rkey; omega
      simp only [chLive, fld, setFld, reg_setReg_ne d _ other]
  next => rfl

theorem liveChans_wakeCh (d : Device) (c : Nat) : (d.wakeCh c).liveChans = d.liveChans := by
  simp only [liveChans, chLive_wakeCh]

theorem wakeCh_drm (d : Device) (c : Nat) : (d.wakeCh c).drm = d.drm := by unfold wakeCh; split <;> simp
theorem wakeCh_age (d : Device) (c : Nat) : (d.wakeCh c).age = d.age := by unfold wakeCh; split <;> simp
theorem wakeCh_mem (d : Device) (c : Nat) : (d.wakeCh c).mem = d.mem := by unfold wakeCh; split <;> simp

/-- The device whose channels of a list have been woken. -/
def wakeAll (d : Device) (cs : List Nat) : Device := cs.foldl (fun (d : Device) c => d.wakeCh c) d

theorem wakeAll_drm (d : Device) (cs : List Nat) : (d.wakeAll cs).drm = d.drm := foldl_keeps (·.drm) _ wakeCh_drm cs d
theorem wakeAll_age (d : Device) (cs : List Nat) : (d.wakeAll cs).age = d.age := foldl_keeps (·.age) _ wakeCh_age cs d
theorem wakeAll_mem (d : Device) (cs : List Nat) : (d.wakeAll cs).mem = d.mem := foldl_keeps (·.mem) _ wakeCh_mem cs d
theorem liveChans_wakeAll (d : Device) (cs : List Nat) : (d.wakeAll cs).liveChans = d.liveChans := foldl_keeps liveChans _ liveChans_wakeCh cs d

end Device

/-! ### Patrol scrub (R321) -/

section Scrub
variable {lines : Nat} {s : State}

namespace Device

/-- The channels that are live and on which scrub does not pause. -/
def scrubChans (d : Device) : List Nat := d.liveChans.filter (fun c => !d.chPaused c)

/-- The lines of a channel. -/
def scrubSize (d : Device) : Nat :=
  (d.drm.dimms.filter (fun m => d.drm.dimms.head?.any (fun h => h.ch == m.ch))).foldl (fun a m => a + m.gib) 0 * 16777216

/-- The lines read of each channel after `lines` more of those of `cs`. -/
def scrubRead (d : Device) (cs : List Nat) (lines : Nat) : AMap Nat :=
  cs.foldl (fun (m : AMap Nat) c => m.put c (min d.scrubSize ((m.find? c).getD 0 + lines))) d.drm.scrub

/-- Whether a live channel has lines left to read in this pass. -/
def scrubLeft (d : Device) (cs : List Nat) (lines : Nat) : Bool :=
  d.liveChans.any (fun c => decide (((d.scrubRead cs lines).find? c).getD 0 < d.scrubSize))

/-- The device whose channels of `cs` have been read on. -/
def scrubbed (d : Device) (cs : List Nat) (lines : Nat) : Device := d.setDrm { d.drm with scrub := d.scrubRead cs lines }

theorem scrubSize_wakeAll (d : Device) (cs : List Nat) : (d.wakeAll cs).scrubSize = d.scrubSize := by
  rw [scrubSize, wakeAll_drm, ← scrubSize]

theorem scrubRead_wakeAll (d : Device) (ws cs : List Nat) (lines : Nat) : (d.wakeAll ws).scrubRead cs lines = d.scrubRead cs lines := by
  rw [scrubRead, wakeAll_drm, scrubSize_wakeAll, ← scrubRead]

theorem scrubLeft_wakeAll (d : Device) (ws cs : List Nat) (lines : Nat) : (d.wakeAll ws).scrubLeft cs lines = d.scrubLeft cs lines := by
  rw [scrubLeft, liveChans_wakeAll, scrubRead_wakeAll, scrubSize_wakeAll, ← scrubLeft]

end Device

theorem patrolScrub_none (none : s.dev.scrubChans = []) : Gives (.patrolScrub lines) s s.dev := by
  have idle : s.dev.scrubChans.isEmpty = true := List.isEmpty_iff.2 none
  rw [scrubChans] at idle
  exact gives_of_run (exec_patrolScrub lines s) rfl (if_pos (by simp [idle]))

theorem patrolScrub_paused (bottling : s.dev.hold.bottle.isSome) : Gives (.patrolScrub lines) s s.dev :=
  patrolScrub_none (by simp [scrubChans, chPaused, bottling])

variable (en : s.dev.flag Fld.DRM_SCRUB_EN = true) (on : s.dev.hubOn = true) (ready : s.dev.scrubChans ≠ [])
include en on ready

theorem scrub_notBarred : ¬(!s.dev.flag Fld.DRM_SCRUB_EN || !s.dev.hubOn || s.dev.scrubChans.isEmpty) = true := by
  simp [en, on, ready]

theorem patrolScrub_ongoing (left : s.dev.scrubLeft s.dev.scrubChans lines = true) :
    Gives (.patrolScrub lines) s ((s.dev.wakeAll s.dev.scrubChans).scrubbed s.dev.scrubChans lines) := by
  rw [← scrubLeft_wakeAll s.dev s.dev.scrubChans] at left
  exact gives_of_run (exec_patrolScrub lines s) rfl ((if_neg (scrub_notBarred en on ready)).trans (if_pos left))

/-- A pass ends: the next one begins at the first line, and the counts of this one are kept. -/
theorem patrolScrub_ends (done : s.dev.scrubLeft s.dev.scrubChans lines = false) :
    Reaches (.patrolScrub lines) s (fun d =>
      d.drm.scrub = [] ∧ d.age.ceMark = s.dev.age.ceAll ∧ d.age.ceAll = s.dev.age.ceAll ∧ d.mem = s.dev.mem) := by
  rw [← scrubLeft_wakeAll s.dev s.dev.scrubChans] at done
  refine ⟨_, gives_of_run (exec_patrolScrub lines s) rfl ((if_neg (scrub_notBarred en on ready)).trans (if_neg (Bool.eq_false_iff.1 done))), ?_⟩
  have age := wakeAll_age s.dev s.dev.scrubChans
  have mem := wakeAll_mem s.dev s.dev.scrubChans
  rw [wakeAll, scrubChans] at age mem
  simp only [setDrm_age, setDrm_mem, setDrm_drm, age, mem, true_and]

end Scrub

/-! ### The walk of a timing-set switch (R328, R329) -/

section Walk
variable {w : DramWalk} {c : Nat} {rest : List Nat} {s : State}

theorem tsetChannelDone_noWalk (ok : Bool) (none : s.dev.drm.walk = none) : Gives (.tsetChannelDone ok) s s.dev :=
  gives_of_run (exec_tsetChannelDone ok s) rfl (by simp only [none])

variable (walk : s.dev.drm.walk = some w) (left : w.left = c :: rest)
include walk left

theorem tsetChannelDone_fails :
    let d := ((s.dev.setFld Fld.DRM_CH_STATUS_SWITCHING 0 c).setFld Fld.DRM_CH_STATUS_STATE 1 c).walkOver
    Gives (.tsetChannelDone false) s
      (((d.setFld Fld.DRM_TSET_STATUS_FAIL 1).raise Reg.DRM_INT_STATUS 1 4).planSwitched (fun x => decide (x < c)) false).settle :=
  gives_of_run (exec_tsetChannelDone false s) rfl (by simp only [walk, left, Bool.not_false, if_true])

theorem tsetChannelDone_goesOn : Gives (.tsetChannelDone true) s ((s.dev.switchDone c).walkOn w rest c (fun _ => true)).settle :=
  gives_of_run (exec_tsetChannelDone true s) rfl (by simp only [walk, left, Bool.not_true, Bool.false_eq_true, if_false])

end Walk

namespace Device

theorem walkOn_last (d : Device) (w : DramWalk) (last : Nat) (done : Nat → Bool) :
    d.walkOn w [] last done = (d.walkOver.raise Reg.DRM_INT_STATUS 0 1).planSwitched done true := (rfl)

theorem walkOn_stops (d : Device) {w : DramWalk} (n : Nat) (l : List Nat) (last : Nat) (stop : w.stop = true) :
    d.walkOn w (n :: l) last (fun _ => true) = d.walkOver.planSwitched (fun x => decide (x ≤ last)) true := by
  simp only [walkOn, stop, if_true, Bool.and_true]

theorem walkOn_next (d : Device) {w : DramWalk} (n : Nat) (l : List Nat) (last : Nat) (done : Nat → Bool) (runs : w.stop = false) :
    d.walkOn w (n :: l) last done = (d.setDrm { d.drm with walk := some { w with left := n :: l } }).enterSwitch n :=
  if_neg (Bool.eq_false_iff.1 runs)

end Device

/-! ### Errors (R319, R320, R323) -/

namespace Device

/-- The device that has counted a corrected error at `r` (R319, R478). -/
def countCe (d : Device) (ch : Nat) (r : DramRow) (dev : Nat) : Device :=
  let d := ((d.bumpSat Fld.DRM_CH_ERR_CE 1 ch).bumpPair Reg.DRM_CE_TOTAL_LO).noteError ch r dev false
  { d with age := { d.age with ceAll := d.age.ceAll.put ch ((d.age.ceAll.find? ch).getD 0 + 1) } }

/-- The corrected errors of the last 24 hours, with one at `r` now. -/
def dayCes (d : Device) (ch : Nat) (r : DramRow) : List (DramRow × Nat) :=
  ((d.dramCh ch).ces.filter (fun p => decide (d.now < p.2 + dayUs))) ++ [(r, d.now)]

/-- The device that has listed them. -/
def listCes (d : Device) (ch : Nat) (r : DramRow) : Device := d.setDramCh ch { d.dramCh ch with ces := d.dayCes ch r }

/-- The device that has counted an uncorrectable error at `r`, queued the row and acted on the page it hit (R319, R320, R322). -/
def countUe (d : Device) (ch : Nat) (r : DramRow) (dev : Nat) (what : DramPage) : Device :=
  let d := ((d.bumpSat Fld.DRM_CH_ERR_UE 1 ch).bumpPair Reg.DRM_UE_TOTAL_LO).noteError ch r dev true
  ((d.raise Reg.DRM_INT_STATUS 5 4).queueRow ch r).ueAct what

/-- The times of the uncorrectable errors of the last second, with one now. -/
def secondUes (d : Device) (ch : Nat) : List Nat := ((d.dramCh ch).ues.filter (fun t => decide (d.now < t + 1000000))) ++ [d.now]

/-- The device that has listed them. -/
def listUes (d : Device) (ch : Nat) : Device := d.setDramCh ch { d.dramCh ch with ues := d.secondUes ch }

end Device

section Errors
variable {ch slot subch rank dev bank row : Nat} {s : State} (live : s.dev.chLive ch = true)
include live

theorem dramCe_queues :
    let r : DramRow := { slot := slot, subch := subch, rank := rank, bank := bank, row := row }
    let d := s.dev.countCe ch r dev
    let e := d.listCes ch r
    e.fld Fld.DRM_ERR_CFG_ROW_CE_THR ≤ ((d.dayCes ch r).filter (fun p => p.1 == r)).length →
      Gives (.dramCe ch slot subch rank dev bank row) s ((e.raise Reg.DRM_INT_STATUS 4 2).queueRow ch r) := fun often =>
  gives_of_run (exec_dramCe ..) rfl ((if_neg (by simp [live])).trans (if_pos often))

theorem dramCe_counts :
    let r : DramRow := { slot := slot, subch := subch, rank := rank, bank := bank, row := row }
    let d := s.dev.countCe ch r dev
    let e := d.listCes ch r
    ((d.dayCes ch r).filter (fun p => p.1 == r)).length < e.fld Fld.DRM_ERR_CFG_ROW_CE_THR →
      Gives (.dramCe ch slot subch rank dev bank row) s e := fun seldom =>
  gives_of_run (exec_dramCe ..) rfl ((if_neg (by simp [live])).trans (if_neg (Nat.not_le.2 seldom)))

variable {what : DramPage}

theorem dramUe_retires :
    let d := s.dev.countUe ch { slot := slot, subch := subch, rank := rank, bank := bank, row := row } dev what
    let e := d.listUes ch
    e.fld Fld.DRM_ERR_CFG_CH_UE_MAX ≤ (d.secondUes ch).length →
      Gives (.dramUe ch slot subch rank dev bank row what) s (e.retireCh ch).settle := fun often =>
  gives_of_run (exec_dramUe ..) rfl ((if_neg (by simp [live])).trans (congrArg settle (if_pos often)))

theorem dramUe_counts :
    let d := s.dev.countUe ch { slot := slot, subch := subch, rank := rank, bank := bank, row := row } dev what
    let e := d.listUes ch
    (d.secondUes ch).length < e.fld Fld.DRM_ERR_CFG_CH_UE_MAX → Gives (.dramUe ch slot subch rank dev bank row what) s e.settle := fun seldom =>
  gives_of_run (exec_dramUe ..) rfl ((if_neg (by simp [live])).trans (congrArg settle (if_neg (Nat.not_le.2 seldom))))

end Errors

namespace Device

/-- A channel that is retired, or is not live, is not retired again. -/
theorem retireCh_again {d : Device} {ch : Nat} (gone : d.drm.retired.contains ch = true ∨ d.chLive ch = false) : d.retireCh ch = d :=
  if_pos (by simpa only [Bool.or_eq_true, Bool.not_eq_true'] using gone)

/-! ### A duplexed unit (R308, R320) -/

section Duplex
variable {d : Device} {p : DupPage}

theorem ueAct_copy0 {c : Nat} (other : d.copyLost p 1 = false) (lies : d.copyCh p 0 = some c) :
    d.ueAct (.duplex p 0) = (d.wakeCh c).emit (.dram c "REWRITE" [p.area, p.cask, p.unit, p.page]) := by
  simp [ueAct, loseCopy, other, lies]

theorem ueAct_copy1 (other : d.copyLost p 0 = false) (first : d.drm.bad.contains (p, 1) = false) :
    d.ueAct (.duplex p 1) = d.setDrm { d.drm with bad := d.drm.bad ++ [(p, 1)] } := by
  simp only [ueAct, loseCopy, Nat.sub_self, other, first, Nat.one_ne_zero, if_false, Bool.false_eq_true]

theorem ueAct_noCopy {copy : Nat} (other : d.copyLost p (1 - copy) = true) (known : d.drm.bad.contains (p, copy) = true) :
    d.ueAct (.duplex p copy) = d.loseTables := by
  simp only [ueAct, loseCopy, other, known, if_true]
  rfl

end Duplex
end Device

/-! ### Repair (R322) -/

section Repair
variable {ch : Nat} {r : DramRow} {rest : List DramRow} {s : State}

theorem pprRepair_none (none : (s.dev.dramCh ch).queue = []) : Gives (.pprRepair ch) s s.dev :=
  gives_of_run (exec_pprRepair ch s) rfl (by simp only [none])

namespace Device

/-- The device whose channel begins the repair of the row at the head of its queue. -/
def takeRow (d : Device) (ch : Nat) (rest : List DramRow) : Device := (d.wakeCh ch).setDramCh ch { d.dramCh ch with queue := rest }

/-- The rows that are listed as repaired for a channel. -/
def listed (d : Device) (ch : Nat) : List DramRow := (d.learned.repairs.find? ch).getD []

/-- The device in which the rows `rows` are listed, a repair more counted. -/
def listRows (d : Device) (ch : Nat) (rows : List DramRow) : Device :=
  ((((d.setLearned { d.learned with repairs := d.learned.repairs.put ch rows }).learnRec (0x83, ch, 0)).bumpSat Fld.DRM_CH_PPR_SPPR 1 ch).setFld
    Fld.DRM_CH_PPR_LISTED rows.length ch).raise Reg.DRM_INT_STATUS 3 2

end Device

variable {d : Device} (taken : s.dev.takeRow ch rest = d) (head : (s.dev.dramCh ch).queue = r :: rest) (runs : s.dev.chPaused ch = false)
  (live : s.dev.chLive ch = true) (mc5 : s.dev.coreUp 5 = true)
include taken head runs live mc5

theorem pprRepair_full (new : (d.listed ch).contains r = false) (full : 32 ≤ (d.listed ch).length) :
    Gives (.pprRepair ch) s (d.eventR 4 drmBlk 322) := by
  have isFull : (!(d.listed ch).contains r && decide (32 ≤ (d.listed ch).length)) = true := by
    rw [new, decide_eq_true full]
    rfl
  subst taken
  refine gives_of_run (exec_pprRepair ch s) rfl ?_
  simp only [head]
  exact (if_neg (by simp [runs, live, mc5])).trans (if_pos isFull)

/-- A row that is not listed yet is listed with those before it. -/
theorem pprRepair_lists {rows : List DramRow} (room : (d.listed ch).contains r = true ∨ (d.listed ch).length < 32)
    (all : (if (d.listed ch).contains r then d.listed ch else d.listed ch ++ [r]) = rows) : Gives (.pprRepair ch) s (d.listRows ch rows) := by
  have notFull : ¬(!(d.listed ch).contains r && decide (32 ≤ (d.listed ch).length)) = true := by
    rcases room with known | few
    · rw [known]
      exact Bool.false_ne_true
    · rw [decide_eq_false (Nat.not_le.2 few), Bool.and_false]
      exact Bool.false_ne_true
  subst all taken
  refine gives_of_run (exec_pprRepair ch s) rfl ?_
  simp only [head]
  exact (if_neg (by simp [runs, live, mc5])).trans (if_neg notFull)

end Repair

/-! ### The quiet period of dropped flows (R320) -/

theorem flowQuietEnd_none {s : State} (none : s.dev.drm.quietUntil = 0) : Gives .flowQuietEnd s s.dev :=
  gives_of_run (exec_flowQuietEnd s) rfl (if_pos none)

theorem flowQuietEnd_ends {s : State} (quiet : s.dev.drm.quietUntil ≠ 0) :
    Reaches .flowQuietEnd s (fun d => d.drm.quietUntil = 0 ∧ d.now = max s.dev.now s.dev.drm.quietUntil ∧ d.pdt = s.dev.pdt ∧ d.mem = s.dev.mem) :=
  ⟨_, gives_of_run (exec_flowQuietEnd s) rfl (if_neg quiet), by simp only [setDrm_drm], by simp only [setDrm_now, waitUntil_now],
    by simp only [setDrm_pdt, waitUntil_pdt], by simp only [setDrm_mem, waitUntil_mem]⟩

/-- Settles O51: refresh, age, temperature, self-refresh, the walk, then errors, scrub, repair, retirement, duplexed units, the quiet period. -/
theorem dramCommands : Obligations.DramCommands := by
  refine ⟨⟨fun ch rank queued acts s => ⟨refreshTick_notLive, fun live _ => refreshTick_gives live, fun live off sorted =>
        ⟨refreshTick_late live off, fun inTime => refreshTick_inTime live off inTime sorted⟩⟩,
      fun d ch rank queued => manageRank_below, fun ch cls age s live => ⟨requestPromote_old live, requestPromote_young⟩,
      fun ch temp s => dimmTempRead_cannot, fun ch temp s populated on mc5 => ⟨fun hot cool => ?_, fun hot critical => ?_, fun cold cool => ?_,
        fun warm notHot cool => ?_⟩,
      fun ch s => srIdleExpire_enters, fun ch s => srIdleExpire_disabled,
      fun w c rest s walk left => ⟨tsetChannelDone_fails walk left, fun last => ?_, fun n l more stop => ?_, fun n l more runs => ?_⟩,
      fun ok s => tsetChannelDone_noWalk ok⟩,
    fun ch slot subch rank dev bank row s live => ⟨⟨dramCe_queues live, dramCe_counts live⟩, fun what => ⟨dramUe_retires live, dramUe_counts live⟩⟩,
    fun lines s en on => ⟨patrolScrub_none, fun ready left => ⟨_, patrolScrub_ongoing en on ready left, ?_⟩, patrolScrub_ends en on⟩,
    fun lines s => patrolScrub_paused,
    fun ch r rest s head runs live mc5 => ⟨pprRepair_full rfl head runs live mc5, fun new room => ?_, fun again => ?_⟩,
    fun ch s => pprRepair_none, fun ch s => ⟨fun live => ?_, ?_⟩, fun ch d => retireCh_again,
    fun d p => ⟨fun c => ueAct_copy0, ueAct_copy1, fun copy => ueAct_noCopy⟩, fun s => ⟨flowQuietEnd_none, flowQuietEnd_ends⟩⟩
  · have reads := dimmTempRead_gives populated on mc5 (if_pos hot)
    rwa [if_neg (Nat.not_le.2 cool)] at reads
  · have reads := dimmTempRead_gives populated on mc5 (if_pos hot)
    rwa [if_pos critical] at reads
  · have reads := dimmTempRead_gives populated on mc5 ((if_neg (by omega)).trans (if_pos cold))
    rwa [if_neg (Nat.not_le.2 cool)] at reads
  · have reads := dimmTempRead_gives populated on mc5 ((if_neg (Nat.not_le.2 notHot)).trans (if_neg (Nat.not_lt.2 warm)))
    rwa [if_neg (Nat.not_le.2 cool)] at reads
  · have onward := tsetChannelDone_goesOn walk left
    rwa [last, walkOn_last] at onward
  · have onward := tsetChannelDone_goesOn walk left
    rwa [more, walkOn_stops _ n l c stop] at onward
  · have onward := tsetChannelDone_goesOn walk left
    rwa [more, walkOn_next _ n l c _ runs] at onward
  · exact ⟨scrubRead_wakeAll .., wakeAll_age .., wakeAll_mem ..⟩
  · exact pprRepair_lists rfl head runs live mc5 (.inr room) (if_neg (Bool.eq_false_iff.1 new))
  · exact pprRepair_lists rfl head runs live mc5 (.inl again) (if_pos again)
  · exact gives_of_run (exec_trainingLost ch false s) rfl (if_pos (by simp [live]))
  · exact gives_of_run (exec_trainingLost ch true s) rfl (if_neg (by simp))

end Sys2Proof.Machine
end

section
/-! PROOF. The step and the stop of the machine (O1, O31): the front command runs, and every command answers a next state but for an HVIN reading
above the absolute maximum. -/

namespace Sys2Proof.Machine

/-- A command with an HVIN reading within the rating answers a next state. -/
theorem runHvin_within {s : State} {hvin : Nat} (f : Device → Device) (within : hvin ≤ 8000) :
    ∃ d, s.runHvin hvin f = .next { s with dev := d } :=
  ⟨_, if_neg (Nat.not_lt.2 within)⟩

theorem runHvin_above {s : State} {hvin : Nat} (f : Device → Device) (above : 8000 < hvin) : s.runHvin hvin f = .fault .absoluteMaximum :=
  if_pos above

/-- The meaning of a command that carries no HVIN reading acts on the device alone, whatever the device. -/
theorem exists_gives (i : Instr) (s : State) (within : hvinOf i ≤ 8000) : ∃ d, Gives i s d := by
  cases i
  case inputBad => exact runHvin_within _ within
  case inputGood => exact runHvin_within _ within
  case bottleTrigger => exact runHvin_within _ within
  case hvinUvlo => exact runHvin_within _ within
  case regulatorStart => exact ⟨_, if_neg (Nat.not_lt.2 within)⟩
  all_goals exact ⟨_, rfl⟩

theorem exec_absoluteMaximum (i : Instr) (s : State) (above : 8000 < hvinOf i) : exec i s = .fault .absoluteMaximum := by
  cases i
  case inputBad => exact runHvin_above _ above
  case inputGood => exact runHvin_above _ above
  case bottleTrigger => exact runHvin_above _ above
  case hvinUvlo => exact runHvin_above _ above
  case regulatorStart => exact if_pos above
  all_goals exact absurd above (Nat.not_lt_zero 8000)

/-- Settles O1: a step on a queue that is not empty is defined as the meaning of its front command. -/
theorem stepRunsTheFrontCommand : Obligations.StepRunsTheFrontCommand := fun _ _ => rfl

/-- Settles O31, command by command: only the five that carry an HVIN reading look at it. -/
theorem aboveTheAbsoluteMaximum : Obligations.AboveTheAbsoluteMaximum := fun i s => ⟨exists_gives i s, exec_absoluteMaximum i s⟩

end Sys2Proof.Machine
end

section
/-! PROOF. The management port and bridge accesses that SUP does not answer (O7, O8). -/

namespace Sys2Proof.Machine

/-- A field above the one that is set is as it was. -/
theorem bitsGet_bitsSet_above (w : Word) {hi lo hi' lo' : Nat} (v : Nat) (h1 : lo ≤ hi) (h2 : hi < 32) (above : hi < lo') :
    bitsGet (bitsSet w hi lo v) hi' lo' = bitsGet w hi' lo' := by
  have split : 2 ^ lo' = 2 ^ (hi + 1) * 2 ^ (lo' - (hi + 1)) := by rw [← Nat.pow_add, Nat.add_sub_cancel' above]
  have width : 2 ^ lo * 2 ^ (hi + 1 - lo) = 2 ^ (hi + 1) := by rw [← Nat.pow_add, Nat.add_sub_cancel' (by omega)]
  have small : v % 2 ^ (hi + 1 - lo) * 2 ^ lo + w.toNat % 2 ^ lo < 2 ^ (hi + 1) := by
    have low := Nat.mod_lt w.toNat (Nat.two_pow_pos lo)
    have put := Nat.mul_le_mul_right (2 ^ lo) (Nat.mod_lt v (Nat.two_pow_pos (hi + 1 - lo)))
    rw [Nat.succ_mul, Nat.mul_comm (2 ^ (hi + 1 - lo)), width] at put
    omega
  have high : (bitsSet w hi lo v).toNat / 2 ^ (hi + 1) = w.toNat / 2 ^ (hi + 1) := by
    rw [bitsSet_toNat w v h1 h2, width, Nat.add_assoc, Nat.mul_comm, Nat.mul_add_div (Nat.two_pow_pos _), Nat.div_eq_of_lt small, Nat.add_zero]
  rw [bitsGet, bitsGet, split, ← Nat.div_div_eq_div_mul, ← Nat.div_div_eq_div_mul, high]

namespace Device

/-! ### Registers that a refused access leaves alone (R9, R540) -/

theorem event_reg_ne (d : Device) (e : EventIn) {o i : Nat} (lt : o < 67108864) (ne : o ≠ Reg.EVR_FIFO_LOST) : (d.event e).reg o i = d.reg o i := by
  unfold event
  split
  · rfl
  · split
    · exact reg_setReg_ne d _ (rkey_ne _ _ lt (by decide) ne)
    · rfl

theorem reg_of_regs {d e : Device} (same : e.regs = d.regs) (o i : Nat) : e.reg o i = d.reg o i := by
  unfold reg
  rw [same]

/-- Raising a block's interrupt writes the cause registers of functions only. -/
theorem raiseBlk_reg_ne (d : Device) (blk : Nat) {o i : Nat} (lt : o < 67108864) (ne : o ≠ Reg.HRG_FN_EVT_CAUSE) :
    (d.raiseBlk blk).reg o i = d.reg o i := by
  have one : ∀ (e : Device) fn, (raiseFor blk e fn).reg o i = e.reg o i := fun e fn => by
    have kept := reg_setReg_ne e (bitsSet (e.reg Reg.HRG_FN_EVT_CAUSE fn) blk blk 1) (rkey_ne i fn lt (by decide) ne)
    unfold raiseFor
    dsimp only
    split
    · rfl
    · split
      · rw [reg_of_regs (msix_regs ..), kept]
      · exact kept
  unfold raiseBlk
  split
  · exact foldl_keeps (fun e => e.reg o i) _ one _ d
  · rfl

/-- A status bit that is set writes its register, and then raises at most the block's interrupt. -/
theorem raiseQuiet_of_clear {d : Device} {r n : Nat} (clear : bitAt (d.reg r) n = false) :
    ∃ e : Device, e.regs = (d.setReg r (bitsSet (d.reg r) n n 1)).regs ∧ (d.raiseQuiet r n = e.raiseBlk (r / 65536) ∨ d.raiseQuiet r n = e) := by
  refine ⟨if r = Reg.SUP_SEQ_INT_STATUS ∨ r = Reg.SUP_PWR_INT_STATUS then
      (d.setReg r (bitsSet (d.reg r) n n 1)).noteAlert d.alertOn else d.setReg r (bitsSet (d.reg r) n n 1), ?_, ?_⟩
  · rw [ite_regs, noteAlert_regs, ite_self]
  · rw [raiseQuiet, if_neg (Bool.eq_false_iff.1 clear)]
    exact ite_eq_or_eq ..

theorem raiseQuiet_of_set {d : Device} {r n : Nat} (set : bitAt (d.reg r) n = true) : d.raiseQuiet r n = d := if_pos set

/-- The register file after a status bit is set, outside the cause registers of functions. -/
theorem raiseQuiet_reg (d : Device) (r n : Nat) {o i : Nat} (lt : o < 67108864) (ne : o ≠ Reg.HRG_FN_EVT_CAUSE) :
    (d.raiseQuiet r n).reg o i = if bitAt (d.reg r) n then d.reg o i else (d.setReg r (bitsSet (d.reg r) n n 1)).reg o i := by
  cases set : bitAt (d.reg r) n with
  | true => rw [raiseQuiet_of_set set, if_pos rfl]
  | false =>
    rw [if_neg Bool.false_ne_true]
    obtain ⟨e, same, raised | quiet⟩ := raiseQuiet_of_clear set
    · rw [raised, raiseBlk_reg_ne _ _ lt ne, reg_of_regs same]
    · rw [quiet, reg_of_regs same]

theorem regForm_of_regs {d e : Device} (same : e.regs = d.regs) (form : d.regForm) : e.regForm := by
  unfold regForm
  rwa [same]

theorem regForm_raiseBlk {d : Device} (form : d.regForm) (blk : Nat) : (d.raiseBlk blk).regForm := by
  have one : ∀ (e : Device) fn, e.regForm → (raiseFor blk e fn).regForm := fun e fn h => by
    unfold raiseFor
    dsimp only
    split
    · exact h
    · split
      · exact regForm_of_regs (msix_regs ..) (regForm_setReg _ _ _ h)
      · exact regForm_setReg _ _ _ h
  unfold raiseBlk
  split
  · exact kept_foldl one form
  · exact form

theorem regForm_raiseQuiet {d : Device} (form : d.regForm) (r n : Nat) : (d.raiseQuiet r n).regForm := by
  cases set : bitAt (d.reg r) n with
  | true => rwa [raiseQuiet_of_set set]
  | false =>
    obtain ⟨e, same, raised | quiet⟩ := raiseQuiet_of_clear set
    · exact raised ▸ regForm_raiseBlk (regForm_of_regs same (regForm_setReg _ _ _ form)) _
    · exact quiet ▸ regForm_of_regs same (regForm_setReg _ _ _ form)

theorem bitAt_eq_bitsGet (w : Word) (n : Nat) : bitAt w n = (bitsGet w n n == 1) := by
  unfold bitAt bitsGet
  rw [Nat.add_sub_cancel_left, Nat.pow_one]

/-- The status bit that is raised reads 1. -/
theorem raiseQuiet_bit {d : Device} (form : d.regForm) {r n : Nat} (lt : r < 67108864) (ne : r ≠ Reg.HRG_FN_EVT_CAUSE) (bit : n < 32) :
    bitAt ((d.raiseQuiet r n).reg r) n = true := by
  rw [raiseQuiet_reg d r n lt ne]
  split
  next set => exact set
  next =>
    rw [reg_setReg form, if_pos rfl, bitAt_eq_bitsGet, bitsGet_bitsSet _ _ (Nat.le_refl n) bit, Nat.add_sub_cancel_left]
    rfl

/-! ### The record of an access (R540, R552) -/

/-- The word of GEN_LAST_ERR1 for an access. -/
def lastErr1 (kind agent : Nat) (write : Bool) : Word :=
  overlay 0 [(Fld.GEN_LAST_ERR1_KIND, kind), (Fld.GEN_LAST_ERR1_WRITE, b2n write), (Fld.GEN_LAST_ERR1_AGENT, agent)]

theorem bitsGet_lastErr1_kind {kind agent : Nat} {write : Bool} (lt : kind < 4) : bitsGet (lastErr1 kind agent write) 31 30 = kind := by
  show bitsGet (bitsSet (bitsSet (bitsSet 0 31 30 kind) 29 29 (b2n write)) 26 16 agent) 31 30 = kind
  rw [bitsGet_bitsSet_above _ _ (by decide) (by decide) (by decide), bitsGet_bitsSet_above _ _ (by decide) (by decide) (by decide),
    bitsGet_bitsSet _ _ (by decide) (by decide)]
  exact Nat.mod_eq_of_lt lt

theorem bitsGet_lastErr1_write {kind agent : Nat} {write : Bool} : bitsGet (lastErr1 kind agent write) 29 29 = b2n write := by
  show bitsGet (bitsSet (bitsSet (bitsSet 0 31 30 kind) 29 29 (b2n write)) 26 16 agent) 29 29 = b2n write
  rw [bitsGet_bitsSet_above _ _ (by decide) (by decide) (by decide), bitsGet_bitsSet _ _ (by decide) (by decide)]
  cases write <;> rfl

theorem bitsGet_lastErr1_agent {kind agent : Nat} {write : Bool} (lt : agent < 2048) : bitsGet (lastErr1 kind agent write) 26 16 = agent := by
  show bitsGet (bitsSet (bitsSet (bitsSet 0 31 30 kind) 29 29 (b2n write)) 26 16 agent) 26 16 = agent
  rw [bitsGet_bitsSet _ _ (by decide) (by decide)]
  exact Nat.mod_eq_of_lt lt

section NoteAccess
variable {d : Device} (n kind agent off : Nat) (write : Bool)

/-- A noted access writes GEN's status and last-error registers and the cause registers of functions. -/
theorem noteAccess_reg_ne {o i : Nat} (lt : o < 67108864) (status : o ≠ Reg.GEN_INT_STATUS) (err0 : o ≠ Reg.GEN_LAST_ERR0)
    (err1 : o ≠ Reg.GEN_LAST_ERR1) (cause : o ≠ Reg.HRG_FN_EVT_CAUSE) : (d.noteAccess n kind agent off write).reg o i = d.reg o i := by
  unfold noteAccess
  dsimp only
  rw [reg_setReg_ne _ _ (rkey_ne _ _ lt (by decide) err1), setFld, reg_setReg_ne _ _ (rkey_ne _ _ lt (by decide) err0),
    raiseQuiet_reg _ _ _ lt cause, reg_setReg_ne _ _ (rkey_ne _ _ lt (by decide) status), ite_self]

variable (form : d.regForm)
include form

theorem noteAccess_bit (bit : n < 32) : bitAt ((d.noteAccess n kind agent off write).reg Reg.GEN_INT_STATUS) n = true := by
  unfold noteAccess
  dsimp only
  rw [reg_setReg_ne _ _ (by decide), setFld, reg_setReg_ne _ _ (by decide)]
  exact raiseQuiet_bit form (by decide) (by decide) bit

theorem noteAccess_offset (lt : off < 67108864) : (d.noteAccess n kind agent off write).fld Fld.GEN_LAST_ERR0_OFFSET = off := by
  have put := fld_setFld (regForm_raiseQuiet form Reg.GEN_INT_STATUS n) Fld.GEN_LAST_ERR0_OFFSET off 0 (by decide) (by decide)
  unfold fld at put ⊢
  unfold noteAccess
  dsimp only
  rw [reg_setReg_ne _ _ (by decide), put]
  exact Nat.mod_eq_of_lt lt

theorem noteAccess_lastErr1 : (d.noteAccess n kind agent off write).reg Reg.GEN_LAST_ERR1 = lastErr1 kind agent write := by
  unfold noteAccess
  dsimp only
  rw [reg_setReg (regForm_setFld (regForm_raiseQuiet form Reg.GEN_INT_STATUS n) ..), if_pos rfl, lastErr1]

end NoteAccess

@[simp] theorem noteAccess_i3cPtr (d : Device) (n kind agent off : Nat) (write : Bool) :
    (d.noteAccess n kind agent off write).i3cPtr = d.i3cPtr := by
  simp [noteAccess]
@[simp] theorem noteAccess_mem (d : Device) (n kind agent off : Nat) (write : Bool) : (d.noteAccess n kind agent off write).mem = d.mem := by
  simp [noteAccess]

/-- What stays powered lies in SUP, EVR and FWS, not in GEN or the host rings. -/
theorem ne_of_staysPowered {o r : Nat} (stays : staysPowered o = true) (other : staysPowered r = false) : o ≠ r := by
  rintro rfl
  rw [stays] at other
  cases other

section BridgeTimeout
variable {d : Device} (agent off : Nat) (write : Bool) (v : Word)

theorem bridgeTimeout_reg_ne {o i : Nat} (lt : o < 67108864) (ne : o ≠ Reg.EVR_FIFO_LOST) :
    (d.bridgeTimeout agent off write v).reg o i = (d.noteAccess 2 3 agent off write).reg o i := event_reg_ne _ _ lt ne

theorem bridgeTimeout_fld {f : Fld} (lt : f.reg < 67108864) (ne : f.reg ≠ Reg.EVR_FIFO_LOST) :
    (d.bridgeTimeout agent off write v).fld f = (d.noteAccess 2 3 agent off write).fld f := by
  rw [fld, fld, bridgeTimeout_reg_ne agent off write v lt ne]

/-- No register of the bridge window is written, the count of lost events aside. -/
theorem bridgeTimeout_window {o i : Nat} (lt : o < 67108864) (stays : staysPowered o = true) (ne : o ≠ Reg.EVR_FIFO_LOST) :
    (d.bridgeTimeout agent off write v).reg o i = d.reg o i := by
  rw [bridgeTimeout_reg_ne agent off write v lt ne]
  exact noteAccess_reg_ne _ _ _ _ _ lt (ne_of_staysPowered stays (by decide)) (ne_of_staysPowered stays (by decide))
    (ne_of_staysPowered stays (by decide)) (ne_of_staysPowered stays (by decide))

@[simp] theorem bridgeTimeout_i3cPtr : (d.bridgeTimeout agent off write v).i3cPtr = d.i3cPtr :=
  (event_i3cPtr ..).trans (noteAccess_i3cPtr ..)
@[simp] theorem bridgeTimeout_mem : (d.bridgeTimeout agent off write v).mem = d.mem := (event_mem ..).trans (noteAccess_mem ..)

end BridgeTimeout

/-- What R540 says of the device after a bridge access that SUP has not answered. -/
theorem bridgeTimeout_records {d : Device} {agent off : Nat} (form : d.regForm) (write : Bool) (v : Word) (fn : agent < 1024) (lt : off < 67108864) :
    let e := d.bridgeTimeout agent off write v
    (∀ o i, staysPowered o = true → o < 67108864 → o ≠ Reg.EVR_FIFO_LOST → e.reg o i = d.reg o i) ∧
    e.flag Fld.GEN_INT_STATUS_BRIDGE = true ∧ e.fld Fld.GEN_LAST_ERR0_OFFSET = off ∧ e.fld Fld.GEN_LAST_ERR1_KIND = 3 ∧
    e.fld Fld.GEN_LAST_ERR1_WRITE = b2n write ∧ e.fld Fld.GEN_LAST_ERR1_AGENT = agent ∧ e.mem = d.mem := by
  have err1 := noteAccess_lastErr1 2 3 agent off write form
  refine ⟨fun o i stays o_lt ne => bridgeTimeout_window agent off write v o_lt stays ne, ?_, ?_, ?_, ?_, ?_, bridgeTimeout_mem ..⟩
  · rw [flag, bridgeTimeout_fld agent off write v (by decide) (by decide), fld, ← bitAt_eq_bitsGet]
    exact noteAccess_bit 2 3 agent off write form (by decide)
  · rw [bridgeTimeout_fld agent off write v (by decide) (by decide), noteAccess_offset 2 3 agent off write form lt]
  · rw [bridgeTimeout_fld agent off write v (by decide) (by decide), fld, err1]
    exact bitsGet_lastErr1_kind (by decide)
  · rw [bridgeTimeout_fld agent off write v (by decide) (by decide), fld, err1]
    exact bitsGet_lastErr1_write
  · rw [bridgeTimeout_fld agent off write v (by decide) (by decide), fld, err1]
    exact bitsGet_lastErr1_agent (by omega)

/-! ### A transaction of the management port (R541, R542) -/

/-- The port after a transaction that it takes: the form in which the target now answers. -/
def mgtForm (d : Device) (m : MgtIn) : Device := { d with i3cForm := if m.i3c then 2 else 1, i3cIbi := m.i3c && m.ibi }

section Mgt
variable {d : Device} {m : MgtIn} (f : Device → Device) (on : d.sup.supOn = true)
include on

theorem mgt_acts (ok : m.ok = true) (form : d.i3cForm ≠ 2 ∨ m.i3c = true) : d.mgt m f = f (d.mgtForm m) := by
  have answers : ¬(!d.sup.supOn || (d.i3cForm == 2 && !m.i3c)) = true := by rcases form with h | h <;> simp [on, h]
  exact (if_neg answers).trans (if_pos ok)

/-- A wrong SMBus transaction is NACKed. -/
theorem mgt_nacks (bad : m.ok = false) (smbus : m.i3c = false) (form : d.i3cForm ≠ 2) : d.mgt m f = (d.mgtForm m).emit .i3cNack := by
  have answers : ¬(!d.sup.supOn || (d.i3cForm == 2 && !m.i3c)) = true := by simp [on, form]
  exact (if_neg answers).trans ((if_neg (by simp [bad])).trans (if_neg (by simp [smbus])))

end Mgt
end Device

open Device

/-! ### The commands -/

theorem exec_bridgeTimeout (agent off : Nat) (write : Bool) (v : Word) (s : State) :
    exec (.bridgeTimeout agent off write v) s = execBridgeTimeout agent off write v s := by rfl
theorem exec_i3cAddr (m : MgtIn) (v : Word) (s : State) : exec (.i3cAddr m v) s = execI3cAddr m v s := by rfl
theorem exec_i3cWrite (m : MgtIn) (v : Word) (a : MediaAns) (s : State) : exec (.i3cWrite m v a) s = execI3cWrite m v a s := by rfl
theorem exec_i3cRead (m : MgtIn) (s : State) : exec (.i3cRead m) s = execI3cRead m s := by rfl

section Port
variable {m : MgtIn} {s : State} (on : s.dev.sup.supOn = true)
include on

theorem i3cAddr_nacks (v : Word) (bad : m.ok = false) (smbus : m.i3c = false) (form : s.dev.i3cForm ≠ 2) :
    Gives (.i3cAddr m v) s { s.dev with i3cForm := 1, i3cIbi := false, out := .i3cNack :: s.dev.out } := by
  refine gives_of_run (exec_i3cAddr m v s) rfl ((mgt_nacks _ on bad smbus form).trans ?_)
  simp only [mgtForm, smbus, emit, Bool.false_and, Bool.false_eq_true, if_false]

variable (ok : m.ok = true) (form : s.dev.i3cForm ≠ 2 ∨ m.i3c = true)
include ok form

theorem i3cAddr_sets (v : Word) : Gives (.i3cAddr m v) s { s.dev.mgtForm m with i3cPtr := v.toNat } :=
  gives_of_run (exec_i3cAddr m v s) rfl (mgt_acts _ on ok form)

theorem i3cWrite_writes (v : Word) (a : MediaAns) :
    Gives (.i3cWrite m v a) s ((s.dev.mgtForm m).writeCmd 1024 s.dev.i3cPtr 4 v a).nextPtr :=
  gives_of_run (exec_i3cWrite m v a s) rfl (mgt_acts _ on ok form)

theorem i3cRead_unaligned (refused : s.dev.reach 1024 s.dev.i3cPtr ≠ 0) (unaligned : s.dev.i3cPtr % 4 ≠ 0) :
    Gives (.i3cRead m) s
      ((((s.dev.mgtForm m).badWidth 1024 s.dev.i3cPtr false 0).emit (.i3cRead (s.dev.reach 1024 s.dev.i3cPtr) 0)).nextPtr) := by
  refine gives_of_run (exec_i3cRead m s) rfl ((mgt_acts _ on ok form).trans ?_)
  dsimp only
  rw [if_neg (show ¬(s.dev.mgtForm m).reach 1024 (s.dev.mgtForm m).i3cPtr = 0 from refused),
    if_pos (show (s.dev.mgtForm m).i3cPtr % 4 ≠ 0 from unaligned)]
  rfl

theorem i3cRead_refused (refused : s.dev.reach 1024 s.dev.i3cPtr ≠ 0) (aligned : s.dev.i3cPtr % 4 = 0) :
    Gives (.i3cRead m) s (((s.dev.mgtForm m).emit (.i3cRead (s.dev.reach 1024 s.dev.i3cPtr) 0)).nextPtr) := by
  refine gives_of_run (exec_i3cRead m s) rfl ((mgt_acts _ on ok form).trans ?_)
  dsimp only
  rw [if_neg (show ¬(s.dev.mgtForm m).reach 1024 (s.dev.mgtForm m).i3cPtr = 0 from refused),
    if_neg (show ¬(s.dev.mgtForm m).i3cPtr % 4 ≠ 0 from not_not_intro aligned)]
  rfl

theorem i3cRead_reads (reached : s.dev.reach 1024 s.dev.i3cPtr = 0) :
    Gives (.i3cRead m) s
      ((((s.dev.mgtForm m).readReg 1024 s.dev.i3cPtr false).2.emit
        (.i3cRead 0 ((s.dev.mgtForm m).readReg 1024 s.dev.i3cPtr false).1)).nextPtr) := by
  refine gives_of_run (exec_i3cRead m s) rfl ((mgt_acts _ on ok form).trans ?_)
  have zero : (s.dev.mgtForm m).reach 1024 (s.dev.mgtForm m).i3cPtr = 0 := reached
  dsimp only
  rw [if_pos zero, zero]
  rfl

end Port

section Bridge
variable {s : State} (v : Word)

section Function
variable {agent off : Nat} (fn : agent ≠ 1024) (reached : s.dev.reach agent off = 0) (inside : inBlocks off = true)
  (stays : staysPowered off = true)
include fn reached inside stays

theorem bridgeTimeout_gives (write : Bool) :
    Gives (.bridgeTimeout agent off write v) s
      (if write then s.dev.bridgeTimeout agent off write v else (s.dev.bridgeTimeout agent off write v).emit (.regRead agent off 0)) :=
  gives_of_run (exec_bridgeTimeout agent off write v s) rfl ((if_neg fn).trans (if_neg (by simp [reached, inside, stays])))

end Function

/-- Over the I3C/SMBus port the access is the one at the pointer. -/
theorem bridgeTimeout_port (off : Nat) (write : Bool) (reached : s.dev.reach 1024 s.dev.i3cPtr = 0) (hub : s.dev.hubOn = true) :
    Gives (.bridgeTimeout 1024 off write v) s
      (if write then ((s.dev.bridgeTimeout 1024 s.dev.i3cPtr write v).accessEvent 3 1 (s.dev.i3cPtr / 65536) 1024 s.dev.i3cPtr v).nextPtr
        else ((s.dev.bridgeTimeout 1024 s.dev.i3cPtr write v).emit (.i3cRead 3 0)).nextPtr) := by
  have answers : ¬(s.dev.reach 1024 s.dev.i3cPtr ≠ 0 ∨ (!s.dev.hubOn) = true) := by simp [reached, hub]
  refine gives_of_run (exec_bridgeTimeout 1024 off write v s) rfl ((if_pos rfl).trans ((if_neg answers).trans ?_))
  simp only [bridgeTimeout_i3cPtr]

end Bridge

/-- Settles O7: the transactions case by case, then the access that SUP does not answer, of a function and over the port. -/
theorem managementPort : Obligations.ManagementPort := by
  refine ⟨⟨fun m v s on ok form => i3cAddr_sets on ok form v, fun m v a s on ok form => i3cWrite_writes on ok form v a,
      fun m s on ok form => i3cRead_unaligned on ok form, fun m s on ok form => i3cRead_refused on ok form,
      fun m v s on => i3cAddr_nacks on v, fun m s on ok form => i3cRead_reads on ok form⟩,
    fun agent off v s fn reached inside stays => ⟨?_, ?_⟩, fun off v s reached hub => ⟨?_, ?_⟩⟩
  · exact bridgeTimeout_gives v fn reached inside stays true
  · exact bridgeTimeout_gives v fn reached inside stays false
  · exact bridgeTimeout_port v off false reached hub
  · exact bridgeTimeout_port v off true reached hub

/-- Settles O8: what the access records and leaves alone; a read answers zero besides. -/
theorem unansweredBridgeAccess : Obligations.UnansweredBridgeAccess := by
  intro agent off write v s fn lt reached inside stays form
  have gives := bridgeTimeout_gives v (Nat.ne_of_lt fn) reached inside stays write
  have records := bridgeTimeout_records (d := s.dev) form write v fn lt
  cases write with
  | true => exact ⟨_, gives, fun read => Bool.noConfusion read, records⟩
  | false => exact ⟨_, gives, fun _ => rfl, records⟩

end Sys2Proof.Machine
end

section
/-! PROOF. Low-power entries (O56) as stated fail: the clause of the RTC sleep alarm reads SLEEP_MODE after SLEEP_EN has been cleared, the model
reads it before (R434). The two agree while the register file is in its canonical form, which the clause does not ask for. -/

namespace Sys2Proof.Machine

open Device

theorem exec_rtcSleepAlarm (s : State) : exec .rtcSleepAlarm s = execRtcSleepAlarm s := by rfl

/-- The device when the RTC reaches SUP_RTC_SLEEP. -/
def Device.atSleepAlarm (d : Device) : Device := d.advance ((d.fld Fld.SUP_RTC_SLEEP_SEC - d.fld Fld.SUP_RTC_SEC_SEC) * 1000000)

/-- The alarm requests the mode that SLEEP_MODE names when it comes. -/
theorem rtcSleepAlarm_gives {s : State} (on : s.dev.sup.supOn = true) (en : s.dev.flag Fld.SUP_RTC_SCHED_SLEEP_EN = true)
    (ahead : s.dev.fld Fld.SUP_RTC_SEC_SEC ≤ s.dev.fld Fld.SUP_RTC_SLEEP_SEC) :
    Gives .rtcSleepAlarm s
      ((s.dev.atSleepAlarm.setFld Fld.SUP_RTC_SCHED_SLEEP_EN 0).pwrRequest (s.dev.atSleepAlarm.fld Fld.SUP_RTC_SCHED_SLEEP_MODE)) :=
  gives_of_runSup on (exec_rtcSleepAlarm s) rfl (if_pos ⟨en, ahead⟩)

/-- In the canonical form SLEEP_MODE lies below the bit that is cleared, and reads as before: there the clause holds. -/
theorem rtcSleepAlarm_of_regForm {s : State} (form : s.dev.atSleepAlarm.regForm) (on : s.dev.sup.supOn = true)
    (en : s.dev.flag Fld.SUP_RTC_SCHED_SLEEP_EN = true) (ahead : s.dev.fld Fld.SUP_RTC_SEC_SEC ≤ s.dev.fld Fld.SUP_RTC_SLEEP_SEC) :
    let e := s.dev.atSleepAlarm.setFld Fld.SUP_RTC_SCHED_SLEEP_EN 0
    Gives .rtcSleepAlarm s (e.pwrRequest (e.fld Fld.SUP_RTC_SCHED_SLEEP_MODE)) := by
  have mode := fld_setFld_above (f := Fld.SUP_RTC_SCHED_SLEEP_EN) (g := Fld.SUP_RTC_SCHED_SLEEP_MODE) form 0 0 rfl (by decide) (by decide)
    (by decide) (by decide)
  simp only [mode]
  exact rtcSleepAlarm_gives on en ahead

/-- An ACTIVE device in ON whose register file, out of the canonical form, lists SUP_RTC_SCHED twice: first with SLEEP_EN and mode 1, which is
the Reset value but for SLEEP_EN, then with mode 2. Clearing SLEEP_EN drops the first entry and uncovers the second. -/
def listedTwice : Device :=
  { Device.reset with
    regs := [(Reg.SUP_RTC_SCHED, 0x50000000), (Reg.SUP_RTC_SCHED, 0x20000000)]
    hold := { Device.reset.hold with supply := .normal }
    sup := { Device.reset.sup with state := .on }
    mir := { Device.reset.mir with role := .active } }

/-- Mode 1 is refused with cause 3, as the unit is ACTIVE (R422). -/
theorem listedTwice_refuses_before :
    ((listedTwice.atSleepAlarm.setFld Fld.SUP_RTC_SCHED_SLEEP_EN 0).pwrRequest
      (listedTwice.atSleepAlarm.fld Fld.SUP_RTC_SCHED_SLEEP_MODE)).fld Fld.SUP_PWR_STATUS_REFUSE = 3 := by
  rfl

/-- Mode 2 is refused with cause 4, as emergence has not ended (R422). -/
theorem listedTwice_refuses_after :
    ((listedTwice.atSleepAlarm.setFld Fld.SUP_RTC_SCHED_SLEEP_EN 0).pwrRequest
      ((listedTwice.atSleepAlarm.setFld Fld.SUP_RTC_SCHED_SLEEP_EN 0).fld Fld.SUP_RTC_SCHED_SLEEP_MODE)).fld Fld.SUP_PWR_STATUS_REFUSE = 4 := by
  rfl

/-- Refutes O56: on `listedTwice` the alarm's request is refused with cause 3, where the clause has cause 4. -/
theorem not_lowPowerEntries : ¬ Obligations.LowPowerEntries := by
  intro h
  obtain ⟨-, -, -, supervisor, -⟩ := h
  obtain ⟨-, -, -, -, alarm, -⟩ := supervisor { dev := listedTwice, pending := [] } rfl
  have said := alarm rfl (by decide)
  have gives := rtcSleepAlarm_gives (s := { dev := listedTwice, pending := [] }) rfl rfl (by decide)
  have same := congrArg State.dev (Host.Outcome.next.inj (said.symm.trans gives))
  have cause := congrArg (fun d : Device => d.fld Fld.SUP_PWR_STATUS_REFUSE) same
  exact absurd ((listedTwice_refuses_after.symm.trans cause).trans listedTwice_refuses_before) (by decide)

end Sys2Proof.Machine
end

section
/-! PROOF. Firmware and profile commands (O57): each command of the update and of the profiles, the GOOD timer, and the erases of an FW_BEGIN. -/

namespace Sys2Proof.Machine

open Device

theorem exec_fwBegin (fn : Nat) (s : State) : exec (.fwBegin fn) s = execFwBegin fn s := by rfl
theorem exec_fwWrite (fn : Nat) (s : State) : exec (.fwWrite fn) s = execFwWrite fn s := by rfl
theorem exec_fwCommit (fn : Nat) (s : State) : exec (.fwCommit fn) s = execFwCommit fn s := by rfl
theorem exec_fwActivate (fn : Nat) (s : State) : exec (.fwActivate fn) s = execFwActivate fn s := by rfl
theorem exec_fwRead (fn ecc : Nat) (s : State) : exec (.fwRead fn ecc) s = execFwRead fn ecc s := by rfl
theorem exec_profileRead (fn ecc : Nat) (s : State) : exec (.profileRead fn ecc) s = execProfileRead fn ecc s := by rfl
theorem exec_profileWrite (fn : Nat) (s : State) : exec (.profileWrite fn) s = execProfileWrite fn s := by rfl
theorem exec_profileCapture (fn : Nat) (s : State) : exec (.profileCapture fn) s = execProfileCapture fn s := by rfl
theorem exec_goodTimerExpire (s : State) : exec .goodTimerExpire s = execGoodTimerExpire s := by rfl

/-! ### Commands that their queue takes (R215, R451) -/

section Taken
variable {c : Instr} {fn op : Nat} {x : DescState} {s : State} {d e : Device} {body : Device → DescState → Device} (late : 0x11 ≤ op)
  (hd : s.dev.takenDesc fn 0 x = d)
include late hd

section Dev
variable (takes : s.dev.takesDev fn op x = true)
include takes

/-- A device command that its queue takes does what its body makes of the device that has released its packet. -/
theorem gives_of_devCmd (runs : exec c s = s.run (fun d => d.devCmd fn op body)) (does : body d x = e) : Gives c s e := by
  subst hd
  exact gives_of_run runs rfl ((devCmd_released late takes).trans does)

theorem gives_of_profileCmd (free : d.flashBarred = false) (runs : exec c s = s.run (fun d => d.profileCmd fn op body)) (does : body d x = e) :
    Gives c s e :=
  gives_of_devCmd late hd takes runs ((if_neg (Bool.eq_false_iff.1 free)).trans does)

/-- While bottling is latched the command ends ST_ABORTED. -/
theorem gives_of_profileCmd_barred (barred : d.flashBarred = true) (runs : exec c s = s.run (fun d => d.profileCmd fn op body)) :
    Gives c s (d.complete fn 0 x.seq stAborted 0 0) :=
  gives_of_devCmd late hd takes runs (if_pos barred)

theorem gives_of_flashCmd_barred (idle : s.dev.fws.job = none) (barred : d.flashBarred = true)
    (runs : exec c s = s.run (fun d => d.flashCmd fn op body)) : Gives c s (d.complete fn 0 x.seq stAborted 0 0) := by
  subst hd
  exact gives_of_run runs rfl ((if_neg (by simp [idle])).trans ((devCmd_released late takes).trans (if_pos barred)))

end Dev

/-- An update or profile command runs with no erase in progress and no bottling latched. -/
theorem gives_of_flashCmd (takes : s.dev.takesFlash fn op x = true) (runs : exec c s = s.run (fun d => d.flashCmd fn op body))
    (does : body d x = e) : Gives c s e := by
  subst hd
  exact gives_of_run runs rfl ((flashCmd_takes takes).trans ((beginDesc_released s.dev fn x late).symm ▸ does))

end Taken

/-! ### The erases of an FW_BEGIN (R446, R454) -/

namespace Device

/-- The device whose FW_BEGIN has erased its last block. -/
def endErase (d : Device) (j : FwJob) : Device := (d.setFws { d.fws with job := none, begun := true }).complete j.fn 0 j.seq stOk 0 0

theorem flashGo_noneLeft {d : Device} {j : FwJob} (n : Nat) (job : d.fws.job = some j) (none : j.left = []) : flashGo (n + 1) d = d.endErase j := by
  unfold flashGo
  simp only [job, none, endErase]

/-- An erase takes its time. -/
theorem flashGo_erasing {d : Device} {j : FwJob} {b : Nat} {bs : List Nat} (n : Nat) (job : d.fws.job = some j) (left : j.left = b :: bs)
    (early : d.now < j.at_ + 20000) : flashGo (n + 1) d = d := by
  unfold flashGo
  simp only [job, left]
  exact if_neg (Nat.not_le.2 early)

theorem flashGo_erased {d : Device} {j : FwJob} {b : Nat} {bs : List Nat} (n : Nat) (job : d.fws.job = some j) (left : j.left = b :: bs)
    (due : j.at_ + 20000 ≤ d.now) :
    flashGo (n + 1) d =
      flashGo n ((d.eraseBlock b).setFws { (d.eraseBlock b).fws with job := some { j with left := bs, at_ := j.at_ + eraseTime } }) := by
  rw [flashGo]
  simp only [job, left]
  exact if_pos due

end Device

/-! ### The update (R452–R454, R468) -/

section Commands
variable {fn : Nat} {x : DescState} {s : State} {d : Device} (hd : s.dev.takenDesc fn 0 x = d)
include hd

section Begin
variable (takes : s.dev.takesFlash fn 0xC0 x = true)
include takes

theorem fwBegin_trial (trial : d.fws.trial = true) : Gives (.fwBegin fn) s (d.complete fn 0 x.seq stNotReady 0 0) :=
  gives_of_flashCmd (by decide) hd takes (exec_fwBegin fn s) (if_pos trial)

variable (proven : d.fws.trial = false) {todo : List Nat}
  (htodo : ((List.range 96).map (fun i => 96 * d.updSlot + i)).filter (fun b => !d.blockBlank b) = todo)
include proven htodo

/-- A slot that is blank needs no erase. -/
theorem fwBegin_blank (blank : todo = []) :
    Gives (.fwBegin fn) s ((d.setFws { d.fws with begun := true, job := none }).complete fn 0 x.seq stOk 0 0) := by
  subst htodo
  refine gives_of_flashCmd (by decide) hd takes (exec_fwBegin fn s) ((if_neg (Bool.eq_false_iff.1 proven)).trans ?_)
  exact flashGo_noneLeft (j := { fn := fn, seq := x.seq, left := _, at_ := d.now }) 0 rfl blank

theorem fwBegin_erases (marked : todo ≠ []) :
    Gives (.fwBegin fn) s (d.setFws { d.fws with begun := false, job := some { fn := fn, seq := x.seq, left := todo, at_ := d.now } }) := by
  obtain ⟨b, bs, left⟩ := List.exists_cons_of_ne_nil marked
  subst htodo
  refine gives_of_flashCmd (by decide) hd takes (exec_fwBegin fn s) ((if_neg (Bool.eq_false_iff.1 proven)).trans ?_)
  exact flashGo_erasing 0 rfl left (Nat.lt_add_of_pos_right (by decide))

end Begin

section Write
variable (takes : s.dev.takesFlash fn 0xC1 x = true)
include takes

theorem fwWrite_outside (outside : fwRange (dwAt x.dw 8).toNat (dLength x.dw) = false) :
    Gives (.fwWrite fn) s (d.complete fn 0 x.seq stRange 0 0) :=
  gives_of_flashCmd (by decide) hd takes (exec_fwWrite fn s) (if_pos (by simp [outside]))

variable (inside : fwRange (dwAt x.dw 8).toNat (dLength x.dw) = true)
include inside

theorem fwWrite_notBegun (idle : d.fws.begun = false) : Gives (.fwWrite fn) s (d.complete fn 0 x.seq stNotReady 0 0) :=
  gives_of_flashCmd (by decide) hd takes (exec_fwWrite fn s) ((if_neg (by simp [inside])).trans (if_pos (by simp [idle])))

section Programs
variable (begun : d.fws.begun = true) {r : Device × Nat}
  (hr : d.programAt (6291456 * d.updSlot + (dwAt x.dw 8).toNat) (x.data.take (dLength x.dw)) .update = r)
include begun hr

theorem fwWrite_programs (ok : r.2 = 0) : Gives (.fwWrite fn) s (r.1.complete fn 0 x.seq stOk 0 0) := by
  subst hr
  exact gives_of_flashCmd (by decide) hd takes (exec_fwWrite fn s)
    ((if_neg (by simp [inside])).trans ((if_neg (by simp [begun])).trans (if_pos ok)))

theorem fwWrite_refused (refused : r.2 ≠ 0) : Gives (.fwWrite fn) s (r.1.complete fn 0 x.seq stRange 0 r.2) := by
  subst hr
  exact gives_of_flashCmd (by decide) hd takes (exec_fwWrite fn s)
    ((if_neg (by simp [inside])).trans ((if_neg (by simp [begun])).trans (if_neg refused)))

end Programs
end Write

section Commit
variable (takes : s.dev.takesFlash fn 0xC2 x = true)
include takes

theorem fwCommit_notBegun (idle : d.fws.begun = false) : Gives (.fwCommit fn) s (d.complete fn 0 x.seq stNotReady 0 0) :=
  gives_of_flashCmd (by decide) hd takes (exec_fwCommit fn s) (if_pos (by simp [idle]))

variable (begun : d.fws.begun = true)
include begun

theorem fwCommit_unsigned (fails : d.verifies d.updSlot = false) : Gives (.fwCommit fn) s (d.complete fn 0 x.seq stAuthFail 0 0) :=
  gives_of_flashCmd (by decide) hd takes (exec_fwCommit fn s) ((if_neg (by simp [begun])).trans (if_pos (by simp [fails])))

section Marks
variable (good : d.verifies d.updSlot = true) {r : Device × Bool} (hr : d.markValid d.updSlot = r)
include good hr

theorem fwCommit_marks (ok : r.2 = true) : Gives (.fwCommit fn) s (r.1.complete fn 0 x.seq stOk 0 0) := by
  subst hr
  exact gives_of_flashCmd (by decide) hd takes (exec_fwCommit fn s)
    ((if_neg (by simp [begun])).trans ((if_neg (by simp [good])).trans (if_pos ok)))

/-- SEQ is already programmed. -/
theorem fwCommit_refused (refused : r.2 = false) : Gives (.fwCommit fn) s (r.1.complete fn 0 x.seq stRange 0 1) := by
  subst hr
  exact gives_of_flashCmd (by decide) hd takes (exec_fwCommit fn s)
    ((if_neg (by simp [begun])).trans ((if_neg (by simp [good])).trans (if_neg (Bool.eq_false_iff.1 refused))))

end Marks
end Commit

section Activate
variable (takes : s.dev.takesFlash fn 0xC3 x = true)
include takes

theorem fwActivate_notReady (unready : d.fws.begun = false ∨ d.marker d.updSlot mkValid = false) :
    Gives (.fwActivate fn) s (d.complete fn 0 x.seq stNotReady 0 0) :=
  gives_of_flashCmd (by decide) hd takes (exec_fwActivate fn s) (if_pos (by rcases unready with h | h <;> simp [h]))

theorem fwActivate_arms (begun : d.fws.begun = true) (valid : d.marker d.updSlot mkValid = true) :
    Gives (.fwActivate fn) s ((d.setMarker d.updSlot mkArmed).complete fn 0 x.seq stOk 0 0) :=
  gives_of_flashCmd (by decide) hd takes (exec_fwActivate fn s) (if_neg (by simp [begun, valid]))

end Activate

/-! ### Reads (R446, R448, R468) -/

section Read
variable (takes : s.dev.takesDev fn 0xC4 x = true) (ecc : Nat)
include takes

theorem fwRead_outside (outside : dLength x.dw = 0 ∨ 6291456 < (dwAt x.dw 9).toNat + dLength x.dw) :
    Gives (.fwRead fn ecc) s (d.complete fn 0 x.seq stRange 0 0) :=
  gives_of_devCmd (by decide) hd takes (exec_fwRead fn ecc s) (if_pos outside)

section Inside
variable (some : dLength x.dw ≠ 0) (inside : (dwAt x.dw 9).toNat + dLength x.dw ≤ 6291456) {r : List Byte × Device}
  (hr : (d.flashEcc ecc).flashRead (6291456 * dwF x.dw 8 0 0 + (dwAt x.dw 9).toNat) (dLength x.dw) = r)
include some inside hr

theorem fwRead_answers (readable : ecc ≠ 2) : Gives (.fwRead fn ecc) s (r.2.answerHost fn 0 x r.1) := by
  subst hr
  exact gives_of_devCmd (by decide) hd takes (exec_fwRead fn ecc s) ((if_neg (by omega)).trans (if_neg readable))

/-- A unit that is uncorrectable ends the read with ECC_UE. -/
theorem fwRead_uncorrectable (ue : ecc = 2) : Gives (.fwRead fn ecc) s (r.2.complete fn 0 x.seq stRange 0 3) := by
  subst hr
  exact gives_of_devCmd (by decide) hd takes (exec_fwRead fn ecc s) ((if_neg (by omega)).trans (if_pos ue))

end Inside
end Read

section ProfileRead
variable (takes : s.dev.takesDev fn 0xC8 x = true) (free : d.flashBarred = false) (ecc : Nat) {p : Nat} (hp : dwF x.dw 8 1 0 = p)
  {r : List Byte × Device}
  (hr : (d.flashEcc ecc).flashRead (65536 * (192 + 4 * p)) (min (leField (d.flashBytes (65536 * (192 + 4 * p) / 32) 1) 8 4) 131040) = r)
include takes free hp hr

theorem profileRead_reads :
    Gives (.profileRead fn ecc) s (if ecc = 2 then r.2.complete fn 0 x.seq stRange 0 3
      else r.2.draw.2.answerHost fn 0 x (r.1 ++ if (r.2.fws.learned.find? p).isSome then Config.learnedBytes p r.2.freeCtr else [])) := by
  subst hp hr
  exact gives_of_profileCmd (by decide) hd takes free (exec_profileRead fn ecc s) rfl

theorem profileRead_uncorrectable (ue : ecc = 2) : Gives (.profileRead fn ecc) s (r.2.complete fn 0 x.seq stRange 0 3) := by
  have reads := profileRead_reads hd takes free ecc hp hr
  rwa [if_pos ue] at reads

theorem profileRead_notLearned (readable : ecc ≠ 2) (none : r.2.fws.learned.find? p = none) :
    Gives (.profileRead fn ecc) s (r.2.draw.2.answerHost fn 0 x r.1) := by
  have reads := profileRead_reads hd takes free ecc hp hr
  rwa [if_neg readable, none, if_neg (by simp), List.append_nil] at reads

theorem profileRead_learned (readable : ecc ≠ 2) (some : (r.2.fws.learned.find? p).isSome) :
    Gives (.profileRead fn ecc) s (r.2.draw.2.answerHost fn 0 x (r.1 ++ Config.learnedBytes p r.2.freeCtr)) := by
  have reads := profileRead_reads hd takes free ecc hp hr
  rwa [if_neg readable, if_pos some] at reads

end ProfileRead

/-! ### Profiles (R459, R468) -/

section ProfileWrite
variable (takes : s.dev.takesFlash fn 0xC9 x = true)
include takes

theorem profileWrite_outside (outside : dLength x.dw = 0 ∨ 131040 < dLength x.dw) :
    Gives (.profileWrite fn) s (d.complete fn 0 x.seq stRange 0 0) :=
  gives_of_flashCmd (by decide) hd takes (exec_profileWrite fn s) (if_pos outside)

variable (some : 1 ≤ dLength x.dw) (inside : dLength x.dw ≤ 131040)
include some inside

theorem profileWrite_protected (wp : d.flag Fld.FWS_CTRL_PROF_WP = true) : Gives (.profileWrite fn) s (d.complete fn 0 x.seq stProt 0 0) :=
  gives_of_flashCmd (by decide) hd takes (exec_profileWrite fn s) ((if_neg (by omega)).trans (if_pos wp))

theorem profileWrite_stores (open_ : d.flag Fld.FWS_CTRL_PROF_WP = false) :
    let r := d.storeProfile (dwF x.dw 8 1 0) (x.data.take (dLength x.dw)) (bitAt (dwAt x.dw 8) 8)
    Gives (.profileWrite fn) s (r.1.complete fn 0 x.seq (if r.2 then stOk else stAuthFail) 0 0) :=
  gives_of_flashCmd (by decide) hd takes (exec_profileWrite fn s) ((if_neg (by omega)).trans (if_neg (by simp [open_])))

end ProfileWrite

section Capture
variable (takes : s.dev.takesDev fn 0xCA x = true) (free : d.flashBarred = false)
include takes free

theorem profileCapture_short (short : dLength x.dw < d.captureSection.length) :
    Gives (.profileCapture fn) s (d.complete fn 0 x.seq stBudget 0 0) :=
  gives_of_profileCmd (by decide) hd takes free (exec_profileCapture fn s) (if_pos short)

theorem profileCapture_answers (room : d.captureSection.length ≤ dLength x.dw) :
    Gives (.profileCapture fn) s (d.answerHost fn 0 x d.captureSection) :=
  gives_of_profileCmd (by decide) hd takes free (exec_profileCapture fn s) (if_neg (Nat.not_lt.2 room))

end Capture
end Commands

/-! ### The GOOD timer (R456) -/

section Good
variable {s : State} (on : s.dev.sup.supOn = true)
include on

theorem goodTimerExpire_marks (trial : s.dev.fws.trial = true) (image : s.dev.fws.run < 2)
    (runs : s.dev.seqState = .on ∨ s.dev.seqState = .lowPower) :
    let d := s.dev.waitUntil (max s.dev.fws.goodAt s.dev.sup.upAt + 1000000 * s.dev.fld Fld.FWS_BOOT_CFG_GOOD_S)
    let e := d.setMarker d.fws.run mkGood
    Gives .goodTimerExpire s (e.setFws { e.fws with trial := false }) :=
  gives_of_runSup on (exec_goodTimerExpire s) rfl (if_pos ⟨trial, image, runs⟩)

theorem goodTimerExpire_proven (proven : s.dev.fws.trial = false) : Gives .goodTimerExpire s s.dev :=
  gives_of_runSup on (exec_goodTimerExpire s) rfl (if_neg fun h => Bool.eq_false_iff.1 proven h.1)

end Good

/-- Settles O57, command by command, then the GOOD timer and the erase of the last block. -/
theorem firmwareCommands : Obligations.FirmwareCommands := by
  refine ⟨fun fn x s => ⟨?begin_, ?write, ?commit, ?activate, ?beginBarred, ?read, ?profileReadBarred, ?profileRead, ?profileWrite, ?captureBarred,
    ?capture⟩, fun s on => ⟨goodTimerExpire_marks on, goodTimerExpire_proven on⟩, fun d j b n job left => ⟨?_, fun due => ?_⟩⟩
  case begin_ => exact fun takes => ⟨fwBegin_trial rfl takes, fun proven => ⟨fwBegin_blank rfl takes proven rfl, fwBegin_erases rfl takes proven rfl⟩⟩
  case write =>
    exact fun takes => ⟨fwWrite_outside rfl takes, fwWrite_notBegun rfl takes, fun inside begun =>
      ⟨fwWrite_programs rfl takes inside begun rfl, fwWrite_refused rfl takes inside begun rfl⟩⟩
  case commit =>
    exact fun takes => ⟨fwCommit_notBegun rfl takes, fwCommit_unsigned rfl takes, fun begun good =>
      ⟨fwCommit_marks rfl takes begun good rfl, fwCommit_refused rfl takes begun good rfl⟩⟩
  case activate => exact fun takes => ⟨fwActivate_notReady rfl takes, fwActivate_arms rfl takes⟩
  case beginBarred => exact fun idle takes barred => gives_of_flashCmd_barred (by decide) rfl takes idle barred (exec_fwBegin fn s)
  case read =>
    exact fun takes => ⟨fun outside ecc => fwRead_outside rfl takes ecc outside, fun some inside ecc =>
      ⟨fwRead_answers rfl takes ecc some inside rfl, fwRead_uncorrectable rfl takes ecc some inside rfl⟩⟩
  case profileReadBarred => exact fun takes barred ecc => gives_of_profileCmd_barred (by decide) rfl takes barred (exec_profileRead fn ecc s)
  case profileRead =>
    exact fun takes free ecc => ⟨profileRead_uncorrectable rfl takes free ecc rfl rfl, profileRead_notLearned rfl takes free ecc rfl rfl,
      profileRead_learned rfl takes free ecc rfl rfl⟩
  case profileWrite =>
    exact fun takes => ⟨profileWrite_outside rfl takes, fun some inside =>
      ⟨profileWrite_protected rfl takes some inside, profileWrite_stores rfl takes some inside⟩⟩
  case captureBarred => exact fun takes barred => gives_of_profileCmd_barred (by decide) rfl takes barred (exec_profileCapture fn s)
  case capture => exact fun takes free => ⟨profileCapture_short rfl takes free, profileCapture_answers rfl takes free⟩
  · exact flashGo_erasing (n + 1) job left
  · rw [flashGo_erased (n + 1) job left due, flashGo_noneLeft n rfl rfl]
    rfl

end Sys2Proof.Machine
end

section
/-! PROOF. The event ring and the archive (O58): the commands that read and post, the recorder case by case, and the archive. -/

namespace Sys2Proof.Machine

open Device

theorem exec_evtRead (fn : Nat) (s : State) : exec (.evtRead fn) s = execEvtRead fn s := by rfl
theorem exec_evtArchRead (fn : Nat) (s : State) : exec (.evtArchRead fn) s = execEvtArchRead fn s := by rfl
theorem exec_evtPost (fn : Nat) (s : State) : exec (.evtPost fn) s = execEvtPost fn s := by rfl
theorem exec_eventRecord (s : State) : exec .eventRecord s = execEventRecord s := by rfl
theorem exec_eventArchive (s : State) : exec .eventArchive s = execEventArchive s := by rfl

/-! ### Reading and posting (R468) -/

section Commands
variable {fn : Nat} {x : DescState} {s : State} {d : Device} (hd : s.dev.takenDesc fn 0 x = d)
include hd

theorem evtRead_answers (takes : s.dev.takesDev fn 0xCC x = true) :
    Gives (.evtRead fn) s (d.answerHost fn 0 x ((List.range 6144).map (fun i => evtBytes (d.evr.ring.find? i))).flatten) :=
  gives_of_devCmd (by decide) hd takes (exec_evtRead fn s) rfl

theorem evtArchRead_answers (takes : s.dev.takesDev fn 0xCD x = true) {rs : List (List Byte)}
    (hrs : (d.archBlock (dwF x.dw 8 3 0)).map (fun r => evtBytes (some r)) = rs) :
    Gives (.evtArchRead fn) s (d.answerHost fn 0 x (rs ++ List.replicate (2048 - rs.length) (List.replicate 32 (0xFF : Byte))).flatten) := by
  subst hrs
  exact gives_of_devCmd (by decide) hd takes (exec_evtArchRead fn s) rfl

section Post
variable (takes : s.dev.takesDev fn 0xCE x = true)
include takes

theorem evtPost_outside (outside : 4 < dwF x.dw 8 2 0 ∨ dwF x.dw 9 15 0 < 0xF000) :
    Gives (.evtPost fn) s (d.complete fn 0 x.seq stRange 0 0) :=
  gives_of_devCmd (by decide) hd takes (exec_evtPost fn s) (if_pos outside)

theorem evtPost_posts (sev : dwF x.dw 8 2 0 ≤ 4) (code : 0xF000 ≤ dwF x.dw 9 15 0) :
    let data := leBytes 4 (dwAt x.dw 10).toNat ++ leBytes 4 (dwAt x.dw 11).toNat ++ leBytes 4 (dwAt x.dw 12).toNat ++ leBytes 2 fn ++ [0, 0]
    Gives (.evtPost fn) s
      ((d.event { sev := dwF x.dw 8 2 0, host := true, src := 0x20, code := dwF x.dw 9 15 0, data := data }).complete fn 0 x.seq stOk 0 0) :=
  gives_of_devCmd (by decide) hd takes (exec_evtPost fn s) (if_neg (by omega))

end Post
end Commands

namespace Device

/-! ### A new record (R466, R467) -/

/-- The record that an event becomes in the ring. -/
def newRecord (d : Device) (e : EventIn) : EventRec :=
  { opsec := d.fld Fld.EVR_OPSEC_VALUE, cycles := d.fld Fld.EVR_CYCLES_VALUE, ev := e, archived := false, saturated := false, deferred := false,
    repeats := 0, seq := d.fld Fld.EVR_SEQ_VALUE }

/-- The slots that wait for the archive once `slot` has taken an event. -/
def todoWith (d : Device) (slot : Nat) (e : EventIn) : List Nat :=
  let others := d.evr.todo.filter (fun i => decide (i ≠ slot))
  if 4 ≤ e.sev then others ++ [slot] else others

theorem mem_todoWith (d : Device) (slot : Nat) (e : EventIn) : slot ∈ d.todoWith slot e ↔ 4 ≤ e.sev := by
  unfold todoWith
  dsimp only
  split
  next severe => exact iff_of_true (List.mem_append_right _ (List.mem_singleton_self slot)) severe
  next mild => exact iff_of_false (fun h => by simpa using (List.mem_filter.1 h).2) mild

/-- The alarm of an event of severity 5 or more changes registers and outputs, not the recorder. -/
theorem putRecord_evr (d : Device) (slot : Nat) (e : EventIn) :
    (d.putRecord slot e).evr =
      { d.evr with ring := d.evr.ring.put slot (d.newRecord e), last := some slot, todo := d.todoWith slot e } := by
  have same : (if 5 ≤ e.sev then d.raiseQuiet Reg.EVR_INT_STATUS 1 else d).evr = d.evr := by rw [ite_evr, raiseQuiet_evr, ite_self]
  unfold putRecord
  dsimp only [setEvr]
  rw [same]
  rfl

theorem putRecord_mem (d : Device) (slot : Nat) (e : EventIn) : (d.putRecord slot e).mem = d.mem := by
  show (Device.bump (if 5 ≤ e.sev then d.raiseQuiet Reg.EVR_INT_STATUS 1 else d) Fld.EVR_SEQ_VALUE).mem = d.mem
  rw [bump_mem, ite_mem, raiseQuiet_mem, ite_self]

theorem putRecord_now (d : Device) (slot : Nat) (e : EventIn) : (d.putRecord slot e).now = d.now := by
  show (Device.bump (if 5 ≤ e.sev then d.raiseQuiet Reg.EVR_INT_STATUS 1 else d) Fld.EVR_SEQ_VALUE).now = d.now
  rw [bump_now, ite_now, raiseQuiet_now, ite_self]

/-! ### The recorder (R466) -/

/-- The device whose recorder has taken the oldest event of its input queue. -/
def takeEvent (d : Device) (rest : List EventIn) : Device := d.setEvr { d.evr with fifo := rest }

theorem recordEvent_none {d : Device} (empty : d.evr.fifo = []) : d.recordEvent = d := by
  unfold recordEvent
  simp only [empty]

section Taken
variable {d : Device} {e : EventIn} {rest : List EventIn} (next : d.evr.fifo = e :: rest)
include next

/-- An event that is the last record again raises its count. -/
theorem recordEvent_repeat {i : Nat} {r : EventRec} (last : d.evr.last = some i) (found : d.evr.ring.find? i = some r) (again : r.ev = e)
    (counts : r.repeats < 65535) :
    d.recordEvent = (d.takeEvent rest).setEvr { (d.takeEvent rest).evr with
      ring := d.evr.ring.put i { r with opsec := d.fld Fld.EVR_OPSEC_VALUE, cycles := d.fld Fld.EVR_CYCLES_VALUE, repeats := r.repeats + 1 } } := by
  have below : min (r.repeats + 1) 65535 = r.repeats + 1 := Nat.min_eq_left counts
  have unsaturated : (r.repeats == 65535) = false := beq_false_of_ne (Nat.ne_of_lt counts)
  subst again
  unfold recordEvent
  simp only [next, setEvr, takeEvent, last, found, and_self, if_true, below, unsaturated, Bool.or_false]
  rfl

section NoLast
variable (fresh : d.evr.last = none)
include fresh

theorem recordEvent_free {i : Nat} (free : freeRing 6144 0 d.evr.ring = some i) : d.recordEvent = (d.takeEvent rest).putRecord i e := by
  unfold recordEvent
  simp only [next, setEvr, fresh, free, takeEvent]

variable (full : freeRing 6144 0 d.evr.ring = none)
include full

theorem recordEvent_replaces {i : Nat} {r : EventRec}
    (oldest : oldestSlot (d.evr.ring.filter (fun p => decide (p.2.ev.sev ≤ e.sev) && !p.2.deferred)) = some (i, r)) :
    d.recordEvent = (d.takeEvent rest).putRecord i e := by
  unfold recordEvent
  simp only [next, setEvr, fresh, full, oldest, takeEvent]

theorem recordEvent_drops (severe : oldestSlot (d.evr.ring.filter (fun p => decide (p.2.ev.sev ≤ e.sev) && !p.2.deferred)) = none) :
    d.recordEvent = ((d.takeEvent rest).bumpDropped e.sev).raiseQuiet Reg.EVR_INT_STATUS 0 := by
  unfold recordEvent
  simp only [next, setEvr, fresh, full, severe, takeEvent]

end NoLast
end Taken

/-! ### The archive (R451, R467) -/

theorem archiveNext_none {d : Device} (empty : d.evr.todo = []) : d.archiveNext = d := by
  unfold archiveNext
  simp only [empty]

section Waiting
variable {d : Device} {i : Nat} {rest : List Nat} {r : EventRec} (next : d.evr.todo = i :: rest) (found : d.evr.ring.find? i = some r)
include next found

/-- While bottling is latched every record that waits is deferred. -/
theorem archiveNext_defers (barred : d.flashBarred = true) :
    ∃ m, d.archiveNext = d.setEvr { d.evr with ring := m } := by
  unfold archiveNext
  simp only [next, found]
  exact ⟨_, if_pos barred⟩

/-- A record goes to the lowest block with an erased unit. -/
theorem archiveNext_copies (free : d.flashBarred = false) {b : Nat}
    (room : ((List.range 16).filter (fun b => decide ((d.archBlock b).length < 2048))).head? = some b) :
    d.archiveNext = d.setEvr { d.evr with
      todo := rest, archive := d.evr.archive.put b (d.archBlock b ++ [{ r with deferred := false }])
      ring := d.evr.ring.put i { r with archived := true, deferred := false } } := by
  have copied : ({ d with evr := { d.evr with todo := rest } } : Device).archive { r with deferred := false } =
      (({ d with evr := { d.evr with todo := rest } } : Device).putArch b (d.archBlock b ++ [{ r with deferred := false }]), true) := by
    unfold archive
    rw [show ((List.range 16).filter (fun b =>
      decide ((({ d with evr := { d.evr with todo := rest } } : Device).archBlock b).length < 2048))).head? = some b from room]
    rfl
  unfold archiveNext
  simp only [next, found, free, copied]
  rfl

end Waiting
end Device

/-! ### The commands of the recorder and the archive -/

section Recorder
variable {s : State} (on : s.dev.sup.supOn = true)
include on

theorem eventRecord_gives {d : Device} (does : s.dev.recordEvent = d) : Gives .eventRecord s d := gives_of_runSup on (exec_eventRecord s) rfl does

theorem eventArchive_gives {d : Device} (does : s.dev.archiveNext = d) : Gives .eventArchive s d := gives_of_runSup on (exec_eventArchive s) rfl does

variable {e : EventIn} {rest : List EventIn}

theorem eventRecord_repeat {i : Nat} {r : EventRec} (next : s.dev.evr.fifo = e :: rest) (last : s.dev.evr.last = some i)
    (found : s.dev.evr.ring.find? i = some r) (again : r.ev = e) (counts : r.repeats < 65535) :
    Reaches .eventRecord s (fun t => t.evr.fifo = rest ∧ t.evr.last = some i ∧ t.regs = s.dev.regs ∧ t.mem = s.dev.mem ∧
      t.evr.ring.find? i = some { r with
        opsec := s.dev.fld Fld.EVR_OPSEC_VALUE, cycles := s.dev.fld Fld.EVR_CYCLES_VALUE, repeats := r.repeats + 1 }) :=
  ⟨_, eventRecord_gives on (recordEvent_repeat next last found again counts), rfl, last, rfl, rfl, AMap.find?_put_same ..⟩

/-- A record in a slot of its own, free or taken from an older one. -/
theorem eventRecord_puts {i : Nat} (does : s.dev.recordEvent = (s.dev.takeEvent rest).putRecord i e) :
    Reaches .eventRecord s (fun t => t.evr.fifo = rest ∧ t.evr.last = some i ∧ t.mem = s.dev.mem ∧ t.now = s.dev.now ∧
      t.evr.ring.find? i = some (s.dev.newRecord e) ∧ (i ∈ t.evr.todo ↔ 4 ≤ e.sev) ∧
      (∀ k, k ≠ i → t.evr.ring.find? k = s.dev.evr.ring.find? k)) := by
  refine ⟨_, eventRecord_gives on does, ?_, ?_, putRecord_mem .., putRecord_now .., ?_, ?_, fun k other => ?_⟩
  all_goals rw [putRecord_evr]
  · rfl
  · exact AMap.find?_put_same ..
  · exact mem_todoWith ..
  · exact AMap.find?_put_ne _ _ other

end Recorder

/-- Settles O58: the commands, then the recorder and the archive in each of their cases. -/
theorem eventCommands : Obligations.EventCommands := by
  refine ⟨fun fn x s => ⟨fun takes => ?read, fun takes => ?archRead, fun takes => ⟨evtPost_outside rfl takes, evtPost_posts rfl takes⟩⟩,
    fun s on empty => ?idle, fun e rest s on next => ⟨fun i r => eventRecord_repeat on next, fun i fresh place => ?new, fun fresh full severe => ?drop⟩,
    fun s on empty => ?archiveIdle, fun i rest r s on next found => ⟨fun barred => ?defer, fun free b room => ?archive⟩⟩
  case read => simpa only [takenDesc_evr] using evtRead_answers rfl takes
  case archRead => simpa only [archBlock, takenDesc_evr] using evtArchRead_answers rfl takes rfl
  case idle => exact eventRecord_gives on (recordEvent_none empty)
  case new =>
    rcases place with free | ⟨full, r, oldest⟩
    · exact eventRecord_puts on (recordEvent_free next fresh free)
    · exact eventRecord_puts on (recordEvent_replaces next fresh full oldest)
  case drop => exact eventRecord_gives on (recordEvent_drops next fresh full severe)
  case archiveIdle => exact eventArchive_gives on (archiveNext_none empty)
  case defer =>
    obtain ⟨m, deferred⟩ := archiveNext_defers next found barred
    exact ⟨_, eventArchive_gives on deferred, next, rfl, rfl, rfl⟩
  case archive =>
    exact ⟨_, eventArchive_gives on (archiveNext_copies next found free room), rfl, AMap.find?_put_same .., AMap.find?_put_same .., rfl⟩

end Sys2Proof.Machine
end

section
/-! PROOF. The Trellis (O60): frames that the device takes, by kind, frames that do not reach it, and its timers, ports and devices. -/

namespace Sys2Proof.Machine

open Device

section Execs
variable (f : TrlIn) (s : State)

theorem exec_trlHello (mode n stripe : Nat) (shared : Bool) (pair cap : Nat) :
    exec (.trlHello f mode n stripe shared pair cap) s = execTrlHello f mode n stripe shared pair cap s := by rfl
theorem exec_trlAck (upTo : Nat) : exec (.trlAck f upTo) s = execTrlAck f upTo s := by rfl
theorem exec_trlTime (t err : Nat) : exec (.trlTime f t err) s = execTrlTime f t err s := by rfl
theorem exec_trlVclk (n : Nat) : exec (.trlVclk f n) s = execTrlVclk f n s := by rfl
theorem exec_trlMark (n : Nat) : exec (.trlMark f n) s = execTrlMark f n s := by rfl
theorem exec_trlSealed (n acked dist : Nat) : exec (.trlSealed f n acked dist) s = execTrlSealed f n acked dist s := by rfl
theorem exec_trlCommit (n m : Nat) : exec (.trlCommit f n m) s = execTrlCommit f n m s := by rfl
theorem exec_trlPiece (n source : Nat) (rec : WireRec) (atom : Option TrlAtomic) :
    exec (.trlPiece f n source rec atom) s = execTrlPiece f n source rec atom s := by rfl
theorem exec_trlRead (snap tag : Nat) (body : TrlReadBody) : exec (.trlRead f snap tag body) s = execTrlRead f snap tag body s := by rfl
theorem exec_trlLease (start epoch role : Nat) : exec (.trlLease f start epoch role) s = execTrlLease f start epoch role s := by rfl
theorem exec_trlStatus (dirty cMf esr dp limit high freeKib wbRate admState : Nat) :
    exec (.trlStatus f dirty cMf esr dp limit high freeKib wbRate admState) s =
      execTrlStatus f dirty cMf esr dp limit high freeKib wbRate admState s := by rfl
theorem exec_trlMeta (n : Nat) (op : MetaOp) (home : Nat) : exec (.trlMeta f n op home) s = execTrlMeta f n op home s := by rfl
theorem exec_trlCtrl (action arg : Nat) (nums : List (Nat × Bool)) : exec (.trlCtrl f action arg nums) s = execTrlCtrl f action arg nums s := by rfl
theorem exec_trlHelloTimer (port : Nat) : exec (.trlHelloTimer port) s = execTrlHelloTimer port s := by rfl
theorem exec_trlAckTimer : exec .trlAckTimer s = execTrlAckTimer s := by rfl
theorem exec_trlTimeTimer : exec .trlTimeTimer s = execTrlTimeTimer s := by rfl
theorem exec_trlFormTimeout : exec .trlFormTimeout s = execTrlFormTimeout s := by rfl
theorem exec_trlPortDown (port : Nat) : exec (.trlPortDown port) s = execTrlPortDown port s := by rfl
theorem exec_trlDeviceLost (dev : Nat) : exec (.trlDeviceLost dev) s = execTrlDeviceLost dev s := by rfl
theorem exec_trlPortUp (port peer : Nat) : exec (.trlPortUp port peer) s = execTrlPortUp port peer s := by rfl

end Execs

/-! ### Frames taken, and frames that do not arrive (R489–R491) -/

section Frames
variable {i : Instr} {f : TrlIn} {b : TrlBody} {act : Device → Device} {s : State} {o : Host.Outcome State Fault Refusal}
  (hi : exec i s = o) (ho : o = s.run (fun d => d.trlTake f b act))
include hi ho

/-- A frame acts on the device that has taken it. -/
theorem gives_of_frame {d e : Device} (takes : s.dev.takesTrl f b d = true) (acts : act d = e) : Gives i s e :=
  gives_of_run hi ho ((trlTake_takes takes).trans acts)

theorem gives_of_unreached (lost : s.dev.trlReaches f = false) : Gives i s s.dev :=
  gives_of_run hi ho (if_pos (by simp only [lost, Bool.not_false]))

end Frames

namespace Device

theorem takesTrl_reaches {d e : Device} {f : TrlIn} {b : TrlBody} (takes : d.takesTrl f b e = true) : d.trlReaches f = true := by
  unfold takesTrl at takes
  simp only [Bool.and_eq_true] at takes
  exact takes.1.1.1.1

end Device

/-! ### Formation, acknowledgement and time (R488, R490, R491) -/

section Frame
variable {f : TrlIn} {s : State} {d : Device}

theorem trlHello_agrees {mode n stripe pair cap : Nat} {shared : Bool}
    (takes : s.dev.takesTrl f { kind := "HELLO", args := helloArgs mode n stripe shared pair cap } d = true) (hmode : mode = s.dev.trl.mode)
    (hn : n = s.dev.trl.n) (hstripe : stripe = s.dev.trl.stripe) (hshared : shared = s.dev.flag Fld.TRL_CFG_SHARED_BANK)
    (hpair : pair = s.dev.pair Reg.MIR_PAIR_LO) :
    Gives (.trlHello f mode n stripe shared pair cap) s (((d.updDev f.src (fun x => { x with seen := true, cap := cap })).formGo).settle) := by
  have reaches := takesTrl_reaches takes
  unfold trlReaches at reaches
  simp only [Bool.and_eq_true] at reaches
  obtain ⟨⟨-, other⟩, member⟩ := reaches
  refine gives_of_run (exec_trlHello ..) rfl ((if_neg ?_).trans (trlTake_takes takes))
  simp [hmode, hn, hstripe, hshared, hpair, other, member]

theorem trlHello_disagrees {mode n stripe pair cap : Nat} {shared : Bool} (on : s.dev.trlOn = true) (up : s.dev.trlPortUp f.port = true)
    (crc : f.crc = true) (differs : mode ≠ s.dev.trl.mode) :
    Gives (.trlHello f mode n stripe shared pair cap) s (s.dev.trlMismatch f.port) :=
  gives_of_run (exec_trlHello ..) rfl (if_pos (by simp [on, up, crc, differs]))

theorem trlAck_releases {upTo : Nat} (takes : s.dev.takesTrl f { kind := "ACK", args := [upTo, 0] } d = true) :
    let e := d.updDev f.src (fun x => { x with unacked := x.unacked.filter (fun y => decide (upTo < y.pseq)) })
    let left := e.trl.bcSent.map (fun (p : TrlFrame × List Nat) => (p.1, p.2.filter (fun i => decide (i ≠ f.src))))
    Gives (.trlAck f upTo) s (e.setTrl { e.trl with bcSent := left.filter (fun (p : TrlFrame × List Nat) => !p.2.isEmpty) }) :=
  gives_of_frame (exec_trlAck ..) rfl takes rfl

section Time
variable {t err : Nat} (takes : s.dev.takesTrl f { kind := "TIME", args := [t, 0] } d = true)
include takes

theorem trlTime_other (notMaster : f.src ≠ 0) : Gives (.trlTime f t err) s d :=
  gives_of_frame (exec_trlTime ..) rfl takes (if_pos notMaster)

theorem trlTime_near (master : f.src = 0) (near : err ≤ 50) :
    let e := d.setTrl { d.trl with timeOff := (t + 2 ^ 64 - 1000 * d.now % 2 ^ 64) % 2 ^ 64 }
    Gives (.trlTime f t err) s (e.setFld Fld.TRL_TIME_ERR_NS (max (e.fld Fld.TRL_TIME_ERR_NS) (min err 65535))) :=
  gives_of_frame (exec_trlTime ..) rfl takes ((if_neg (not_not_intro master)).trans (if_neg near.not_gt))

theorem trlTime_far (master : f.src = 0) (far : 50 < err) :
    let e := d.setTrl { d.trl with timeOff := (t + 2 ^ 64 - 1000 * d.now % 2 ^ 64) % 2 ^ 64 }
    Gives (.trlTime f t err) s
      ((e.setFld Fld.TRL_TIME_ERR_NS (max (e.fld Fld.TRL_TIME_ERR_NS) (min err 65535))).raise Reg.TRL_INT_STATUS 4 4) :=
  gives_of_frame (exec_trlTime ..) rfl takes ((if_neg (not_not_intro master)).trans (if_pos far))

end Time

/-! ### Vintages across the cascade (R493–R495) -/

theorem trlVclk_closes {n : Nat} (takes : s.dev.takesTrl f { kind := "VCLK", args := [n, 0] } d = true) (master : f.src = 0)
    (shared : d.cascadeShared = true) : Gives (.trlVclk f n) s (d.closeVint n).settle :=
  gives_of_frame (exec_trlVclk ..) rfl takes (if_pos ⟨master, shared⟩)

section Mark
variable {n : Nat} (takes : s.dev.takesTrl f { kind := "MARK", args := [n, 0] } d = true) {e : Device}
  (noted : d.updDev f.src (fun x => { x with markN := max x.markN n }) = e)
include takes noted

theorem trlMark_seals (shared : e.cascadeShared = true) : Gives (.trlMark f n) s (sealClosed (e.trl.closing.length + 1) e).settle := by
  subst noted
  exact gives_of_frame (exec_trlMark ..) rfl takes (if_pos shared)

theorem trlMark_notes (alone : e.cascadeShared = false) : Gives (.trlMark f n) s e := by
  subst noted
  exact gives_of_frame (exec_trlMark ..) rfl takes (if_neg (Bool.not_eq_true _ ▸ alone))

end Mark

section Sealed
variable {n acked dist : Nat} (takes : s.dev.takesTrl f { kind := "SEALED", args := [n, acked * 2 ^ 32 + dist] } d = true) {e : Device}
  (noted : d.updDev f.src (fun x =>
    { x with sealedN := max x.sealedN n, ackedN := max x.ackedN acked, commitN := max x.commitN (n - dist) }) = e)
include takes noted

theorem trlSealed_commits (shared : e.cascadeShared = true) (master : e.cascadeMaster = true) :
    Gives (.trlSealed f n acked dist) s e.decideCommit.settle := by
  subst noted
  exact gives_of_frame (exec_trlSealed ..) rfl takes (if_pos (by rw [shared, master]; rfl))

theorem trlSealed_notes (notMaster : e.cascadeMaster = false) : Gives (.trlSealed f n acked dist) s e := by
  subst noted
  exact gives_of_frame (exec_trlSealed ..) rfl takes (if_neg (by rw [notMaster, Bool.and_false]; decide))

end Sealed

theorem trlCommit_commits {n m : Nat} (takes : s.dev.takesTrl f { kind := "COMMIT", args := [n, m] } d = true) (master : f.src = 0)
    (shared : d.cascadeShared = true) : Gives (.trlCommit f n m) s ((d.takeCommit n m).reportSealed).settle :=
  gives_of_frame (exec_trlCommit ..) rfl takes (if_pos ⟨master, shared⟩)

/-! ### Pieces and reads (R493, R495) -/

section Piece
variable {n source : Nat} {rec : WireRec} (shared : d.cascadeShared = true)
include shared

theorem trlPiece_write
    (takes : s.dev.takesTrl f { kind := "PIECE", args := [n, source], recs := [rec], bytes := recordBytes rec ++ atomBytes none } d = true) :
    let v := d.recordOf { src := .remote f.src source, tok := .none, path := .device, acc := .write, cask := rec.cask, off := rec.off,
                          op := if rec.zero then .zero rec.len else .data rec.bytes, more := .data [], policy := rec.policy, heldAt := d.now }
    Gives (.trlPiece f n source rec none) s (d.takePart n v).settle :=
  gives_of_frame (exec_trlPiece ..) rfl takes (if_neg (by rw [shared]; decide))

theorem trlPiece_atomic {a : TrlAtomic}
    (takes : s.dev.takesTrl f { kind := "PIECE", args := [n, source], recs := [rec], bytes := recordBytes rec ++ atomBytes (some a) } d = true) :
    let v := d.recordOf { src := .remote f.src source, tok := .none, path := .device, acc := .write, cask := rec.cask, off := rec.off,
                          op := if a.cas then .cas a.width a.arg a.swap else .fadd a.arg, more := .data [], policy := rec.policy, heldAt := d.now }
    Gives (.trlPiece f n source rec (some a)) s
      ((d.takePart n v).trlSend f.src "READ_DATA" (readDataArgs 0 stOk a.tag) [] (leBytes 16 v.result)).settle :=
  gives_of_frame (exec_trlPiece ..) rfl takes (if_neg (by rw [shared]; decide))

end Piece

theorem trlRead_asks {snap tag cask off len source : Nat} (takes : s.dev.takesTrl f (readBody snap tag (.ask cask off len source)) d = true)
    (shared : d.cascadeShared = true) :
    let r : ReadReq := { src := .remote f.src source, tok := .trl f.src tag, cask := cask, off := off, len := len, snap := snap,
                         use := .trlResp f.src tag, data := d.readBytes (.remote f.src source) snap cask off len,
                         redo := (List.range len).filter (fun i => d.pageRefetch cask ((off + i) / 65536) ((off + i) % 65536 / 4096)) }
    Gives (.trlRead f snap tag (.ask cask off len source)) s (d.tryRead r).settle :=
  gives_of_frame (exec_trlRead ..) rfl takes (if_pos shared)

section ReadData
variable {snap tag pos st : Nat} {bytes : List Byte} (takes : s.dev.takesTrl f (readBody snap tag (.data pos st bytes)) d = true)
  (noAtom : d.trl.atoms.find? tag = none)
include takes noAtom

theorem trlRead_data_unasked (unasked : d.trl.reads.find? tag = none) : Gives (.trlRead f snap tag (.data pos st bytes)) s d :=
  gives_of_frame (exec_trlRead ..) rfl takes (by simp only [noAtom, unasked])

section Asked
variable {r : ReadReq} (asked : d.trl.reads.find? tag = some r)
include asked

theorem trlRead_data_part (ok : st = stOk) (part : (spliceBytes r.data pos bytes).length < r.len) :
    Gives (.trlRead f snap tag (.data pos st bytes)) s
      (d.setTrl { d.trl with reads := d.trl.reads.put tag { r with data := spliceBytes r.data pos bytes } }) :=
  gives_of_frame (exec_trlRead ..) rfl takes (by simp only [noAtom, asked, ok, part, ne_eq, not_true_eq_false, if_false, if_true])

theorem trlRead_data_whole (ok : st = stOk) (whole : r.len ≤ (spliceBytes r.data pos bytes).length) :
    Gives (.trlRead f snap tag (.data pos st bytes)) s
      ((d.setTrl { d.trl with reads := d.trl.reads.del tag }).deliverBytes r (spliceBytes r.data pos bytes) false).settle :=
  gives_of_frame (exec_trlRead ..) rfl takes (by simp only [noAtom, asked, ok, whole.not_gt, ne_eq, not_true_eq_false, if_false])

theorem trlRead_data_fails (fails : st ≠ stOk) :
    Gives (.trlRead f snap tag (.data pos st bytes)) s ((d.setTrl { d.trl with reads := d.trl.reads.del tag }).deliverBytes r [] true).settle :=
  gives_of_frame (exec_trlRead ..) rfl takes (by simp only [noAtom, asked, fails, ne_eq, not_false_eq_true, if_true])

end Asked
end ReadData

/-! ### The role, the budget, metadata and control (R493, R496–R498, R500) -/

section Lease
variable {start epoch role : Nat} (takes : s.dev.takesTrl f { kind := "LEASE", args := [start, epoch * 2 ^ 32 + role] } d = true)
include takes

theorem trlLease_ignored (stale : f.src ≠ 0 ∨ epoch < d.mir.epoch) : Gives (.trlLease f start epoch role) s d :=
  gives_of_frame (exec_trlLease ..) rfl takes (if_pos stale)

theorem trlLease_taken (master : f.src = 0) (current : d.mir.epoch ≤ epoch) :
    Gives (.trlLease f start epoch role) s
      (((d.setMir { d.mir with epoch := epoch, chainOpen := d.mir.chainOpen || decide (d.mir.epoch < epoch) }).takeRole (roleOf role) start).settle) :=
  gives_of_frame (exec_trlLease ..) rfl takes (if_neg (by omega))

end Lease

theorem trlStatus_noted {dirty cMf esr dp limit high freeKib wbRate admState : Nat} {b : Budget}
    (hb : b = { dirtyPages := dp, limit := limit, high := high, freeKib := freeKib, wbRate := wbRate, admState := admState })
    (takes : s.dev.takesTrl f { kind := "STATUS", args := statusArgs dirty cMf esr, bytes := budgetBytes b } d = true)
    (ownBank : f.src ≠ 0 ∨ d.flag Fld.TRL_CFG_SHARED_BANK = false ∨ cMf = 0) :
    Gives (.trlStatus f dirty cMf esr dp limit high freeKib wbRate admState) s
      ((d.updDev f.src (fun x => { x with dirty := dirty, cMf := cMf, esr := esr, budget := some b, statusAt := d.now })).reevalAdmit).settle := by
  subst hb
  refine gives_of_frame (exec_trlStatus ..) rfl takes (congrArg (fun e : Device => e.reevalAdmit.settle) (if_neg ?_))
  rintro ⟨master, bank, measured⟩
  rcases ownBank with h | h | h
  · exact h master
  · exact Bool.false_ne_true (h.symm.trans bank)
  · exact measured h

namespace Device

/-- The home that META gives a cask that it creates is kept where the casks are homed (R492). -/
def homeFor (d : Device) (op : MetaOp) (home : Nat) : Device :=
  match op with
  | .caskCreate id _ => if d.trl.mode = 2 then d.putHome id home else d
  | _ => d

end Device

section Meta
variable {n home : Nat} {op : MetaOp}
  (takes : s.dev.takesTrl f { kind := "META", args := [n, home], recs := [metaRec op false], bytes := recordBytes (metaRec op false) } d = true)
include takes

theorem trlMeta_taken (master : f.src = 0) (shared : d.cascadeShared = true) :
    Gives (.trlMeta f n op home) s
      ((d.homeFor op home).takePart n
        { src := .device, tok := .none, wire := metaRec op false, result := 0, charge := 0, size := 64, released := false }).settle :=
  gives_of_frame (exec_trlMeta ..) rfl takes (if_neg (by simp [master, shared]))

theorem trlMeta_ignored (not : f.src ≠ 0 ∨ d.cascadeShared = false) : Gives (.trlMeta f n op home) s d :=
  gives_of_frame (exec_trlMeta ..) rfl takes (if_pos (by simpa using not))

end Meta

theorem trlCtrl_taken {action arg : Nat} {nums : List (Nat × Bool)}
    (takes : s.dev.takesTrl f { kind := "CTRL", args := [action, arg], bytes := ctlBytes nums } d = true) :
    Gives (.trlCtrl f action arg nums) s (d.takeCtrl f.src action arg nums).settle :=
  gives_of_frame (exec_trlCtrl ..) rfl takes rfl

end Frame

/-! ### Timers (R488, R490, R491, R496) -/

section Timers
variable {s : State}

theorem trlHelloTimer_sends {port : Nat} (on : s.dev.trlOn = true) (up : s.dev.trlPortUp port = true) :
    Gives (.trlHelloTimer port) s (s.dev.trlOut port "HELLO" 255 s.dev.trl.id (s.dev.trl.n - 1) s.dev.trl.bcSeq
      (helloArgs s.dev.trl.mode s.dev.trl.n s.dev.trl.stripe (s.dev.flag Fld.TRL_CFG_SHARED_BANK) (s.dev.pair Reg.MIR_PAIR_LO) s.dev.csk.capRacks) [] []) :=
  gives_of_run (exec_trlHelloTimer ..) rfl (if_pos (by rw [on, up]; rfl))

namespace Device

/-- An ACK to every other device from which a HELLO has come. -/
def ackOthers (d : Device) : Device :=
  d.others.foldl (fun (d : Device) i => if (d.trlDev i).seen then d.trlSend i "ACK" [(d.trlDev i).rxSeq, 0] else d) d

theorem ackOthers_alone {d : Device} (alone : d.others = []) : d.ackOthers = d := by rw [ackOthers, alone]; rfl

end Device

section AckTimer
variable (on : s.dev.trlOn = true) {d : Device} (acked : s.dev.ackOthers = d)
include on acked

theorem trlAckTimer_formed (formed : d.trl.formed = true) :
    Gives .trlAckTimer s (d.trlSend 255 "STATUS" (statusArgs d.dirtyPages (d.fld Fld.SUP_HU_MEAS_C_C_MF) (d.fld Fld.SUP_HU_MEAS_ESR_ESR_UOHM)) []
      (budgetBytes d.budgetBlock)) := by
  subst acked
  exact gives_of_run (exec_trlAckTimer s) rfl ((if_neg (by rw [on]; decide)).trans (if_pos formed))

theorem trlAckTimer_unformed (unformed : d.trl.formed = false) : Gives .trlAckTimer s d := by
  subst acked
  exact gives_of_run (exec_trlAckTimer s) rfl ((if_neg (by rw [on]; decide)).trans (if_neg (fun formed => Bool.false_ne_true (unformed.symm.trans formed))))

end AckTimer

theorem trlAckTimer_off (off : s.dev.trlOn = false) : Gives .trlAckTimer s s.dev :=
  gives_of_run (exec_trlAckTimer s) rfl (if_pos (by rw [off]; rfl))

theorem trlTimeTimer_master (on : s.dev.trlOn = true) (master : s.dev.cascadeMaster = true) :
    Gives .trlTimeTimer s (s.dev.trlSend 255 "TIME" [s.dev.cascadeTime, 0]) :=
  gives_of_run (exec_trlTimeTimer s) rfl (if_pos (by rw [on, master]; rfl))

theorem trlTimeTimer_idle (idle : (s.dev.trlOn && s.dev.cascadeMaster) = false) : Gives .trlTimeTimer s s.dev :=
  gives_of_run (exec_trlTimeTimer s) rfl (if_neg (by rw [idle]; decide))

theorem trlFormTimeout_late (on : s.dev.trlOn = true) (unformed : s.dev.trl.formed = false) (first : s.dev.trl.late = false) :
    let d := s.dev.waitUntil (s.dev.trl.startAt + 1000000 * s.dev.fld Fld.TRL_TIMERS_FORM_S)
    Gives .trlFormTimeout s ((d.setTrl { d.trl with late := true }).eventR 5 trlBlk 488) :=
  gives_of_run (exec_trlFormTimeout s) rfl (if_pos (by rw [on, unformed, first]; rfl))

theorem trlFormTimeout_idle (idle : (s.dev.trlOn && !s.dev.trl.formed && !s.dev.trl.late) = false) : Gives .trlFormTimeout s s.dev :=
  gives_of_run (exec_trlFormTimeout s) rfl (if_neg (by rw [idle]; decide))

end Timers

/-! ### Ports and devices (R491, R498) -/

section Ports
variable {s : State} {port : Nat}

section Down
variable {p : TrlPort} (found : s.dev.trl.ports.find? port = some p)
include found

theorem trlPortDown_fails (on : s.dev.trlOn = true) (up : p.up = true) :
    Gives (.trlPortDown port) s ((s.dev.waitUntil (p.lastAt + 200)).trlFail port) :=
  gives_of_run (exec_trlPortDown ..) rfl (by simp only [found, on, up, Bool.and_self, if_true])

theorem trlPortDown_already (down : p.up = false) : Gives (.trlPortDown port) s s.dev :=
  gives_of_run (exec_trlPortDown ..) rfl (by simp only [found, down, Bool.and_false, Bool.false_eq_true, if_false])

theorem trlPortUp_held (held : p.held = true) {peer : Nat} : Gives (.trlPortUp port peer) s s.dev :=
  gives_of_run (exec_trlPortUp ..) rfl (if_pos (by simp only [found, held, Bool.true_or, Bool.or_true]))

end Down

theorem trlPortUp_trained {peer : Nat} (on : s.dev.trlOn = true) (inRange : port < 4) (fresh : s.dev.trl.ports.find? port = none)
    (pll : s.dev.sup.plls.contains 3 = true) :
    let cut := s.dev.others.filter (fun i => (s.dev.trlPort i).isNone)
    Gives (.trlPortUp port peer) s
      ((s.dev.setTrl { s.dev.trl with ports := s.dev.trl.ports.put port { up := true, peer := peer % 8, lastAt := s.dev.now, held := false } }).trlResend
        (fun i => cut.contains i)) := by
  refine gives_of_run (exec_trlPortUp ..) rfl ((if_neg ?_).trans ?_)
  · rw [on, pll, fresh]; simpa using inRange
  · rw [fresh]; rfl

section Lost
variable {dev : Nat} (on : s.dev.trlOn = true) (formed : s.dev.trl.formed = true) (other : s.dev.others.contains dev = true)
  (heard : (s.dev.trlDev dev).lost = false) {e : Device}
  (noted : ((s.dev.waitUntil ((s.dev.trlDev dev).lastAt + s.dev.fld Fld.TRL_TIMERS_LOST_US)).updDev dev (fun x => { x with lost := true })).raise
    Reg.TRL_INT_STATUS 2 5 = e)
include on formed other heard noted

/-- The loss is noted; at the master the cascade is fenced. -/
theorem trlDeviceLost_gives : Gives (.trlDeviceLost dev) s (if e.cascadeMaster then e.enterFenced 5 else e).reevalAdmit.settle := by
  subst noted
  exact gives_of_run (exec_trlDeviceLost ..) rfl (if_pos (by rw [on, formed, other, heard]; rfl))

theorem trlDeviceLost_master (master : e.cascadeMaster = true) : Gives (.trlDeviceLost dev) s (e.enterFenced 5).reevalAdmit.settle := by
  simpa only [master, if_true] using trlDeviceLost_gives on formed other heard noted

theorem trlDeviceLost_other (notMaster : e.cascadeMaster = false) : Gives (.trlDeviceLost dev) s e.reevalAdmit.settle := by
  simpa only [notMaster, Bool.false_eq_true, if_false] using trlDeviceLost_gives on formed other heard noted

end Lost
end Ports

/-- A frame that does not reach the device changes nothing. -/
theorem trlFrames_unreached (f : TrlIn) (n m : Nat) (s : State) (lost : s.dev.trlReaches f = false) :
    Gives (.trlAck f n) s s.dev ∧ Gives (.trlVclk f n) s s.dev ∧ Gives (.trlMark f n) s s.dev ∧ Gives (.trlCommit f n m) s s.dev ∧
    Gives (.trlCtrl f n m []) s s.dev :=
  ⟨gives_of_unreached (exec_trlAck ..) rfl lost, gives_of_unreached (exec_trlVclk ..) rfl lost, gives_of_unreached (exec_trlMark ..) rfl lost,
    gives_of_unreached (exec_trlCommit ..) rfl lost, gives_of_unreached (exec_trlCtrl ..) rfl lost⟩

/-- Settles O60: each frame, timer, port and device by its own lemma. -/
theorem trellisCommands : Obligations.TrellisCommands := by
  refine ⟨⟨fun f d s => ⟨?hello, ?mismatch, ?ack, ?time, ?vclk, ?mark, ?sealed, ?commit, ?piece, ?atomic, ?ask, ?data, ?lease, ?status, ?metaTaken,
      ?metaIgnored, ?ctrl⟩, trlFrames_unreached⟩,
    fun port s => trlHelloTimer_sends, ?ackAlone, ?ackTimer, fun s on => ⟨?time1, ?time2, ?form1, ?form2, ?portDown, ?deviceLost, ?portUp, ?portHeld⟩,
    fun s off => ⟨trlAckTimer_off off, trlTimeTimer_idle (by rw [off]; rfl), trlFormTimeout_idle (by rw [off]; rfl)⟩⟩
  case hello => exact fun mode n stripe pair cap shared => trlHello_agrees
  case mismatch => exact fun mode n stripe pair cap shared => trlHello_disagrees
  case ack => exact fun upTo => trlAck_releases
  case time => exact fun t err takes => ⟨trlTime_other takes, trlTime_near takes, trlTime_far takes⟩
  case vclk => exact fun n => trlVclk_closes
  case mark => exact fun n takes => ⟨trlMark_seals takes rfl, trlMark_notes takes rfl⟩
  case sealed => exact fun n acked dist takes => ⟨trlSealed_commits takes rfl, trlSealed_notes takes rfl⟩
  case commit => exact fun n m => trlCommit_commits
  case piece => exact fun n source rec takes shared => trlPiece_write shared takes
  case atomic => exact fun n source rec a takes shared => trlPiece_atomic shared takes
  case ask => exact fun snap tag cask off len source => trlRead_asks
  case data =>
    exact fun snap tag pos st bytes takes noAtom => ⟨trlRead_data_unasked takes noAtom, fun r asked =>
      ⟨trlRead_data_part takes noAtom asked, trlRead_data_whole takes noAtom asked, trlRead_data_fails takes noAtom asked⟩⟩
  case lease => exact fun start epoch role takes => ⟨trlLease_ignored takes, trlLease_taken takes⟩
  case status => exact fun dirty cMf esr dp limit high freeKib wbRate admState => trlStatus_noted rfl
  case metaTaken => exact fun n op home takes => trlMeta_taken takes
  case metaIgnored => exact fun n op home takes => trlMeta_ignored takes
  case ctrl => exact fun action arg nums => trlCtrl_taken
  case ackAlone =>
    intro s on unformed alone
    exact trlAckTimer_unformed on (ackOthers_alone alone) unformed
  case ackTimer => exact fun s on => trlAckTimer_formed on rfl
  case time1 => exact trlTimeTimer_master on
  case time2 => exact fun notMaster => trlTimeTimer_idle (by rw [notMaster, Bool.and_false])
  case form1 => exact trlFormTimeout_late on
  case form2 => exact fun formed => trlFormTimeout_idle (by rw [formed, Bool.not_true, Bool.and_false, Bool.false_and])
  case portDown => exact fun port p found => ⟨trlPortDown_fails found on, trlPortDown_already found⟩
  case deviceLost => exact fun dev formed other heard => ⟨trlDeviceLost_master on formed other heard rfl, trlDeviceLost_other on formed other heard rfl⟩
  case portUp => exact fun port peer => trlPortUp_trained on
  case portHeld => exact fun port peer p found => fun held => trlPortUp_held found held

end Sys2Proof.Machine
end

section
/-! PROOF. Reads of maps and memory behind the cellar's commands (O52): maps joined, bytes copied from one range to another, a rack entry put. -/

namespace Sys2Proof.Machine

namespace AMap
variable {α : Type}

theorem find?_append (m k : AMap α) (x : Nat) : find? (m ++ k) x = (m.find? x).or (k.find? x) := by
  induction m with
  | nil => rfl
  | cons p m ih =>
    simp only [List.cons_append, find?]
    split
    · rfl
    · exact ih

theorem find?_filter_none {m : AMap α} {x : Nat} {f : Nat × α → Bool} (out : ∀ v, f (x, v) = false) : find? (m.filter f) x = none := by
  induction m with
  | nil => rfl
  | cons p m ih =>
    rw [List.filter_cons]
    split
    next kept =>
      have other : x ≠ p.1 := by rintro rfl; simp [out] at kept
      rw [find?, if_neg other, ih]
    next => exact ih

end AMap

/-- A cell of the range is found again where the range has moved to. -/
theorem find?_shiftCells {m : List Host.Cell} {src dst n i : Nat} (within : i < n) :
    AMap.find? (shiftCells m src dst n) (dst + i) = AMap.find? m (src + i) := by
  unfold shiftCells
  induction m with
  | nil => rfl
  | cons p m ih =>
    rw [List.filter_cons]
    split
    next kept =>
      simp only [decide_eq_true_eq] at kept
      simp only [List.map_cons, AMap.find?, ih]
      exact if_congr (by omega) rfl rfl
    next dropped =>
      simp only [decide_eq_true_eq] at dropped
      rw [ih, AMap.find?, if_neg (by omega)]

namespace Device

/-- A byte of the range copied to reads as the byte that it was copied from. -/
theorem memByte_copyBytes (d : Device) {src dst n i : Nat} (within : i < n) : (d.copyBytes src dst n).memByte (dst + i) = d.memByte (src + i) := by
  have cell : AMap.find? (spliceCells d.mem dst n (shiftCells d.mem src dst n)) (dst + i) = AMap.find? d.mem (src + i) := by
    unfold spliceCells
    rw [AMap.find?_append, AMap.find?_append, AMap.find?_filter_none (f := fun p => decide (p.1 < dst)) (fun v => by simp), find?_shiftCells within,
      AMap.find?_filter_none (f := fun p => decide (dst + n ≤ p.1)) (fun v => by simpa using within), Option.none_or, Option.or_none]
  exact congrArg (·.getD 0) cell

theorem cellKey_add (c i : Nat) : cellKey c 0 + i = cellKey c i := by unfold cellKey; omega

/-! ### A rack entry put (R77, R78) -/

section DirtyMeta
variable (d : Device) (p : MetaPage)

theorem writeDup_csk (x : DupPage) : (d.writeDup x).csk = d.csk := by unfold writeDup; split <;> rfl
theorem writeDup_mem (x : DupPage) : (d.writeDup x).mem = d.mem := by unfold writeDup; split <;> rfl
theorem writeDup_now (x : DupPage) : (d.writeDup x).now = d.now := by unfold writeDup; split <;> rfl

theorem dirtyMeta_csk : (d.dirtyMeta p).csk = d.csk := by
  unfold dirtyMeta; dsimp only; rw [ite_csk, ite_csk]; simp only [writeDup_csk, ite_self]
theorem dirtyMeta_mem : (d.dirtyMeta p).mem = d.mem := by
  unfold dirtyMeta; dsimp only; rw [ite_mem, ite_mem]; simp only [writeDup_mem, ite_self]
theorem dirtyMeta_now : (d.dirtyMeta p).now = d.now := by
  unfold dirtyMeta; dsimp only; rw [ite_now, ite_now]; simp only [writeDup_now, ite_self]

end DirtyMeta

section PutRack
variable (d : Device) (cask idx : Nat) (r : Rack)

theorem putRack_csk : (d.putRack cask idx r).csk = (d.setRack cask idx r).csk := by
  unfold putRack; dsimp only; rw [ite_csk, dirtyMeta_csk, ite_self]
theorem putRack_mem : (d.putRack cask idx r).mem = d.mem := by
  unfold putRack; dsimp only; rw [ite_mem, dirtyMeta_mem, ite_self]; rfl
theorem putRack_now : (d.putRack cask idx r).now = d.now := by
  unfold putRack; dsimp only; rw [ite_now, dirtyMeta_now, ite_self]; rfl

theorem rack_congr {d e : Device} (csk : e.csk = d.csk) (cask idx : Nat) : e.rack cask idx = d.rack cask idx := by unfold rack; rw [csk]

theorem rack_putRack {d : Device} (sorted : AMap.sorted d.csk.racks = true) : (d.putRack cask idx r).rack cask idx = r := by
  unfold rack
  rw [putRack_csk]
  exact (AMap.getD_setD (dflt := fun _ => Rack.blank) (rackKey cask idx) r (rackKey cask idx) sorted).trans (if_pos rfl)

end PutRack

/-! ### What the programs of a rack copy leave unchanged -/

/-- The programs of a rack copy change page headers and outputs alone. -/
theorem putCopy_keeps {β : Type} (q : Device → β) (page : ∀ d c h img, q (putPage d c h img) = q d) (d : Device) (cask idx c : Nat) :
    q (d.putCopy cask idx c) = q d := by
  refine foldl_keeps q _ (fun d p => ?_) _ d
  split
  · rfl
  · exact page ..

theorem putCopy_csk (d : Device) (cask idx c : Nat) : (d.putCopy cask idx c).csk = d.csk := putCopy_keeps csk (fun _ _ _ _ => rfl) ..
theorem putCopy_mem (d : Device) (cask idx c : Nat) : (d.putCopy cask idx c).mem = d.mem := putCopy_keeps mem (fun _ _ _ _ => rfl) ..
theorem putCopy_now (d : Device) (cask idx c : Nat) : (d.putCopy cask idx c).now = d.now := putCopy_keeps now (fun _ _ _ _ => rfl) ..

end Device
end Sys2Proof.Machine
end

section
/-! PROOF. The cellar's commands (O52): programs, erases, pads, the ladder of a read, moves, scans, checkpoints and hung LUNs. -/

namespace Sys2Proof.Machine

open Device

section Execs
variable (ch lun : Nat) (s : State)

theorem exec_cellarProgramDone (block page sb : Nat) (slc ok : Bool) :
    exec (.cellarProgramDone ch lun block page sb slc ok) s = execCellarProgramDone ch lun block page sb slc ok s := by rfl
theorem exec_blockEraseDone (block vault : Nat) (ok : Bool) :
    exec (.blockEraseDone ch lun block vault ok) s = execBlockEraseDone ch lun block vault ok s := by rfl
theorem exec_rowPadTimeout (sb : Nat) : exec (.rowPadTimeout sb) s = execRowPadTimeout sb s := by rfl
theorem exec_cellarReadDone (bin bits : Nat) (hard offset : Bool) (retry : Nat) (soft rebuild isRack : Bool) (cask rack page : Nat) :
    exec (.cellarReadDone ch lun bin bits hard offset retry soft rebuild isRack cask rack page) s =
      execCellarReadDone ch lun bin bits hard offset retry soft rebuild isRack cask rack page s := by rfl
theorem exec_opAgeRaise (level : Nat) : exec (.opAgeRaise ch lun level) s = execOpAgeRaise ch lun level s := by rfl
theorem exec_garbageCollect (cask rack read new : Nat) : exec (.garbageCollect cask rack read new) s = execGarbageCollect cask rack read new s := by rfl
theorem exec_cellarScan (pages : Nat) : exec (.cellarScan ch lun pages) s = execCellarScan ch lun pages s := by rfl
theorem exec_eraseCountCheckpoint : exec .eraseCountCheckpoint s = execEraseCountCheckpoint s := by rfl
theorem exec_waitrdyTimeout (lunReady volReady allDead : Bool) :
    exec (.waitrdyTimeout ch lun lunReady volReady allDead) s = execWaitrdyTimeout ch lun lunReady volReady allDead s := by rfl

end Execs

/-! ### Programs and erases (R341, R346–R349, R354) -/

section Block
variable {ch lun block : Nat} {s : State}

theorem cellarProgramDone_notFirst {page sb : Nat} {slc ok : Bool} (notFirst : s.dev.freeFirst ch lun block = false) :
    Gives (.cellarProgramDone ch lun block page sb slc ok) s s.dev :=
  gives_of_run (exec_cellarProgramDone ..) rfl (if_pos (.inr (by rw [notFirst]; rfl)))

theorem blockEraseDone_kept {vault : Nat} {ok : Bool} (kept : s.dev.erasable ch lun block = false) :
    Gives (.blockEraseDone ch lun block vault ok) s s.dev :=
  gives_of_run (exec_blockEraseDone ..) rfl (if_pos (.inr (by rw [kept]; rfl)))

section Live
variable (live : s.dev.lunState ch lun = 1)
include live

section Program
variable {page sb : Nat} {slc ok : Bool}

section First
variable (first : s.dev.freeFirst ch lun block = true)
include first

theorem cellarProgramDone_first {e : Device}
    (does : (if !s.dev.programOk ch lun block page slc then ((s.dev.refuseProgram ch lun block page).failRow sb page).reevalAdmit
      else if ok then ((s.dev.programmed ch lun block sb slc).notePage ch lun block page sb).endOp ch lun
      else (((s.dev.failRow sb page).retireBlk ch lun block).endOp ch lun).reevalAdmit) = e) :
    Gives (.cellarProgramDone ch lun block page sb slc ok) s e :=
  gives_of_run (exec_cellarProgramDone ..) rfl ((if_neg (by simp [live, first])).trans does)

theorem cellarProgramDone_refused (elsewhere : s.dev.programOk ch lun block page slc = false) :
    Gives (.cellarProgramDone ch lun block page sb slc ok) s ((s.dev.refuseProgram ch lun block page).failRow sb page).reevalAdmit :=
  cellarProgramDone_first live first (if_pos (by rw [elsewhere]; rfl))

section Allowed
variable (allowed : s.dev.programOk ch lun block page slc = true)
include allowed

theorem cellarProgramDone_done : Gives (.cellarProgramDone ch lun block page sb slc true) s
    (((s.dev.programmed ch lun block sb slc).notePage ch lun block page sb).endOp ch lun) :=
  cellarProgramDone_first live first ((if_neg (by rw [allowed]; decide)).trans (if_pos rfl))

theorem cellarProgramDone_failed : Gives (.cellarProgramDone ch lun block page sb slc false) s
    (((s.dev.failRow sb page).retireBlk ch lun block).endOp ch lun).reevalAdmit :=
  cellarProgramDone_first live first ((if_neg (by rw [allowed]; decide)).trans (if_neg Bool.false_ne_true))

end Allowed
end First
end Program

section Erase
variable {vault : Nat}

section Erasable
variable (erasable : s.dev.erasable ch lun block = true)
include erasable

theorem blockEraseDone_failed : Gives (.blockEraseDone ch lun block vault false) s ((s.dev.retireBlk ch lun block).endOp ch lun) :=
  gives_of_run (exec_blockEraseDone ..) rfl (if_neg (by simp [live, erasable]))

theorem blockEraseDone_done {g : Option Nat} (gen : (if vault = 1 ∨ vault = 2 then some (vault - 1) else none) = g) :
    Gives (.blockEraseDone ch lun block vault true) s ((s.dev.erased ch lun block g).endOp ch lun) := by
  subst gen
  exact gives_of_run (exec_blockEraseDone ..) rfl (if_neg (by simp [live, erasable]))

end Erasable
end Erase

/-! ### An operation that has waited, scans (R351, R359) -/

section NoBottle
variable (noBottle : s.dev.hold.bottle = none)
include noBottle

theorem opAgeRaise_raises {level : Nat} (low : 4 ≤ level) (high : level ≤ 6) :
    Gives (.opAgeRaise ch lun level) s (s.dev.emit (.nand ch lun "RAISE" [level, 3])) :=
  gives_of_run (exec_opAgeRaise ..) rfl (if_pos ⟨low, high, live, by rw [noBottle]; rfl⟩)

theorem cellarScan_counts {pages : Nat} (core : s.dev.coreUp (if ch < 32 then 3 else 4) = true) :
    Gives (.cellarScan ch lun pages) s
      ((s.dev.setCel { s.dev.cel with scanned := s.dev.cel.scanned + pages }).bumpPair Reg.CEL_READ_CNT_LO pages) :=
  gives_of_run (exec_cellarScan ..) rfl (if_neg (by rw [core]; simp [live, noBottle]))

end NoBottle

/-! ### A LUN that hangs (R360) -/

section Hung
variable {d : Device} (noted : (s.dev.bumpSat Fld.CEL_C_ERR_HANGS 1 ch).raise Reg.CEL_INT_STATUS 0 3 = d)
include noted

theorem waitrdyTimeout_allDead {lunReady volReady : Bool} :
    Gives (.waitrdyTimeout ch lun lunReady volReady true) s
      (((d.cel.pop.filter (fun v => v.ch == ch)).map (·.vol)).foldl (fun (d : Device) v => d.isolateVol ch v) d) := by
  subst noted
  exact gives_of_run (exec_waitrdyTimeout ..) rfl (if_neg (not_not_intro live))

section First
variable {e : Device} (first : s.dev.cel.hungAt.find? (lunKey ch lun) = none)
  (reset : ((d.setCel { d.cel with hungAt := d.cel.hungAt.put (lunKey ch lun) d.now }).bumpSat Fld.CEL_L_STATUS_RESETS 1 (lunKey ch lun)).emit
    (.nand ch lun "RESET_LUN" []) = e)
include first reset

/-- The first hang of a LUN: its reset, then its volume's where it stays busy. -/
theorem waitrdyTimeout_first {lunReady volReady : Bool} {h : Device}
    (ends : (if lunReady then e.emit (.nand ch lun "REISSUE" [])
      else
        let g := (e.emit (.nand ch lun "RESET_VOLUME" [lun / 8])).bumpSat Fld.CEL_L_STATUS_RESETS 1 (lunKey ch lun)
        if volReady then g.emit (.nand ch lun "REISSUE" []) else g.isolateVol ch (lun / 8)) = h) :
    Gives (.waitrdyTimeout ch lun lunReady volReady false) s h := by
  have notAgain : d.cel.hungAt.find? (lunKey ch lun) = none := by rw [← noted, raise_cel, bumpSat_cel, first]
  subst noted reset ends
  refine gives_of_run (exec_waitrdyTimeout ..) rfl ((if_neg (not_not_intro live)).trans ((if_neg Bool.false_ne_true).trans ?_))
  simp only [notAgain, Bool.not_false, Bool.and_true]

end First
end Hung
end Live
end Block

/-! ### The pads of an open row (R341) -/

namespace Device

/-- The open and full blocks of a superblock. -/
def rowBlks (d : Device) (sb : Nat) : List (Nat × Blk) :=
  d.cel.blocks.filter (fun p => p.2.sb == sb && (p.2.state == .opened || p.2.state == .full))

/-- The highest write position of a superblock's blocks. -/
def rowTop (d : Device) (sb : Nat) : Nat := (d.rowBlks sb).foldl (fun a p => max a p.2.wp) 0

/-- The blocks of a superblock that stand below its highest write position. -/
def rowLow (d : Device) (sb : Nat) : List (Nat × Blk) := (d.rowBlks sb).filter (fun p => decide (p.2.wp < d.rowTop sb))

/-- Whether a page, by its block's key and its number, is the parity page of its row. -/
def isParity (w : Nat × Nat) : Bool := w.1 / 134217728 % 16 == w.2 % 16

/-- The free pages of a row, each with its block's key: data pages first. -/
def rowLeft (top : Nat) (low : List (Nat × Blk)) : List (Nat × Nat) :=
  let left := (low.map (fun p => (List.range (top - p.2.wp)).map (fun i => (p.1, p.2.wp + i)))).flatten
  left.filter (fun w => !isParity w) ++ left.filter isParity

/-- A free page is programmed as a pad or as parity. -/
def padOne (sb : Nat) (d : Device) (w : Nat × Nat) : Device :=
  let ch := w.1 / 134217728
  let lun := w.1 / 1048576 % 128
  (if isParity w then d.putParity ch lun (w.1 % 1048576) w.2 sb
   else d.putPad (ch * 2 ^ 32 + lun * 2 ^ 25 + w.1 % 1048576 * 2 ^ d.ppbLog2 + w.2) sb).bumpPair Reg.CEL_PROG_CNT_LO

/-- A block's write position moves up to the row's. -/
def closeBlk (top : Nat) (d : Device) (p : Nat × Blk) : Device :=
  d.setCel { d.cel with blocks := d.cel.blocks.put p.1 { p.2 with wp := top, state := if top = d.blkPages p.2.slc then .full else .opened } }

theorem rowLeft_length (top : Nat) (low : List (Nat × Blk)) : (rowLeft top low).length = (low.map (fun p => top - p.2.wp)).sum := by
  unfold rowLeft
  rw [List.length_append, Nat.add_comm, ← List.length_eq_length_filter_add, List.length_flatten, List.map_map]
  simp only [Function.comp_def, List.length_map, List.length_range]

/-- `e` is `d` after programs of `n` pages that fill a row. -/
structure Padded (n : Nat) (d e : Device) : Prop where
  now : e.now = d.now
  mem : e.mem = d.mem
  csk : e.csk = d.csk
  supers : e.cel.supers = d.cel.supers
  out : e.out.length = d.out.length + n

theorem Padded.refl (d : Device) : Padded 0 d d := ⟨rfl, rfl, rfl, rfl, rfl⟩

theorem Padded.trans {n m : Nat} {a b c : Device} (h : Padded n a b) (k : Padded m b c) : Padded (n + m) a c :=
  ⟨k.now.trans h.now, k.mem.trans h.mem, k.csk.trans h.csk, k.supers.trans h.supers, by rw [k.out, h.out, Nat.add_assoc]⟩

theorem padded_putPage (d : Device) (c : Nat) (h : PageHead) (img : List Byte) : Padded 1 d (d.putPage c h img) := ⟨rfl, rfl, rfl, rfl, rfl⟩

theorem padded_bumpPair (d : Device) (lo : Nat) : Padded 0 d (d.bumpPair lo) := by
  constructor <;> simp only [bumpPair_now, bumpPair_mem, bumpPair_csk, bumpPair_cel, bumpPair_out, Nat.add_zero]

theorem padded_padOne (sb : Nat) (d : Device) (w : Nat × Nat) : Padded 1 d (d.padOne sb w) := by
  unfold padOne
  dsimp only
  split
  · exact (padded_putPage ..).trans (padded_bumpPair ..)
  · exact (padded_putPage ..).trans (padded_bumpPair ..)

theorem padded_closeBlk (top : Nat) (d : Device) (p : Nat × Blk) : Padded 0 d (d.closeBlk top p) := ⟨rfl, rfl, rfl, rfl, rfl⟩

theorem padded_foldl {α : Type} {f : Device → α → Device} {n : Nat} (one : ∀ d a, Padded n d (f d a)) (l : List α) (d : Device) :
    Padded (l.length * n) d (l.foldl f d) := by
  induction l generalizing d with
  | nil => simpa using Padded.refl d
  | cons a l ih =>
    rw [List.length_cons, Nat.succ_mul, Nat.add_comm]
    exact (one d a).trans (ih (f d a))

/-- The block with key `k` stands at write position `top`. -/
def standsAt (top k : Nat) (d : Device) : Prop := (d.cel.blocks.find? k).map (·.wp) = some top

theorem standsAt_closeBlk_same (top : Nat) (d : Device) (p : Nat × Blk) : standsAt top p.1 (d.closeBlk top p) :=
  congrArg (Option.map Blk.wp) (AMap.find?_put_same d.cel.blocks p.1 _)

theorem standsAt_closeBlk {top k : Nat} {d : Device} (h : standsAt top k d) (p : Nat × Blk) : standsAt top k (d.closeBlk top p) := by
  by_cases same : k = p.1
  · exact same ▸ standsAt_closeBlk_same top d p
  · exact (congrArg (Option.map Blk.wp) (AMap.find?_put_ne d.cel.blocks _ same)).trans h

theorem standsAt_foldl {top k : Nat} {d : Device} (h : standsAt top k d) (l : List (Nat × Blk)) : standsAt top k (l.foldl (closeBlk top) d) := by
  induction l generalizing d with
  | nil => exact h
  | cons p l ih => exact ih (standsAt_closeBlk h p)

theorem standsAt_closed {top : Nat} {p : Nat × Blk} {l : List (Nat × Blk)} (mem : p ∈ l) (d : Device) :
    standsAt top p.1 (l.foldl (closeBlk top) d) := by
  induction l generalizing d with
  | nil => cases mem
  | cons q l ih =>
    rcases List.mem_cons.1 mem with rfl | later
    · exact standsAt_foldl (standsAt_closeBlk_same top d p) l
    · exact ih later _

end Device

section RowPad
variable {sb : Nat} {s : State}

theorem rowPadTimeout_unknown (unknown : s.dev.cel.supers.find? sb = none) : Gives (.rowPadTimeout sb) s s.dev :=
  gives_of_run (exec_rowPadTimeout ..) rfl (by simp only [unknown])

variable {x : Super} (known : s.dev.cel.supers.find? sb = some x)
include known

theorem rowPadTimeout_even (even : s.dev.rowLow sb = []) : Gives (.rowPadTimeout sb) s s.dev :=
  gives_of_run (exec_rowPadTimeout ..) rfl (by simp only [known]; exact if_pos (List.isEmpty_iff.2 even))

theorem rowPadTimeout_gives (uneven : s.dev.rowLow sb ≠ []) :
    Gives (.rowPadTimeout sb) s ((s.dev.rowLow sb).foldl (closeBlk (s.dev.rowTop sb))
      ((rowLeft (s.dev.rowTop sb) (s.dev.rowLow sb)).foldl (padOne sb) (s.dev.waitUntil (x.rackAt + 100)))) :=
  gives_of_run (exec_rowPadTimeout ..) rfl (by simp only [known]; exact if_neg (fun none => uneven (List.isEmpty_iff.1 none)))

theorem rowPadTimeout_pads (uneven : s.dev.rowLow sb ≠ []) :
    Reaches (.rowPadTimeout sb) s (fun d => d.now = max s.dev.now (x.rackAt + 100) ∧ d.mem = s.dev.mem ∧ d.csk = s.dev.csk ∧
      d.cel.supers = s.dev.cel.supers ∧ (∀ p ∈ s.dev.rowLow sb, (d.cel.blocks.find? p.1).map (·.wp) = some (s.dev.rowTop sb)) ∧
      d.out.length = s.dev.out.length + ((s.dev.rowLow sb).map (fun p => s.dev.rowTop sb - p.2.wp)).sum) := by
  have padded := (padded_foldl (padded_padOne sb) (rowLeft (s.dev.rowTop sb) (s.dev.rowLow sb)) (s.dev.waitUntil (x.rackAt + 100))).trans
    (padded_foldl (padded_closeBlk (s.dev.rowTop sb)) (s.dev.rowLow sb) _)
  rw [Nat.mul_one, Nat.mul_zero, Nat.add_zero, rowLeft_length] at padded
  obtain ⟨now, mem, csk, supers, out⟩ := padded
  rw [waitUntil_now] at now
  rw [waitUntil_mem] at mem
  rw [waitUntil_csk] at csk
  rw [waitUntil_cel] at supers
  rw [waitUntil_out] at out
  exact ⟨_, rowPadTimeout_gives known uneven, now, mem, csk, supers, fun p low => standsAt_closed low _, out⟩

end RowPad

/-! ### The ladder of a read (R342, R353, R361, R362) -/

namespace Device

theorem fld_bumpPair_ne (d : Device) {f : Fld} {lo n : Nat} (i : Nat) (hf : f.reg < 67108864) (hlo : lo + 4 < 67108864) (ne : f.reg ≠ lo)
    (ne4 : f.reg ≠ lo + 4) : (d.bumpPair lo n).fld f i = d.fld f i := by
  unfold fld bumpPair setPair
  rw [reg_setReg_ne _ _ (rkey_ne i 0 hf hlo ne4), reg_setReg_ne _ _ (rkey_ne i 0 hf (by omega) ne)]

/-- Counting reads leaves the LUNs' states as they are. -/
theorem lunState_countRead (d : Device) (n ch lun : Nat) : (d.bumpPair Reg.CEL_READ_CNT_LO n).lunState ch lun = d.lunState ch lun := by
  have iso : (d.bumpPair Reg.CEL_READ_CNT_LO n).fld Fld.CEL_C_STATUS_ISO_VOL ch = d.fld Fld.CEL_C_STATUS_ISO_VOL ch :=
    fld_bumpPair_ne d ch (by decide) (by decide) (by decide) (by decide)
  have profile : (d.bumpPair Reg.CEL_READ_CNT_LO n).learned = d.learned := by unfold learned; rw [bumpPair_fws, bumpPair_sup]
  unfold lunState volAdded recordedVols volIsolated
  rw [iso, profile, bumpPair_cel]

/-- A rack is queued for relocation. -/
def queueMove (d : Device) (k : Nat) : Device := d.setCel { d.cel with reloc := nubNat (d.cel.reloc ++ [k]) }

/-- A read that the row's other members gave: a rebuild and its fifteen reads are counted (R353). -/
def countRebuild (d : Device) (ch : Nat) : Device :=
  ((d.bumpSat Fld.CEL_C_ERR_REBUILDS 1 ch).bumpPair Reg.CEL_REBUILD_CNT_LO).bumpPair Reg.CEL_READ_CNT_LO 15

end Device

section Read
variable {ch lun bin bits retry cask rack page : Nat} {hard offset soft rebuild isRack : Bool} {s : State}
  (used : s.dev.lunState ch lun ≠ 0) {d : Device} (counted : s.dev.bumpPair Reg.CEL_READ_CNT_LO = d)
include used counted

section Decodes
variable (live : s.dev.lunState ch lun = 1) (fits : (isRack && d.headBad cask rack page) = false)
include live fits

theorem cellarReadDone_decodes (decodes : hard = true ∨ offset = true) :
    Gives (.cellarReadDone ch lun bin bits hard offset retry soft rebuild isRack cask rack page) s
      (d.noteNand (8 * lunKey ch lun + bin % 8) bits 0) := by
  have live' : d.lunState ch lun = 1 := counted ▸ (lunState_countRead ..).trans live
  subst counted
  exact gives_of_run (exec_cellarReadDone ..) rfl ((if_neg used).trans (if_pos (by simpa [fits, live'] using decodes)))

theorem cellarReadDone_retry (entry : 1 ≤ retry) (max : retry ≤ d.fld Fld.CEL_RETRY_MAX) {e : Device}
    (retried : (d.noteNand (8 * lunKey ch lun + bin % 8) bits retry).bumpSat Fld.CEL_C_ERR_RETRIES 1 ch = e) {g : Device}
    (queued : (if e.fld Fld.CEL_RETRY_RELOC ≤ retry then (if isRack then e.queueMove (rackKey cask rack) else e) else e) = g) :
    Gives (.cellarReadDone ch lun bin bits false false retry soft rebuild isRack cask rack page) s g := by
  have live' : d.lunState ch lun = 1 := counted ▸ (lunState_countRead ..).trans live
  subst counted retried
  exact gives_of_run (exec_cellarReadDone ..) rfl ((if_neg used).trans ((if_neg (by simp)).trans ((if_pos (by simp [fits, live', entry, max])).trans queued)))

end Decodes

section Rack
variable (fits : d.headBad cask rack page = false)
include fits

theorem cellarReadDone_soft (live : s.dev.lunState ch lun = 1) (enabled : d.flag Fld.CEL_RETRY_SOFT_EN = true) :
    Gives (.cellarReadDone ch lun bin bits false false 0 true rebuild true cask rack page) s
      (((d.noteNand (8 * lunKey ch lun + bin % 8) bits 0).bumpSat Fld.CEL_C_ERR_RETRIES 1 ch).queueMove (rackKey cask rack)) := by
  have live' : d.lunState ch lun = 1 := counted ▸ (lunState_countRead ..).trans live
  subst counted
  exact gives_of_run (exec_cellarReadDone ..) rfl
    ((if_neg used).trans ((if_neg (by simp)).trans ((if_neg (by simp)).trans (if_pos (by simp [fits, live', enabled])))))

/-- The row's other members give a page that no rung before them gives, or that is not tried for its isolated volume. -/
theorem cellarReadDone_rebuilt (whole : d.rowCut ch lun = false)
    (unread : s.dev.lunState ch lun ≠ 1 ∨ hard = false ∧ offset = false ∧ retry = 0 ∧ soft = false) :
    Gives (.cellarReadDone ch lun bin bits hard offset retry soft true true cask rack page) s
      (((d.noteNand (8 * lunKey ch lun + bin % 8) bits 0).countRebuild ch).queueMove (rackKey cask rack)) := by
  have unread' : d.lunState ch lun ≠ 1 ∨ hard = false ∧ offset = false ∧ retry = 0 ∧ soft = false := by
    rwa [← counted, lunState_countRead]
  subst counted
  refine gives_of_run (exec_cellarReadDone ..) rfl
    ((if_neg used).trans ((if_neg ?_).trans ((if_neg ?_).trans ((if_neg ?_).trans (if_pos (by simp [fits, whole]))))))
  all_goals
    rcases unread' with isolated | ⟨rfl, rfl, rfl, rfl⟩
    · simp [isolated]
    · simp

end Rack

theorem cellarReadDone_lost :
    Gives (.cellarReadDone ch lun bin bits false false 0 false false false cask rack page) s (d.raise Reg.CEL_INT_STATUS 2 4) := by
  subst counted
  exact gives_of_run (exec_cellarReadDone ..) rfl ((if_neg used).trans ((if_neg (by simp)).trans ((if_neg (by simp)).trans
    ((if_neg (by simp)).trans ((if_neg (by simp)).trans (if_pos rfl))))))

/-- No rung gives a rack's page: the twin's copy, or poison (R342). -/
theorem cellarReadDone_unread
    (unread : d.headBad cask rack page = true ∨ hard = false ∧ offset = false ∧ retry = 0 ∧ soft = false ∧ rebuild = false) :
    Gives (.cellarReadDone ch lun bin bits hard offset retry soft rebuild true cask rack page) s
      (if d.mir.attached && !d.mir.absent then ((d.ensureFrame cask rack).startFetchPage cask rack page true).queueMove (rackKey cask rack)
       else ((d.poisonPage cask rack page).raise Reg.CEL_INT_STATUS 2 4).settle) := by
  subst counted
  refine gives_of_run (exec_cellarReadDone ..) rfl
    ((if_neg used).trans ((if_neg ?_).trans ((if_neg ?_).trans ((if_neg ?_).trans ((if_neg ?_).trans (if_neg (by simp)))))))
  all_goals
    rcases unread with headBad | ⟨rfl, rfl, rfl, rfl, rfl⟩
    · simp [headBad]
    · simp

end Read

/-! ### A move of a rack (R20, R359) -/

namespace Device

/-- A rack is moved from `read` to `new`: its bytes, the pages of its copy, its entry, and its turn is over. -/
def movedRack (d : Device) (cask rack read new : Nat) : Device :=
  let e := (((d.copyBytes (cellKey read 0) (cellKey new 0) 65536).mediaBytes 131072).putCopy cask rack new).putRack cask rack
    { d.rack cask rack with cptr := new }
  (e.setCel { e.cel with reloc := e.cel.reloc.filter (fun x => decide (x ≠ rackKey cask rack))
                         isoReloc := e.cel.isoReloc.filter (fun x => decide (x ≠ rackKey cask rack)) }).bumpPair Reg.CEL_MOVE_CNT_LO

section MovedRack
variable (d : Device) (cask rack read new : Nat)

theorem movedRack_csk : (d.movedRack cask rack read new).csk = (d.setRack cask rack { d.rack cask rack with cptr := new }).csk := by
  unfold movedRack setRack
  dsimp only
  rw [bumpPair_csk, setCel_csk, putRack_csk, setRack, putCopy_csk, mediaBytes, bumpPair_csk]
  rfl

theorem movedRack_mem : (d.movedRack cask rack read new).mem = (d.copyBytes (cellKey read 0) (cellKey new 0) 65536).mem := by
  unfold movedRack
  dsimp only
  rw [bumpPair_mem, setCel_mem, putRack_mem, putCopy_mem, mediaBytes, bumpPair_mem]

theorem movedRack_now : (d.movedRack cask rack read new).now = d.now := by
  unfold movedRack
  dsimp only
  rw [bumpPair_now, setCel_now, putRack_now, putCopy_now, mediaBytes, bumpPair_now]
  rfl

theorem movedRack_turns :
    rackKey cask rack ∉ (d.movedRack cask rack read new).cel.reloc ∧ rackKey cask rack ∉ (d.movedRack cask rack read new).cel.isoReloc := by
  unfold movedRack
  dsimp only
  rw [bumpPair_cel, setCel_cel]
  simp

theorem movedRack_rack {d : Device} (sorted : AMap.sorted d.csk.racks = true) :
    (d.movedRack cask rack read new).rack cask rack = { d.rack cask rack with cptr := new } := by
  exact (rack_congr ((movedRack_csk ..).trans (putRack_csk ..).symm) cask rack).trans (rack_putRack cask rack _ sorted)

theorem movedRack_memByte {i : Nat} (within : i < 65536) : (d.movedRack cask rack read new).memByte (cellKey new i) = d.memByte (cellKey read i) := by
  unfold memByte
  rw [movedRack_mem, ← cellKey_add, ← cellKey_add]
  exact memByte_copyBytes d within

end MovedRack
end Device

section Move
variable {cask rack read new : Nat} {s : State}

theorem garbageCollect_elsewhere (elsewhere : (s.dev.rack cask rack).cptr ≠ read) : Gives (.garbageCollect cask rack read new) s s.dev :=
  gives_of_run (exec_garbageCollect ..) rfl (if_pos (by simp [elsewhere]))

theorem garbageCollect_barred (barred : s.dev.siteOk new = false ∨ s.dev.moveTurn (rackKey cask rack) read = false) :
    Gives (.garbageCollect cask rack read new) s s.dev :=
  gives_of_run (exec_garbageCollect ..) rfl (if_pos (by
    rcases barred with site | turn
    · simp [site]
    · simp [turn]))

theorem garbageCollect_moves {r : Rack} (entry : s.dev.rack cask rack = r) (wb : r.wb = false) (fetch : r.fetch = false) (vault : r.vault = false)
    (valid : r.cvalid = true) (homed : r.homed = true) (there : r.cptr = read) (noBottle : s.dev.hold.bottle = none)
    (key : s.dev.mkeyMissing cask = false) (site : s.dev.siteOk new = true) (turn : s.dev.moveTurn (rackKey cask rack) read = true)
    (coreFrom : s.dev.coreUp (edgeCore read) = true) (coreTo : s.dev.coreUp (edgeCore new) = true) :
    Gives (.garbageCollect cask rack read new) s (s.dev.movedRack cask rack read new) := by
  subst entry
  refine gives_of_run (exec_garbageCollect ..) rfl ?_
  unfold movedRack
  refine (if_neg ?_).trans ?_
  · simp [wb, fetch, vault, valid, homed, there, noBottle, key, site, turn, coreFrom, coreTo]
  · dsimp only

end Move

/-- Settles O52: each command by the lemmas of its cases. -/
theorem cellarCommands : Obligations.CellarCommands := by
  refine ⟨fun ch lun block page sb slc ok s live => ⟨?notFirst, ?refused, ?allowed, ?elsewhere⟩,
    fun ch lun block vault ok s live => ⟨?keptBlock, ?erase⟩,
    fun sb x s known => ⟨rowPadTimeout_even known, rowPadTimeout_pads known⟩, fun sb s => rowPadTimeout_unknown,
    fun ch lun bin bits retry cask rack page hard offset soft rebuild isRack s used => ⟨?rungs, ?isolated, ?lost, ?unread⟩,
    fun ch lun level s low high live noBottle => opAgeRaise_raises live noBottle low high,
    fun cask rack read new s => ⟨garbageCollect_elsewhere, garbageCollect_barred, ?moves⟩,
    fun ch lun pages s live noBottle => cellarScan_counts live noBottle,
    fun s => ⟨?checkpoint, ?hubOff⟩, fun ch lun volReady s live first => ?hung⟩
  case notFirst => exact cellarProgramDone_notFirst
  case refused => exact cellarProgramDone_refused live
  case allowed => exact fun first allowed => ⟨cellarProgramDone_done live first allowed, cellarProgramDone_failed live first allowed⟩
  case elsewhere =>
    intro elsewhere
    unfold programOk
    simp [elsewhere]
  case keptBlock => exact fun kept => blockEraseDone_kept kept
  case erase =>
    exact fun erasable => ⟨blockEraseDone_failed live erasable, fun drawn => blockEraseDone_done live erasable (if_pos drawn),
      fun none => blockEraseDone_done live erasable (if_neg (by omega))⟩
  case rungs =>
    intro live heads
    have fits : (isRack && (s.dev.bumpPair Reg.CEL_READ_CNT_LO).headBad cask rack page) = false := by
      cases isRack
      · rfl
      · exact heads rfl
    refine ⟨cellarReadDone_decodes used rfl live fits (.inl rfl), cellarReadDone_decodes used rfl live fits (.inr rfl), fun entry max => ⟨?_, ?_⟩,
      ?_, ?_⟩
    · rintro reloc rfl
      exact cellarReadDone_retry used rfl live fits entry max rfl ((if_pos reloc).trans (if_pos rfl))
    · intro below
      exact cellarReadDone_retry used rfl live fits entry max rfl (if_neg below.not_ge)
    · rintro rfl enabled rfl
      exact cellarReadDone_soft used rfl (heads rfl) live enabled
    · rintro rfl rfl whole
      exact cellarReadDone_rebuilt used rfl (heads rfl) whole (.inr ⟨rfl, rfl, rfl, rfl⟩)
  case isolated =>
    rintro isolated rfl fits whole
    exact cellarReadDone_rebuilt used rfl fits whole (.inl isolated)
  case lost =>
    rintro rfl
    exact cellarReadDone_lost used rfl
  case unread =>
    intro unread
    have ends := cellarReadDone_unread (bin := bin) (bits := bits) used rfl unread
    refine ⟨fun attached present => ?_, fun alone => ?_⟩
    · rwa [if_pos (by rw [attached, present]; rfl)] at ends
    · rwa [if_neg (by rw [alone, Bool.false_and]; decide)] at ends
  case moves =>
    intro wb fetch vault valid homed there noBottle key site turn coreFrom coreTo sorted
    obtain ⟨reloc, isoReloc⟩ := movedRack_turns s.dev cask rack read new
    exact ⟨_, garbageCollect_moves rfl wb fetch vault valid homed there noBottle key site turn coreFrom coreTo, movedRack_rack _ _ _ _ sorted,
      reloc, isoReloc, movedRack_now .., fun _ i within => movedRack_memByte _ _ _ _ _ within⟩
  case checkpoint => exact fun on => gives_of_run (exec_eraseCountCheckpoint s) rfl (if_pos on)
  case hubOff => exact fun off => gives_of_run (exec_eraseCountCheckpoint s) rfl (if_neg (by rw [off]; decide))
  case hung =>
    exact ⟨waitrdyTimeout_first live rfl first rfl (if_pos rfl),
      waitrdyTimeout_first live rfl first rfl ((if_neg Bool.false_ne_true).trans (if_pos rfl)),
      waitrdyTimeout_first live rfl first rfl ((if_neg Bool.false_ne_true).trans (if_neg Bool.false_ne_true)), waitrdyTimeout_allDead live rfl⟩

end Sys2Proof.Machine
end
